-- ==== Sys2Proof/Word.lean ====
section
/-!
DEFINITION. The word types of the model: a byte, a 32-bit register word (R11) and a 64-bit
quantity. Everything computed on them that a test could show wrong stands under Machine/.
-/

namespace Sys2Proof

/-- One byte of memory or of a frame. -/
abbrev Byte := BitVec 8

/-- A 32-bit register word (R11); also the bits of an IEEE 754 binary32 value. -/
abbrev Word := BitVec 32

/-- A 64-bit quantity: a Bavin stack entry (R310), a host identity, a nonce. -/
abbrev Quad := BitVec 64

/-- The bytes of a frame, a packet, a record or a page, first byte first. -/
abbrev Bytes := List Byte

end Sys2Proof
end

