-- ==== Sys2Proof/Syntax.lean ====
section
/-!
DEFINITION. The commands of the block: one constructor per row of the spec's table of operations and
events, with what arrives from outside as its operands. A value that the spec measures (a voltage, a
time that has passed, a frame) is an operand; what the block holds itself is in its state.
-/

namespace Sys2Proof

/-- A slot of a Tether line: heartbeat, relayed heartbeat (R57, R87) or alarm pair (R59). -/
inductive SlotKind where
  | hb | rhb | alarm
deriving DecidableEq, Repr

/-- Who makes a register or memory access: their rights differ (R12, R34, R376, R471). -/
inductive Requester where
  | host | bavin | firmware
deriving DecidableEq, Repr

/-- One PTP grandmaster as announced on a port (R419). -/
structure Announce where
  gmId : Nat
  priority1 : Nat
  clockClass : Nat
  accuracy : Nat
  variance : Nat
  priority2 : Nat
  steps : Nat
  utcOffset : Nat
  utcValid : Bool
  traceable : Bool
deriving DecidableEq, Repr

/-- A command packet as it arrived (Table 11.1): the transport it came on, the remote address and port,
the header fields a host sets, and the parameters. -/
structure CmdPacket where
  uart : Bool
  ipv6 : Bool
  peer : Nat
  port : Nat
  version : Nat
  flags : Nat
  tag : Nat
  hseq : Nat
  aseq : Nat
  opcode : Nat
  params : Bytes
deriving DecidableEq, Repr

/-- A symbol of a program's symbol table (Table 10.3), with its initial and safe values. -/
structure Symbol where
  identity : Word
  ty : Nat
  cls : Nat
  owner : Nat
  elements : Nat := 1
  bind : Nat := 0
  bindUnit : Nat := 0
  bindOffset : Nat := 0
  init : List Quad := []
  safe : List Quad := []
deriving DecidableEq, Repr

/-- A task of a program's task table (R319, R320, R321, R335). -/
structure TaskDef where
  event : Bool
  priority : Nat
  pin : Nat := 0
  /-- cyclic: period in 250 µs units and DEADLINE_MULT; event: source and DEADLINE_US. -/
  period : Nat := 0
  deadlineMult : Nat := 1
  source : Nat := 0
  deadlineUs : Nat := 0
  /-- cost estimate of one cycle, ns, by which the controller places the task. -/
  cost : Nat := 0
  errorTask : Option Nat := none
  /-- the function that is the task's body. -/
  body : Nat := 0
  /-- symbols the task reads (R326). -/
  reads : List Nat := []
deriving DecidableEq, Repr

/-- One Ballast range of a station's inputs (R334). -/
structure Ballast where
  offset : Nat
  length : Nat
  mode : Nat
  value : Bytes := []
deriving DecidableEq, Repr

/-- A station of a program's station table (R332 to R336). Carrier 0 to 3 is CAN0 to CAN3, 4 is
Ethernet; address is the CAN identifier of the output frame or the UDP peer. -/
structure StationDef where
  identity : Nat
  carrier : Nat
  address : Nat
  extended : Bool := false
  classical : Bool := false
  exchMs : Nat
  replyMs : Nat
  missLimit : Nat := 2
  owner : Nat
  inLen : Nat
  outLen : Nat
  ballast : List Ballast := []
deriving DecidableEq, Repr

/-- A function of the function table: its code offset and length, the types of its arguments and results
and of its local slots. -/
structure FuncDef where
  entry : Nat
  length : Nat := 0
  args : List Nat := []
  results : List Nat := []
  locals : List Nat := []
deriving DecidableEq, Repr

/-- A verified program image (R309, R317) as its header and tables give it. -/
structure Program where
  progId : Word
  codeFormat : Nat := 2
  symbols : List Symbol
  code : Bytes := []
  tablesLen : Nat := 0
  tasks : List (Nat × TaskDef)
  stations : List (Nat × StationDef) := []
  functions : List FuncDef := []
  retainBytes : Nat := 0
  persistBytes : Nat := 0
  dataBytes : Nat := 0
  majorFrame : Nat := 1
  /-- XIN words the program uses and their safe values (R323). -/
  xinSafe : List (Nat × Word) := []
deriving DecidableEq, Repr

/-- One constructor per row of the table, with the row's own words; what each operand carries stands at the command's
meaning, exec and the constructor's name. -/
inductive Instr where
  /-- VIN_VALID (R486): VIN has held at or above 10.5 V for 10 ms with NRST released, and the controller leaves Off and enters Boot. -/
  | vinValid
  /-- VIN_LOW (R486): VIN falls through VIN_LOW: PWR_VIN_LOW strobes, and Insole writes are finished or abandoned and then suspended. -/
  | vinLow (vinMv : Nat) (pagesLeft : Nat)
  /-- VIN_RESTORED (R486): VIN has held at or above 10.3 V for 1 ms after VIN_LOW: PWR_VIN_RESTORED strobes and journal and recorder writes are triggered. -/
  | vinRestored (lowestMv : Nat)
  /-- VIN_UV (R490): VIN falls through VIN_UV: the Sole turns every output switch off, asserts the kill wires and reset, powers down the rails, and the controller is Off. -/
  | vinUv
  /-- VSUP_FALL (R488): VSUP falls below VIN − 20 mV and HOLD_GATE turns the isolation MOSFET off within 2 µs. -/
  | vsupFall
  /-- VSUP_RISE (R488): VSUP exceeds VIN + 20 mV and HOLD_GATE turns the isolation MOSFET on. -/
  | vsupRise
  /-- HOLDUP_TEST (R489): A write to PWR.CTRL.HOLDUP_TEST starts the hold-up self-test: the gate is turned off and the fall of VIN is timed. -/
  | holdupTest (iinMa : Nat)
  /-- HOLDUP_TEST_TIMER (R489): 24 h of operating seconds since the last test have passed, and the hold-up self-test starts. -/
  | holdupTestTimer (iinMa : Nat)
  /-- HOLDUP_TEST_END (R489): VIN has fallen 200 mV or 20 ms have passed: the gate turns back on, the capacitance is computed and the result is recorded. -/
  | holdupTestEnd (fallNs : Option Nat) (vsupMoved : Bool)
  /-- NRST_ASSERTED (R274): NRST is held low for the supervisor's decision time: the Vamp is held in reset through KW_RESET and the low-side outputs keep their state. -/
  | nrstAsserted (lowNs : Nat)
  /-- NRST_RELEASED (R492): NRST is released after holding the Vamp in reset, and Boot begins with reset cause 1. -/
  | nrstReleased
  /-- RESET_HELD_TIMEOUT (R274): NRST has been held for 2 s: channel 2 latches RESET_HELD, writes the always-on log and strobes SOLE_RESET_HELD. -/
  | resetHeldTimeout
  /-- SYS_RESTART (R493): A write to SYS.RESTART restarts the Vamp with cause 3 when it carries the key and all pairs read open, and otherwise sets RESTART_REFUSED. -/
  | sysRestart (value : Word)
  /-- REFCLK_LOSS (R494): The AON monitor sees no REFCLK edge for 1 µs: CLK_REFCLK_LOSS strobes and the Vamp domains stop. -/
  | refclkLoss
  /-- REFCLK_RESTORED (R494): REFCLK has been present for 10 ms while liveness is lost, and the Sole restarts the Vamp with cause 5. -/
  | refclkRestored
  /-- PLL_UNLOCK (R494): A PLL loses lock while REFCLK is present: CLK_PLL_UNLOCK strobes and firmware restarts the Vamp with cause 2. -/
  | pllUnlock (pll : Nat)
  /-- AON_CRYSTAL_FAIL (R495): The AON crystal has stopped for 1 ms: the AON domain switches to the trimmed RC, AON_RC is set and CLK_AON_FAULT strobes. -/
  | aonCrystalFail
  /-- AON_CRYSTAL_RESTORED (R495): The crystal has oscillated stably for 1 s: the AON domain returns to it and CLK_AON_FAULT strobes. -/
  | aonCrystalRestored
  /-- JUNCTION_HOT (R504): A junction passes 105 °C, and HOT_NOW and HOT are set. -/
  | junctionHot (vampTj soleTj packageTj : Int)
  /-- JUNCTION_SHUTDOWN (R504): A junction reaches 125 °C: the Sole turns every output switch off and holds the Vamp in reset. -/
  | junctionShutdown
  /-- JUNCTION_COOLED (R504): Both junctions fall below 100 °C after a thermal shutdown, and the Sole starts Boot with cause 4. -/
  | junctionCooled
  /-- OPERATING_SECOND (R451): The AON domain advances its operating-seconds count while VIN is in its operating range. -/
  | operatingSecond (vinMv vsupMv iinMa power : Nat) (vampTj soleTj packageTj : Int)
  /-- BOOT_COMPLETE (R496): Start-up completes: the controller enters Run, Standby or Boot held by failure, strobes SYS_BOOT_DONE and fixes the first task epoch. -/
  | bootComplete (failedUnits : List Nat) (badBanks : Nat) (bootMs : Nat)
  /-- REGISTER_WRITE (R13): A register without behaviour of its own is written and acts according to its access code, including W1C flags, W1S bits and occurrence counters. -/
  | registerWrite (who : Requester) (addr : Word) (size : Nat) (value sets : Word)
  /-- VS_FLIT_RECEIVE (R21): A VS link flit arrives: it is checked, and a bad flit is discarded and requested again, or, for an ADC flit, replaced by the previous sample. -/
  | vsFlitReceive (toSole : Bool) (cls : Nat) (seq : Nat) (parityOk : Bool)
  /-- VS_CLOCK_ABSENT (R22): The returned VS link clock has been absent for 1 µs, and the link is declared down and retrained. -/
  | vsClockAbsent
  /-- VS_LINK_RETRAINED (R212): The VS link comes up again: HOLD_LINK clears and the power-role slots wait for a START. -/
  | vsLinkRetrained
  /-- VI_TRANSFER (R24): A VI link transfer completes or fails; after a fourth failed transmission the Insole operation ends with an error and MEM_LINK_ERROR strobes. -/
  | viTransfer (ok : Bool) (addr : Word) (program : Bool) (badSector : Option Nat)
  /-- INSOLE_ECC_ERROR (R19): An Insole read meets an uncorrectable word, receives an error response and raises MEM_INSOLE_ECC. -/
  | insoleEccError (who : Requester) (addr : Word) (corrected : Bool)
  /-- EVENT_STROBE (R39): An event source strobes: the pending flag, counter and detail are set, the event is delivered to the service core and bound tasks if enabled, and queued if selected. -/
  | eventStrobe (src : Nat) (detail : Nat)
  /-- EVT_QUEUE_TAIL_WRITE (R45): A write to EVT.QUEUE_TAIL frees records before it, or sets TAIL to HEAD when the value is out of range. -/
  | evtQueueTailWrite (value : Word)
  /-- EVT_COUNT_CLEAR (R46): A write to EVT.COUNT_CLEARk clears the selected counters, counting any strobe in the same cycle after the clear. -/
  | evtCountClear (k : Nat) (bits : Word) (strobes : List (Nat × Nat))
  /-- HEARTBEAT_SLOT_SEND (R54): The 8 µs heartbeat timer expires and a heartbeat slot is inserted on both Tether transmit pairs. -/
  | heartbeatSlotSend
  /-- SLOT_RECEIVE (R57): A heartbeat, relay or alarm slot arrives on a Tether receive pair; it restarts the loss timer and ends a heartbeat-lost declaration after three in a row. -/
  | slotReceive (port : Nat) (kind : SlotKind)
  /-- BREAK_LOCATE_DONE (R87): The rollcalls that locate a break have been answered: LAST_FROM_A and FIRST_FROM_B are set, and routing changes with TTH_REROUTE. -/
  | breakLocateDone
  /-- ALARM_PAIR_RECEIVE (R59): An alarm pair arrives on a receive pair, and a tone is confirmed at the second pair within 12 µs. -/
  | alarmPairReceive (port : Nat)
  /-- TONE_CLEAR_TIMEOUT (R61): 100 ms have passed without an alarm pair after an acknowledged tone, and the channels clear TONE. -/
  | toneClearTimeout
  /-- HB_LOST_TIMEOUT (R57): No slot has arrived on a port's receive pair for 24 µs: HB_LOST is set and TTH_PORTx_HB_LOST strobes. -/
  | hbLostTimeout (port : Nat)
  /-- SOLE_HB_LOST_TIMEOUT (R58): The Sole tap sees no slot on a receive pair for 24 µs; with both pairs lost it declares chain loss and channel 2 demands CHAIN_LOSS. -/
  | soleHbLostTimeout (port : Nat)
  /-- TETHER_FRAME_RECEIVE (R53): A Tether frame arrives at a port: it is discarded if malformed, used for loop measurement if it is a command, or accepted as a reply. -/
  | tetherFrameReceive (port : Nat) (groups : List (Option Nat)) (rts : List Nat)
  /-- TETHER_REPLY_TIMEOUT (R69): A node's reply timeout expires, and the command is retried under the attempt limits, through the other port last. -/
  | tetherReplyTimeout (node : Nat)
  /-- NODE_UNREACHABLE_TIMEOUT (R88): No reply from a node in use has arrived for 3 ms: the node is unreachable and channel 1 demands the chain loss function. -/
  | nodeUnreachableTimeout (node : Nat)
  /-- REACHABILITY_ROLLCALL (R88): While the sweep period exceeds 1 ms, a 1 ms timer runs DIAG ROLLCALL from both ports. -/
  | reachabilityRollcall
  /-- RING_HEALED (R89): Both ports have received only HB slots for 1 s, and the controller re-enumerates in the heal form and recalibrates. -/
  | ringHealed
  /-- TTH_ENUM_REQ (R81): A write to TTH.CTRL.ENUM_REQ starts a full enumeration of the chain. -/
  | tthEnumReq
  /-- ENUMERATION_DONE (R81): Enumeration ends: nodes are addressed, negotiated or parked, and TTH_ENUM_DONE strobes. -/
  | enumerationDone
  /-- TTH_RECAL_REQ (R83): A write to TTH.CTRL.RECAL_REQ starts a hop-delay calibration between sweeps. -/
  | tthRecalReq
  /-- CALIBRATION_TIMER (R83): The 60 s calibration timer expires and a routine hop-delay calibration starts. -/
  | calibrationTimer
  /-- CALIBRATION_DONE (R83): Every round trip has been measured: compensations and D are computed and applied at the next sweep boundary. -/
  | calibrationDone
  /-- NODE_THRESHOLD_READBACK (R263): The 60 s timer expires: channel 1 reads back every node's thresholds and latches NODE_THRESHOLD on a mismatch. -/
  | nodeThresholdReadback
  /-- WIRE_TEST_START (R90): A wire-suspect marking or the routine interval starts OPEN_WIRE_TEST on a node, phases 0, 1 and 2. -/
  | wireTestStart (node : Nat)
  /-- OPEN_WIRE_TEST_DONE (R91): The last test phase replies: open lines are recorded, and marks are confirmed or left to clear. -/
  | openWireTestDone
  /-- WIRE_MARK_CLEAR_TIMEOUT (R91): A wire-suspect mark whose line tested closed has had its finding absent for 60 s, and it clears. -/
  | wireMarkClearTimeout (node input line cause : Nat)
  /-- SWEEP_INSTANT_FIX (R96): The scheduler fixes the next sample instant in a quiet window of the search interval and computes F. -/
  | sweepInstantFix
  /-- SAMPLE_AT_LAUNCH (R100): Both ports launch SAMPLE_AT at the chosen grid edge and then the READ_SAMPLES trains. -/
  | sampleAtLaunch
  /-- SAMPLE_INSTANT (R102): The sample instant passes and the filtered string current is interpolated to it. -/
  | sampleInstant
  /-- RECORD_DEADLINE (R103): The effective record deadline expires, and the open record closes with missing nodes marked. -/
  | recordDeadline
  /-- FAST_LAYER_COMPLETE (R176): The fast layer completes for a record: string limits are formed, the cell result table, limit table and estimator words are written, and the recorder is updated. -/
  | fastLayerComplete (fastUs : List Nat)
  /-- HORIZON_LAYER_COMPLETE (R173): The horizon layer finishes its forward simulations and updates the cell's charge and discharge limits at four horizons. -/
  | horizonLayerComplete (cell : Nat)
  /-- CURRENT_WINDOW_1MS (R112): A 1 ms window of current ends, and its mean is compared with the low-current threshold for rate reduction and rest anchors. -/
  | currentWindow1ms
  /-- RATE_STEP_DOWN (R112): 5 s below the threshold have passed, and the sweep rate steps down one step and the grid re-bases. -/
  | rateStepDown
  /-- CURRENT_WINDOW_100US (R113): At reduced rate a 100 µs current window ends, and a mean at or above the threshold returns the rate to step 0. -/
  | currentWindow100us
  /-- BURST_SCHEDULE_TIMER (R118): BURST_H_INTERVAL_S expires and a band H burst is requested. -/
  | burstScheduleTimer
  /-- BURST_SEQ_TIMER (R118): SEQ_INTERVAL_H expires and a full H, M and L sequence is requested. -/
  | burstSeqTimer
  /-- SWP_BURST_REQ (R118): A write to SWP.CTRL.BURST_REQ requests a band H burst. -/
  | swpBurstReq
  /-- SWP_SEQ_REQ (R118): A write to SWP.CTRL.SEQ_REQ requests a full sequence. -/
  | swpSeqReq
  /-- SWP_BURST_ABORT (R121): A write to SWP.CTRL.ABORT aborts the running burst, removing the perturbation and discarding the data. -/
  | swpBurstAbort
  /-- BURST_START (R119): The start conditions of a requested burst hold: a BURST_ID is assigned and the perturbation starts its lead-in. -/
  | burstStart
  /-- BURST_DEFER_TIMEOUT (R119): The conditions of a deferred burst still fail 60 s after the request, and the burst is refused. -/
  | burstDeferTimeout
  /-- BURST_CAPTURE_LAUNCH (R120): The lead-in has lasted a record length, and p0 is placed and BURST_CAPTURE is launched. -/
  | burstCaptureLaunch
  /-- BURST_CAPTURE_END (R120): Point 4095 passes: the perturbation ends, the 1 ms grid continues and readout is scheduled. -/
  | burstCaptureEnd
  /-- BURST_READOUT_DONE (R123): READ_BURST has read every input of every complete version 3 node, and the capture area is complete. -/
  | burstReadoutDone
  /-- BURST_BINS_DONE (R124): The array has computed the impedance bins of the band, rewritten the impedance table and SWP_BURST_DONE strobes. -/
  | burstBinsDone
  /-- EU_LOCAL_PARITY_ERROR (R383): A parity error in an EU's local SRAM marks the unit suspect and its contexts are rebuilt elsewhere. -/
  | euLocalParityError (unit : Nat)
  /-- CLUSTER_SCRATCH_PARITY_ERROR (R135): A scratch parity error refills the block; a second within 1 s marks the cluster suspect. -/
  | clusterScratchParityError (region cluster : Nat)
  /-- SFU_CHECK_FAIL (R26): A special-function unit's self-check fails and the whole cluster is marked suspect. -/
  | sfuCheckFail (region cluster : Nat)
  /-- REGION_FAULT (R26): An ingest-port or scheduler fault marks the region suspect and all its contexts move. -/
  | regionFault (region : Nat)
  /-- MICROCODE_CHECK (R131): The 10 s timer expires and the sequencer recomputes its microcode CRC; a mismatch marks the unit suspect. -/
  | microcodeCheck (unit : Nat) (ok : Bool)
  /-- PLACEMENT_PLAN (R149): The placement engine completes a new plan after a trigger, seeking room in step order and lowering fidelity if needed. -/
  | placementPlan
  /-- CONTEXT_REBUILD_DONE (R146): A rebuild's replay completes: the context joins the live sweeps and later its full and horizon layers, and REBUILDING clears. -/
  | contextRebuildDone (cell : Nat)
  /-- CHECKPOINT_TIMER (R144): A context's staggered 1 s checkpoint falls due, and it is copied through staging into its checkpoint. -/
  | checkpointTimer (cell : Nat)
  /-- CRITICALITY_SCORE (R142): The 1 s timer expires: every monitored cell is scored and a level exchange is made where R143 requires. -/
  | criticalityScore
  /-- LOAD_WINDOW (R152): A 10 s load window ends, and an overloaded EU is relieved by a live move or by lowering a context. -/
  | loadWindow (units : List Nat)
  /-- FIDELITY_RAISE (R153): The 1 s raise timer expires, and the highest-scoring lowered cell that fits is raised one level. -/
  | fidelityRaise
  /-- REPORT_REFRESH (R154): The 1 s timer expires and the placement map and fidelity ledger are rewritten and MAP_SEQ advances. -/
  | reportRefresh (loads : List Nat)
  /-- EST_READ_CONTEXT (R155): EST command 0x01 copies a cell's context slot to the transfer area. -/
  | estReadContext
  /-- EST_READ_LOCAL (R155): EST command 0x02 copies bytes of a unit's local SRAM to the transfer area at a sweep boundary. -/
  | estReadLocal
  /-- EST_REPLAN (R155): EST command 0x03 places all monitored cells afresh and applies the plan by live moves. -/
  | estReplan
  /-- EST_CHECKPOINT_NOW (R155): EST command 0x04 checkpoints every hosted context within 1 s. -/
  | estCheckpointNow
  /-- EST_SPARE_SELFTEST (R155): EST command 0x05 self-tests an idle spare, which becomes suspect if it fails. -/
  | estSpareSelftest
  /-- EST_COMMAND_DONE (R155): A running EST command completes, and DONE or ERROR is set in EST.CMD_STAT. -/
  | estCommandDone (ok : Bool)
  /-- REST_ANCHOR (R171): The current has stayed below the threshold for REST_MIN: every hosted cell makes an anchor update and a journal write is triggered. -/
  | restAnchor
  /-- NO_ANCHOR_TIMEOUT (R172): 24 h of operation pass without a rest anchor: EST_NO_ANCHOR strobes, limits widen and a rest window is requested. -/
  | noAnchorTimeout
  /-- BALANCE_COMPUTE (R178): The 10 s timer expires: duties are computed for every cell and BALANCE_SET is sent to every active node. -/
  | balanceCompute
  /-- JOURNAL_PERIODIC_TIMER (R182): 15 minutes (30 in wear low) have passed since the last commit, and a journal write is triggered. -/
  | journalPeriodicTimer
  /-- FULL_CHARGE_END (R182): Low current after charging near V_OP_MAX has held for 60 s, and a journal write is triggered. -/
  | fullChargeEnd
  /-- JOURNAL_WRITE_DONE (R183): A journal record has been programmed and read back; on commit the other slot's erase starts and EST_JOURNAL strobes. -/
  | journalWriteDone (ok : Bool)
  /-- JOURNAL_ERASE_DONE (R183): The erase of the other journal slot ends, and any held trigger starts one further write. -/
  | journalEraseDone
  /-- PERSIST_WRITE_DONE (R343): A PERSIST record has been programmed into the older persistence slot of the active bank. -/
  | persistWriteDone
  /-- ADC_CONVERSION_RECEIVE (R189): A set of ADC conversions reaches the CTRL domain, is trimmed and counted for saturation or loss. -/
  | adcConversionReceive (codes : List Int) (lost : Nat)
  /-- SLOT_TRIGGER_EVENT (R196): A slot's trigger source fires, and the slot's delay starts after the event divider. -/
  | slotTriggerEvent (n : Nat)
  /-- SLOT_EVALUATE (R193): A slot's trigger delay ends: the reference is formed and the compensator evaluates, with overflow recording and Awl injection. -/
  | slotEvaluate (n : Nat)
  /-- CTL_START (R205): A write to CTL.START soft-starts a power slot, or starts a thermal slot, or refuses the start. -/
  | ctlStart (bits : Word)
  /-- CTL_HALT (R207): A write to CTL.HALT halts a slot within 2 CTRL cycles and drives its channels low. -/
  | ctlHalt (bits : Word)
  /-- CTL_APPLY (R195): A write to CTL.APPLY makes a slot's shadow coefficients take effect together. -/
  | ctlApply (bits : Word)
  /-- CTL_COMMIT (R223): A write to CTL.COMMIT ends writes to the RWL trims until the next start. -/
  | ctlCommit (value : Word)
  /-- AWL_START (R219): A write to CTL.AWL_CTRL.START starts a tuning run or refuses it. -/
  | awlStart
  /-- AWL_ABORT (R221): A write to CTL.AWL_CTRL.ABORT ends the tuning run, with the injection removed at the next evaluation. -/
  | awlAbort
  /-- PWM_PERIOD_START (R202): A timebase reaches its period start: new periods and compare values load, edges are logged and PWM_PERIOD may strobe. -/
  | pwmPeriodStart (tb : Nat)
  /-- PWM_PERIOD_MID (R202): A channel reaches its period middle, and compare values load when UPDATE is 1. -/
  | pwmPeriodMid (n : Nat)
  /-- TRIP_PIN (R213): TRIP_N is low for 3 ns: PWM0 to PWM15 go low, the trip latches, power slots halt and PWM_TRIP_PIN strobes. -/
  | tripPin
  /-- COMPARATOR_TRIP (R214): An armed Sole comparator's input reaches a threshold: PWM pins go low through KW_CMP, and for CMP_FAST the FAST_OC demand latches. -/
  | comparatorTrip (c : Nat) (upper : Bool)
  /-- PWM_TRIP_CLEAR (R215): A write to PWM.TRIP_CLEAR releases a trip latch whose source has been inactive for 1 µs. -/
  | pwmTripClear (value : Word) (pinQuiet : Bool) (compQuiet : Bool)
  /-- PCS_REQUEST_RECEIVE (R233): A PCS request frame arrives: it is validated, timestamped, and answered from a snapshot of the limit table. -/
  | pcsRequestReceive (groups : List (Option Nat))
  /-- PCS_RX_ALIGN (R227): The PCS receiver aligns to commas over three IDLE symbols and declares LINK_UP. -/
  | pcsRxAlign
  /-- PCS_RX_LINK_DOWN (R227): Signal is lost or no comma arrives for 10 µs, and the PCS receiver declares the link down. -/
  | pcsRxLinkDown
  /-- PCS_LT_COMMIT (R236): A write to PCS.LT_COMMIT makes the shadow limit table take effect and resets LIMIT_AGE. -/
  | pcsLtCommit (value : Word) (who : Requester)
  /-- LIMIT_STALE (R237): LIMIT_AGE reaches 250 ms, and answers carry zero currents with LIMITS_STALE. -/
  | limitStale
  /-- PCS_REQUEST_MISSED_TIMEOUT (R244): No valid request arrives 1.5 cycles, or each further cycle, after the last, and PCS_REQUEST_MISSED strobes. -/
  | pcsRequestMissedTimeout
  /-- PCS_LINK_LOSS_TIMEOUT (R245): No request has been answered for LOSS_MS: link loss is declared and, with a main pair closed, Drogue starts. -/
  | pcsLinkLossTimeout
  /-- PCS_CURRENT_COMPARE (R246): A 100 ms window ends and the controller's current mean is compared with MEASURED_I. -/
  | pcsCurrentCompare
  /-- PCS_DISPATCH_APPLY (R247): A write to PCS.DISP_CTRL.APPLY applies caps, setpoint and lease together, or refuses them. -/
  | pcsDispatchApply
  /-- DISPATCH_LEASE_EXPIRY (R248): A dispatch lease expires, the setpoint is withdrawn and the caps follow DISP_EXPIRY. -/
  | dispatchLeaseExpiry
  /-- PCS_PERT_ENABLE (R242): A write to PCS.PERT_CTRL.ENABLE starts or stops the perturbation streamed in answers. -/
  | pcsPertEnable (value : Word) (who : Requester)
  /-- SAFETY_CORE_CYCLE (R252): A 250 µs channel 1 program cycle runs: it toggles LIVE, adopts and checks causes, checks sweeps and Welt PDUs, drives the low-side switches and sends a cross-check record. -/
  | safetyCoreCycle (readback : Nat)
  /-- CH2_SCAN (R267): A 10 µs channel 2 scan samples the safety inputs, evaluates its functions and drives the high-side switches. -/
  | ch2Scan (readback : Nat) (beyond : Nat)
  /-- CH2_CROSS_CHECK_SEND (R252): Every 250 µs of SAFE time channel 2 sends its cross-check record over the VS link. -/
  | ch2CrossCheckSend
  /-- CROSS_CHECK_RECEIVE (R252): A cross-check record of the other channel arrives, carrying causes, permissive, means and parameter CRC. -/
  | crossCheckReceive (channel : Nat)
  /-- CHANNEL_DISAGREE_TIMEOUT (R252): A cause latched by one channel has not been latched by the other within 4 ms, and both latch CHANNEL_DISAGREE. -/
  | channelDisagreeTimeout
  /-- CH2_SILENT_TIMEOUT (R253): Channel 1 has received no cross-check record for 1 ms, and it latches CH2_SILENT. -/
  | ch2SilentTimeout
  /-- LIVE_EDGE_RECEIVE (R265): Channel 2 receives a LIVE edge and checks its interval; an early edge is a loss of liveness. -/
  | liveEdgeReceive (intervalUs : Nat)
  /-- LIVE_TIMEOUT (R265): No LIVE edge, no cross-check record, or a downed VS link for 1 ms: channel 2 latches VAMP_LIVENESS and starts Drogue alone. -/
  | liveTimeout (cause : Nat)
  /-- DROGUE_TIMER_EXPIRY (R272): A channel's Drogue timer expires and it opens the outputs, and the controller enters Safe. -/
  | drogueTimerExpiry (channel : Nat)
  /-- SAFETY_CURRENT_MEAN_1MS (R260): A 1 ms window of both sensors ends: the measured current is formed and used for slow overcurrent, shunt opening and Drogue end by current. -/
  | safetyCurrentMean1ms (channel : Nat)
  /-- SAFETY_CURRENT_MEAN_100MS (R260): A 100 ms window ends and the sensor means are compared, latching CURRENT_DISAGREE when they differ too much. -/
  | safetyCurrentMean100ms (channel : Nat)
  /-- SLOW_OVERCURRENT (R261): 1 ms means at or above the slow limit have lasted T_SLOW, and SLOW_OC is demanded. -/
  | slowOvercurrent (channel : Nat)
  /-- SHUNT_WAIT_TIMEOUT (R259): SHUNT_WAIT_MS passes after firing, and each channel opens pairs 1, 2 and 4 and asserts its kill wire. -/
  | shuntWaitTimeout (channel : Nat)
  /-- READBACK_MISMATCH_TIMEOUT (R255): A read-back mismatch lasts 1 ms, and WELD, SWITCH_FAULT or a close refusal follows. -/
  | readbackMismatchTimeout (channel : Nat) (pair : Nat)
  /-- TEST_PULSE_START (R256): A switch's test-pulse slot falls due and the switch is pulsed, or the test is skipped and a retry is scheduled. -/
  | testPulseStart (switch : Nat)
  /-- TEST_PULSE_END (R256): A test pulse and its recovery end and the read-back is judged; a failure latches SWITCH_FAULT. -/
  | testPulseEnd (during after : Nat)
  /-- TEST_PULSE_RETRY (R256): 100 ms after a skipped test, the test of that switch is tried again. -/
  | testPulseRetry (switch : Nat)
  /-- MIRROR_FEEDBACK_TIMEOUT (R257): FB_TIME_MS passes after a command change without the mirror contact agreeing, and a fault or WELD latches. -/
  | mirrorFeedbackTimeout (channel : Nat) (pair : Nat)
  /-- UNMEASURED_TIMEOUT (R262): A cell has had no checkable sample for UNMEAS_MS, and channel 1 latches UNMEASURED. -/
  | unmeasuredTimeout (cell : Nat)
  /-- SAFETY_INPUT_LEVEL_CHANGE (R267): A safety input line has held a new level for F + 1 scans, and its filtered level changes. -/
  | safetyInputLevelChange (channel : Nat) (input : Nat) (line : Nat) (high : Bool)
  /-- DISCREPANCY_FAULT (R268): The lines of an input have disagreed for DISC_TICKS + 1 scans, and a discrepancy fault latches. -/
  | discrepancyFault (channel : Nat) (input : Nat) (scans : Nat)
  /-- ACK_INPUT_PULSE (R270): An ACK input pulse of valid length closes and acknowledges, and is passed to the other channel. -/
  | ackInputPulse (channel : Nat) (input : Nat) (scans : Nat)
  /-- SAF_ACK_WRITE (R270): A write of the key to SAF.ACK acknowledges, clearing every cause whose condition has been absent for 100 ms. -/
  | safAckWrite (value : Word)
  /-- SAF_OUT_REQ_CLOSE (R258): A write to SAF.OUT_REQ.CLOSE requests pairs closed or open, forwarded to both channels. -/
  | safOutReqClose (value : Word)
  /-- SAF_OUT_REQ_FIRE (R259): A write of FIRE to SAF.OUT_REQ is a hazard demand that fires the shunt trip. -/
  | safOutReqFire
  /-- PARAM_CRC_CHECK (R280): Every 10 s each channel recomputes its parameter CRC and compares; a mismatch latches PARAM_MISMATCH. -/
  | paramCrcCheck (channel : Nat) (crc : Word)
  /-- WELT_PDU_RECEIVE (R304): A Welt PDU arrives on a carrier and is checked in hardware and held for channel 1. -/
  | weltPduReceive (carrier : Nat) (peer : Nat) (payload : Bytes) (fd : Bool)
  /-- WELT_ARM_SEND (R290): A consumer in arming sends ARM every 100 ms. -/
  | weltArmSend (c : Nat)
  /-- WELT_ARM_ACK_RECEIVE (R290): A consumer receives an ARM_ACK and enters running or fails with arming refused. -/
  | weltArmAckReceive (c : Nat) (pdu : Bytes)
  /-- WELT_ARM_RECEIVE (R291): A producer receives an ARM and answers with an ARM_ACK, entering running when it agrees. -/
  | weltArmReceive (c : Nat) (pdu : Bytes)
  /-- WELT_DATA_SEND (R300): A producer's PERIOD expires and it sends a DATA PDU with its status image and the next SEQ. -/
  | weltDataSend (c : Nat)
  /-- WELT_WATCHDOG_TIMEOUT (R301): A consumer's watchdog reaches W and the connection fails, latching WELT by its loss class. -/
  | weltWatchdogTimeout (c : Nat)
  /-- WLT_REARM (R293): A write to WLT.REARM re-arms a failed connection. -/
  | wltRearm (bits : Word)
  /-- WELT_AUTO_REARM (R293): 1 s after a failure, a connection with REARM_AUTO re-arms. -/
  | weltAutoRearm (c : Nat)
  /-- WELT_CONDITION_CLEAR (R293): A re-armed connection has run 100 ms without interruption, and the condition of its latched cause becomes absent. -/
  | weltConditionClear (c : Nat)
  /-- TASK_RELEASE_CYCLIC (R320): A cyclic task's release time arrives, starting its deadline timer, or a skip is counted as an overrun. -/
  | taskReleaseCyclic (k : Nat)
  /-- TASK_START (R326): A ready task gets its core and takes its snapshot, including forces and host writes, then runs. -/
  | taskStart (core : Nat)
  /-- TASK_DEADLINE_EXPIRY (R323): A task's deadline timer expires: all tasks stop, safe values are published, the fault latches and the controller enters Stop with TASK_DEADLINE. -/
  | taskDeadlineExpiry (k : Nat)
  /-- TASK_BALANCE (R321): Every 1 s the core loads are compared and an unpinned task may move to the other core. -/
  | taskBalance (used : List Nat)
  /-- PRG_RUN_REQ (R324): A write to PRG.CTRL.RUN_REQ enters Run with a new epoch, or is refused while the deadline fault is latched. -/
  | prgRunReq
  /-- PRG_STOP_REQ (R324): A write to PRG.CTRL.STOP_REQ stops all tasks and publishes safe values, entering Stop. -/
  | prgStopReq
  /-- PRG_CHANGE_REQ (R339): A write to PRG.CTRL.CHANGE_REQ checks the inactive program against the running one and prepares an on-line change. -/
  | prgChangeReq
  /-- PRG_CHANGE_ABORT (R342): A write to PRG.CTRL.CHANGE_ABORT ends a pending change with reason 7. -/
  | prgChangeAbort
  /-- ONLINE_CHANGE_SWITCH (R341): A common boundary with no task in a cycle arrives, and the prepared program takes over, or the change is deferred or refused. -/
  | onlineChangeSwitch
  /-- STATION_EXCHANGE_SEND (R332): A station's EXCH_MS timer expires and an output or PROBE frame is sent. -/
  | stationExchangeSend (u : Nat)
  /-- STATION_INPUT_RECEIVE (R333): A station's input frame arrives and a good exchange makes its inputs available, or counts toward re-entry. -/
  | stationInputReceive (u : Nat) (frame : Bytes)
  /-- STATION_REPLY_TIMEOUT (R333): REPLY_MS passes without a good reply; after MISS_LIMIT failures the station goes absent and its error task is released. -/
  | stationReplyTimeout (u : Nat)
  /-- NOP (R313): Bavin instruction that does nothing. -/
  | bavinNop (core : Nat)
  /-- DUP (R313): Bavin instruction that duplicates the top stack entry. -/
  | bavinDup (core : Nat)
  /-- DROP (R313): Bavin instruction that removes the top stack entry. -/
  | bavinDrop (core : Nat)
  /-- SWAP (R313): Bavin instruction that exchanges the top two entries. -/
  | bavinSwap (core : Nat)
  /-- OVER (R313): Bavin instruction that copies the second entry to the top. -/
  | bavinOver (core : Nat)
  /-- ROT (R313): Bavin instruction that rotates the top three entries. -/
  | bavinRot (core : Nat)
  /-- PICK (R313): Bavin instruction that copies stack entry n to the top. -/
  | bavinPick (core : Nat) (n : Nat)
  /-- LIT (R313): Bavin instruction that pushes a literal of a type. -/
  | bavinLit (core : Nat) (t : Nat) (v : Nat)
  /-- LOAD (R326): Bavin instruction that pushes a symbol's value from the snapshot or own writes. -/
  | bavinLoad (core : Nat) (t : Nat) (sym : Nat)
  /-- STORE (R313): Bavin instruction that writes a symbol owned by the task. -/
  | bavinStore (core : Nat) (t : Nat) (sym : Nat)
  /-- LOADX (R325): Bavin instruction that pushes an indexed element, pushing 0 with fault 2 when out of range. -/
  | bavinLoadx (core : Nat) (t : Nat) (sym : Nat)
  /-- STOREX (R325): Bavin instruction that writes an indexed element, writing nothing with fault 2 when out of range. -/
  | bavinStorex (core : Nat) (t : Nat) (sym : Nat)
  /-- ADD (R311): Bavin instruction that adds, wrapping on integers. -/
  | bavinAdd (core : Nat) (t : Nat)
  /-- SUB (R311): Bavin instruction that subtracts, wrapping on integers. -/
  | bavinSub (core : Nat) (t : Nat)
  /-- MUL (R311): Bavin instruction that multiplies, wrapping on integers. -/
  | bavinMul (core : Nat) (t : Nat)
  /-- DIV (R311): Bavin instruction that divides, giving 0 with fault 1 on a zero integer divisor. -/
  | bavinDiv (core : Nat) (t : Nat)
  /-- MOD (R311): Bavin instruction that takes the remainder with the dividend's sign. -/
  | bavinMod (core : Nat) (t : Nat)
  /-- NEG (R311): Bavin instruction that negates. -/
  | bavinNeg (core : Nat) (t : Nat)
  /-- ABS (R311): Bavin instruction that takes the absolute value. -/
  | bavinAbs (core : Nat) (t : Nat)
  /-- MIN (R313): Bavin instruction that pushes the lesser of two values. -/
  | bavinMin (core : Nat) (t : Nat)
  /-- MAX (R313): Bavin instruction that pushes the greater of two values. -/
  | bavinMax (core : Nat) (t : Nat)
  /-- EQ (R313): Bavin instruction that compares for equality. -/
  | bavinEq (core : Nat) (t : Nat)
  /-- NE (R313): Bavin instruction that compares for inequality. -/
  | bavinNe (core : Nat) (t : Nat)
  /-- LT (R313): Bavin instruction that compares less than. -/
  | bavinLt (core : Nat) (t : Nat)
  /-- LE (R313): Bavin instruction that compares less than or equal. -/
  | bavinLe (core : Nat) (t : Nat)
  /-- GT (R313): Bavin instruction that compares greater than. -/
  | bavinGt (core : Nat) (t : Nat)
  /-- GE (R313): Bavin instruction that compares greater than or equal. -/
  | bavinGe (core : Nat) (t : Nat)
  /-- AND (R311): Bavin instruction that takes the bitwise or logical AND. -/
  | bavinAnd (core : Nat) (t : Nat)
  /-- OR (R311): Bavin instruction that takes the bitwise or logical OR. -/
  | bavinOr (core : Nat) (t : Nat)
  /-- XOR (R311): Bavin instruction that takes the bitwise or logical XOR. -/
  | bavinXor (core : Nat) (t : Nat)
  /-- NOT (R311): Bavin instruction that takes the bitwise or logical NOT. -/
  | bavinNot (core : Nat) (t : Nat)
  /-- SHL (R311): Bavin instruction that shifts left. -/
  | bavinShl (core : Nat) (t : Nat)
  /-- SHR (R311): Bavin instruction that shifts right, arithmetically on signed types. -/
  | bavinShr (core : Nat) (t : Nat)
  /-- CONV (R312): Bavin instruction that converts between types with saturation and rounding. -/
  | bavinConv (core : Nat) (src dst : Nat)
  /-- JMP (R313): Bavin instruction that jumps by an offset. -/
  | bavinJmp (core : Nat) (offset : Int)
  /-- JMPT (R313): Bavin instruction that jumps when the popped BOOL is TRUE. -/
  | bavinJmpt (core : Nat) (offset : Int)
  /-- JMPF (R313): Bavin instruction that jumps when the popped BOOL is FALSE. -/
  | bavinJmpf (core : Nat) (offset : Int)
  /-- CALL (R313): Bavin instruction that calls a function. -/
  | bavinCall (core : Nat) (f : Nat)
  /-- RET (R313): Bavin instruction that returns from a function. -/
  | bavinRet (core : Nat)
  /-- END (R327): Bavin instruction that ends the task body and publishes every owned symbol and deferred effect as one unit. -/
  | bavinEnd (core : Nat)
  /-- SEL (R313): Bavin instruction that selects one of two values by a BOOL. -/
  | bavinSel (core : Nat) (t : Nat)
  /-- LIMIT (R313): Bavin instruction that clamps a value between two bounds. -/
  | bavinLimit (core : Nat) (t : Nat)
  /-- LDL (R313): Bavin instruction that pushes a local slot. -/
  | bavinLdl (core : Nat) (slot : Nat)
  /-- STL (R313): Bavin instruction that writes a local slot. -/
  | bavinStl (core : Nat) (slot : Nat)
  /-- SQRT (R311): Bavin instruction that takes a REAL32 square root. -/
  | bavinSqrt (core : Nat)
  /-- EXP (R311): Bavin instruction that takes a REAL32 exponential. -/
  | bavinExp (core : Nat)
  /-- LN (R311): Bavin instruction that takes a natural logarithm. -/
  | bavinLn (core : Nat)
  /-- LOG10 (R311): Bavin instruction that takes a decimal logarithm. -/
  | bavinLog10 (core : Nat)
  /-- SIN (R311): Bavin instruction that takes a sine. -/
  | bavinSin (core : Nat)
  /-- COS (R311): Bavin instruction that takes a cosine. -/
  | bavinCos (core : Nat)
  /-- TAN (R311): Bavin instruction that takes a tangent. -/
  | bavinTan (core : Nat)
  /-- ASIN (R311): Bavin instruction that takes an arc sine. -/
  | bavinAsin (core : Nat)
  /-- ACOS (R311): Bavin instruction that takes an arc cosine. -/
  | bavinAcos (core : Nat)
  /-- ATAN (R311): Bavin instruction that takes an arc tangent. -/
  | bavinAtan (core : Nat)
  /-- ATAN2 (R311): Bavin instruction that takes the two-argument arc tangent. -/
  | bavinAtan2 (core : Nat)
  /-- POW (R311): Bavin instruction that raises a REAL32 to a power. -/
  | bavinPow (core : Nat)
  /-- TRUNC (R313): Bavin instruction that truncates a REAL32 to INT32, saturating. -/
  | bavinTrunc (core : Nat)
  /-- ROUND (R313): Bavin instruction that rounds a REAL32 to INT32, ties away from zero. -/
  | bavinRound (core : Nat)
  /-- FLOOR (R313): Bavin instruction that rounds a REAL32 down to INT32. -/
  | bavinFloor (core : Nat)
  /-- CEIL (R313): Bavin instruction that rounds a REAL32 up to INT32. -/
  | bavinCeil (core : Nat)
  /-- ISNAN (R313): Bavin instruction that tests a REAL32 for NaN. -/
  | bavinIsnan (core : Nat)
  /-- FMA (R313): Bavin instruction that computes a fused multiply-add. -/
  | bavinFma (core : Nat)
  /-- ROL (R313): Bavin instruction that rotates bits left. -/
  | bavinRol (core : Nat) (t : Nat)
  /-- ROR (R313): Bavin instruction that rotates bits right. -/
  | bavinRor (core : Nat) (t : Nat)
  /-- GETBIT (R313): Bavin instruction that reads one bit. -/
  | bavinGetbit (core : Nat) (t : Nat)
  /-- SETBIT (R313): Bavin instruction that sets one bit. -/
  | bavinSetbit (core : Nat) (t : Nat)
  /-- CLRBIT (R313): Bavin instruction that clears one bit. -/
  | bavinClrbit (core : Nat) (t : Nat)
  /-- NOW (R313): Bavin instruction that pushes the MONO time now. -/
  | bavinNow (core : Nat)
  /-- NOWPLANT (R313): Bavin instruction that pushes PLANT time and its validity. -/
  | bavinNowplant (core : Nat)
  /-- CYCLESTART (R313): Bavin instruction that pushes the cycle's snapshot instant. -/
  | bavinCyclestart (core : Nat)
  /-- PERIOD (R313): Bavin instruction that pushes the task's period. -/
  | bavinPeriod (core : Nat)
  /-- TON (R313): Bavin instruction that runs an on-delay timer block. -/
  | bavinTon (core : Nat) (sym : Nat)
  /-- TOF (R313): Bavin instruction that runs an off-delay timer block. -/
  | bavinTof (core : Nat) (sym : Nat)
  /-- TP (R313): Bavin instruction that runs a pulse timer block. -/
  | bavinTp (core : Nat) (sym : Nat)
  /-- RTRIG (R313): Bavin instruction that runs a rising-edge detector block. -/
  | bavinRtrig (core : Nat) (sym : Nat)
  /-- FTRIG (R313): Bavin instruction that runs a falling-edge detector block. -/
  | bavinFtrig (core : Nat) (sym : Nat)
  /-- CTU (R313): Bavin instruction that runs an up-counter block. -/
  | bavinCtu (core : Nat) (sym : Nat)
  /-- CTD (R313): Bavin instruction that runs a down-counter block. -/
  | bavinCtd (core : Nat) (sym : Nat)
  /-- SR (R313): Bavin instruction that runs a set-dominant bistable. -/
  | bavinSr (core : Nat) (sym : Nat)
  /-- RS (R313): Bavin instruction that runs a reset-dominant bistable. -/
  | bavinRs (core : Nat) (sym : Nat)
  /-- COPY (R313): Bavin instruction that copies one array symbol into another. -/
  | bavinCopy (core : Nat) (src dst : Nat)
  /-- FILL (R313): Bavin instruction that fills every element of a symbol. -/
  | bavinFill (core : Nat) (sym : Nat)
  /-- LEN (R313): Bavin instruction that pushes a symbol's element count. -/
  | bavinLen (core : Nat) (sym : Nat)
  /-- STNOK (R334): Bavin instruction that pushes whether a station is present. -/
  | bavinStnok (core : Nat) (station : Nat)
  /-- STNSTATE (R332): Bavin instruction that pushes a station's state word. -/
  | bavinStnstate (core : Nat) (station : Nat)
  /-- STNENABLE (R336): Bavin instruction that enables or disables a station. -/
  | bavinStnenable (core : Nat) (station : Nat)
  /-- WVALID (R330): Bavin instruction that pushes whether a Welt consumer's data is valid. -/
  | bavinWvalid (core : Nat) (conn : Nat)
  /-- WPUB (R330): Bavin instruction that sets a symbol's bytes as producer bytes from 16 at publication. -/
  | bavinWpub (core : Nat) (conn sym : Nat)
  /-- RAISE (R315): Bavin instruction that strobes PRG_USERn at publication. -/
  | bavinRaise (core : Nat) (n : Nat)
  /-- TRIGGER (R315): Bavin instruction that releases an event task at publication. -/
  | bavinTrigger (core : Nat) (task : Nat)
  /-- RDREG (R316): Bavin instruction that reads a register at once, faulting with 0 on an error response. -/
  | bavinRdreg (core : Nat)
  /-- WRREG (R316): Bavin instruction that writes a register at once. -/
  | bavinWrreg (core : Nat)
  /-- ASSERT (R325): Bavin instruction that raises runtime fault 4 on FALSE. -/
  | bavinAssert (core : Nat) (code : Nat)
  /-- TRAP (R325): Bavin instruction that raises fault 5 and ends the cycle without publication. -/
  | bavinTrap (core : Nat) (code : Nat)
  /-- ISFORCED (R338): Bavin instruction that pushes whether an element is forced. -/
  | bavinIsforced (core : Nat) (sym : Nat)
  /-- CELLGET (R314): Bavin instruction that reads a cell field from the newest record. -/
  | bavinCellget (core : Nat) (field : Nat)
  /-- CELLFLAGS (R314): Bavin instruction that reads a cell's level and flags. -/
  | bavinCellflags (core : Nat)
  /-- NODEGET (R314): Bavin instruction that reads a node field. -/
  | bavinNodeget (core : Nat) (field : Nat)
  /-- STRGET (R314): Bavin instruction that reads a string field. -/
  | bavinStrget (core : Nat) (field : Nat)
  /-- STRSTATE (R314): Bavin instruction that reads the string state word. -/
  | bavinStrstate (core : Nat)
  /-- SLOTY (R314): Bavin instruction that reads a slot's newest y as a real. -/
  | bavinSloty (core : Nat) (slot : Nat)
  /-- XINSET (R315): Bavin instruction that writes CTL.XINn at publication. -/
  | bavinXinset (core : Nat) (n : Nat)
  /-- OUTREQ (R315): Bavin instruction that writes SAF.OUT_REQ at publication. -/
  | bavinOutreq (core : Nat)
  /-- ACKSAFE (R315): Bavin instruction that writes the acknowledgement key to SAF.ACK at publication. -/
  | bavinAcksafe (core : Nat)
  /-- HELLO (R352): Command query that opens or resumes a session and negotiates its version. -/
  | cmdHello (p : CmdPacket)
  /-- BYE (R354): Command that closes the session. -/
  | cmdBye (p : CmdPacket)
  /-- RESULT_READ (R363): Query that returns a tag's held result or PENDING. -/
  | cmdResultRead (p : CmdPacket)
  /-- SEQ_STATE (R351): Query that returns the session's sequence state. -/
  | cmdSeqState (p : CmdPacket)
  /-- PING (R366): Query that returns its bytes. -/
  | cmdPing (p : CmdPacket)
  /-- CANCEL (R364): Command that cancels an open cancellable operation. -/
  | cmdCancel (p : CmdPacket)
  /-- DEVICE_INFO (R366): Command that returns identity, banks and configuration. -/
  | cmdDeviceInfo (p : CmdPacket)
  /-- STATE_READ (R366): Command that returns state, demands, causes and the cell result header. -/
  | cmdStateRead (p : CmdPacket)
  /-- TABLE_INFO (R366): Command that returns the GSRAM addresses of the tables. -/
  | cmdTableInfo (p : CmdPacket)
  /-- REG_READ (R367): Command that reads registers. -/
  | cmdRegRead (p : CmdPacket)
  /-- REG_WRITE (R367): Command that writes registers in order, stopping at the first error. -/
  | cmdRegWrite (p : CmdPacket)
  /-- MEM_READ (R367): Command that reads GSRAM or the Insole window. -/
  | cmdMemRead (p : CmdPacket)
  /-- RUN (R324): Command that requests a task start. -/
  | cmdRun (p : CmdPacket)
  /-- STOP (R324): Command that stops the tasks. -/
  | cmdStop (p : CmdPacket)
  /-- RESUME (R5): Command that leaves Safe for Run or Stop once every demand is cleared and acknowledged. -/
  | cmdResume (p : CmdPacket)
  /-- ACKNOWLEDGE (R270): Command that acknowledges latched causes. -/
  | cmdAcknowledge (p : CmdPacket)
  /-- SHUTDOWN (R182): Command that triggers a shutdown journal and recorder write and completes on commit. -/
  | cmdShutdown (p : CmdPacket)
  /-- DISPATCH (R247): Command that applies dispatch caps, setpoint and lease. -/
  | cmdDispatch (p : CmdPacket)
  /-- BURST (R118): Command that requests a band H burst or a full sequence. -/
  | cmdBurst (p : CmdPacket)
  /-- SYMBOL_READ (R328): Command that reads symbols from the published image. -/
  | cmdSymbolRead (p : CmdPacket)
  /-- SYMBOL_WRITE (R329): Command that writes a symbol at its owner's next snapshot. -/
  | cmdSymbolWrite (p : CmdPacket)
  /-- FORCE_SET (R338): Command that sets a force on a symbol element. -/
  | cmdForceSet (p : CmdPacket)
  /-- FORCE_CLEAR (R338): Command that removes one or all forces. -/
  | cmdForceClear (p : CmdPacket)
  /-- FORCE_LIST (R338): Command that lists the forces. -/
  | cmdForceList (p : CmdPacket)
  /-- CHANGE (R339): Command that requests an on-line program change. -/
  | cmdChange (p : CmdPacket)
  /-- NODE_CONFIG_READ (R79): Command that passes a CONFIG_READ through to a node. -/
  | cmdNodeConfigRead (p : CmdPacket)
  /-- NODE_STATUS (R79): Command that passes a DIAG STATUS through to a node. -/
  | cmdNodeStatus (p : CmdPacket)
  /-- ENUMERATE (R81): Command that re-enumerates the chain. -/
  | cmdEnumerate (p : CmdPacket)
  /-- LEARNED_RESET (R185): Command that resets chosen cells' learned values to defaults. -/
  | cmdLearnedReset (p : CmdPacket)
  /-- EST_CMD (R155): Command that runs an EST command. -/
  | cmdEstCmd (p : CmdPacket)
  /-- IMAGE_BEGIN (R460): Command that opens an image session with its manifest and erases the inactive bank. -/
  | cmdImageBegin (p : CmdPacket)
  /-- IMAGE_BLOCK (R459): Command that delivers block bytes, checked and programmed at the block's end. -/
  | cmdImageBlock (p : CmdPacket)
  /-- IMAGE_VERIFY (R462): Command that verifies the stored image and writes a pending activation. -/
  | cmdImageVerify (p : CmdPacket)
  /-- IMAGE_ABORT (R460): Command that ends the image session, leaving the bank invalid. -/
  | cmdImageAbort (p : CmdPacket)
  /-- RECORDER_READ (R446): Command that reads recorder data. -/
  | cmdRecorderRead (p : CmdPacket)
  /-- CONFIG_READ (R366): Command that reads the stored configuration image. -/
  | cmdConfigRead (p : CmdPacket)
  /-- CONFIG_WRITE (R367): Command that stages configuration bytes. -/
  | cmdConfigWrite (p : CmdPacket)
  /-- CONFIG_COMMIT (R499): Command that checks the staged image and stores it for the next start. -/
  | cmdConfigCommit (p : CmdPacket)
  /-- OWNER_ENROL (R368): Command that stores or replaces the owner key. -/
  | cmdOwnerEnrol (p : CmdPacket)
  /-- OWNER_OPEN (R369): Command that returns a fresh nonce. -/
  | cmdOwnerOpen (p : CmdPacket)
  /-- OWNER_AUTH (R370): Command that opens the owner session and arms its Welt pair. -/
  | cmdOwnerAuth (p : CmdPacket)
  /-- OWNER_CMD (R370): Command that carries one owner Welt PDU. -/
  | cmdOwnerCmd (p : CmdPacket)
  /-- CMD_INVALID_PACKET (R373): A command packet fails its CRC, is malformed, has no session or an unknown opcode, and is rejected. -/
  | cmdInvalidPacket (uart : Bool) (ipv6 : Bool) (peer : Nat) (port : Nat) (bytes : Bytes)
  /-- CMD_HOLD_TIMEOUT (R356): 20 ms pass without a sequence gap filling, and every held command is discarded with SEQ_SKIP. -/
  | cmdHoldTimeout (i : Nat)
  /-- SESSION_HOLD_EXPIRY (R354): SESSION_HOLD_S passes after a session's last packet and the session closes. -/
  | sessionHoldExpiry (i : Nat)
  /-- THROTTLE_END (R374): 1 s passes without a violation and the throttle ends. -/
  | throttleEnd (i : Nat)
  /-- DMA_ALLOC (R379): A write of CHn_CTRL.ALLOC allocates user-pool pages, or sets ALLOC_FAIL. -/
  | dmaAlloc (n : Nat) (who : Requester)
  /-- DMA_FREE (R379): A write of CHn_CTRL.FREE releases the channel's allocation. -/
  | dmaFree (n : Nat) (who : Requester)
  /-- DMA_START (R387): A write of CHn_CTRL.START starts the channel at its current descriptor. -/
  | dmaStart (n : Nat) (who : Requester)
  /-- DMA_KICK (R398): A write of CHn_CTRL.KICK latches a kick that makes a starved channel fetch again. -/
  | dmaKick (n : Nat) (who : Requester)
  /-- DMA_ABORT (R392): A write of CHn_CTRL.ABORT stops the channel at the next burst boundary with an ABORTED record. -/
  | dmaAbort (n : Nat) (who : Requester)
  /-- DMA_DISABLE (R399): A write of CHn_CTRL.DISABLE stops the channel at once and turns it OFF. -/
  | dmaDisable (n : Nat) (who : Requester)
  /-- DMA_SWREQ (R389): A write to DMA.SWREQ strobes request lines 45 to 47. -/
  | dmaSwreq (bits : Word)
  /-- DMA_REQUEST_STROBE (R389): A block strobes a request line, and the bound channel's request count rises. -/
  | dmaRequestStrobe (line : Nat)
  /-- DMA_BURST (R390): A channel with a request and its turn moves one burst. -/
  | dmaBurst (n : Nat)
  /-- DMA_DESCRIPTOR_COMPLETE (R395): A descriptor's arrival is confirmed: the completion record is written, OWN clears and DMA_DONE may strobe. -/
  | dmaDescriptorComplete (n : Nat)
  /-- DMA_CQ_TAIL_WRITE (R393): A write to CHn_CQ_TAIL frees completion records and releases a channel in CQ_FULL. -/
  | dmaCqTailWrite (n : Nat) (value : Word) (who : Requester)
  /-- DMA_STALL_LIMIT (R391): A stall reaches STALL_LIMIT and DMA_STALL strobes once. -/
  | dmaStallLimit (n : Nat)
  /-- DMA_BUS_ERROR (R397): An access meets an error response or 4096 cycles without one: all channels stop and recovery mode starts. -/
  | dmaBusError (n : Nat) (addr : Word) (write : Bool) (noResponse : Bool)
  /-- DMA_FIRMWARE_RESTART (R397): Firmware restarts channels 0 to 7 after a bus error. -/
  | dmaFirmwareRestart
  /-- GSRAM_PARITY_ERROR (R384): A data parity error gives the requester an error response and MEM_PARITY_DATA. -/
  | gsramParityError (requester : Nat) (addr : Word) (interconnect : Bool) (channel : Nat)
  /-- CODE_PARITY_ERROR (R383): A code parity error discards the line and refetches it from the Insole. -/
  | codeParityError (core : Nat) (addr : Word) (refetchFailed : Bool)
  /-- SCRUB_PASS (R385): The 60 s scrubber pass reads all of GSRAM and reports latent errors. -/
  | scrubPass (latent : List Word)
  /-- ETH_LINK_CHANGE (R403): An Ethernet port's link goes up or down, and ETH_LINK_A or ETH_LINK_B strobes. -/
  | ethLinkChange (port : Nat) (signal sync : Bool) (page : Option Nat)
  /-- ETH_FRAME_RECEIVE (R409): An Ethernet frame arrives: it is filtered, timestamped, de-duplicated and delivered. -/
  | ethFrameReceive (port : Nat) (frame : Bytes) (fcs : Word)
  /-- ETH_TX_COMPLETE (R412): A transmit descriptor completes when both copies have left or been dropped. -/
  | ethTxComplete (pair : Bool) (port : Nat) (ts : Bool) (frame : Bytes) (user : Word) (underrun : Bool)
  /-- PRP_SUPERVISION_SEND (R408): The 2 s timer expires and a supervision frame is sent on both ports. -/
  | prpSupervisionSend
  /-- PRP_NODE_AGE_OUT (R409): A PRP node unheard for 60 s is removed from the node table. -/
  | prpNodeAgeOut
  /-- PRP_PATH_LOSS_TIMEOUT (R410): No valid frame of a LAN arrives for PATH_LOSS_MS, and ETH_PATH_LOSS strobes. -/
  | prpPathLossTimeout (port : Nat)
  /-- TIM_CAPTURE (R415): A write to TIM.CTRL.CAPTURE latches all seven time bases in one cycle. -/
  | timCapture
  /-- TIM_ALARM_FIRE (R416): An armed alarm's base reaches its target: it strobes and advances or disarms. -/
  | timAlarmFire (k : Nat)
  /-- PLANT_SECOND (R417): PLANT reaches a whole second: TIM_PPS strobes and PPS_OUT rises. -/
  | plantSecond
  /-- PPS_PULSE_END (R417): WIDTH_MS passes and PPS_OUT falls. -/
  | ppsPulseEnd
  /-- PTP_SYNC_RECEIVE (R421): A Sync or Follow_Up yields an offset, and the servo corrects, steps or changes state. -/
  | ptpSyncReceive (port : Nat) (domain : Nat) (originNs : Nat) (correctionNs : Int) (rxPlantNs : Nat)
  /-- PTP_ANNOUNCE_RECEIVE (R419): An Announce arrives and the best master clock algorithm runs. -/
  | ptpAnnounceReceive (port : Nat) (domain : Nat) (announce : Announce)
  /-- PTP_PDELAY_REQ_SEND (R418): The 1 s timer expires and a Pdelay_Req is sent on each port. -/
  | ptpPdelayReqSend
  /-- PTP_PDELAY_REQ_RECEIVE (R418): A Pdelay_Req arrives and is answered two-step. -/
  | ptpPdelayReqReceive (port : Nat) (seq : Nat) (requester : Bytes)
  /-- PTP_PDELAY_RESP_RECEIVE (R418): A Pdelay_Resp or its Follow_Up arrives and the peer delay is updated. -/
  | ptpPdelayRespReceive (port : Nat) (seq : Nat) (t2Ns : Nat) (t3Ns : Nat) (correctionNs : Int) (t4Ns : Nat)
  /-- PTP_ANNOUNCE_TIMEOUT (R420): Announces time out, and the slave port moves or the servo enters holdover or FREE. -/
  | ptpAnnounceTimeout (port : Nat)
  /-- PTP_SYNC_TIMEOUT (R420): No accepted Sync for 3 s, and the servo enters HOLDOVER or FREE. -/
  | ptpSyncTimeout
  /-- HOLDOVER_BOUND_EXCEEDED (R420): The holdover error bound passes VALID_LIMIT_NS and PLANT becomes invalid. -/
  | holdoverBoundExceeded
  /-- HOLDOVER_TEMP_OUT_OF_RANGE (R422): The package temperature leaves the learned range, σ_T doubles and TIM_HOLDOVER strobes. -/
  | holdoverTempOutOfRange
  /-- OSC_MODEL_STORE (R422): Every hour while LOCKED, K1 and K2 are stored in configuration. -/
  | oscModelStore
  /-- CAN_FRAME_RECEIVE (R432): A CAN frame is received and stored in a buffer, FIFO or station queue, or rejected. -/
  | canFrameReceive (n : Nat) (id : Nat) (ide : Bool) (rtr : Bool) (fdf : Bool) (brs : Bool) (esi : Bool) (dlc : Nat) (data : Bytes) (ago : Nat)
  /-- CAN_RX_LATCH (R431): A read of word 0 of a receive window latches the head element. -/
  | canRxLatch (n : Nat) (win : Nat)
  /-- CAN_RX_RELEASE (R431): A read of word 31 of a receive window pops the FIFO or frees the buffer. -/
  | canRxRelease (n : Nat) (win : Nat)
  /-- CAN_TX_PUSH (R436): A write of word 31 of the push window places the element in the lowest free slot, or sets PUSH_FAIL. -/
  | canTxPush (n : Nat) (value : Word)
  /-- CAN_TX_REQ (R436): A write to TX_REQ requests completed slots again. -/
  | canTxReq (n : Nat) (bits : Word) (cancel : Word)
  /-- CAN_TX_CANCEL (R438): A write to TX_CANCEL cancels slots or marks cancellation at the arbitration field. -/
  | canTxCancel (n : Nat) (bits : Word) (onBus : Option Nat)
  /-- CAN_TX_COMPLETE (R437): A frame is sent, or a slot fails, is rejected or cancelled, and CANn_TX_DONE strobes. -/
  | canTxComplete (n : Nat) (slot : Nat) (outcome : Nat)
  /-- CAN_TIMED_TX_DUE (R437): CANT reaches a TIMED slot's TX_AT and the slot enters arbitration. -/
  | canTimedTxDue (n : Nat) (slot : Nat)
  /-- CAN_BUS_ERROR (R439): A CAN error updates the counters and error state, may make a collision or bus-off, and absents stations at bus-off. -/
  | canBusError (n : Nat) (code : Nat) (dataPhase : Bool) (slot : Option Nat) (collision : Bool) (exempt : Bool) (more : Nat)
  /-- CAN_BUSOFF_RECOVERED (R439): 128 recessive sequences complete bus-off recovery. -/
  | canBusoffRecovered (n : Nat)
  /-- CAN_RECOVER (R439): A write to CTRL.RECOVER starts bus-off recovery. -/
  | canRecover (n : Nat)
  /-- CAN_SLEEP_REQ (R441): A write to CTRL.SLEEP_REQ puts the controller to sleep at the next bus idle. -/
  | canSleepReq (n : Nat) (wake : Bool)
  /-- CAN_WAKE_REQ (R441): A write to CTRL.WAKE_REQ wakes the controller. -/
  | canWakeReq (n : Nat)
  /-- CAN_WAKE_DETECT (R441): A dominant period or wake frame wakes a sleeping controller. -/
  | canWakeDetect (n : Nat) (frame : Bool) (dominantUs : Nat)
  /-- CAN_COMMIT (R444): A write to CANn.COMMIT ends writes to the RWL registers and starts the controller as configured. -/
  | canCommit (n : Nat) (value : Word)
  /-- CAN_REFERENCE_DUE (R442): A master's CANT reaches the next period and a reference message is requested. -/
  | canReferenceDue (n : Nat)
  /-- CAN_REFERENCE_LOST (R443): No reference arrives for 3 periods and REF_LOST is set. -/
  | canReferenceLost (n : Nat)
  /-- RECORDER_TOKEN_REFILL (R450): A code's bucket gains a token every 3600 / REC_RATE s. -/
  | recorderTokenRefill (code : Nat)
  /-- RECORDER_INTERVAL_TIMER (R453): REC_INTERVAL_MIN passes after the last commit and a summary write is triggered. -/
  | recorderIntervalTimer
  /-- REC_PERSIST_REQ (R453): A write to REC.CTRL.PERSIST_REQ triggers a summary write. -/
  | recPersistReq
  /-- RECORDER_WRITE_DONE (R453): A summary record is programmed and checked, the other slot's erase starts and REC_PERSIST_DONE strobes. -/
  | recorderWriteDone (ok : Bool)
  /-- DETAIL_PAGE_TIMEOUT (R453): 60 s after a page's first detail entry, the page is programmed into the ring. -/
  | detailPageTimeout
  /-- IMAGE_ERASE_DONE (R460): The erase of the inactive bank ends and IMAGE_BEGIN completes. -/
  | imageEraseDone
  /-- IMAGE_SESSION_TIMEOUT (R460): 600 s pass without an IMAGE command and the session closes. -/
  | imageSessionTimeout
  /-- ARB_GRANT_CONFIRMED (R472): ARB_GRANT holds a new level for 1 ms and the controller takes over or withdraws. -/
  | arbGrantConfirmed (level : Bool)
  /-- RED_ALIVE_REFRESH (R471): Firmware writes RED.ALIVE, setting the ARB_ALIVE high time. -/
  | redAliveRefresh
  /-- ALIVE_REFRESH_TIMEOUT (R471): RED.ALIVE is not refreshed for 10 ms and ARB_ALIVE stops. -/
  | aliveRefreshTimeout
  /-- BEAT_SEND (R476): The 1 ms timer expires and a BEAT frame is sent on the partner link. -/
  | beatSend
  /-- PARTNER_FRAME_RECEIVE (R477): A partner frame arrives and is checked; the standby commits a complete set, and a BEAT may show a conflict. -/
  | partnerFrameReceive (groups : List (Option Nat))
  /-- LAST_FAST_SET_SEND (R475): The active unit sends a fast set every 100 ms. -/
  | lastFastSetSend
  /-- LAST_FULL_SET_SEND (R475): The active unit starts a full set every 10 s. -/
  | lastFullSetSend
  /-- LAST_PERSIST_TIMER (R478): LAST_PERSIST_MIN passes and the standby copies its Last to the Insole. -/
  | lastPersistTimer
  /-- LAST_STALE_TIMEOUT (R479): The newest fast set becomes more than 1 s old and RED_LAST_STALE strobes. -/
  | lastStaleTimeout
  /-- PARTNER_LINK_TIMEOUT (R480): No valid partner frame arrives for 10 ms and the link is declared down. -/
  | partnerLinkTimeout
  /-- FULL_LAYER_COMPLETE (R159): A cell's full-layer update completes, and the fast layer takes the full layer's SoC and variance as its z with the cross-covariances zeroed. -/
  | fullLayerComplete (cell : Nat)
  /-- FULL_SEQUENCE_REQUEST_TIMER (R170): 2 h pass without a rest anchor and without a completed full sequence, and the impedance layer requests a full H, M and L sequence. -/
  | fullSequenceRequestTimer
  /-- LAST_COPY_DONE (R478): The standby's copy of its Last into an Insole Last slot is programmed, read back and committed, and the other slot's erase follows. -/
  | lastCopyDone (ok : Bool)
  /-- CONFIG_STORE_DONE (R499): A write into the configuration area (configuration image, device record or safety set) is programmed and read back, and the command or activation that asked for it completes. -/
  | configStoreDone (kind : Nat)
  /-- RECORDER_ERASE_DONE (R453): The erase of the other recorder summary slot or of a detail-ring sector ends, so a held summary write or a waiting Insole operation of higher precedence can start. -/
  | recorderEraseDone (ring : Bool)
  /-- IMAGE_BLOCK_STORED (R459): A checked image block has been programmed into the inactive bank and is stored, and the IMAGE_BLOCK that carried its last byte completes with block state 1. -/
  | imageBlockStored
  /-- IMAGE_VERIFY_DONE (R462): The bank read-back, hash and signature checks of IMAGE_VERIFY end, the pending activation is written and UPD_VERIFIED strobes or the update is refused. -/
  | imageVerifyDone (readOk : Bool) (program : Option Program)
  /-- CAN_RX_BUFFER_HOLDOFF_END (R445): The 10 µs hold-off of CANn_RX_BUFFER ends with buffers accumulated, and the source strobes with the accumulated detail. -/
  | canRxBufferHoldoffEnd (n : Nat)
  /-- ETH_EVENT_HOLDOFF_END (R425): The 1 ms hold-off of ETH_RX or ETH_TX_DONE on a port ends with frames counted, and the source strobes with the accumulated count. -/
  | ethEventHoldoffEnd (port : Nat) (transmit : Bool)
  /-- TETHER_LINK_CHANGE (R50): A Tether port receiver aligns to commas or loses alignment, and LINK_UP in TTH.PORTx_STAT changes. -/
  | tetherLinkChange (port : Nat) (up : Bool)
deriving DecidableEq, Repr

end Sys2Proof
end

