-- ==== Sys2Proof/Decode.lean ====
section
/-!
DEFINITION. The word decoder that the table of commands asks for. The block has no instruction words: no row of the table
gives bits, and a command comes as a packet, an access, a frame or an event whose parts are its operands. So no word spells
a command. The encodings the spec does give are read where they are used: Bavin code bytes by BavinCode, packets, PDUs,
frames and images by the families that receive them.
-/

namespace Sys2Proof

/-- The command that a word of the table's bits spells: none, since no row of the table gives bits. -/
def decodeTableWord (_nbits _w : Nat) : Option Instr := none

end Sys2Proof
end

