-- ==== Sys2Proof/Config.lean ====
section
/-!
DEFINITION. The free values of the model: what the spec leaves open. Each is an opaque constant,
so a statement about it holds for every value it could have.
-/

namespace Sys2Proof

/-- The REAL32 functions whose result the spec names but does not compute (Table 10.6, R311). -/
inductive RealFn where
  | exp | ln | log10 | sin | cos | tan | asin | acos | atan
deriving DecidableEq, Repr

/-- The two-operand REAL32 functions of Table 10.6. -/
inductive RealFn2 where
  | atan2 | pow
deriving DecidableEq, Repr

/-- The free value of a draw: State.free counts the draws (assumption 1). -/
opaque Config.freeValue : Nat → Word

/-- The value of a REAL32 elementary function; the spec states no accuracy for it (assumption 2). -/
opaque Config.realFn : RealFn → Word → Word

/-- The value of ATAN2 or POW (assumption 2). -/
opaque Config.realFn2 : RealFn2 → Word → Word → Word

/-- The functions of the cluster's special-function unit that R134 bounds to 2 ulp. -/
inductive SfuFn where
  | exp | log | asinh
deriving DecidableEq, Repr

/-- How far, in places, a result of the special-function unit lies from the correctly rounded one (R134, assumption 2). -/
opaque Config.sfuMove : SfuFn → Word → Nat

/-- Bytes of a context slot, of a unit's model tables and of its work area that the manual does not give, by draw and offset
(Tables 4.1, 4.2; assumption 242). -/
opaque Config.slotByte : Nat → Nat → Byte

/-- SHA-256 of FIPS 180-4, which the spec names without restating it (assumption 3). -/
opaque Config.sha256 : Bytes → Bytes

/-- ECDSA P-256 verification of FIPS 186-5: key, SHA-256 digest of what is signed, signature (assumption 3). -/
opaque Config.ecdsaVerify : Bytes → Bytes → Bytes → Bool

/-- The vendor key of the factory area (R458, assumption 3). -/
opaque Config.vendorKey : Bytes

/-- The unit's serial number, byte 0 lowest: SYS.SERIAL_HI shows bytes 0 to 3 and SERIAL_LO bytes 4 to 7, each
little-endian (Table 17.10, R11; DEDUCED, assumption 209). -/
opaque Config.serial : Quad

/-- The MAC address of the factory area (R404), in its low 48 bits. -/
opaque Config.mac : Quad

/-- The fixed SerDes latencies of a port mode of Table 13.1 (R411), ns: transmit false, receive true. The manual
reports them in ETH.LATENCY_A and B and states no value. -/
opaque Config.serdesNs : Nat → Bool → Nat

/-- The bytes of the factory area, by window address; the manual gives their kinds and no layout (R17, R18). -/
opaque Config.factoryByte : Nat → Byte

/-- The bytes of the device record, by draw and window address; the manual gives its contents and no layout (R499). -/
opaque Config.deviceByte : Nat → Nat → Byte

/-- The gain per conversion of the first-order filter with time constant CURRENT_TAU_NS, from its value in ns (R102): the
manual gives the time constant and no discrete form (assumption 228). -/
opaque Config.currentGain : Nat → Word

end Sys2Proof
end

