-- ==== Sys2Proof/Machine/Operands.lean ====
section
/-!
DEFINITION. Bit fields, byte order, sign extension and the check values of the spec: the forms in
which every command of the block reads its operands. Multi-byte values are little-endian unless a
caller says otherwise (R11, R386).
-/

namespace Sys2Proof.Machine

/-- Bits [hi:lo] of a word, as the manual writes a bit range. -/
def getBits (w : Word) (hi lo : Nat) : Nat := w.toNat / 2 ^ lo % 2 ^ (hi + 1 - lo)

/-- The word with bits [hi:lo] replaced by v. -/
def putBits (w : Word) (hi lo v : Nat) : Word :=
  BitVec.ofNat 32 (w.toNat - getBits w hi lo * 2 ^ lo + v % 2 ^ (hi + 1 - lo) * 2 ^ lo)

/-- One bit of a word. -/
def getBit (w : Word) (b : Nat) : Bool := getBits w b b = 1

/-- 1 for true, 0 for false: a flag as a field value. -/
def b2n (b : Bool) : Nat := if b then 1 else 0

/-- The word with one bit set or cleared. -/
def putBit (w : Word) (b : Nat) (v : Bool) : Word := putBits w b b (b2n v)

/-- Saturating increment at a bound. -/
def satInc (n max : Nat) : Nat := if n < max then n + 1 else max

/-- The n least significant bits of a number, read as a signed number. -/
def signed (bits n : Nat) : Int :=
  have m := n % 2 ^ bits
  if m < 2 ^ (bits - 1) then (m : Int) else (m : Int) - 2 ^ bits

/-- A signed number as an n-bit pattern, wrapping. -/
def wrapInt (bits : Nat) (i : Int) : Nat := (i % (2 ^ bits : Nat)).toNat

/-- Clamp a signed number to the range of an n-bit signed pattern. -/
def satInt (bits : Nat) (i : Int) : Int :=
  max (-(2 ^ (bits - 1) : Nat) : Int) (min i ((2 ^ (bits - 1) : Nat) - 1 : Int))

/-- The n bytes of a number, least significant first. -/
def bytesLE : Nat → Nat → Bytes
  | 0, _ => []
  | n + 1, v => BitVec.ofNat 8 v :: bytesLE n (v / 256)

/-- The n bytes of a number, most significant first (network byte order). -/
def bytesBE (n v : Nat) : Bytes := (bytesLE n v).reverse

/-- The number spelled by bytes, least significant first. -/
def natLE : Bytes → Nat
  | [] => 0
  | b :: rest => b.toNat + 256 * natLE rest

/-- The number spelled by bytes, most significant first. -/
def natBE (bs : Bytes) : Nat := natLE bs.reverse

/-- n bytes of a string from an offset. -/
def slice (bs : Bytes) (off n : Nat) : Bytes := (bs.drop off).take n

/-- The little-endian number of n bytes at an offset. -/
def fieldLE (bs : Bytes) (off n : Nat) : Nat := natLE (slice bs off n)

/-- The big-endian number of n bytes at an offset. -/
def fieldBE (bs : Bytes) (off n : Nat) : Nat := natBE (slice bs off n)

/-- A string of n zero bytes. -/
def zeros (n : Nat) : Bytes := List.replicate n 0

/-- The string cut or filled with zeros to n bytes. -/
def padTo (n : Nat) (bs : Bytes) : Bytes := bs.take n ++ zeros (n - bs.length)

/-- A list with the entry at an index replaced; unchanged beyond its end. -/
def setAt {α : Type} (l : List α) (i : Nat) (v : α) : List α := l.set i v

/-- One step of a reflected CRC-32 over one bit. -/
def crcBit (poly : Nat) (c : Nat) : Nat := if c % 2 = 1 then Nat.xor (c / 2) poly else c / 2

/-- One byte of a reflected CRC: the byte enters at the low end, eight bit steps. -/
def crcByte (poly c : Nat) (b : Byte) : Nat :=
  have c0 := Nat.xor c b.toNat
  have s := crcBit poly
  s (s (s (s (s (s (s (s c0)))))))

/-- A reflected 32-bit CRC with initial value and final inversion of all ones. -/
def crcRefl (poly : Nat) (bs : Bytes) : Word :=
  BitVec.ofNat 32 (Nat.xor (bs.foldl (crcByte poly) 0xFFFFFFFF) 0xFFFFFFFF)

/-- The CRC-32 of IEEE 802.3 (R181). -/
def crc32 (bs : Bytes) : Word := crcRefl 0xEDB88320 bs

/-- The CRC-32 that ends an image or a set holds. -/
def crcHolds (bs : Bytes) : Bool :=
  decide (4 ≤ bs.length) && fieldLE bs (bs.length - 4) 4 == (crc32 (bs.take (bs.length - 4))).toNat

/-- The CRC-32C of the Welt check value (R288). -/
def crc32c (bs : Bytes) : Word := crcRefl 0x82F63B78 bs

/-- One bit step of the CRC-16 with polynomial 0x1021, most significant bit first. -/
def crc16Bit (c : Nat) : Nat :=
  if c / 0x8000 % 2 = 1 then Nat.xor (c * 2 % 0x10000) 0x1021 else c * 2 % 0x10000

/-- One byte of the CRC-16. -/
def crc16Byte (c : Nat) (b : Byte) : Nat :=
  have c0 := Nat.xor c (b.toNat * 256)
  have s := crc16Bit
  s (s (s (s (s (s (s (s c0)))))))

/-- The CRC-16 of Tether and PCS frames (R55): 0x1021, initial value 0xFFFF, not reflected. -/
def crc16 (bs : Bytes) : Nat := bs.foldl crc16Byte 0xFFFF

end Sys2Proof.Machine
end

