-- ==== Sys2Proof/Machine/Float.lean ====
section
/-!
DEFINITION. IEEE 754 binary32 values (the spec's real format) by exact arithmetic: a value is
unpacked to a sign, an integer and a power of two, computed exactly, and rounded once to nearest,
ties to even, keeping subnormals (R311).
-/

namespace Sys2Proof.Machine

/-- An unpacked binary32 value; a finite one is (-1)^neg * mant * 2^expo. -/
inductive FVal where
  | nan
  | inf (neg : Bool)
  | fin (neg : Bool) (mant : Nat) (expo : Int)
deriving DecidableEq, Repr

/-- The quiet NaN every NaN result is (DESIGN CHOICE, assumption 11). -/
def f32NaN : Word := 0x7FC00000

/-- Unpack a binary32. -/
def f32Unpack (w : Word) : FVal :=
  have s := getBit w 31
  have e := getBits w 30 23
  have m := getBits w 22 0
  if e = 255 then (if m = 0 then .inf s else .nan)
  else if e = 0 then .fin s m (-149)
  else .fin s (m + 0x800000) ((e : Int) - 150)

/-- The bits of a signed infinity. -/
def f32Inf (neg : Bool) : Word := if neg then 0xFF800000 else 0x7F800000

/-- Round mant * 2^expo (plus something positive below its last place when sticky) to binary32. -/
def f32Round (neg : Bool) (mant : Nat) (expo : Int) (sticky : Bool) : Word :=
  have sgn := if neg then 0x80000000 else 0
  if mant = 0 then BitVec.ofNat 32 sgn
  else
    have n := Nat.log2 mant + 1
    have e0 : Int := max (expo + n - 24) (-149)
    have sh : Int := e0 - expo
    have q0 : Nat := if sh ≤ 0 then mant * 2 ^ (-sh).toNat else mant / 2 ^ sh.toNat
    have rem : Nat := if sh ≤ 0 then 0 else mant % 2 ^ sh.toNat
    have half : Nat := if sh ≤ 0 then 1 else 2 ^ (sh.toNat - 1)
    have up : Bool :=
      decide (rem > half) || (decide (rem = half) && (sticky || q0 % 2 = 1)) 
    have q := if up then q0 + 1 else q0
    have e1 := if q = 0x1000000 then e0 + 1 else e0
    have q1 := if q = 0x1000000 then 0x800000 else q
    if q1 < 0x800000 then BitVec.ofNat 32 (sgn + q1)
    else if e1 + 150 ≥ 255 then f32Inf neg
    else BitVec.ofNat 32 (sgn + (e1 + 150).toNat * 0x800000 + (q1 - 0x800000))

/-- The signed integer that a finite value is at a common exponent at or below its own. -/
def f32At (neg : Bool) (m : Nat) (e lo : Int) : Int :=
  have v : Int := (m * 2 ^ (e - lo).toNat : Nat)
  if neg then -v else v

/-- A finite binary32 in units of 2^-149, its least place; 0 for NaN and infinities. -/
def f32Exact (w : Word) : Int :=
  match f32Unpack w with
  | .fin neg m e => f32At neg m e (-149)
  | _ => 0

/-- Round an exact signed integer times a power of two; an exact zero takes the sign given. -/
def f32OfInt (zeroNeg : Bool) (i : Int) (e : Int) : Word :=
  if i = 0 then (if zeroNeg then 0x80000000 else 0)
  else f32Round (decide (i < 0)) i.natAbs e false

/-- Change of sign (R311 NEG). -/
def f32Neg (a : Word) : Word := putBit a 31 (!getBit a 31)

/-- Absolute value. -/
def f32Abs (a : Word) : Word := putBit a 31 false

/-- Whether a word is a NaN. -/
def f32IsNaN (a : Word) : Bool := f32Unpack a == .nan

/-- Whether a word is finite. -/
def f32IsFinite (a : Word) : Bool := getBits a 30 23 != 255

/-- Sum, rounded once. -/
def f32Add (a b : Word) : Word :=
  match f32Unpack a, f32Unpack b with
  | .nan, _ => f32NaN
  | _, .nan => f32NaN
  | .inf s, .inf t => if s = t then f32Inf s else f32NaN
  | .inf s, .fin _ _ _ => f32Inf s
  | .fin _ _ _, .inf t => f32Inf t
  | .fin s m e, .fin t n f =>
    have lo := min e f
    f32OfInt (s && t) (f32At s m e lo + f32At t n f lo) lo

/-- Difference. -/
def f32Sub (a b : Word) : Word :=
  if f32IsNaN b then f32NaN else f32Add a (f32Neg b)

/-- Product, rounded once. -/
def f32Mul (a b : Word) : Word :=
  match f32Unpack a, f32Unpack b with
  | .nan, _ => f32NaN
  | _, .nan => f32NaN
  | .inf s, .inf t => f32Inf (s != t)
  | .inf s, .fin t n _ => if n = 0 then f32NaN else f32Inf (s != t)
  | .fin s m _, .inf t => if m = 0 then f32NaN else f32Inf (s != t)
  | .fin s m e, .fin t n f => f32Round (s != t) (m * n) (e + f) false

/-- Quotient, rounded once. -/
def f32Div (a b : Word) : Word :=
  match f32Unpack a, f32Unpack b with
  | .nan, _ => f32NaN
  | _, .nan => f32NaN
  | .inf _, .inf _ => f32NaN
  | .inf s, .fin t _ _ => f32Inf (s != t)
  | .fin s _ _, .inf t => if s != t then 0x80000000 else 0
  | .fin s m e, .fin t n f =>
    if n = 0 then (if m = 0 then f32NaN else f32Inf (s != t))
    else
      have num := m * 2 ^ 60
      f32Round (s != t) (2 * (num / n) + b2n (num % n != 0)) (e - f - 61) false

/-- a * b + c, rounded once (R313 FMA). -/
def f32Fma (a b c : Word) : Word :=
  match f32Unpack a, f32Unpack b, f32Unpack c with
  | .fin s m e, .fin t n f, .fin u k g =>
    have lo := min (e + f) g
    f32OfInt ((s != t) && u) (f32At (s != t) (m * n) (e + f) lo + f32At u k g lo) lo
  | .fin _ _ _, .fin _ _ _, .inf u => f32Inf u
  | _, _, _ => f32Add (f32Mul a b) c

/-- Square root, rounded once; of a negative value NaN, of minus zero minus zero. -/
def f32Sqrt (a : Word) : Word :=
  match f32Unpack a with
  | .nan => f32NaN
  | .inf s => if s then f32NaN else f32Inf false
  | .fin s m e =>
    if m = 0 then a
    else if s then f32NaN
    else
      have m1 := if e % 2 = 0 then m else 2 * m
      have e1 := if e % 2 = 0 then e else e - 1
      have r := m1 * 2 ^ 60
      have q := Nat.sqrt r
      f32Round false (2 * q + b2n (q * q != r)) (e1 / 2 - 31) false

/-- Order of two values: none when either is a NaN. -/
def f32Cmp (a b : Word) : Option Ordering :=
  match f32Unpack a, f32Unpack b with
  | .nan, _ => none
  | _, .nan => none
  | .inf s, .inf t => some (if s = t then .eq else if s then .lt else .gt)
  | .inf s, .fin _ _ _ => some (if s then .lt else .gt)
  | .fin _ _ _, .inf t => some (if t then .gt else .lt)
  | .fin s m e, .fin t n f =>
    have lo := min e f
    some (compare (f32At s m e lo) (f32At t n f lo))

/-- a < b, false on NaN. -/
def f32Lt (a b : Word) : Bool := f32Cmp a b == some .lt
/-- a ≤ b, false on NaN. -/
def f32Le (a b : Word) : Bool := f32Cmp a b == some .lt || f32Cmp a b == some .eq
/-- a = b as values, false on NaN. -/
def f32Eq (a b : Word) : Bool := f32Cmp a b == some .eq

/-- The lesser of two values; with one NaN the other (IEEE 754 minNum). -/
def f32Min (a b : Word) : Word :=
  if f32IsNaN a then b else if f32IsNaN b then a else if f32Lt b a then b else a

/-- The greater of two values; with one NaN the other (IEEE 754 maxNum). -/
def f32Max (a b : Word) : Word :=
  if f32IsNaN a then b else if f32IsNaN b then a else if f32Lt a b then b else a

/-- A ratio of integers, rounded to binary32. -/
def f32OfRat (i : Int) (d : Nat) : Word :=
  if i = 0 ∨ d = 0 then 0
  else
    have num := i.natAbs * 2 ^ 200
    f32Round (decide (i < 0)) (2 * (num / d) + b2n (num % d != 0)) (-201) false

/-- An integer, rounded to binary32 (R312). -/
def f32OfInteger (i : Int) : Word := f32OfInt false i 0

/-- floor(value * num / den) of a finite value; 0 for NaN and infinities. -/
def f32FloorScaled (a : Word) (num den : Nat) : Int :=
  match f32Unpack a with
  | .fin s m e =>
    have v : Int := if s then -(m * num : Nat) else (m * num : Nat)
    if e ≥ 0 then v * (2 ^ e.toNat : Nat) / (den : Int)
    else v / ((2 ^ (-e).toNat * den : Nat) : Int)
  | _ => 0

/-- The rounding directions of TRUNC, ROUND, FLOOR and CEIL (Table 10.6). -/
inductive RoundMode where
  | trunc | away | floor | ceil | even
deriving DecidableEq, Repr

/-- i / d rounded to an integer in a direction, d positive. -/
def roundDiv (mode : RoundMode) (i : Int) (d : Nat) : Int :=
  have q := i / (d : Int)
  have r := (i % (d : Int)).toNat
  match mode with
  | .floor => q
  | .ceil => if r = 0 then q else q + 1
  | .trunc => if r = 0 ∨ 0 ≤ i then q else q + 1
  | .away => if 2 * r > d ∨ (2 * r = d ∧ 0 ≤ i) then q + 1 else q
  | .even => if 2 * r > d ∨ (2 * r = d ∧ q % 2 = 1) then q + 1 else q

/-- The value times num, rounded to an integer in a direction and clamped to lo..hi; NaN gives 0. -/
def f32ToInt (mode : RoundMode) (lo hi : Int) (num : Nat) (a : Word) : Int :=
  match f32Unpack a with
  | .nan => 0
  | .inf s => if s then lo else hi
  | .fin s m e =>
    have v : Int := if s then -(m * num : Nat) else (m * num : Nat)
    have i := if e ≥ 0 then v * (2 ^ e.toNat : Nat) else roundDiv mode v (2 ^ (-e).toNat)
    max lo (min hi i)

/-- binary32 constants used by name. -/
def f32Zero : Word := 0
/-- 1.0. -/
def f32One : Word := 0x3F800000

end Sys2Proof.Machine
end

