-- ==== Sys2Proof/Machine/Regs.lean ====
section
/-!
DEFINITION. The register addresses of the spec's register maps (Tables 1.12, 2.14, 3.8, 4.7 and
their like in every chapter): one name per register, BLOCK_REGISTER as the manual writes
BLOCK.REGISTER, as a full byte address (the block base of Table 1.9 plus the offset). A register
of an array takes its index; a CAN register takes the controller number first.
-/

namespace Sys2Proof.Machine.Reg

/-! Block EVT at 0x40030000. -/
/-- EVT.ID: block version and source count. -/
def EVT_ID : Nat := 0x40030000
/-- EVT.PEND: pending flags; PENDk bit b is source 32k + b. -/
def EVT_PEND (i : Nat) : Nat := 0x40030010 + 0x4 * i
/-- EVT.ENABLE: delivery enables, same bit layout. -/
def EVT_ENABLE (i : Nat) : Nat := 0x40030020 + 0x4 * i
/-- EVT.QLOG: queue-log selections, same bit layout. -/
def EVT_QLOG (i : Nat) : Nat := 0x40030030 + 0x4 * i
/-- EVT.QUEUE_BASE: GSRAM address of the 4 KB queue, set by the controller during Boot. -/
def EVT_QUEUE_BASE : Nat := 0x40030040
/-- EVT.QUEUE_HEAD: index of the next record to be written. -/
def EVT_QUEUE_HEAD : Nat := 0x40030044
/-- EVT.QUEUE_TAIL: index of the next record to be read. -/
def EVT_QUEUE_TAIL : Nat := 0x40030048
/-- EVT.QUEUE_STAT: fill level and dropped-record count. -/
def EVT_QUEUE_STAT : Nat := 0x4003004C
/-- EVT.COUNT_CLEAR: 1 in bit b of COUNT_CLEARk clears the counter of source 32k + b. -/
def EVT_COUNT_CLEAR (i : Nat) : Nat := 0x40030050 + 0x4 * i
/-- EVT.COUNT: occurrence counters; COUNTk holds sources 4k to 4k + 3. -/
def EVT_COUNT (i : Nat) : Nat := 0x40030100 + 0x4 * i
/-- EVT.DETAIL: detail of the latest occurrence of source n at 0x0200 + 4n. -/
def EVT_DETAIL (i : Nat) : Nat := 0x40030200 + 0x4 * i
/-! Block TTH at 0x40060000. -/
/-- TTH.ID: block version, highest node protocol version, maximum nodes. -/
def TTH_ID : Nat := 0x40060000
/-- TTH.CTRL: re-enumeration and recalibration requests. -/
def TTH_CTRL : Nat := 0x40060004
/-- TTH.CONFIG: node count and test interval from configuration. -/
def TTH_CONFIG : Nat := 0x40060008
/-- TTH.PORTA_STAT: port A receive status and flags. -/
def TTH_PORTA_STAT : Nat := 0x40060010
/-- TTH.PORTB_STAT: port B receive status and flags. -/
def TTH_PORTB_STAT : Nat := 0x40060014
/-- TTH.RING: ring state and break position. -/
def TTH_RING : Nat := 0x40060018
/-- TTH.ROUTE0: assigned port per node: bit b of ROUTE0 is node b + 1, bit b of ROUTE1 is node b + 33; 1 means port B. -/
def TTH_ROUTE0 : Nat := 0x40060020
/-- TTH.ROUTE1: assigned port per node: bit b of ROUTE0 is node b + 1, bit b of ROUTE1 is node b + 33; 1 means port B. -/
def TTH_ROUTE1 : Nat := 0x40060024
/-- TTH.REACH_A0: nodes reachable from port A, same layout. -/
def TTH_REACH_A0 : Nat := 0x40060028
/-- TTH.REACH_A1: nodes reachable from port A, same layout. -/
def TTH_REACH_A1 : Nat := 0x4006002C
/-- TTH.REACH_B0: nodes reachable from port B, same layout. -/
def TTH_REACH_B0 : Nat := 0x40060030
/-- TTH.REACH_B1: nodes reachable from port B, same layout. -/
def TTH_REACH_B1 : Nat := 0x40060034
/-- TTH.SAMPLE_DELAY: current D and settle time. -/
def TTH_SAMPLE_DELAY : Nat := 0x40060038
/-- TTH.LOOP: measured loop of each ring. -/
def TTH_LOOP : Nat := 0x4006003C
/-- TTH.ERR_A: port A discard and CRC counts. -/
def TTH_ERR_A : Nat := 0x40060040
/-- TTH.ERR_B: port B discard and CRC counts. -/
def TTH_ERR_B : Nat := 0x40060044
/-- TTH.CAL_AGE: seconds since the last complete calibration, saturating. -/
def TTH_CAL_AGE : Nat := 0x40060048
/-- TTH.PORTA_COUNT: occurrence counters of the TTH.PORTA_STAT flags. -/
def TTH_PORTA_COUNT : Nat := 0x4006004C
/-- TTH.PORTB_COUNT: occurrence counters of the TTH.PORTB_STAT flags. -/
def TTH_PORTB_COUNT : Nat := 0x40060050
/-- TTH.NODE: state of node n at 0x0100 + 4n. -/
def TTH_NODE (i : Nat) : Nat := 0x40060104 + 0x4 * i
/-- TTH.COMP: compensation of node n at 0x0200 + 4n. -/
def TTH_COMP (i : Nat) : Nat := 0x40060204 + 0x4 * i
/-- TTH.WIRE: sense-wire marks of node n at 0x0300 + 4n. -/
def TTH_WIRE (i : Nat) : Nat := 0x40060304 + 0x4 * i
/-! Block SWP at 0x40070000. -/
/-- SWP.ID: block version and bin count. -/
def SWP_ID : Nat := 0x40070000
/-- SWP.CTRL: burst requests and abort. -/
def SWP_CTRL : Nat := 0x40070004
/-- SWP.CONFIG: deadline, gap and search from configuration. -/
def SWP_CONFIG : Nat := 0x40070008
/-- SWP.CURRENT_CFG: current channel and filter. -/
def SWP_CURRENT_CFG : Nat := 0x4007000C
/-- SWP.RATE: current rate and floor. -/
def SWP_RATE : Nat := 0x40070010
/-- SWP.STAT: sweep flags. -/
def SWP_STAT : Nat := 0x40070014
/-- SWP.STAT_COUNT: occurrence counters of the SWP.STAT flags. -/
def SWP_STAT_COUNT : Nat := 0x40070018
/-- SWP.LAST: last sweep identifier and invalid-node count. -/
def SWP_LAST : Nat := 0x4007001C
/-- SWP.LAST_NS: CHAIN nanoseconds of the last instant. -/
def SWP_LAST_NS : Nat := 0x40070020
/-- SWP.LAST_S: low 32 bits of CHAIN seconds of the last instant. -/
def SWP_LAST_S : Nat := 0x40070024
/-- SWP.LAST_CURRENT: binary32 string current at the last instant, A. -/
def SWP_LAST_CURRENT : Nat := 0x40070028
/-- SWP.CLEARANCE: clearance of the last instant. -/
def SWP_CLEARANCE : Nat := 0x4007002C
/-- SWP.RING_BASE: GSRAM address of the record ring. -/
def SWP_RING_BASE : Nat := 0x40070030
/-- SWP.RING_HEAD: next ring slot. -/
def SWP_RING_HEAD : Nat := 0x40070034
/-- SWP.COUNTS: NOISY and PARTIAL records since Boot. -/
def SWP_COUNTS : Nat := 0x40070038
/-- SWP.LOW_I: binary32 low-current threshold, A. -/
def SWP_LOW_I : Nat := 0x4007003C
/-- SWP.BURST_CFG: burst schedule and amplitude. -/
def SWP_BURST_CFG : Nat := 0x40070040
/-- SWP.BURST_STAT: burst state and result flags. -/
def SWP_BURST_STAT : Nat := 0x40070044
/-- SWP.BURST_COUNT: occurrence counters of the SWP.BURST_STAT flags. -/
def SWP_BURST_COUNT : Nat := 0x40070048
/-- SWP.BURST_ID: current or last BURST_ID and noisy points. -/
def SWP_BURST_ID : Nat := 0x4007004C
/-- SWP.BURST_BASE: GSRAM address of the capture area. -/
def SWP_BURST_BASE : Nat := 0x40070050
/-- SWP.IMP_BASE: GSRAM address of the impedance table. -/
def SWP_IMP_BASE : Nat := 0x40070054
/-! Block EST at 0x40080000. -/
/-- EST.ID: block version and physical EU count. -/
def EST_ID : Nat := 0x40080000
/-- EST.STAT: array flags. -/
def EST_STAT : Nat := 0x40080008
/-- EST.STAT_COUNT: occurrence counters of the EST.STAT flags. -/
def EST_STAT_COUNT : Nat := 0x4008000C
/-- EST.UNITS: live and hosting units. -/
def EST_UNITS : Nat := 0x40080010
/-- EST.UNITS2: idle spares and suspect units. -/
def EST_UNITS2 : Nat := 0x40080014
/-- EST.LEVEL01: cells at levels 0 and 1. -/
def EST_LEVEL01 : Nat := 0x40080018
/-- EST.LEVEL23: cells at levels 2 and 3. -/
def EST_LEVEL23 : Nat := 0x4008001C
/-- EST.LEVEL4: unhosted and unmonitored cells. -/
def EST_LEVEL4 : Nat := 0x40080020
/-- EST.MAP_SEQ: placement change count. -/
def EST_MAP_SEQ : Nat := 0x40080024
/-- EST.MAP_BASE: GSRAM address of the placement map. -/
def EST_MAP_BASE : Nat := 0x40080028
/-- EST.LEDGER_BASE: GSRAM address of the fidelity ledger. -/
def EST_LEDGER_BASE : Nat := 0x4008002C
/-- EST.CKPT_BASE: GSRAM address of the checkpoint area. -/
def EST_CKPT_BASE : Nat := 0x40080030
/-- EST.REPLAY_BASE: GSRAM address of the replay ring. -/
def EST_REPLAY_BASE : Nat := 0x40080034
/-- EST.XFER_BASE: GSRAM address of the transfer area. -/
def EST_XFER_BASE : Nat := 0x40080038
/-- EST.CMD: command opcode; writing starts the command. -/
def EST_CMD : Nat := 0x40080040
/-- EST.CMD_ARG0: first argument. -/
def EST_CMD_ARG0 : Nat := 0x40080044
/-- EST.CMD_ARG1: second argument. -/
def EST_CMD_ARG1 : Nat := 0x40080048
/-- EST.CMD_STAT: command status. -/
def EST_CMD_STAT : Nat := 0x4008004C
/-- EST.CMD_COUNT: occurrence counters of the EST.CMD_STAT flags. -/
def EST_CMD_COUNT : Nat := 0x40080050
/-- EST.REGION: state of region r at 0x005C + 4r. -/
def EST_REGION (i : Nat) : Nat := 0x40080060 + 0x4 * i
/-- EST.LOAD: measured load; LOADk holds units 4k to 4k + 3. -/
def EST_LOAD (i : Nat) : Nat := 0x40080100 + 0x4 * i
/-! Block CTL at 0x40090000. -/
/-- CTL.ID: block version and slot count. -/
def CTL_ID : Nat := 0x40090000
/-- CTL.START: start requests per slot. -/
def CTL_START : Nat := 0x40090004
/-- CTL.HALT: halt requests per slot. -/
def CTL_HALT : Nat := 0x40090008
/-- CTL.RUN: running slots. -/
def CTL_RUN : Nat := 0x4009000C
/-- CTL.APPLY: coefficient apply per slot (R195). -/
def CTL_APPLY : Nat := 0x40090010
/-- CTL.COMMIT: commits the block's RWL registers. -/
def CTL_COMMIT : Nat := 0x40090014
/-- CTL.STAT: engine flags. -/
def CTL_STAT : Nat := 0x40090018
/-- CTL.STAT_COUNT: occurrence counters of the CTL.STAT flags. -/
def CTL_STAT_COUNT : Nat := 0x4009001C
/-- CTL.OVF: overflow observation per slot. -/
def CTL_OVF : Nat := 0x40090020
/-- CTL.OVF_CAUSE: cause of each slot's latest overflow. -/
def CTL_OVF_CAUSE : Nat := 0x40090024
/-- CTL.OVF_COUNT: overflow counters; OVF_COUNTk holds slots 4k to 4k + 3. -/
def CTL_OVF_COUNT (i : Nat) : Nat := 0x40090028 + 0x4 * i
/-- CTL.ADC_ERR: lost and saturated conversions. -/
def CTL_ADC_ERR : Nat := 0x40090038
/-- CTL.DROGUE_SLOPE: Drogue ramp slope from configuration. -/
def CTL_DROGUE_SLOPE : Nat := 0x4009003C
/-- CTL.ADC_TRIM: gain and offset of ADCn at 0x0040 + 4n. -/
def CTL_ADC_TRIM (i : Nat) : Nat := 0x40090040 + 0x4 * i
/-- CTL.XIN: external inputs. -/
def CTL_XIN (i : Nat) : Nat := 0x40090060 + 0x4 * i
/-- CTL.EST: estimator words (R191). -/
def CTL_EST (i : Nat) : Nat := 0x40090080 + 0x4 * i
/-- CTL.AWL_LIMIT: tuning amplitude limit from configuration, default 0.05. -/
def CTL_AWL_LIMIT : Nat := 0x40090090
/-- CTL.AWL_CTRL: Awl start and abort. -/
def CTL_AWL_CTRL : Nat := 0x40090100
/-- CTL.AWL_CFG: form, point, slot, pre-roll. -/
def CTL_AWL_CFG : Nat := 0x40090104
/-- CTL.AWL_AMP: amplitude. -/
def CTL_AWL_AMP : Nat := 0x40090108
/-- CTL.AWL_FREQ: sine increment, or PRBS order and hold. -/
def CTL_AWL_FREQ : Nat := 0x4009010C
/-- CTL.AWL_LEN: injection length. -/
def CTL_AWL_LEN : Nat := 0x40090110
/-- CTL.AWL_CAP: capture signals and decimation. -/
def CTL_AWL_CAP : Nat := 0x40090114
/-- CTL.AWL_POINTS: points to capture. -/
def CTL_AWL_POINTS : Nat := 0x40090118
/-- CTL.AWL_STAT: Awl state and flags. -/
def CTL_AWL_STAT : Nat := 0x4009011C
/-- CTL.AWL_COUNT: occurrence counters of the CTL.AWL_STAT flags. -/
def CTL_AWL_COUNT : Nat := 0x40090120
/-- CTL.AWL_BASE: GSRAM address of the 262,208-byte capture buffer. -/
def CTL_AWL_BASE : Nat := 0x40090124
/-- CTL.AWL_RUN: current or last run. -/
def CTL_AWL_RUN : Nat := 0x40090128
/-- CTL.MS_INC: multisine increment of entry m at 0x0180 + 4m. -/
def CTL_MS_INC (i : Nat) : Nat := 0x40090180 + 0x4 * i
/-- CTL.MS_AMP: amplitude of entry m at 0x01C0 + 4m. -/
def CTL_MS_AMP (i : Nat) : Nat := 0x400901C0 + 0x4 * i
/-- CTL.MS_PH: starting phase of entry m at 0x0200 + 4m. -/
def CTL_MS_PH (i : Nat) : Nat := 0x40090200 + 0x4 * i
/-- CTL.SLOT_CFG: slot n configuration, n from 0 to 15. -/
def CTL_SLOT_CFG (i : Nat) : Nat := 0x40090400 + 0x40 * i
/-- CTL.SLOT_TRIG: trigger. -/
def CTL_SLOT_TRIG (i : Nat) : Nat := 0x40090404 + 0x40 * i
/-- CTL.SLOT_SRC: feedback and reference sources. -/
def CTL_SLOT_SRC (i : Nat) : Nat := 0x40090408 + 0x40 * i
/-- CTL.SLOT_B0: b coefficients, shadowed. -/
def CTL_SLOT_B0 (i : Nat) : Nat := 0x4009040C + 0x40 * i
/-- CTL.SLOT_B1: b coefficients, shadowed. -/
def CTL_SLOT_B1 (i : Nat) : Nat := 0x40090410 + 0x40 * i
/-- CTL.SLOT_B2: b coefficients, shadowed. -/
def CTL_SLOT_B2 (i : Nat) : Nat := 0x40090414 + 0x40 * i
/-- CTL.SLOT_B3: b coefficients, shadowed. -/
def CTL_SLOT_B3 (i : Nat) : Nat := 0x40090418 + 0x40 * i
/-- CTL.SLOT_A1: a coefficients, shadowed. -/
def CTL_SLOT_A1 (i : Nat) : Nat := 0x4009041C + 0x40 * i
/-- CTL.SLOT_A2: a coefficients, shadowed. -/
def CTL_SLOT_A2 (i : Nat) : Nat := 0x40090420 + 0x40 * i
/-- CTL.SLOT_A3: a coefficients, shadowed. -/
def CTL_SLOT_A3 (i : Nat) : Nat := 0x40090424 + 0x40 * i
/-- CTL.SLOT_TARGET: target. -/
def CTL_SLOT_TARGET (i : Nat) : Nat := 0x40090428 + 0x40 * i
/-- CTL.SLOT_SLOPE: rate limit per evaluation. -/
def CTL_SLOT_SLOPE (i : Nat) : Nat := 0x4009042C + 0x40 * i
/-- CTL.SLOT_PRELOAD: y history at soft start. -/
def CTL_SLOT_PRELOAD (i : Nat) : Nat := 0x40090430 + 0x40 * i
/-- CTL.SLOT_LIM_HI: upper window limit. -/
def CTL_SLOT_LIM_HI (i : Nat) : Nat := 0x40090434 + 0x40 * i
/-- CTL.SLOT_LIM_LO: lower window limit. -/
def CTL_SLOT_LIM_LO (i : Nat) : Nat := 0x40090438 + 0x40 * i
/-- CTL.SLOT_Y: newest y. -/
def CTL_SLOT_Y (i : Nat) : Nat := 0x4009043C + 0x40 * i
/-! Block PWM at 0x400A0000. -/
/-- PWM.ID: block version and channel count. -/
def PWM_ID : Nat := 0x400A0000
/-- PWM.TRIP: trip latches, holds and flags. -/
def PWM_TRIP : Nat := 0x400A0004
/-- PWM.TRIP_COUNT: occurrence counters of the PWM.TRIP flags. -/
def PWM_TRIP_COUNT : Nat := 0x400A0008
/-- PWM.TRIP_CLEAR: latch release (R215). -/
def PWM_TRIP_CLEAR : Nat := 0x400A000C
/-- PWM.ENABLE: channel enables. -/
def PWM_ENABLE : Nat := 0x400A0010
/-- PWM.LIMITED: channel duty limited now. -/
def PWM_LIMITED : Nat := 0x400A0014
/-- PWM.EDGE_BASE: GSRAM address of the edge log. -/
def PWM_EDGE_BASE : Nat := 0x400A0018
/-- PWM.EDGE_HEAD: next edge-log entry. -/
def PWM_EDGE_HEAD : Nat := 0x400A001C
/-- PWM.TB_PERIOD: period in ticks. -/
def PWM_TB_PERIOD (i : Nat) : Nat := 0x400A0020 + 0x4 * i
/-- PWM.TB_CFG: timebase mode. -/
def PWM_TB_CFG (i : Nat) : Nat := 0x400A0030 + 0x4 * i
/-- PWM.CH_CFG: channel n configuration, n from 0 to 15. -/
def PWM_CH_CFG (i : Nat) : Nat := 0x400A0100 + 0x20 * i
/-- PWM.CH_PHASE: phase offset in ticks. -/
def PWM_CH_PHASE (i : Nat) : Nat := 0x400A0104 + 0x20 * i
/-- PWM.CH_MAP: duty map, GAIN 1.0 and OFFSET 0. -/
def PWM_CH_MAP (i : Nat) : Nat := 0x400A0108 + 0x20 * i
/-- PWM.CH_LIM: duty limits. -/
def PWM_CH_LIM (i : Nat) : Nat := 0x400A010C + 0x20 * i
/-- PWM.CH_DEAD: dead times (even n). -/
def PWM_CH_DEAD (i : Nat) : Nat := 0x400A0110 + 0x20 * i
/-- PWM.CH_CMP: compare value in effect. -/
def PWM_CH_CMP (i : Nat) : Nat := 0x400A0114 + 0x20 * i
/-! Block PCS at 0x400B0000. -/
/-- PCS.ID: block version and frame length. -/
def PCS_ID : Nat := 0x400B0000
/-- PCS.CONFIG: loss time, answer start, dispatch expiry, link delay from configuration. -/
def PCS_CONFIG : Nat := 0x400B0004
/-- PCS.STAT: port state and flags. -/
def PCS_STAT : Nat := 0x400B0008
/-- PCS.STAT_COUNT0: occurrence counters of PCS.STAT bits 3 to 0. -/
def PCS_STAT_COUNT0 : Nat := 0x400B000C
/-- PCS.STAT_COUNT1: occurrence counters of PCS.STAT bits 6 to 4. -/
def PCS_STAT_COUNT1 : Nat := 0x400B0010
/-- PCS.CYCLE: measured control cycle. -/
def PCS_CYCLE : Nat := 0x400B0014
/-- PCS.LAST_RX: SEQ and FLAGS of the last valid request. -/
def PCS_LAST_RX : Nat := 0x400B0018
/-- PCS.LAST_TX: fields of the last answer. -/
def PCS_LAST_TX : Nat := 0x400B001C
/-- PCS.RX_COUNT: valid requests, wrapping. -/
def PCS_RX_COUNT : Nat := 0x400B0020
/-- PCS.ERR: missed and discard counts. -/
def PCS_ERR : Nat := 0x400B0024
/-- PCS.ERR2: over-request and early counts. -/
def PCS_ERR2 : Nat := 0x400B0028
/-- PCS.MEAS_I: last MEASURED_I, binary32, A. -/
def PCS_MEAS_I : Nat := 0x400B002C
/-- PCS.REQ_I: last REQUESTED_I, binary32, A. -/
def PCS_REQ_I : Nat := 0x400B0030
/-- PCS.LT_CHG: charge limits at 2 s, 10 s, 60 s, 900 s, binary32, shadowed. -/
def PCS_LT_CHG (i : Nat) : Nat := 0x400B0040 + 0x4 * i
/-- PCS.LT_DIS: discharge limits, same order. -/
def PCS_LT_DIS (i : Nat) : Nat := 0x400B0050 + 0x4 * i
/-- PCS.LT_FLAGS: table flags, shadowed. -/
def PCS_LT_FLAGS : Nat := 0x400B0060
/-- PCS.LT_COMMIT: commit the shadow. -/
def PCS_LT_COMMIT : Nat := 0x400B0064
/-- PCS.LT_STAT: commit count and LIMIT_AGE. -/
def PCS_LT_STAT : Nat := 0x400B0068
/-- PCS.DISP_CHG: charge cap, binary32, A. -/
def PCS_DISP_CHG : Nat := 0x400B0070
/-- PCS.DISP_DIS: discharge cap, binary32, A. -/
def PCS_DISP_DIS : Nat := 0x400B0074
/-- PCS.DISP_SET: setpoint. -/
def PCS_DISP_SET : Nat := 0x400B0078
/-- PCS.DISP_LEASE: lease, ms. -/
def PCS_DISP_LEASE : Nat := 0x400B007C
/-- PCS.DISP_CTRL: apply. -/
def PCS_DISP_CTRL : Nat := 0x400B0080
/-- PCS.DISP_STAT: dispatch state and remaining lease. -/
def PCS_DISP_STAT : Nat := 0x400B0084
/-- PCS.PERT_CTRL: perturbation enable. -/
def PCS_PERT_CTRL : Nat := 0x400B00C0
/-- PCS.PERT_INC: increment of entry m at 0x0100 + 4m. -/
def PCS_PERT_INC (i : Nat) : Nat := 0x400B0100 + 0x4 * i
/-- PCS.PERT_AMP: amplitude of entry m, binary32, A. -/
def PCS_PERT_AMP (i : Nat) : Nat := 0x400B0140 + 0x4 * i
/-- PCS.PERT_PH: starting phase of entry m. -/
def PCS_PERT_PH (i : Nat) : Nat := 0x400B0180 + 0x4 * i
/-! Block SAF at 0x400C0000. -/
/-- SAF.ID: block version and physical input count. -/
def SAF_ID : Nat := 0x400C0000
/-- SAF.STATE: channel 1 safety state. -/
def SAF_STATE : Nat := 0x400C0004
/-- SAF.DEMAND: latched hazard demands. -/
def SAF_DEMAND : Nat := 0x400C0008
/-- SAF.FAULT: latched Drogue causes. -/
def SAF_FAULT : Nat := 0x400C000C
/-- SAF.STAT: safety flags. -/
def SAF_STAT : Nat := 0x400C0010
/-- SAF.STAT_COUNT: occurrence counters of the SAF.STAT flags. -/
def SAF_STAT_COUNT : Nat := 0x400C0014
/-- SAF.ACK: acknowledgement (R270). -/
def SAF_ACK : Nat := 0x400C0018
/-- SAF.OUT_REQ: close requests and shunt fire. -/
def SAF_OUT_REQ : Nat := 0x400C001C
/-- SAF.OUT_STAT: commands and read-back per pair. -/
def SAF_OUT_STAT : Nat := 0x400C0020
/-- SAF.DROGUE: Drogue state and remaining time. -/
def SAF_DROGUE : Nat := 0x400C0024
/-- SAF.INPUT: input demands and discrepancy faults. -/
def SAF_INPUT : Nat := 0x400C0028
/-- SAF.INPUT_RAW: filtered line levels from scanner 1. -/
def SAF_INPUT_RAW : Nat := 0x400C002C
/-- SAF.CURRENT_A: 1 ms means, binary32, A. -/
def SAF_CURRENT_A : Nat := 0x400C0030
/-- SAF.CURRENT_B: 1 ms means, binary32, A. -/
def SAF_CURRENT_B : Nat := 0x400C0034
/-- SAF.PARAM_CRC: channel 1 working CRC. -/
def SAF_PARAM_CRC : Nat := 0x400C0038
/-- SAF.PARAM_SOLE_CRC: channel 2 CRC, as last received. -/
def SAF_PARAM_SOLE_CRC : Nat := 0x400C003C
/-- SAF.PARAM_STAGE_CRC: CRC of the staged set. -/
def SAF_PARAM_STAGE_CRC : Nat := 0x400C0040
/-- SAF.TP_STAT: test-pulse results per switch. -/
def SAF_TP_STAT : Nat := 0x400C0044
/-- SAF.UNMEAS: cells without a checkable sample (R262). -/
def SAF_UNMEAS : Nat := 0x400C0048
/-! Block SOLE at 0x400D0000. -/
/-- SOLE.ID: block version and comparator count. -/
def SOLE_ID : Nat := 0x400D0000
/-- SOLE.STAT: channel 2 flags. -/
def SOLE_STAT : Nat := 0x400D0004
/-- SOLE.STAT_COUNT: occurrence counters of the SOLE.STAT flags. -/
def SOLE_STAT_COUNT : Nat := 0x400D0008
/-- SOLE.DEMAND: channel 2 latched demands and causes. -/
def SOLE_DEMAND : Nat := 0x400D000C
/-- SOLE.LIVE: watchdog state and last LIVE interval. -/
def SOLE_LIVE : Nat := 0x400D0010
/-- SOLE.PARAM_CRC: Sole shadow CRC. -/
def SOLE_PARAM_CRC : Nat := 0x400D0014
/-- SOLE.DROGUE: channel 2 Drogue timer. -/
def SOLE_DROGUE : Nat := 0x400D0018
/-- SOLE.RESET: NRST state. -/
def SOLE_RESET : Nat := 0x400D001C
/-- SOLE.LOG_HEAD: always-on log head. -/
def SOLE_LOG_HEAD : Nat := 0x400D0020
/-- SOLE.LOG_SEL: entry selected for reading. -/
def SOLE_LOG_SEL : Nat := 0x400D0024
/-- SOLE.LOG_DATA: selected entry, words 0 to 3. -/
def SOLE_LOG_DATA (i : Nat) : Nat := 0x400D0028 + 0x4 * i
/-- SOLE.STAT_COUNT1: occurrence counter of SOLE.STAT bit 4. -/
def SOLE_STAT_COUNT1 : Nat := 0x400D0038
/-- SOLE.CMP_CFG: comparator c configuration, c from 0 to 3. -/
def SOLE_CMP_CFG (i : Nat) : Nat := 0x400D0040 + 0x8 * i
/-- SOLE.CMP_THR: thresholds in codes. -/
def SOLE_CMP_THR (i : Nat) : Nat := 0x400D0044 + 0x8 * i
/-! Block WLT at 0x400E0000. -/
/-- WLT.ID: block version, highest Welt version, connection count. -/
def WLT_ID : Nat := 0x400E0000
/-- WLT.STAT: Welt flags. -/
def WLT_STAT : Nat := 0x400E0004
/-- WLT.STAT_COUNT: occurrence counters of the WLT.STAT flags. -/
def WLT_STAT_COUNT : Nat := 0x400E0008
/-- WLT.RUNNING: bit c: connection c running. -/
def WLT_RUNNING : Nat := 0x400E000C
/-- WLT.FAILED: bit c: connection c failed. -/
def WLT_FAILED : Nat := 0x400E0010
/-- WLT.REARM: bit c: re-arm connection c (R293); reads 1 until it leaves failed. -/
def WLT_REARM : Nat := 0x400E0014
/-- WLT.PDU_EVT: bit c: strobe WLT_PDU_RX for each PDU accepted on connection c. -/
def WLT_PDU_EVT : Nat := 0x400E0018
/-- WLT.PORT: WELT_UDP_PORT from configuration. -/
def WLT_PORT : Nat := 0x400E001C
/-- WLT.CONN_CFG: connection c configuration, c from 0 to 31. -/
def WLT_CONN_CFG (i : Nat) : Nat := 0x400E0100 + 0x20 * i
/-- WLT.CONN_TIME: watchdog and period. -/
def WLT_CONN_TIME (i : Nat) : Nat := 0x400E0104 + 0x20 * i
/-- WLT.CONN_ADDR: carrier address. -/
def WLT_CONN_ADDR (i : Nat) : Nat := 0x400E0108 + 0x20 * i
/-- WLT.CONN_ID: identity. -/
def WLT_CONN_ID (i : Nat) : Nat := 0x400E010C + 0x20 * i
/-- WLT.CONN_STAT: state, version, last error, age. -/
def WLT_CONN_STAT (i : Nat) : Nat := 0x400E0110 + 0x20 * i
/-- WLT.CONN_SEQ: sequence. -/
def WLT_CONN_SEQ (i : Nat) : Nat := 0x400E0114 + 0x20 * i
/-- WLT.CONN_ERR: error counts. -/
def WLT_CONN_ERR (i : Nat) : Nat := 0x400E0118 + 0x20 * i
/-- WLT.VMAP: mapping of virtual input v. -/
def WLT_VMAP (i : Nat) : Nat := 0x400E0600 + 0x4 * i
/-! Block PRG at 0x400F0000. -/
/-- PRG.ID: block version, code format, task count. -/
def PRG_ID : Nat := 0x400F0000
/-- PRG.CTRL: run, stop and change requests. -/
def PRG_CTRL : Nat := 0x400F0004
/-- PRG.STATE: program state, banks, forces. -/
def PRG_STATE : Nat := 0x400F0008
/-- PRG.STAT: program flags. -/
def PRG_STAT : Nat := 0x400F000C
/-- PRG.STAT_COUNT0: occurrence counters of PRG.STAT bits 3 to 0. -/
def PRG_STAT_COUNT0 : Nat := 0x400F0010
/-- PRG.STAT_COUNT1: occurrence counters of PRG.STAT bits 5 and 4. -/
def PRG_STAT_COUNT1 : Nat := 0x400F0014
/-- PRG.PROG_ID: PROG_ID of the active program. -/
def PRG_PROG_ID : Nat := 0x400F0018
/-- PRG.INACTIVE_ID: PROG_ID in the inactive bank. -/
def PRG_INACTIVE_ID : Nat := 0x400F001C
/-- PRG.CHANGE_OPT: change options. -/
def PRG_CHANGE_OPT : Nat := 0x400F0020
/-- PRG.CHANGE_STAT: last change result. -/
def PRG_CHANGE_STAT : Nat := 0x400F0024
/-- PRG.CHANGE_SYM: identity of the first conflicting symbol. -/
def PRG_CHANGE_SYM : Nat := 0x400F0028
/-- PRG.LOAD: core utilisation. -/
def PRG_LOAD : Nat := 0x400F002C
/-- PRG.FAULT: last runtime fault. -/
def PRG_FAULT : Nat := 0x400F0030
/-- PRG.FAULT_PC: code offset of the last runtime fault. -/
def PRG_FAULT_PC : Nat := 0x400F0034
/-- PRG.ABSENT0: bit b: station b, or b + 32, absent. -/
def PRG_ABSENT0 : Nat := 0x400F0038
/-- PRG.ABSENT1: bit b: station b, or b + 32, absent. -/
def PRG_ABSENT1 : Nat := 0x400F003C
/-- PRG.IMAGE_BASE: GSRAM address of the published image. -/
def PRG_IMAGE_BASE : Nat := 0x400F0040
/-- PRG.PUB_SEQ: publications, wrapping. -/
def PRG_PUB_SEQ : Nat := 0x400F0044
/-- PRG.TASK_CFG: task k configuration, k from 0 to 47. -/
def PRG_TASK_CFG (i : Nat) : Nat := 0x400F0100 + 0x10 * i
/-- PRG.TASK_STAT: task k state. -/
def PRG_TASK_STAT (i : Nat) : Nat := 0x400F0104 + 0x10 * i
/-- PRG.TASK_TIME: task k execution times. -/
def PRG_TASK_TIME (i : Nat) : Nat := 0x400F0108 + 0x10 * i
/-- PRG.TASK_DEADLINE: task k deadline, µs. -/
def PRG_TASK_DEADLINE (i : Nat) : Nat := 0x400F010C + 0x10 * i
/-! Block CMD at 0x40100000. -/
/-- CMD.ID: block version, highest protocol version, session count. -/
def CMD_ID : Nat := 0x40100000
/-- CMD.CONFIG: configurable port and hold time from configuration. -/
def CMD_CONFIG : Nat := 0x40100004
/-- CMD.STAT: channel flags. -/
def CMD_STAT : Nat := 0x40100008
/-- CMD.STAT_COUNT: occurrence counters of the CMD.STAT flags. -/
def CMD_STAT_COUNT : Nat := 0x4010000C
/-- CMD.INFLIGHT: open operations and held results. -/
def CMD_INFLIGHT : Nat := 0x40100010
/-- CMD.OWNER: owner key, owner session and locks. -/
def CMD_OWNER : Nat := 0x40100014
/-- CMD.ERR: CRC and no-session counts. -/
def CMD_ERR : Nat := 0x40100018
/-- CMD.ERR2: throttled and expired-hold counts. -/
def CMD_ERR2 : Nat := 0x4010001C
/-- CMD.SESS_STAT: session n state, n from 0 to 4. -/
def CMD_SESS_STAT (i : Nat) : Nat := 0x40100040 + 0x10 * i
/-- CMD.SESS_HSEQ: session n LAST_ACCEPTED. -/
def CMD_SESS_HSEQ (i : Nat) : Nat := 0x40100044 + 0x10 * i
/-- CMD.SESS_DSEQ: session n next DSEQ. -/
def CMD_SESS_DSEQ (i : Nat) : Nat := 0x40100048 + 0x10 * i
/-- CMD.SESS_VIOL: session n violations. -/
def CMD_SESS_VIOL (i : Nat) : Nat := 0x4010004C + 0x10 * i
/-! Block MEM at 0x40040000. -/
/-- MEM.ID: block version and GSRAM bank count. -/
def MEM_ID : Nat := 0x40040000
/-- MEM.STAT: memory flags. -/
def MEM_STAT : Nat := 0x40040004
/-- MEM.STAT_COUNT0: occurrence counters of MEM.STAT bits 3 to 0. -/
def MEM_STAT_COUNT0 : Nat := 0x40040008
/-- MEM.STAT_COUNT1: occurrence counters of MEM.STAT bits 5 and 4. -/
def MEM_STAT_COUNT1 : Nat := 0x4004000C
/-- MEM.ALLOC_BASE: address of the allocation map. -/
def MEM_ALLOC_BASE : Nat := 0x40040010
/-- MEM.ALLOC_SEQ: allocation map rewrites. -/
def MEM_ALLOC_SEQ : Nat := 0x40040014
/-- MEM.POOL: program pool and user pool free space. -/
def MEM_POOL : Nat := 0x40040018
/-- MEM.DATA_ADDR: address of the last data parity error. -/
def MEM_DATA_ADDR : Nat := 0x4004001C
/-- MEM.DATA_INFO: requester and counts of data parity errors. -/
def MEM_DATA_INFO : Nat := 0x40040020
/-- MEM.CODE_INFO: code parity errors per core. -/
def MEM_CODE_INFO : Nat := 0x40040024
/-- MEM.INSOLE_INFO: corrected words and spare sectors. -/
def MEM_INSOLE_INFO : Nat := 0x40040028
/-- MEM.SCRUB: scrub passes and errors. -/
def MEM_SCRUB : Nat := 0x4004002C
/-! Block DMA at 0x40050000. -/
/-- DMA.ID: block version, channels, request lines. -/
def DMA_ID : Nat := 0x40050000
/-- DMA.MODE: arrival mode (R394). -/
def DMA_MODE : Nat := 0x40050004
/-- DMA.STAT: engine flags. -/
def DMA_STAT : Nat := 0x40050008
/-- DMA.STAT_COUNT: occurrence counters of the DMA.STAT flags. -/
def DMA_STAT_COUNT : Nat := 0x4005000C
/-- DMA.ERR_ADDR: address of the last bus error. -/
def DMA_ERR_ADDR : Nat := 0x40050010
/-- DMA.ERR_INFO: channel and kind of the last bus error. -/
def DMA_ERR_INFO : Nat := 0x40050014
/-- DMA.SWREQ: software request lines. -/
def DMA_SWREQ : Nat := 0x40050018
/-- DMA.RUNNING: bit n: channel n not OFF or STOPPED. -/
def DMA_RUNNING : Nat := 0x4005001C
/-- DMA.CH_CTRL: channel n control, n from 0 to 15. -/
def DMA_CH_CTRL (i : Nat) : Nat := 0x40050100 + 0x40 * i
/-- DMA.CH_CFG: Reel, queue and stall sizes. -/
def DMA_CH_CFG (i : Nat) : Nat := 0x40050104 + 0x40 * i
/-- DMA.CH_REEL_BASE: Reel address. -/
def DMA_CH_REEL_BASE (i : Nat) : Nat := 0x40050108 + 0x40 * i
/-- DMA.CH_CQ_BASE: completion queue address. -/
def DMA_CH_CQ_BASE (i : Nat) : Nat := 0x4005010C + 0x40 * i
/-- DMA.CH_BUF_BASE: user buffer address; 0 for channels 0 to 7. -/
def DMA_CH_BUF_BASE (i : Nat) : Nat := 0x40050110 + 0x40 * i
/-- DMA.CH_INDEX: current descriptor. -/
def DMA_CH_INDEX (i : Nat) : Nat := 0x40050114 + 0x40 * i
/-- DMA.CH_CQ_HEAD: next record to be written. -/
def DMA_CH_CQ_HEAD (i : Nat) : Nat := 0x40050118 + 0x40 * i
/-- DMA.CH_CQ_TAIL: next record to be read. -/
def DMA_CH_CQ_TAIL (i : Nat) : Nat := 0x4005011C + 0x40 * i
/-- DMA.CH_STAT: state and stop reason. -/
def DMA_CH_STAT (i : Nat) : Nat := 0x40050120 + 0x40 * i
/-- DMA.CH_STALL: longest stall since START, µs. -/
def DMA_CH_STALL (i : Nat) : Nat := 0x40050124 + 0x40 * i
/-- DMA.CH_BUF_SIZE: user buffer request. -/
def DMA_CH_BUF_SIZE (i : Nat) : Nat := 0x40050128 + 0x40 * i
/-! Block ETH at 0x40110000. -/
/-- ETH.ID: block version and port count. -/
def ETH_ID : Nat := 0x40110000
/-- ETH.CONFIG: modes, autonegotiation and VLAN from configuration. -/
def ETH_CONFIG : Nat := 0x40110004
/-- ETH.STAT: port flags. -/
def ETH_STAT : Nat := 0x40110008
/-- ETH.STAT_COUNT: occurrence counters of the ETH.STAT flags. -/
def ETH_STAT_COUNT : Nat := 0x4011000C
/-- ETH.PORTA_STAT: port A link state. -/
def ETH_PORTA_STAT : Nat := 0x40110010
/-- ETH.PORTB_STAT: port B link state. -/
def ETH_PORTB_STAT : Nat := 0x40110014
/-- ETH.MAC_HI: MAC address bytes 0 and 1. -/
def ETH_MAC_HI : Nat := 0x40110018
/-- ETH.MAC_LO: MAC address bytes 2 to 5. -/
def ETH_MAC_LO : Nat := 0x4011001C
/-- ETH.PRP_DUP: duplicates discarded, wrapping. -/
def ETH_PRP_DUP : Nat := 0x40110020
/-- ETH.PRP_ERR: wrong-LAN counts. -/
def ETH_PRP_ERR : Nat := 0x40110024
/-- ETH.PRP_NODES: node table and path-loss time. -/
def ETH_PRP_NODES : Nat := 0x40110028
/-- ETH.RXA_ERR: port A receive errors. -/
def ETH_RXA_ERR : Nat := 0x4011002C
/-- ETH.RXB_ERR: port B receive errors. -/
def ETH_RXB_ERR : Nat := 0x40110030
/-- ETH.RX_DROP: filtered and unbuffered frames. -/
def ETH_RX_DROP : Nat := 0x40110034
/-- ETH.LATENCY_A: port A fixed latencies. -/
def ETH_LATENCY_A : Nat := 0x40110038
/-- ETH.LATENCY_B: port B fixed latencies. -/
def ETH_LATENCY_B : Nat := 0x4011003C
/-! Block TIM at 0x40120000. -/
/-- TIM.ID: block version and time-base count. -/
def TIM_ID : Nat := 0x40120000
/-- TIM.CTRL: capture. -/
def TIM_CTRL : Nat := 0x40120004
/-- TIM.CONFIG: PTP and validity settings from configuration. -/
def TIM_CONFIG : Nat := 0x40120008
/-- TIM.STAT: time flags. -/
def TIM_STAT : Nat := 0x4012000C
/-- TIM.STAT_COUNT: occurrence counters of the TIM.STAT flags. -/
def TIM_STAT_COUNT : Nat := 0x40120010
/-- TIM.SERVO: servo state and slave port. -/
def TIM_SERVO : Nat := 0x40120014
/-- TIM.OFFSET: last offset, ns. -/
def TIM_OFFSET : Nat := 0x40120018
/-- TIM.PATH_DELAY: mean peer delay of the slave port, ns. -/
def TIM_PATH_DELAY : Nat := 0x4012001C
/-- TIM.FREQ: PLANT frequency correction. -/
def TIM_FREQ : Nat := 0x40120020
/-- TIM.HOLD: holdover time and error bound. -/
def TIM_HOLD : Nat := 0x40120024
/-- TIM.GM_ID_HI: grandmaster clockIdentity bytes 0 to 3. -/
def TIM_GM_ID_HI : Nat := 0x40120028
/-- TIM.GM_ID_LO: grandmaster clockIdentity bytes 4 to 7. -/
def TIM_GM_ID_LO : Nat := 0x4012002C
/-- TIM.GM_QUALITY: grandmaster quality. -/
def TIM_GM_QUALITY : Nat := 0x40120030
/-- TIM.UTC: UTC offset and flags. -/
def TIM_UTC : Nat := 0x40120034
/-- TIM.MODEL: oscillator model state. -/
def TIM_MODEL : Nat := 0x40120038
/-- TIM.CAP_SEL: base shown by the capture registers. -/
def TIM_CAP_SEL : Nat := 0x40120040
/-- TIM.CAP_S_HI: captured value (R415). -/
def TIM_CAP_S_HI : Nat := 0x40120044
/-- TIM.CAP_S_LO: captured value (R415). -/
def TIM_CAP_S_LO : Nat := 0x40120048
/-- TIM.CAP_NS: captured value (R415). -/
def TIM_CAP_NS : Nat := 0x4012004C
/-- TIM.CAP_FRAC: captured value (R415). -/
def TIM_CAP_FRAC : Nat := 0x40120050
/-- TIM.ALARM_CFG: alarm k configuration, k from 0 to 1. -/
def TIM_ALARM_CFG (i : Nat) : Nat := 0x40120060 + 0x10 * i
/-- TIM.ALARM_S: target, low 32 bits of seconds. -/
def TIM_ALARM_S (i : Nat) : Nat := 0x40120064 + 0x10 * i
/-- TIM.ALARM_NS: target nanoseconds. -/
def TIM_ALARM_NS (i : Nat) : Nat := 0x40120068 + 0x10 * i
/-- TIM.ALARM_PERIOD: period, ns; 0 one-shot. -/
def TIM_ALARM_PERIOD (i : Nat) : Nat := 0x4012006C + 0x10 * i
/-- TIM.PPS_CFG: PPS_OUT configuration. -/
def TIM_PPS_CFG : Nat := 0x40120080
/-! Block CAN at 0x40130000. -/
/-- CANn.ID: block version, buffers, filters. -/
def CAN_ID (n : Nat) : Nat := 0x40130000 + 0x10000 * n
/-- CANn.CTRL: sleep, wake and recovery requests. -/
def CAN_CTRL (n : Nat) : Nat := 0x40130004 + 0x10000 * n
/-- CANn.COMMIT: commits the RWL registers. -/
def CAN_COMMIT (n : Nat) : Nat := 0x40130008 + 0x10000 * n
/-- CANn.MODE: operating mode and options. -/
def CAN_MODE (n : Nat) : Nat := 0x4013000C + 0x10000 * n
/-- CANn.NBT: nominal bit timing: 500 kbit/s, 80 %. -/
def CAN_NBT (n : Nat) : Nat := 0x40130010 + 0x10000 * n
/-- CANn.DBT: data bit timing: 2 Mbit/s, 75 %. -/
def CAN_DBT (n : Nat) : Nat := 0x40130014 + 0x10000 * n
/-- CANn.TDC: delay compensation. -/
def CAN_TDC (n : Nat) : Nat := 0x40130018 + 0x10000 * n
/-- CANn.STAT: controller flags. -/
def CAN_STAT (n : Nat) : Nat := 0x4013001C + 0x10000 * n
/-- CANn.STAT_COUNT0: occurrence counters of STAT bits 3 to 0. -/
def CAN_STAT_COUNT0 (n : Nat) : Nat := 0x40130020 + 0x10000 * n
/-- CANn.STAT_COUNT1: occurrence counters of STAT bits 7 to 4. -/
def CAN_STAT_COUNT1 (n : Nat) : Nat := 0x40130024 + 0x10000 * n
/-- CANn.ERR: error counters and state. -/
def CAN_ERR (n : Nat) : Nat := 0x40130028 + 0x10000 * n
/-- CANn.ERR_LAST: last error. -/
def CAN_ERR_LAST (n : Nat) : Nat := 0x4013002C + 0x10000 * n
/-- CANn.COLLISION: last collision identifier. -/
def CAN_COLLISION (n : Nat) : Nat := 0x40130030 + 0x10000 * n
/-- CANn.RXF_STAT: FIFO fill and overflows. -/
def CAN_RXF_STAT (n : Nat) : Nat := 0x40130034 + 0x10000 * n
/-- CANn.BUF_FLAG: buffer flags. -/
def CAN_BUF_FLAG (n : Nat) : Nat := 0x40130038 + 0x10000 * n
/-- CANn.BUF_ENABLE: buffer event enables. -/
def CAN_BUF_ENABLE (n : Nat) : Nat := 0x4013003C + 0x10000 * n
/-- CANn.BUF_COUNT0: FILLED counters, buffers 0 to 3 and 4 to 7. -/
def CAN_BUF_COUNT0 (n : Nat) : Nat := 0x40130040 + 0x10000 * n
/-- CANn.BUF_COUNT1: FILLED counters, buffers 0 to 3 and 4 to 7. -/
def CAN_BUF_COUNT1 (n : Nat) : Nat := 0x40130044 + 0x10000 * n
/-- CANn.BUF_OVW: overwrites per buffer. -/
def CAN_BUF_OVW (n : Nat) : Nat := 0x40130048 + 0x10000 * n
/-- CANn.TX_REQ: request slots again. -/
def CAN_TX_REQ (n : Nat) : Nat := 0x4013004C + 0x10000 * n
/-- CANn.TX_CANCEL: cancel slots (R438). -/
def CAN_TX_CANCEL (n : Nat) : Nat := 0x40130050 + 0x10000 * n
/-- CANn.TX_PENDING: slots requested or on the bus. -/
def CAN_TX_PENDING (n : Nat) : Nat := 0x40130054 + 0x10000 * n
/-- CANn.TX_LAST: last push and free slots. -/
def CAN_TX_LAST (n : Nat) : Nat := 0x40130058 + 0x10000 * n
/-- CANn.TX_RESULT: slot status (Table 14.2). -/
def CAN_TX_RESULT (n : Nat) (i : Nat) : Nat := 0x4013005C + 0x10000 * n + 0x4 * i
/-- CANn.WAKE_ID: wake frame identifier. -/
def CAN_WAKE_ID (n : Nat) : Nat := 0x4013006C + 0x10000 * n
/-- CANn.WAKE_MASK: wake frame mask. -/
def CAN_WAKE_MASK (n : Nat) : Nat := 0x40130070 + 0x10000 * n
/-- CANn.TT_CFG: network time role and reference identifier. -/
def CAN_TT_CFG (n : Nat) : Nat := 0x40130074 + 0x10000 * n
/-- CANn.TT_PERIOD: reference period, ns. -/
def CAN_TT_PERIOD (n : Nat) : Nat := 0x40130078 + 0x10000 * n
/-- CANn.TT_STAT: network time state. -/
def CAN_TT_STAT (n : Nat) : Nat := 0x4013007C + 0x10000 * n
/-- CANn.BUF_CFG: buffer b identifier. -/
def CAN_BUF_CFG (n : Nat) (i : Nat) : Nat := 0x40130080 + 0x10000 * n + 0x4 * i
/-- CANn.FLT_ID: filter f target and identifier. -/
def CAN_FLT_ID (n : Nat) (i : Nat) : Nat := 0x40130100 + 0x10000 * n + 0x8 * i
/-- CANn.FLT_MASK: filter f mask. -/
def CAN_FLT_MASK (n : Nat) (i : Nat) : Nat := 0x40130104 + 0x10000 * n + 0x8 * i
/-- CANn.RXF0_WIN: FIFO 0 head element (R431). -/
def CAN_RXF0_WIN (n : Nat) : Nat := 0x40131000 + 0x10000 * n
/-- CANn.RXF1_WIN: FIFO 1 head element. -/
def CAN_RXF1_WIN (n : Nat) : Nat := 0x40132000 + 0x10000 * n
/-- CANn.TX_WIN: push window (R436). -/
def CAN_TX_WIN (n : Nat) : Nat := 0x40133000 + 0x10000 * n
/-- CANn.BUF_WIN: buffer b element. -/
def CAN_BUF_WIN (n : Nat) (i : Nat) : Nat := 0x40134000 + 0x10000 * n + 0x80 * i
/-! Block REC at 0x40170000. -/
/-- REC.ID: block version and event code count. -/
def REC_ID : Nat := 0x40170000
/-- REC.CTRL: persistence request. -/
def REC_CTRL : Nat := 0x40170004
/-- REC.CONFIG: interval and rate from configuration. -/
def REC_CONFIG : Nat := 0x40170008
/-- REC.STAT: recorder flags. -/
def REC_STAT : Nat := 0x4017000C
/-- REC.STAT_COUNT: occurrence counters of the REC.STAT flags. -/
def REC_STAT_COUNT : Nat := 0x40170010
/-- REC.STAMP_HI: current stamp, high word. -/
def REC_STAMP_HI : Nat := 0x40170014
/-- REC.STAMP_LO: current stamp, low word. -/
def REC_STAMP_LO : Nat := 0x40170018
/-- REC.RSEQ: RSEQ of the newest committed record. -/
def REC_RSEQ : Nat := 0x4017001C
/-- REC.DETAIL: detail entries written and suppressed since Boot. -/
def REC_DETAIL : Nat := 0x40170020
/-! Block UPD at 0x40180000. -/
/-- UPD.ID: block version, image format, try limit. -/
def UPD_ID : Nat := 0x40180000
/-- UPD.STAT: update flags. -/
def UPD_STAT : Nat := 0x40180004
/-- UPD.STAT_COUNT: occurrence counters of the UPD.STAT flags. -/
def UPD_STAT_COUNT : Nat := 0x40180008
/-- UPD.SESSION: session state. -/
def UPD_SESSION : Nat := 0x4018000C
/-- UPD.BANKS: active banks, pending activations, tries. -/
def UPD_BANKS : Nat := 0x40180010
/-- UPD.FW_A_VER: VERSION in firmware banks A and B; 0 invalid. -/
def UPD_FW_A_VER : Nat := 0x40180014
/-- UPD.FW_B_VER: VERSION in firmware banks A and B; 0 invalid. -/
def UPD_FW_B_VER : Nat := 0x40180018
/-- UPD.PROG_A_VER: VERSION in program banks A and B; 0 invalid. -/
def UPD_PROG_A_VER : Nat := 0x4018001C
/-- UPD.PROG_B_VER: VERSION in program banks A and B; 0 invalid. -/
def UPD_PROG_B_VER : Nat := 0x40180020
/-- UPD.FLOOR: stored firmware floor. -/
def UPD_FLOOR : Nat := 0x40180024
/-- UPD.REFUSE: last refusal. -/
def UPD_REFUSE : Nat := 0x40180028
/-! Block RED at 0x40190000. -/
/-- RED.ID: block version and Last format. -/
def RED_ID : Nat := 0x40190000
/-- RED.CONFIG: mode and Insole copy interval. -/
def RED_CONFIG : Nat := 0x40190004
/-- RED.STAT: redundancy flags. -/
def RED_STAT : Nat := 0x40190008
/-- RED.STAT_COUNT: occurrence counters of the RED.STAT flags. -/
def RED_STAT_COUNT : Nat := 0x4019000C
/-- RED.ROLE: role, grant and ARB_ALIVE code. -/
def RED_ROLE : Nat := 0x40190010
/-- RED.ALIVE: ARB_ALIVE refresh (R471). -/
def RED_ALIVE : Nat := 0x40190014
/-- RED.LINK: partner link state. -/
def RED_LINK : Nat := 0x40190018
/-- RED.LAST_AGE: age of the newest fast set, ms. -/
def RED_LAST_AGE : Nat := 0x4019001C
/-- RED.LAST_SEQ: newest fast SET_SEQ, sent or committed. -/
def RED_LAST_SEQ : Nat := 0x40190020
/-- RED.FULL_SEQ: newest full SET_SEQ, sent or committed. -/
def RED_FULL_SEQ : Nat := 0x40190024
/-- RED.ERR: frame and set errors. -/
def RED_ERR : Nat := 0x40190028
/-- RED.PERSIST: Insole copy state. -/
def RED_PERSIST : Nat := 0x4019002C
/-! Block SYS at 0x40000000. -/
/-- SYS.ID: part number, revision, block version. -/
def SYS_ID : Nat := 0x40000000
/-- SYS.RESTART: host restart (R493). -/
def SYS_RESTART : Nat := 0x40000004
/-- SYS.STATE: controller state. -/
def SYS_STATE : Nat := 0x40000008
/-- SYS.STAT: system flags. -/
def SYS_STAT : Nat := 0x4000000C
/-- SYS.STAT_COUNT: occurrence counters of the SYS.STAT flags. -/
def SYS_STAT_COUNT : Nat := 0x40000010
/-- SYS.RESET_CAUSE: cause of this Boot. -/
def SYS_RESET_CAUSE : Nat := 0x40000014
/-- SYS.BOOT: start-up step and time. -/
def SYS_BOOT : Nat := 0x40000018
/-- SYS.CONFIG: system section of the configuration. -/
def SYS_CONFIG : Nat := 0x4000001C
/-- SYS.CONFIG_SEQ: CONFIG_SEQ of the loaded image. -/
def SYS_CONFIG_SEQ : Nat := 0x40000020
/-- SYS.TEMP: junction and package temperatures. -/
def SYS_TEMP : Nat := 0x40000024
/-- SYS.SERIAL_HI: serial number from the factory area. -/
def SYS_SERIAL_HI : Nat := 0x40000028
/-- SYS.SERIAL_LO: serial number from the factory area. -/
def SYS_SERIAL_LO : Nat := 0x4000002C
/-! Block CLK at 0x40010000. -/
/-- CLK.ID: block version and PLL count. -/
def CLK_ID : Nat := 0x40010000
/-- CLK.STAT: clock state and flags. -/
def CLK_STAT : Nat := 0x40010004
/-- CLK.STAT_COUNT: occurrence counters of the CLK.STAT flags. -/
def CLK_STAT_COUNT : Nat := 0x40010008
/-- CLK.AON: AON crystal against REFCLK. -/
def CLK_AON : Nat := 0x4001000C
/-! Block PWR at 0x40020000. -/
/-- PWR.ID: block version and rail count. -/
def PWR_ID : Nat := 0x40020000
/-- PWR.CTRL: hold-up self-test request. -/
def PWR_CTRL : Nat := 0x40020004
/-- PWR.STAT: supply state and flags. -/
def PWR_STAT : Nat := 0x40020008
/-- PWR.STAT_COUNT: occurrence counters of the PWR.STAT flags. -/
def PWR_STAT_COUNT : Nat := 0x4002000C
/-- PWR.VIN: VIN and VSUP. -/
def PWR_VIN : Nat := 0x40020010
/-- PWR.IIN: input current and power. -/
def PWR_IIN : Nat := 0x40020014
/-- PWR.RAILS: rails in regulation. -/
def PWR_RAILS : Nat := 0x40020018
/-- PWR.HOLDUP: last self-test. -/
def PWR_HOLDUP : Nat := 0x4002001C
/-- PWR.TEMP: Sole junction and lowest VIN. -/
def PWR_TEMP : Nat := 0x40020020

end Sys2Proof.Machine.Reg
end

