-- ==== Sys2Proof/Machine/RegTable.lean ====
section
/-!
DEFINITION. The access table: for every register that resets to something other than 0 or that has
a writable field, its reset value and the bits of each access code of Table 0.3 (R13), taken from
the register maps and field tables of the spec. A register that is not listed is read only with
reset 0; an unassigned offset behaves the same (R12).
-/

namespace Sys2Proof.Machine

/-- One row of the access table. The row stands for the registers at
base + i * strideI + j * strideJ for i below countI and j below countJ. -/
structure RegRow where
  base : Nat
  countI : Nat := 1
  strideI : Nat := 0x10000
  countJ : Nat := 1
  strideJ : Nat := 4
  reset : Word := 0
  rw : Word := 0
  rwl : Word := 0
  w1c : Word := 0
  w1s : Word := 0
  wo : Word := 0
deriving DecidableEq, Repr


/-- Access rows of block SYS. -/
def regRowsSys : List RegRow := [
  { base := 0x40000000, reset := 0x12A00101 },
  { base := 0x40000004, wo := 0xFFFFFFFF },
  { base := 0x40000008, reset := 0x10000000 },
  { base := 0x4000000C, w1c := 0x7 },
  { base := 0x40000010, rw := 0xFFFFFF } ]

/-- Access rows of block CLK. -/
def regRowsClk : List RegRow := [
  { base := 0x40010000, reset := 0x10003 },
  { base := 0x40010004, w1c := 0x7 },
  { base := 0x40010008, rw := 0xFFFFFF } ]

/-- Access rows of block PWR. -/
def regRowsPwr : List RegRow := [
  { base := 0x40020000, reset := 0x10009 },
  { base := 0x40020004, w1s := 0x1 },
  { base := 0x40020008, w1c := 0xF },
  { base := 0x4002000C, rw := 0xFFFFFFFF },
  { base := 0x40020018, reset := 0x1FF },
  { base := 0x4002001C, reset := 0x40000000 } ]

/-- Access rows of block EVT. -/
def regRowsEvt : List RegRow := [
  { base := 0x40030000, reset := 0x10080 },
  { base := 0x40030010, countJ := 4, strideJ := 0x4, w1c := 0xFFFFFFFF },
  { base := 0x40030020, countJ := 4, strideJ := 0x4, reset := 0xFFFFFFFF, rw := 0xFFFFFFFF },
  { base := 0x40030030, countJ := 4, strideJ := 0x4, rw := 0xFFFFFFFF },
  { base := 0x40030048, rw := 0x1FF },
  { base := 0x40030050, countJ := 4, strideJ := 0x4, wo := 0xFFFFFFFF } ]

/-- Access rows of block MEM. -/
def regRowsMem : List RegRow := [
  { base := 0x40040000, reset := 0x10010 },
  { base := 0x40040004, w1c := 0x3F },
  { base := 0x40040008, rw := 0xFFFFFFFF },
  { base := 0x4004000C, rw := 0xFFFF },
  { base := 0x40040028, reset := 0x90 } ]

/-- Access rows of block DMA. -/
def regRowsDma : List RegRow := [
  { base := 0x40050000, reset := 0x11030 },
  { base := 0x40050004, reset := 0x1 },
  { base := 0x40050008, w1c := 0x1F },
  { base := 0x4005000C, rw := 0xFFFFFFFF },
  { base := 0x40050018, w1s := 0x7 },
  { base := 0x40050100, countJ := 16, strideJ := 0x40, w1s := 0x3F },
  { base := 0x40050104, countJ := 16, strideJ := 0x40, reset := 0xA, rw := 0xFFFFFFFF },
  { base := 0x4005011C, countJ := 16, strideJ := 0x40, rw := 0xFFF },
  { base := 0x40050128, countJ := 16, strideJ := 0x40, rw := 0x1FF } ]

/-- Access rows of block TTH. -/
def regRowsTth : List RegRow := [
  { base := 0x40060000, reset := 0x10330 },
  { base := 0x40060004, w1s := 0x3 },
  { base := 0x40060010, w1c := 0x7 },
  { base := 0x40060014, w1c := 0x7 },
  { base := 0x40060018, reset := 0x3 },
  { base := 0x40060048, reset := 0xFFFFFFFF },
  { base := 0x4006004C, rw := 0xFFFFFF },
  { base := 0x40060050, rw := 0xFFFFFF } ]

/-- Access rows of block SWP. -/
def regRowsSwp : List RegRow := [
  { base := 0x40070000, reset := 0x10010 },
  { base := 0x40070004, w1s := 0x7 },
  { base := 0x40070014, w1c := 0xF },
  { base := 0x40070018, rw := 0xFFFFFFFF },
  { base := 0x4007002C, reset := 0xFFFF },
  { base := 0x40070044, w1c := 0x7 },
  { base := 0x40070048, rw := 0xFFFFFF } ]

/-- Access rows of block EST. -/
def regRowsEst : List RegRow := [
  { base := 0x40080000, reset := 0x10120 },
  { base := 0x40080008, w1c := 0xF },
  { base := 0x4008000C, rw := 0xFFFFFFFF },
  { base := 0x40080040, wo := 0xFF },
  { base := 0x40080044, rw := 0xFFFFFFFF },
  { base := 0x40080048, rw := 0xFFFFFFFF },
  { base := 0x4008004C, w1c := 0x3 },
  { base := 0x40080050, rw := 0xFFFF } ]

/-- Access rows of block CTL. -/
def regRowsCtl : List RegRow := [
  { base := 0x40090000, reset := 0x10010 },
  { base := 0x40090004, w1s := 0xFFFF },
  { base := 0x40090008, w1s := 0xFFFF },
  { base := 0x40090010, w1s := 0xFFFF },
  { base := 0x40090014, wo := 0x1 },
  { base := 0x40090018, w1c := 0xF },
  { base := 0x4009001C, rw := 0xFFFFFFFF },
  { base := 0x40090020, w1c := 0xFFFF },
  { base := 0x40090028, countJ := 4, strideJ := 0x4, rw := 0xFFFFFFFF },
  { base := 0x40090040, countJ := 8, strideJ := 0x4, reset := 0x80000000, rwl := 0xFFFFFFFF },
  { base := 0x40090060, countJ := 8, strideJ := 0x4, rw := 0xFFFFFF },
  { base := 0x40090090, reset := 0x66666 },
  { base := 0x40090100, w1s := 0x3 },
  { base := 0x40090104, rw := 0xFF00FFFF },
  { base := 0x40090108, rw := 0xFFFFFF },
  { base := 0x4009010C, rw := 0xFFFFFFFF },
  { base := 0x40090110, rw := 0xFFFFFF },
  { base := 0x40090114, reset := 0x1, rw := 0xFFFFFFFF },
  { base := 0x40090118, reset := 0x4000, rw := 0x7FFF },
  { base := 0x4009011C, w1c := 0x3 },
  { base := 0x40090120, rw := 0xFFFF },
  { base := 0x40090180, countJ := 16, strideJ := 0x4, rw := 0xFFFFFFFF },
  { base := 0x400901C0, countJ := 16, strideJ := 0x4, rw := 0xFFFFFF },
  { base := 0x40090200, countJ := 16, strideJ := 0x4, rw := 0xFFFFFFFF },
  { base := 0x40090400, countJ := 16, strideJ := 0x40, rw := 0xEFFFFF00 },
  { base := 0x40090404, countJ := 16, strideJ := 0x40, rw := 0xFFFFFFFF },
  { base := 0x40090408, countJ := 16, strideJ := 0x40, rw := 0xFFF0FF00 },
  { base := 0x4009040C, countJ := 16, strideJ := 0x40, rw := 0xFFFFFF },
  { base := 0x40090410, countJ := 16, strideJ := 0x40, rw := 0xFFFFFF },
  { base := 0x40090414, countJ := 16, strideJ := 0x40, rw := 0xFFFFFF },
  { base := 0x40090418, countJ := 16, strideJ := 0x40, rw := 0xFFFFFF },
  { base := 0x4009041C, countJ := 16, strideJ := 0x40, rw := 0xFFFFFF },
  { base := 0x40090420, countJ := 16, strideJ := 0x40, rw := 0xFFFFFF },
  { base := 0x40090424, countJ := 16, strideJ := 0x40, rw := 0xFFFFFF },
  { base := 0x40090428, countJ := 16, strideJ := 0x40, rw := 0xFFFFFF },
  { base := 0x4009042C, countJ := 16, strideJ := 0x40, rw := 0xFFFFFF },
  { base := 0x40090430, countJ := 16, strideJ := 0x40, rw := 0xFFFFFF },
  { base := 0x40090434, countJ := 16, strideJ := 0x40, reset := 0x7FFFFF, rw := 0xFFFFFF },
  { base := 0x40090438, countJ := 16, strideJ := 0x40, reset := 0x800000, rw := 0xFFFFFF } ]

/-- Access rows of block PWM. -/
def regRowsPwm : List RegRow := [
  { base := 0x400A0000, reset := 0x10010 },
  { base := 0x400A0004, w1c := 0xF },
  { base := 0x400A0008, rw := 0xFFFFFFFF },
  { base := 0x400A000C, wo := 0x3 },
  { base := 0x400A0010, rw := 0xFFFF },
  { base := 0x400A0020, countJ := 4, strideJ := 0x4, reset := 0x13880, rw := 0xFFFFFF },
  { base := 0x400A0030, countJ := 4, strideJ := 0x4, rw := 0xF00080FF },
  { base := 0x400A0100, countJ := 16, strideJ := 0x20, rw := 0xFFF00000 },
  { base := 0x400A0104, countJ := 16, strideJ := 0x20, rw := 0xFFFFFF },
  { base := 0x400A0108, countJ := 16, strideJ := 0x20, reset := 0x10000000, rw := 0xFFFFFFFF },
  { base := 0x400A010C, countJ := 16, strideJ := 0x20, reset := 0xFFFF0000, rw := 0xFFFFFFFF },
  { base := 0x400A0110, countJ := 16, strideJ := 0x20, rw := 0x1FFF1FFF } ]

/-- Access rows of block PCS. -/
def regRowsPcs : List RegRow := [
  { base := 0x400B0000, reset := 0x10020 },
  { base := 0x400B0008, w1c := 0x7F },
  { base := 0x400B000C, rw := 0xFFFFFFFF },
  { base := 0x400B0010, rw := 0xFFFFFF },
  { base := 0x400B0040, countJ := 4, strideJ := 0x4, rw := 0xFFFFFFFF },
  { base := 0x400B0050, countJ := 4, strideJ := 0x4, rw := 0xFFFFFFFF },
  { base := 0x400B0060, rw := 0xF },
  { base := 0x400B0064, wo := 0x1 },
  { base := 0x400B0068, reset := 0xFF },
  { base := 0x400B0070, rw := 0xFFFFFFFF },
  { base := 0x400B0074, rw := 0xFFFFFFFF },
  { base := 0x400B0078, reset := 0x8000, rw := 0xFFFF },
  { base := 0x400B007C, rw := 0xFFFF },
  { base := 0x400B0080, w1s := 0x1 },
  { base := 0x400B00C0, rw := 0x1 },
  { base := 0x400B0100, countJ := 16, strideJ := 0x4, rw := 0xFFFFFFFF },
  { base := 0x400B0140, countJ := 16, strideJ := 0x4, rw := 0xFFFFFFFF },
  { base := 0x400B0180, countJ := 16, strideJ := 0x4, rw := 0xFFFFFFFF } ]

/-- Access rows of block SAF. -/
def regRowsSaf : List RegRow := [
  { base := 0x400C0000, reset := 0x10010 },
  { base := 0x400C0004, reset := 0x10 },
  { base := 0x400C0010, w1c := 0xF },
  { base := 0x400C0014, rw := 0xFFFFFFFF },
  { base := 0x400C0018, wo := 0xFFFFFFFF },
  { base := 0x400C001C, rw := 0xF } ]

/-- Access rows of block SOLE. -/
def regRowsSole : List RegRow := [
  { base := 0x400D0000, reset := 0x10004 },
  { base := 0x400D0004, w1c := 0x1F },
  { base := 0x400D0008, rw := 0xFFFFFFFF },
  { base := 0x400D0024, rw := 0x3F },
  { base := 0x400D0038, rw := 0xFF },
  { base := 0x400D0040, countJ := 4, strideJ := 0x8, rw := 0x40000007 },
  { base := 0x400D0044, countJ := 4, strideJ := 0x8, reset := 0x1FFF2000, rw := 0x3FFF3FFF } ]

/-- Access rows of block WLT. -/
def regRowsWlt : List RegRow := [
  { base := 0x400E0000, reset := 0x10220 },
  { base := 0x400E0004, w1c := 0x7 },
  { base := 0x400E0008, rw := 0xFFFFFF },
  { base := 0x400E0014, w1s := 0xFFFFFFFF },
  { base := 0x400E0018, rw := 0xFFFFFFFF } ]

/-- Access rows of block PRG. -/
def regRowsPrg : List RegRow := [
  { base := 0x400F0000, reset := 0x10230 },
  { base := 0x400F0004, w1s := 0xF },
  { base := 0x400F000C, w1c := 0x3F },
  { base := 0x400F0010, rw := 0xFFFFFFFF },
  { base := 0x400F0014, rw := 0xFFFF },
  { base := 0x400F0020, rw := 0x1 } ]

/-- Access rows of block CMD. -/
def regRowsCmd : List RegRow := [
  { base := 0x40100000, reset := 0x10305 },
  { base := 0x40100004, reset := 0x12C },
  { base := 0x40100008, w1c := 0xF },
  { base := 0x4010000C, rw := 0xFFFFFFFF } ]

/-- Access rows of block ETH. -/
def regRowsEth : List RegRow := [
  { base := 0x40110000, reset := 0x10002 },
  { base := 0x40110008, w1c := 0xF },
  { base := 0x4011000C, rw := 0xFFFFFFFF } ]

/-- Access rows of block TIM. -/
def regRowsTim : List RegRow := [
  { base := 0x40120000, reset := 0x10007 },
  { base := 0x40120004, w1s := 0x1 },
  { base := 0x4012000C, w1c := 0xF },
  { base := 0x40120010, rw := 0xFFFFFFFF },
  { base := 0x40120040, rw := 0x7 },
  { base := 0x40120060, countJ := 2, strideJ := 0x10, rw := 0xC0000000 },
  { base := 0x40120064, countJ := 2, strideJ := 0x10, rw := 0xFFFFFFFF },
  { base := 0x40120068, countJ := 2, strideJ := 0x10, rw := 0xFFFFFFFF },
  { base := 0x4012006C, countJ := 2, strideJ := 0x10, rw := 0xFFFFFFFF },
  { base := 0x40120080, reset := 0x64, rw := 0xC00001FF } ]

/-- Access rows of block CAN. -/
def regRowsCan : List RegRow := [
  { base := 0x40130000, countI := 4, reset := 0x10840 },
  { base := 0x40130004, countI := 4, w1s := 0x7 },
  { base := 0x40130008, countI := 4, wo := 0x1 },
  { base := 0x4013000C, countI := 4, reset := 0x60000100, rwl := 0xFF80FF00 },
  { base := 0x40130010, countI := 4, reset := 0x13E0F0F, rwl := 0xFFFF7F7F },
  { base := 0x40130014, countI := 4, reset := 0x10D0404, rwl := 0x1F1F0F0F },
  { base := 0x40130018, countI := 4, reset := 0x801E0000, rwl := 0x807F0000 },
  { base := 0x4013001C, countI := 4, w1c := 0xFF },
  { base := 0x40130020, countI := 4, rw := 0xFFFFFFFF },
  { base := 0x40130024, countI := 4, rw := 0xFFFFFFFF },
  { base := 0x40130038, countI := 4, w1c := 0xFF },
  { base := 0x4013003C, countI := 4, reset := 0xFF, rw := 0xFF },
  { base := 0x40130040, countI := 4, rw := 0xFFFFFFFF },
  { base := 0x40130044, countI := 4, rw := 0xFFFFFFFF },
  { base := 0x4013004C, countI := 4, w1s := 0xFFFFFFFF },
  { base := 0x40130050, countI := 4, w1s := 0xFFFFFFFF },
  { base := 0x40130058, countI := 4, reset := 0x2000 },
  { base := 0x4013006C, countI := 4, rwl := 0x3FFFFFFF },
  { base := 0x40130070, countI := 4, reset := 0x1FFFFFFF, rwl := 0x1FFFFFFF },
  { base := 0x40130074, countI := 4, rwl := 0xFFFFFFFF },
  { base := 0x40130078, countI := 4, reset := 0xF4240, rwl := 0xFFFFFFFF },
  { base := 0x40130080, countI := 4, countJ := 8, strideJ := 0x4, rwl := 0xBFFFFFFF },
  { base := 0x40130100, countI := 4, countJ := 64, strideJ := 0x8, rwl := 0xFFFFFFFF },
  { base := 0x40130104, countI := 4, countJ := 64, strideJ := 0x8, rwl := 0x9FFFFFFF } ]

/-- Access rows of block REC. -/
def regRowsRec : List RegRow := [
  { base := 0x40170000, reset := 0x10400 },
  { base := 0x40170004, w1s := 0x1 },
  { base := 0x40170008, reset := 0xF0006 },
  { base := 0x4017000C, w1c := 0x7 },
  { base := 0x40170010, rw := 0xFFFFFF } ]

/-- Access rows of block UPD. -/
def regRowsUpd : List RegRow := [
  { base := 0x40180000, reset := 0x10103 },
  { base := 0x40180004, w1c := 0xF },
  { base := 0x40180008, rw := 0xFFFFFFFF } ]

/-- Access rows of block RED. -/
def regRowsRed : List RegRow := [
  { base := 0x40190000, reset := 0x10001 },
  { base := 0x40190008, w1c := 0xF },
  { base := 0x4019000C, rw := 0xFFFFFFFF },
  { base := 0x40190014, rw := 0xFFFFFFFF },
  { base := 0x4019001C, reset := 0xFFFFFFFF } ]

/-- The rows of one block, chosen by the 64 KB block an address lies in (Table 1.9). -/
def regRowsOf (addr : Nat) : List RegRow :=
  match addr / 0x10000 with
  | 0x4000 => regRowsSys
  | 0x4001 => regRowsClk
  | 0x4002 => regRowsPwr
  | 0x4003 => regRowsEvt
  | 0x4004 => regRowsMem
  | 0x4005 => regRowsDma
  | 0x4006 => regRowsTth
  | 0x4007 => regRowsSwp
  | 0x4008 => regRowsEst
  | 0x4009 => regRowsCtl
  | 0x400A => regRowsPwm
  | 0x400B => regRowsPcs
  | 0x400C => regRowsSaf
  | 0x400D => regRowsSole
  | 0x400E => regRowsWlt
  | 0x400F => regRowsPrg
  | 0x4010 => regRowsCmd
  | 0x4011 => regRowsEth
  | 0x4012 => regRowsTim
  | 0x4013 => regRowsCan
  | 0x4014 => regRowsCan
  | 0x4015 => regRowsCan
  | 0x4016 => regRowsCan
  | 0x4017 => regRowsRec
  | 0x4018 => regRowsUpd
  | 0x4019 => regRowsRed
  | _ => []

/-- Whether a row covers an address. -/
def RegRow.covers (r : RegRow) (addr : Nat) : Bool :=
  have d := addr - r.base
  have i := d / r.strideI
  have e := d % r.strideI
  decide (r.base ≤ addr) && decide (i < r.countI) && decide (e % r.strideJ = 0) &&
    decide (e / r.strideJ < r.countJ)

/-- The access row of an address, or the read-only row with reset 0. -/
def regRow (addr : Nat) : RegRow :=
  ((regRowsOf addr).find? (fun r => r.covers addr)).getD { base := addr }

/-- The value a register holds right after reset: the Reset column of its register map. -/
def regReset (addr : Nat) : Word := (regRow addr).reset

end Sys2Proof.Machine
end

