-- ==== Sys2Proof/Machine/Sparse.lean ====
section
/-!
DEFINITION. The one sparse table of the model: a list of (key, value) pairs with strictly rising
keys, in which no entry equals what an unlisted key reads as. Registers, GSRAM, the Insole and
every per-unit table of the spec are held in it, so equal contents are equal lists.
-/

namespace Sys2Proof.Machine

/-- What a key reads as: its entry, or the default of an unlisted key. -/
def Sparse.get {α : Type} (dflt : Nat → α) : List (Nat × α) → Nat → α
  | [], k => dflt k
  | (j, v) :: rest, k => if j = k then v else Sparse.get dflt rest k

/-- Put a value under a key, keeping the keys rising and dropping an entry equal to the default. -/
def Sparse.set {α : Type} [DecidableEq α] (dflt : Nat → α) :
    List (Nat × α) → Nat → α → List (Nat × α)
  | [], k, v => if v = dflt k then [] else [(k, v)]
  | (j, w) :: rest, k, v =>
    if k < j then (if v = dflt k then (j, w) :: rest else (k, v) :: (j, w) :: rest)
    else if k = j then (if v = dflt k then rest else (k, v) :: rest)
    else (j, w) :: Sparse.set dflt rest k v

/-- Every key of the list is above the bound. -/
def Sparse.above {α : Type} (b : Nat) : List (Nat × α) → Bool
  | [] => true
  | (j, _) :: rest => decide (b < j) && Sparse.above b rest

/-- The canonical form: strictly rising keys and no entry equal to its default. -/
def Sparse.wf {α : Type} [DecidableEq α] (dflt : Nat → α) : List (Nat × α) → Bool
  | [] => true
  | (j, v) :: rest => decide (v ≠ dflt j) && Sparse.above j rest && Sparse.wf dflt rest

end Sys2Proof.Machine
end

