-- ==== Sys2Proof/Machine/State.lean ====
section
/-!
DEFINITION. The state of the controller: every register, memory, queue, counter, mode and pin that
the spec gives it, as plain data, and the queue of commands that are waiting. Everything a register
shows is held in the register store and nowhere else, except views that a bus read computes: SYS.STATE of the
controller state (R5); SAF.STATE, DEMAND, FAULT, OUT_STAT, DROGUE, INPUT and INPUT_RAW, and SOLE.DEMAND and DROGUE, of
the safety channels; REC.STAMP_HI and STAMP_LO of the stamp counts (R451); the selected capture of TIM.CAP (R415);
the CAN receive windows (R431); and ages and remaining times, which count from the moment held here.
-/

namespace Sys2Proof.Machine

/-- The six controller states of Table 0.1. Drogue is an overlay held beside it. -/
inductive Mode where
  | off | boot | standby | run | stop | safe
deriving DecidableEq, Repr

/-- A time base of R414: seconds, nanoseconds below 10^9 and a 32-bit fraction of a nanosecond. -/
structure Stamp where
  sec : Nat := 0
  ns : Nat := 0
  frac : Nat := 0
deriving DecidableEq, Repr

/-- What leaves the controller at a pin, a port or a link, in the order it left. -/
inductive Output where
  /-- a Tether frame or slot on a port's transmit pair (R52, R54) -/
  | tetherFrame (port : Nat) (frame : Bytes)
  | tetherSlot (port : Nat) (kind : SlotKind)
  /-- a PCS answer frame (R238) -/
  | pcsFrame (frame : Bytes)
  /-- an Ethernet frame on one port, with its redundancy trailer where it has one (R407) -/
  | ethFrame (port : Nat) (frame : Bytes)
  /-- the payload of a UDP datagram to a peer, sent as a PRP pair (R332, R359, R306) -/
  | udp (peer : Nat) (port : Nat) (payload : Bytes)
  /-- bytes on the service UART (R346) -/
  | uart (payload : Bytes)
  /-- a CAN element sent on a controller's bus (R437) -/
  | canFrame (ctrl : Nat) (element : Bytes)
  /-- a frame on the partner link (R476) -/
  | partnerFrame (frame : Bytes)
  /-- a cross-check record of a safety channel (R252) -/
  | crossCheck (channel : Nat) (record : Bytes)
  /-- an event delivered to the service core (R40) -/
  | eventToCore (source : Nat) (detail : Nat)
  /-- an error response to an access (R11, R34) -/
  | errorResponse (addr : Nat)
deriving DecidableEq, Repr

/-- Supply, reset and clocks (chapter 17): what the registers of SYS, CLK and PWR do not show. -/
structure Supply where
  /-- VIN has been valid since the last Off (Table 17.1). -/
  vinOk : Bool := true
  /-- NRST is low and the supervisor has acted on it (R492). -/
  nrstLow : Bool := false
  /-- channel 2's time, ns, when the supervisor acted on it (SOLE.RESET). -/
  nrstAt : Nat := 0
  /-- the Vamp is held in reset through KW_RESET (R274, R491). -/
  held : Bool := false
  /-- a thermal shutdown holds the Vamp in reset (R504). -/
  thermalHold : Bool := false
  /-- REFCLK is lost and the Vamp domains are stopped (R494). -/
  refclkLost : Bool := false
  /-- VIN_LOW is in force: no Insole program or erase starts (R486). -/
  insoleHold : Bool := false
  /-- the hold-up self-test running: the input current taken, mA (R489). -/
  testIin : Option Nat := none
  /-- a hold-up self-test has failed since Boot and none has passed after it (R489, R461). -/
  holdupBad : Bool := false
  /-- operating seconds at the last hold-up self-test (R489). -/
  testAt : Nat := 0
  /-- AON: power-cycle count and operating seconds since manufacture (R451); the count of the first Boot is 1. -/
  powerCycles : Nat := 1
  opSeconds : Nat := 0
  /-- the AON counts did not survive Off (R451, R490). -/
  aonLost : Bool := false
  /-- the Boot in progress is a takeover Boot (R481). -/
  takeover : Bool := false
  /-- the configuration was found absent or refused at this Boot (R499), with its refusal. -/
  unconfigured : Bool := false
  /-- a Boot is in progress; its steps 1 to 11 of Table 17.4 have been taken; it is held (R498). -/
  booting : Bool := true
  loaded : Bool := false
  bootHeld : Bool := false
  /-- where a takeover Boot took its state from (Table 16.9). -/
  source : Nat := 3
deriving DecidableEq, Repr

/-- The Insole operations (R453). -/
inductive InsoleOp where
  | journal
  | journalErase
  | last
  | persist
  | config
  | recorder
  | recorderErase
  | image
  | imageErase
deriving DecidableEq, Repr

/-- The die-to-die links (R20 to R24): whether each is up, and the transmissions of the flit or
transfer in hand that have failed. -/
structure Links where
  vsUp : Bool := true
  /-- Sole to Vamp: failures of the flit in hand and the sequence number expected. -/
  vsFails : Nat := 0
  vsSeq : Nat := 0
  /-- Vamp to Sole: the same. -/
  soleFails : Nat := 0
  soleSeq : Nat := 0
  /-- cross-check flits that wait, Sole to Vamp and Vamp to Sole (R20). -/
  crossVamp : Nat := 0
  crossSole : Nat := 0
  viFails : Nat := 0
  /-- areas of Table 1.2, counted from 0, in which a cut program operation has left a page undefined (R24). -/
  spoilt : List Nat := []
  /-- the VS link has been down since this MONO ns. -/
  downSince : Option Nat := none
  /-- areas of Table 1.2, counted from 0, that exhausted spares have turned read-only (R456). -/
  readOnly : List Nat := []
  /-- Insole operations begun, in the order in which they run (R453). -/
  insole : List InsoleOp := []
deriving DecidableEq, Repr

/-- The event controller beside its registers (R39 to R46): the next RECORD_SEQ. -/
structure Evt where
  recordSeq : Nat := 0
deriving DecidableEq, Repr

/-- A configuration item: a key 256 * section + item of Table 17.6 and its values (R500). -/
abbrev CfgItems := List (Nat × List Word)

/-- A stored configuration image (R499). -/
structure CfgImage where
  seq : Nat
  items : CfgItems
deriving DecidableEq, Repr

/-- The device record (R499), which only firmware writes: banks, tries, failed marks and floor; owner key and
locks. The flags fwB and progB say that bank B is the active one. -/
structure DeviceRec where
  fwB : Bool := false
  fwPending : Bool := false
  fwTries : Nat := 0
  fwFailed : Bool := false
  progB : Bool := false
  progPending : Bool := false
  progTries : Nat := 0
  progFailed : Bool := false
  floor : Nat := 0
  key : Option Bytes := none
  updateLock : Bool := false
  configLock : Bool := false
deriving DecidableEq, Repr

/-- A stored safety set (R279, R499): its sequence, its section-10 items and its bytes. -/
structure SafetySet where
  seq : Nat
  items : CfgItems
  bytes : Bytes
deriving DecidableEq, Repr

/-- The configuration area (R499): the two image slots, the write in progress, the bytes staged by
CONFIG_WRITE, the items in force since Boot, and the safety set's items. -/
structure ConfigArea where
  slotA : Option CfgImage := none
  slotB : Option CfgImage := none
  staged : List (Nat × Byte) := []
  writing : Option (CfgImage × Bytes) := none
  items : CfgItems := []
  seq : Nat := 0
  /-- the CRC-32 that ends the image in force. -/
  crc : Nat := 0
  /-- the image bytes of each slot. -/
  bytesA : Bytes := []
  bytesB : Bytes := []
  /-- the device record in force and as stored, and the operations that wait for its write. -/
  dev : DeviceRec := {}
  devStored : DeviceRec := {}
  devOps : List (Nat × Bytes) := []
  /-- the newest stored safety set, and one being stored. -/
  safety : Option SafetySet := none
  safetyWrite : Option SafetySet := none
  /-- device-record contents of R499: K1 and K2 of R422. -/
  k1 : Word := 0
  k2 : Word := 0
  deviceWrite : Bool := false
deriving DecidableEq, Repr

/-- The counter entry of one event code (Table 15.3). -/
structure RecCounter where
  count : Nat := 0
  first : Nat := 0
  last : Nat := 0
deriving DecidableEq, Repr

/-- A detail entry (Table 15.4). -/
structure DetailEntry where
  seq : Nat
  code : Nat
  suppressed : Nat
  detail : Nat
  stamp : Nat
  plantS : Nat
  plantNs : Nat
deriving DecidableEq, Repr

/-- A histogram or dwell bin of the live copy: whole seconds and the microseconds beyond (R446). -/
structure RecBin where
  seconds : Nat := 0
  micros : Nat := 0
deriving DecidableEq, Repr

/-- An extreme value and the stamp of its first occurrence; stamp 0 while there is none (R446). -/
structure Extreme where
  value : Word := 0
  stamp : Nat := 0
deriving DecidableEq, Repr

/-- A cell block or the string block (Table 15.2): bins 0 to 63 the first histogram, 64 to 127 the
second, 128 to 639 the dwell matrix; the four extremes in the table's order. -/
structure RecBlock where
  bins : List (Nat × RecBin) := []
  ext0 : Extreme := {}
  ext1 : Extreme := {}
  ext2 : Extreme := {}
  ext3 : Extreme := {}
deriving DecidableEq, Repr

/-- A summary record (R452, Table 15.5); block 0 is the string block, block c cell c's. -/
structure RecSummary where
  rseq : Nat
  cellCount : Nat
  stamp : Nat
  plantS : Nat
  plantNs : Nat
  vLo : Word
  vHi : Word
  iRated : Word
  soleScan : Nat
  soleStamp : Nat
  nextEntry : Nat
  counters : List (Nat × RecCounter)
  blocks : List (Nat × RecBlock)
deriving DecidableEq, Repr

/-- The recorder (chapter 15): live copy, token buckets, page buffer, ring and summary slots. -/
structure Recorder where
  counters : List (Nat × RecCounter) := []
  /-- tokens taken from each code's bucket of REC_RATE (R450). -/
  spent : List (Nat × Nat) := []
  /-- occurrences of a code without a token since its last entry (R450). -/
  suppressed : List (Nat × Nat) := []
  page : List DetailEntry := []
  nextEntry : Nat := 0
  /-- page index in the detail ring of the newest page plus one (R453). -/
  ringPos : Nat := 0
  ring : List (Nat × List DetailEntry) := []
  /-- the sector the ring enters next is being erased, so a page waits (R453). -/
  ringErasing : Bool := false
  blocks : List (Nat × RecBlock) := []
  slotA : Option RecSummary := none
  slotB : Option RecSummary := none
  /-- the summary write in progress: its cause and snapshot (R453). -/
  writing : Option (Nat × RecSummary) := none
  /-- a summary write that waits for its snapshot at the next sweep boundary: its cause (R453). -/
  due : Option Nat := none
  /-- the record in hand failed its read-back once (R183). -/
  retried : Bool := false
  /-- the slot that does not hold the newest record is being erased (R453). -/
  erasing : Bool := false
  /-- causes of triggers held during a write, merged into one further write (R453). -/
  held : List Nat := []
  /-- MONO second of the last summary write triggered by a safety event (R453). -/
  safetyAt : Option Nat := none
  /-- a sweep record has been counted since Boot (R447). -/
  started : Bool := false
  soleScan : Nat := 0
  soleStamp : Nat := 0
deriving DecidableEq, Repr

/-- The parsed manifest of an image session (Table 15.6). -/
structure Manifest where
  target : Nat
  blocks : Nat
  version : Nat
  compatMin : Nat
  compatMax : Nat
  imageLen : Nat
  floor : Nat
  key : Bytes
  hashes : List Bytes
  signature : Bytes
  signed : Bytes
deriving DecidableEq, Repr

/-- The image update function (R457 to R464) beside the UPD registers. -/
structure Update where
  /-- manifest bytes received and the manifest length announced (IMAGE_BEGIN). -/
  manifestLen : Nat := 0
  manifestBytes : Bytes := []
  target : Nat := 0
  manifest : Option Manifest := none
  /-- bytes held of the block in hand, and the block CRC carried with it. -/
  block : Nat := 0
  held : Bytes := []
  /-- the block being programmed into the bank (R459). -/
  programming : Option (Nat × Bytes) := none
  /-- stored blocks of the session, and the blocks of each bank: 0 and 1 firmware A and B,
  2 and 3 program A and B. -/
  bank0 : List (Nat × Bytes) := []
  bank1 : List (Nat × Bytes) := []
  bank2 : List (Nat × Bytes) := []
  bank3 : List (Nat × Bytes) := []
  /-- parameter bit 0 of the IMAGE_VERIFY in hand. -/
  activate : Bool := false
  /-- the FLOOR of a pending firmware image (R463). -/
  pendingFloor : Nat := 0
  /-- VERSION of the image in each bank, 0 invalid, in the order of the banks above. -/
  ver0 : Nat := 0
  ver1 : Nat := 0
  ver2 : Nat := 0
  ver3 : Nat := 0
  /-- the firmware bank that runs; failed VERSIONs whose roll-back is reported once the bank runs. -/
  runsB : Bool := false
  rolledFw : Option Nat := none
  rolledProg : Option Nat := none
  /-- operations that wait for the erase, for a block to be stored, and for the verification (R459 to R462). -/
  eraseOp : Option Nat := none
  blockOp : Option Nat := none
  verifyOp : Option Nat := none
  /-- block CRC carried with the block in hand. -/
  blockCrc : Word := 0
deriving DecidableEq, Repr

/-- A holdover (R422): MONO ns of entry and of the doubling of σ_T; b0 in ns; σ_y and σ_T in 10^-15; σ_A in 10^-21 per
second; and a bound that b is known to have passed, ns. -/
structure Holdover where
  atNs : Nat := 0
  doubledNs : Nat := 0
  b0 : Nat := 0
  sigmaY : Nat := 0
  sigmaT : Nat := 0
  sigmaA : Nat := 0
  passed : Nat := 0
deriving DecidableEq, Repr

/-- The time-base unit (R414 to R424) beside the TIM registers. -/
structure Tim where
  mono : Stamp := {}
  plant : Stamp := {}
  chain : Stamp := {}
  cant0 : Stamp := {}
  cant1 : Stamp := {}
  cant2 : Stamp := {}
  cant3 : Stamp := {}
  /-- increment of PLANT per TIME cycle, in 2^-32 ns (nominal 4 ns). -/
  plantInc : Nat := 0x400000000
  /-- the seven bases as latched by the last capture (R415), in CAP_SEL order. -/
  capture : List Stamp := []
  alarm0Fired : Nat := 0
  alarm1Fired : Nat := 0
  ppsOut : Bool := false
  /-- servo (R420): a lock since Boot, consecutive offsets within and above their limits. -/
  lockSeen : Bool := false
  goodOffsets : Nat := 0
  badOffsets : Nat := 0
  /-- ACQUIRING entered from HOLDOVER with PLANT valid, every offset since then within the limit. -/
  keepValid : Bool := false
  peerDelayA : Nat := 0
  peerDelayB : Nat := 0
  announceA : Option Announce := none
  announceB : Option Announce := none
  gm : Option Nat := none
  pdelaySeqA : Nat := 0
  pdelaySeqB : Nat := 0
  /-- transmit time of the last Pdelay_Req on each port, PLANT ns. -/
  pdelayT1A : Nat := 0
  pdelayT1B : Nat := 0
  /-- σ_T of the holdover bound has been doubled (R422). -/
  sigmaDoubled : Bool := false
  /-- the present or last holdover. -/
  hold : Holdover := {}
deriving DecidableEq, Repr

/-- A transmit write-back of Table 13.2, words 3 to 7 (R412). -/
structure EthTxDone where
  user : Word
  status : Nat
  fromB : Bool
  seq : Nat
  mono : Stamp
  plant : Stamp
deriving DecidableEq, Repr

/-- A completed receive descriptor of Table 13.3 with its frame. -/
structure EthRx where
  rct : Bool
  wrongLan : Bool
  ptp : Bool
  vlan : Nat
  seq : Nat
  mono : Stamp
  plant : Stamp
  frame : Bytes
  /-- the stack takes it further: no IP fragment, no UDP datagram whose checksum fails (R404, R405). -/
  kept : Bool := true
deriving DecidableEq, Repr

/-- The Ethernet ports (R401 to R413) beside the ETH registers. -/
structure Eth where
  /-- the 16-bit RCT sequence counter (R407). -/
  prpSeq : Nat := 0
  /-- delivered RCT frames inside the forget time: source, sequence, MONO ns of delivery (R409). -/
  forget : List (Nat × Nat × Nat) := []
  /-- PRP node table: source address and MONO ns it was last heard, longest unheard first. -/
  nodes : List (Nat × Nat) := []
  /-- MONO ns of the last frame with a valid RCT of each LAN (R410). -/
  lanAtA : Nat := 0
  lanAtB : Nat := 0
  lanLostA : Bool := true
  lanLostB : Bool := true
  /-- receive descriptors with OWN set on each port, of 256 (R413), and completed ones. -/
  rxOwnA : Nat := 256
  rxOwnB : Nat := 256
  rxDone : List EthRx := []
  txDone : List EthTxDone := []
  /-- frames counted since the last ETH_RX and ETH_TX_DONE strobe per port, and whether the 1 ms
  hold-off runs (R425). -/
  rxCountA : Nat := 0
  rxCountB : Nat := 0
  txCountA : Nat := 0
  txCountB : Nat := 0
  rxHoldA : Bool := false
  rxHoldB : Bool := false
  txHoldA : Bool := false
  txHoldB : Bool := false
  /-- ICMP echoes answered in the current second, and that second (R404). -/
  echoCount : Nat := 0
  echoSec : Nat := 0
deriving DecidableEq, Repr

/-- A value of an image, a snapshot or a task's own writes, keyed 65536 * symbol + element. -/
abbrev Values := List (Nat × Quad)

/-- An effect deferred to publication (R315). -/
inductive Effect where
  | xin (n : Nat) (v : Word)
  | outReq (v : Nat)
  | ackSafe
  | raiseUser (n : Nat) (detail : Nat)
  | trigger (task : Nat)
  | wpub (conn : Nat) (sym : Nat)
deriving DecidableEq, Repr

/-- The context of a task cycle on its core (R310, R326): stack (top first), local slots, call
frames (return offset and caller's slots), code offset, snapshot, own writes and effects. -/
structure TaskCtx where
  stack : List Quad := []
  locals : List (Nat × Quad) := []
  frames : List (Nat × List (Nat × Quad)) := []
  pc : Nat := 0
  snapNs : Nat := 0
  snap : Values := []
  writes : Values := []
  forced : Values := []
  effects : List Effect := []
  /-- SWEEP_ID of the sweep record the page 2 operations read (R314). -/
  record : Option Nat := none
deriving DecidableEq, Repr

/-- A task's runtime state beside PRG.TASKk_STAT. -/
structure TaskRt where
  /-- a release is pending while the task runs (R320). -/
  pending : Bool := false
  /-- the deadline timer runs, since this MONO ns (R323). -/
  timer : Option Nat := none
  ctx : Option TaskCtx := none
  /-- the next cycle waits for the error task to publish (R335). -/
  waits : Option Nat := none
  /-- no cycle has published since the start: OUTPUT symbols begin at their initial values (R331). -/
  fresh : Bool := false
  /-- publications of this Run (Table 10.17); the task moves to the other core after its cycle (R321). -/
  runCycles : Nat := 0
  moving : Bool := false
deriving DecidableEq, Repr

/-- A station's runtime state (R332 to R336). -/
structure Station where
  present : Bool := false
  disabled : Bool := false
  seq : Nat := 0
  awaiting : Bool := false
  probing : Bool := false
  misses : Nat := 0
  good : Nat := 0
  status : Nat := 0
  inputs : Bytes := []
deriving DecidableEq, Repr

/-- A force: symbol identity, element and forced value (R338). -/
structure Force where
  identity : Word
  element : Nat
  value : Quad
  /-- a task that reads or owns the symbol has taken a snapshot since it was set. -/
  active : Bool := false
deriving DecidableEq, Repr

/-- A persistence record (R343): its entries hold identity, type and element values. -/
structure PersistRec where
  pseq : Nat
  progId : Word
  stamp : Nat
  entries : List (Word × Nat × List Quad)
deriving DecidableEq, Repr

/-- An on-line change waiting for its boundary (R339 to R342): elements converted, deferrals so far, and
whether DROP_FORCES was set. -/
structure Change where
  x : Nat
  deferrals : Nat := 0
  dropForces : Bool := false
deriving DecidableEq, Repr

/-- The values that the page 2 operations read of one sweep record (R314): its SWEEP_ID, MONO ns of the next
record, per cell the fields of CELLGET and the word of CELLFLAGS, per node and for the string the fields of
NODEGET and STRGET. -/
structure RecView where
  id : Nat
  nextAt : Nat
  cells : List (List Word × Nat)
  nodes : List (List Word)
  string : List Word
deriving DecidableEq, Repr

/-- The Bavin program runtime (chapter 10) beside the PRG registers. -/
structure Prg where
  bankA : Option Program := none
  bankB : Option Program := none
  image : Values := []
  tasks : List (Nat × TaskRt) := []
  core0 : Option Nat := none
  core1 : Option Nat := none
  /-- interpreter cores that a code parity error has halted (R383). -/
  halted : List Nat := []
  /-- the epoch of this Run, MONO ns (R320). -/
  epoch : Nat := 0
  /-- the bank's program has been verified (R317). -/
  okA : Bool := false
  okB : Bool := false
  views : List RecView := []
  forces : List Force := []
  hostWrites : Values := []
  stations : List (Nat × Station) := []
  change : Option Change := none
  /-- persistence slots: 0 and 1 bank A slots A and B, 2 and 3 bank B's (Table 10.1). -/
  persist : List (Nat × PersistRec) := []
  persistWriting : Option (Nat × PersistRec) := none
  persistHeld : Bool := false
  /-- WPUB bytes 16 onward per Welt connection as last published (R330). -/
  welt : List (Nat × Bytes) := []
deriving DecidableEq, Repr

/-- A DMA channel (R386 to R399) beside its registers. -/
structure DmaChan where
  /-- address of the next descriptor, and the descriptor in progress as fetched. -/
  next : Nat := 0
  desc : Option (List Word) := none
  descAddr : Nat := 0
  outside : Bool := false
  links : Nat := 0
  requests : Nat := 0
  moved : Nat := 0
  stallUs : Nat := 0
  stalled : Bool := false
  kick : Bool := false
  abort : Bool := false
  phase : Bool := true
  /-- the descriptor's last burst has been issued; its completion waits for arrival (R394). -/
  issued : Bool := false
  /-- completion records not yet freed (R393). -/
  cqFill : Nat := 0
  /-- MONO ns at which the wait in WAITING began (R391). -/
  waitSince : Nat := 0
  /-- the source bytes of a copy of the published image, taken whole at its first burst (R382). -/
  image : Option Bytes := none
deriving DecidableEq, Repr

/-- The DMA engine and the GSRAM map (chapter 12). -/
structure Dma where
  chans : List (Nat × DmaChan) := []
  /-- user pool allocations: channel, first page, pages (R379). -/
  allocs : List (Nat × Nat × Nat) := []
  /-- channels a bus error stopped that have not been started or disabled since (R394). -/
  recovering : List Nat := []
  /-- the channel of each group that moved a burst last (R390): the groups begin with their lowest (DESIGN CHOICE, assumption 243). -/
  lastLow : Nat := 7
  lastHigh : Nat := 7
  /-- GSRAM bytes with a latent parity error (R383, R384). -/
  badBytes : List Nat := []
deriving DecidableEq, Repr

/-- A compensator slot (R193 to R198) beside its registers: the coefficients applied, the histories
(newest first), the limited reference and the trigger. Signals are raw Q1.23 numbers. -/
structure Slot where
  b0 : Int := 0
  b1 : Int := 0
  b2 : Int := 0
  b3 : Int := 0
  a1 : Int := 0
  a2 : Int := 0
  a3 : Int := 0
  form1 : Bool := false
  shift : Nat := 0
  e1 : Int := 0
  e2 : Int := 0
  e3 : Int := 0
  y1 : Int := 0
  y2 : Int := 0
  y3 : Int := 0
  r : Int := 0
  /-- a soft start is in progress (R206). -/
  ramp : Bool := false
  /-- trigger events since the last one taken (EVDIV, or the PERIOD of conversions, R196). -/
  events : Nat := 0
  /-- the slot ran at entry to the Drogue overlay, which still stands (R209). -/
  drogue : Bool := false
  /-- MONO ns of the last start and of the last HALT (R207). -/
  startedAt : Option Nat := none
  haltedAt : Option Nat := none
  /-- MONO ns of the last accepted trigger (R197). -/
  lastTrig : Option Nat := none
deriving DecidableEq, Repr

/-- An Awl run (R217 to R221). -/
structure Awl where
  /-- evaluations of the run so far. -/
  k : Nat := 0
  points : Nat := 0
  sequence : Nat := 0
  firstNs : Nat := 0
  lastNs : Nat := 0
  /-- evaluations from the first to the last captured trigger. -/
  span : Nat := 0
deriving DecidableEq, Repr

/-- A PWM channel beside its registers: the duty waiting to load (Q0.16), whether it drives edges in
this period, the pin's level, and its local period start, in 125 ps of CHAIN time. -/
structure PwmChan where
  duty : Nat := 0
  live : Bool := false
  pin : Bool := false
  start : Nat := 0
  /-- the rising and the falling edge of this period have begun. -/
  rose : Bool := false
  fell : Bool := true
deriving DecidableEq, Repr

/-- What happens at a PWM event: a local period starts, a pulse held through a whole period ends, a pin turns active or
inactive (and whether that edge counts by itself), or a commutation is logged at the middle of its dead time (R200, R203,
R204). -/
inductive PwmMove where
  | start
  | settle (active : Bool)
  | pin (active counts : Bool)
  | commute (active : Bool)
deriving DecidableEq, Repr

/-- A PWM event to come: its time in 125 ps of CHAIN time, its channel, and whether it belongs to the end of the pulse. -/
structure PwmEvent where
  tick : Nat
  chan : Nat
  falling : Bool := false
  move : PwmMove
deriving DecidableEq, Repr

/-- The control engine and PWM (chapter 6). -/
structure Ctl where
  slots : List (Nat × Slot) := []
  chans : List (Nat × PwmChan) := []
  awl : Awl := {}
  committed : Bool := false
  /-- trimmed conversions, newest first, at most 1024 (R190), and the last raw codes. -/
  adc : List (List Int) := []
  adcRaw : List Int := []
  /-- MONO ns of the last CTL_ADC_RANGE strobe of each channel (R189). -/
  rangeAt : List (Nat × Nat) := []
  /-- the period in effect and the periods counted of each timebase, and the CHAIN time of its last
  period start in ns. -/
  tbPeriod : List (Nat × Nat) := []
  tbCount : List (Nat × Nat) := []
  tbStart : List (Nat × Nat) := []
  /-- the period that the next period start takes where a write came too late for it (R199). -/
  tbHold : List (Nat × Nat) := []
  /-- PWM events to come, in order of time. -/
  timed : List PwmEvent := []
  /-- trigger delays that run or have ended, in order: end in 125 ps of CHAIN time, slot (R196, R197). -/
  trigs : List (Nat × Nat) := []
  compTrips : Nat := 0
  /-- R209 is in force. -/
  drogueRamp : Bool := false
deriving DecidableEq, Repr
/-- One finding of a safety channel (R252, R270): the SAF.DEMAND or SAF.FAULT bit it belongs to, what
tells it from other findings of the bit, the channels that see its condition and that hold it latched,
and since when (MONO ns) its condition has been absent. -/
structure Finding where
  hazard : Bool
  code : Nat
  key : Nat := 0
  detail : Nat := 0
  src1 : Bool := false
  src2 : Bool := false
  lat1 : Bool := false
  lat2 : Bool := false
  clearedAt : Option Nat := none
  /-- an acknowledgement is held open for TONE (R61). -/
  ackOpen : Bool := false
deriving DecidableEq, Repr

/-- A cross-check record (R252): latched findings as hazard, bit, key and detail; Drogue; switch
commands; close permissive; shunt decision; 1 ms means; CRC of every 40th record. -/
structure Cross where
  latched : List (Bool × Nat × Nat × Nat)
  drogueMs : Option Nat
  ended : Nat
  switches : Nat
  permit : Bool
  shunt : Bool
  meanA : Option Word
  meanB : Option Word
  crc : Option Word
  /-- discrepancy faults the sender holds (R268). -/
  disc : Nat
deriving DecidableEq, Repr

/-- The conversions of both current sensors in a window: how many, and the sums of their codes (R260). -/
structure SafWindow where
  count : Nat := 0
  sumA : Int := 0
  sumB : Int := 0
deriving DecidableEq, Repr

/-- A safety channel: its switch commands (bit n - 1 for pair n), kill wire, Drogue and shunt states,
means, and what it last received from the other. -/
structure SafChan where
  sw : Nat := 0
  kill : Bool := false
  drogueAt : Option Nat := none
  endedBy : Nat := 0
  cause : Nat := 0
  /-- Drogue or shunt has ended and no cause has been cleared since (R273). -/
  done : Bool := false
  shuntAt : Option Nat := none
  shuntDone : Bool := false
  meanA : Option Word := none
  meanB : Option Word := none
  /-- the 1 ms and the 100 ms window being filled, and how many 1 ms means in a row lay beyond a slow limit (R260, R261). -/
  ms : SafWindow := {}
  hundred : SafWindow := {}
  slowMs : Nat := 0
  rx : Option Cross := none
  /-- the last record this channel sent. -/
  tx : Option Cross := none
  rxAt : Option Nat := none
  permitted : Bool := false
  /-- records sent, for the CRC of every 40th. -/
  sent : Nat := 0
  crc : Word := 0
  /-- filtered lines of the channel's scanner, bit 2n line A and 2n + 1 line B of input n (R267). -/
  lines : Nat := 0
  /-- discrepancy faults, and inputs whose lines have both demanded since (R268, R269). -/
  disc : Nat := 0
  both : Nat := 0
deriving DecidableEq, Repr

/-- A test pulse in progress (R256): switch 0 to 7, and whether the pair was closed. -/
structure Pulse where
  switch : Nat
  closed : Bool
  /-- the pair's commands changed, or a demand or Drogue came, during the test. -/
  broken : Bool := false
deriving DecidableEq, Repr

/-- An entry of the always-on log (R285). -/
structure LogEntry where
  code : Nat
  detail : Nat
  stamp : Nat
  scan : Nat
deriving DecidableEq, Repr

/-- Owner staging of a parameter set (R279): announced length and bytes received. -/
structure ParamStage where
  length : Nat := 0
  bytes : Bytes := []
  checked : Bool := false
deriving DecidableEq, Repr

/-- The safety channels (chapter 8). -/
structure Saf where
  findings : List Finding := []
  ch1 : SafChan := {}
  ch2 : SafChan := {}
  /-- channel 2's copy of SAF.OUT_REQ.CLOSE, forwarded over the VS link (R283). -/
  req2 : Nat := 0
  /-- channel 1's program runs (step 7 of Table 17.4). -/
  ch1On : Bool := false
  /-- read-back levels, four bits per pair: SRBH in [3:2], SRBL in [1:0] (Table 8.9). -/
  readback : Nat := 0x5555
  rbFault : Nat := 0
  mirrorFault : Nat := 0
  /-- switches with a failed test pulse outstanding (R256), and pairs refused after an open coil. -/
  pulseFail : Nat := 0
  pulse : Option Pulse := none
  /-- a cross-check or sequence fault shown by R280: closes are refused. -/
  crcDiffer : Bool := false
  cfgDiffer : Bool := false
  log : List (Nat × LogEntry) := []
  scans : Nat := 0
  /-- the Sole's own time, ns since power-up (R23, R31): it runs while the Vamp stands still. -/
  soleNs : Nat := 0
  /-- level of the LIVE wire (R25), and channel 2's time of its last edge. -/
  live : Bool := false
  liveAt : Option Nat := none
  /-- tasks ran when the controller entered Safe (R5). -/
  tasksOnSafe : Bool := false
  /-- consecutive checkable samples at or beyond a limit, keyed 65536 * limit + unit (R262). -/
  beyond : List (Nat × Nat) := []
  /-- MONO ns of the last checkable sample of each cell (R262). -/
  sampled : List (Nat × Nat) := []
  /-- node blocks of records delivered to channel 1 and not yet checked. -/
  records : List (List Bytes) := []
  /-- alarm tone: acknowledged, and MONO ns of the last CLEAR_LATCH reply and alarm pair (R61). -/
  clearReplyAt : Option Nat := none
  alarmAt : Option Nat := none
  /-- nodes whose CLEAR_LATCH reply is awaited. -/
  clearNodes : List Nat := []
  /-- the safety set in force as staged, its stored CRC, and the set being staged. -/
  setBytes : Bytes := []
  storedCrc : Word := 0
  stage : ParamStage := {}
deriving DecidableEq, Repr
/-- A limit table as committed (R236). -/
structure LimitTable where
  chg0 : Word := 0
  chg1 : Word := 0
  chg2 : Word := 0
  chg3 : Word := 0
  dis0 : Word := 0
  dis1 : Word := 0
  dis2 : Word := 0
  dis3 : Word := 0
  flags : Word := 0
deriving DecidableEq, Repr

/-- The edge pattern of a valid request (R230): CHAIN ns of its reference edge, and its fields in 10 ns. -/
structure EdgePattern where
  edgeNs : Nat
  period : Nat
  start : Nat
  edges : List Nat
deriving DecidableEq, Repr

/-- The PCS port (chapter 7) beside its registers. -/
structure Pcs where
  table : LimitTable := {}
  commitAt : Option Nat := none
  /-- the first commit with VALID after Boot, MONO ns (R233, R245). -/
  readyAt : Option Nat := none
  /-- valid requests since Boot or since the end of the last link loss, capped at 2 (R95). -/
  valid : Nat := 0
  lastEdge : Option Nat := none
  pattern : Option EdgePattern := none
  /-- the patterns before it, newest first, at most 32, for the check of R98. -/
  before : List EdgePattern := []
  answeredAt : Option Nat := none
  lossStands : Bool := false
  /-- pair 1 or pair 2 read closed when the loss was declared (R245). -/
  lossClosed : Bool := false
  missedRun : Nat := 0
  hSel : Nat := 1
  allowedChg : Word := 0
  allowedDis : Word := 0
  /-- Drogue envelope: entry MONO ns and the ALLOWED values before it (R240). -/
  envelope : Option (Nat × Word × Word) := none
  /-- caps in force and the setpoint in force (R247, R248). -/
  capChg : Option Word := none
  capDis : Option Word := none
  setpoint : Option Nat := none
  leaseEnd : Option Nat := none
  leaseMs : Nat := 0
  /-- R246 window: sum of MEASURED_I (binary32) and the requests counted. -/
  measSum : Word := 0
  measCount : Nat := 0
  overAt : Option Nat := none
  pertStart : Nat := 0
deriving DecidableEq, Repr
/-- A fixed sample instant (R96, R97, R100): CHAIN ns, F in ns, and the NOISY cause known so far. -/
structure Fix where
  instant : Nat
  f : Nat
  cause : Nat
  /-- D at the fix, which F refers to (R100). -/
  d : Nat := 0
deriving DecidableEq, Repr

/-- An open sweep record (R107): what the header and the node blocks will hold. -/
structure OpenRecord where
  id : Nat
  instant : Nat
  cause : Nat
  current : Word
  invalid : Bool := false
  burst : Bool := false
  /-- the rate step at the instant, and whether this is the first record at it (R114). -/
  step : Nat := 0
  changed : Bool := false
  /-- node blocks received: node, the block's 64 bytes. -/
  blocks : List (Nat × Bytes) := []
  /-- attempts made per node (the train's slot counts), and whether a frame of each port's train was cut. -/
  attempts : List (Nat × Nat) := []
  cutA : Bool := false
  cutB : Bool := false
deriving DecidableEq, Repr

/-- An input block of a burst (Table 3.10): node, input, points read and saturated. -/
structure BurstInput where
  node : Nat
  input : Nat
  read : Nat := 0
  saturated : Nat := 0
  /-- a READ_BURST of it was refused or had no reply: the rest is not read. -/
  failed : Bool := false
deriving DecidableEq, Repr

/-- A burst in progress (R119 to R123). -/
structure Burst where
  id : Nat
  band : Nat
  startMean : Word
  /-- start of the lead-in, CHAIN ns (R120). -/
  start : Nat := 0
  p0 : Option Nat := none
  requests : Nat := 0
  acked : Bool := false
  /-- seconds and nanoseconds of p0 stand in p0, CHAIN ns; the amplitude A in amp. -/
  amp : Word := 0
  inputs : List BurstInput := []
  /-- version 3 nodes read as complete. -/
  complete : List Nat := []
  absent : List Nat := []
  /-- points judged by R98, those within 300 ns of an edge among them (R122), points whose current stands in the capture
  area, and the sum of those currents in units of 2^-149 A (R125). -/
  judged : Nat := 0
  noisy : Nat := 0
  points : Nat := 0
  sum : Int := 0
deriving DecidableEq, Repr

/-- A conversion of the string-current channel (R102): CHAIN ns, A, the output of the CURRENT_TAU_NS filter, and whether it
may bracket an instant. -/
structure Conversion where
  at_ : Nat
  amps : Word
  filtered : Word
  good : Bool
deriving DecidableEq, Repr

/-- A window of the string current (R112): conversions in it, and the sums of I and of |I| in units of 2^-149 A. -/
structure CurrentWindow where
  count : Nat := 0
  sum : Int := 0
  sumAbs : Int := 0
deriving DecidableEq, Repr

/-- Sweeps and bursts (chapter 3) beside the SWP registers. -/
structure Swp where
  nextId : Nat := 0
  lastInstant : Option Nat := none
  nominal : Nat := 0
  fix : Option Fix := none
  launched : Option Fix := none
  opened : Option OpenRecord := none
  /-- last valid string current (R102). -/
  current : Word := 0
  prevRoute : List (Nat × Nat) := []
  rateChanged : Bool := false
  /-- consecutive 1 ms windows below LOW_I since the last restart of the count (R112). -/
  lowMs : Nat := 0
  /-- newest 1 ms means of the string current, at most 100. -/
  means : List Word := []
  /-- the latest conversion of the string-current channel, what a launched instant reads (none within: not good), the
  windows in hand of 1 ms, 100 µs and 1 s, the 1 ms windows in the last one, and the newest 1 s means, at most 5, none
  within for an unknown one (R102, R112, R119). -/
  conv : Option Conversion := none
  reading : Option (Option Word) := none
  ms : CurrentWindow := {}
  hundred : CurrentWindow := {}
  tenth : CurrentWindow := {}
  second : CurrentWindow := {}
  secondMs : Nat := 0
  seconds : List (Option Word) := []
  /-- a return to step 0 waits for the close of a record still open (R113). -/
  rebase : Bool := false
  /-- the last closed record as delivered (R104): its header and node blocks. -/
  record : Option (Bytes × List Bytes) := none
  reqH : Bool := false
  reqSeq : Bool := false
  /-- bands still to run of the request in hand, the first one being deferred or run. -/
  bands : List Nat := []
  inSeq : Bool := false
  burst : Option Burst := none
  /-- nodes that reported a complete capture (TTH_BURST_READY). -/
  ready : List Nat := []
  /-- command operations waiting for a burst: whether for a full sequence, and whether that request is
  still queued (R366). -/
  waiting : List (Nat × Bool × Bool) := []
  /-- journal triggers and anchors: MONO ns since which the current has been low (R171, R182). -/
  restSince : Option Nat := none
  wasCharging : Bool := false
deriving DecidableEq, Repr
/-- One receive pair as the port logic or the Sole tap sees it (R57, R59). -/
structure RxPair where
  last : Nat := 0
  run : Nat := 0
  lost : Bool := false
  alarmAt : Option Nat := none
  /-- an alarm tone is confirmed on the pair and its pairs still arrive. -/
  tone : Bool := false
deriving DecidableEq, Repr

/-- A command outstanding to a node (R69): opcode, payload, port, sequence number, attempts made, and the operation of
the command channel that its reply answers. -/
structure Outstanding where
  op : Nat
  payload : Bytes
  port : Nat
  seq : Nat
  attempts : Nat
  cmd : Option Nat := none
deriving DecidableEq, Repr

/-- A command that waits for the chain (R67, R69, R105): the node it is for (0 for IDENTIFY, 0x3F for ROLLCALL), the
port (none: the node's assigned port when it is sent), opcode, payload, the sequence number and attempts of a retry, and
the operation of the command channel that its reply answers. -/
structure ChainCmd where
  node : Nat
  port : Option Nat := none
  op : Nat
  payload : Bytes := []
  again : Option (Nat × Nat) := none
  cmd : Option Nat := none
deriving DecidableEq, Repr

/-- What the controller holds of a node beside its registers. -/
structure NodeRec where
  serial : Nat := 0
  settle : Nat := 0
  tTurn : Nat := 0
  cells : Nat := 0
  temps : Nat := 0
  aux : Nat := 0
  seqA : Nat := 0
  seqB : Nat := 0
  wait : Option Outstanding := none
  /-- INPUTS as written (R79): cells and temperature inputs in use. -/
  cellsUsed : Nat := 0
  tempsUsed : Nat := 0
  /-- registers read back by CONFIG_READ since the last read-back began (R263). -/
  readback : List (Nat × Word) := []
  /-- stack voltage, cell voltages and flags of the latest reply. -/
  stack : Nat := 0
  alarm : Bool := false
deriving DecidableEq, Repr

/-- A wire-suspect mark (R90, R91), one per finding: node, cell input from 1, line, cause, and whether the test found the
line closed, with MONO ns since which its finding has been absent. -/
structure WireMark where
  node : Nat
  input : Nat
  line : Nat
  cause : Nat
  tested : Bool := false
  absentAt : Option Nat := none
deriving DecidableEq, Repr

/-- The Tether chain (chapter 2) beside the TTH registers. -/
structure Tth where
  portA : RxPair := {}
  portB : RxPair := {}
  tapA : RxPair := {}
  tapB : RxPair := {}
  chainLost : Bool := false
  nodes : List (Nat × NodeRec) := []
  bcastSeqA : Nat := 0
  bcastSeqB : Nat := 0
  enumerating : Bool := false
  /-- the enumeration in hand is of the heal form (R89). -/
  heal : Bool := false
  calibrating : Bool := false
  /-- D and compensations that apply at the next sweep boundary (R83): D, settle, node, C_A, C_B. -/
  pendingD : Option (Nat × Nat) := none
  pendingComp : List (Nat × Nat × Nat) := []
  /-- routing that applies at the next sweep boundary: nodes through port B (R86). -/
  pendingRoute : Option (List Nat) := none
  marks : List WireMark := []
  /-- sweeps in a row with a pair or sum finding, keyed 64 * node + input (0 for the sum). -/
  sigs : List (Nat × Nat) := []
  /-- the open-wire test in progress: node, and replies by phase. -/
  test : Option (Nat × List (Nat × Bytes)) := none
  testsDue : List Nat := []
  /-- commands that wait for the chain, first in, first out (R105). -/
  queue : List ChainCmd := []
  /-- the ring is known to be broken; nodes that answered the last rollcall through each port (R87), the CHAIN ns by which
  its last slot has passed, and whether it is to locate a break. -/
  broken : Bool := false
  rollA : List Nat := []
  rollB : List Nat := []
  rollUntil : Nat := 0
  locating : Bool := false
  /-- the port logic's own declaration of chain loss (R58). -/
  portLoss : Bool := false
  /-- the IDENTIFY loops: 0 none, 1 from port A, 2 from port B, whether an IDENTIFY is out, a and b, whether a node stands
  where none may, and whether one has too few inputs (R81). -/
  loop : Nat := 0
  identOut : Bool := false
  loopA : Nat := 0
  loopB : Nat := 0
  beyond : Bool := false
  short : Bool := false
  /-- round trips measured by the calibration in hand: node, port, ns (R83). -/
  trips : List (Nat × Nat × Nat) := []
  /-- nodes heard at address 0x00 whose place is not yet known: port, IDENTIFY reply (R82). -/
  restarts : List (Nat × Bytes) := []
  /-- MONO second of the last complete calibration (TTH.CAL_AGE). -/
  calAt : Option Nat := none
  /-- lines, as 64 * node + line, recorded open before the last enumeration (R91). -/
  retest : List Nat := []
  enumWaiting : List Nat := []
deriving DecidableEq, Repr
/-- An open operation of the command channel (R361, R364): its number, the session it came from while
that is open, its tag, HSEQ and opcode. -/
structure OpenOp where
  id : Nat
  sess : Option Nat
  tag : Nat
  hseq : Nat
  opcode : Nat
  owner : Bool := false
deriving DecidableEq, Repr

/-- A held result (R362). -/
structure HeldResult where
  hseq : Nat
  opcode : Nat
  status : Nat
  rseq : Nat
  bytes : Bytes
  flags : Nat := 0
  delivered : Bool := true
deriving DecidableEq, Repr

/-- A session of the command channel (R351 to R354). -/
structure Session where
  /-- the binding stands; a session that a later HELLO from its address left is idle within its hold. -/
  bound : Bool := true
  uart : Bool := false
  ipv6 : Bool := false
  peer : Nat := 0
  port : Nat := 0
  version : Nat := 0
  hostId : Nat := 0
  lastAccepted : Nat := 0
  lastCompleted : Nat := 0
  hostAcked : Nat := 0
  nextDseq : Nat := 1
  rseq : Nat := 0
  results : List (Nat × HeldResult) := []
  /-- commands held for a gap (R356). -/
  held : List CmdPacket := []
  /-- MONO ns of violations in the last 1 s and of commands in the last 1 ms, newest first. -/
  viols : List Nat := []
  arrivals : List Nat := []
  /-- the 10 ms window of the throttle in which a packet was last taken (R374). -/
  taken : Option Nat := none
  throttled : Bool := false
  /-- MONO ns at which the throttle began. -/
  throttleAt : Nat := 0
deriving DecidableEq, Repr

/-- The owner session's two Welt connections (R370). -/
structure OwnerSession where
  sess : Nat
  idH : Word
  /-- the last sequence taken from the host and sent to it. -/
  lastRx : Nat
  lastTx : Nat
  /-- MONO ns of check failures, newest first. -/
  checks : List Nat := []
deriving DecidableEq, Repr

/-- The command channel (chapter 11). -/
structure Cmd where
  sessions : List (Nat × Session) := []
  ops : List OpenOp := []
  nextOp : Nat := 0
  owner : Option OwnerSession := none
  /-- the nonce of each session's latest OWNER_OPEN and MONO ns of its issue (R369). -/
  nonces : List (Nat × Bytes × Nat) := []
  /-- the operation that each long-running function completes: journal (shutdown), configuration,
  EST command, on-line change. -/
  shutdownOps : List Nat := []
  configOp : Option Nat := none
  estOp : Option Nat := none
  changeOp : Option Nat := none
  /-- operations that complete at a task's next snapshot: key and operation. Key 2 * symbol: a task that reads or owns the
  symbol; 2 * symbol + 1: its owner; 0: any task. -/
  snapshotOps : List (Nat × Nat) := []
deriving DecidableEq, Repr
/-- A Welt PDU held for channel 1 (R304): connection, PDU bytes, whether its length and carrier form were
right, and its receive time, MONO ns. -/
structure WeltPdu where
  conn : Nat
  pdu : Bytes
  form : Bool
  rxNs : Nat
deriving DecidableEq, Repr

/-- A Welt connection beside its registers (R289 to R301). -/
structure WeltConn where
  startSeq : Nat := 0
  /-- consumer: the data last accepted in this running session, none before. -/
  data : Option Bytes := none
  /-- a DATA PDU has been accepted since Boot (R299). -/
  live : Bool := false
  /-- MONO ns of the last acceptance, from which the watchdog counts (R301). -/
  acceptedNs : Nat := 0
  /-- MONO ns of check failures in running, newest first. -/
  checks : List Nat := []
deriving DecidableEq, Repr

/-- The Welt layer (chapter 9) beside the WLT registers. -/
structure Welt where
  conns : List (Nat × WeltConn) := []
  held : List WeltPdu := []
  /-- the status image of the last safety core cycle (R295). -/
  image : Bytes := []
deriving DecidableEq, Repr
/-- A transmit slot of a CAN controller (R436 to R438): its element, its request order, a cancellation
sampled on the bus, and whether a TIMED target has been reached. -/
structure CanSlot where
  element : Bytes
  order : Nat
  cancel : Bool := false
  due : Bool := true
deriving DecidableEq, Repr

/-- A CAN controller beside its registers (chapter 14). -/
structure CanCtl where
  fifo0 : List Bytes := []
  fifo1 : List Bytes := []
  bufs : List (Nat × Bytes) := []
  /-- elements latched by a read of word 0, by window: 0 and 1 the FIFOs, 2 + b buffer b; and whether a
  frame has overwritten a buffer since. -/
  latch : List (Nat × Bytes) := []
  renewed : List Nat := []
  /-- words written in the push window since the previous push. -/
  txWin : List (Nat × Word) := []
  slots : List (Nat × CanSlot) := []
  requests : Nat := 0
  committed : Bool := false
  sleeping : Bool := false
  /-- identifiers of the last 8 collisions, IDE in bit 29, with MONO ns; identifiers reported. -/
  collisions : List (Nat × Nat) := []
  reported : List (Nat × Nat) := []
  /-- buffers filled and overwritten while the 10 µs hold-off runs (R445). -/
  holdOff : Bool := false
  filled : Nat := 0
  overwritten : Nat := 0
  /-- extended cycle count of references sent or received; a reference has been received. -/
  cycle : Nat := 0
  refSeen : Bool := false
  /-- no reference has arrived for 3 periods, and none since (R443). -/
  refLost : Bool := false
deriving DecidableEq, Repr
/-- A cell context (R132, R157, R166, R168): where it is hosted, the fast layer (states z, va, vb and b,
their variances, and the covariances z-va, z-vb, z-b, va-vb, va-b, vb-b), the hysteresis memory, the health
layer and its window, the impedance parameters, and the horizon outputs with their causes. The contents
of the full layer are free values: full is the first draw of its block. -/
structure Ctx where
  unit : Nat
  level : Nat := 0
  started : Bool := false
  z : Word := 0
  va : Word := 0
  vb : Word := 0
  b : Word := 0
  h : Word := 0
  var : List Word := [0, 0, 0, 0]
  cov : List Word := [0, 0, 0, 0, 0, 0]
  q : Word := 0
  sigmaQ : Word := 0
  rohm : Word := 0
  sigmaR : Word := 0
  /-- degradation states and their deviations, and cumulative throughput, Ah. -/
  degr : List Word := []
  through : Word := 0
  /-- capacity window: z and deviation at t1, charge since in As, MONO ns of t1. -/
  window : Option (Word × Word × Word × Nat) := none
  /-- previous record: usable, not NOISY and of at most 1 ms: voltage, current. -/
  prev : Option (Word × Word) := none
  imp : List Word := []
  fitted : Bool := false
  /-- Rohm25 at the last accepted fit (R170). -/
  rohmFit : Word := 0
  chg : List Word := [0, 0, 0, 0]
  dis : List Word := [0, 0, 0, 0]
  chgCause : List Nat := [0, 0, 0, 0]
  disCause : List Nat := [0, 0, 0, 0]
  full : Option Nat := none
  fullSoc : Word := 0
  fullSd : Word := 0
  tCore : Int := 0
  /-- MONO ns of the last usable sample, and its voltage in 100 µV; a full tick or horizon tick is due;
  the full layer re-anchors or anchors at its next tick. -/
  usableAt : Nat := 0
  fullDue : Bool := false
  horizonDue : Bool := false
  fullReanchor : Bool := false
  fullAnchor : Bool := false
  lastTick : Nat := 0
  sweep : Nat := 0
  ckptSeq : Nat := 0
  predicted : Bool := false
  /-- the rebuild's fast replay still runs, so no live update; the horizon layer has not run since. -/
  replaying : Bool := false
  rebuilding : Bool := false
  reinit : Bool := false
  defaults : Bool := false
  reanchoredAt : Option Nat := none
  failedAt : Option Nat := none
  /-- 0 at home, 1 borrowed in cluster, 2 in region, 3 on die. -/
  borrowed : Nat := 0
  /-- the unit that first hosted the context, from which borrowing is told; its slot there (Table 4.1). -/
  home : Nat := 0
  slot : Nat := 0
  /-- the draw that stands for what the manual leaves open in the slot's bytes (Table 4.2). -/
  image : Nat := 0
  /-- the cell was at level 3 or 4 since its last full update (Table 5.10). -/
  stale : Bool := false
  /-- the covariance factor was widened from a checkpoint's binary16 (R146). -/
  widened : Bool := false
  /-- the temperature of the last update, 0.01 °C (R158). -/
  temp : Int := 2500
  /-- the replay has caught up: the context joins at the next sweep boundary (R146). -/
  joining : Bool := false
  /-- full-layer states 52 to 63 and their deviations (Tables 5.2, 5.4). -/
  fullX : List Word := []
  fullS : List Word := []
deriving DecidableEq, Repr

/-- The learned values of a cell (R181, Table 5.10). -/
structure Learned where
  learned : Bool := false
  stale : Bool := false
  fitted : Bool := false
  q : Word := 0
  sigmaQ : Word := 0
  rohm : Word := 0
  sigmaR : Word := 0
  z : Word := 0
  zSigma : Word := 0
  through : Word := 0
  degr : List Word := []
  imp : List Word := []
deriving DecidableEq, Repr

/-- A journal record (Table 5.9). -/
structure JournalRec where
  jseq : Nat
  cause : Nat
  stamp : Nat
  plantS : Nat
  plantNs : Nat
  typeCrc : Word
  lastAnchor : Nat
  entries : List (Nat × Learned)
deriving DecidableEq, Repr

/-- A checkpoint beside its bytes in GSRAM (Table 4.4): the context as it was copied. -/
structure Ckpt where
  ctx : Ctx
  sweep : Nat
  good : Bool := true
deriving DecidableEq, Repr

/-- A placement plan that applies at the next sweep boundary (R149): contexts moved as cell, source unit,
destination unit and step of R150; cells whose move is a rebuild; contexts that start as cell, unit and
level; level changes as cell and level; cells left unhosted; the fidelity events as level, cells changed and first
cell; and the overloaded units that it relieves. -/
structure Plan where
  moves : List (Nat × Nat × Nat × Nat) := []
  rebuilds : List Nat := []
  fresh : List (Nat × Nat × Nat) := []
  levels : List (Nat × Nat) := []
  unhosted : List Nat := []
  downs : List (Nat × Nat × Nat) := []
  ups : List (Nat × Nat × Nat) := []
  relieved : List Nat := []
deriving DecidableEq, Repr

/-- The estimation array, the estimator and the journal (chapters 4 and 5). -/
structure Est where
  /-- unit states that are not good: 2 suspect unit, 3 suspect cluster, 4 suspect region, 5 failed self-test. -/
  units : List (Nat × Nat) := []
  ctxs : List (Nat × Ctx) := []
  monitored : List Nat := []
  learned : List (Nat × Learned) := []
  ckpts : List (Nat × Ckpt) := []
  deficient : Bool := false
  /-- units whose contexts must leave, and units overloaded. -/
  leaving : List Nat := []
  overloaded : List Nat := []
  plan : Option Plan := none
  replanAll : Bool := false
  /-- cells that R151 left unhosted, which only R153 raises. -/
  noRoom : List Nat := []
  crit : List (Nat × Nat) := []
  /-- MONO s of the last level change, and of the last exchange and raise, by cell. -/
  since : List (Nat × Nat) := []
  exchanged : List (Nat × Nat) := []
  raised : List (Nat × Nat) := []
  /-- seconds in a row for which a lower cell has scored 8192 more than a higher one (R143). -/
  lead : List (Nat × Nat) := []
  /-- slot of the replay ring written next. -/
  replayHead : Nat := 0
  /-- SWEEP_IDs held in the replay ring, newest first. -/
  replay : List Nat := []
  /-- last valid temperature (0.01 °C) and latest usable voltage (100 µV) by cell (R158, R178). -/
  temps : List (Nat × Int) := []
  volts : List (Nat × Nat) := []
  /-- bleeding by node: APPLIED mask, DERATE and duties of the last answered BALANCE_SET (R180). -/
  bleed : List (Nat × Nat × Nat × List Nat) := []
  /-- last scratch parity error of a cluster, MONO ns (R135). -/
  scratchAt : List (Nat × Nat) := []
  /-- units whose microcode check is owed before the fast layer (R131); rebuilds in hand by cell. -/
  running : Option Nat := none
  checkpointed : List Nat := []
  /-- rest anchors: operating seconds of the last one, hours reported, NO_ANCHOR in force (R171, R172). -/
  lastAnchor : Nat := 0
  noAnchor : Bool := false
  anchorArmed : Bool := true
  noAnchorH : Nat := 0
  lastSequence : Nat := 0
  askedH : Option Nat := none
  askedSeq : Option Nat := none
  limChg : List Word := [0, 0, 0, 0]
  limDis : List Word := [0, 0, 0, 0]
  limCell : List Nat := [0, 0, 0, 0, 0, 0, 0, 0]
  limCause : List Nat := [0, 0, 0, 0, 0, 0, 0, 0]
  staticOn : Bool := false
  /-- journal slots, the write in progress with its cause, and held triggers. -/
  slotA : Option JournalRec := none
  slotB : Option JournalRec := none
  writing : Option JournalRec := none
  retried : Bool := false
  erasing : Bool := false
  held : List Nat := []
  /-- the cause of a write that waits for its sweep boundary (R183). -/
  copyDue : Option Nat := none
  readOnly : Bool := false
  /-- MONO s of the last commit, and whether a placement change has triggered since. -/
  committedAt : Nat := 0
  placed : Bool := false
  jseq : Nat := 0
  /-- CAUSE of the journal record loaded at Boot (R163, R185). -/
  loadCause : Option Nat := none
  /-- membership masks of the ingest ports, region and cell (R136), and the ingest buffers: cell, its voltage in the
  current and in the previous sweep, and the string current of both (Table 4.1). -/
  masks : List (Nat × Nat) := []
  ingest : List (Nat × Nat × Nat) := []
  ingestI : Word := 0
  ingestI0 : Word := 0
  /-- a closed record has been delivered and its fast layer has not completed (R104). -/
  delivered : Bool := false
  /-- sweeps in a row in which a region's fast layer took more than 56 µs, by region from 0 (R152). -/
  slow : List (Nat × Nat) := []
  /-- cells whose learned values are reset at the next sweep boundary (LEARNED_RESET). -/
  resetDue : List Nat := []
deriving DecidableEq, Repr
/-- A set of the Last being received (R476, R477): its SET_SEQ, the index of the frame expected next and the
bytes so far. -/
structure RxSet where
  seq : Nat
  next : Nat
  bytes : Bytes
deriving DecidableEq, Repr

/-- A committed set (R477): its SET_SEQ, its 64-byte header and MONO ns of the commit. -/
structure LastSet where
  seq : Nat
  header : Bytes
  commitNs : Nat
deriving DecidableEq, Repr

/-- A copy of the Last in the Insole (R478): the set header, the RETAIN and PERSIST values, per cell
checkpoint bytes 0 to 1759. -/
structure LastCopy where
  header : Bytes
  data : Bytes
  cells : List (Nat × Bytes)
deriving DecidableEq, Repr

/-- Redundant operation (chapter 16) beside the RED registers. -/
structure Red where
  /-- sets being received, by kind 2, 3 and 4. -/
  rx : List (Nat × RxSet) := []
  fast : Option LastSet := none
  full : Option LastSet := none
  learned : Option LastSet := none
  /-- SET_SEQ of the last set sent, by kind. -/
  txFast : Nat := 0
  txFull : Nat := 0
  txLearned : Nat := 0
  txBeat : Nat := 0
  /-- the journal record of a learned set that waits for the journal's write or erase (R477). -/
  journalHeld : Option JournalRec := none
  /-- the grant has been withdrawn since Boot (R5, R472). -/
  withdrawn : Bool := false
  /-- Insole copies, the one being written, and whether a copy waits. -/
  copyA : Option LastCopy := none
  copyB : Option LastCopy := none
  copying : Option LastCopy := none
  copyHeld : Bool := false
  retried : Bool := false
  /-- MONO s of the newest copy. -/
  copiedAt : Option Nat := none
deriving DecidableEq, Repr

/-- The whole state of the controller. -/
structure State where
  /-- registers, keyed by byte address; an unlisted one reads its reset value. -/
  regs : List (Nat × Word) := []
  /-- GSRAM bytes, keyed by address; an unlisted one reads 0 (assumption 5). -/
  gsram : List Host.Cell := []
  mode : Mode := .boot
  drogue : Bool := false
  /-- what has left the controller, newest first. -/
  out : List Output := []
  /-- draws of free values so far: the model's own field (assumption 1). -/
  free : Nat := 0
  supply : Supply := {}
  links : Links := {}
  evt : Evt := {}
  cfg : ConfigArea := {}
  recorder : Recorder := {}
  update : Update := {}
  tim : Tim := {}
  eth : Eth := {}
  prg : Prg := {}
  dma : Dma := {}
  ctl : Ctl := {}
  saf : Saf := {}
  pcs : Pcs := {}
  swp : Swp := {}
  tth : Tth := {}
  cmd : Cmd := {}
  welt : Welt := {}
  can : List (Nat × CanCtl) := []
  est : Est := {}
  red : Red := {}
  /-- the commands waiting, first in, first out. -/
  pending : List Instr := []
deriving DecidableEq, Repr

/-- The state right after reset: every register at the value its register map states, Boot begun,
memory with nothing listed, nothing waiting. -/
def State.reset : State := {}


/-- The reasons a command can stop the model. The block itself never stops: the spec gives every
command an effect, so no meaning raises one. -/
inductive Fault where
  /-- Raised by no command: kept so that the outcome has a fault type. Safe. -/
  | none
deriving DecidableEq, Repr

/-- Why a command has no meaning in the model. -/
inductive Refusal where
  /-- Raised by the dispatch for a command that has no meaning yet, by its mnemonic. Safe. -/
  | notModelled (mnemonic : String)
deriving DecidableEq, Repr

end Sys2Proof.Machine
end

