-- ==== Sys2Proof/Machine/Ops.lean ====
section
/-!
DEFINITION. The named operations over registers, memory, time and configuration that every command's
meaning is written with.
-/

namespace Sys2Proof.Machine

/-! The dies. -/

/-- The Vamp runs: powered, out of reset, its clocks present (R31, R274). -/
def State.vampOn (s : State) : Bool := s.mode != .off && !s.supply.held && !s.supply.refclkLost

/-- An event of the Vamp: while the Vamp's domains stand still (R31, R274) it does not come about. -/
def State.whenVamp (s : State) (o : Host.Outcome State Fault Refusal) : Host.Outcome State Fault Refusal :=
  if s.vampOn then o else .next s

/-! Registers. -/

/-- The value of a register. -/
def State.rd (s : State) (a : Nat) : Word := Sparse.get regReset s.regs a

/-- The state with a register set. -/
def State.wr (s : State) (a : Nat) (v : Word) : State :=
  { s with regs := Sparse.set regReset s.regs a v }

/-- Bits [hi:lo] of a register. -/
def State.fld (s : State) (a hi lo : Nat) : Nat := getBits (s.rd a) hi lo

/-- The state with bits [hi:lo] of a register set. -/
def State.setFld (s : State) (a hi lo v : Nat) : State := s.wr a (putBits (s.rd a) hi lo v)

/-- One bit of a register. -/
def State.bit (s : State) (a b : Nat) : Bool := getBit (s.rd a) b

/-- The state with one bit of a register set or cleared. -/
def State.setBit (s : State) (a b : Nat) (v : Bool) : State := s.wr a (putBit (s.rd a) b v)

/-- A field counted up by one, stopping at its largest value. -/
def State.incFld (s : State) (a hi lo : Nat) : State :=
  s.setFld a hi lo (satInc (s.fld a hi lo) (2 ^ (hi + 1 - lo) - 1))

/-- A register counted up by one, wrapping. -/
def State.incWrap (s : State) (a : Nat) : State := s.wr a (s.rd a + 1)

/-- A hardware set of a W1C flag: the flag is set and its occurrence counter counts, stopping at 255
(R14, R15). Counters of four flags stand in one word from cnt on, bit 0's in bits [7:0]. -/
def State.flag (s : State) (reg cnt b : Nat) : State :=
  (s.setBit reg b true).incFld (cnt + 4 * (b / 4)) (8 * (b % 4) + 7) (8 * (b % 4))

/-! GSRAM. -/

/-- What an unlisted GSRAM byte reads as (assumption 5). -/
def gsramDefault (_ : Nat) : Byte := 0

/-- The memory's canonical form. -/
def Memory.wf (m : List Host.Cell) : Bool := Sparse.wf gsramDefault m

/-- One byte of GSRAM. -/
def State.getByte (s : State) (a : Nat) : Byte := Sparse.get gsramDefault s.gsram a

/-- The state with one byte of GSRAM written; the write mends a parity error there (R383). -/
def State.putByte (s : State) (a : Nat) (v : Byte) : State :=
  { s with gsram := Sparse.set gsramDefault s.gsram a v,
           dma := { s.dma with badBytes := s.dma.badBytes.filter (· != a) } }

/-- n bytes of GSRAM from an address. -/
def State.getBytes (s : State) (a : Nat) : Nat → Bytes
  | 0 => []
  | n + 1 => s.getByte a :: s.getBytes (a + 1) n

/-- The state with bytes written to GSRAM from an address up. -/
def State.putBytes (s : State) (a : Nat) : Bytes → State
  | [] => s
  | b :: rest => (s.putByte a b).putBytes (a + 1) rest

/-- A little-endian word of GSRAM. -/
def State.getWord (s : State) (a : Nat) : Word := BitVec.ofNat 32 (natLE (s.getBytes a 4))

/-- The state with a little-endian word of GSRAM written. -/
def State.putWord (s : State) (a : Nat) (w : Word) : State := s.putBytes a (bytesLE 4 w.toNat)

/-! Outputs and free values. -/

/-- The state with something sent. -/
def State.emit (s : State) (o : Output) : State := { s with out := o :: s.out }

/-- A free value: nothing constrains it, and every draw is a new one (assumption 1). -/
def State.freeWord (s : State) : Word := Config.freeValue s.free

/-- The state after a draw. -/
def State.drawn (s : State) : State := { s with free := s.free + 1 }

/-- The state after n draws at once. -/
def State.drawnBy (s : State) (n : Nat) : State := { s with free := s.free + n }

/-! Time. -/

/-- A time base in nanoseconds. -/
def Stamp.total (t : Stamp) : Nat := t.sec * 1000000000 + t.ns

/-- The time base with nanoseconds n and fraction 0 (used for a written value). -/
def Stamp.ofNs (n : Nat) : Stamp := { sec := n / 1000000000, ns := n % 1000000000, frac := 0 }

/-- MONO in nanoseconds. -/
def State.monoNs (s : State) : Nat := s.tim.mono.total

/-- PLANT is valid (Table 13.6). -/
def State.plantValid (s : State) : Bool := s.bit Reg.TIM_STAT 9

/-- The stamp of R451: 24 bits of power cycles over 40 bits of operating seconds. -/
def State.stamp (s : State) : Nat :=
  s.supply.powerCycles % 2 ^ 24 * 2 ^ 40 + s.supply.opSeconds % 2 ^ 40

/-! Configuration in force. -/

/-- The values of a configuration item in force, if it is present. -/
def State.cfgVals (s : State) (sec item : Nat) : Option (List Word) :=
  (s.cfg.items.find? (fun p => p.1 == 256 * sec + item)).map (·.2)

/-- One value of a configuration item, or its default. -/
def State.cfgW (s : State) (sec item idx : Nat) (dflt : Word) : Word :=
  match s.cfgVals sec item with
  | some vs => vs.getD idx dflt
  | none => dflt

/-- One unsigned value of a configuration item, or its default. -/
def State.cfgN (s : State) (sec item idx dflt : Nat) : Nat :=
  (s.cfgW sec item idx (BitVec.ofNat 32 dflt)).toNat

/-- Compatibility mode (R1). -/
def State.compat (s : State) : Bool := s.bit Reg.SYS_CONFIG 31

/-- Converter-fitted string (R1). -/
def State.converter (s : State) : Bool := s.bit Reg.SYS_CONFIG 30

/-- The configured cell count. -/
def State.cellCount (s : State) : Nat := s.fld Reg.SYS_CONFIG 25 16

/-- The configured node count. -/
def State.nodeCount (s : State) : Nat := s.fld Reg.SYS_CONFIG 5 0

/-- The rated string current, A (binary32). -/
def State.iRated (s : State) : Word := s.cfgW 1 2 0 0

/-- A fraction num/1000 of the rated current, A. -/
def State.ratedPart (s : State) (num : Nat) : Word :=
  f32Div (f32Mul s.iRated (f32OfInteger num)) (f32OfInteger 1000)

/-- The string cell number of a node's input, 0 for none (R10): node and input from 1. -/
def State.cellOf (s : State) (node input : Nat) : Nat :=
  s.cfgN 1 5 (16 * (node - 1) + (input - 1)) 0

/-! Table entries with an all-default record. -/

/-- An entry of a per-unit table. -/
def tget {α : Type} (d : α) (l : List (Nat × α)) (k : Nat) : α := Sparse.get (fun _ => d) l k

/-- A per-unit table with an entry set. -/
def tset {α : Type} [DecidableEq α] (d : α) (l : List (Nat × α)) (k : Nat) (v : α) :
    List (Nat × α) := Sparse.set (fun _ => d) l k v

/-! Insole areas. -/

/-- The area of Table 1.2, counted from 0, that a window address lies in. -/
def insoleArea (a : Nat) : Nat :=
  ([0x60800000, 0x61000000, 0x61400000, 0x61800000, 0x61A00000, 0x62A00000, 0x63200000, 0x63300000, 0x63C00000].filter
    (fun b => decide (b ≤ a))).length

/-- A cut program operation leaves its page of an area undefined (R24). A page of the detail ring is then lost; every
other page shows at its read-back. -/
def State.spoil (s : State) (area : Nat) : State :=
  if area = 5 ∧ s.recorder.writing.isNone then
    { s with recorder := { s.recorder with
      ring := s.recorder.ring.filter (fun (x : Nat × List DetailEntry) => x.1 + 1 != s.recorder.ringPos) } }
  else { s with links := { s.links with spoilt := area :: s.links.spoilt.filter (· != area) } }

/-- A page of the area is undefined. -/
def State.spoilt (s : State) (area : Nat) : Bool := s.links.spoilt.contains area

/-- The area has been read back or erased: what was undefined is known. -/
def State.unspoil (s : State) (area : Nat) : State :=
  { s with links := { s.links with spoilt := s.links.spoilt.filter (· != area) } }

/-! The order of Insole operations (R453). -/

/-- Precedence: journal, Last, persistence slots, configuration, recorder, images. -/
def InsoleOp.rank : InsoleOp → Nat
  | .journal => 0
  | .journalErase => 0
  | .last => 1
  | .persist => 2
  | .config => 3
  | .recorder => 4
  | .recorderErase => 4
  | .image => 5
  | .imageErase => 5

/-- The operation gives way to one of higher precedence at the end of its page or sector: the recorder's, and an erase. -/
def InsoleOp.yields : InsoleOp → Bool
  | .journalErase => true
  | .recorder => true
  | .recorderErase => true
  | .imageErase => true
  | _ => false

/-- The operation has begun and has not ended. -/
def State.insoleInHand (s : State) : InsoleOp → Bool
  | .journal => s.est.writing.isSome
  | .journalErase => s.est.erasing
  | .last => s.red.copying.isSome
  | .persist => s.prg.persistWriting.isSome
  | .config => s.cfg.writing.isSome || s.cfg.deviceWrite || s.cfg.safetyWrite.isSome
  | .recorder => s.recorder.writing.isSome
  | .recorderErase => s.recorder.erasing || s.recorder.ringErasing
  | .image => s.update.programming.isSome
  | .imageErase => s.fld Reg.UPD_SESSION 31 29 == 1

/-- The Insole operations in their precedence. -/
def insoleOps : List InsoleOp :=
  [.journal, .journalErase, .last, .persist, .config, .recorder, .recorderErase, .image, .imageErase]

/-- The operation that runs: the first of those begun. -/
def State.insoleNext (s : State) : Option InsoleOp := (s.links.insole ++ insoleOps).find? s.insoleInHand

/-- The operation runs, and can end. -/
def State.insoleTurn (s : State) (op : InsoleOp) : Bool := !s.supply.insoleHold && s.insoleNext == some op

/-- Where an operation takes its place among those begun: before the one that runs if that gives way to it, and after
those of its own precedence and higher. -/
def insolePlace (op : InsoleOp) : List InsoleOp → List InsoleOp
  | [] => [op]
  | h :: rest =>
    if op.rank < h.rank ∧ h.yields then op :: h :: rest
    else h :: rest.filter (fun o => decide (o.rank ≤ op.rank)) ++ op :: rest.filter (fun o => decide (op.rank < o.rank))

/-- An operation begins; one in hand keeps its place. -/
def State.insoleStart (s : State) (op : InsoleOp) : State :=
  if s.insoleInHand op then s
  else { s with links := { s.links with insole := insolePlace op (s.links.insole.filter s.insoleInHand) } }


/-! DMA request lines. -/

/-- A block strobes a request line (R389): the bound channel's request count rises, up to 255. -/
def State.dmaRequest (s : State) (line : Nat) : State :=
  match (List.range 16).find? (fun n =>
      s.fld (Reg.DMA_CH_STAT n) 21 16 == line && s.fld (Reg.DMA_CH_STAT n) 31 28 != 0 &&
      s.fld (Reg.DMA_CH_STAT n) 31 28 != 5) with
  | none => s
  | some n =>
    have c := tget {} s.dma.chans n
    have waiting := s.fld (Reg.DMA_CH_STAT n) 31 28 == 3
    have us := if waiting then (s.monoNs - c.waitSince) / 1000 else 0
    have c1 := { c with requests := satInc c.requests 255, stallUs := min 0xFFFFFF (c.stallUs + us) }
    have s1 := { s with dma := { s.dma with chans := tset {} s.dma.chans n c1 } }
    if waiting then
      (s1.setFld (Reg.DMA_CH_STAT n) 31 28 1).setFld (Reg.DMA_CH_STALL n) 23 0
        (max (s1.fld (Reg.DMA_CH_STALL n) 23 0) (min 0xFFFFFF us))
    else s1

end Sys2Proof.Machine
end

