-- ==== Sys2Proof/Machine/Event.lean ====
section
/-!
DEFINITION. The event controller (R38 to R46) and the recorder's account of every strobe (R448 to R450,
R453): one operation, strobe, which every source of an event uses.
-/

namespace Sys2Proof.Machine

/-! Event sources by number (Table 1.10). -/
namespace Src
def SYS_STATE_CHANGE := 0
def SYS_BOOT_DONE := 1
def SYS_CONFIG_REFUSED := 2
def CLK_REFCLK_LOSS := 3
def CLK_PLL_UNLOCK := 4
def CLK_AON_FAULT := 5
def PWR_VIN_LOW := 6
def PWR_VIN_RESTORED := 7
def PWR_HOLDUP_FAIL := 8
def EVT_QUEUE_OVERFLOW := 9
def MEM_PARITY_CODE := 10
def MEM_PARITY_DATA := 11
def MEM_PARITY_ARRAY := 12
def MEM_LINK_ERROR := 13
def MEM_INSOLE_ECC := 14
def MEM_INSOLE_WEAR := 15
def DMA_DONE := 16
def DMA_STALL := 17
def DMA_LINK_LOOP := 18
def DMA_BUS_ERROR := 19
def DMA_QUEUE_HIGH := 20
def TTH_PORTA_HB_LOST := 21
def TTH_PORTB_HB_LOST := 22
def TTH_ALARM_TONE := 23
def TTH_BREAK := 24
def TTH_REROUTE := 25
def TTH_FRAME_DISCARD := 26
def TTH_ENUM_DONE := 27
def TTH_NODE_CHANGE := 28
def TTH_WIRE_SUSPECT := 29
def TTH_BURST_READY := 30
def SWP_RECORD := 31
def SWP_NOISY := 32
def SWP_PARTIAL := 33
def SWP_RATE_CHANGE := 34
def SWP_BURST_DONE := 35
def EST_PLACEMENT := 36
def EST_BORROW_CLUSTER := 37
def EST_BORROW_REGION := 38
def EST_BORROW_DIE := 39
def EST_FIDELITY_DOWN := 40
def EST_FIDELITY_UP := 41
def EST_DEFICIENT := 42
def EST_UNIT_SUSPECT := 43
def EST_REANCHORED := 44
def EST_NO_ANCHOR := 45
def EST_JOURNAL := 46
def CTL_OVERFLOW := 47
def CTL_SOFTSTART_DONE := 48
def CTL_AWL_DONE := 49
def CTL_SLOT_OVERRUN := 50
def CTL_ADC_RANGE := 51
def PWM_TRIP_PIN := 52
def PWM_TRIP_COMP := 53
def PWM_PERIOD := 54
def PCS_REQUEST := 55
def PCS_FRAME_DISCARD := 56
def PCS_REQUEST_MISSED := 57
def PCS_LINK_LOSS := 58
def PCS_DISPATCH := 59
def SAF_DEMAND := 60
def SAF_DROGUE_ENTER := 61
def SAF_DROGUE_EXIT := 62
def SAF_DISCREPANCY := 63
def SAF_WELD := 64
def SAF_TEST_PULSE := 65
def SAF_PARAM_MISMATCH := 66
def SAF_ACK_PENDING := 67
def SOLE_WATCHDOG := 68
def SOLE_CHAIN_LOSS := 69
def SOLE_COMPARATOR := 70
def SOLE_RESET_HELD := 71
def SOLE_LOG := 72
def WLT_ARMING := 73
def WLT_RUNNING := 74
def WLT_FAILED := 75
def WLT_ERROR := 76
def WLT_PDU_RX := 77
def PRG_DEADLINE := 78
def PRG_STATION_ABSENT := 79
def PRG_STATION_BACK := 80
def PRG_CHANGE_DONE := 81
def PRG_CHANGE_REFUSED := 82
def PRG_FORCE_DROPPED := 83
def PRG_USER0 := 84
def CMD_SESSION := 88
def CMD_VIOLATION := 89
def CMD_THROTTLE := 90
def ETH_LINK_A := 91
def ETH_LINK_B := 92
def ETH_PATH_LOSS := 93
def ETH_RX := 94
def ETH_TX_DONE := 95
def TIM_PPS := 96
def TIM_LOCKED := 97
def TIM_HOLDOVER := 98
def TIM_ALARM0 := 99
def CAN_RX_FIFO (n : Nat) := 101 + 4 * n
def CAN_RX_BUFFER (n : Nat) := 102 + 4 * n
def CAN_TX_DONE (n : Nat) := 103 + 4 * n
def CAN_STATUS (n : Nat) := 104 + 4 * n
def REC_PERSIST_DONE := 117
def REC_RATE_LIMIT := 118
def REC_PERSIST_STOPPED := 119
def UPD_BLOCK_FAIL := 120
def UPD_VERIFIED := 121
def UPD_REFUSED := 122
def UPD_ROLLBACK := 123
def RED_GRANT := 124
def RED_LAST_STALE := 125
def RED_LAST_SENT := 126
def RED_PARTNER_LINK := 127
end Src

/-! The recorder's account of an occurrence. -/

/-- REC_RATE in force (R450). -/
def State.recRate (s : State) : Nat := s.fld Reg.REC_CONFIG 7 0

/-- Spare sectors left (R456). -/
def State.spares (s : State) : Nat := s.fld Reg.MEM_INSOLE_INFO 7 0

/-- The detail ring: 128 sectors of 256 pages (R452). -/
def detailPages : Nat := 32768

/-- Program the first entries of the page buffer, at most seven, at the ring position (R453). Nothing
is programmed while VIN_LOW holds, while four or fewer spares are left, or while the sector is erased;
the entries then wait. Filling a sector's last page starts the erase of the next sector. -/
def State.recProgramPage (s : State) : State :=
  if s.recorder.page.isEmpty || s.supply.insoleHold || decide (s.spares ≤ 4) ||
      s.recorder.ringErasing then s
  else
    have p := s.recorder.ringPos
    have next := (p + 1) % detailPages
    have entering := next % 256 == 0
    have ring := tset [] s.recorder.ring p (s.recorder.page.take 7)
    have ring1 := if entering then
        ring.filter (fun e => !(decide (next ≤ e.1) && decide (e.1 < next + 256))) else ring
    have s1 := if entering then s.insoleStart .recorderErase else s
    { s1 with recorder := { s.recorder with
        page := s.recorder.page.drop 7, ring := ring1, ringPos := next, ringErasing := entering } }

/-- One occurrence of an event code (R449, R450): the counter entry, and a detail entry when the code's
bucket holds a token. The Bool says that REC_RATE_LIMIT strobes. -/
def State.recOccur (s : State) (code detail : Nat) : State × Bool :=
  have c := tget {} s.recorder.counters code
  have c1 : RecCounter := { count := satInc c.count 0xFFFFFFFF,
                            first := if c.first = 0 then s.stamp else c.first, last := s.stamp }
  have s1 := { s with recorder := { s.recorder with counters := tset {} s.recorder.counters code c1 } }
  have spent := tget 0 s1.recorder.spent code
  have supp := tget 0 s1.recorder.suppressed code
  if spent < s1.recRate then
    have e : DetailEntry := {
      seq := s1.recorder.nextEntry, code := code, suppressed := min supp 0xFFFF,
      detail := detail % 2 ^ 24, stamp := s1.stamp,
      plantS := if s1.plantValid then s1.tim.plant.sec else 0,
      plantNs := if s1.plantValid then s1.tim.plant.ns else 0 }
    have s2 := { s1 with recorder := { s1.recorder with
        spent := tset 0 s1.recorder.spent code (spent + 1),
        suppressed := tset 0 s1.recorder.suppressed code 0,
        page := s1.recorder.page ++ [e],
        nextEntry := (s1.recorder.nextEntry + 1) % 2 ^ 32 } }
    have s3 := s2.incFld Reg.REC_DETAIL 31 16
    (if s3.recorder.page.length ≥ 7 then s3.recProgramPage else s3, false)
  else
    have s2 := { s1 with recorder := { s1.recorder with
        suppressed := tset 0 s1.recorder.suppressed code (supp + 1) } }
    have s3 := (s2.incFld Reg.REC_DETAIL 15 0).flag Reg.REC_STAT Reg.REC_STAT_COUNT 1
    (s3, supp == 0)

/-! Event tasks. -/

/-- The task record of a task. -/
def State.task (s : State) (k : Nat) : TaskRt := tget {} s.prg.tasks k

/-- The state with a task record set. -/
def State.setTask (s : State) (k : Nat) (t : TaskRt) : State :=
  { s with prg := { s.prg with tasks := tset {} s.prg.tasks k t } }

/-- PRG.TASKk_STAT.STATE. -/
def State.taskState (s : State) (k : Nat) : Nat := s.fld (Reg.PRG_TASK_STAT k) 30 28

/-- Release an event task (R320): from idle it becomes ready, or waits for its error task (R335), and its
deadline timer starts; while it runs one release is held; a release that finds it already pending is
counted as lost. -/
def State.releaseEvent (s : State) (k : Nat) : State :=
  have t := s.task k
  match s.taskState k with
  | 0 => (s.setFld (Reg.PRG_TASK_STAT k) 30 28 (if t.waits.isSome then 4 else 1)).setTask k
      { t with timer := some s.monoNs }
  | 2 => if t.pending then s.incFld (Reg.PRG_TASK_STAT k) 23 16
         else s.setTask k { t with pending := true }
  | 3 => if t.pending then s.incFld (Reg.PRG_TASK_STAT k) 23 16
         else s.setTask k { t with pending := true }
  | 5 => s
  | _ => s.incFld (Reg.PRG_TASK_STAT k) 23 16

/-- Tasks run (PRG.STATE.RUN_STATE 2): no event task is released otherwise (R324). -/
def State.tasksRun (s : State) : Bool := s.fld Reg.PRG_STATE 2 0 == 2

/-- Whether task k is an event task bound to a source (Table 10.16). -/
def State.boundTo (s : State) (src k : Nat) : Bool :=
  s.bit (Reg.PRG_TASK_CFG k) 31 && s.bit (Reg.PRG_TASK_CFG k) 30 &&
    s.fld (Reg.PRG_TASK_CFG k) 6 0 == src

/-- Delivery of an enabled event (R40): to the service core and to every event task bound to it. -/
def State.deliver (s : State) (src detail : Nat) : State :=
  have s1 := s.emit (.eventToCore src detail)
  if s1.tasksRun then
    (List.range 48).foldl (fun t k => if s.boundTo src k then t.releaseEvent k else t) s1
  else s1

/-! The event queue. -/

/-- FILL of the event queue (R45). -/
def State.queueFill (s : State) : Nat :=
  (s.fld Reg.EVT_QUEUE_HEAD 8 0 + 512 - s.fld Reg.EVT_QUEUE_TAIL 8 0) % 512

/-- The 16-byte queue record of an occurrence (Table 1.11). -/
def State.queueRecord (s : State) (src detail : Nat) : Bytes :=
  bytesLE 4 (detail % 2 ^ 24 * 256 + src % 128) ++ bytesLE 4 s.tim.mono.ns ++
  bytesLE 4 s.tim.mono.sec ++
  bytesLE 4 (s.fld (Reg.EVT_COUNT (src / 4)) (8 * (src % 4) + 7) (8 * (src % 4)) * 0x10000 +
    s.evt.recordSeq % 0x10000)

/-- Write a queue record into slot HEAD mod 256 (R42, R45) and strobe request line 31. -/
def State.queuePush (s : State) (src detail : Nat) : State :=
  have h := s.fld Reg.EVT_QUEUE_HEAD 8 0
  have s1 := s.putBytes ((s.rd Reg.EVT_QUEUE_BASE).toNat + 16 * (h % 256)) (s.queueRecord src detail)
  have s2 := { s1 with evt := { s1.evt with recordSeq := (s1.evt.recordSeq + 1) % 0x10000 } }
  have s3 := s2.setFld Reg.EVT_QUEUE_HEAD 8 0 ((h + 1) % 512)
  (s3.setFld Reg.EVT_QUEUE_STAT 8 0 s3.queueFill).dmaRequest 31

/-- A record dropped because 256 are unread (R43). -/
def State.queueDrop (s : State) : State := s.incFld Reg.EVT_QUEUE_STAT 31 16

/-- Pending flag, occurrence counter and detail of a source (R39). -/
def State.evtMark (s : State) (src detail : Nat) : State :=
  ((s.setBit (Reg.EVT_PEND (src / 32)) (src % 32) true).incFld (Reg.EVT_COUNT (src / 4))
    (8 * (src % 4) + 7) (8 * (src % 4))).wr (Reg.EVT_DETAIL src) (BitVec.ofNat 32 (detail % 2 ^ 24))

/-- One strobe and those it brings about, to a depth: a dropped record strobes EVT_QUEUE_OVERFLOW
(R43), and the first suppressed detail entry of a code strobes REC_RATE_LIMIT (R450). -/
def State.strobeTo : Nat → State → Nat → Nat → State
  | 0, s, _, _ => s
  | n + 1, s, src, detail =>
    have s1 := s.evtMark src detail
    have s2 := if s1.bit (Reg.EVT_ENABLE (src / 32)) (src % 32) then s1.deliver src detail else s1
    have logged := s2.bit (Reg.EVT_QLOG (src / 32)) (src % 32) && src != Src.EVT_QUEUE_OVERFLOW
    have s3 :=
      if logged then
        if s2.queueFill ≥ 256 then
          have d := s2.queueDrop
          strobeTo n d Src.EVT_QUEUE_OVERFLOW
            (d.fld Reg.EVT_QUEUE_STAT 31 16 * 256 + src)
        else s2.queuePush src detail
      else s2
    have r := s3.recOccur src detail
    have s4 := if r.2 then strobeTo n r.1 Src.REC_RATE_LIMIT src else r.1
    have app := detail % 2 ^ 24 / 2 ^ 14
    if 84 ≤ src ∧ src ≤ 87 ∧ 256 ≤ app then
      have q := s4.recOccur app detail
      if q.2 then strobeTo n q.1 Src.REC_RATE_LIMIT app else q.1
    else s4

/-- A source strobes (R39). A strobe brings about further ones to a depth of at most six: each of
EVT_QUEUE_OVERFLOW and REC_RATE_LIMIT can be suppressed for the first time only once. -/
def State.strobe (s : State) (src detail : Nat) : State := State.strobeTo 8 s src detail

end Sys2Proof.Machine
end

