-- ==== Sys2Proof/Machine/Mem.lean ====
section
/-!
DEFINITION. GSRAM and its allocation (R376 to R381), the Insole's wear (R455, R456) and the parity
responses that do not need another block (R383 to R385).
-/

namespace Sys2Proof.Machine

/-- Bytes rounded up to whole 4 KB pages. -/
def pageUp (n : Nat) : Nat := (n + 0xFFF) / 0x1000 * 0x1000

/-- The base of the user pool, its end, and the service bank (R376). -/
def userPool : Nat := 0x20EC0000
def serviceBank : Nat := 0x20F00000
def gsramEnd : Nat := 0x21000000

/-- The page of the service bank that holds the allocation map (DESIGN CHOICE, assumption 21). -/
def allocPage : Nat := serviceBank

/-- A replay ring entry, padded to 16 bytes (R145). -/
def State.replayEntry (s : State) : Nat := (16 + 2 * s.cellCount + 9 * s.nodeCount + 15) / 16 * 16

/-- Sizes of the fixed areas 1 to 14 in their order (Table 12.1). -/
def State.areaSizes (s : State) : List Nat :=
  [0x1000, 0x40000, 64 + 768 * 32, 32 + 288 * 16, 32 + 768 * 16, 0x4000, 768 * 144, 256 * 8, 262208,
   8 * 0x1800, 68 + 576 * s.cellCount, 6144 * s.cellCount, 1250 * s.replayEntry,
   16448 + 139400 * s.nodeCount]

/-- Base of the fixed area of an index from 0: each area starts at the next 4 KB boundary (R377). -/
def State.areaBase (s : State) (i : Nat) : Nat :=
  0x20000000 + ((s.areaSizes.take i).map pageUp).sum

/-- End of the fixed areas, where the program pool begins (R378). -/
def State.fixedEnd (s : State) : Nat := s.areaBase 14

/-- The base of the cell result table (area 3). -/
def State.cellTable (s : State) : Nat := s.areaBase 2

/-- Published image and persistence sizes I and S of a program, rounded to 4 KB (R378). -/
def progImageSize (p : Program) : Nat := pageUp (p.retainBytes + p.persistBytes + p.dataBytes)

/-- Bytes of a value of a type (Table 10.4). -/
def typeSize (t : Nat) : Nat :=
  match t with
  | 0 => 1
  | 1 => 2
  | 3 => 2
  | 6 => 8
  | _ => 4

/-- Bytes of a program's persistence record (R343). -/
def progPersistSize (p : Program) : Nat :=
  68 + ((p.symbols.filter (fun y => y.cls == 4)).map
    (fun y => 8 + (typeSize y.ty * y.elements + 3) / 4 * 4)).sum

/-- Whether a program fits the program pool (R378). -/
def State.poolFits (s : State) (p : Program) : Bool :=
  decide (2 * progImageSize p + pageUp (progPersistSize p) ≤ userPool - s.fixedEnd)

/-- The program in the active bank. -/
def State.program (s : State) : Option Program :=
  if s.bit Reg.PRG_STATE 10 then s.prg.bankB else s.prg.bankA

/-- The program in the inactive bank. -/
def State.inactive (s : State) : Option Program :=
  if s.bit Reg.PRG_STATE 10 then s.prg.bankA else s.prg.bankB

/-- One entry of the allocation map (R380). -/
def allocEntry (area base size : Nat) : Bytes :=
  bytesLE 2 area ++ bytesLE 2 1 ++ bytesLE 4 base ++ bytesLE 4 size ++ bytesLE 4 0

/-- The user pool pages in use. -/
def State.userPages (s : State) : Nat := (s.dma.allocs.map (fun a => a.2.2)).sum

/-- Rewrite the allocation map and count it (R380); MEM.POOL follows. -/
def State.rewriteAllocMap (s : State) : State :=
  have s0 := s.incWrap Reg.MEM_ALLOC_SEQ
  have fixed := (List.range 14).map (fun i =>
    allocEntry (i + 1) (s.areaBase i) (pageUp (s.areaSizes.getD i 0)))
  have prog := match s.program with
    | none => []
    | some p =>
      [allocEntry 33 (s.rd Reg.PRG_IMAGE_BASE).toNat (progImageSize p),
       allocEntry 34 (s.fixedEnd + 2 * progImageSize p) (pageUp (progPersistSize p))]
  have used := match s.program with
    | none => 0
    | some p => 2 * progImageSize p + pageUp (progPersistSize p)
  have users := s.dma.allocs.map (fun a =>
    allocEntry (48 + a.1) (userPool + 0x1000 * a.2.1) (0x1000 * a.2.2))
  have entries := fixed ++ [allocEntry 32 s.fixedEnd (userPool - s.fixedEnd)] ++ prog ++ users
  have s1 := s0.putBytes allocPage (bytesLE 4 (s0.rd Reg.MEM_ALLOC_SEQ).toNat ++
    bytesLE 2 entries.length ++ zeros 10 ++ entries.flatten ++ zeros (0x1000 - 16 - 16 * entries.length))
  (s1.setFld Reg.MEM_POOL 31 16 ((userPool - s.fixedEnd - used) / 0x1000)).setFld Reg.MEM_POOL 6 0
    (64 - s.userPages)

/-- Place the fixed areas at Boot and report their bases (R377, R380). -/
def State.placeAreas (s : State) : State :=
  have put := fun (t : State) (r i : Nat) => t.wr r (BitVec.ofNat 32 (s.areaBase i))
  have s1 := put (put (put (put s Reg.EVT_QUEUE_BASE 0) Reg.SWP_RING_BASE 1) Reg.EST_MAP_BASE 3)
    Reg.EST_LEDGER_BASE 4
  have s2 := put (put (put (put s1 Reg.EST_XFER_BASE 5) Reg.SWP_IMP_BASE 6) Reg.PWM_EDGE_BASE 7)
    Reg.CTL_AWL_BASE 8
  have s3 := put (put (put s2 Reg.EST_CKPT_BASE 11) Reg.EST_REPLAY_BASE 12) Reg.SWP_BURST_BASE 13
  (s3.wr Reg.MEM_ALLOC_BASE (BitVec.ofNat 32 allocPage)).rewriteAllocMap

/-! Insole wear. -/

/-- The wear state by spares left (R456): 0 normal, 1 low, 2 low with the recorder stopped,
3 exhausted. -/
def wearState (spares : Nat) : Nat :=
  if spares ≥ 11 then 0 else if spares ≥ 5 then 1 else if spares ≥ 1 then 2 else 3

/-- Retire a sector (R455): a spare takes its place and MEM_INSOLE_WEAR strobes; each change of the wear
state sets MEM.STAT.WEAR and strobes (R456); with four spares left the recorder stops; with none left the
area turns read-only. area counts Table 1.2 from 0. -/
def State.retireSector (s : State) (area : Nat) : State :=
  have old := s.spares
  have new := old - 1
  have readOnly := old == 0
  have s1 := s.setFld Reg.MEM_INSOLE_INFO 7 0 new
  have changed := wearState old != wearState new
  have s2 := if changed then s1.flag Reg.MEM_STAT Reg.MEM_STAT_COUNT0 5 else s1
  have s2a : State := if readOnly then { s2 with
      links := { s2.links with readOnly := area :: s2.links.readOnly.filter (· != area) },
      est := { s2.est with readOnly := s2.est.readOnly || area == 4 } } else s2
  have s3 := s2a.strobe Src.MEM_INSOLE_WEAR
    (b2n readOnly * 2 ^ 23 + area % 16 * 2 ^ 10 + wearState new * 2 ^ 8 + new)
  if wearState old < 2 ∧ wearState new ≥ 2 then
    have s4 := (s3.flag Reg.REC_STAT Reg.REC_STAT_COUNT 2).setBit Reg.REC_STAT 10 true
    s4.strobe Src.REC_PERSIST_STOPPED new
  else s3

/-! Parity. -/

/-- A data parity error (R383): MEM_PARITY_DATA with the requester, DATA_ADDR and DATA_INFO; the byte
stays in error until it is written. -/
def State.dataParity (s : State) (requester addr : Nat) (interconnect : Bool) : State :=
  have s1 := (s.wr Reg.MEM_DATA_ADDR (BitVec.ofNat 32 addr)).setFld Reg.MEM_DATA_INFO 31 29 requester
  have s2 := (s1.incFld Reg.MEM_DATA_INFO 15 0).flag Reg.MEM_STAT Reg.MEM_STAT_COUNT0 1
  have s3 := if interconnect then s2 else { s2 with dma := { s2.dma with
    badBytes := addr :: s2.dma.badBytes.filter (· != addr) } }
  s3.strobe Src.MEM_PARITY_DATA
    (requester % 8 * 2 ^ 21 + b2n interconnect * 2 ^ 20 + (addr - 0x20000000) / 16 % 2 ^ 20)

/-- SCRUB_PASS (R385): one pass over GSRAM; each latent error raises MEM_PARITY_DATA with requester 7
and is counted; nothing is repaired. -/
def execScrubPass (latent : List Word) (s : State) : Host.Outcome State Fault Refusal := s.whenVamp <|
  have s1 := latent.foldl (fun t a => (t.dataParity 7 a.toNat false).incFld Reg.MEM_SCRUB 15 0) s
  .next (s1.setFld Reg.MEM_SCRUB 31 16 (s.fld Reg.MEM_SCRUB 31 16 + 1))

/-- An uncorrectable Insole word (R19): MEM_INSOLE_ECC with its offset divided by 8. -/
def State.insoleEcc (s : State) (addr : Nat) : State :=
  (s.flag Reg.MEM_STAT Reg.MEM_STAT_COUNT0 4).strobe Src.MEM_INSOLE_ECC
    ((addr - 0x60000000) / 8)

end Sys2Proof.Machine
end

