-- ==== Sys2Proof/Machine/Image.lean ====
section
/-!
DEFINITION. A program's symbols and its published image (R309, R310, R327, R328), and the persistence slots
(R343).
-/

namespace Sys2Proof.Machine

/-! Symbols and values. -/

/-- The symbol of an index, counted from 1 (Table 10.3). -/
def symOf (p : Program) (i : Nat) : Option Symbol := if i = 0 then none else p.symbols[i - 1]?

/-- The index of the symbol of an identity. -/
def symIndex (p : Program) (ident : Word) : Option Nat :=
  (p.symbols.findIdx? (fun y => y.identity == ident)).map (· + 1)

/-- The key of an element in an image. -/
def valKey (sym el : Nat) : Nat := 65536 * sym + el

/-- The stack entry of a bit pattern of type t (R310): sign-extended for signed types, zero-extended
otherwise; a BOOL is 0 or 1. -/
def extend (t n : Nat) : Quad :=
  match t with
  | 0 => if n % 256 = 0 then 0 else 1
  | 1 => BitVec.ofInt 64 (signed 16 n)
  | 2 => BitVec.ofInt 64 (signed 32 n)
  | 3 => BitVec.ofNat 64 (n % 2 ^ 16)
  | 6 => BitVec.ofNat 64 n
  | _ => BitVec.ofNat 64 (n % 2 ^ 32)

/-- A value as it stands in memory, at its natural size (R310). -/
def valBytes (t : Nat) (v : Quad) : Bytes := bytesLE (typeSize t) v.toNat

/-- The value of a type at an offset of a byte string; bytes beyond its end read 0. -/
def valAt (t : Nat) (bs : Bytes) (off : Nat) : Quad := extend t (fieldLE bs off (typeSize t))

/-- The initial and the safe value of an element. -/
def symInit (y : Symbol) (el : Nat) : Quad := y.init.getD el 0
def symSafe (y : Symbol) (el : Nat) : Quad := y.safe.getD el 0

/-- Bytes of a symbol's data. -/
def symSize (y : Symbol) : Nat := typeSize y.ty * y.elements

/-- Where a symbol's data stands in the image: the symbols follow each other in table order (DESIGN CHOICE,
assumption 50). -/
def symOffset (p : Program) (sym : Nat) : Nat := ((p.symbols.take (sym - 1)).map symSize).sum

/-- The published value of an element as the runtime holds it. -/
def State.imageVal (s : State) (sym el : Nat) : Quad := tget 0 s.prg.image (valKey sym el)

/-- Publish one element: the image and its bytes at PRG.IMAGE_BASE (R328). -/
def State.setImage (s : State) (p : Program) (sym el : Nat) (v : Quad) : State :=
  match symOf p sym with
  | none => s
  | some y =>
    have s1 : State := { s with prg := { s.prg with image := tset 0 s.prg.image (valKey sym el) v } }
    s1.putBytes ((s.rd Reg.PRG_IMAGE_BASE).toNat + symOffset p sym + typeSize y.ty * el) (valBytes y.ty v)

/-- Publish elements of a symbol from a function of the element. -/
def State.setSymbol (s : State) (p : Program) (sym : Nat) (y : Symbol) (f : Nat → Quad) : State :=
  (List.range y.elements).foldl (fun t el => t.setImage p sym el (f el)) s

/-- The symbols of a program with their indexes. -/
def symList (p : Program) : List (Nat × Symbol) := (List.range p.symbols.length).zip p.symbols |>.map
  (fun (x : Nat × Symbol) => (x.1 + 1, x.2))

/-! Persistence (R343). -/

/-- The first persistence slot of the active bank: 0 and 1 are bank A's, 2 and 3 bank B's. -/
def State.persistBase (s : State) : Nat := if s.bit Reg.PRG_STATE 10 then 2 else 0

/-- The record in a persistence slot. -/
def State.persistSlot (s : State) (i : Nat) : Option PersistRec :=
  (s.prg.persist.find? (fun (x : Nat × PersistRec) => x.1 == i)).map (·.2)

/-- The newer record of two slots. -/
def newerPersist (a b : Option PersistRec) : Option PersistRec :=
  match a, b with
  | some x, some y => some (if x.pseq < y.pseq then y else x)
  | some x, none => some x
  | none, y => y

/-- The record a trigger writes: every PERSIST symbol at one instant. -/
def State.persistRecord (s : State) (p : Program) : PersistRec :=
  have b := s.persistBase
  { pseq := ((newerPersist (s.persistSlot b) (s.persistSlot (b + 1))).map (·.pseq)).getD 0 + 1,
    progId := p.progId, stamp := s.stamp,
    entries := ((symList p).filter (fun (x : Nat × Symbol) => x.2.cls == 4)).map (fun (x : Nat × Symbol) =>
      (x.2.identity, x.2.ty, (List.range x.2.elements).map (fun el => s.imageVal x.1 el))) }

/-- A byte string filled with zeros to whole words. -/
def padWord (bs : Bytes) : Bytes := bs ++ zeros ((4 - bs.length % 4) % 4)

/-- Bytes of a persistence record (R343). -/
def PersistRec.bytes (r : PersistRec) : Bytes :=
  have body := bytesLE 4 r.pseq ++ bytesLE 4 r.progId.toNat ++ bytesLE 8 r.stamp ++ bytesLE 4 r.entries.length ++
    zeros 44 ++ r.entries.flatMap (fun (e : Word × Nat × List Quad) =>
      bytesLE 4 e.1.toNat ++ bytesLE 1 e.2.1 ++ [0] ++ bytesLE 2 e.2.2.length ++
        padWord (e.2.2.flatMap (valBytes e.2.1)))
  body ++ bytesLE 4 (crc32 body).toNat

/-- Start a persistence write into the older slot of the active bank; its image stands in the staging
buffer of the program pool (R378). -/
def State.persistStart (s : State) (p : Program) : State :=
  have b := s.persistBase
  have slot := match s.persistSlot b, s.persistSlot (b + 1) with
    | none, _ => b
    | some _, none => b + 1
    | some x, some y => if x.pseq < y.pseq then b else b + 1
  have r := s.persistRecord p
  have s1 : State := { s.insoleStart .persist with prg := { s.prg with
    persist := s.prg.persist.filter (fun (x : Nat × PersistRec) => x.1 != slot),
    persistWriting := some (slot, r), persistHeld := false } }
  s1.putBytes (s.fixedEnd + 2 * progImageSize p) r.bytes

/-- A trigger of R182, or an on-line change (R343); during a write or VIN_LOW it is held. -/
def State.persistTrigger (s : State) : State :=
  match s.program with
  | none => s
  | some p =>
    if s.prg.persistWriting.isSome || s.supply.insoleHold then
      { s with prg := { s.prg with persistHeld := true } }
    else s.persistStart p

/-- A held trigger is served. -/
def State.persistResume (s : State) : State := if s.prg.persistHeld then s.persistTrigger else s

/-- The record in hand stands in its slot. -/
def State.persistCommit (s : State) : State :=
  match s.prg.persistWriting with
  | none => s
  | some (slot, r) =>
    { s with prg := { s.prg with
      persist := s.prg.persist.filter (fun (x : Nat × PersistRec) => x.1 != slot) ++ [(slot, r)], persistWriting := none } }

/-- VIN_LOW meets the write (R343, R184): with at most 3 pages left it finishes, otherwise it is abandoned. -/
def State.persistCut (s : State) (pagesLeft : Nat) : State :=
  if pagesLeft ≤ 3 then s.persistCommit else { s with prg := { s.prg with persistWriting := none } }

/-- PERSIST_WRITE_DONE (R343): a record with a page that a cut program operation left undefined is programmed again. -/
def execPersistWriteDone (s : State) : Host.Outcome State Fault Refusal := s.whenVamp <|
  have area := 2 + b2n (s.bit Reg.PRG_STATE 10)
  .next (if !s.insoleTurn .persist then s else if s.spoilt area then s.unspoil area else s.persistCommit.persistResume)

end Sys2Proof.Machine
end

