-- ==== Sys2Proof/Machine/BavinVal.lean ====
section
/-!
DEFINITION. Values of the Bavin code and what is computed on them (R310 to R312, Tables 10.5 and 10.6).
-/

namespace Sys2Proof.Machine

/-- Width of a type in bits. -/
def typeBits (t : Nat) : Nat := if t = 0 then 1 else 8 * typeSize t

/-- Signed types: INT16, INT32 and TIME64. -/
def typeSigned (t : Nat) : Bool := t == 1 || t == 2 || t == 6

/-- The integer types of Table 10.4. -/
def typeInt (t : Nat) : Bool := 1 ≤ t && t ≤ 4

/-- The number that a stack entry of an integer type, BOOL or TIME64 holds. -/
def valInt (v : Quad) : Int := v.toInt

/-- The binary32 that a stack entry of REAL32 holds. -/
def valReal (v : Quad) : Word := v.setWidth 32

/-- A stack entry of REAL32. -/
def ofReal (w : Word) : Quad := w.setWidth 64

/-- A stack entry of BOOL. -/
def ofBool (b : Bool) : Quad := if b then 1 else 0

/-- A BOOL entry is TRUE. -/
def isTrue (v : Quad) : Bool := v != 0

/-- The entry of a type for a number, wrapped modulo 2^n (R311). -/
def wrapVal (t : Nat) (i : Int) : Quad := extend t (wrapInt (8 * typeSize t) i)

/-- Least and greatest numbers of an integer type or TIME64 (Table 10.4). -/
def typeMin (t : Nat) : Int := if typeSigned t then -(2 ^ (typeBits t - 1) : Nat) else 0
def typeMax (t : Nat) : Int := if typeSigned t then (2 ^ (typeBits t - 1) : Nat) - 1 else (2 ^ typeBits t : Nat) - 1

/-- The entry of a type for a number, saturated (R312). -/
def satVal (t : Nat) (i : Int) : Quad := wrapVal t (max (typeMin t) (min (typeMax t) i))

/-! Arithmetic (R311). -/

def valAdd (t : Nat) (a b : Quad) : Quad :=
  if t = 5 then ofReal (f32Add (valReal a) (valReal b)) else wrapVal t (valInt a + valInt b)

def valSub (t : Nat) (a b : Quad) : Quad :=
  if t = 5 then ofReal (f32Sub (valReal a) (valReal b)) else wrapVal t (valInt a - valInt b)

def valMul (t : Nat) (a b : Quad) : Quad :=
  if t = 5 then ofReal (f32Mul (valReal a) (valReal b)) else wrapVal t (valInt a * valInt b)

def valNeg (t : Nat) (a : Quad) : Quad :=
  if t = 5 then ofReal (f32Neg (valReal a)) else wrapVal t (-valInt a)

def valAbs (t : Nat) (a : Quad) : Quad :=
  if t = 5 then ofReal (f32Abs (valReal a)) else wrapVal t (valInt a).natAbs

/-- Integer division: no fault and a quotient in range give it; a zero divisor gives none. -/
def valQuot (a b : Quad) : Option Int := if b = 0 then none else some ((valInt a).tdiv (valInt b))

/-- The remainder with the dividend's sign. -/
def valRem (a b : Quad) : Option Int := if b = 0 then none else some ((valInt a).tmod (valInt b))

/-! Comparison. A REAL32 comparison with a NaN is false, NE true (IEEE 754). -/

def valEq (t : Nat) (a b : Quad) : Bool := if t = 5 then f32Eq (valReal a) (valReal b) else a == b
def valLt (t : Nat) (a b : Quad) : Bool :=
  if t = 5 then f32Lt (valReal a) (valReal b) else decide (valInt a < valInt b)
def valLe (t : Nat) (a b : Quad) : Bool :=
  if t = 5 then f32Le (valReal a) (valReal b) else decide (valInt a ≤ valInt b)

def valMin (t : Nat) (a b : Quad) : Quad :=
  if t = 5 then ofReal (f32Min (valReal a) (valReal b)) else if valLt t b a then b else a

def valMax (t : Nat) (a b : Quad) : Quad :=
  if t = 5 then ofReal (f32Max (valReal a) (valReal b)) else if valLt t a b then b else a

/-- LIMIT: min(max(x, lo), hi). -/
def valLimit (t : Nat) (x lo hi : Quad) : Quad := valMin t (valMax t x lo) hi

/-! Bits. -/

/-- The bit pattern of an entry at its type's width. -/
def valBits (t : Nat) (v : Quad) : Nat := v.toNat % 2 ^ typeBits t

def valAnd (t : Nat) (a b : Quad) : Quad := extend t (Nat.land (valBits t a) (valBits t b))
def valOr (t : Nat) (a b : Quad) : Quad := extend t (Nat.lor (valBits t a) (valBits t b))
def valXor (t : Nat) (a b : Quad) : Quad := extend t (Nat.xor (valBits t a) (valBits t b))
def valNot (t : Nat) (a : Quad) : Quad := extend t (2 ^ typeBits t - 1 - valBits t a)

/-- SHL: a count at or above the width gives 0. -/
def valShl (t : Nat) (a n : Quad) : Quad :=
  if typeBits t ≤ n.toNat then 0 else extend t (valBits t a * 2 ^ n.toNat % 2 ^ typeBits t)

/-- SHR: arithmetic on signed types; a count at or above the width gives 0, or -1 for a negative value. -/
def valShr (t : Nat) (a n : Quad) : Quad :=
  if typeBits t ≤ n.toNat then (if typeSigned t && decide (valInt a < 0) then wrapVal t (-1) else 0)
  else wrapVal t (valInt a / (2 ^ n.toNat : Nat))

/-- ROL by a number of bit places. -/
def valRol (t : Nat) (a n : Quad) : Quad :=
  have w := typeBits t
  have k := n.toNat % w
  have x := valBits t a
  extend t (x * 2 ^ k % 2 ^ w + x / 2 ^ (w - k))

/-- ROR by a number of bit places. -/
def valRor (t : Nat) (a n : Quad) : Quad :=
  have w := typeBits t
  valRol t a (BitVec.ofNat 64 (w - n.toNat % w))

/-- SETBIT and CLRBIT of a bit inside the width. -/
def valSetBit (t : Nat) (a n : Quad) (v : Bool) : Quad :=
  have x := valBits t a
  have rest := x - x / 2 ^ n.toNat % 2 * 2 ^ n.toNat
  extend t (rest + b2n v * 2 ^ n.toNat)

/-! Conversion (R312). -/

/-- Whether R312 lists a pair of types. -/
def convListed (src dst : Nat) : Bool :=
  (typeInt src && typeInt dst) || (typeInt src && dst == 5) || (src == 5 && typeInt dst) ||
  (src == 0 && (typeInt dst || dst == 5)) || ((typeInt src || src == 5) && dst == 0) ||
  (src == 6 && (dst == 2 || dst == 4 || dst == 5)) || (dst == 6 && (src == 2 || src == 4 || src == 5))

/-- A REAL32 equals 0. -/
def realZero (w : Word) : Bool := f32Eq w 0

/-- Conversion between two types; TIME64 counts in µs against integers and in s against REAL32. -/
def valConv (src dst : Nat) (v : Quad) : Quad :=
  if src = 5 then
    have w := valReal v
    if dst = 0 then ofBool (!realZero w)
    else if dst = 6 then wrapVal 6 (f32ToInt .even (typeMin 6) (typeMax 6) 1000000000 w)
    else wrapVal dst (f32ToInt .trunc (typeMin dst) (typeMax dst) 1 w)
  else if dst = 5 then
    if src = 6 then ofReal (f32OfRat (valInt v) 1000000000) else ofReal (f32OfInteger (valInt v))
  else if dst = 0 then ofBool (v != 0)
  else if src = 6 then satVal dst ((valInt v).tdiv 1000)
  else if dst = 6 then satVal 6 (valInt v * 1000)
  else satVal dst (valInt v)

/-- TRUNC, ROUND, FLOOR and CEIL: REAL32 to INT32, saturated, NaN gives 0. -/
def valRound (mode : RoundMode) (v : Quad) : Quad :=
  wrapVal 2 (f32ToInt mode (typeMin 2) (typeMax 2) 1 (valReal v))

/-- XINSET's conversion to Q1.23 in bits [23:0], saturated, NaN taken as 0 (R315). -/
def realQ23 (w : Word) : Word :=
  BitVec.ofNat 32 (wrapInt 24 (f32ToInt .even (-0x800000) 0x7FFFFF 0x800000 w))

end Sys2Proof.Machine
end

