-- ==== Sys2Proof/Machine/BavinCode.lean ====
section
/-!
DEFINITION. The encoding of Bavin code (R313, Tables 10.5 to 10.7): the bytes of each instruction, and the
reading of a byte string as an instruction. Reserved encodings are read as nothing.
-/

namespace Sys2Proof.Machine

/-! Bytes of an instruction. -/

/-- A page 0 opcode with its type code in the low 3 bits, for the types its row lists. -/
def typedCode (base lo hi t : Nat) : Option Bytes :=
  if lo ≤ t ∧ t ≤ hi then some (bytesLE 1 (base + t)) else none

/-- NEG and ABS: types 1, 2, 5 and 6. -/
def signedCode (base t : Nat) : Option Bytes := if t = 3 ∨ t = 4 then none else typedCode base 1 6 t

/-- A typed opcode with a symbol operand. -/
def symbolCode (base t sym : Nat) : Option Bytes := (typedCode base 0 6 t).map (· ++ bytesLE 2 sym)

/-- A literal at the size of its type. -/
def literalCode (t v : Nat) : Option Bytes := (typedCode 0x08 0 6 t).map (· ++ bytesLE (typeSize t) v)

/-- An opcode, with its page's prefix, before an 8-bit operand between two bounds. -/
def byteCode (op : Bytes) (lo hi n : Nat) : Option Bytes := if lo ≤ n ∧ n ≤ hi then some (op ++ bytesLE 1 n) else none

/-- An opcode before a 16-bit operand. -/
def wordCode (op : Bytes) (n : Nat) : Option Bytes := if n < 0x10000 then some (op ++ bytesLE 2 n) else none

/-- A jump by a signed 16-bit offset. -/
def jumpCode (op : Byte) (offset : Int) : Option Bytes :=
  if -0x8000 ≤ offset ∧ offset < 0x8000 then some (op :: bytesLE 2 (wrapInt 16 offset)) else none

/-- The conversion byte: [6:4] from, [2:0] to. -/
def convCode (src dst : Nat) : Option Bytes := if src ≤ 6 ∧ dst ≤ 6 then some (0xD8 :: bytesLE 1 (16 * src + dst)) else none

/-- COPY: source and target symbol. -/
def copyCode (src dst : Nat) : Option Bytes :=
  if src < 0x10000 ∧ dst < 0x10000 then some ([0xFE, 0x38] ++ bytesLE 2 src ++ bytesLE 2 dst) else none

/-- WPUB: connection and symbol. -/
def wpubCode (conn sym : Nat) : Option Bytes :=
  if conn < 32 ∧ sym < 0x10000 then some ([0xFE, 0x49] ++ bytesLE 1 conn ++ bytesLE 2 sym) else none


/-! Reading of a byte string. -/

/-- An instruction as read from code: its page and opcode (the type taken out of a typed one) as
256 * page + opcode, its type code, its operands and its length in bytes. -/
structure RawOp where
  key : Nat
  t : Nat := 0
  a : Nat := 0
  b : Nat := 0
  len : Nat
deriving DecidableEq, Repr

/-- The types that a typed page 0 opcode lists (Table 10.5). -/
def typedTypes (base : Nat) : List Nat :=
  if base = 0x58 ∨ base = 0x60 then [1, 2, 5, 6]
  else if base ≤ 0x28 ∨ base = 0x78 ∨ base = 0x80 then [0, 1, 2, 3, 4, 5, 6]
  else if base = 0x40 ∨ base = 0x48 then [1, 2, 3, 4, 5]
  else if base = 0x50 ∨ base = 0xC8 ∨ base = 0xD0 then [1, 2, 3, 4]
  else if 0xA8 ≤ base then [0, 1, 2, 3, 4]
  else [1, 2, 3, 4, 5, 6]

/-- Bytes of the operands of an untyped instruction by its key, and whether its 8-bit operand is in range;
none for a reserved encoding. -/
def operandForm (key : Nat) : Option (Nat × (Nat → Bool)) :=
  have any : Nat → Bool := fun _ => true
  have upto : Nat → Nat → Nat → Bool := fun lo hi n => decide (lo ≤ n) && decide (n ≤ hi)
  if key ≤ 5 then some (0, any)
  else if key = 6 then some (1, any)
  else if key = 0xD8 then some (1, fun n => decide (n / 16 ≤ 6) && decide (n % 16 ≤ 6))
  else if 0xD9 ≤ key ∧ key ≤ 0xDC then some (2, any)
  else if key = 0xDD ∨ key = 0xDE then some (0, any)
  else if key = 0xDF then some (1, upto 0 6)
  else if key = 0xE0 then some (1, upto 1 6)
  else if key = 0xE1 ∨ key = 0xE2 then some (1, any)
  else if 0x100 ≤ key ∧ key ≤ 0x111 then some (0, any)
  else if 0x112 ≤ key ∧ key ≤ 0x116 then some (1, upto 1 4)
  else if 0x120 ≤ key ∧ key ≤ 0x123 then some (0, any)
  else if 0x128 ≤ key ∧ key ≤ 0x130 then some (2, any)
  else if key = 0x138 then some (4, any)
  else if key = 0x139 ∨ key = 0x13A then some (2, any)
  else if 0x140 ≤ key ∧ key ≤ 0x142 then some (1, upto 0 63)
  else if key = 0x148 then some (1, upto 0 31)
  else if key = 0x149 then some (3, upto 0 31)
  else if key = 0x150 then some (1, upto 0 3)
  else if key = 0x151 then some (1, upto 16 47)
  else if key = 0x158 ∨ key = 0x159 then some (0, any)
  else if 0x160 ≤ key ∧ key ≤ 0x162 then some (2, any)
  else if key = 0x200 then some (1, upto 0 8)
  else if key = 0x201 then some (0, any)
  else if key = 0x202 then some (1, upto 0 6)
  else if key = 0x203 then some (1, upto 0 14)
  else if key = 0x204 then some (0, any)
  else if key = 0x205 then some (1, upto 0 15)
  else if key = 0x206 then some (1, upto 0 7)
  else if key = 0x207 ∨ key = 0x208 then some (0, any)
  else none

/-- An untyped instruction read from its operand bytes. -/
def readPlain (key pre : Nat) (rest : Bytes) : Option RawOp :=
  match operandForm key with
  | none => none
  | some (n, ok) =>
    if rest.length < n then none
    else
      have first := if n = 1 ∨ n = 3 then fieldLE rest 0 1 else fieldLE rest 0 (min n 2)
      have second := if n = 3 then fieldLE rest 1 2 else if n = 4 then fieldLE rest 2 2 else 0
      if (n = 1 ∨ n = 3) ∧ !ok first then none
      else some { key := key, a := first, b := second, len := pre + n }

/-- A typed page 0 instruction: a literal, a symbol operand, or none. -/
def readTyped (base t : Nat) (rest : Bytes) : Option RawOp :=
  have n := if base = 0x08 then typeSize t else if base ≤ 0x28 then 2 else 0
  if (typedTypes base).contains t ∧ n ≤ rest.length then
    some { key := base, t := t, a := fieldLE rest 0 n, len := 1 + n }
  else none

/-- The instruction that a byte string starts with (R313). -/
def readOp (bs : Bytes) : Option RawOp :=
  match bs with
  | [] => none
  | b :: rest =>
    if b.toNat = 0xFE ∨ b.toNat = 0xFF then
      match rest with
      | [] => none
      | c :: more => readPlain (256 * (b.toNat - 0xFD) + c.toNat) 2 more
    else if 0x08 ≤ b.toNat ∧ b.toNat < 0xD8 then readTyped (b.toNat / 8 * 8) (b.toNat % 8) rest
    else readPlain b.toNat 1 rest

end Sys2Proof.Machine
end

