-- ==== Sys2Proof/Machine/Rec.lean ====
section
/-!
DEFINITION. The recorder's persistence (R450 to R456): summary writes, their triggers and completions.
-/

namespace Sys2Proof.Machine

/-- The snapshot a summary write takes (Table 15.5). -/
def State.recSnapshot (s : State) : RecSummary :=
  { rseq := (s.rd Reg.REC_RSEQ).toNat + 1, cellCount := s.cellCount, stamp := s.stamp,
    plantS := if s.plantValid then s.tim.plant.sec else 0,
    plantNs := if s.plantValid then s.tim.plant.ns else 0,
    vLo := s.cfgW 10 0 1 0, vHi := s.cfgW 10 0 0 0, iRated := s.iRated,
    soleScan := s.recorder.soleScan, soleStamp := s.recorder.soleStamp,
    nextEntry := s.recorder.nextEntry, counters := s.recorder.counters, blocks := s.recorder.blocks }

/-- A summary write ends (R453, Table 15.14): REC_PERSIST_DONE with its cause and result. -/
def State.persistDone (s : State) (cause result : Nat) : State :=
  have s1 := (s.setBit Reg.REC_CTRL 0 false).flag Reg.REC_STAT Reg.REC_STAT_COUNT 0
  s1.strobe Src.REC_PERSIST_DONE (cause * 2 ^ 21 + result * 2 ^ 19 + (s1.rd Reg.REC_RSEQ).toNat % 0x10000)

/-- The Tether ports work: not in Off or Standby (Table 0.1), not once the grant has been withdrawn (R472), not in a unit
of a pair that has not been granted the active role (R3), and only while the Vamp's clocks run. -/
def State.chainOn (s : State) : Bool :=
  s.vampOn && s.mode != .standby && !s.red.withdrawn && !(s.compat && s.fld Reg.RED_ROLE 31 30 == 2)

/-- A sweep boundary lies ahead: records are formed, the chain runs and no enumeration holds it. -/
def State.boundaryAhead (s : State) : Bool := s.swp.record.isSome && s.chainOn && !s.tth.enumerating

/-- The snapshot of a summary write is taken and its programming starts (R183, R453). -/
def State.recCopy (s : State) (cause : Nat) : State :=
  { s.insoleStart .recorder with recorder := { s.recorder with
    writing := some (cause, s.recSnapshot), due := none, retried := false } }

/-- Start a summary write: the page buffer is programmed, and the snapshot is taken at the next sweep boundary, at once
where no sweep runs (R453). -/
def State.recStart (s : State) (cause : Nat) : State :=
  have s1 := s.setBit Reg.REC_STAT 9 true
  have s2 := (({ s1 with recorder := { s1.recorder with held := [], due := some cause } } : State)).recProgramPage
  if s.boundaryAhead then s2 else s2.recCopy cause

/-- What a sweep boundary does for the recorder: the snapshot that waits for it. -/
def State.recBoundary (s : State) : State :=
  match s.recorder.due with
  | none => s
  | some cause => if s.supply.insoleHold then s else s.recCopy cause

/-- A summary write or its erase runs, or the supply holds every Insole operation. -/
def State.recBusy (s : State) : Bool :=
  s.recorder.writing.isSome || s.recorder.due.isSome || s.recorder.erasing || s.supply.insoleHold

/-- A trigger of a summary write (R453). With four or fewer spares nothing is written (R456); during a
write, its erase or VIN_LOW the trigger is held. -/
def State.recTrigger (s : State) (cause : Nat) : State :=
  if s.spares ≤ 4 then s.persistDone cause 2
  else if s.recBusy then
    { s with recorder := { s.recorder with
      held := if s.recorder.held.contains cause then s.recorder.held else s.recorder.held ++ [cause] } }
  else s.recStart cause

/-- The cause a merged write reports: shutdown first, then supply, safety, request, periodic (the order
is the model's, DESIGN CHOICE, assumption 22). -/
def mergedCause (held : List Nat) : Nat :=
  if held.contains 2 then 2 else if held.contains 3 then 3 else if held.contains 4 then 4
  else if held.contains 1 then 1 else 0

/-- Start the one further write that held triggers ask for, if it may start. -/
def State.recResume (s : State) : State :=
  if s.recorder.held.isEmpty || s.recBusy then s
  else s.recStart (mergedCause s.recorder.held)

/-- A safety event as a trigger, at most once per 60 s (R453). -/
def State.recSafety (s : State) : State :=
  have due := match s.recorder.safetyAt with
    | some t => decide (t + 60 ≤ s.tim.mono.sec)
    | none => true
  if due then
    ({ s with recorder := { s.recorder with safetyAt := some s.tim.mono.sec } }).recTrigger 4
  else s

/-- The write in progress ends at VIN_LOW without a commit, or its retry failed. -/
def State.recAbandon (s : State) : State :=
  match s.recorder.writing with
  | none => s
  | some (cause, _) =>
    have s1 := (s.setBit Reg.REC_STAT 9 false)
    ({ s1 with recorder := { s1.recorder with writing := none } }).persistDone cause 1

/-- A summary record commits into the older slot; the other slot's erase starts (R183, R453). -/
def State.recCommit (s : State) (cause : Nat) (r : RecSummary) : State :=
  have toB := match s.recorder.slotA, s.recorder.slotB with
    | none, _ => false
    | some _, none => true
    | some a, some b => decide (b.rseq < a.rseq)
  have s1 := { s.insoleStart .recorderErase with recorder := { s.recorder with
    slotA := if toB then none else some r, slotB := if toB then some r else none,
    writing := none, erasing := true } }
  have s2 := ((s1.setBit Reg.REC_STAT 9 false).setBit Reg.REC_STAT 8 toB).wr Reg.REC_RSEQ
    (BitVec.ofNat 32 r.rseq)
  s2.persistDone cause 0

/-- RECORDER_WRITE_DONE (R453, R183): the record in hand has been programmed and read back. A failed
read-back is retried once; a second failure abandons the write. -/
def execRecorderWriteDone (ok : Bool) (s : State) : Host.Outcome State Fault Refusal := s.whenVamp <|
  match s.recorder.writing with
  | none => .next s
  | some (cause, r) =>
    have s1 := s.unspoil 5
    if !s.insoleTurn .recorder then .next s
    else if ok && !s.spoilt 5 then .next (s1.recCommit cause r)
    else if s.recorder.retried then .next (s1.recAbandon)
    else .next { s1 with recorder := { s1.recorder with retried := true } }

/-- RECORDER_ERASE_DONE (R453): a held summary write starts, or a waiting page is programmed. VIN_LOW stops an erase
(R184). -/
def execRecorderEraseDone (ring : Bool) (s : State) : Host.Outcome State Fault Refusal := s.whenVamp <|
  if !s.insoleTurn .recorderErase then .next s
  else if ring then
    have s1 := { s with recorder := { s.recorder with ringErasing := false } }
    .next (if s1.recorder.page.length ≥ 7 then s1.recProgramPage else s1)
  else .next ({ s with recorder := { s.recorder with erasing := false } }).recResume

/-- RECORDER_INTERVAL_TIMER (R453): a periodic summary write. -/
def execRecorderIntervalTimer (s : State) : Host.Outcome State Fault Refusal := s.whenVamp <|
  .next (s.recTrigger 0)

/-- REC_PERSIST_REQ (R453): the request bit reads 1 until REC_PERSIST_DONE. -/
def execRecPersistReq (s : State) : Host.Outcome State Fault Refusal := s.whenVamp <|
  .next ((s.setBit Reg.REC_CTRL 0 true).recTrigger 1)

/-- RECORDER_TOKEN_REFILL (R450): the code's bucket gains one token, up to REC_RATE. -/
def execRecorderTokenRefill (code : Nat) (s : State) : Host.Outcome State Fault Refusal := s.whenVamp <|
  if code < 1024 then
    .next { s with recorder := { s.recorder with
      spent := tset 0 s.recorder.spent code (tget 0 s.recorder.spent code - 1) } }
  else .next s

/-- DETAIL_PAGE_TIMEOUT (R453): the page is programmed 60 s after its first entry. -/
def execDetailPageTimeout (s : State) : Host.Outcome State Fault Refusal := s.whenVamp <|
  .next s.recProgramPage

/-- A strobe that is also a trigger of a summary write: SAF_DEMAND and SAF_DROGUE_EXIT (R453). -/
def State.safStrobe (s : State) (src detail : Nat) : State := (s.strobe src detail).recSafety

end Sys2Proof.Machine
end

