-- ==== Sys2Proof/Machine/CmdLink.lean ====
section
/-!
DEFINITION. Device packets of the command channel (R349, R359 to R365): how an operation completes and
what is sent for it.
-/

namespace Sys2Proof.Machine

/-! Status codes (Table 11.4). -/
namespace St
def OK := 0x0000
def ACCEPTED := 0x0001
def PENDING := 0x0002
def HELD := 0x0003
def MALFORMED := 0x0100
def UNKNOWN_OPCODE := 0x0101
def SEQ_SKIP := 0x0102
def DUP_TAG := 0x0103
def BURST := 0x0104
def NO_SESSION := 0x0105
def BAD_PARAM := 0x0200
def STATE := 0x0201
def BUSY := 0x0202
def DENIED := 0x0203
def REFUSED := 0x0204
def NOT_FOUND := 0x0205
def ABORTED := 0x0206
def TOO_LATE := 0x0207
def REG_ERROR := 0x0208
end St

/-- One byte of a SLIP frame (RFC 1055, R348). -/
def slipByte (b : Byte) : Bytes :=
  if b = 0xC0 then [0xDB, 0xDC] else if b = 0xDB then [0xDB, 0xDD] else [b]

/-- A packet framed as SLIP. -/
def slip (bs : Bytes) : Bytes := [0xC0] ++ bs.flatMap slipByte ++ [0xC0]

/-- The session of an index, if it is open. -/
def State.session (s : State) (i : Nat) : Option Session :=
  (s.cmd.sessions.find? (fun p => p.1 == i)).map (·.2)

/-- The registers that show session i (Table 11.10). -/
def State.showSession (s : State) (i : Nat) (v : Session) (state : Nat) : State :=
  have opened := (s.cmd.ops.filter (fun o => o.sess == some i)).length
  have w := (if v.bound then state else 3) * 2 ^ 30 + v.version % 4 * 2 ^ 28 + b2n v.ipv6 * 2 ^ 27 + opened % 1024 * 2 ^ 16 +
    v.port % 0x10000
  ((s.wr (Reg.CMD_SESS_STAT i) (BitVec.ofNat 32 w)).wr (Reg.CMD_SESS_HSEQ i)
    (BitVec.ofNat 32 v.lastAccepted)).wr (Reg.CMD_SESS_DSEQ i) (BitVec.ofNat 32 v.nextDseq)

/-- CMD.INFLIGHT counts open operations and held results. -/
def State.showInflight (s : State) : State :=
  have held := s.cmd.sessions.foldl (fun (a : Nat) (p : Nat × Session) => a + p.2.results.length) 0
  (s.setFld Reg.CMD_INFLIGHT 25 16 s.cmd.ops.length).setFld Reg.CMD_INFLIGHT 11 0 held

/-- The state with an open session set. -/
def State.setSession (s : State) (i : Nat) (v : Session) : State :=
  have s1 := { s with cmd := { s.cmd with
    sessions := s.cmd.sessions.filter (fun (p : Nat × Session) => p.1 != i) ++ [(i, v)] } }
  (s1.showSession i v (if v.throttled then 2 else 1)).showInflight

/-- The bytes of a device packet (Table 11.1, R349). -/
def devicePacket (version flags tag hseq aseq opcode status rseq dseq : Nat) (body : Bytes) : Bytes :=
  have head := bytesLE 1 version ++ bytesLE 1 (flags ||| 1) ++ bytesLE 2 tag ++ bytesLE 4 hseq ++
    bytesLE 4 aseq ++ bytesLE 2 opcode ++ bytesLE 2 body.length ++ bytesLE 2 status ++
    bytesLE 2 rseq ++ bytesLE 4 dseq ++ body
  head ++ bytesLE 4 (crc32 head).toNat

/-- A packet leaves on its transport. -/
def State.transmit (s : State) (uart : Bool) (peer port : Nat) (bytes : Bytes) : State :=
  s.emit (if uart then .uart (slip bytes) else .udp peer port bytes)

/-- Send a device packet of a session; its DSEQ advances. FLAGS: 2 ACK, 4 REPEAT, 8 QUERY, 16 OWNER. -/
def State.reply (s : State) (i flags tag hseq opcode status rseq : Nat) (body : Bytes) : State :=
  match s.session i with
  | none => s
  | some v =>
    if !v.bound then s
    else
    have bytes := devicePacket v.version flags tag hseq v.lastAccepted opcode status rseq v.nextDseq body
    (s.transmit v.uart v.peer v.port bytes).setSession i { v with nextDseq := (v.nextDseq + 1) % 2 ^ 32 }

/-- An operation completes (R361, R362): its tag closes, the result takes the next RSEQ and is held, and
the completion is sent. An operation whose session has closed runs out unheard (R354). -/
def State.complete (s : State) (op status : Nat) (body : Bytes) : State :=
  match s.cmd.ops.find? (fun o => o.id == op) with
  | none => s
  | some o =>
    have s1 := { s with cmd := { s.cmd with ops := s.cmd.ops.filter (fun p => p.id != op) } }
    match o.sess.bind (fun i => (s1.session i).map (fun v => (i, v))) with
    | none => s1.showInflight
    | some (i, v) =>
      have rseq := if v.rseq ≥ 0xFFFF then 1 else v.rseq + 1
      have r : HeldResult := { hseq := o.hseq, opcode := o.opcode, status := status, rseq := rseq,
                               bytes := body, flags := if o.owner then 16 else 0, delivered := v.bound }
      have ahead := decide ((o.hseq + 2 ^ 32 - v.lastCompleted) % 2 ^ 32 < 2 ^ 31)
      have v1 := { v with rseq := rseq, results := v.results.filter (fun (p : Nat × HeldResult) => p.1 != o.tag) ++ [(o.tag, r)],
                          lastCompleted := if ahead then o.hseq else v.lastCompleted }
      (s1.setSession i v1).reply i r.flags o.tag o.hseq o.opcode status rseq body

/-- Complete several operations alike. -/
def State.completeAll (s : State) (ops : List Nat) (status : Nat) (body : Bytes) : State :=
  ops.foldl (fun t o => t.complete o status body) s

end Sys2Proof.Machine
end

