-- ==== Sys2Proof/Machine/Trig.lean ====
section
/-!
DEFINITION. The cosine of a phase, as the Awl (R217) and the PCS perturbation (R242) use it: an exact reference in fixed
point, and what a unit with a bounded error gives.
-/

namespace Sys2Proof.Machine

/-- The reference's unit: 1 is 2^40. -/
def cosOne : Int := 2 ^ 40

/-- The cosine of x (from 0 to a quarter turn, in 2^-40 rad), by its series to the term in x^20; the error lies below
2^-30. -/
def cosSeries (x : Int) : Int :=
  have x2 := x * x / cosOne
  [20, 18, 16, 14, 12, 10, 8, 6, 4, 2].foldl (fun acc (n : Int) => cosOne - x2 * acc / (cosOne * (n * (n - 1)))) cosOne

/-- 2 * pi in 2^-40 rad. -/
def twoPi : Int := 6908435304716

/-- The cosine of a phase, a 32-bit fraction of a turn (R217), in 2^-40. -/
def cosTurn (phase : Nat) : Int :=
  have p : Nat := phase % 2 ^ 32
  have q : Nat := if p ≤ 2 ^ 31 then p else 2 ^ 32 - p
  if q ≤ 2 ^ 30 then cosSeries ((q : Int) * twoPi / 2 ^ 32)
  else -cosSeries (((2 ^ 31 - q : Nat) : Int) * twoPi / 2 ^ 32)

/-- The sine of a phase. -/
def sinTurn (phase : Nat) : Int := cosTurn (phase % 2 ^ 32 + 2 ^ 32 - 2 ^ 30)

/-- The greatest error of the unit's cosine, 2^-18 (R217, R242), less the reference's own. -/
def cosSlack : Nat := 2 ^ 22 - 2 ^ 11

/-- A cosine with the unit's error: the reference and a free value within the bound (assumption 32). -/
def State.unitCos (s : State) (reference : Int) : Int :=
  reference + ((s.freeWord.toNat % (2 * cosSlack + 1) : Nat) : Int) - (cosSlack : Int)

end Sys2Proof.Machine
end

