-- ==== Sys2Proof/Machine/Ctl.lean ====
section
/-!
DEFINITION. The string converter control engine (chapter 6): ADC inputs, compensator slots, soft start,
PWM outputs, trips and holds, and the Awl.
-/

namespace Sys2Proof.Machine

/-- A slot's record. -/
def State.slot (s : State) (n : Nat) : Slot := tget {} s.ctl.slots n

/-- The state with a slot's record set. -/
def State.setSlot (s : State) (n : Nat) (v : Slot) : State :=
  { s with ctl := { s.ctl with slots := tset {} s.ctl.slots n v } }

/-- A PWM channel's record. -/
def State.pwmChan (s : State) (n : Nat) : PwmChan := tget {} s.ctl.chans n

/-- The state with a PWM channel's record set. -/
def State.setPwmChan (s : State) (n : Nat) (v : PwmChan) : State :=
  { s with ctl := { s.ctl with chans := tset {} s.ctl.chans n v } }

/-- A 24-bit signed register value (R188). -/
def State.q23 (s : State) (a : Nat) : Int := signed 24 (s.rd a).toNat

/-- Slot n runs. -/
def State.running (s : State) (n : Nat) : Bool := s.bit Reg.CTL_RUN n

/-- Slot n has the thermal role. -/
def State.thermal (s : State) (n : Nat) : Bool := s.bit (Reg.CTL_SLOT_CFG n) 30

/-- A trip is latched or a hold is in force. -/
def State.tripHold (s : State) : Bool := s.fld Reg.PWM_TRIP 23 20 != 0

/-- TRIP_HOLD follows the latches and holds. -/
def State.syncHold (s : State) : State := s.setBit Reg.CTL_STAT 9 s.tripHold

/-! Channels. -/

/-- Channel n is an output of the power stage. -/
def State.power (s : State) (n : Nat) : Bool := s.bit (Reg.PWM_CH_CFG n) 27

/-- Channel c is the odd half of a complementary pair (R203). -/
def State.complement (s : State) (c : Nat) : Bool :=
  c % 2 == 1 && s.bit (Reg.PWM_CH_CFG (c - 1)) 29

/-- The timebase of channel c. -/
def State.tbOf (s : State) (c : Nat) : Nat := s.fld (Reg.PWM_CH_CFG c) 31 30

/-- The period in effect of a timebase. -/
def State.periodOf (s : State) (tb : Nat) : Nat := tget 0x13880 s.ctl.tbPeriod tb

/-- Ticks of a channel's timebase in units of 125 ps (R199). -/
def State.prescale (s : State) (tb : Nat) : Nat :=
  match s.fld (Reg.PWM_TB_CFG tb) 29 28 with
  | 0 => 1
  | 1 => 16
  | _ => 256

/-- CHAIN time in 125 ps, the tick of the PWM block. -/
def State.tickNow (s : State) : Nat := 8 * s.tim.chain.total

/-- Log an edge at a time (R204). -/
def State.logEdge (s : State) (c tick : Nat) (level commutation : Bool) : State :=
  have t := tick / 8
  have h := s.fld Reg.PWM_EDGE_HEAD 7 0
  have entry := bytesLE 4 (t % 1000000000) ++ bytesLE 2 (t / 1000000000) ++ bytesLE 1 c ++
    bytesLE 1 (b2n level + 2 * b2n commutation)
  (s.putBytes ((s.rd Reg.PWM_EDGE_BASE).toNat + 8 * h) entry).setFld Reg.PWM_EDGE_HEAD 7 0 ((h + 1) % 256)

/-- A pin takes a level; an edge of a POWER channel that counts by itself is logged. -/
def State.setPin (s : State) (c tick : Nat) (level counts : Bool) : State :=
  if (s.pwmChan c).pin == level then s
  else
    have s1 := s.setPwmChan c { s.pwmChan c with pin := level }
    if counts && s.power c then s1.logEdge c tick level false else s1

/-- Drive channels low at once, those that a test picks: their edges to come are off. -/
def State.driveLow (s : State) (pick : Nat → Bool) : State :=
  have s1 : State := { s with ctl := { s.ctl with
    timed := s.ctl.timed.filter (fun e => e.move == .start || !pick e.chan) } }
  (List.range 16).foldl (fun t n =>
    if pick n then
      (t.setPin n t.tickNow false true).setPwmChan n { (t.setPin n t.tickNow false true).pwmChan n with live := false, fell := true }
    else t) s1

/-- Slot n feeds channel c. -/
def State.feeds (s : State) (n c : Nat) : Bool :=
  !(s.bit (Reg.PWM_CH_CFG c) 26) && s.fld (Reg.PWM_CH_CFG c) 25 22 == n

/-- Limit a duty of channel c (R201): duty = OFFSET + GAIN * y in Q0.16, and whether it was limited. -/
def State.duty (s : State) (c : Nat) (y : Int) : Nat × Bool :=
  have gain := signed 16 (s.fld (Reg.PWM_CH_MAP c) 31 16)
  have raw : Int := (s.fld (Reg.PWM_CH_MAP c) 15 0 : Int) + gain * y / (2 ^ 19 : Nat)
  have hi : Int := s.fld (Reg.PWM_CH_LIM c) 31 16
  have lo : Int := s.fld (Reg.PWM_CH_LIM c) 15 0
  have d := max lo (min hi raw)
  (d.toNat, d != raw)

/-- Load channel c's compare value: CMP = floor(duty * PERIOD) (R200, R202). -/
def State.loadCmp (s : State) (c : Nat) : State :=
  s.setFld (Reg.PWM_CH_CMP c) 23 0 ((s.pwmChan c).duty * s.periodOf (s.tbOf c) / 0x10000)

/-! Edges of a period (R200, R203). -/

/-- The active interval of channel c in a period, ticks from its PS (R200). -/
def State.pulse (s : State) (c : Nat) : Nat × Nat :=
  have cmp := s.fld (Reg.PWM_CH_CMP c) 23 0
  have mid := s.periodOf (s.tbOf c) / 2
  if s.bit (Reg.PWM_TB_CFG (s.tbOf c)) 30 then (mid - cmp / 2, mid + (cmp + 1) / 2) else (0, cmp)

/-- How long the pulse of channel c and its gap last, 125 ps. -/
def State.pulseLen (s : State) (c : Nat) : Nat := s.fld (Reg.PWM_CH_CMP c) 23 0 * s.prescale (s.tbOf c)
def State.gapLen (s : State) (c : Nat) : Nat :=
  s.periodOf (s.tbOf c) * s.prescale (s.tbOf c) - s.pulseLen c

/-- 2.5 ns in 125 ps: the shortest pulse or gap that is produced. -/
def shortest : Nat := 20

/-- Channel c is the even half of a complementary pair, and its dead times DT_A and DT_B. -/
def State.paired (s : State) (c : Nat) : Bool := c % 2 == 0 && s.bit (Reg.PWM_CH_CFG c) 29
def State.deadA (s : State) (c : Nat) : Nat := if s.paired c then s.fld (Reg.PWM_CH_DEAD c) 12 0 else 0
def State.deadB (s : State) (c : Nat) : Nat := if s.paired c then s.fld (Reg.PWM_CH_DEAD c) 28 16 else 0

/-- Both halves of a pair switch around a dead time: the even one's pulse and the odd one's are long enough. -/
def State.commutes (s : State) (c : Nat) : Bool :=
  s.paired c && decide (shortest + s.deadB c ≤ s.pulseLen c) && decide (shortest + s.deadA c ≤ s.gapLen c)

/-- The events of a pulse that begins at a time: none if pulse or gap is too short, and the pin then holds its level. The odd
half of a pair turns inactive first, the even half active DT_B later. -/
def State.riseEvents (s : State) (c tick : Nat) : List PwmEvent :=
  if s.pulseLen c < shortest then []
  else
    have both := s.commutes c
    (if s.paired c && decide (shortest ≤ s.pulseLen c + s.deadA c) then [{ tick := tick, chan := c + 1, move := .pin false (!both) }]
      else []) ++
    (if both then [{ tick := tick + s.deadB c / 2, chan := c, move := .commute true }] else []) ++
    (if shortest + s.deadB c ≤ s.pulseLen c then [{ tick := tick + s.deadB c, chan := c, move := .pin true (!both) }] else [])

/-- The events of a pulse that ends at a time: the even half turns inactive first, the odd half active DT_A later. -/
def State.fallEvents (s : State) (c tick : Nat) : List PwmEvent :=
  if s.gapLen c < shortest then []
  else
    have both := s.commutes c
    [{ tick := tick, chan := c, falling := true, move := .pin false (!both) }] ++
    (if both then [{ tick := tick + s.deadA c / 2, chan := c, falling := true, move := .commute false }] else []) ++
    (if s.paired c && decide (shortest + s.deadA c ≤ s.gapLen c) then
      [{ tick := tick + s.deadA c, chan := c + 1, falling := true, move := .pin true (!both) }] else [])

/-- Put an event among those to come, behind those of the same time. -/
def insertEvent (e : PwmEvent) : List PwmEvent → List PwmEvent
  | [] => [e]
  | x :: rest => if e.tick < x.tick then e :: x :: rest else x :: insertEvent e rest

/-- Events to come. -/
def State.schedule (s : State) (l : List PwmEvent) : State :=
  { s with ctl := { s.ctl with timed := l.foldl (fun acc e => insertEvent e acc) s.ctl.timed } }

/-- The event belongs to the pulse of a period. -/
def PwmMove.ofPulse : PwmMove → Bool
  | .start => false
  | .settle _ => false
  | _ => true

/-- Take back events to come of channel c and its complement that belong to the pulse of the period. -/
def State.unschedule (s : State) (c : Nat) (pick : PwmEvent → Bool) : State :=
  { s with ctl := { s.ctl with timed := s.ctl.timed.filter (fun e =>
    !((e.chan == c || (s.paired c && e.chan == c + 1)) && e.move.ofPulse && pick e)) } }

/-- Times of the edges of channel c's pulse in the period it is in, 125 ps. -/
def State.pulseAt (s : State) (c : Nat) : Nat × Nat :=
  have p := s.pulse c
  have k := s.prescale (s.tbOf c)
  ((s.pwmChan c).start + p.1 * k, (s.pwmChan c).start + p.2 * k)

/-- The edges of channel c that have not yet occurred in this period are placed anew, those already past at once (R202). -/
def State.replan (s : State) (c from_ : Nat) : State :=
  have ch := s.pwmChan c
  have p := s.pulseAt c
  if !ch.live then s
  else
    have rise := if ch.rose then [] else s.riseEvents c (max from_ p.1)
    have fall := if ch.fell || (s.pulseLen c < shortest && !ch.rose) then [] else s.fallEvents c (max from_ p.2)
    (s.unschedule c (fun e => e.falling || !ch.rose)).schedule (rise ++ fall)

/-- A new value of channel c's source reaches its duty (R201); UPDATE 2 loads it at once (R202). -/
def State.putDuty (s : State) (c : Nat) (y : Int) : State :=
  have d := s.duty c y
  have s1 := (s.setPwmChan c { s.pwmChan c with duty := d.1 }).setBit Reg.PWM_LIMITED c d.2
  if s1.fld (Reg.PWM_CH_CFG c) 21 20 = 2 then (s1.loadCmp c).replan c s1.tickNow else s1

/-! Halting, trips and holds. -/

/-- End a soft start in progress with result aborted and a reason (R207, Table 6.14); one whose START came in the same
cycle as the cause is refused. -/
def State.abortRamp (s : State) (n reason : Nat) : State :=
  have sl := s.slot n
  if sl.ramp then
    have result := if sl.startedAt = some s.monoNs then 2 else 1
    ((s.setSlot n { sl with ramp := false }).flag Reg.CTL_STAT Reg.CTL_STAT_COUNT 2).strobe
      Src.CTL_SOFTSTART_DONE (result * 2 ^ 8 + reason * 2 ^ 4 + n)
  else s

/-- Trigger delays of slot n that have not led to an evaluation. -/
def State.waiting (s : State) (n : Nat) : Nat := (s.ctl.trigs.filter (fun p => p.2 == n)).length

/-- Halt slot n: its channels, both halves of a pair, go low at once (Table 6.11). -/
def State.haltSlot (s : State) (n reason : Nat) : State :=
  if s.running n then
    have s1 := (s.abortRamp n reason).setBit Reg.CTL_RUN n false
    ({ s1 with ctl := { s1.ctl with trigs := s1.ctl.trigs.filter (fun p => p.2 != n) } } : State).driveLow
      (fun c => s1.feeds n c || (s1.complement c && s1.feeds n (c - 1)))
  else s

/-- Halt every power-role slot. -/
def State.haltPower (s : State) (reason : Nat) : State :=
  (List.range 16).foldl (fun t n => if t.thermal n then t else t.haltSlot n reason) s

/-- The state of the Awl: 0 idle, 1 pre-roll, 2 capturing, 3 injecting after capture, 4 held (Table 6.11). -/
def State.awlState (s : State) : Nat := s.fld Reg.CTL_AWL_STAT 10 8

/-- Write the capture header (Table 6.9). -/
def State.awlHeader (s : State) (result reason : Nat) : State :=
  have a := s.ctl.awl
  have mean := if a.span = 0 then 0 else (a.lastNs - a.firstNs) / a.span
  have bytes := bytesLE 2 (s.fld Reg.CTL_AWL_RUN 15 0) ++ bytesLE 1 (s.fld Reg.CTL_AWL_CFG 31 30) ++
    bytesLE 1 result ++ bytesLE 1 (s.fld Reg.CTL_AWL_CFG 27 24) ++ bytesLE 1 (s.fld Reg.CTL_AWL_CFG 29 28) ++
    bytesLE 2 (s.fld Reg.CTL_AWL_CAP 31 16) ++ bytesLE 2 a.points ++ bytesLE 2 (s.fld Reg.CTL_AWL_CAP 15 0) ++
    bytesLE 2 (s.fld Reg.CTL_AWL_CFG 15 0) ++ bytesLE 2 reason ++ bytesLE 4 (a.firstNs % 1000000000) ++
    bytesLE 4 (a.firstNs / 1000000000) ++ bytesLE 4 mean ++ bytesLE 4 (s.rd Reg.CTL_AWL_AMP).toNat ++ zeros 32
  s.putBytes (s.rd Reg.CTL_AWL_BASE).toNat bytes

/-- A tuning run ends (R220, R221): header, flags and CTL_AWL_DONE. -/
def State.awlEnd (s : State) (result reason : Nat) : State :=
  have s1 := (s.awlHeader result reason).setFld Reg.CTL_AWL_STAT 10 8 0
  have s2 := s1.setBit Reg.CTL_AWL_CTRL 0 false
  have s3 := (s2.flag Reg.CTL_AWL_STAT Reg.CTL_AWL_COUNT result).flag Reg.CTL_STAT Reg.CTL_STAT_COUNT 3
  s3.strobe Src.CTL_AWL_DONE (reason * 2 ^ 20 + result * 2 ^ 16 + s.fld Reg.CTL_AWL_RUN 15 0)

/-- End a tuning run in progress with result aborted (R221). -/
def State.awlAbort (s : State) (reason : Nat) : State :=
  if s.awlState = 0 ∨ s.awlState = 4 then s else s.awlEnd 1 reason

/-- A trip of the PWM pins (R213, R214): all sixteen pins go low, the latch sets, power slots halt. -/
def State.pwmTrip (s : State) (latch flagBit : Nat) : State :=
  have s1 := s.driveLow (fun _ => true)
  have s2 := (s1.setBit Reg.PWM_TRIP latch true).flag Reg.PWM_TRIP Reg.PWM_TRIP_COUNT flagBit
  (s2.haltPower 6).awlAbort 5 |>.syncHold

/-- TRIP_PIN (R213). -/
def execTripPin (s : State) : Host.Outcome State Fault Refusal := s.whenVamp <|
  .next ((s.pwmTrip 22 0).strobe Src.PWM_TRIP_PIN 0)

/-- The comparator trip's effect on the PWM pins (R214). -/
def State.compTrip (s : State) : State :=
  have n := s.ctl.compTrips + 1
  have s1 := { s with ctl := { s.ctl with compTrips := n } }
  (s1.pwmTrip 23 1).strobe Src.PWM_TRIP_COMP (n % 256)

/-- A hold of the power stage begins: POWER channels low, power slots halted (R210, R212). -/
def State.beginHold (s : State) (hold flagBit reason detail : Nat) : State :=
  if s.bit Reg.PWM_TRIP hold then s
  else
    have s1 := s.driveLow s.power
    have s2 := (s1.setBit Reg.PWM_TRIP hold true).flag Reg.PWM_TRIP Reg.PWM_TRIP_COUNT flagBit
    (s2.haltPower reason).syncHold.strobe Src.PWM_TRIP_PIN detail

/-- The hazard-demand hold (R210). -/
def State.holdSaf (s : State) : State := (s.beginHold 21 2 7 1).awlAbort 6

/-- The link hold (R212). -/
def State.holdLink (s : State) : State := s.beginHold 20 3 6 2

/-- A hold ends; power-role slots wait for a START. -/
def State.endHold (s : State) (hold : Nat) : State := (s.setBit Reg.PWM_TRIP hold false).syncHold

/-- Entry to the Drogue overlay for the engine (R209, R207, R221): running power-role slots ramp to 0. -/
def State.ctlDrogue (s : State) : State :=
  have s1 := (List.range 16).foldl (fun t n =>
    if t.thermal n then t
    else
      have u := t.abortRamp n 8
      if u.running n then u.setSlot n { u.slot n with drogue := true } else u) s
  have s2 := ({ s1 with ctl := { s1.ctl with drogueRamp := true } }).setBit Reg.CTL_STAT 8 true
  s2.awlAbort 7

/-- The overlay ends. -/
def State.ctlDrogueEnd (s : State) : State :=
  have s1 := (List.range 16).foldl (fun (t : State) n =>
    if (t.slot n).drogue then t.setSlot n { t.slot n with drogue := false } else t) s
  ({ s1 with ctl := { s1.ctl with drogueRamp := false } }).setBit Reg.CTL_STAT 8 false

/-- PWM_TRIP_CLEAR (R215): a latch whose source has been inactive for 1 µs is released. -/
def execPwmTripClear (value : Word) (pinQuiet compQuiet : Bool) (s : State) :
    Host.Outcome State Fault Refusal := s.whenVamp <|
  have s1 := if getBit value 0 && pinQuiet then s.setBit Reg.PWM_TRIP 22 false else s
  have s2 := if getBit value 1 && compQuiet then s1.setBit Reg.PWM_TRIP 23 false else s1
  .next s2.syncHold

/-! Inputs. -/

/-- A conversion as a signal: (c - OFFSET) * GAIN / 8192, limited to Q1.23 (R189). -/
def State.trim (s : State) (ch : Nat) (c : Int) : Int :=
  have r := Reg.CTL_ADC_TRIM ch
  satInt 24 ((c - signed 16 (s.fld r 15 0)) * (s.fld r 31 16 : Int) / 32)

/-- The mean of the newest n conversions of a channel, of those held (R190). -/
def State.adcMean (s : State) (ch n : Nat) : Int :=
  have l := (s.ctl.adc.take n).map (fun row => row.getD ch 0)
  if l.isEmpty then 0 else l.foldl (· + ·) 0 / l.length

/-- A word of a source kind: 1 XIN, 2 slot y, 3 EST (Table 6.11). -/
def State.sourceWord (s : State) (kind sel : Nat) : Int :=
  match kind with
  | 1 => s.q23 (Reg.CTL_XIN (sel % 8))
  | 2 => s.q23 (Reg.CTL_SLOT_Y (sel % 16))
  | _ => s.q23 (Reg.CTL_EST (sel % 4))

/-- The feedback of slot n, of 2^k conversions for ADC feedback. -/
def State.feedback (s : State) (n avg : Nat) : Int :=
  have r := Reg.CTL_SLOT_SRC n
  have kind := s.fld r 31 28
  if kind = 0 then s.adcMean (s.fld r 27 24 % 8) avg else s.sourceWord kind (s.fld r 27 24)

/-- The target of slot n (R198, R209). -/
def State.target (s : State) (n : Nat) : Int :=
  have r := Reg.CTL_SLOT_SRC n
  if (s.slot n).drogue then 0
  else if s.fld r 15 12 = 0 then s.q23 (Reg.CTL_SLOT_TARGET n)
  else s.sourceWord (s.fld r 15 12) (s.fld r 11 8)

/-- Confine a value by slot n's window limiter (R198, R208). -/
def State.window (s : State) (n : Nat) (v : Int) : Int :=
  have k : Int := s.fld (Reg.CTL_SLOT_CFG n) 21 8
  have eHi := s.q23 (Reg.CTL_EST 0) * k / 4096
  have eLo := -(s.q23 (Reg.CTL_EST 1) * k / 4096)
  have rHi := s.q23 (Reg.CTL_SLOT_LIM_HI n)
  have rLo := s.q23 (Reg.CTL_SLOT_LIM_LO n)
  match s.fld (Reg.CTL_SLOT_CFG n) 23 22 with
  | 0 => v
  | 1 => max rLo (min rHi v)
  | 2 => satInt 24 (max eLo (min eHi v))
  | _ => satInt 24 (max (max rLo eLo) (min (min rHi eHi) v))

/-- The slope of slot n: during the Drogue ramp the greater of SLOPE and DROGUE_SLOPE (R209). -/
def State.slope (s : State) (n : Nat) : Nat :=
  have own := s.fld (Reg.CTL_SLOT_SLOPE n) 23 0
  if (s.slot n).drogue then max own (s.fld Reg.CTL_DROGUE_SLOPE 23 0) else own

/-- The reference formed at an evaluation (R198). -/
def State.reference (s : State) (n : Nat) : Int :=
  have t := s.target n
  have prev := (s.slot n).r
  have sl : Int := s.slope n
  have r := if sl = 0 then t else if t > prev then min t (prev + sl) else max t (prev - sl)
  s.window n r

/-! Start, halt, apply, commit. -/

/-- Soft-start refusal (R205): CTL_SOFTSTART_DONE with result refused and its reason. -/
def State.refuseStart (s : State) (n reason : Nat) : State :=
  (s.flag Reg.CTL_STAT Reg.CTL_STAT_COUNT 2).strobe Src.CTL_SOFTSTART_DONE (2 * 2 ^ 8 + reason * 2 ^ 4 + n)

/-- A HALT of slot n has come in this cycle (R207). A cycle is that of MONO, 4 ns. -/
def State.haltedNow (s : State) (n : Nat) : Bool := (s.slot n).haltedAt == some s.monoNs

/-- Why slot n cannot start, 0 if it can (R205, R207, Table 6.14). A thermal slot runs in Run, Stop, Drogue
and Safe in both topologies (R222). -/
def State.startBar (s : State) (n : Nat) : Nat :=
  if s.thermal n then
    if s.mode ≠ .run ∧ s.mode ≠ .stop ∧ s.mode ≠ .safe then 1
    else if ¬ s.bit (Reg.CTL_SLOT_CFG n) 31 then 3
    else if s.running n then 5 else 0
  else if s.mode ≠ .run ∨ s.drogue then 1
  else if ¬ s.converter then 2
  else if ¬ s.bit (Reg.CTL_SLOT_CFG n) 31 then 3
  else if s.tripHold then 4
  else if s.haltedNow n then 9
  else if s.running n then 5 else 0

/-- Start slot n (R205, R206). -/
def State.startSlot (s : State) (n : Nat) : State :=
  match s.startBar n with
  | 0 =>
    have old := s.slot n
    if s.thermal n then
      have fresh := { old with e1 := 0, e2 := 0, e3 := 0, y1 := 0, y2 := 0, y3 := 0, ramp := false,
                               r := s.window n (s.target n), events := 0, lastTrig := none }
      (s.setSlot n fresh).setBit Reg.CTL_RUN n true
    else
      have p := s.q23 (Reg.CTL_SLOT_PRELOAD n)
      have fresh := { old with e1 := 0, e2 := 0, e3 := 0, y1 := p, y2 := p, y3 := p, ramp := true,
                               r := s.window n (s.feedback n 16), events := 0, lastTrig := none,
                               startedAt := some s.monoNs }
      (s.setSlot n fresh).setBit Reg.CTL_RUN n true
  | reason => s.refuseStart n reason

/-- Fold an operation over the set bits of a word's low sixteen. -/
def State.forSlots (s : State) (bits : Word) (f : State → Nat → State) : State :=
  (List.range 16).foldl (fun t n => if getBit bits n then f t n else t) s

/-- CTL_START (R205). -/
def execCtlStart (bits : Word) (s : State) : Host.Outcome State Fault Refusal := s.whenVamp <|
  .next (s.forSlots bits State.startSlot)

/-- Halt a slot on command, ending an Awl run of that slot (R207, R221). -/
def State.haltCommand (s : State) (n : Nat) : State :=
  have s0 := s.haltSlot n 9
  have s1 := s0.setSlot n { s0.slot n with haltedAt := some s0.monoNs }
  if s1.fld Reg.CTL_AWL_CFG 27 24 = n then s1.awlAbort 9 else s1

/-- CTL_HALT (Table 6.11). -/
def execCtlHalt (bits : Word) (s : State) : Host.Outcome State Fault Refusal := s.whenVamp <|
  .next (s.forSlots bits State.haltCommand)

/-- Make slot n's shadow take effect together (R195). -/
def State.applySlot (s : State) (n : Nat) : State :=
  s.setSlot n { s.slot n with
    b0 := s.q23 (Reg.CTL_SLOT_B0 n), b1 := s.q23 (Reg.CTL_SLOT_B1 n), b2 := s.q23 (Reg.CTL_SLOT_B2 n),
    b3 := s.q23 (Reg.CTL_SLOT_B3 n), a1 := s.q23 (Reg.CTL_SLOT_A1 n), a2 := s.q23 (Reg.CTL_SLOT_A2 n),
    a3 := s.q23 (Reg.CTL_SLOT_A3 n), form1 := s.bit (Reg.CTL_SLOT_CFG n) 29,
    shift := s.fld (Reg.CTL_SLOT_CFG n) 27 24 }

/-- CTL_APPLY (R195). -/
def execCtlApply (bits : Word) (s : State) : Host.Outcome State Fault Refusal := s.whenVamp <|
  .next (s.forSlots bits State.applySlot)

/-- CTL_COMMIT (R223): 1 ends writes to the RWL trims until the next start. -/
def execCtlCommit (value : Word) (s : State) : Host.Outcome State Fault Refusal := s.whenVamp <|
  .next (if getBit value 0 then { s with ctl := { s.ctl with committed := true } } else s)

/-! The Awl. -/

/-- Sum of the multisine amplitudes' magnitudes. -/
def State.msSum (s : State) : Nat :=
  (List.range 16).foldl (fun a m => a + (s.q23 (Reg.CTL_MS_AMP m)).natAbs) 0

/-- Why a tuning run cannot start, 0 if it can (R219, Table 6.14). -/
def State.awlBar (s : State) : Nat :=
  if s.awlState = 4 then 2
  else if (s.mode ≠ .run ∧ s.mode ≠ .stop) ∨ s.drogue then 1
  else if ¬ s.running (s.fld Reg.CTL_AWL_CFG 27 24) then 4
  else
    have amp := if s.fld Reg.CTL_AWL_CFG 31 30 = 2 then s.msSum else (s.q23 Reg.CTL_AWL_AMP).natAbs
    if amp > s.fld Reg.CTL_AWL_LIMIT 23 0 then 3 else 0

/-- The seed of a PRBS order: all ones of its length. -/
def prbsLength (order : Nat) : Nat :=
  match order with
  | 0 => 7
  | 1 => 9
  | 2 => 11
  | 3 => 15
  | _ => 23

/-- The second tap of a PRBS order (Table 6.8). -/
def prbsTap (order : Nat) : Nat :=
  match order with
  | 0 => 6
  | 1 => 5
  | 2 => 9
  | 3 => 14
  | _ => 18

/-- One step of a PRBS sequence. -/
def prbsStep (order v : Nat) : Nat :=
  have l := prbsLength order
  have bit := (v / 2 ^ (l - 1) + v / 2 ^ (prbsTap order - 1)) % 2
  (2 * v + bit) % 2 ^ l

/-- AWL_START (R219, R220). While a run is in progress START already reads 1 and the write sets nothing. -/
def execAwlStart (s : State) : Host.Outcome State Fault Refusal := s.whenVamp <|
  if s.bit Reg.CTL_AWL_CTRL 0 then .next s
  else
    match s.awlBar with
    | 0 =>
      have run := (s.fld Reg.CTL_AWL_RUN 15 0 + 1) % 0x10000
      have s1 := ((s.setBit Reg.CTL_AWL_CTRL 0 true).setFld Reg.CTL_AWL_RUN 15 0 run).setFld
        Reg.CTL_AWL_STAT 10 8 (if s.fld Reg.CTL_AWL_CFG 15 0 = 0 then 2 else 1)
      .next { s1 with ctl := { s1.ctl with
        awl := { sequence := 2 ^ prbsLength (s.fld Reg.CTL_AWL_FREQ 18 16) - 1 } } }
    | reason =>
      .next ((s.flag Reg.CTL_AWL_STAT Reg.CTL_AWL_COUNT 1).strobe Src.CTL_AWL_DONE
        (reason * 2 ^ 20 + 2 * 2 ^ 16 + s.fld Reg.CTL_AWL_RUN 15 0))

/-- AWL_ABORT (R221). -/
def execAwlAbort (s : State) : Host.Outcome State Fault Refusal := s.whenVamp <|
  .next (s.awlAbort 8)

/-- The multisine of an evaluation, in 2^-40 of a signal unit, from the component m on: each cosine has the unit's error. -/
def State.multisine (s : State) (k m : Nat) : Nat → Int × State
  | 0 => (0, s)
  | n + 1 =>
    have amp := s.q23 (Reg.CTL_MS_AMP m)
    if amp = 0 then s.multisine k (m + 1) n
    else
      have phase := (s.rd (Reg.CTL_MS_PH m)).toNat + k * (s.rd (Reg.CTL_MS_INC m)).toNat
      have rest := s.drawn.multisine k (m + 1) n
      (amp * s.unitCos (cosTurn phase) + rest.1, rest.2)

/-- The injection of this evaluation (R217) and the state after it. The low bits are truncated to Q1.23 (DESIGN CHOICE,
assumption 32). -/
def State.injection (s : State) : Int × State :=
  have a := s.ctl.awl
  have amp := s.q23 Reg.CTL_AWL_AMP
  if s.awlState = 4 ∨ s.fld Reg.CTL_AWL_CFG 31 30 = 2 then
    have r := s.multisine a.k 0 16
    (r.1 / cosOne, r.2)
  else
    match s.fld Reg.CTL_AWL_CFG 31 30 with
    | 0 =>
      have len := s.fld Reg.CTL_AWL_LEN 23 0
      (if len = 0 ∨ a.k < len then amp else 0, s)
    | 1 => (amp * s.unitCos (sinTurn (a.k * (s.rd Reg.CTL_AWL_FREQ).toNat)) / cosOne, s.drawn)
    | _ =>
      have order := s.fld Reg.CTL_AWL_FREQ 18 16
      have hold := max 1 (s.fld Reg.CTL_AWL_FREQ 15 0)
      have seq := if a.k ≠ 0 ∧ a.k % hold = 0 then prbsStep order a.sequence else a.sequence
      have out := if seq / 2 ^ (prbsLength order - 1) % 2 = 1 then amp else -amp
      (out, { s with ctl := { s.ctl with awl := { a with sequence := seq } } })

/-- The Awl acts on slot n at this evaluation. -/
def State.awlOn (s : State) (n : Nat) : Bool :=
  s.awlState != 0 &&
    (if s.awlState == 4 then s.cfgN 2 11 0 0 == n else s.fld Reg.CTL_AWL_CFG 27 24 == n)

/-- A capture signal (R220). -/
def State.awlSignal (s : State) (code : Nat) (r x e y inj : Int) : Int :=
  match code with
  | 0 => 0
  | 1 => r
  | 2 => x
  | 3 => e
  | 4 => y
  | 5 => inj
  | c => if 8 ≤ c then ((s.ctl.adc.headD []).getD (c - 8) 0) else 0

/-- After an evaluation of a tuning run: capture the point that is due, count, and end the run when the
capture is complete and LEN is reached (R220). -/
def State.awlStep (s : State) (r x e y inj : Int) : State :=
  have a := s.ctl.awl
  have pre := s.fld Reg.CTL_AWL_CFG 15 0
  have decim := max 1 (s.fld Reg.CTL_AWL_CAP 15 0)
  have want := s.fld Reg.CTL_AWL_POINTS 14 0
  have due := decide (pre ≤ a.k) && (a.k - pre) % decim == 0 && decide (a.points < want)
  have now := s.tim.chain.total
  have sig := fun (j : Nat) =>
    bytesLE 4 (wrapInt 32 (s.awlSignal (s.fld Reg.CTL_AWL_CAP (19 + 4 * j) (16 + 4 * j)) r x e y inj))
  have s1 := if due then
      s.putBytes ((s.rd Reg.CTL_AWL_BASE).toNat + 64 + 16 * a.points) (sig 0 ++ sig 1 ++ sig 2 ++ sig 3)
    else s
  have a1 : Awl := { a with
    k := a.k + 1, points := if due then a.points + 1 else a.points,
    firstNs := if due && a.points == 0 then now else a.firstNs,
    lastNs := if due then now else a.lastNs,
    span := if due then a.k - pre else a.span }
  have s2 := { s1 with ctl := { s1.ctl with awl := a1 } }
  have full := decide (want ≤ a1.points)
  if full && decide (s.fld Reg.CTL_AWL_LEN 23 0 ≤ a1.k) then s2.awlEnd 0 0
  else s2.setFld Reg.CTL_AWL_STAT 10 8 (if full then 3 else if a1.k < pre then 1 else 2)

/-! Evaluation. -/

/-- Record a wrap (R194): the flag and counter of the slot, the cause and CTL_OVERFLOW. -/
def State.overflow (s : State) (n cause : Nat) : State :=
  ((s.flag Reg.CTL_OVF (Reg.CTL_OVF_COUNT 0) n).setFld Reg.CTL_OVF_CAUSE (2 * n + 1) (2 * n) cause).strobe
    Src.CTL_OVERFLOW (cause * 2 ^ 4 + n)

/-- Whether an exact number lies outside an n-bit signed range. -/
def outside (bits : Nat) (v : Int) : Bool := v != satInt bits v

/-- Wrap a number to n bits, signed (R195). -/
def wrapS (bits : Nat) (v : Int) : Int := signed bits (wrapInt bits v)

/-- The trigger source of slot n (Table 6.2). -/
def State.trigSource (s : State) (n : Nat) : Nat := s.fld (Reg.CTL_SLOT_TRIG n) 31 29

/-- SEL of slot n's trigger source. -/
def State.trigSel (s : State) (n : Nat) : Nat := s.fld (Reg.CTL_SLOT_TRIG n) 28 25

/-- A trigger dropped because it came less than 1 µs after the previous accepted one (R197). -/
def State.slotOverrun (s : State) (n : Nat) : State :=
  (s.flag Reg.CTL_STAT Reg.CTL_STAT_COUNT 1).strobe Src.CTL_SLOT_OVERRUN n

/-- Whether a trigger now comes too early (R197). -/
def State.tooEarly (s : State) (n : Nat) : Bool :=
  match (s.slot n).lastTrig with
  | some t => decide (s.monoNs - t < 1000)
  | none => false

/-- Put a trigger among those that wait: in order of their arrival, those of one cycle in slot order (R197). -/
def insertTrig (p : Nat × Nat) : List (Nat × Nat) → List (Nat × Nat)
  | [] => [p]
  | x :: rest => if p.1 < x.1 ∨ (p.1 = x.1 ∧ p.2 < x.2) then p :: x :: rest else x :: insertTrig p rest

/-- A trigger of slot n waits; it arrives when its delay of CTRL cycles, 2.5 ns each, ends. -/
def State.addTrig (s : State) (n delay : Nat) : State :=
  { s with ctl := { s.ctl with trigs := insertTrig (s.tickNow + 20 * delay, n) s.ctl.trigs } }

/-- A trigger event of slot n (R196): sources 1 to 4 and 7 count events by EVDIV and start a delay; sources 5 and 6 trigger at
once. A slot that does not run, or whose source is 0, ignores the event. -/
def State.slotEvent (s : State) (n : Nat) : State :=
  if ¬ (n < 16 ∧ s.running n) ∨ s.trigSource n = 0 then s
  else
    have sl := s.slot n
    if s.trigSource n = 5 ∨ s.trigSource n = 6 then
      if s.tooEarly n then s.slotOverrun n
      else (s.setSlot n { sl with lastTrig := some s.monoNs }).addTrig n 0
    else if sl.events < s.fld (Reg.CTL_SLOT_TRIG n) 24 17 then s.setSlot n { sl with events := sl.events + 1 }
    else (s.setSlot n { sl with events := 0 }).addTrig n (s.fld (Reg.CTL_SLOT_TRIG n) 11 0)

/-- An event that is the trigger source of every slot with this SOURCE and SEL (Table 6.2). -/
def State.raiseTrig (s : State) (source sel : Nat) : State :=
  (List.range 16).foldl (fun t n => if t.trigSource n == source && t.trigSel n == sel then t.slotEvent n else t) s

/-- Delivery of a sweep record, source 7, has no SEL. -/
def State.raiseRecord (s : State) : State :=
  (List.range 16).foldl (fun t n => if t.trigSource n == 7 then t.slotEvent n else t) s

/-- A conversion counts for the slots that trigger every PERIOD conversions, source 5. -/
def State.raiseConversion (s : State) : State :=
  (List.range 16).foldl (fun t n =>
    if t.trigSource n == 5 && t.running n then
      have k := (t.slot n).events + 1
      if k < max 1 (t.fld (Reg.CTL_SLOT_TRIG n) 24 0) then t.setSlot n { t.slot n with events := k }
      else (t.setSlot n { t.slot n with events := 0 }).slotEvent n
    else t) s

/-- One evaluation of slot n (R193, R194, R198, R206, R218). -/
def State.evaluate (s : State) (n : Nat) : State :=
  have sl := s.slot n
  have r := s.reference n
  have x := s.feedback n (2 ^ min 10 (s.fld (Reg.CTL_SLOT_SRC n) 23 20))
  have on := s.awlOn n
  have inj := if on then s.injection else (0, s)
  have s0 := inj.2
  have point := if s.awlState = 4 then 0 else s.fld Reg.CTL_AWL_CFG 29 28
  have i := inj.1
  have diff := match point with
    | 0 => (r + i) - x
    | 1 => r - (x + i)
    | 2 => r - x + i
    | _ => r - x
  have e := wrapS 24 diff
  have sum := 2 ^ sl.shift * (sl.b0 * e + sl.b1 * sl.e1 + sl.b2 * sl.e2 +
      (if sl.form1 then sl.b3 * sl.e3 else 0)) +
    sl.a1 * sl.y1 + sl.a2 * sl.y2 + (if sl.form1 then sl.a3 * sl.y3 else 0)
  have acc := wrapS 48 sum
  have y := wrapS 24 (acc / (2 ^ 22 : Nat))
  have out := if point = 3 then y + i else y
  have isOut := outside 46 acc || (decide (point = 3) && outside 24 out)
  have cause := if isOut then 3 else if outside 48 sum then 2 else if outside 24 diff then 1 else 0
  have reached := sl.ramp && r == s.window n (s.target n)
  have sl1 := { sl with e1 := e, e2 := sl.e1, e3 := sl.e2, y1 := y, y2 := sl.y1, y3 := sl.y2, r := r,
                        ramp := sl.ramp && !reached }
  have s1 := (s0.setSlot n sl1).setFld (Reg.CTL_SLOT_Y n) 23 0 (wrapInt 24 y)
  have s2 := if cause = 0 then s1 else s1.overflow n cause
  have s3 := if reached then
      (s2.flag Reg.CTL_STAT Reg.CTL_STAT_COUNT 2).strobe Src.CTL_SOFTSTART_DONE n else s2
  have s5 := (List.range 16).foldl (fun t c =>
    if t.feeds n c then t.putDuty c (wrapS 24 out) else t) s3
  have s4 := s5.raiseTrig 4 n
  if on && s.awlState != 4 then s4.awlStep r x e y i
  else if on then { s4 with ctl := { s4.ctl with awl := { s4.ctl.awl with k := s4.ctl.awl.k + 1 } } }
  else s4

/-- SLOT_TRIGGER_EVENT (R196, R197): an event of slot n's trigger source, such as its slow timer. -/
def execSlotTriggerEvent (n : Nat) (s : State) : Host.Outcome State Fault Refusal := s.whenVamp <|
  .next (s.slotEvent n)

/-- Slot n may run in the controller's state (Table 6.5). -/
def State.slotRuns (s : State) (n : Nat) : Bool :=
  s.running n && (s.mode == .run || s.mode == .stop || (s.mode == .safe && s.thermal n))

/-- A trigger of slot n is accepted, or dropped as an overrun (R197). While the VS link is down a thermal slot with ADC
feedback skips and holds y (R212). -/
def State.takeTrig (s : State) (n : Nat) : State :=
  if !s.slotRuns n then s
  else
    have timed : Bool := s.trigSource n = 5 ∨ s.trigSource n = 6
    if ¬ timed ∧ s.tooEarly n then s.slotOverrun n
    else
      have s2 := if timed then s else s.setSlot n { s.slot n with lastTrig := some s.monoNs }
      if ¬ s2.links.vsUp ∧ s2.thermal n ∧ s2.fld (Reg.CTL_SLOT_SRC n) 31 28 = 0 then s2 else s2.evaluate n

/-- Evaluate in the order in which the triggers arrive, up to the first one of slot n (R197). -/
def State.evaluateTo (s : State) (n : Nat) : List (Nat × Nat) → State
  | [] => s
  | p :: rest =>
    have s1 : State := { s with ctl := { s.ctl with trigs := rest } }
    if p.2 = n then s1.takeTrig n
    else
      have s2 := s1.takeTrig p.2
      s2.evaluateTo n rest

/-- SLOT_EVALUATE (R193, R196, R197): a delay of slot n ends. Triggers that arrived before it are evaluated first. -/
def execSlotEvaluate (n : Nat) (s : State) : Host.Outcome State Fault Refusal := s.whenVamp <|
  .next (if n < 16 ∧ s.waiting n ≠ 0 then s.evaluateTo n s.ctl.trigs else s)

/-! PWM. -/

/-- Whether channel c is driven in the coming period: enabled, not tripped, its source running (R200,
R206, R210, R215, R4). -/
def State.chanLive (s : State) (c : Nat) : Bool :=
  have latch := s.bit Reg.PWM_TRIP 23 || s.bit Reg.PWM_TRIP 22
  have held := s.power c && (s.fld Reg.PWM_TRIP 21 20 != 0 || s.mode == .safe)
  have src := s.fld (Reg.PWM_CH_CFG c) 25 22
  have fed := s.bit (Reg.PWM_CH_CFG c) 26 || s.running src
  s.bit Reg.PWM_ENABLE c && s.converter && !latch && !held && fed &&
    (s.mode == .run || s.mode == .stop || s.mode == .safe)

/-- The local period start of channel c at a time (R200, R202, R206): the duty of an XIN source is read, CMP loads, and the
pulse of this period is laid out. A pulse that a whole period has held active ends here unless the next one begins. -/
def State.localStart (s : State) (c tick : Nat) : State :=
  have s1 := if s.bit (Reg.PWM_CH_CFG c) 26 then
      s.putDuty c (s.sourceWord 1 (s.fld (Reg.PWM_CH_CFG c) 25 22)) else s
  have s2 := (s1.loadCmp c).unschedule c (fun _ => true)
  if !s2.chanLive c then s2.driveLow (fun k => k == c || (k == c + 1 && s2.complement k))
  else
    have was := s2.pwmChan c
    have pol := fun (k : Nat) => s2.bit (Reg.PWM_CH_CFG k) 28
    have s3 := s2.setPwmChan c { was with live := true, start := tick, rose := false, fell := false }
    have s4 := if was.live then s3
      else
        have t := s3.setPin c tick (pol c) true
        if t.paired c then t.setPin (c + 1) tick (!pol (c + 1)) true else t
    have p := s4.pulseAt c
    have active := (s4.pwmChan c).pin != pol c
    have ends := active && !(decide (p.1 < tick + shortest) && decide (shortest ≤ s4.pulseLen c))
    have s5 := s4.replan c tick
    if ends then
      s5.schedule ([{ tick := tick, chan := c, move := .settle false }] ++
        (if s5.paired c then [{ tick := tick + s5.deadA c, chan := c + 1, move := .settle true }] else []))
    else s5

/-- A PWM event happens. -/
def State.pwmEvent (s : State) (e : PwmEvent) : State :=
  have own := if s.complement e.chan then e.chan - 1 else e.chan
  have mark := fun (t : State) =>
    t.setPwmChan own (if e.falling then { t.pwmChan own with fell := true } else { t.pwmChan own with rose := true })
  match e.move with
  | .start => (s.localStart e.chan e.tick).raiseTrig 1 e.chan
  | .settle active =>
    if active && !s.bit Reg.PWM_ENABLE e.chan then s
    else s.setPin e.chan e.tick (active != s.bit (Reg.PWM_CH_CFG e.chan) 28) true
  | .pin active counts =>
    if active && !s.bit Reg.PWM_ENABLE e.chan then mark s else (mark s).setPin e.chan e.tick (active != s.bit (Reg.PWM_CH_CFG e.chan) 28) counts
  | .commute active =>
    if s.power e.chan then s.logEdge e.chan e.tick (active != s.bit (Reg.PWM_CH_CFG e.chan) 28) true else s

/-- PWM events whose time has come happen, at most so many. -/
def State.pwmFire (s : State) : Nat → State
  | 0 => s
  | k + 1 =>
    match s.ctl.timed with
    | [] => s
    | e :: rest =>
      if e.tick ≤ s.tickNow then (({ s with ctl := { s.ctl with timed := rest } } : State).pwmEvent e).pwmFire k else s

/-- More PWM events than can fall due at one time: seven for each channel. -/
def fireLimit : Nat := 112

/-- PWM_PERIOD_START (R199, R200, R202, R204): a running timebase takes its written period, and the local period of every
channel that uses it starts PHASE ticks later; PWM_PERIOD strobes as PEREVT says. -/
def execPwmPeriodStart (tb : Nat) (s : State) : Host.Outcome State Fault Refusal := s.whenVamp <|
  if ¬ (tb < 4 ∧ s.bit (Reg.PWM_TB_CFG tb) 31) then .next s
  else
    have count := tget 0 s.ctl.tbCount tb + 1
    have written := s.fld (Reg.PWM_TB_PERIOD tb) 23 0
    have period := ((s.ctl.tbHold.find? (fun p => p.1 == tb)).map (·.2)).getD written
    have mine := fun (c : Nat) => s.tbOf c == tb && !s.complement c
    have s1 := { s with ctl := { s.ctl with
      tbPeriod := tset 0x13880 s.ctl.tbPeriod tb period,
      tbHold := s.ctl.tbHold.filter (fun p => p.1 != tb),
      tbCount := tset 0 s.ctl.tbCount tb count,
      tbStart := tset 0 s.ctl.tbStart tb s.tim.chain.total,
      timed := s.ctl.timed.filter (fun (e : PwmEvent) => !(e.move == PwmMove.start && mine e.chan)) } }
    have s2 := s1.schedule (((List.range 16).filter mine).map (fun c =>
      ({ tick := s.tickNow + s.fld (Reg.PWM_CH_PHASE c) 23 0 * s.prescale tb, chan := c, move := .start } : PwmEvent)))
    have s3 := (s2.raiseTrig 3 tb).pwmFire fireLimit
    have div := s.fld (Reg.PWM_TB_CFG tb) 7 0 + 1
    .next (if s.bit (Reg.PWM_TB_CFG tb) 15 && count % div == 0 then
      s3.strobe Src.PWM_PERIOD (tb * 2 ^ 16 + count % 0x10000) else s3)

/-- PWM_PERIOD_MID (R200, R202): the middle of channel n's local period, a trigger event; with UPDATE 1 a new compare value
loads and governs the falling edge of the current pulse. -/
def execPwmPeriodMid (n : Nat) (s : State) : Host.Outcome State Fault Refusal := s.whenVamp <|
  if n < 16 then
    have s1 := if s.fld (Reg.PWM_CH_CFG n) 21 20 = 1 ∧ ¬ s.complement n then
        have u := s.loadCmp n
        have c := u.pwmChan n
        if c.live && c.rose && !c.fell then
          ((u.unschedule n (fun e => e.falling)).schedule (u.fallEvents n (max u.tickNow (u.pulseAt n).2))).pwmFire fireLimit
        else u
      else s
    .next (s1.raiseTrig 2 n)
  else .next s

/-! Register writes with an effect on the pins. -/

/-- A write of PWM.ENABLE: a channel that it does not enable drives its pin low (R200). -/
def State.enableWrite (s : State) (v : Word) : State :=
  (s.setFld Reg.PWM_ENABLE 15 0 (getBits v 15 0)).driveLow (fun c =>
    !getBit v c || (s.complement c && !getBit v (c - 1)))

/-- A write of a timebase's PERIOD: in the last 2 CTRL cycles, 5 ns, of a period it takes effect one period later (R199). -/
def State.periodWrite (s : State) (tb : Nat) (v : Word) : State :=
  have since := s.tickNow - 8 * tget 0 s.ctl.tbStart tb
  have late := s.bit (Reg.PWM_TB_CFG tb) 31 && decide (s.periodOf tb * s.prescale tb < since + 40)
  have old := s.fld (Reg.PWM_TB_PERIOD tb) 23 0
  have s1 := s.setFld (Reg.PWM_TB_PERIOD tb) 23 0 (getBits v 23 0)
  if late && !s.ctl.tbHold.any (fun p => p.1 == tb) then
    { s1 with ctl := { s1.ctl with tbHold := (tb, old) :: s1.ctl.tbHold } }
  else s1

end Sys2Proof.Machine
end

