-- ==== Sys2Proof/Machine/TetherLink.lean ====
section
/-!
DEFINITION. Sending on the Tether chain (R63 to R69, R105): frames, sequence numbers, what the registers say of a node, and
the queue of commands that wait until the chain is free for them.
-/

namespace Sys2Proof.Machine

/-- A Tether frame's data bytes (Table 2.5, R63, R64): header, payload and CRC, high byte first. -/
def tetherBytes (addr op seq : Nat) (payload : Bytes) : Bytes :=
  have body := bytesBE 2 (addr % 64 * 1024 + op % 64 * 16 + seq % 16) ++ payload
  body ++ bytesBE 2 (crc16 body)

/-- TTH.NODEn.STATE: 0 absent, 1 active, 2 parked, 3 unreachable. -/
def State.nodeState (s : State) (n : Nat) : Nat := s.fld (Reg.TTH_NODE (n - 1)) 5 4

/-- The node is served through port B. -/
def State.nodeB (s : State) (n : Nat) : Bool := s.bit (Reg.TTH_NODE (n - 1)) 0

/-- The negotiated version of a node. -/
def State.nodeVersion (s : State) (n : Nat) : Nat := s.fld (Reg.TTH_NODE (n - 1)) 11 8

/-- Nodes 1 to NODE_COUNT. -/
def State.nodeList (s : State) : List Nat := (List.range s.nodeCount).map (· + 1)

/-- Active nodes, in order. -/
def State.activeNodes (s : State) : List Nat := s.nodeList.filter (fun n => s.nodeState n == 1)

/-- Every address a node can have. -/
def allNodes : List Nat := (List.range 48).map (· + 1)

/-- Every node with an address, those beyond N too (R81). -/
def State.addressedNodes (s : State) : List Nat := allNodes.filter (fun n => s.nodeState n != 0)

/-- What the controller holds of a node. -/
def State.node (s : State) (n : Nat) : NodeRec := tget {} s.tth.nodes n

/-- The state with a node's record set. -/
def State.setNode (s : State) (n : Nat) (r : NodeRec) : State :=
  { s with tth := { s.tth with nodes := tset {} s.tth.nodes n r } }

/-- Put a frame on a port. -/
def State.tetherOut (s : State) (port : Nat) (frame : Bytes) : State :=
  if s.chainOn then s.emit (.tetherFrame port frame) else s

/-- A broadcast or unaddressed frame from one port. -/
def State.sendFrom (s : State) (port addr op : Nat) (payload : Bytes) : State :=
  if port = 0 then
    have q := (s.tth.bcastSeqA + 1) % 16
    ({ s with tth := { s.tth with bcastSeqA := q } }).tetherOut 0 (tetherBytes addr op q payload)
  else
    have q := (s.tth.bcastSeqB + 1) % 16
    ({ s with tth := { s.tth with bcastSeqB := q } }).tetherOut 1 (tetherBytes addr op q payload)

/-- A broadcast from both ports (R67). -/
def State.sendBoth (s : State) (op : Nat) (payload : Bytes) : State :=
  (s.sendFrom 0 0x3F op payload).sendFrom 1 0x3F op payload

/-! The next instant (R94, R100, R120). -/

/-- The period of a rate step in ms (Table 3.5). -/
def stepPeriod (step : Nat) : Nat := [1, 4, 10, 20, 100].getD step 100

/-- The current rate step. -/
def State.rateStep (s : State) : Nat := s.fld Reg.SWP_RATE 18 16

/-- The sweep period in force, ns. -/
def State.sweepPeriod (s : State) : Nat := stepPeriod s.rateStep * 1000000

/-- PERIOD_US of a band (Table 3.6). -/
def bandPeriod : Nat → Nat
  | 0 => 100
  | 1 => 1000
  | _ => 10000

/-- The state of SWP.BURST_STAT: 0 idle, 1 deferred, 2 lead-in, 3 capturing, 4 reading, 5 computing. -/
def State.burstState (s : State) : Nat := s.fld Reg.SWP_BURST_STAT 10 8

/-- D in ns (R83). -/
def State.sampleDelay (s : State) : Nat := s.fld Reg.TTH_SAMPLE_DELAY 15 0

/-- Point p of the burst in hand, CHAIN ns. -/
def burstPoint (b : Burst) (p : Nat) : Nat := b.p0.getD 0 + p * bandPeriod b.band * 1000

/-- The first burst point that is a sweep instant after t (R120): band H points 10m + 5, bands M and L
every point from 1. -/
def nextBurstPoint (b : Burst) (t : Nat) : Nat :=
  have step := bandPeriod b.band * 1000
  have p := (t - b.p0.getD 0) / step + 1
  if b.band = 0 then burstPoint b ((p + 4) / 10 * 10 + 5) else burstPoint b (max 1 p)

/-- The nominal instant that comes next: on the grid, and late enough for the launch (R94, R100). The spec does not say
where the first grid after Boot starts: the first whole ms of CHAIN time that a launch can still meet (DESIGN CHOICE,
assumption 221). -/
def State.nextNominal (s : State) : Nat :=
  have earliest := s.tim.chain.total + s.sampleDelay + 4000
  if s.swp.nominal = 0 then (earliest / 1000000 + 1) * 1000000
  else if earliest ≤ s.swp.nominal then s.swp.nominal
  else s.swp.nominal + ((earliest - s.swp.nominal) / s.sweepPeriod + 1) * s.sweepPeriod

/-- The next instant, as far as it is known: fixed, a burst point, or the nominal one; none before the first sweep. -/
def State.nextInstant (s : State) : Option Nat :=
  match s.swp.fix, s.swp.lastInstant, s.swp.burst with
  | some f, _, _ => some f.instant
  | none, none, _ => none
  | none, some t, some b => some (if s.burstState = 3 then nextBurstPoint b t else s.nextNominal)
  | none, some _, none => some s.nextNominal

/-! The queue (R67, R69, R105). -/

/-- DIAG ECHO. -/
def ChainCmd.isEcho (c : ChainCmd) : Bool := c.op == 0x0B && fieldLE c.payload 0 1 == 1

/-- Frames that go out only with no reply outstanding: ECHO and ROLLCALL (R67), and IDENTIFY, so that a node is assigned
before the next one is looked for. -/
def ChainCmd.exclusive (c : ChainCmd) : Bool := c.node == 0 || c.node == 0x3F || c.isEcho

/-- A command outstanding is DIAG ECHO. -/
def Outstanding.isEcho (w : Outstanding) : Bool := w.op == 0x0B && fieldLE w.payload 0 1 == 1

/-- The compensation of a node for a port, ns. -/
def State.compFor (s : State) (n port : Nat) : Nat :=
  if port = 0 then s.fld (Reg.TTH_COMP (n - 1)) 15 0 else s.fld (Reg.TTH_COMP (n - 1)) 31 16

/-- The reply timeout of a node through a port: its round trip and 20 µs (R69). -/
def State.replyNs (s : State) (n port : Nat) : Nat := 2 * s.compFor n port + (s.node n).tTurn + 20000

/-- The greatest compensation of any node. -/
def State.greatestComp (s : State) : Nat := allNodes.foldl (fun a n => max a (max (s.compFor n 0) (s.compFor n 1))) 0

/-- A rollcall's slots are still passing, and a node has not answered in both. -/
def State.rollDue (s : State) : Bool :=
  decide (s.tim.chain.total < s.tth.rollUntil) &&
    s.addressedNodes.any (fun n => !(s.tth.rollA.contains n && s.tth.rollB.contains n))

/-- A reply is outstanding on either ring (R67). -/
def State.replyDue (s : State) : Bool :=
  s.tth.identOut || s.rollDue || s.tth.nodes.any (fun p => p.2.wait.isSome)

/-- An exclusive frame's reply is outstanding. -/
def State.ringHeld (s : State) : Bool :=
  s.tth.identOut || s.rollDue || s.tth.nodes.any (fun p => p.2.wait.any Outstanding.isEcho)

/-- The port a waiting command goes through. -/
def State.cmdPort (s : State) (c : ChainCmd) : Nat := c.port.getD (if s.nodeB c.node then 1 else 0)

/-- How long a command's replies can take, ns. The slots of a rollcall are 40 symbols, slot 0 at D. -/
def State.cmdNs (s : State) (c : ChainCmd) : Nat :=
  if c.node = 0 then 2 * 13920 + 2000 + 20000
  else if c.node = 0x3F then s.sampleDelay + 48 * 6400 + s.greatestComp + 20000
  else s.replyNs c.node (s.cmdPort c)

/-- The chain is free for a command now (R105): between the close of a record and D + 4 µs before the next instant, its
replies being back before SAMPLE_AT launches; any time before the first sweep and while an enumeration has stopped the
sweeps. -/
def State.chainFree (s : State) (c : ChainCmd) : Bool :=
  s.swp.opened.isNone && s.swp.launched.isNone &&
    (s.tth.enumerating || (match s.nextInstant with
      | none => true
      | some t => decide (s.tim.chain.total + s.sampleDelay + 4000 ≤ t) &&
          decide (s.tim.chain.total + s.cmdNs c + s.sampleDelay ≤ t)))

/-- A waiting command may go out: one at a time to a node, an exclusive one alone. -/
def State.maySend (s : State) (c : ChainCmd) : Bool :=
  s.chainFree c && !s.ringHeld && (if c.exclusive then !s.replyDue else (s.node c.node).wait.isNone)

/-- The payload of DIAG ROLLCALL of every node with an address (R76, R87). Bytes 6 to 8, which ROLLCALL does not use, are 0
(DESIGN CHOICE, assumption 222). -/
def State.rollPayload (s : State) : Bytes :=
  bytesLE 1 4 ++ bytesLE 1 1 ++ bytesLE 1 (max s.nodeCount (s.addressedNodes.getLastD 1)) ++ bytesLE 1 40 ++
    bytesLE 2 s.sampleDelay ++ zeros 3

/-- An addressed command goes out (R69): a new one advances the sequence number of its node and port, a retry keeps its
own. SET_ADDRESS goes to address 0x00, and its reply comes from the new address. -/
def State.sendVia (s : State) (port : Nat) (c : ChainCmd) : State :=
  have r := s.node c.node
  have p := c.again.getD (((if port = 0 then r.seqA else r.seqB) + 1) % 16, 0)
  have w : Outstanding :=
    { op := c.op, payload := c.payload, port := port, seq := p.1, attempts := p.2 + 1, cmd := c.cmd }
  have r1 := { r with wait := some w,
                      seqA := if port = 0 && c.again.isNone then p.1 else r.seqA,
                      seqB := if port != 0 && c.again.isNone then p.1 else r.seqB }
  (s.setNode c.node r1).tetherOut port (tetherBytes (if c.op = 2 then 0 else c.node) c.op p.1 c.payload)

/-- A waiting command goes out. -/
def State.launch (s : State) (c : ChainCmd) : State :=
  if c.node = 0 then
    ({ s with tth := { s.tth with identOut := true } } : State).sendFrom (s.cmdPort c) 0 1 [2]
  else if c.node = 0x3F then
    ({ s with tth := { s.tth with
      rollA := [], rollB := [], rollUntil := s.tim.chain.total + s.cmdNs c } } : State).sendBoth 0x0B s.rollPayload
  else s.sendVia (s.cmdPort c) c

/-- Go through waiting commands in order: what may go out does, the rest waits on. Behind an exclusive one that waits
nothing goes out. -/
def State.drain (s : State) (kept : List ChainCmd) : List ChainCmd → State
  | [] => { s with tth := { s.tth with queue := kept } }
  | c :: rest =>
    if s.maySend c then (s.launch c).drain kept rest
    else if c.exclusive then { s with tth := { s.tth with queue := kept ++ c :: rest } }
    else s.drain (kept ++ [c]) rest

/-- Send what the chain is free for. -/
def State.pump (s : State) : State := s.drain [] s.tth.queue

/-- A command joins the queue, if the ports work. -/
def State.enqueue (s : State) (c : ChainCmd) : State :=
  if s.chainOn then { s with tth := { s.tth with queue := s.tth.queue ++ [c] } } else s

/-- A new addressed command through the node's assigned port. -/
def State.sendNode (s : State) (n op : Nat) (payload : Bytes) : State :=
  (s.enqueue { node := n, op := op, payload := payload }).pump

/-- DIAG ROLLCALL from both ports, if none waits. -/
def State.rollcall (s : State) : State :=
  if s.tth.queue.any (fun c => c.node == 0x3F) then s
  else (s.enqueue { node := 0x3F, op := 0x0B }).pump

/-- The HEARTBEAT_CFG payload (R263, R61): ALARM_MASK 0x1F, FILTER NODE_FILTER, TAKEOVER_ENABLE, and
CLEAR_LATCH only when asked. -/
def State.heartbeatCfg (s : State) (clear : Bool) : Bytes :=
  bytesLE 1 0x1F ++ bytesLE 1 (s.cfgN 10 3 0 10) ++ bytesLE 1 (2 + b2n clear) ++ zeros 1

end Sys2Proof.Machine
end

