-- ==== Sys2Proof/Machine/PcsAnswer.lean ====
section
/-!
DEFINITION. The limits in force at the PCS port (R236 to R241) and what the read-back of the output pairs
says: what answers, bursts and the safety channels share.
-/

namespace Sys2Proof.Machine

/-- Levels of pair n (from 1): SRBH in bits 3:2, SRBL in bits 1:0 (Table 8.9). -/
def State.pairLevels (s : State) (n : Nat) : Nat := s.saf.readback / 16 ^ (n - 1) % 16

/-- Pair n reads closed: SRBH HIGH, SRBL LOW (Table 8.2). -/
def State.readsClosed (s : State) (n : Nat) : Bool := s.pairLevels n == 8

/-- Pair n reads open: MID and MID, or the open coil, LOW and MID (Table 8.2). -/
def State.readsOpen (s : State) (n : Nat) : Bool := s.pairLevels n == 5 || s.pairLevels n == 1

/-- All four pairs read open. -/
def State.allOpen (s : State) : Bool := [1, 2, 3, 4].all s.readsOpen

/-- A main pair reads closed. -/
def State.mainClosed (s : State) : Bool := s.readsClosed 1 || s.readsClosed 2

/-- DROGUE_S in tenths of a second (Table 8.6). -/
def State.drogueTenths (s : State) : Nat := (f32ToInt .even 0 1200 10 (s.cfgW 10 13 0 0x41200000)).toNat

/-- DROGUE_S in ns. -/
def State.drogueNs (s : State) : Nat := s.drogueTenths * 100000000

/-- A hazard demand is latched in a channel: its demand line is active (R239). -/
def State.demandLine (s : State) : Bool := s.saf.findings.any (fun f => f.hazard && (f.lat1 || f.lat2))

/-- LIMIT_AGE in ms (R237), saturating at 255; at least 250 once LIMIT_STALE has come. -/
def State.limitAge (s : State) : Nat :=
  match s.pcs.commitAt with
  | none => 255
  | some t =>
    have age := min 255 ((s.monoNs - t) / 1000000)
    if s.bit Reg.PCS_STAT 11 then max 250 age else age

/-- The envelope's remaining share (R240): elapsed and total ramp, ns. -/
def State.rampLeft (s : State) (entry : Nat) : Nat × Nat :=
  have r := s.drogueNs / 2
  (r - (s.monoNs - entry), r)

/-- The envelope in force for charge and discharge (R240). -/
def State.envelope (s : State) : Option (Word × Word) :=
  s.pcs.envelope.map (fun (e : Nat × Word × Word) =>
    have k := s.rampLeft e.1
    have part := f32OfRat k.1 k.2
    (f32Mul e.2.1 part, f32Mul e.2.2 part))

/-- A minimum with an optional bound. -/
def minOpt (v : Word) (bound : Option Word) : Word :=
  match bound with
  | none => v
  | some b => f32Min v b

/-- The limit-table values of a horizon, 0 for 2 s to 3 for 900 s. -/
def LimitTable.at (t : LimitTable) : Nat → Word × Word
  | 0 => (t.chg0, t.dis0)
  | 1 => (t.chg1, t.dis1)
  | 2 => (t.chg2, t.dis2)
  | _ => (t.chg3, t.dis3)

/-- The currents an answer carries for a horizon (Table 7.5). -/
def State.answerCurrents (s : State) (h : Nat) : Word × Word :=
  if s.mode = .boot ∨ s.mode = .safe ∨ s.demandLine ∨ s.limitAge ≥ 250 then (0, 0)
  else
    have t := s.pcs.table.at h
    have e := s.envelope
    (minOpt (minOpt t.1 s.pcs.capChg) (e.map (·.1)), minOpt (minOpt t.2 s.pcs.capDis) (e.map (·.2)))

/-- Answers leave the port (R233, Table 7.5). -/
def State.answers (s : State) : Bool :=
  !s.supply.held && !s.supply.refclkLost &&
    (s.mode == .safe || ((s.mode == .boot || s.mode == .run || s.mode == .stop) && s.pcs.readyAt.isSome))

/-- The Drogue envelope is latched (R240): the ALLOWED values of the last answer. -/
def State.pcsDrogue (s : State) : State :=
  ({ s with pcs := { s.pcs with envelope := some (s.monoNs, s.pcs.allowedChg, s.pcs.allowedDis) } }).setBit
    Reg.PCS_STAT 10 true

/-- The overlay has ended: the envelope goes. -/
def State.pcsDrogueEnd (s : State) : State :=
  ({ s with pcs := { s.pcs with envelope := none } }).setBit Reg.PCS_STAT 10 false

/-- The means of I and of |I| over a window of so many conversions, if none was missing (R112, R260). -/
def CurrentWindow.means (w : CurrentWindow) (n : Nat) : Option (Word × Word) :=
  if w.count < n then none else some (f32OfRat w.sum (w.count * 2 ^ 149), f32OfRat w.sumAbs (w.count * 2 ^ 149))

/-- The newest known 1 ms mean of the string current, A. -/
def State.current1ms (s : State) : Word := s.swp.means.headD 0

end Sys2Proof.Machine
end

