-- ==== Sys2Proof/Machine/Burst.lean ====
section
/-!
DEFINITION. Impedance bursts (R115 to R122): requests, start, the perturbation, abort and end, and the
sweep rate that they share with the scheduler (R112 to R114).
-/

namespace Sys2Proof.Machine

/-! Sweep rate. -/

/-- A rate change (R114): registers, RATE_CHANGED in the next record and SWP_RATE_CHANGE; the callers re-base the grid. -/
def State.setRate (s : State) (step cause : Nat) : State :=
  if s.rateStep = step then s
  else
    have rate := 1000 / stepPeriod step
    have s1 := ((s.setFld Reg.SWP_RATE 18 16 step).setFld Reg.SWP_RATE 15 0 rate).setBit Reg.SWP_STAT 8
      (decide (step ≠ 0))
    ({ s1 with swp := { s1.swp with rateChanged := true, lowMs := 0 } }).strobe Src.SWP_RATE_CHANGE
      (cause * 2 ^ 12 + rate)

/-- The new 1 ms grid of a return to step 0 now (R113): its first nominal instant is the first whole µs at least D + 40 µs
later; a sweep that is launched or open defers it to D + 4 µs after the record's close, and a fix for the old grid falls. -/
def State.rebaseGrid (s : State) : State :=
  { s with swp := { s.swp with
    nominal := (s.tim.chain.total + s.sampleDelay + 40000 + 999) / 1000 * 1000, fix := none,
    rebase := s.swp.opened.isSome || s.swp.launched.isSome } }

/-- A return to step 0 for a cause of Table 3.14. -/
def State.fullRateFor (s : State) (cause : Nat) : State :=
  if s.rateStep = 0 then s else (s.setRate 0 cause).rebaseGrid

/-! Bands and bins. -/

/-- The first bin of a band and the k_b of its bins (Table 3.7). -/
def bandBins : Nat → Nat × List Nat
  | 0 => (11, [30, 58, 113, 219, 423, 819])
  | 1 => (6, [11, 22, 42, 81, 156])
  | _ => (1, [4, 8, 15, 30, 57])

/-- Set the burst state and BURST_NOW. -/
def State.setBurstState (s : State) (st : Nat) : State :=
  (s.setFld Reg.SWP_BURST_STAT 10 8 st).setBit Reg.SWP_STAT 9 (st == 2 || st == 3)

/-- A burst is in lead-in or capture. -/
def State.burstRuns (s : State) : Bool := s.burstState == 2 || s.burstState == 3

/-- The commanded peak amplitude A (R116). -/
def State.burstAmp (s : State) : Word := s.ratedPart (s.fld Reg.SWP_BURST_CFG 31 24)

/-! Requests. -/

/-- The band in hand waits for its start conditions (R119). -/
def State.deferBand (s : State) : State :=
  match s.swp.bands with
  | [] => s.setBurstState 0
  | b :: _ => (s.setFld Reg.SWP_BURST_STAT 13 12 b).setBurstState 1

/-- A request becomes the one in hand. -/
def State.takeRequest (s : State) (seq : Bool) : State :=
  ({ s with swp := { s.swp with
      bands := if seq then [0, 1, 2] else [0], inSeq := seq,
      reqH := s.swp.reqH && seq, reqSeq := s.swp.reqSeq && !seq,
      waiting := s.swp.waiting.map (fun (w : Nat × Bool × Bool) =>
        if w.2.1 == seq then (w.1, w.2.1, false) else w) } }).deferBand

/-- A burst request (R118): one at a time; while one is in hand a further one is queued once and merged. -/
def State.requestBurst (s : State) (seq : Bool) : State :=
  if s.swp.bands.isEmpty then s.takeRequest seq
  else { s with swp := { s.swp with reqH := s.swp.reqH || !seq, reqSeq := s.swp.reqSeq || seq } }

/-- BURST_SCHEDULE_TIMER (R118): BURST_H_INTERVAL_S 0 turns the schedule off. -/
def execBurstScheduleTimer (s : State) : Host.Outcome State Fault Refusal := s.whenVamp <|
  .next (if s.fld Reg.SWP_BURST_CFG 15 0 = 0 then s else s.requestBurst false)

/-- BURST_SEQ_TIMER (R118). -/
def execBurstSeqTimer (s : State) : Host.Outcome State Fault Refusal := s.whenVamp <|
  .next (if s.fld Reg.SWP_BURST_CFG 23 16 = 0 then s else s.requestBurst true)

/-- SWP_BURST_REQ (R118). -/
def execSwpBurstReq (s : State) : Host.Outcome State Fault Refusal := s.whenVamp <|
  .next ((s.setBit Reg.SWP_CTRL 0 true).requestBurst false)

/-- SWP_SEQ_REQ (R118). -/
def execSwpSeqReq (s : State) : Host.Outcome State Fault Refusal := s.whenVamp <|
  .next ((s.setBit Reg.SWP_CTRL 1 true).requestBurst true)

/-! End and abort. -/

/-- The perturbation ends (R121, R120). -/
def State.pertOff (s : State) : State :=
  have s1 := s.setBit Reg.PCS_PERT_CTRL 0 false
  if s1.fld Reg.CTL_AWL_STAT 10 8 = 4 then s1.setFld Reg.CTL_AWL_STAT 10 8 0 else s1

/-- The capture header (Table 3.9). INPUT_BLOCKS is one byte and holds the low 8 bits of the count (DESIGN CHOICE, assumption
233). -/
def State.burstHeader (s : State) (b : Burst) (result : Nat) (dc : Word) : State :=
  have t := b.p0.getD 0
  have bytes := bytesLE 2 b.id ++ bytesLE 1 b.band ++ bytesLE 1 result ++ bytesLE 2 4096 ++
    bytesLE 2 (bandPeriod b.band) ++ bytesLE 4 (t % 1000000000) ++ bytesLE 4 (t / 1000000000) ++
    bytesLE 4 b.amp.toNat ++ bytesLE 4 dc.toNat ++ bytesLE 2 (s.fld Reg.SWP_BURST_ID 28 16) ++
    bytesLE 1 (b2n (!s.converter)) ++ bytesLE 1 b.inputs.length ++ zeros 36
  s.putBytes (s.rd Reg.SWP_BURST_BASE).toNat bytes

/-- DC_CURRENT (Table 3.9): the mean of the currents of the points so far. -/
def burstDc (b : Burst) : Word := f32OfRat b.sum (b.points * 2 ^ 149)

/-- Whether a waiting command operation completes with the band in hand (R366). -/
def State.burstAnswers (s : State) (band : Nat) (w : Nat × Bool × Bool) : Bool :=
  !w.2.2 && w.2.1 == s.swp.inSeq && band == (if w.2.1 then 2 else 0)

/-- The request in hand goes on with its next band, or a queued one starts. -/
def State.nextBand (s : State) : State :=
  have rest := s.swp.bands.tail
  have s1 := { s with swp := { s.swp with bands := rest, burst := none } }
  if !rest.isEmpty then s1.deferBand
  else if s1.swp.reqSeq then s1.takeRequest true
  else if s1.swp.reqH then s1.takeRequest false
  else s1.setBurstState 0

/-- A burst ends (R119 to R122, R124): perturbation off, header, flags, SWP_BURST_DONE and the command
operations that wait for it. result: 0 complete, 1 aborted, 2 refused, 3 rejected. -/
def State.burstEnd (s : State) (result reason : Nat) : State :=
  have band := s.fld Reg.SWP_BURST_STAT 13 12
  have s0 := if s.burstRuns then s.fullRateFor 3 else s
  have s1 := ({ s0 with swp := { s0.swp with lowMs := 0 } } : State).pertOff
  have s2 := match s1.swp.burst with
    | some b => s1.burstHeader b result (burstDc b)
    | none => s1
  have s3 := s2.flag Reg.SWP_BURST_STAT Reg.SWP_BURST_COUNT (if result = 0 then 0 else if result = 3 then 1 else 2)
  have id := s3.fld Reg.SWP_BURST_ID 15 0
  have s4 := s3.setBit Reg.SWP_CTRL 2 false
  have s5 := if band = 0 ∧ ¬ s4.swp.reqH then s4.setBit Reg.SWP_CTRL 0 false else s4
  have s6 := if band = 2 ∧ ¬ s5.swp.reqSeq then s5.setBit Reg.SWP_CTRL 1 false else s5
  have s7 := s6.strobe Src.SWP_BURST_DONE (reason * 2 ^ 20 + band * 2 ^ 18 + result * 2 ^ 16 + id)
  have done := s7.swp.waiting.filter (s7.burstAnswers band)
  have s8 := { s7 with swp := { s7.swp with waiting := s7.swp.waiting.filter (fun w => !(s7.burstAnswers band w)) } }
  (s8.completeAll (done.map (·.1)) St.OK (bytesLE 2 id ++ [BitVec.ofNat 8 band, BitVec.ofNat 8 result,
    BitVec.ofNat 8 reason])).nextBand

/-- An abort condition of R121: it ends a burst in lead-in or capture. -/
def State.burstAbort (s : State) (reason : Nat) : State :=
  if s.burstRuns then s.burstEnd 1 reason else s

/-- SWP_BURST_ABORT (R121). -/
def execSwpBurstAbort (s : State) : Host.Outcome State Fault Refusal := s.whenVamp <|
  .next (s.burstAbort 8)

/-! Start. -/

/-- |I| + A lies within both allowed currents of the 2 s horizon (R119, R121). -/
def State.burstFits (s : State) : Bool :=
  have x := f32Add (f32Abs s.current1ms) s.burstAmp
  have a := s.answerCurrents 0
  f32Le x a.1 && f32Le x a.2

/-- Active version 3 nodes. -/
def State.v3Nodes (s : State) : List Nat := s.activeNodes.filter (fun n => s.nodeVersion n == 3)

/-- R117 admits the band in hand: band H on a direct string needs a PCS cycle of 100 µs or shorter. -/
def State.bandAdmitted (s : State) (band : Nat) : Bool :=
  s.converter || band != 0 ||
    (decide (s.rd Reg.PCS_CYCLE ≠ 0) && decide ((s.rd Reg.PCS_CYCLE).toNat ≤ 100000))

/-- Over the last 5 s no 1 s mean of the current differs from another by more than 2 % of rated (R119); an unknown one, or
less than 5 s, does not show it (DESIGN CHOICE, assumption 229). -/
def State.currentCalm (s : State) : Bool :=
  have l := s.swp.seconds.filterMap id
  decide (l.length = 5) && l.all (fun x => l.all (fun y => f32Le (f32Abs (f32Sub x y)) (s.ratedPart 20)))

/-- The start conditions of R119. -/
def State.burstReady (s : State) (band : Nat) : Bool :=
  s.mode == .run && !s.drogue && s.readsClosed 1 && s.readsClosed 2 &&
  (s.fld Reg.CTL_AWL_STAT 10 8 == 0) && !s.v3Nodes.isEmpty && s.currentCalm && s.burstFits &&
  s.bandAdmitted band

/-- PERT_INC of component k of a band (R242): k * rate / 4096 * 10^-6 * 2^40, rounded. -/
def pertInc (band k : Nat) : Nat := (k * (1000000 / bandPeriod band) * 2 ^ 28 + 500000) / 1000000

/-- The starting phase of component m (from 1) of M, in 2^-32 turn (R116): -m (m - 1) / (2 M) turn. -/
def pertPhase (m n : Nat) : Nat := (2 ^ 32 - m * (m - 1) * 2 ^ 31 / n % 2 ^ 32) % 2 ^ 32

/-- The peak P of the unscaled sum of a band over one record length, in 10^-9 (R116), as found from Tables 3.6 and 3.7
(assumption 234). -/
def bandPeak : Nat → Nat
  | 0 => 5665418286
  | 1 => 4712013441
  | _ => 4805587696

/-- The amplitude of each component, A / P, in A (R116). -/
def componentAmp (band : Nat) (amp : Word) : Word := f32Div amp (f32OfRat (bandPeak band) 1000000000)

/-- The trigger period of a slot, in 125 ps (R196, R219), followed through slots that trigger each other. -/
def State.slotPeriod (s : State) (n : Nat) : Nat → Nat
  | 0 => 0
  | k + 1 =>
    have sel := s.trigSel n
    have every := s.fld (Reg.CTL_SLOT_TRIG n) 24 17 + 1
    have tb := fun (b : Nat) => s.periodOf b * s.prescale b
    match s.trigSource n with
    | 1 => tb (s.tbOf sel) * every
    | 2 => tb (s.tbOf sel) * every
    | 3 => tb (sel % 4) * every
    | 4 => s.slotPeriod sel k * every
    | 5 => s.fld (Reg.CTL_SLOT_TRIG n) 24 0 * 400
    | 6 => s.fld (Reg.CTL_SLOT_TRIG n) 24 0 * 8000
    | 7 => s.sweepPeriod * 8 * every
    | _ => 0

/-- MS_INCm of component k (R219): f_m / f_s * 2^32, rounded, at the trigger rate f_s of the slot. -/
def State.msInc (s : State) (band k : Nat) : Nat :=
  have d := bandPeriod band * 8000
  (2 * (k * s.slotPeriod (s.cfgN 2 11 0 0) 16 * 2 ^ 20) + d) / (2 * d)

/-- MS_AMPm (R219): A / P as a signal of the slot's reference, in which the rated current is LIM_K where the slot's window
limits come from the estimator (R208), else 1 (DEDUCED, assumption 235). -/
def State.msAmp (s : State) (band : Nat) : Nat :=
  have cfg := s.rd (Reg.CTL_SLOT_CFG (s.cfgN 2 11 0 0))
  have k : Nat := if 2 ≤ getBits cfg 23 22 then getBits cfg 21 8 else 4096
  (f32ToInt .away 0 0x7FFFFF (2 ^ 23) (f32Mul (f32Div (componentAmp band s.burstAmp) s.iRated) (f32OfRat k 4096))).toNat

/-- Load one component (R116, R219, R242). -/
def State.loadComponent (s : State) (band i k n : Nat) : State :=
  if s.converter then
    ((s.wr (Reg.CTL_MS_AMP i) (BitVec.ofNat 32 (s.msAmp band))).wr (Reg.CTL_MS_INC i)
      (BitVec.ofNat 32 (s.msInc band k))).wr (Reg.CTL_MS_PH i) (BitVec.ofNat 32 (pertPhase (i + 1) n))
  else
    ((s.wr (Reg.PCS_PERT_AMP i) (componentAmp band s.burstAmp)).wr (Reg.PCS_PERT_INC i)
      (BitVec.ofNat 32 (pertInc band k))).wr (Reg.PCS_PERT_PH i) (BitVec.ofNat 32 (pertPhase (i + 1) n))

/-- Load the perturbation of a band and start it (R116, R117, R219, R242). -/
def State.pertOn (s : State) (band : Nat) : State :=
  have ks := (bandBins band).2
  have s0 := (List.range 16).foldl (fun t i =>
    if t.converter then t.wr (Reg.CTL_MS_AMP i) 0 else t.wr (Reg.PCS_PERT_AMP i) 0) s
  have s1 := (ks.zip (List.range ks.length)).foldl (fun t (p : Nat × Nat) =>
    t.loadComponent band p.2 p.1 ks.length) s0
  if s1.converter then
    { s1.setFld Reg.CTL_AWL_STAT 10 8 4 with ctl := { s1.ctl with awl := {} } }
  else
    have s2 := s1.setBit Reg.PCS_PERT_CTRL 0 true
    { s2 with pcs := { s2.pcs with pertStart := s2.tim.chain.total } }

/-- The mean of a list of values. -/
def f32Mean (l : List Word) : Word := f32Div (l.foldl f32Add 0) (f32OfInteger l.length)

/-- The 100 ms mean of the string current: that of the newest 1 ms means. -/
def State.mean100ms (s : State) : Word := f32Mean s.swp.means

/-- BURST_START (R119, R120): the conditions hold, a BURST_ID is assigned and the lead-in begins. -/
def execBurstStart (s : State) : Host.Outcome State Fault Refusal := s.whenVamp <|
  match s.swp.bands with
  | [] => .next s
  | band :: _ =>
    if s.burstState = 1 ∧ s.burstReady band then
      have id := (s.fld Reg.SWP_BURST_ID 15 0 + 1) % 0x10000
      have s1 := (s.wr Reg.SWP_BURST_ID (BitVec.ofNat 32 id)).fullRateFor 2
      have s2 := { s1 with swp := { s1.swp with
        lowMs := 0, ready := [],
        burst := some { id := id, band := band, startMean := s1.mean100ms, start := s1.tim.chain.total, amp := s1.burstAmp } } }
      .next ((s2.setBurstState 2).pertOn band)
    else .next s

/-- BURST_DEFER_TIMEOUT (R119): 60 s after the request the burst is refused. -/
def execBurstDeferTimeout (s : State) : Host.Outcome State Fault Refusal := s.whenVamp <|
  .next (if s.burstState = 1 then s.burstEnd 2 (if s.v3Nodes.isEmpty then 9 else 6) else s)

end Sys2Proof.Machine
end

