-- ==== Sys2Proof/Machine/Dma.lean ====
section
/-!
DEFINITION. The DMA engine's Reels (R386 to R399): channel control, descriptor fetch and check,
completion records, stops and bus errors. The bursts themselves stand in DmaMove.lean, over the bus.
-/

namespace Sys2Proof.Machine

/-- The record of a channel. -/
def State.chan (s : State) (n : Nat) : DmaChan := tget {} s.dma.chans n

/-- The state with a channel's record set. -/
def State.setChan (s : State) (n : Nat) (c : DmaChan) : State :=
  { s with dma := { s.dma with chans := tset {} s.dma.chans n c } }

/-- A channel's state (Table 12.5). -/
def State.chanState (s : State) (n : Nat) : Nat := s.fld (Reg.DMA_CH_STAT n) 31 28

/-- Set a channel's state; DMA.RUNNING shows channels neither OFF nor STOPPED. -/
def State.setChanState (s : State) (n st : Nat) : State :=
  (s.setFld (Reg.DMA_CH_STAT n) 31 28 st).setBit Reg.DMA_RUNNING n (st != 0 && st != 5)

/-- Reel slots and completion queue records of a channel. -/
def State.reelSlots (s : State) (n : Nat) : Nat := s.fld (Reg.DMA_CH_CFG n) 31 20 + 1
def State.cqSlots (s : State) (n : Nat) : Nat := s.fld (Reg.DMA_CH_CFG n) 19 8 + 1

/-- Fields of a descriptor (Table 12.3). -/
def descWord (d : List Word) (i : Nat) : Word := d.getD i 0
def descOwn (d : List Word) : Bool := getBit (descWord d 0) 31
def descLink (d : List Word) : Bool := getBit (descWord d 0) 30
def descBarrier (d : List Word) : Bool := getBit (descWord d 0) 29
def descIrq (d : List Word) : Bool := getBit (descWord d 0) 28
def descBurst (d : List Word) : Nat := getBits (descWord d 0) 25 23
def descReq (d : List Word) : Nat := getBits (descWord d 0) 22 17
def descLength (d : List Word) : Nat := getBits (descWord d 1) 23 0
def descSrc (d : List Word) : Nat := (descWord d 2).toNat
def descDst (d : List Word) : Nat := (descWord d 3).toNat

/-- The channel waits for arrival of this descriptor (R394). -/
def State.dmaWaits (s : State) (d : List Word) : Bool := s.fld Reg.DMA_MODE 1 0 == 0 || descBarrier d

/-- Write a completion record at CHn_CQ_HEAD (R393, Table 12.6); DMA_QUEUE_HIGH strobes when the queue
reaches three quarters and when it is full (R395), and DMA_DONE for a status other than OK or with IRQ. -/
def State.dmaRecord (s : State) (n status : Nat) (d : List Word) (arrived irq : Bool) : State :=
  have c := s.chan n
  if c.cqFill ≥ s.cqSlots n then s
  else
    have h := s.fld (Reg.DMA_CH_CQ_HEAD n) 11 0
    have index := if c.outside then 0 else s.fld (Reg.DMA_CH_INDEX n) 11 0
    have cseq := (s.fld (Reg.DMA_CH_STAT n) 15 0 + 1) % 0x10000
    have w2 := b2n c.outside * 2 ^ 27 + b2n c.phase * 2 ^ 26 + b2n arrived * 2 ^ 25 +
      b2n c.stalled * 2 ^ 24 + c.stallUs % 2 ^ 24
    have s1 := s.putBytes ((s.rd (Reg.DMA_CH_CQ_BASE n)).toNat + 16 * h)
      (bytesLE 4 (descWord d 4).toNat ++ bytesLE 4 (status * 2 ^ 24 + c.moved % 2 ^ 24) ++
       bytesLE 4 w2 ++ bytesLE 2 (n * 0x1000 + index) ++ bytesLE 2 cseq)
    have h1 := (h + 1) % s.cqSlots n
    have s2 := (s1.setFld (Reg.DMA_CH_CQ_HEAD n) 11 0 h1).setFld (Reg.DMA_CH_STAT n) 15 0 cseq
    have fill := c.cqFill + 1
    have s3 := s2.setChan n { c with cqFill := fill, phase := if h1 = 0 then !c.phase else c.phase }
    have three : Bool := 4 * fill ≥ 3 * s.cqSlots n ∧ 4 * c.cqFill < 3 * s.cqSlots n
    have full : Bool := fill = s.cqSlots n
    have s4 := if three ∨ full then s3.setBit Reg.DMA_STAT 4 true else s3
    have s5 := if three then s4.strobe Src.DMA_QUEUE_HIGH n else s4
    have s6 := if full then s5.strobe Src.DMA_QUEUE_HIGH (16 + n) else s5
    if irq || status != 0 then s6.strobe Src.DMA_DONE (status * 2 ^ 16 + index * 16 + n) else s6

/-- A channel is done with an error that stopped it: once every such channel has been started again or
disabled, service mode returns (R394). -/
def State.dmaRecovered (s : State) (n : Nat) : State :=
  have r := s.dma.recovering.filter (· != n)
  have s1 := { s with dma := { s.dma with recovering := r } }
  if s.fld Reg.DMA_MODE 1 0 = 3 ∧ r.isEmpty then s1.setFld Reg.DMA_MODE 1 0 0 else s1

/-- Stop a channel (Table 12.5): its record when it has a descriptor, the reason, and its line released. -/
def State.dmaStop (s : State) (n status : Nat) : State :=
  have s1 := match (s.chan n).desc with
    | some d => s.dmaRecord n status d false false
    | none => s
  have s2 := (s1.setFld (Reg.DMA_CH_STAT n) 27 24 status).setFld (Reg.DMA_CH_STAT n) 21 16 0x3F
  have c := s2.chan n
  (s2.setChan n { c with abort := false, issued := false }).setChanState n 5

/-- A bus error met by a channel (R397): every channel in use stops with a record, the address is
recorded, DMA_BUS_ERROR strobes and recovery mode begins. -/
def State.dmaBusError (s : State) (n addr : Nat) (write noResponse : Bool) : State :=
  have live := (List.range 16).filter (fun k => s.chanState k != 0 && s.chanState k != 5)
  have s1 := live.foldl (fun t k => t.dmaStop k (if k = n then 1 else 2)) s
  have info := b2n write * 32 + b2n noResponse * 16 + n
  have s2 := (s1.wr Reg.DMA_ERR_ADDR (BitVec.ofNat 32 addr)).wr Reg.DMA_ERR_INFO (BitVec.ofNat 32 info)
  have s3 := (s2.flag Reg.DMA_STAT Reg.DMA_STAT_COUNT 3).setFld Reg.DMA_MODE 1 0 3
  have s4 := { s3 with dma := { s3.dma with recovering := live } }
  s4.strobe Src.DMA_BUS_ERROR info

/-- Lines that Table 12.4 marks firmware only. -/
def lineFirmwareOnly (l : Nat) : Bool :=
  (16 ≤ l && l ≤ 23) || (29 ≤ l && l ≤ 37) || (41 ≤ l && l ≤ 44)

/-- An address range lies within another. -/
def inRange (a n lo hi : Nat) : Bool := decide (lo ≤ a) && decide (a + n ≤ hi)

/-- Ranges overlap. -/
def overlaps (a n lo hi : Nat) : Bool := decide (a < hi) && decide (lo < a + n)

/-- The bytes a descriptor's source or destination spans. -/
def descSpan (fixed : Bool) (d : List Word) : Nat := if fixed then 4 else descLength d

/-- The check of a fetched descriptor (R388): 0 good, 4 PROTECTION, 5 BAD_DESC. -/
def State.descCheck (s : State) (n : Nat) (d : List Word) : Nat :=
  if descLink d then
    if (descWord d 2).toNat % 32 ≠ 0 ∨ ¬ inRange (descSrc d) 32 0x20000000 gsramEnd then 5
    else if n ≥ 8 ∧ overlaps (descSrc d) 32 serviceBank gsramEnd then 4 else 0
  else
    have req := descReq d
    have bound := (List.range 16).any (fun k => k != n && s.fld (Reg.DMA_CH_STAT k) 21 16 == req &&
      s.chanState k != 0 && s.chanState k != 5)
    have srcN := descSpan (getBit (descWord d 0) 27) d
    have dstN := descSpan (getBit (descWord d 0) 26) d
    have image : Bool := match s.program with
      | none => false
      | some p => overlaps (descSrc d) srcN (s.rd Reg.PRG_IMAGE_BASE).toNat
          ((s.rd Reg.PRG_IMAGE_BASE).toNat + progImageSize p)
    if descBurst d > 5 ∨ (48 ≤ req ∧ req ≤ 62) ∨ descSrc d % 4 ≠ 0 ∨ descDst d % 4 ≠ 0 ∨
        descLength d % 4 ≠ 0 ∨ descLength d < 4 ∨ (req ≠ 63 ∧ bound) ∨
        (image ∧ descLength d > 4096) then 5
    else if n ≥ 8 then
      have buf := (s.rd (Reg.DMA_CH_BUF_BASE n)).toNat
      have own := inRange (descDst d) dstN buf (buf + 0x1000 * s.fld (Reg.DMA_CH_BUF_SIZE n) 8 0)
      have toRegs := inRange (descDst d) dstN 0x40000000 0x401A0000
      have mapRead := inRange (descSrc d) srcN allocPage (allocPage + 0x1000)
      have service := (overlaps (descSrc d) srcN serviceBank gsramEnd && !mapRead) ||
        overlaps (descDst d) dstN serviceBank gsramEnd
      if (¬ own ∧ ¬ toRegs) ∨ service ∨ (req ≠ 63 ∧ lineFirmwareOnly req) then 4 else 0
    else 0

/-- The slot of a descriptor address inside the Reel. -/
def State.reelSlot (s : State) (n a : Nat) : Option Nat :=
  have b := (s.rd (Reg.DMA_CH_REEL_BASE n)).toNat
  if b ≤ a ∧ (a - b) % 32 = 0 ∧ (a - b) / 32 < s.reelSlots n then some ((a - b) / 32) else none

/-- Fetch the next descriptor and follow links, at most five of them (R387, R388, R396). A descriptor
without OWN starves the channel; a fetch outside GSRAM or over a byte in parity error is a bus error. -/
def State.dmaFetch (s : State) (n : Nat) : Nat → State
  | 0 => s
  | fuel + 1 =>
    have c := { s.chan n with kick := false }
    have a := c.next
    if ¬ inRange a 32 0x20000000 gsramEnd ∨ s.dma.badBytes.any (fun b => decide (a ≤ b) && decide (b < a + 32))
    then (s.setChan n { c with desc := none }).dmaBusError n a false false
    else
      have d := (List.range 8).map (fun i => s.getWord (a + 4 * i))
      have slot := s.reelSlot n a
      have c1 := { c with desc := some d, descAddr := a, outside := slot.isNone, moved := 0,
                          stallUs := 0, stalled := false, issued := false }
      have s1 := match slot with
        | some i => s.setFld (Reg.DMA_CH_INDEX n) 11 0 i
        | none => s
      if ¬ descOwn d then ((s1.setChan n { c with desc := none }).setChanState n 2)
      else if c.abort then (s1.setChan n c1).dmaStop n 6
      else
        have chk := s1.descCheck n d
        if chk ≠ 0 then ((s1.setChan n c1).dmaStop n chk).flag Reg.DMA_STAT Reg.DMA_STAT_COUNT 0
        else if descLink d then
          if descSrc d = a ∨ c.links + 1 > 4 then
            ((((s1.setChan n { c1 with links := 0 }).dmaStop n 3).flag Reg.DMA_STAT
              Reg.DMA_STAT_COUNT 2)).strobe Src.DMA_LINK_LOOP (s1.fld (Reg.DMA_CH_INDEX n) 11 0 * 16 + n)
          else
            (s1.setChan n { c with next := descSrc d, links := c.links + 1, desc := none }).dmaFetch n fuel
        else
          ((s1.setChan n { c1 with links := 0 }).setFld (Reg.DMA_CH_STAT n) 21 16 (descReq d)).setChanState n 1

/-- The fetch with enough fuel for the five links R396 allows. -/
def State.dmaFetchNext (s : State) (n : Nat) : State := s.dmaFetch n 6

/-- Host software and programs may not write the registers of channels 0 to 7 (R386's section). -/
def chanDenied (n : Nat) (who : Requester) : Bool := n < 8 && who != .firmware

/-- CHn_CTRL.ALLOC (R379): whole pages, ascending, first fit; the Reel, the queue and the buffer stand
in that order. Refused with ALLOC_FAIL when it does not fit, while an allocation is held, or while the
channel is not OFF. -/
def State.dmaAlloc (s : State) (n : Nat) : State :=
  have reel := pageUp (32 * s.reelSlots n) / 0x1000
  have cq := pageUp (16 * s.cqSlots n) / 0x1000
  have pages := reel + cq + s.fld (Reg.DMA_CH_BUF_SIZE n) 8 0
  have free := fun (p : Nat) =>
    s.dma.allocs.all (fun a => !(overlaps p pages a.2.1 (a.2.1 + a.2.2)))
  have spot := (List.range 64).find? (fun p => decide (p + pages ≤ 64) && free p)
  if s.chanState n ≠ 0 ∨ s.bit (Reg.DMA_CH_STAT n) 22 ∨ n < 8 then s.setBit (Reg.DMA_CH_STAT n) 23 true
  else
    match spot with
    | none => s.setBit (Reg.DMA_CH_STAT n) 23 true
    | some p =>
      have base := userPool + 0x1000 * p
      have s1 := { s with dma := { s.dma with allocs := s.dma.allocs ++ [(n, p, pages)] } }
      have s2 := (s1.wr (Reg.DMA_CH_REEL_BASE n) (BitVec.ofNat 32 base)).wr (Reg.DMA_CH_CQ_BASE n)
        (BitVec.ofNat 32 (base + 0x1000 * reel))
      have s3 := s2.wr (Reg.DMA_CH_BUF_BASE n) (BitVec.ofNat 32 (base + 0x1000 * (reel + cq)))
      ((s3.setBit (Reg.DMA_CH_STAT n) 23 false).setBit (Reg.DMA_CH_STAT n) 22 true).rewriteAllocMap

/-- CHn_CTRL.FREE (R379): releases the allocation of a channel that is OFF. -/
def State.dmaFree (s : State) (n : Nat) : State :=
  if s.chanState n = 0 ∧ s.bit (Reg.DMA_CH_STAT n) 22 then
    have s1 := { s with dma := { s.dma with allocs := s.dma.allocs.filter (fun a => a.1 != n) } }
    have s2 := ((s1.wr (Reg.DMA_CH_REEL_BASE n) 0).wr (Reg.DMA_CH_CQ_BASE n) 0).wr (Reg.DMA_CH_BUF_BASE n) 0
    (s2.setBit (Reg.DMA_CH_STAT n) 22 false).rewriteAllocMap
  else s

/-- CHn_CTRL.START (R387, R389): from OFF at index 0, from STOPPED at the same descriptor; the request
count clears, PHASE starts at 1 and the completions count anew. -/
def State.dmaStart (s : State) (n : Nat) : State :=
  have st := s.chanState n
  if st ≠ 0 ∧ st ≠ 5 then s
  else
    have c := s.chan n
    have s1 := ((s.setFld (Reg.DMA_CH_STAT n) 15 0 0).setFld (Reg.DMA_CH_STALL n) 23 0 0).setChanState n 1
    have s2 :=
      if st = 0 then
        (((s1.setFld (Reg.DMA_CH_INDEX n) 11 0 0).setFld (Reg.DMA_CH_CQ_HEAD n) 11 0 0).setFld
          (Reg.DMA_CH_CQ_TAIL n) 11 0 0).setChan n
          { next := (s.rd (Reg.DMA_CH_REEL_BASE n)).toNat, kick := c.kick }
      else s1.setChan n { c with next := c.descAddr, requests := 0, phase := true, links := 0,
                                 desc := none, abort := false, issued := false }
    (s2.dmaRecovered n).dmaFetchNext n

/-- CHn_CTRL.KICK (R398): a starved channel fetches again; otherwise the kick is latched. -/
def State.dmaKick (s : State) (n : Nat) : State :=
  if s.chanState n = 2 then s.dmaFetchNext n else s.setChan n { s.chan n with kick := true }

/-- CHn_CTRL.ABORT (R392): the channel stops at the next burst boundary with an ABORTED record; when the
last burst has been issued it completes first and stops at the next descriptor. -/
def State.dmaAbort (s : State) (n : Nat) : State :=
  have st := s.chanState n
  if st = 0 ∨ st = 5 then s
  else if (s.chan n).issued then s.setChan n { s.chan n with abort := true }
  else s.dmaStop n 6

/-- CHn_CTRL.DISABLE (R399): the channel stops at once and goes OFF, without a record. -/
def State.dmaDisable (s : State) (n : Nat) : State :=
  have s1 := (s.setFld (Reg.DMA_CH_STAT n) 21 16 0x3F).setChanState n 0
  (s1.setChan n {}).dmaRecovered n

/-- A control write on one channel: an error response for a host or a program on channels 0 to 7, and
nothing beyond channel 15. -/
def State.dmaControl (s : State) (n : Nat) (who : Requester) (f : State → State) : State :=
  if n ≥ 16 then s
  else if chanDenied n who then s.emit (.errorResponse (Reg.DMA_CH_CTRL n))
  else f s

/-- DMA_ALLOC (R379). -/
def execDmaAlloc (n : Nat) (who : Requester) (s : State) : Host.Outcome State Fault Refusal := s.whenVamp <|
  .next (s.dmaControl n who (fun t => t.dmaAlloc n))

/-- DMA_FREE (R379). -/
def execDmaFree (n : Nat) (who : Requester) (s : State) : Host.Outcome State Fault Refusal := s.whenVamp <|
  .next (s.dmaControl n who (fun t => t.dmaFree n))

/-- DMA_START (R387). -/
def execDmaStart (n : Nat) (who : Requester) (s : State) : Host.Outcome State Fault Refusal := s.whenVamp <|
  .next (s.dmaControl n who (fun t => t.dmaStart n))

/-- DMA_KICK (R398). -/
def execDmaKick (n : Nat) (who : Requester) (s : State) : Host.Outcome State Fault Refusal := s.whenVamp <|
  .next (s.dmaControl n who (fun t => t.dmaKick n))

/-- DMA_ABORT (R392). -/
def execDmaAbort (n : Nat) (who : Requester) (s : State) : Host.Outcome State Fault Refusal := s.whenVamp <|
  .next (s.dmaControl n who (fun t => t.dmaAbort n))

/-- DMA_DISABLE (R399). -/
def execDmaDisable (n : Nat) (who : Requester) (s : State) : Host.Outcome State Fault Refusal := s.whenVamp <|
  .next (s.dmaControl n who (fun t => t.dmaDisable n))

/-- A write to DMA.SWREQ: bit k strobes line 45 + k (R389). -/
def State.dmaSwreq (s : State) (bits : Word) : State :=
  (List.range 3).foldl (fun t k => if getBit bits k then t.dmaRequest (45 + k) else t) s

/-- DMA_SWREQ (R389). -/
def execDmaSwreq (bits : Word) (s : State) : Host.Outcome State Fault Refusal := s.whenVamp <|
  .next (s.dmaSwreq bits)

/-- DMA_REQUEST_STROBE (R389). -/
def execDmaRequestStrobe (line : Nat) (s : State) : Host.Outcome State Fault Refusal := s.whenVamp <|
  .next (if line < 48 then s.dmaRequest line else s)

/-- Complete the descriptor in hand (R395): record, OWN cleared, DMA_DONE with IRQ, and on to the next
descriptor; a full completion queue holds the channel in CQ_FULL before the record. -/
def State.dmaComplete (s : State) (n : Nat) : State :=
  have c := s.chan n
  match c.desc with
  | none => s
  | some d =>
    if c.cqFill ≥ s.cqSlots n then s.setChanState n 4
    else
      have s1 := s.dmaRecord n 0 d (s.dmaWaits d) false
      have s2 := s1.putWord c.descAddr (putBit (descWord d 0) 31 false)
      have index := if c.outside then 0 else s.fld (Reg.DMA_CH_INDEX n) 11 0
      have s3 := if descIrq d then s2.strobe Src.DMA_DONE (index * 16 + n) else s2
      have last := (s.rd (Reg.DMA_CH_REEL_BASE n)).toNat + 32 * (s.reelSlots n - 1)
      have next := if c.descAddr = last then (s.rd (Reg.DMA_CH_REEL_BASE n)).toNat else c.descAddr + 32
      have c3 := s3.chan n
      ((s3.setChan n { c3 with next := next, desc := none, issued := false }).setChanState n 1).dmaFetchNext n

/-- DMA_DESCRIPTOR_COMPLETE (R395): arrival of an issued descriptor is confirmed. -/
def execDmaDescriptorComplete (n : Nat) (s : State) : Host.Outcome State Fault Refusal := s.whenVamp <|
  .next (if n < 16 ∧ (s.chan n).issued then s.dmaComplete n else s)

/-- A write of CHn_CQ_TAIL (R393, R45's rules): frees the records before it, or all when it would move
backwards or past HEAD; a channel in CQ_FULL completes its descriptor. -/
def State.dmaCqTail (s : State) (n v : Nat) : State :=
  have slots := s.cqSlots n
  have h := s.fld (Reg.DMA_CH_CQ_HEAD n) 11 0
  have c := s.chan n
  have left := (h + slots - v % slots) % slots
  have ok : Bool := v < slots ∧ left ≤ c.cqFill
  have fill := if ok then (if left = 0 ∧ v = s.fld (Reg.DMA_CH_CQ_TAIL n) 11 0 then c.cqFill else left) else 0
  have s1 := (s.setFld (Reg.DMA_CH_CQ_TAIL n) 11 0 (if ok then v else h)).setChan n { c with cqFill := fill }
  if s.chanState n = 4 ∧ fill < slots then s1.dmaComplete n else s1

/-- DMA_CQ_TAIL_WRITE (R393). -/
def execDmaCqTailWrite (n : Nat) (value : Word) (who : Requester) (s : State) :
    Host.Outcome State Fault Refusal := s.whenVamp <|
  .next (s.dmaControl n who (fun t => t.dmaCqTail n (getBits value 11 0)))

/-- DMA_STALL_LIMIT (R391): a stall reaches STALL_LIMIT; DMA_STALL strobes once for the descriptor. -/
def execDmaStallLimit (n : Nat) (s : State) : Host.Outcome State Fault Refusal := s.whenVamp <|
  have c := s.chan n
  if n < 16 ∧ s.chanState n = 3 ∧ ¬ c.stalled then
    have s1 := (s.setChan n { c with stalled := true }).flag Reg.DMA_STAT Reg.DMA_STAT_COUNT 1
    .next (s1.strobe Src.DMA_STALL (s.fld (Reg.DMA_CH_STAT n) 21 16 * 2 ^ 16 +
      s.fld (Reg.DMA_CH_INDEX n) 11 0 * 16 + n))
  else .next s

/-- DMA_BUS_ERROR (R397). -/
def execDmaBusError (n : Nat) (addr : Word) (write noResponse : Bool) (s : State) :
    Host.Outcome State Fault Refusal := s.whenVamp <|
  .next (if n < 16 then s.dmaBusError n addr.toNat write noResponse else s)

/-- DMA_FIRMWARE_RESTART (R397): firmware starts channels 0 to 7 that the bus error stopped; each repeats
its interrupted descriptor. -/
def execDmaFirmwareRestart (s : State) : Host.Outcome State Fault Refusal := s.whenVamp <|
  .next ((s.dma.recovering.filter (· < 8)).foldl (fun t n => t.dmaStart n) s)

end Sys2Proof.Machine
end

