-- ==== Sys2Proof/Machine/Sfu.lean ====
section
/-!
DEFINITION. The cluster's special-function unit (R134): divide and sqrt are the correctly rounded operations of Float; exp, log
and asinh lie within 2 ulp of the exact value. Each is an exact reference in fixed point, rounded to binary32, moved by a
free number of places, at most two (assumption 2).
-/

namespace Sys2Proof.Machine

/-- The reference's unit: 1 is 2^96. -/
def fixOne : Int := 2 ^ 96

/-- ln 2 in 2^-96. -/
def fixLn2 : Int := 54916777467707473351141471128

/-- A finite binary32 in 2^-96, rounded down. -/
def fixOf (w : Word) : Int := f32FloorScaled w (2 ^ 96) 1

/-- e to a fixed-point power, by its series to the term in x^40. -/
def fixExp (x : Int) : Int :=
  ((List.range 40).reverse).foldl (fun acc (n : Nat) => fixOne + x * acc / (fixOne * ((n : Int) + 1))) fixOne

/-- The artanh of a fixed-point value below 1/2, by its series to the term in x^79. -/
def fixArtanh (x : Int) : Int :=
  have x2 := x * x / fixOne
  ((List.range 40).reverse).foldl (fun acc (n : Nat) => x / (2 * (n : Int) + 1) + x2 * acc / fixOne) 0

/-- The natural logarithm of m * 2^e for a positive m. -/
def fixLog (m : Nat) (e : Int) : Int :=
  have n := Nat.log2 m
  have y : Int := (m * 2 ^ 96 / 2 ^ n : Nat)
  have big : Bool := decide (3 * fixOne < 2 * y)
  have z := if big then y / 2 else y
  2 * fixArtanh ((z - fixOne) * fixOne / (z + fixOne)) + (e + n + (if big then 1 else 0)) * fixLn2

/-- exp of a binary32, rounded. -/
def refExp (w : Word) : Word :=
  match f32Unpack w with
  | .nan => f32NaN
  | .inf s => if s then 0 else f32Inf false
  | .fin s _ _ =>
    if f32Lt (f32OfInteger 128) (f32Abs w) then (if s then 0 else f32Inf false)
    else
      have x := fixOf w
      have n := x / fixLn2
      f32Round false (fixExp (x - n * fixLn2)).toNat (n - 96) true

/-- The natural logarithm of a binary32, rounded: of a negative value NaN, of zero minus infinity. -/
def refLog (w : Word) : Word :=
  match f32Unpack w with
  | .nan => f32NaN
  | .inf s => if s then f32NaN else f32Inf false
  | .fin s m e =>
    if m = 0 then f32Inf true
    else if s then f32NaN
    else
      have l := fixLog m e
      f32Round (decide (l < 0)) l.natAbs (-96) (l != 0)

/-- asinh of a binary32, rounded: below 2^-13 in magnitude the value itself. -/
def refAsinh (w : Word) : Word :=
  match f32Unpack w with
  | .nan => f32NaN
  | .inf s => f32Inf s
  | .fin s _ _ =>
    if getBits w 30 23 < 114 then w
    else
      have x := (fixOf (f32Abs w)).toNat
      have l := fixLog (x + Nat.sqrt (x * x + 2 ^ 192)) (-96)
      f32Round s l.toNat (-96) true

/-- The unit's result near a reference: a finite one other than 0 moves by at most two places. -/
def sfuNear (move : Nat) (reference : Word) : Word :=
  if f32IsFinite reference && getBits reference 30 0 != 0 then
    BitVec.ofNat 32 (reference.toNat + move % 5 - 2)
  else reference

/-- exp, log and asinh as the unit computes them (R134, assumption 2). -/
def sfuExp (x : Word) : Word := sfuNear (Config.sfuMove .exp x) (refExp x)
def sfuLog (x : Word) : Word := sfuNear (Config.sfuMove .log x) (refLog x)
def sfuAsinh (x : Word) : Word := sfuNear (Config.sfuMove .asinh x) (refAsinh x)

end Sys2Proof.Machine
end

