-- ==== Sys2Proof/Machine/Sweep.lean ====
section
/-!
DEFINITION. Coherent sweeps (R94 to R111, R506): the edges the scheduler avoids, the sample instant, the
launch, the record and what closing it writes; the sweep rate (R112 to R114); the capture and readout of
a burst (R120 to R125). Edge times are counted in 125 ps, the tick of the PWM block.
-/

namespace Sys2Proof.Machine

/-! Edges. -/

/-- What the scheduler knows of the edges ahead: nothing, every point, or a sorted list. -/
inductive Edges where
  | noInfo
  | everywhere
  | at (lo : Nat) (times : List Nat)
deriving DecidableEq, Repr

/-- The logged edges of the pulse of channel c and its complement in a period that begins at a time, 125 ps: where both halves
commute one entry at the middle of each dead time, else those of a pin that turns both ways (R203, R204). -/
def State.edgeTicks (s : State) (c start : Nat) : List Nat :=
  have p := s.pulse c
  have k := s.prescale (s.tbOf c)
  have evs := s.riseEvents c (start + p.1 * k) ++ s.fallEvents c (start + p.2 * k)
  have turns := fun (ch : Nat) (active : Bool) => evs.any (fun e => e.chan == ch && (match e.move with
    | .pin a _ => a == active
    | _ => false))
  evs.filterMap (fun e =>
    if !s.power e.chan then none
    else match e.move with
      | .commute _ => some e.tick
      | .pin _ counts => if counts && turns e.chan true && turns e.chan false then some e.tick else none
      | _ => none)

/-- Channel c makes edges, if each period repeats the current one. -/
def State.makesEdges (s : State) (c : Nat) : Bool :=
  (s.pwmChan c).live && !s.complement c && decide (s.periodOf (s.tbOf c) * s.prescale (s.tbOf c) ≠ 0) &&
    !(s.edgeTicks c 0).isEmpty

/-- The edges that one PWM channel makes in the periods that touch an interval and in two on either side, if each period
repeats the current one (R95). -/
def State.chanEdges (s : State) (c lo hi : Nat) : List Nat :=
  if !s.makesEdges c then []
  else
    have per := s.periodOf (s.tbOf c) * s.prescale (s.tbOf c)
    have start := (s.pwmChan c).start
    have first := start + (lo - start) / per * per - 2 * per
    (List.range ((hi - lo) / per + 6)).flatMap (fun i => s.edgeTicks c (first + i * per))

/-- The offsets from its origin, ns, of the edges that a request describes within its own cycle (R230). -/
def EdgePattern.offsets (p : EdgePattern) (cycle : Nat) : List Nat :=
  have reps := if p.period = 0 then 1 else cycle / (10 * p.period) + 1
  (List.range reps).flatMap (fun k => p.edges.filterMap (fun e =>
    have off := 10 * (p.start + k * p.period + e)
    if cycle ≠ 0 ∧ cycle ≤ off then none else some off))

/-- The edges that a request's pattern makes in the cycles that touch an interval and in two on either side, shifted forward
by whole cycles, never backward (R95). -/
def EdgePattern.times (p : EdgePattern) (cycle lo hi : Nat) : List Nat :=
  have c0 := if cycle = 0 then 0 else (lo / 8 - p.edgeNs) / cycle - 2
  have n := if cycle = 0 then 1 else (hi - lo) / 8 / cycle + 6
  (List.range n).flatMap (fun i => (p.offsets cycle).map (fun off => 8 * (p.edgeNs + (c0 + i) * cycle + off)))

/-- The edges of the search (R95, R99), in 125 ps. On a direct string no window reaches back beyond the origin of the latest
request, from which the edges are known (DESIGN CHOICE, assumption 232). -/
def State.edgesAhead (s : State) (lo hi : Nat) : Edges :=
  if s.converter then
    if s.rd Reg.PWM_EDGE_BASE = 0 then .noInfo
    else .at 0 (((List.range 16).flatMap (fun c => s.chanEdges c lo hi)).mergeSort)
  else
    match s.pcs.pattern, s.pcs.lastEdge with
    | some p, some t =>
      if s.pcs.valid < 2 ∨ s.tim.chain.total > t + 2000000 then .noInfo
      else if p.period = 0xFFFF then .everywhere
      else .at (8 * p.edgeNs) ((p.times (s.rd Reg.PCS_CYCLE).toNat lo hi).mergeSort)
    | _, _ => .noInfo

/-! The instant. -/

/-- 300 ns in 125 ps. -/
def quietMargin : Nat := 2400

/-- Round down to a TIME cycle of 4 ns. -/
def toCycle (t : Nat) : Nat := t / 32 * 32

/-- The quiet windows between a lower bound and sorted edges; the last one has no end. -/
def quietWindows : Nat → List Nat → List (Nat × Option Nat)
  | lo, [] => [(lo, none)]
  | lo, e :: rest =>
    have more := quietWindows (e + quietMargin) rest
    if lo + quietMargin ≤ e then (lo, some (e - quietMargin)) :: more else more

/-- The instant within a quiet window for the search interval a to b (R96). -/
def inWindow (a b : Nat) : Nat × Option Nat → Nat
  | (lo, none) => max a (min b lo)
  | (lo, some hi) =>
    have mid := toCycle ((lo + hi) / 2)
    if b < mid then b else if mid < a then a else mid

/-- The distance from a point to the nearest of some edges; none without edges. -/
def clearance (t : Nat) (edges : List Nat) : Option Nat :=
  edges.foldl (fun m e =>
    have d := if e ≤ t then t - e else e - t
    match m with
    | none => some d
    | some v => some (min v d)) none

/-- The point of the interval farthest from any edge, the earliest of several (R97), rounded down to a TIME cycle as R96 does
(DESIGN CHOICE, assumption 231). -/
def farthest (a b : Nat) (edges : List Nat) : Nat :=
  have mids := (edges.zip edges.tail).map (fun p => toCycle ((p.1 + p.2) / 2))
  have pts := a :: (mids.filter (fun m => a ≤ m ∧ m ≤ b) ++ [b])
  (pts.foldl (fun (best : Nat × Nat) t =>
    have d := (clearance t edges).getD 0
    if best.2 < d then (t, d) else best) (a, (clearance a edges).getD 0)).1

/-- The instant for a search from a to b ns, and its NOISY cause (R96, R97, R99). -/
def State.chooseInstant (s : State) (a b : Nat) : Nat × Nat :=
  match s.edgesAhead (8 * a - 4 * 80000) (8 * b + 4 * 80000) with
  | .noInfo => (a, 3)
  | .everywhere => (a, 1)
  | .at lo times =>
    if times.isEmpty then (a, 0)
    else
      have w := (quietWindows lo times).find? (fun (p : Nat × Option Nat) =>
        p.1 ≤ 8 * b && (match p.2 with
          | none => true
          | some hi => decide (8 * a ≤ hi)))
      match w with
      | some p => (inWindow (8 * a) (8 * b) p / 8, 0)
      | none => (farthest (8 * a) (8 * b) times / 8, 1)

/-- A fix for an instant: F is its distance past the 160 ns grid edge at or before t - D (R100). -/
def State.fixAt (s : State) (t cause : Nat) : Fix :=
  { instant := t, f := (t - s.sampleDelay) % 160, cause := cause, d := s.sampleDelay }

/-- The cause of R99 at an instant that is not searched for, a burst point. -/
def State.blindCause (s : State) (t : Nat) : Nat := if s.edgesAhead (8 * t) (8 * t) = .noInfo then 3 else 0

/-- SWEEP_INSTANT_FIX (R94 to R100): the next instant is fixed, once; during a capture it is a burst point. A new grid that
waits for the close of a record waits with its first instant (R113). -/
def execSweepInstantFix (s : State) : Host.Outcome State Fault Refusal := s.whenVamp <|
  if !s.chainOn || s.tth.enumerating || s.swp.rebase || s.swp.fix.any (fun f => decide (s.tim.chain.total < f.instant)) then
    .next s
  else
    match s.burstState == 3, s.swp.burst with
    | true, some b =>
      have t := nextBurstPoint b (s.swp.lastInstant.getD (b.p0.getD 0))
      .next { s with swp := { s.swp with fix := some (s.fixAt t (s.blindCause t)), nominal := t } }
    | _, _ =>
      have a := s.nextNominal
      have p := s.chooseInstant a (a + s.fld Reg.SWP_CONFIG 7 0 * 1000)
      .next { s with swp := { s.swp with fix := some (s.fixAt p.1 p.2), nominal := a } }

/-! Launch and instant. -/

/-- All inputs of a sample: cells, stack, temperatures and aux. -/
def allInputs : Nat := 0x0F

/-- SLOT of a train in symbol times (R76): the 58-symbol reply plus 6. -/
def trainSlot : Nat := 64

/-- Nodes read through a port, nearest first. -/
def State.trainOf (s : State) (port : Nat) : List Nat :=
  have l := s.nodeList.filter (fun n => s.nodeB n == (port == 1))
  if port = 0 then l else l.reverse

/-- The READ_SAMPLES train of a port, if it has nodes (R76). -/
def State.sendTrain (s : State) (port id : Nat) : State :=
  match s.trainOf port with
  | [] => s
  | n :: rest =>
    s.sendFrom port 0x3F 4 (bytesLE 2 id ++ bytesLE 1 n ++ bytesLE 1 ((n :: rest).getLastD n) ++
      bytesLE 2 (s.fld Reg.SWP_CONFIG 15 8) ++ bytesLE 1 trainSlot ++ bytesLE 1 allInputs)

/-- SAMPLE_AT_LAUNCH (R67, R76, R100): with no reply outstanding, SAMPLE_AT leaves both ports with the DELAY_NS D + F of the
fix, then the trains. -/
def execSampleAtLaunch (s : State) : Host.Outcome State Fault Refusal := s.whenVamp <|
  match s.swp.fix with
  | none => .next s
  | some f =>
    if s.replyDue then .next s
    else
      have id := s.swp.nextId
      have s1 := s.sendBoth 3 (bytesLE 2 id ++ bytesLE 2 (f.d + f.f) ++ bytesLE 1 allInputs ++ [0])
      .next { (s1.sendTrain 0 id).sendTrain 1 id with swp := { s.swp with fix := none, launched := some f, reading := none } }

/-- SAMPLE_INSTANT (R102): the current that the bracketing conversions gave, none when one of them is not good or missing. The
record opens; a burst aborts on an invalid current (R121). -/
def execSampleInstant (s : State) : Host.Outcome State Fault Refusal := s.whenVamp <|
  match s.swp.launched with
  | none => .next s
  | some f =>
    have current := s.swp.reading.bind id
    have i := current.getD s.swp.current
    have burst := s.burstState == 3
    have r : OpenRecord := { id := s.swp.nextId, instant := f.instant, cause := f.cause, current := i,
                             invalid := current.isNone, burst := burst,
                             step := s.rateStep, changed := s.swp.rateChanged }
    have s1 : State := { s with swp := { s.swp with
      launched := none, reading := none, opened := some r, current := i, rateChanged := false,
      nextId := (s.swp.nextId + 1) % 0x10000,
      nominal := if s.swp.rebase then s.swp.nominal else s.swp.nominal + s.sweepPeriod } }
    have s2 := ((s1.wr Reg.SWP_LAST_NS (BitVec.ofNat 32 (f.instant % 1000000000))).wr Reg.SWP_LAST_S
      (BitVec.ofNat 32 (f.instant / 1000000000))).wr Reg.SWP_LAST_CURRENT i
    have s3 := if s2.fld Reg.SWP_RATE 15 0 = 0 then s2.setFld Reg.SWP_RATE 15 0 (1000 / stepPeriod s2.rateStep) else s2
    .next (if current.isNone then s3.burstAbort 5 else s3)

/-! Node blocks. -/

/-- The node block of a READ_SAMPLES reply (Tables 2.10 and 3.3): LATE is NODE_FLAGS bit 3. -/
def nodeBlock (n port attempts : Nat) (p : Bytes) : Bytes :=
  have flags := fieldLE p 4 1
  have late := flags / 8 % 2
  bytesLE 1 n ++ bytesLE 1 late ++ bytesLE 1 flags ++ bytesLE 1 (fieldLE p 5 1) ++ slice p 2 2 ++ slice p 38 2 ++
    slice p 6 32 ++ slice p 40 8 ++ slice p 48 4 ++ bytesLE 1 (128 * port + attempts % 8) ++ zeros 11

/-- The block of a node that was not read: 2 MISSING or 3 ABSENT, with values 0 (R108) and READ as for any block. -/
def emptyBlock (n code port attempts : Nat) : Bytes :=
  bytesLE 1 n ++ bytesLE 1 code ++ zeros 50 ++ bytesLE 1 (128 * port + attempts % 8) ++ zeros 11

/-- The block of a node in the record at its close. -/
def State.blockOf (s : State) (r : OpenRecord) (n : Nat) : Bytes :=
  have code := if s.nodeState n = 1 then 2 else 3
  match r.blocks.find? (fun b => b.1 == n) with
  | some b => if code = 2 then b.2 else emptyBlock n 3 (b2n (s.nodeB n)) 0
  | none => emptyBlock n code (b2n (s.nodeB n)) (tget 1 r.attempts n)

/-- Every node in use has a VALID or LATE entry (R103). -/
def State.recordFull (s : State) (r : OpenRecord) : Bool :=
  s.activeNodes.all (fun n => r.blocks.any (fun b => b.1 == n))

/-- Fields of a node block. -/
def blockNode (b : Bytes) : Nat := fieldLE b 0 1
def blockCode (b : Bytes) : Nat := fieldLE b 1 1
def blockCellValid (b : Bytes) : Nat := fieldLE b 4 2
/-- STACK_V in 100 µV. -/
def blockStack (b : Bytes) : Nat := 20 * fieldLE b 6 2
/-- Voltage of cell input m (from 1), 100 µV. -/
def blockCell (b : Bytes) (m : Nat) : Nat := fieldLE b (8 + 2 * (m - 1)) 2
/-- Temperature input i (from 1), 0.01 °C. -/
def blockTemp (b : Bytes) (i : Nat) : Int := signed 16 (fieldLE b (40 + 2 * (i - 1)) 2)

/-! Closing a record. -/

/-- The logged edges, 125 ps, as they stand around an instant (R204). -/
def State.loggedEdges (s : State) (t : Nat) : List Nat :=
  have base := (s.rd Reg.PWM_EDGE_BASE).toNat
  (List.range 256).filterMap (fun i =>
    have e := s.getBytes (base + 8 * i) 8
    if e.all (· == 0) then none
    else
      have sec := t / 1000000000 / 0x10000 * 0x10000 + fieldLE e 4 2
      some (8 * (sec * 1000000000 + fieldLE e 0 4)))

/-- The actual edges near an instant, 125 ps (R98, R99): the edge log, of which an idle converter keeps only what lies within
65.533 µs; or the markers of the request whose control cycle holds the instant. -/
def State.actualEdges (s : State) (t : Nat) : Edges :=
  if s.converter then
    if s.rd Reg.PWM_EDGE_BASE = 0 then .noInfo
    else if (List.range 16).any s.makesEdges then .at 0 (s.loggedEdges t)
    else .at 0 ((s.loggedEdges t).filter (fun e => decide (8 * t ≤ e + 8 * 0xFFFD) && decide (e ≤ 8 * t + 8 * 0xFFFD)))
  else
    have cycle := (s.rd Reg.PCS_CYCLE).toNat
    match (s.pcs.pattern.toList ++ s.pcs.before).find? (fun q => decide (q.edgeNs ≤ t)) with
    | none => .noInfo
    | some q =>
      if cycle ≠ 0 ∧ q.edgeNs + cycle ≤ t then .noInfo
      else if q.period = 0xFFFF then .everywhere
      else .at 0 ((q.offsets cycle).map (fun off => 8 * (q.edgeNs + off)))

/-- CLEARANCE_NS of an instant (Table 3.2). -/
def State.clearanceNs (s : State) (t cause : Nat) : Nat :=
  if cause = 3 then 0xFFFF
  else match s.actualEdges t with
    | .noInfo => 0xFFFF
    | .everywhere => 0
    | .at _ times =>
      match clearance (8 * t) times with
      | none => 0xFFFE
      | some d => min 0xFFFD (d / 8)

/-- What a record says as it closes. -/
structure Closing where
  blocks : List Bytes
  cause : Nat
  clearance : Nat
  flags : Nat
  notValid : List Nat
  short : Option Nat
  periodUs : Nat
deriving DecidableEq, Repr

/-- Port assignments by node. -/
def State.routes (s : State) : List (Nat × Nat) := s.nodeList.map (fun n => (n, b2n (s.nodeB n)))

/-- Form the close of a record (R107 to R110, R506). -/
def State.closing (s : State) (r : OpenRecord) : Closing :=
  have blocks := s.nodeList.map (s.blockOf r)
  have clr := s.clearanceNs r.instant r.cause
  have cause := if r.cause ≠ 0 then r.cause else if clr < 300 then 2 else 0
  have notValid := (blocks.filter (fun b => blockCode b != 0)).map blockNode
  have short := (blocks.find? (fun b => blockCode b == 0 &&
    Nat.land (s.node (blockNode b)).cellsUsed (blockCellValid b) != (s.node (blockNode b)).cellsUsed)).map blockNode
  have partialRec := !notValid.isEmpty || short.isSome
  have routeChanged := s.swp.lastInstant.isSome && s.swp.prevRoute != s.routes
  { blocks := blocks, cause := cause, clearance := clr, notValid := notValid, short := short,
    periodUs := match s.swp.lastInstant with
      | none => 0
      | some t => (r.instant - t) / 1000
    flags := b2n (cause != 0) + 2 * b2n partialRec + 4 * b2n (r.step != 0) + 8 * b2n r.burst +
      16 * b2n r.invalid + 32 * b2n r.changed + 64 * b2n routeChanged +
      128 * b2n (blocks.any (fun b => blockCode b == 1)) }

/-- The 48-byte header (Table 3.2). -/
def State.recordHeader (s : State) (r : OpenRecord) (c : Closing) : Bytes :=
  have valid := (c.blocks.filter (fun b => blockCode b == 0)).foldl (fun a b => a + 2 ^ (blockNode b - 1)) 0
  bytesLE 2 r.id ++ bytesLE 2 c.flags ++ bytesLE 1 1 ++ bytesLE 1 s.nodeCount ++ bytesLE 2 s.cellCount ++
    bytesLE 4 (r.instant % 1000000000) ++ bytesLE 4 (r.instant / 1000000000) ++ bytesLE 4 c.periodUs ++
    bytesLE 4 r.current.toNat ++ bytesLE 2 c.clearance ++ bytesLE 1 c.cause ++ bytesLE 1 r.step ++
    bytesLE 6 valid ++ bytesLE 2 (if r.burst then s.fld Reg.SWP_BURST_ID 15 0 else 0) ++
    bytesLE 2 ((s.tim.chain.total - r.instant) / 1000) ++ zeros 10

/-- Strobes and counters of a closed record (R110, R127). -/
def State.recordEvents (s : State) (r : OpenRecord) (c : Closing) : State :=
  have s1 := if c.cause ≠ 0 then (s.flag Reg.SWP_STAT Reg.SWP_STAT_COUNT 0).incFld Reg.SWP_COUNTS 31 16 else s
  have isPartial : Bool := c.flags / 2 % 2 = 1
  have s2 := if isPartial then (s1.flag Reg.SWP_STAT Reg.SWP_STAT_COUNT 1).incFld Reg.SWP_COUNTS 15 0 else s1
  have s3 := if c.flags / 128 % 2 = 1 then s2.flag Reg.SWP_STAT Reg.SWP_STAT_COUNT 2 else s2
  have s4 := if r.invalid then s3.flag Reg.SWP_STAT Reg.SWP_STAT_COUNT 3 else s3
  have s5 := s4.strobe Src.SWP_RECORD (c.flags % 16 * 2 ^ 16 + r.id)
  have s6 := if c.cause ≠ 0 then s5.strobe Src.SWP_NOISY (c.cause * 2 ^ 16 + c.clearance) else s5
  if isPartial then
    match c.notValid with
    | n :: _ =>
      have code := (c.blocks.find? (fun b => blockNode b == n)).elim 0 blockCode
      s6.strobe Src.SWP_PARTIAL (code * 2 ^ 16 + n * 2 ^ 8 + c.notValid.length)
    | [] => s6.strobe Src.SWP_PARTIAL (c.short.getD 0 * 2 ^ 8)
  else s6

/-- A record closes (R103, R107, R111): ring, registers, events, and delivery to the array and to safety
channel 1. What the boundary changes is applied by the callers that know it. -/
def State.writeRecord (s : State) (r : OpenRecord) : State :=
  have c := s.closing r
  have head := s.recordHeader r c
  have slot := s.fld Reg.SWP_RING_HEAD 5 0
  have s1 := s.putBytes ((s.rd Reg.SWP_RING_BASE).toNat + 4096 * slot) (head ++ c.blocks.flatten)
  have s2 := s1.setFld Reg.SWP_RING_HEAD 5 0 (slot + 1)
  have s3 := (s2.wr Reg.SWP_LAST (BitVec.ofNat 32 (c.notValid.length * 2 ^ 16 + r.id))).setFld
    Reg.SWP_CLEARANCE 15 0 c.clearance
  have burst := s3.swp.burst.map (fun b => if r.burst then
    { b with absent := b.absent ++ ((c.blocks.filter (fun k => blockCode k == 3)).map blockNode) } else b)
  have s4 : State := { s3 with
    swp := { s3.swp with opened := none, lastInstant := some r.instant, prevRoute := s3.routes,
                          record := some (head, c.blocks), burst := burst },
    saf := { s3.saf with records := s3.saf.records ++ [c.blocks] } }
  s4.recordEvents r c

/-! Changes at a sweep boundary (R79, R83, R86). -/

/-- Route some nodes through port B: registers, and TTH_REROUTE when a node's port changes (R86, R87). -/
def State.applyRoute (s : State) (viaB : List Nat) : State :=
  have old := s.routes
  have s1 := s.nodeList.foldl (fun t n => t.setBit (Reg.TTH_NODE (n - 1)) 0 (viaB.contains n)) s
  have mask := viaB.foldl (fun a n => if 1 ≤ n ∧ n ≤ 48 then Nat.lor a (2 ^ (n - 1)) else a) 0
  have s2 := (s1.wr Reg.TTH_ROUTE0 (BitVec.ofNat 32 mask)).wr Reg.TTH_ROUTE1 (BitVec.ofNat 32 (mask / 2 ^ 32))
  if s2.routes = old then s2
  else
    have b := (s2.nodeList.filter s2.nodeB).length
    s2.strobe Src.TTH_REROUTE (b * 2 ^ 8 + (s2.nodeList.length - b))

/-- Write a node's COMP register and show it (R79). -/
def State.applyComp (s : State) (n ca cb : Nat) : State :=
  (s.wr (Reg.TTH_COMP (n - 1)) (BitVec.ofNat 32 (cb * 2 ^ 16 + ca))).sendNode n 9
    (bytesLE 1 0 ++ bytesLE 1 1 ++ bytesLE 2 ca ++ bytesLE 2 cb)

/-- Pending D, compensations and routing take effect at a sweep boundary. -/
def State.chainBoundary (s : State) : State :=
  have s1 := match s.tth.pendingD with
    | none => s
    | some d => (s.setFld Reg.TTH_SAMPLE_DELAY 15 0 d.1).setFld Reg.TTH_SAMPLE_DELAY 23 16 d.2
  have s2 := s1.tth.pendingComp.foldl (fun t (p : Nat × Nat × Nat) => t.applyComp p.1 p.2.1 p.2.2) s1
  have route := s2.tth.pendingRoute
  have s3 : State := { s2 with tth := { s2.tth with pendingD := none, pendingComp := [], pendingRoute := none } }
  match route with
  | none => s3
  | some b => s3.applyRoute b

/-! Deadline. -/

/-- The expected end of a port's train after the instant, ns (R103). -/
def State.trainEnd (s : State) (port : Nat) : Nat :=
  match s.trainOf port with
  | [] => 0
  | l =>
    have last := l.getLastD 1
    have c := if port = 0 then s.fld (Reg.TTH_COMP (last - 1)) 15 0 else s.fld (Reg.TTH_COMP (last - 1)) 31 16
    s.fld Reg.SWP_CONFIG 15 8 * 1000 + (l.length - 1) * trainSlot * 160 + 58 * 160 + c

/-- The effective deadline after the instant, ns (R103). -/
def State.deadlineNs (s : State) : Nat :=
  max (s.fld Reg.SWP_CONFIG 31 16 * 1000) (max (s.trainEnd 0) (s.trainEnd 1) + 20000)

/-! Rate. -/

/-- Two windows taken together. -/
def CurrentWindow.join (a b : CurrentWindow) : CurrentWindow :=
  { count := a.count + b.count, sum := a.sum + b.sum, sumAbs := a.sumAbs + b.sumAbs }

/-- A window's mean |I| lies below the low-current threshold; unknown counts as not (R112). -/
def State.lowCurrent (s : State) (means : Option (Word × Word)) : Bool :=
  means.any (fun m => f32Lt m.2 (s.rd Reg.SWP_LOW_I))

/-- The abort conditions of R121 that a current window shows. -/
def State.burstCurrents (s : State) : State :=
  match s.swp.burst with
  | none => s
  | some b =>
    if !s.burstRuns then s
    else if f32Lt (s.ratedPart 20) (f32Abs (f32Sub s.mean100ms b.startMean)) then s.burstAbort 2
    else if !s.burstFits then s.burstAbort 3
    else s

/-- A 1 ms window joins the second in hand; a thousand of them end it (R119). -/
def State.secondStep (s : State) (w : CurrentWindow) : State :=
  have sum := s.swp.second.join w
  if s.swp.secondMs + 1 < 1000 then { s with swp := { s.swp with second := sum, secondMs := s.swp.secondMs + 1 } }
  else { s with swp := { s.swp with
    second := {}, secondMs := 0, seconds := ((sum.means 20000000).map (·.1) :: s.swp.seconds).take 5 } }

/-- CURRENT_WINDOW_1MS (R112, R121, R171, R182): the 1 ms window in hand ends; its mean is known if 20,000 conversions fell into
it (DESIGN CHOICE, assumption 229). -/
def execCurrentWindow1ms (s : State) : Host.Outcome State Fault Refusal := s.whenVamp <|
  have w := s.swp.ms
  have means := w.means 20000
  have low := s.lowCurrent means
  have two := s.ratedPart 20
  have charging := match means with
    | none => s.swp.wasCharging
    | some m => f32Le two m.1 || (s.swp.wasCharging && f32Lt (f32Neg two) m.1)
  have s1 : State := { s with
    swp := { s.swp with
      ms := {},
      means := match means with
        | none => s.swp.means
        | some m => (m.1 :: s.swp.means).take 100
      lowMs := if s.burstRuns then s.swp.lowMs else if low then s.swp.lowMs + 1 else 0,
      restSince := if low then some (s.swp.restSince.getD s.monoNs) else none,
      wasCharging := charging },
    est := { s.est with anchorArmed := s.est.anchorArmed || !low } }
  .next (s1.secondStep w).burstCurrents

/-- The last instant: of the record still open, else of the last one closed. -/
def State.latestInstant (s : State) : Nat :=
  match s.swp.opened with
  | some r => r.instant
  | none => s.swp.lastInstant.getD 0

/-- RATE_STEP_DOWN (R112, R114): 5 s below the threshold; the grid re-bases on the last instant, the one that is launched
already included. -/
def execRateStepDown (s : State) : Host.Outcome State Fault Refusal := s.whenVamp <|
  if s.swp.lowMs < 5000 ∨ s.burstRuns ∨ s.fld Reg.SWP_RATE 26 24 ≤ s.rateStep ∨ 4 ≤ s.rateStep then .next s
  else
    have s1 := s.setRate (s.rateStep + 1) 0
    have base := match s1.swp.launched with
      | some f => f.instant
      | none => s1.latestInstant + s1.sweepPeriod
    .next { s1 with swp := { s1.swp with nominal := base, fix := none, rebase := false } }

/-- CURRENT_WINDOW_100US (R113): at reduced rate a mean at or above the threshold, or unknown, returns the rate to step 0. -/
def execCurrentWindow100us (s : State) : Host.Outcome State Fault Refusal := s.whenVamp <|
  have low := s.lowCurrent (s.swp.hundred.means 2000)
  have s1 : State := { s with swp := { s.swp with hundred := {} } }
  .next (if s1.burstRuns ∨ low then s1 else s1.fullRateFor 1)

/-! Burst capture and readout. -/

/-- BURST_CAPTURE_LAUNCH (R67, R96, R100, R120): once the lead-in has lasted a record length, p0 is searched for from its
nominal position after the last instant (DESIGN CHOICE, assumption 230), and BURST_CAPTURE leaves both ports with no reply
outstanding; band L captures at a sweep period of 10 ms. -/
def execBurstCaptureLaunch (s : State) : Host.Outcome State Fault Refusal := s.whenVamp <|
  match s.swp.burst, s.swp.lastInstant with
  | some b, some t =>
    have gap := (s.deadlineNs + s.sampleDelay + 4000 + 99999) / 100000 * 100000
    if s.burstState ≠ 2 ∨ s.replyDue ∨ t + gap < b.start + 4096 * bandPeriod b.band * 1000 then .next s
    else
      have p := s.chooseInstant (t + gap) (t + gap + s.fld Reg.SWP_CONFIG 7 0 * 1000)
      have f := s.fixAt p.1 p.2
      have b1 := { b with p0 := some p.1, startMean := s.mean100ms }
      have s1 : State := { s with swp := { s.swp with burst := some b1, fix := none } }
      have s2 := s1.sendBoth 7 (bytesLE 2 b.id ++ bytesLE 2 (f.d + f.f) ++ bytesLE 2 4096 ++
        bytesLE 2 (bandPeriod b.band) ++ [3, 0])
      .next ((if b.band = 2 then s2.setRate 2 2 else s2).setBurstState 3)
  | _, _ => .next s

/-- R98 for the next burst point that has not been judged (R122). -/
def State.judgePoint (s : State) : State :=
  match s.swp.burst with
  | none => s
  | some b =>
    have near : Bool := decide (s.clearanceNs (burstPoint b b.judged) 0 < 300)
    have s1 : State := { s with swp := { s.swp with
      burst := some { b with judged := b.judged + 1, noisy := b.noisy + b2n near } } }
    if near then s1.setFld Reg.SWP_BURST_ID 28 16 (b.noisy + 1) else s1

/-- Judge so many points. -/
def State.judgePoints (s : State) : Nat → State
  | 0 => s
  | k + 1 => s.judgePoint.judgePoints k

/-- Read-out area offset of an input block. -/
def blockOffset (i : Nat) : Nat := 16448 + 8200 * i

/-- Ask for the next points of the first unfinished block whose node is read through a port (R123). -/
def State.readNext (s : State) (port : Nat) : State :=
  match s.swp.burst with
  | none => s
  | some b =>
    match b.inputs.find? (fun i => b.complete.contains i.node && s.nodeB i.node == (port == 1) &&
        decide (i.read < 4096) && !i.failed) with
    | none => s
    | some i =>
      if s.burstState ≠ 4 ∨ s.tth.queue.any (fun c => c.op == 8 && s.cmdPort c == port) ∨
          s.tth.nodes.any (fun p => p.2.wait.any (fun w => w.op == 8 && w.port == port)) then s
      else s.sendNode i.node 8 (bytesLE 2 b.id ++ bytesLE 1 i.input ++ [0] ++ bytesLE 2 i.read)

/-- An input block cannot be read on: the port goes on with the next one. -/
def State.burstSkip (s : State) (n port input : Nat) : State :=
  match s.swp.burst with
  | none => s
  | some b =>
    have inputs := b.inputs.map (fun i => if i.node == n && i.input == input then { i with failed := true } else i)
    ({ s with swp := { s.swp with burst := some { b with inputs := inputs } } } : State).readNext port

/-- The input blocks of a burst, as they stand before a point is read (R123, R125). -/
def State.inputBlocks (s : State) : List BurstInput :=
  s.v3Nodes.flatMap (fun n => (List.range 17).map (fun i => ({ node := n, input := i } : BurstInput)))

/-- Write the heads of the input blocks: node and input, nothing read. -/
def State.openBlocks (s : State) (blocks : List BurstInput) : State :=
  (blocks.zip (List.range blocks.length)).foldl (fun (t : State) (p : BurstInput × Nat) =>
    t.putBytes ((t.rd Reg.SWP_BURST_BASE).toNat + blockOffset p.2) (bytesLE 1 p.1.node ++ bytesLE 1 p.1.input ++ zeros 6)) s

/-- BURST_CAPTURE_END (R120, R122, R123): point 4095 has passed. A burst with a point whose current is not known is aborted
(R121), one with more than 41 noisy points rejected; otherwise DIAG STATUS asks which nodes are complete. -/
def execBurstCaptureEnd (s : State) : Host.Outcome State Fault Refusal := s.whenVamp <|
  match s.swp.burst with
  | none => .next s
  | some b =>
    if s.burstState ≠ 3 then .next s
    else if b.points < 4096 then .next (s.burstAbort 5)
    else
      have s1 := (s.judgePoints (4096 - b.judged)).setRate 0 3
      have b1 := { s1.swp.burst.getD b with inputs := s1.inputBlocks }
      have s2 : State := { s1 with swp := { s1.swp with
        burst := some b1, ready := [], lowMs := 0, nominal := s1.latestInstant + 1000000 } }
      if 41 < b1.noisy then .next (s2.burstEnd 3 7)
      else
        have s3 := ((s2.pertOff.openBlocks b1.inputs).burstHeader b1 0 (burstDc b1)).setBurstState 4
        .next (s3.v3Nodes.foldl (fun t n => t.sendNode n 0x0B [2, 0, 0, 0, 0, 0, 0, 0, 0]) s3)

/-- A node's BURST_STATE arrives (DIAG STATUS byte 13): when every version 3 node has answered,
TTH_BURST_READY strobes and the reading starts on both ports. -/
def State.burstStatus (s : State) (n st : Nat) : State :=
  match s.swp.burst with
  | none => s
  | some b =>
    if s.burstState ≠ 4 ∨ s.swp.ready.contains n then s
    else
      have ready := n :: s.swp.ready
      have b1 := if st = 2 then { b with complete := b.complete ++ [n] } else b
      have s1 : State := { s with swp := { s.swp with ready := ready, burst := some b1 } }
      have nodes := s1.v3Nodes
      if nodes.all (fun k => ready.contains k) then
        have left := (nodes.filter (fun k => !(b1.complete.contains k))).length
        ((s1.strobe Src.TTH_BURST_READY (left * 2 ^ 16 + b.id)).readNext 0).readNext 1
      else s1

/-- A READ_BURST reply: its points are written to the input's block, and the port reads on (R123, R125). -/
def State.burstPoints (s : State) (n port : Nat) (p : Bytes) : State :=
  match s.swp.burst with
  | none => s
  | some b =>
    have input := fieldLE p 2 1
    have count := fieldLE p 3 1
    have off := fieldLE p 4 2
    match (b.inputs.zip (List.range b.inputs.length)).find? (fun q => q.1.node == n && q.1.input == input) with
    | none => s
    | some (i, k) =>
      if s.burstState ≠ 4 ∨ fieldLE p 0 2 ≠ b.id ∨ off ≠ i.read ∨ count = 0 ∨ 4096 < off + count then s
      else
        have pts := slice p 8 (2 * count)
        have sat := ((List.range count).filter (fun j =>
          fieldLE pts (2 * j) 2 == 0x7FFF || fieldLE pts (2 * j) 2 == 0x8000)).length
        have i1 := { i with read := off + count, saturated := i.saturated + sat }
        have base := (s.rd Reg.SWP_BURST_BASE).toNat + blockOffset k
        have s1 := (s.putBytes base (bytesLE 1 n ++ bytesLE 1 input ++ slice p 6 2 ++ bytesLE 2 i1.saturated ++
          bytesLE 2 i1.read)).putBytes (base + 8 + 2 * off) pts
        have s2 : State := { s1 with swp := { s1.swp with
          burst := some { b with inputs := setAt b.inputs k i1 } } }
        s2.readNext port

/-- BURST_READOUT_DONE (R123): every input of every complete node has been read; the bins are computed. -/
def execBurstReadoutDone (s : State) : Host.Outcome State Fault Refusal := s.whenVamp <|
  .next (if s.burstState = 4 then s.setBurstState 5 else s)

end Sys2Proof.Machine
end

