-- ==== Sys2Proof/Machine/EstModel.lean ====
section
/-!
DEFINITION. The cell model of the fast layer (R157), what a record gives a cell (R160), the
equivalent-circuit limits (R174), the static limit table (R177) and the string limits (R176). Arithmetic is
binary32 in the order the manual writes it (R130); exp is the special-function unit's (R134).
-/

namespace Sys2Proof.Machine

/-! Real arithmetic by name. -/

/-- An integer as a binary32. -/
def f32N (n : Int) : Word := f32OfInteger n

/-- a + t (b - a). -/
def lerp (a b t : Word) : Word := f32Add a (f32Mul t (f32Sub b a))

/-- A parameter in milli-units as a value in units. -/
def milli (w : Word) : Word := f32Div w (f32N 1000)

/-- A value clamped to a range. -/
def f32Clamp (lo hi x : Word) : Word := f32Max lo (f32Min hi x)

/-- A square. -/
def f32Sq (x : Word) : Word := f32Mul x x

/-! Parameters (Tables 5.5, 5.7). Items count the rows of their tables (R500). -/

/-- OCV_CHG (0) or OCV_DIS (1) at point i of 101. -/
def State.ocvPoint (s : State) (branch i : Nat) : Word := s.cfgW 3 1 (101 * branch + i) 0

/-- Position of a state of charge on the 1 % grid: the lower point and the share of the next. -/
def socGrid (points : Nat) (z : Word) : Nat × Word :=
  have x := f32Mul (f32Clamp 0 f32One z) (f32N (points - 1))
  have i := min (points - 2) (f32FloorScaled x 1 1).toNat
  (i, f32Sub x (f32N i))

/-- A branch of the open-circuit voltage at z, interpolated between its 1 % points. -/
def State.ocvBranch (s : State) (branch : Nat) (z : Word) : Word :=
  have g := socGrid 101 z
  lerp (s.ocvPoint branch g.1) (s.ocvPoint branch (g.1 + 1)) g.2

/-- OCV(z, T, h) of R157, T in °C. -/
def State.ocv (s : State) (z t h : Word) : Word :=
  have c := s.ocvBranch 0 z
  have d := s.ocvBranch 1 z
  have g := socGrid 101 z
  have tc := lerp (s.cfgW 3 2 g.1 0) (s.cfgW 3 2 (g.1 + 1) 0) g.2
  f32Add (f32Add (f32Div (f32Add c d) (f32N 2)) (f32Div (f32Mul h (f32Sub c d)) (f32N 2)))
    (f32Mul (milli tc) (f32Sub t (f32N 25)))

/-- The temperatures of the equivalent-circuit grid (Table 5.5). -/
def ecmTemps : List Int := [-20, 0, 10, 25, 40, 55]

/-- Position of a temperature on that grid. -/
def tempGrid (t : Word) : Nat × Word :=
  have i := ((List.range 4).filter (fun k => f32Le (f32N (ecmTemps.getD (k + 1) 0)) t)).length
  have lo := ecmTemps.getD i 0
  have hi := ecmTemps.getD (i + 1) 0
  (i, f32Clamp 0 f32One (f32Div (f32Sub t (f32N lo)) (f32N (hi - lo))))

/-- An equivalent-circuit value at grid point (i, j): item 5 holds ECM_ROHM, ECM_RPA and ECM_RPB, items 6 and
7 the time constants. -/
def State.ecmPoint (s : State) (item off i j : Nat) : Word := s.cfgW 3 item (66 * off + 6 * i + j) 0

/-- An equivalent-circuit value at z and T, interpolated bilinearly. -/
def State.ecm (s : State) (item off : Nat) (z t : Word) : Word :=
  have a := socGrid 11 z
  have b := tempGrid t
  have row := fun i => lerp (s.ecmPoint item off i b.1) (s.ecmPoint item off i (b.1 + 1)) b.2
  lerp (row a.1) (row (a.1 + 1)) a.2

/-- ECM_ROHM(50 %, 25 °C), Ω. -/
def State.rohmRef (s : State) : Word := milli (s.ecmPoint 5 0 5 3)

/-- A resistance of the cell at z and T, Ω: the table's, scaled by Rohm25 / ECM_ROHM(50 %, 25 °C). -/
def State.resistance (s : State) (c : Ctx) (off : Nat) (z t : Word) : Word :=
  f32Mul (milli (s.ecm 5 off z t)) (f32Div c.rohm s.rohmRef)

/-- Q_NOM. -/
def State.qNom (s : State) : Word := s.cfgW 3 0 0 0

/-- ETA_CHG and H_AH. -/
def State.etaChg (s : State) : Word := s.cfgW 3 4 0 0x3F7FBE77
def State.hAh (s : State) : Word := s.cfgW 3 3 0 0x3CF5C28F

/-- eta of R157 for a current. -/
def State.eta (s : State) (i : Word) : Word := if f32Lt 0 i then s.etaChg else f32One

/-- Operating limits and estimator parameters of Table 5.7. -/
def State.vOpMax (s : State) : Word := s.cfgW 4 0 0 0
def State.vOpMin (s : State) : Word := s.cfgW 4 0 1 0
def State.socMax (s : State) : Word := s.cfgW 4 3 0 f32One
def State.socMin (s : State) : Word := s.cfgW 4 3 1 0
def State.iChgMax (s : State) : Word := s.cfgW 4 5 0 s.iRated
def State.iDisMax (s : State) : Word := s.cfgW 4 5 1 s.iRated
def State.ecMargin (s : State) : Word := s.cfgW 4 7 0 0x3F4CCCCD
def State.restMin (s : State) : Nat := s.cfgN 4 11 0 10

/-- LIMIT_K, or LIMIT_K + 1 without an anchor for 24 h (R172). -/
def State.limitK (s : State) : Word :=
  have k := s.cfgW 4 6 0 0x40000000
  if s.est.noAnchor then f32Add k f32One else k

/-! The fast-layer model (R157). -/

/-- One prediction of the model over dt seconds at current i and temperature t, with the parameters at the
point (z0, t). -/
def State.predict (s : State) (c : Ctx) (z0 i dt t : Word) : Ctx :=
  have za := sfuExp (f32Neg (f32Div dt (s.ecm 6 0 z0 t)))
  have zb := sfuExp (f32Neg (f32Div dt (s.ecm 7 0 z0 t)))
  have q3600 := f32Mul (f32N 3600) c.q
  have k := sfuExp (f32Neg (f32Div (f32Mul (f32Abs i) dt) (f32Mul q3600 s.hAh)))
  have sign := if f32Lt 0 i then f32One else if f32Lt i 0 then f32Neg f32One else 0
  { c with
    z := f32Add c.z (f32Div (f32Mul (f32Mul (s.eta i) i) dt) q3600)
    va := f32Add (f32Mul c.va za) (f32Mul (f32Mul (s.resistance c 1 z0 t) i) (f32Sub f32One za))
    vb := f32Add (f32Mul c.vb zb) (f32Mul (f32Mul (s.resistance c 2 z0 t) i) (f32Sub f32One zb))
    h := f32Add (f32Mul c.h k) (f32Mul sign (f32Sub f32One k)) }

/-- The decay factors za and zb of a step (R157). -/
def State.decays (s : State) (z0 dt t : Word) : Word × Word :=
  (sfuExp (f32Neg (f32Div dt (s.ecm 6 0 z0 t))), sfuExp (f32Neg (f32Div dt (s.ecm 7 0 z0 t))))

/-- The predicted cell voltage y (R157). -/
def State.predictedV (s : State) (c : Ctx) (z0 i t : Word) : Word :=
  f32Add (f32Add (f32Add (f32Add (s.ocv c.z t c.h) c.va) c.vb) (f32Mul (s.resistance c 0 z0 t) i)) c.b

/-- The slope of OCV in z: that of the 1 % interval that holds z. -/
def State.ocvSlope (s : State) (z t h : Word) : Word :=
  have i := (socGrid 101 z).1
  have at_ := fun (k : Nat) => s.ocv (f32Div (f32N k) (f32N 100)) t h
  f32Mul (f32N 100) (f32Sub (at_ (i + 1)) (at_ i))

/-! The Kalman filter (R157, R160). The manual names the extended filter; that only OCV is linearised in z, and the order of the
binary32 operations, are DESIGN CHOICES (assumption 240). -/

/-- The place of a covariance among the six of Ctx.cov. -/
def covIndex (i j : Nat) : Nat :=
  match min i j, max i j with
  | 0, k => k - 1
  | 1, k => k + 1
  | _, _ => 5

/-- An entry of the covariance of z, va, vb and b. -/
def Ctx.p (c : Ctx) (i j : Nat) : Word := if i = j then c.var.getD i 0 else c.cov.getD (covIndex i j) 0

/-- A context with its covariance set from its entries. -/
def Ctx.withP (c : Ctx) (f : Nat → Nat → Word) : Ctx :=
  { c with var := (List.range 4).map (fun i => f i i), cov := [f 0 1, f 0 2, f 0 3, f 1 2, f 1 3, f 2 3] }

/-- The covariance after a prediction: the factors of the four states on either side, and process noise. -/
def Ctx.grow (c : Ctx) (factors noise : List Word) : Ctx :=
  c.withP (fun i j =>
    have v := f32Mul (f32Mul (factors.getD i 0) (factors.getD j 0)) (c.p i j)
    if i = j then f32Add v (noise.getD i 0) else v)

/-- The update by an observation with sensitivities h, a residual and a variance, of the states that a list names: gain K, and
P - K (HP)' - (HP) K' + K S K', which for the gain of all states is (1 - KH) P. -/
def Ctx.observe (c : Ctx) (h : List Word) (residual variance : Word) (states : List Nat) : Ctx :=
  have sum := fun (f : Nat → Word) => (List.range 4).foldl (fun a i => f32Add a (f i)) 0
  have hp := fun (i : Nat) => sum (fun j => f32Mul (h.getD j 0) (c.p i j))
  have total := f32Add (sum (fun i => f32Mul (h.getD i 0) (hp i))) variance
  have k := fun (i : Nat) => if states.contains i then f32Div (hp i) total else 0
  have moved := fun (x : Word) (i : Nat) => f32Add x (f32Mul (k i) residual)
  have c1 := c.withP (fun i j =>
    f32Add (f32Sub (f32Sub (c.p i j) (f32Mul (k i) (hp j))) (f32Mul (k j) (hp i))) (f32Mul (f32Mul (k i) (k j)) total))
  { c1 with z := moved c.z 0, va := moved c.va 1, vb := moved c.vb 2, b := moved c.b 3 }

/-- Measurement noise (Table 5.7): SIGMA_V in V, SIGMA_I in A, 5 % of rated for an invalid current, and NOISY_GAIN. -/
def State.sigmaV (s : State) : Word := milli (s.cfgW 4 8 0 f32One)
def State.sigmaI (s : State) (invalid : Bool) : Word :=
  if invalid then s.ratedPart 50 else f32Div (f32Mul (s.cfgW 4 9 0 0x3F000000) s.iRated) (f32N 100)
def State.noisyGain (s : State) : Word := s.cfgW 4 10 0 0x40800000

/-- A free noise: not negative, and a number. -/
def freeNoise (draw : Nat) : Word :=
  have w := Config.freeValue draw
  if f32IsFinite w then f32Abs w else 0

/-- The process noise of a prediction (R160): that of z is at least (SIGMA_I dt / (3600 Q))^2; the rest is free. -/
def State.processNoise (s : State) (c : Ctx) (invalid : Bool) (dt : Word) (draw : Nat) : List Word :=
  have floor := f32Sq (f32Div (f32Mul (s.sigmaI invalid) dt) (f32Mul (f32N 3600) c.q))
  [f32Add floor (freeNoise draw), freeNoise (draw + 1), freeNoise (draw + 2), freeNoise (draw + 3)]

/-- The inverse of OCV(z, T, 0) at a voltage, linear between the 1 % points (R163). -/
def State.ocvInverse (s : State) (v t : Word) : Word :=
  have at_ := fun (i : Nat) => s.ocv (f32Div (f32N i) (f32N 100)) t 0
  match (List.range 100).find? (fun i => f32Le v (at_ (i + 1))) with
  | none => f32One
  | some i =>
    have span := f32Sub (at_ (i + 1)) (at_ i)
    have part := if f32Lt 0 span then f32Clamp 0 f32One (f32Div (f32Sub v (at_ i)) span) else 0
    f32Div (f32Add (f32N i) part) (f32N 100)

/-! Cells in records. -/

/-- The node and cell input (from 1) of a string cell (R10). -/
def State.placeOf (s : State) (cell : Nat) : Option (Nat × Nat) :=
  have l := (s.cfgVals 1 5).getD []
  have i := l.findIdx (fun w => w.toNat == cell)
  if cell ≠ 0 ∧ i < l.length then some (i / 16 + 1, i % 16 + 1) else none

/-- TEMP_INPUT of a cell (R158). -/
def State.tempInput (s : State) (cell : Nat) : Nat := s.cfgN 4 17 (cell - 1) 1

/-- Cells 1 to CELL_COUNT. -/
def State.cells (s : State) : List Nat := (List.range s.cellCount).map (· + 1)

/-- A cell input is marked wire suspect (R90). -/
def State.wireSuspect (s : State) (node input : Nat) : Bool :=
  s.tth.marks.any (fun m => m.node == node && m.input == input)

/-- A string cell is wire suspect. -/
def State.cellSuspect (s : State) (cell : Nat) : Bool :=
  match s.placeOf cell with
  | none => false
  | some p => s.wireSuspect p.1 p.2

/-- What a record gives a cell (Table 5.3): its voltage in 100 µV, whether a value stands there, whether the
sample is usable, and the temperature input's value when the block is VALID. -/
structure Sample where
  volt : Nat
  present : Bool
  usable : Bool
  temp : Option Int
deriving DecidableEq, Repr

/-- Header fields of a record (Table 3.2). -/
def recId (h : Bytes) : Nat := fieldLE h 0 2
def recFlags (h : Bytes) : Nat := fieldLE h 2 2
def recPeriod (h : Bytes) : Nat := fieldLE h 16 4
def recCurrent (h : Bytes) : Word := BitVec.ofNat 32 (fieldLE h 20 4)
def recNoisy (h : Bytes) : Bool := recFlags h % 2 == 1
def recInvalid (h : Bytes) : Bool := recFlags h / 16 % 2 == 1

/-- What a record gives every cell: SWEEP_ID, PERIOD_US, CURRENT, NOISY and CURRENT_INVALID. -/
structure RecordIn where
  id : Nat
  period : Nat
  current : Word
  noisy : Bool
  invalid : Bool
deriving DecidableEq, Repr

/-- That of a record's header. -/
def recIn (h : Bytes) : RecordIn :=
  { id := recId h, period := recPeriod h, current := recCurrent h, noisy := recNoisy h, invalid := recInvalid h }

/-- The sample of a cell in a record's blocks. -/
def State.sampleOf (s : State) (blocks : List Bytes) (cell : Nat) : Sample :=
  match s.placeOf cell with
  | none => { volt := 0, present := false, usable := false, temp := none }
  | some (node, input) =>
    match blocks.find? (fun b => blockNode b == node) with
    | none => { volt := 0, present := false, usable := false, temp := none }
    | some b =>
      have valid := blockCode b == 0
      have set := blockCellValid b / 2 ^ (input - 1) % 2 == 1
      { volt := blockCell b input, present := valid && set,
        usable := valid && set && !s.wireSuspect node input,
        temp := if valid then some (blockTemp b (s.tempInput cell)) else none }

/-- Below any temperature of R158: what a cell without a valid temperature so far holds. -/
def noTemp : Int := -1000000

/-- The temperature in force for a cell (R158), 0.01 °C, and in °C; 25 °C while none has been valid. -/
def State.cellTemp (s : State) (cell : Nat) : Int :=
  have v := tget noTemp s.est.temps cell
  if v = noTemp then 2500 else v
def State.cellTempC (s : State) (cell : Nat) : Word := f32OfRat (s.cellTemp cell) 100

/-- A voltage of 100 µV units in V. -/
def voltOf (v : Nat) : Word := f32OfRat v 10000

/-- The bleed current of a cell (R180), A. -/
def State.bleedCurrent (s : State) (cell : Nat) : Word :=
  match s.placeOf cell with
  | none => 0
  | some (node, input) =>
    match s.est.bleed.find? (fun p => p.1 == node) with
    | none => 0
    | some (_, applied, derate, duties) =>
      if applied / 2 ^ (input - 1) % 2 = 0 then 0
      else
        have duty := f32OfRat (duties.getD (input - 1) 0) 200
        have i := f32Div (f32Mul duty (voltOf (tget 0 s.est.volts cell))) (s.cfgW 4 13 0 f32One)
        f32Mul i (f32OfRat (100 - derate : Int) 100)

/-! Equivalent-circuit limits (R174). -/

/-- The horizons in s. -/
def horizonS : Nat → Nat
  | 0 => 2
  | 1 => 10
  | 2 => 60
  | _ => 900

/-- The lowest cause that a current of k steps breaks at one of the 17 instants: 0 none, 1 voltage, 4 SoC. -/
def State.ecBreaks (s : State) (c : Ctx) (t : Word) (chg : Bool) (hs k : Nat) : Nat :=
  have mag := f32Mul (f32N k) (f32Div (if chg then s.iChgMax else s.iDisMax) (f32N 256))
  have i := if chg then mag else f32Neg mag
  have causes := (List.range 17).map (fun j =>
    have p := s.predict c c.z i (f32OfRat (j * hs) 16) t
    have y := s.predictedV p c.z i t
    have vBad := if chg then !f32Le y s.vOpMax else !f32Le s.vOpMin y
    have zBad := if chg then !f32Le p.z s.socMax else !f32Le s.socMin p.z
    if vBad then 1 else if zBad then 4 else 0)
  if causes.contains 1 then 1 else if causes.contains 4 then 4 else 0

/-- Bisect for the largest number of steps that breaks nothing: lo holds, hi does not. -/
def bisect (bad : Nat → Bool) : Nat → Nat → Nat → Nat
  | 0, lo, _ => lo
  | n + 1, lo, hi =>
    have mid := (lo + hi) / 2
    if mid = lo then lo else if bad mid then bisect bad n lo mid else bisect bad n mid hi

/-- Operating temperature limits of a direction, 0.01 °C: outside them the limit is 0 (R174). -/
def State.tempOutside (s : State) (cell : Nat) (chg : Bool) : Bool :=
  have item := if chg then 1 else 2
  have hi := f32ToInt .away (-0x8000) 0x7FFF 100 (s.cfgW 4 item 0 0)
  have lo := f32ToInt .away (-0x8000) 0x7FFF 100 (s.cfgW 4 item 1 0)
  have t := s.cellTemp cell
  decide (hi < t) || decide (t < lo)

/-- The equivalent-circuit limit of a cell at a horizon, with a margin, and its cause (R174, R176). -/
def State.ecLimit (s : State) (cell : Nat) (c : Ctx) (chg : Bool) (hor : Nat) (margin : Word) : Word × Nat :=
  have t := s.cellTempC cell
  have shift := f32Mul s.limitK (f32Sqrt (c.var.getD 0 0))
  have c1 := { c with z := if chg then f32Add c.z shift else f32Sub c.z shift }
  have step := f32Div (if chg then s.iChgMax else s.iDisMax) (f32N 256)
  have bad := fun k => s.ecBreaks c1 t chg (horizonS hor) k
  if s.tempOutside cell chg then (0, 2)
  else if bad 0 ≠ 0 then (0, bad 0)
  else
    have k := if bad 256 = 0 then 256 else bisect (fun k => bad k != 0) 8 0 256
    have cause := if k = 256 then 0 else bad (k + 1)
    have n := (f32FloorScaled (f32Mul (f32N k) margin) 1 1).toNat
    (f32Mul (f32N n) step, cause)

/-! The static table (R177). -/

/-- Linear interpolation between breakpoints, clamped at the ends. -/
def interp (xs ys : List Word) (x : Word) : Word :=
  match xs, ys with
  | x0 :: x1 :: xr, y0 :: y1 :: yr =>
    if f32Le x x0 then y0
    else if f32Le x x1 then lerp y0 y1 (f32Div (f32Sub x x0) (f32Sub x1 x0))
    else interp (x1 :: xr) (y1 :: yr) x
  | _, y :: _ => y
  | _, [] => 0

/-- Values of an item, n from an offset. -/
def State.cfgList (s : State) (sec item off n : Nat) : List Word :=
  (List.range n).map (fun i => s.cfgW sec item (off + i) 0)

/-- Usable samples of a record: cell, voltage. -/
def State.usableVolts (s : State) (blocks : List Bytes) : List (Nat × Nat) :=
  s.cells.filterMap (fun c =>
    have p := s.sampleOf blocks c
    if p.usable then some (c, p.volt) else none)

/-- The static limits for charge and discharge (R177). -/
def State.staticLimits (s : State) (volts : List (Nat × Nat)) : Word × Word :=
  match volts with
  | [] => (0, 0)
  | v0 :: _ =>
    have temps := volts.map (fun p => s.cellTemp p.1)
    have t0 := s.cellTemp v0.1
    have hot := f32OfRat (temps.foldl max t0) 100
    have cold := f32OfRat (temps.foldl min t0) 100
    have vHi := voltOf ((volts.map (·.2)).foldl max v0.2)
    have vLo := voltOf ((volts.map (·.2)).foldl min v0.2)
    have ts := s.cfgList 4 18 0 8
    have chgT := s.cfgList 4 19 0 8
    have disT := s.cfgList 4 19 8 8
    (f32Min (f32Min (interp ts chgT hot) (interp ts chgT cold)) (interp (s.cfgList 4 20 0 4) (s.cfgList 4 20 4 4) vHi),
     f32Min (f32Min (interp ts disT hot) (interp ts disT cold)) (interp (s.cfgList 4 21 0 4) (s.cfgList 4 21 4 4) vLo))

/-! String limits (R176). -/

/-- The least of a cell's value and what stands, with its source: cells in ascending order, so the lowest
numbered keeps a tie. -/
def leastOf (best : Word × Nat × Nat) (v : Word) (cell cause : Nat) : Word × Nat × Nat :=
  if f32Lt v best.1 then (v, cell, cause) else best

/-- One string limit before the order of horizons: value, cell, cause. -/
def State.stringLimit (s : State) (chg : Bool) (h : Nat) (static : Word) : Word × Nat × Nat :=
  have top : Word × Nat × Nat := (if chg then s.iChgMax else s.iDisMax, 0, 0)
  have cells := s.est.ctxs.foldl (fun b (p : Nat × Ctx) =>
    if chg then leastOf b (p.2.chg.getD h 0) p.1 (p.2.chgCause.getD h 0)
    else leastOf b (p.2.dis.getD h 0) p.1 (p.2.disCause.getD h 0)) top
  if s.est.deficient then (static, 0, 5)
  else if decide (s.est.monitored.length < s.cellCount) then leastOf cells static 0 5 else cells

/-- Lower each longer horizon to the next shorter one, a, where needed. -/
def notAbove (a : Word × Nat × Nat) : List (Word × Nat × Nat) → List (Word × Nat × Nat)
  | [] => []
  | b :: rest =>
    have v := if f32Lt a.1 b.1 then a else b
    v :: notAbove v rest

/-- Limits made non-increasing with horizon. -/
def nonIncreasing : List (Word × Nat × Nat) → List (Word × Nat × Nat)
  | [] => []
  | a :: rest => a :: notAbove a rest

/-- Form the string limits after a record (R176). -/
def State.formLimits (s : State) (blocks : List Bytes) : State :=
  have static := s.staticLimits (s.usableVolts blocks)
  have chg := nonIncreasing ((List.range 4).map (fun h => s.stringLimit true h static.1))
  have dis := nonIncreasing ((List.range 4).map (fun h => s.stringLimit false h static.2))
  { s with est := { s.est with
    limChg := chg.map (·.1), limDis := dis.map (·.1), limCell := (chg ++ dis).map (·.2.1),
    limCause := (chg ++ dis).map (·.2.2),
    staticOn := s.est.deficient || decide (s.est.monitored.length < s.cellCount) } }

end Sys2Proof.Machine
end

