-- ==== Sys2Proof/Machine/EstPlace.lean ====
section
/-!
DEFINITION. The placement engine (R27 to R29, R128, R129, R137, R138, R142, R143, R149 to R153): units, room,
the order in which it seeks room, and the order in which it lowers fidelity.
-/

namespace Sys2Proof.Machine

/-! Units (R128, R129). -/

/-- All physical indices. -/
def allUnits : List Nat := List.range 288

/-- Region from 0, cluster of the die from 0. -/
def unitRegion (p : Nat) : Nat := p / 36
def unitCluster (p : Nat) : Nat := p / 9

/-- A unit lives: it passed self-test and is not suspect (R140). -/
def State.unitLives (s : State) (p : Nat) : Bool := tget 0 s.est.units p == 0

/-- A unit is its cluster's spare: the ninth of nine that passed self-test (R129). -/
def State.isSpare (s : State) (p : Nat) : Bool :=
  p % 9 == 8 && (List.range 9).all (fun i => tget 0 s.est.units (unitCluster p * 9 + i) != 5)

/-- Planned load of a level (Table 4.3). -/
def levelLoad : Nat → Nat
  | 0 => 33
  | 1 => 19
  | 2 => 7
  | 3 => 3
  | _ => 0

/-! Layouts: cell, unit, level. -/

/-- Who is hosted where, at what level. -/
abbrev Layout := List (Nat × Nat × Nat)

/-- The layout in force. -/
def State.layout (s : State) : Layout := s.est.ctxs.map (fun p => (p.1, p.2.unit, p.2.level))

/-- Contexts and planned load of a unit in a layout. -/
def Layout.count (l : Layout) (u : Nat) : Nat := (l.filter (fun p => p.2.1 == u)).length
def Layout.load (l : Layout) (u : Nat) : Nat := ((l.filter (fun p => p.2.1 == u)).map (fun p => levelLoad p.2.2)).sum

/-- A unit has room for one more context of a level (R138). -/
def State.room (s : State) (l : Layout) (u level : Nat) : Bool :=
  s.unitLives u && decide (l.count u < 4) && decide (l.load u + levelLoad level ≤ 100)

/-- Units of a list, those that already host something first, so that the fewest are used (R28). -/
def hostingFirst (l : Layout) (us : List Nat) : List Nat :=
  us.filter (fun u => decide (0 < l.count u)) ++ us.filter (fun u => l.count u == 0)

/-- The stand-in for the unit of a cell that no unit holds: in no cluster and no region. -/
def noUnit : Nat := 288

/-- The units of a step of R150 for contexts that leave unit u, in tiers: 1 the own cluster with its spare first, 2 the
other clusters of the region, 3 regions that host contexts, 4 idle regions. -/
def State.stepUnits (s : State) (l : Layout) (u : Nat) : Nat → List (List Nat)
  | 1 =>
    have us := allUnits.filter (fun p => unitCluster p == unitCluster u && p != u)
    [us.filter s.isSpare, us.filter (fun p => !s.isSpare p)]
  | 2 => [allUnits.filter (fun p => unitRegion p == unitRegion u && unitCluster p != unitCluster u)]
  | 3 => [(List.range 8).flatMap (fun r =>
      have us := allUnits.filter (fun p => unitRegion p == r)
      if r ≠ unitRegion u ∧ us.any (fun p => decide (0 < l.count p)) then us else [])]
  | _ => [(List.range 8).flatMap (fun r =>
      have us := allUnits.filter (fun p => unitRegion p == r)
      if r ≠ unitRegion u ∧ us.all (fun p => l.count p == 0) then us else [])]

/-- A context is a region's own: it started there, or starts now (Table 1.5). -/
def State.ownOf (s : State) (r cell : Nat) : Bool :=
  match s.est.ctxs.find? (fun p => p.1 == cell) with
  | none => true
  | some p => s.est.replanAll || unitRegion p.2.home == r

/-- Regions that hold 96 contexts of their own at full fidelity (Table 1.5). -/
def State.fullRegions (s : State) (l : Layout) : List Nat :=
  (List.range 8).filter (fun r => decide (96 ≤
    (l.filter (fun p => unitRegion p.2.1 == r && p.2.2 == 0 && s.ownOf r p.1)).length))

/-- The units of a list that may take a cell at a level. -/
def State.takers (s : State) (us : List Nat) (l : Layout) (cell level : Nat) : List Nat :=
  have full := if level = 0 then (s.fullRegions l).filter (fun r => s.ownOf r cell) else []
  us.filter (fun u => !full.contains (unitRegion u) && s.room l u level)

/-- Clusters in which a layout holds cells of a cell's node. -/
def State.mateClusters (s : State) (l : Layout) (cell : Nat) : List Nat :=
  match s.placeOf cell with
  | none => []
  | some (node, _) =>
    ((List.range 16).filterMap (fun i =>
      have mate := s.cellOf node (i + 1)
      if mate = 0 ∨ mate = cell then none else (l.find? (fun p => p.1 == mate)).map (fun p => unitCluster p.2.1))).eraseDups

/-- What the objectives of R28 count against a unit for a cell: a unit more, a region more, a node split. -/
def Layout.costOf (l : Layout) (clusters : List Nat) (u : Nat) : Nat :=
  4 * b2n (l.count u == 0) + 2 * b2n (!l.any (fun p => unitRegion p.2.1 == unitRegion u)) +
    b2n (decide (clusters.length = 1) && !clusters.contains (unitCluster u))

/-- The unit of least cost, of equal costs the first. -/
def leastUnit (cost : Nat → Nat) (us : List Nat) : Option Nat :=
  us.foldl (fun (b : Option Nat) u =>
    match b with
    | none => some u
    | some v => if cost u < cost v then some u else some v) none

/-- Place contexts (cell, level) one after another on units of a list, each where R28 counts least against it: the layout,
what was placed with its unit, and what was not. -/
def State.placeEach (s : State) (us : List Nat) :
    Layout → List (Nat × Nat) → Layout × List (Nat × Nat) × List (Nat × Nat)
  | l, [] => (l, [], [])
  | l, (cell, level) :: rest =>
    match leastUnit (l.costOf (s.mateClusters l cell)) (s.takers us l cell level) with
    | none =>
      have r := s.placeEach us l rest
      (r.1, r.2.1, (cell, level) :: r.2.2)
    | some u =>
      have r := s.placeEach us (l ++ [(cell, u, level)]) rest
      (r.1, (cell, u) :: r.2.1, r.2.2)

/-- What R28 minimises of a layout: units, regions, split nodes. -/
def State.layoutCost (s : State) (l : Layout) : Nat × Nat × Nat :=
  have split := s.nodeList.filter (fun n => decide (1 < (((List.range 16).filterMap (fun i =>
    (l.find? (fun p => s.cellOf n (i + 1) != 0 && p.1 == s.cellOf n (i + 1))).map (fun p => unitCluster p.2.1))).eraseDups).length))
  ((allUnits.filter (fun u => decide (0 < l.count u))).length,
   ((List.range 8).filter (fun r => l.any (fun p => unitRegion p.2.1 == r))).length, split.length)

/-- A cost at most another. -/
def costLe (a b : Nat × Nat × Nat) : Bool :=
  decide (a.1 < b.1) || (a.1 == b.1 && (decide (a.2.1 < b.2.1) || (a.2.1 == b.2.1 && decide (a.2.2 ≤ b.2.2))))

/-- Place a group on units of a list (R150): each context where R28 counts least, or all on one unit where that costs no more. -/
def State.placeTier (s : State) (us : List Nat) (l : Layout) (group : List (Nat × Nat)) :
    Layout × List (Nat × Nat) × List (Nat × Nat) :=
  have each := s.placeEach us l group
  have clusters := (group.flatMap (fun g => s.mateClusters l g.1)).eraseDups
  have able := us.filter (fun u => (s.placeEach [u] l group).2.2.isEmpty)
  match leastUnit (l.costOf clusters) able with
  | none => each
  | some u =>
    have one := s.placeEach [u] l group
    if costLe (s.layoutCost one.1) (s.layoutCost each.1) then one else each

/-- Place a group on the tiers of a step, as much as each takes. -/
def State.placeOn (s : State) (tiers : List (List Nat)) (l : Layout) (group : List (Nat × Nat)) :
    Layout × List (Nat × Nat) × List (Nat × Nat) :=
  tiers.foldl (fun a us =>
    have r := s.placeTier us a.1 a.2.2
    (r.1, a.2.1 ++ r.2.1, r.2.2)) (l, [], group)

/-- A planner's state: the layout, the plan, and contexts that still wait with the unit they left. -/
structure Planner where
  lay : Layout
  plan : Plan
  waits : List (Nat × Nat × Nat) := []
deriving DecidableEq, Repr

/-- Record contexts placed by a step. -/
def Planner.placed (p : Planner) (src step : Nat) (lay : Layout) (done : List (Nat × Nat)) : Planner :=
  { p with lay := lay,
           plan := { p.plan with moves := p.plan.moves ++ done.map (fun d => (d.1, src, d.2, step)) } }

/-- Seek room for the group of a source unit: the first step that takes the whole group, otherwise as much as
each step allows in step order (R150). What is left waits. -/
def State.seekRoom (s : State) (p : Planner) (src : Nat) (group : List (Nat × Nat)) : Planner :=
  have whole := [1, 2, 3, 4].find? (fun k => (s.placeOn (s.stepUnits p.lay src k) p.lay group).2.2.isEmpty)
  match whole with
  | some k =>
    have r := s.placeOn (s.stepUnits p.lay src k) p.lay group
    p.placed src k r.1 r.2.1
  | none =>
    have r := [1, 2, 3, 4].foldl (fun (q : Planner × List (Nat × Nat)) k =>
      have r := s.placeOn (s.stepUnits q.1.lay src k) q.1.lay q.2
      (q.1.placed src k r.1 r.2.1, r.2.2)) (p, group)
    { r.1 with waits := r.1.waits ++ r.2.map (fun g => (g.1, src, g.2)) }

/-- The contexts of a unit in a layout, and the layout without them. -/
def Layout.groupOf (l : Layout) (u : Nat) : List (Nat × Nat) := (l.filter (fun p => p.2.1 == u)).map (fun p => (p.1, p.2.2))
def Layout.without (l : Layout) (u : Nat) : Layout := l.filter (fun p => p.2.1 != u)

/-- An idle region that takes a whole region's hosting units, and the unit for each: their own positions when
those live, otherwise its live units in order (R150). -/
def State.wholeRegion (s : State) (l : Layout) (hosts : List Nat) : Option (List (Nat × Nat)) :=
  (List.range 8).findSome? (fun r =>
    have us := allUnits.filter (fun p => unitRegion p == r)
    have live := us.filter s.unitLives
    have same := hosts.map (fun h => r * 36 + h % 36)
    if us.any (fun p => decide (0 < l.count p)) then none
    else if same.all s.unitLives then some (hosts.zip same)
    else if hosts.length ≤ live.length then some (hosts.zip live)
    else none)

/-- Move every context off some units (R150), the regions that are dead as a whole first as wholes. -/
def State.evacuate (s : State) (p : Planner) (units : List Nat) : Planner :=
  have hosts := units.filter (fun u => decide (0 < p.lay.count u))
  have regions := (List.range 8).filter (fun r => (List.range 36).all (fun i => !s.unitLives (r * 36 + i)) &&
    hosts.any (fun u => unitRegion u == r))
  have p1 := regions.foldl (fun (q : Planner) r =>
    have hs := hosts.filter (fun u => unitRegion u == r)
    match s.wholeRegion q.lay hs with
    | none => q
    | some pairs => pairs.foldl (fun (t : Planner) (m : Nat × Nat) =>
        have g := t.lay.groupOf m.1
        t.placed m.1 4 (t.lay.without m.1 ++ g.map (fun c => (c.1, m.2, c.2))) (g.map (fun c => (c.1, m.2)))) q) p
  hosts.foldl (fun (q : Planner) u =>
    have g := q.lay.groupOf u
    if g.isEmpty then q else s.seekRoom { q with lay := q.lay.without u } u g) p1

/-! Lowering (R143, R151). -/

/-- The score of a cell (R142). -/
def State.critOf (s : State) (cell : Nat) : Nat := tget 0 s.est.crit cell

/-- The cell to lower first: lowest score, of equal scores the higher number (R143). -/
def State.lowest (s : State) (cells : List Nat) : Option Nat :=
  cells.foldl (fun (b : Option Nat) c =>
    match b with
    | none => some c
    | some d => if s.critOf c < s.critOf d ∨ (s.critOf c = s.critOf d ∧ d < c) then some c else some d) none

/-- Place what waits wherever R150 finds room. -/
def State.placeWaits (s : State) (p : Planner) : Planner :=
  p.waits.foldl (fun (q : Planner) w => s.seekRoom q w.2.1 [(w.1, w.2.2)]) { p with waits := [] }

/-- Lower a cell to a level, hosted or waiting. -/
def Planner.lower (p : Planner) (cell level : Nat) : Planner :=
  { lay := p.lay.map (fun q => if q.1 == cell then (q.1, q.2.1, level) else q),
    waits := p.waits.map (fun q => if q.1 == cell then (q.1, q.2.1, level) else q),
    plan := { p.plan with levels := p.plan.levels.filter (fun q => q.1 != cell) ++ [(cell, level)] } }

/-- Cells above a level in fidelity. -/
def Planner.above (p : Planner) (level : Nat) : List Nat :=
  ((p.lay.filter (fun q => q.2.2 < level)).map (·.1)) ++ ((p.waits.filter (fun q => q.2.2 < level)).map (·.1))

/-- Lowering every further cell to the level would place one more of those that wait. -/
def State.relieves (s : State) (p : Planner) (level : Nat) : Bool :=
  have all := (p.above level).foldl (fun (q : Planner) c => q.lower c level) p
  decide ((s.placeWaits all).waits.length < p.waits.length)

/-- Lower cells to a level one at a time while that relieves the shortfall: the cells lowered come first. -/
def State.lowerStep (s : State) (level : Nat) : Nat → Planner → List Nat × Planner
  | 0, p => ([], p)
  | n + 1, p =>
    if p.waits.isEmpty || !s.relieves p level then ([], p)
    else
      match s.lowest (p.above level) with
      | none => ([], p)
      | some c =>
        have r := s.lowerStep level n (s.placeWaits (p.lower c level))
        (c :: r.1, r.2)

/-- Take the lowest-scoring cells out until nothing waits (R151 step 4). -/
def State.unhostStep (s : State) : Nat → Planner → List Nat × Planner
  | 0, p => ([], p)
  | n + 1, p =>
    if p.waits.isEmpty then ([], p)
    else
      match s.lowest (p.lay.map (·.1) ++ p.waits.map (·.1)) with
      | none => ([], p)
      | some c =>
        have p1 : Planner := {
          lay := p.lay.filter (fun q => q.1 != c), waits := p.waits.filter (fun q => q.1 != c),
          plan := { p.plan with
            unhosted := p.plan.unhosted ++ [c], moves := p.plan.moves.filter (fun m => m.1 != c),
            fresh := p.plan.fresh.filter (fun f => f.1 != c), rebuilds := p.plan.rebuilds.filter (· != c),
            levels := p.plan.levels.filter (fun m => m.1 != c) } }
        have r := s.unhostStep n (s.placeWaits p1)
        (c :: r.1, r.2)

/-- Record a step of R151 that lowered cells. -/
def Planner.down (p : Planner) (level : Nat) (cells : List Nat) : Planner :=
  match cells with
  | [] => p
  | c :: _ => { p with plan := { p.plan with downs := p.plan.downs ++ [(level, cells.length, c)] } }

/-- Degrade fidelity until nothing waits (R151). -/
def State.degrade (s : State) (p : Planner) : Planner :=
  have p1 := [1, 2, 3].foldl (fun (q : Planner) level =>
    have r := s.lowerStep level 768 q
    r.2.down level r.1) p
  have r := s.unhostStep 768 p1
  r.2.down 4 r.1

/-! Plans. -/

/-- Monitored cells that no layout holds. -/
def State.homeless (s : State) (l : Layout) : List Nat :=
  s.est.monitored.filter (fun c => !(l.any (fun q => q.1 == c)))

/-- Live in-service units in ascending order, then live spares. -/
def State.freshUnits (s : State) : List Nat :=
  (allUnits.filter (fun p => !s.isSpare p) ++ allUnits.filter s.isSpare).filter s.unitLives

/-! Placement at full fidelity (R28). Nodes come in ascending order and each node's cells in ascending order, and each cluster in
ascending order takes the next so many cells, or none: of these arrangements the one of least units, regions and split nodes, and
of equal ones the one that fills the earlier clusters (DEDUCED from the worked example, assumption 241). -/

/-- Free places at level 0 of a cluster's in-service units, each unit once for every place. -/
def State.clusterSlots (s : State) (l : Layout) (c : Nat) : List Nat :=
  have us := (List.range 9).map (fun i => 9 * c + i)
  (hostingFirst l (us.filter (fun u => s.unitLives u && !s.isSpare u))).flatMap (fun u =>
    List.replicate (min (4 - l.count u) ((100 - l.load u) / 33)) u)

/-- For each place between two cells, where the node that it cuts begins. -/
def State.nodeCuts (s : State) (cells : List Nat) : List (Option Nat) :=
  have nodes := cells.map (fun c => ((s.placeOf c).map (·.1)).getD 0)
  none :: (List.range cells.length).map (fun i =>
    have n := nodes.getD i 0
    if nodes.getD (i + 1) 0 = n ∧ i + 1 < cells.length then some (nodes.findIdx (· == n)) else none)

/-- What the clusters from one on cost for the cells from each place on, and how many cells the first takes. -/
abbrev FreshRow := List (Nat × Nat)

/-- The candidate of least cost, of equal ones the first. -/
def leastTake : List (Nat × Nat) → Nat × Nat
  | [] => (0, 0)
  | a :: rest => rest.foldl (fun b c => if c.1 < b.1 then c else b) a

/-- The row of a cluster whose places are slots, before the rows that follow it without and with its region in use. -/
def freshRow (l : Layout) (slots : List Nat) (cuts : List (Option Nat)) (used : Bool) (without with_ : FreshRow) : FreshRow :=
  have n := cuts.length - 1
  have units := (List.range (slots.length + 1)).map (fun k =>
    ((slots.take k).eraseDups.filter (fun u => l.count u == 0)).length)
  (List.range (n + 1)).map (fun i => leastTake (((List.range (min slots.length (n - i) + 1)).reverse).map (fun k =>
    have split := match cuts.getD (i + k) none with
      | none => 0
      | some f => if i ≤ f ∧ 0 < k then 1 else 0
    have rest := ((if used || decide (0 < k) then with_ else without).getD (i + k) (0, 0)).1
    (units.getD k 0 * 2 ^ 20 + (if used ∨ k = 0 then 0 else 2 ^ 12) + split + rest, k))))

/-- Rows of clusters 0 to 31, each without and with its region in use. -/
def State.freshRows (s : State) (l : Layout) (cuts : List (Option Nat)) : List (FreshRow × FreshRow) :=
  have n := cuts.length - 1
  have last : FreshRow := (List.range (n + 1)).map (fun i => ((n - i) * 2 ^ 32, 0))
  (List.range 32).foldr (fun c acc =>
    have next := acc.headD (last, last)
    have hosts := l.any (fun p => unitRegion p.2.1 == c / 4 + 1)
    have after := if c % 4 = 3 then (if hosts then (next.2, next.2) else (next.1, next.1)) else next
    have slots := s.clusterSlots l c
    (freshRow l slots cuts false after.1 after.2, freshRow l slots cuts true after.1 after.2) :: acc) []

/-- The cells that each cluster takes, on the units of its places. -/
def State.freshTake (s : State) (l : Layout) :
    Nat → Bool → List Nat → Nat → List (FreshRow × FreshRow) → List (Nat × Nat)
  | _, _, _, _, [] => []
  | c, used, cells, i, row :: rows =>
    have k := ((if used then row.2 else row.1).getD i (0, 0)).2
    have next := if c % 4 = 3 then l.any (fun p => unitRegion p.2.1 == c / 4 + 1) else used || decide (0 < k)
    (cells.take k).zip (s.clusterSlots l c) ++ s.freshTake l (c + 1) next (cells.drop k) (i + k) rows

/-- Host cells that hold no context: at level 0 on in-service units, then on spares; the others wait. -/
def State.hostAll (s : State) (p : Planner) (cells : List Nat) : Planner :=
  have start := p.lay.any (fun q => unitRegion q.2.1 == 0)
  have got := s.freshTake p.lay 0 start cells 0 (s.freshRows p.lay (s.nodeCuts cells))
  have left := cells.filter (fun c => !(got.any (fun d => d.1 == c)))
  have r := s.placeEach s.freshUnits (p.lay ++ got.map (fun d => (d.1, d.2, 0))) (left.map (fun c => (c, 0)))
  { lay := r.1, waits := p.waits ++ r.2.2.map (fun c => (c.1, noUnit, c.2)),
    plan := { p.plan with fresh := p.plan.fresh ++ (got ++ r.2.1).map (fun d => (d.1, d.2, 0)) } }

/-- A plan in which moves of cells that had no context are starts, at the level the layout gives them. -/
def Planner.finish (p : Planner) (had : List Nat) : Plan :=
  have started := p.plan.moves.filter (fun m => !(had.contains m.1))
  have starts := (p.plan.fresh.map (fun f => (f.1, f.2.1))) ++ started.map (fun m => (m.1, m.2.2.1))
  { p.plan with
    moves := p.plan.moves.filter (fun m => had.contains m.1),
    fresh := starts.map (fun f => (f.1, f.2, ((p.lay.find? (fun q => q.1 == f.1)).map (fun q => q.2.2)).getD 0)),
    levels := p.plan.levels.filter (fun m => had.contains m.1) }

/-- Relieve an overloaded unit (R152): its lowest-scoring context moves, or drops one level: from level 3 it is unhosted. -/
def State.relieve (s : State) (p : Planner) (u : Nat) : Planner :=
  match s.lowest ((p.lay.groupOf u).map (·.1)) with
  | none => p
  | some c =>
    have level := ((p.lay.find? (fun q => q.1 == c)).map (fun q => q.2.2)).getD 0
    have p1 := s.seekRoom { p with lay := p.lay.filter (fun q => q.1 != c) } u [(c, level)]
    if p1.waits.length = p.waits.length then p1
    else if 3 ≤ level then
      have p2 : Planner := { p with
        lay := p.lay.filter (fun q => q.1 != c),
        plan := { p.plan with unhosted := p.plan.unhosted ++ [c], moves := p.plan.moves.filter (fun m => m.1 != c) } }
      p2.down 4 [c]
    else (p.lower c (level + 1)).down (level + 1) [c]

/-- The plan for what has triggered (R149): a fresh placement on REPLAN, otherwise evacuation of failed
units in ascending order, cells that gained monitoring, and overloads. -/
def State.makePlan (s : State) : Plan :=
  have had := s.est.ctxs.map (·.1)
  if s.est.replanAll then
    have p := s.hostAll { lay := [], plan := {} } s.est.monitored
    have q := s.degrade p
    have f := q.finish []
    have moved := f.fresh.filter (fun d => had.contains d.1)
    { f with
      moves := moved.filterMap (fun d =>
        match s.est.ctxs.find? (fun c => c.1 == d.1) with
        | none => none
        | some c => if c.2.unit = d.2.1 then none else some (d.1, c.2.unit, d.2.1, 0)),
      rebuilds := (s.est.ctxs.filter (fun c => !s.unitLives c.2.unit)).map (·.1), relieved := s.est.overloaded,
      levels := moved.map (fun d => (d.1, d.2.2)), fresh := f.fresh.filter (fun d => !(had.contains d.1)) }
  else
    have out := (s.est.ctxs.filter (fun c => s.est.leaving.contains c.2.unit)).map (·.1)
    have p0 : Planner := { lay := s.layout, plan := { rebuilds := out, relieved := s.est.overloaded } }
    have p1 := s.evacuate p0 (s.est.leaving.mergeSort)
    have p2 := s.hostAll p1 ((s.homeless p1.lay).filter (fun c => !(p1.waits.any (fun w => w.1 == c)) &&
      !(s.est.noRoom.contains c)))
    have p3 := s.degrade p2
    (s.est.overloaded.foldl (fun (q : Planner) u => s.relieve q u) p3).finish had

/-! Raising and exchanging (R143, R153). -/

/-- The level of a cell, 4 when unhosted. -/
def State.levelOf (s : State) (cell : Nat) : Nat := ((s.est.ctxs.find? (fun c => c.1 == cell)).map (fun c => c.2.level)).getD 4

/-- A lowered cell can rise one level on its unit, or an unhosted one can be hosted, within 90 planned units:
the unit for it. -/
def State.raiseUnit (s : State) (cell : Nat) : Option Nat :=
  have l := s.layout
  match s.est.ctxs.find? (fun c => c.1 == cell) with
  | some c =>
    if c.2.level = 0 then none
    else if c.2.level = 1 && s.ownOf (unitRegion c.2.unit) cell && (s.fullRegions l).contains (unitRegion c.2.unit) then none
    else if l.load c.2.unit - levelLoad c.2.level + levelLoad (c.2.level - 1) ≤ 90 then some c.2.unit else none
  | none => s.freshUnits.find? (fun u => s.room l u 3 && decide (l.load u + 3 ≤ 90))

/-- The highest-scoring of some cells, of equal scores the lower number. -/
def State.highest (s : State) (cells : List Nat) : Option Nat :=
  cells.foldl (fun (b : Option Nat) c =>
    match b with
    | none => some c
    | some d => if s.critOf d < s.critOf c ∨ (s.critOf c = s.critOf d ∧ c < d) then some c else some d) none

end Sys2Proof.Machine
end

