-- ==== Sys2Proof/Machine/Partner.lean ====
section
/-!
DEFINITION. Frames and sets of the partner link (R475, R476): what the active unit sends.
-/

namespace Sys2Proof.Machine

/-! Roles (Table 16.8). -/

/-- RED.ROLE.ROLE: 0 native, 1 active, 2 standby, 3 withdrawn. -/
def State.role (s : State) : Nat := s.fld Reg.RED_ROLE 31 30

/-- A partner frame between SD and ED (R476, Table 16.4). -/
def partnerBytes (kind : Nat) (last : Bool) (seq frame offset : Nat) (payload : Bytes) : Bytes :=
  have body := bytesLE 1 kind ++ bytesLE 1 (b2n last) ++ bytesLE 4 seq ++ bytesLE 2 frame ++ bytesLE 4 offset ++ payload
  body ++ bytesLE 4 (crc32 body).toNat

/-- Send a set as frames of at most 4096 payload bytes. -/
def State.sendFrames (s : State) (kind seq : Nat) (bytes : Bytes) : State :=
  have n := max 1 ((bytes.length + 4095) / 4096)
  (List.range n).foldl (fun t i =>
    t.emit (.partnerFrame (partnerBytes kind (i + 1 == n) seq i (4096 * i) (slice bytes (4096 * i) 4096)))) s

/-- A set header over the set's body (Table 16.5). -/
def State.setHeader (s : State) (kind imageBytes : Nat) (body : Bytes) : Bytes :=
  bytesLE 1 1 ++ bytesLE 1 kind ++ bytesLE 2 s.cellCount ++ bytesLE 4 (64 + body.length) ++ bytesLE 8 s.stamp ++
    bytesLE 4 s.cfg.crc ++ bytesLE 4 (s.rd Reg.PRG_PROG_ID).toNat ++ bytesLE 2 (s.fld Reg.SWP_LAST 15 0) ++
    bytesLE 4 imageBytes ++ zeros 30 ++ bytesLE 4 (crc32 body).toNat

/-- A learned set leaves at each journal commit of the active unit (R475, Table 16.9). -/
def State.sendLearned (s : State) (record : Bytes) : State :=
  if s.compat && s.role == 1 then
    have seq := (s.red.txLearned + 1) % 2 ^ 32
    have s1 : State := { s with red := { s.red with txLearned := seq } }
    (s1.sendFrames 4 seq (s1.setHeader 4 0 record ++ record)).strobe Src.RED_LAST_SENT (4 * 2 ^ 21 + seq % 0x10000)
  else s

end Sys2Proof.Machine
end

