-- ==== Sys2Proof/Machine/Journal.lean ====
section
/-!
DEFINITION. The learned-value journal (R181 to R186): what a record holds, its triggers, its write, the
erase that follows, and what a brown-out does to them.
-/

namespace Sys2Proof.Machine

/-- Values of a cell without learned values (R163). -/
def State.defaultLearned (s : State) : Learned :=
  { q := s.qNom, sigmaQ := f32Mul (f32OfRat 5 100) s.qNom, rohm := s.rohmRef,
    sigmaR := f32Mul (f32OfRat 25 100) s.rohmRef }

/-- Loaded or journalled values of a cell. -/
def State.loadedOf (s : State) (cell : Nat) : Option Learned :=
  (s.est.learned.find? (fun p => p.1 == cell)).map (·.2)

/-- The learned values that a context holds. -/
def Ctx.toLearned (c : Ctx) : Learned :=
  { learned := !c.defaults, stale := c.stale || decide (3 ≤ c.level), fitted := c.fitted, q := c.q, sigmaQ := c.sigmaQ,
    rohm := c.rohm, sigmaR := c.sigmaR, z := c.z, zSigma := f32Sqrt (c.var.getD 0 0), through := c.through,
    degr := c.degr, imp := c.imp }

/-- The context of a cell. -/
def State.ctx (s : State) (cell : Nat) : Option Ctx := (s.est.ctxs.find? (fun p => p.1 == cell)).map (·.2)

/-- What a journal record says of a cell (R183): its context's values, else those last loaded. -/
def State.learnedNow (s : State) (cell : Nat) : Learned :=
  match s.ctx cell with
  | some c => if c.started then c.toLearned else (s.loadedOf cell).getD s.defaultLearned
  | none => (s.loadedOf cell).getD s.defaultLearned

/-- TYPE_CRC (Table 5.9) over the values of Tables 5.5 and 5.6 in their order. -/
def State.typeCrc (s : State) : Word :=
  crc32 ((List.range 24).flatMap (fun i =>
    ((s.cfgVals 3 i).getD []).flatMap (fun w => bytesLE 4 w.toNat)))

/-- Operating seconds since the last rest anchor, in hours, saturating (R172). -/
def State.anchorHours (s : State) : Nat := min 0xFFFF ((s.supply.opSeconds - s.est.lastAnchor) / 3600)

/-- The record that a trigger writes (Table 5.9). -/
def State.journalRecord (s : State) (cause : Nat) : JournalRec :=
  { jseq := s.est.jseq + 1, cause := cause, stamp := s.stamp,
    plantS := if s.plantValid then s.tim.plant.sec else 0, plantNs := if s.plantValid then s.tim.plant.ns else 0,
    typeCrc := s.typeCrc, lastAnchor := s.est.lastAnchor,
    entries := s.cells.map (fun c => (c, s.learnedNow c)) }

/-- Bytes of an entry (Table 5.10). -/
def entryBytes (cell : Nat) (l : Learned) : Bytes :=
  have words := fun (ws : List Word) => ws.flatMap (fun w => bytesLE 4 w.toNat)
  have model := padTo 48 (words l.degr) ++ words l.imp
  bytesLE 2 cell ++ bytesLE 2 (b2n l.learned + 2 * b2n l.stale + 4 * b2n l.fitted) ++ bytesLE 4 l.q.toNat ++
    bytesLE 4 l.sigmaQ.toNat ++ bytesLE 4 l.rohm.toNat ++ bytesLE 4 l.sigmaR.toNat ++ bytesLE 4 l.z.toNat ++
    bytesLE 4 l.zSigma.toNat ++ bytesLE 4 l.through.toNat ++ zeros 32 ++ padTo 512 model

/-- Bytes of a record, its CRC last (Table 5.9). -/
def JournalRec.bytes (r : JournalRec) : Bytes :=
  have body := bytesLE 4 r.jseq ++ [1, BitVec.ofNat 8 r.cause] ++ bytesLE 2 r.entries.length ++ bytesLE 8 r.stamp ++
    bytesLE 8 r.plantS ++ bytesLE 4 r.plantNs ++ bytesLE 4 r.typeCrc.toNat ++ bytesLE 8 r.lastAnchor ++ zeros 24 ++
    r.entries.flatMap (fun e => entryBytes e.1 e.2)
  body ++ bytesLE 4 (crc32 body).toNat

/-- An entry from its bytes: twelve degradation words, and nine impedance words where FITTED is set. -/
def parseEntry (bs : Bytes) : Nat × Learned :=
  have w := fun (off : Nat) => BitVec.ofNat 32 (fieldLE bs off 4)
  have flags := fieldLE bs 2 2
  have fitted := flags / 4 % 2 == 1
  (fieldLE bs 0 2,
    { learned := flags % 2 == 1, stale := flags / 2 % 2 == 1, fitted := fitted, q := w 4, sigmaQ := w 8, rohm := w 12,
      sigmaR := w 16, z := w 20, zSigma := w 24, through := w 28, degr := (List.range 12).map (fun i => w (64 + 4 * i)),
      imp := if fitted then (List.range 9).map (fun i => w (112 + 4 * i)) else [] })

/-- A record from its bytes (Table 5.9). -/
def parseJournal (bs : Bytes) : JournalRec :=
  { jseq := fieldLE bs 0 4, cause := fieldLE bs 5 1, stamp := fieldLE bs 8 8, plantS := fieldLE bs 16 8,
    plantNs := fieldLE bs 24 4, typeCrc := BitVec.ofNat 32 (fieldLE bs 28 4), lastAnchor := fieldLE bs 32 8,
    entries := (List.range (fieldLE bs 6 2)).map (fun k => parseEntry (slice bs (64 + 576 * k) 576)) }

/-- EST_JOURNAL with a cause and a result (Table 4.12); a shutdown request completes (R366). -/
def State.journalReport (s : State) (cause result seq : Nat) : State :=
  have s1 := s.strobe Src.EST_JOURNAL (cause * 2 ^ 21 + result * 2 ^ 19 + seq % 0x10000)
  if cause = 4 ∧ s.mode ≠ .standby then
    have ops := s1.cmd.shutdownOps
    have s2 : State := { s1 with cmd := { s1.cmd with shutdownOps := [] } }
    if result = 0 then (s2.completeAll ops St.OK (bytesLE 4 seq)).recTrigger 2
    else s2.completeAll ops St.REFUSED (bytesLE 1 result)
  else s1

/-- The values are copied to the staging area and the older slot is programmed (R183). -/
def State.journalCopy (s : State) (cause : Nat) : State :=
  have r := s.journalRecord cause
  have s1 : State := { s.insoleStart .journal with est := { s.est with
    writing := some r, copyDue := none, retried := false } }
  s1.putBytes (s1.areaBase 10) r.bytes

/-- Start a write: the values are copied at the next sweep boundary, at once where no sweep runs (R183). -/
def State.journalStart (s : State) (cause : Nat) : State :=
  have s1 : State := { s with est := { s.est with copyDue := some cause, held := [] } }
  if s.boundaryAhead then s1 else s1.journalCopy cause

/-- What a sweep boundary does for the journal: a copy that waits for it. -/
def State.journalBoundary (s : State) : State :=
  match s.est.copyDue with
  | none => s
  | some cause => if s.supply.insoleHold then s else s.journalCopy cause

/-- A write or its erase runs, or the supply holds every Insole operation. -/
def State.journalBusy (s : State) : Bool :=
  s.est.writing.isSome || s.est.copyDue.isSome || s.est.erasing || s.supply.insoleHold

/-- A trigger of the journal (R182, R186). -/
def State.journalAsk (s : State) (cause : Nat) : State :=
  if s.est.readOnly then s.journalReport cause 2 s.est.jseq
  else if s.journalBusy then
    { s with est := { s.est with held := if s.est.held.contains cause then s.est.held else s.est.held ++ [cause] } }
  else s.journalStart cause

/-- A trigger of R182, which also triggers a persistence record (R343). -/
def State.journalTrigger (s : State) (cause : Nat) : State := (s.journalAsk cause).persistTrigger

/-- The highest-ranking cause of held triggers: 5, 4, 1, 2, 3, 0 (R182). -/
def journalRank (held : List Nat) : Nat := ([5, 4, 1, 2, 3].find? (fun c => held.contains c)).getD 0

/-- A learned set's record goes into the standby's own journal (R477); it waits while a write or erase runs. -/
def State.journalAdopt (s : State) (r : JournalRec) : State :=
  if s.est.readOnly then s
  else if s.journalBusy then { s with red := { s.red with journalHeld := some r } }
  else
    have s1 : State := { s.insoleStart .journal with est := { s.est with writing := some r, retried := false },
                                                     red := { s.red with journalHeld := none } }
    s1.putBytes (s1.areaBase 10) r.bytes

/-- Serve all held triggers by one write, when nothing runs (R182), or end each with result 2 (R186); else a learned set's record
that waits. -/
def State.journalResume (s : State) : State :=
  if s.journalBusy then s
  else if s.est.readOnly && !s.est.held.isEmpty then
    s.est.held.foldl (fun (t : State) cause => t.journalReport cause 2 s.est.jseq)
      { s with est := { s.est with held := [] } }
  else if !s.est.held.isEmpty then s.journalStart (journalRank s.est.held)
  else match s.red.journalHeld with
    | none => s
    | some r => s.journalAdopt r

/-- The record goes to slot B: the older slot, or the empty one. -/
def State.journalToB (s : State) : Bool :=
  match s.est.slotA, s.est.slotB with
  | none, _ => false
  | some _, none => true
  | some a, some b => decide (b.jseq < a.jseq)

/-- Commit (R183): the record stands in its slot, and the erase of the other slot starts. -/
def State.journalCommit (s : State) (r : JournalRec) : State :=
  have toB := s.journalToB
  have keep := s.supply.insoleHold
  have s1 : State := { s.insoleStart .journalErase with est := { s.est with
    slotA := if toB then (if keep then s.est.slotA else none) else some r,
    slotB := if toB then some r else (if keep then s.est.slotB else none),
    writing := none, retried := false, erasing := true, jseq := r.jseq, learned := r.entries,
    committedAt := s.tim.mono.sec, placed := false } }
  (s1.sendLearned r.bytes).journalReport r.cause 0 r.jseq

/-- The write in progress ends without a commit (R183, R184). -/
def State.journalAbandon (s : State) : State :=
  match s.est.writing with
  | none => s
  | some r =>
    have toB := s.journalToB
    have s1 : State := { s with est := { s.est with
      writing := none, retried := false, slotA := if toB then s.est.slotA else none,
      slotB := if toB then none else s.est.slotB } }
    s1.journalReport r.cause 1 r.jseq

/-- The write meets VIN_LOW (R184): with at most 3 pages left it finishes, otherwise it is abandoned. -/
def State.journalCut (s : State) (pagesLeft : Nat) : State :=
  match s.est.writing with
  | none => s
  | some r => if pagesLeft ≤ 3 then s.journalCommit r else s.journalAbandon

/-- JOURNAL_WRITE_DONE (R183, R453): the read-back failed or not; a failure retries once. -/
def execJournalWriteDone (ok : Bool) (s : State) : Host.Outcome State Fault Refusal := s.whenVamp <|
  match s.est.writing with
  | none => .next s
  | some r =>
    have s1 := s.unspoil 4
    if !s.insoleTurn .journal then .next s
    else if ok && !s.spoilt 4 then .next (s1.journalCommit r)
    else if s.est.retried then .next s1.journalAbandon.journalResume
    else .next { s1 with est := { s1.est with retried := true } }

/-- JOURNAL_ERASE_DONE (R183, R182): the slot that does not hold the newest record is empty, and held
triggers start one write. An erase that VIN_LOW stopped goes on after it (R184). -/
def execJournalEraseDone (s : State) : Host.Outcome State Fault Refusal := s.whenVamp <|
  if !s.insoleTurn .journalErase then .next s
  else
    have newestB := match s.est.slotA, s.est.slotB with
      | some a, some b => decide (a.jseq < b.jseq)
      | none, some _ => true
      | _, none => false
    have s1 : State := { s with est := { s.est with
      erasing := false, slotA := if newestB then none else s.est.slotA,
      slotB := if newestB then s.est.slotB else none } }
    .next s1.journalResume

/-- JOURNAL_PERIODIC_TIMER (R182, R186). -/
def execJournalPeriodicTimer (s : State) : Host.Outcome State Fault Refusal := s.whenVamp <|
  .next (s.journalTrigger 0)

/-- FULL_CHARGE_END (R182). -/
def execFullChargeEnd (s : State) : Host.Outcome State Fault Refusal := s.whenVamp <|
  .next (s.journalTrigger 1)

/-- The measures of R172 are in force after a restart too, 24 h or more after the last anchor. -/
def State.anchorAtBoot (s : State) : State :=
  { s with est := { s.est with noAnchor := decide (24 ≤ s.anchorHours), noAnchorH := s.anchorHours } }

/-- Load the newest valid record at Boot (R185): LAST_ANCHOR, JSEQ and, with the configured cell type, the
learned values of the configured cells. -/
def State.journalLoad (s : State) : State :=
  have newest := match s.est.slotA, s.est.slotB with
    | some a, some b => some (if a.jseq < b.jseq then b else a)
    | some a, none => some a
    | none, b => b
  match newest with
  | none => ({ s with est := { s.est with learned := [], loadCause := none, jseq := 0 } } : State).anchorAtBoot
  | some r =>
    have mine := r.entries.filter (fun e => decide (e.1 ≤ s.cellCount))
    ({ s with est := { s.est with
      jseq := r.jseq, lastAnchor := r.lastAnchor, loadCause := some r.cause,
      learned := if r.typeCrc = s.typeCrc then mine else [] } } : State).anchorAtBoot

end Sys2Proof.Machine
end

