-- ==== Sys2Proof/Machine/EstCell.lean ====
section
/-!
DEFINITION. One cell context (chapter 5): how it starts and restarts, the fast and health layers on a record and in a
replay, the numeric failure, the marks of broken sense wires (R90) and the impedance layer.
-/

namespace Sys2Proof.Machine

/-- n free values. -/
def State.draws : Nat → State → List Word × State
  | 0, s => ([], s)
  | n + 1, s =>
    have r := State.draws n s.drawn
    (s.freeWord :: r.1, r.2)

/-- The state with a cell's context set. -/
def State.putCtx (s : State) (cell : Nat) (c : Ctx) : State :=
  { s with est := { s.est with ctxs := s.est.ctxs.map (fun p => if p.1 == cell then (cell, c) else p) } }

/-- A deviation num / den as a variance. -/
def varOf (num den : Nat) : Word := f32Sq (f32OfRat num den)

/-- Covariances of the fast layer, all zero. -/
def noCov : List Word := [0, 0, 0, 0, 0, 0]

/-! Starting (Table 5.4). -/

/-- Full-layer states 52 to 63 and their deviations at a start (Tables 5.2, 5.4): double-layer potentials, core and surface
temperature, hysteresis, offset, degradation. -/
def State.initFull (s : State) (cell : Nat) (degr : List Word) : List Word × List Word :=
  have t := s.cellTempC cell
  have tenth := f32OfRat 1 100
  ([0, 0, t, t, 0, 0] ++ (List.range 6).map (fun i => degr.getD i 0),
   [tenth, tenth, f32N 2, f32N 2, tenth, tenth] ++ (List.range 6).map (fun i => degr.getD (6 + i) 0))

/-- A context with the values of Table 5.4 for a state of charge and its deviation. -/
def State.initCtx (s : State) (c : Ctx) (cell : Nat) (z sd : Word) : Ctx :=
  have l := (s.loadedOf cell).getD s.defaultLearned
  have x := s.initFull cell l.degr
  { c with
    started := true, z := z, va := 0, vb := 0, b := 0, h := 0,
    var := [f32Sq sd, varOf 1 100, varOf 2 100, varOf 5 1000], cov := noCov,
    q := l.q, sigmaQ := f32Max l.sigmaQ (f32Mul (f32OfRat 5 1000) l.q),
    rohm := l.rohm, sigmaR := f32Max l.sigmaR (f32Mul (f32OfRat 2 100) l.rohm), rohmFit := l.rohm,
    degr := l.degr, through := l.through, imp := l.imp, fitted := l.fitted, defaults := !l.learned,
    stale := l.stale || decide (3 ≤ c.level),
    window := some (z, sd, 0, s.monoNs), prev := none, full := none, fullSoc := z, fullSd := sd, fullX := x.1, fullS := x.2,
    tCore := s.cellTemp cell, temp := s.cellTemp cell }

/-- The deviation that a full layer starts z with (Table 5.4). -/
def startSd : Word := f32OfRat 8 100

/-- Reinitialisation (R130, R139, R147, R163): z stays the fast layer's. -/
def State.reinitCtx (s : State) (c : Ctx) (cell : Nat) : Ctx :=
  have z := if f32IsFinite c.z then c.z else ((s.loadedOf cell).getD s.defaultLearned).z
  { s.initCtx c cell z startSd with
    reinit := true, replaying := false, joining := false, rebuilding := false, fullDue := true, horizonDue := true }

/-- Address of a cell's checkpoint in GSRAM. -/
def State.ckptAt (s : State) (cell : Nat) : Nat := (s.rd Reg.EST_CKPT_BASE).toNat + 6144 * (cell - 1)

/-- The CRC of a cell's checkpoint in GSRAM holds (Table 4.4, R147). -/
def State.ckptIntact (s : State) (cell : Nat) : Bool :=
  have bs := s.getBytes (s.ckptAt cell) 6144
  (crc32 (slice bs 0 28 ++ slice bs 32 6112)).toNat == fieldLE bs 28 4

/-- A rebuild from the checkpoint onto a unit (R146, R147): it stands as checkpointed until the replay has caught up. -/
def State.rebuildCtx (s : State) (c : Ctx) (cell : Nat) : Ctx :=
  match (s.est.ckpts.find? (fun p => p.1 == cell)).map (·.2) with
  | none => s.reinitCtx c cell
  | some k =>
    if k.good && s.est.replay.contains k.sweep && s.ckptIntact cell then
      { k.ctx with unit := c.unit, home := c.home, slot := c.slot, borrowed := c.borrowed, level := c.level,
                   failedAt := c.failedAt, ckptSeq := c.ckptSeq, usableAt := c.usableAt, image := c.image,
                   widened := true, joining := false, replaying := true, rebuilding := true }
    else s.reinitCtx c cell

/-- A NaN or infinity stands in a context's state (R130): rebuilt from its checkpoint, or reinitialised when the
rebuilt context fails again within 60 s. -/
def State.numericFail (s : State) (cell : Nat) (c : Ctx) : State :=
  have again := match c.failedAt with
    | none => false
    | some t => decide (s.monoNs < t + 60000000000)
  have c1 := { c with failedAt := some s.monoNs }
  have c2 := if again then s.reinitCtx c1 cell else s.rebuildCtx c1 cell
  (s.putCtx cell c2).flag Reg.EST_STAT Reg.EST_STAT_COUNT 3

/-- The numbers of a context's state. -/
def Ctx.numbers (c : Ctx) : List Word :=
  [c.z, c.va, c.vb, c.b, c.h, c.q, c.sigmaQ, c.rohm, c.sigmaR, c.through, c.fullSoc, c.fullSd] ++ c.var ++ c.cov ++ c.degr ++
    c.imp ++ c.chg ++ c.dis ++ c.fullX ++ c.fullS

/-- They are finite (R130). -/
def Ctx.finite (c : Ctx) : Bool := c.numbers.all f32IsFinite

/-- Put a context, rebuilding it when its states are not numbers. -/
def State.putChecked (s : State) (cell : Nat) (c : Ctx) : State :=
  if c.finite then s.putCtx cell c else s.numericFail cell c

/-! Health layer (R166, R167). -/

/-- One observation of resistance with weight num / 3600, as R166 updates a learned value and its deviation. The manual
states no deviation of the observation: a free one, passed in. -/
def Ctx.observeR (c : Ctx) (obs : Word) (num : Nat) (sigma : Word) : Ctx :=
  have w := f32OfRat num 3600
  have lo := f32Mul (f32OfRat 25 100) c.rohm
  if f32Le lo obs && f32Le obs (f32Mul (f32N 4) c.rohm) then
    { c with rohm := f32Add c.rohm (f32Mul w (f32Sub obs c.rohm)), defaults := false,
             sigmaR := f32Sqrt (f32Add (f32Mul (f32Sq (f32Sub f32One w)) (f32Sq c.sigmaR)) (f32Mul (f32Sq w) (f32Sq sigma))) }
  else c

/-- The current-step observation of a record (R167): it and the record before it are usable, not NOISY, and at most 1 ms. -/
def State.stepR (s : State) (c : Ctx) (p : Sample) (r : RecordIn) (i t sigma : Word) : Ctx :=
  match c.prev with
  | none => c
  | some (v0, i0) =>
    have di := f32Sub i i0
    if p.usable && !r.noisy && r.period != 0 && decide (r.period ≤ 1000) && f32Le (s.ratedPart 50) (f32Abs di) then
      have ratio := f32Div s.rohmRef (milli (s.ecm 5 0 c.z t))
      c.observeR (f32Mul (f32Div (f32Sub (voltOf p.volt) v0) di) ratio) 10 sigma
    else c

/-- z and its deviation at a window's end: the full layer's at levels 0 to 2, the fast layer's at level 3. -/
def Ctx.endPoint (c : Ctx) : Word × Word :=
  if c.level ≤ 2 then (c.fullSoc, c.fullSd) else (c.z, f32Sqrt (c.var.getD 0 0))

/-- The capacity window after a record with charge step dq, As (R166). A window longer than 2 h reopens. -/
def State.capacity (s : State) (now : Nat) (c : Ctx) (dq : Word) : Ctx :=
  match c.window with
  | none => c
  | some (z1, sd1, q, t1) =>
    have e := c.endPoint
    have q1 := f32Add q dq
    have ns := now - t1
    have dz := f32Sub e.1 z1
    have fresh := some (e.1, e.2, 0, now)
    if 7200000000000 < ns then { c with window := fresh }
    else if 60000000000 ≤ ns && f32Le (f32OfRat 5 100) (f32Abs dz) && f32Le sd1 (f32OfRat 5 1000) &&
        f32Le e.2 (f32OfRat 5 1000) then
      have obs := f32Div q1 (f32Mul (f32N 3600) dz)
      if f32Le (f32Mul (f32OfRat 1 2) s.qNom) obs && f32Le obs (f32Mul (f32OfRat 12 10) s.qNom) then
        have w := f32Min f32One (f32OfRat ns 3600000000000)
        have so := f32Div (f32Mul (f32Abs obs) (f32Sqrt (f32Add (f32Sq sd1) (f32Sq e.2)))) (f32Abs dz)
        have sq := f32Sqrt (f32Add (f32Mul (f32Sq (f32Sub f32One w)) (f32Sq c.sigmaQ)) (f32Mul (f32Sq w) (f32Sq so)))
        { c with q := f32Add c.q (f32Mul w (f32Sub obs c.q)), sigmaQ := sq, window := fresh, defaults := false }
      else { c with window := fresh }
    else { c with window := some (z1, sd1, q1, t1) }

/-! The fast layer on a record (R157, R160, R161). -/

/-- A usable sample ends a gap of 10 s or longer (R161). -/
def Ctx.reanchors (c : Ctx) (now : Nat) (p : Sample) : Bool := p.usable && decide (c.usableAt + 10000000000 ≤ now)

/-- Re-anchoring: the variances of va, vb and b return to Table 5.4, their covariances to 0. -/
def Ctx.reanchor (c : Ctx) (now : Nat) : Ctx :=
  have e := c.endPoint
  { c with var := [c.var.getD 0 0, varOf 1 100, varOf 2 100, varOf 5 1000], cov := noCov,
           window := some (e.1, e.2, 0, now), fullReanchor := true, reanchoredAt := some now }

/-- Lower a context's 2 s and 10 s outputs to the equivalent-circuit limits (R175). -/
def State.clampCtx (s : State) (cell : Nat) (c : Ctx) : Ctx :=
  [0, 1].foldl (fun (k : Ctx) h =>
    have a := s.ecLimit cell c true h f32One
    have d := s.ecLimit cell c false h f32One
    have k1 := if f32Lt a.1 (k.chg.getD h 0) then
      { k with chg := setAt k.chg h a.1, chgCause := setAt k.chgCause h 6 } else k
    if f32Lt d.1 (k1.dis.getD h 0) then
      { k1 with dis := setAt k1.dis h d.1, disCause := setAt k1.disCause h 6 } else k1) c

/-- The cell current of a record (R157). -/
def State.cellCurrent (s : State) (r : RecordIn) (cell : Nat) : Word := f32Sub r.current (s.bleedCurrent cell)

/-- The first fast update of a context (R163): from the sample, else from the journal's Z_SOC. With neither it
waits for the first usable sample. -/
def State.startCtx (s : State) (cell : Nat) (c : Ctx) (p : Sample) : Option Ctx :=
  if p.usable then
    have sd := if s.est.loadCause = some 4 then f32OfRat 3 100 else startSd
    some (s.initCtx c cell (s.ocvInverse (voltOf p.volt) (s.cellTempC cell)) sd)
  else (s.loadedOf cell).map (fun l => s.initCtx c cell l.z (f32OfRat 10 100))

/-- The prediction over a record (R157, R160): states and covariance, with free values from a draw on. -/
def State.predictCtx (s : State) (c : Ctx) (r : RecordIn) (i t : Word) (draw : Nat) : Ctx :=
  if r.period = 0 then c
  else
    have dt := f32OfRat r.period 1000000
    have d := s.decays c.z dt t
    (s.predict c c.z i dt t).grow [f32One, d.1, d.2, f32One] (s.processNoise c r.invalid dt draw)

/-- The update by a usable sample (R157, R160): the residual of the voltage, with SIGMA_V, inflated on a NOISY record. -/
def State.updateCtx (s : State) (c : Ctx) (r : RecordIn) (p : Sample) (i t : Word) : Ctx :=
  have sigma := if r.noisy then f32Mul s.sigmaV s.noisyGain else s.sigmaV
  c.observe [s.ocvSlope c.z t c.h, f32One, f32One, f32One] (f32Sub (voltOf p.volt) (s.predictedV c c.z i t)) (f32Sq sigma)
    [0, 1, 2, 3]

/-- How many free values the fast and health layers draw on a record. -/
def fastDraws : Nat := 5

/-- The fast and health layers of a started context on one record that comes at a time (R157 to R167), with free values from a
draw on. A re-anchored cell is so before its update. -/
def State.fastCtx (s : State) (now draw : Nat) (r : RecordIn) (cell : Nat) (temp : Int) (c : Ctx) (p : Sample) : Ctx :=
  have t := f32OfRat temp 100
  have i := s.cellCurrent r cell
  have c1 := s.predictCtx c r i t draw
  have c2 := if c.reanchors now p then c1.reanchor now else c1
  have c3 := if p.usable then { s.updateCtx c2 r p i t with usableAt := now } else c2
  have dt := f32OfRat r.period 1000000
  have dq := f32Mul (f32Mul (s.eta i) i) dt
  have c4 := s.capacity now (s.stepR c3 p r i t (freeNoise (draw + 4))) dq
  { c4 with
    through := f32Add c4.through (f32Div (f32Mul (f32Abs i) dt) (f32N 3600)),
    prev := if p.usable && !r.noisy && decide (r.period ≤ 1000) then some (voltOf p.volt, i) else none,
    sweep := r.id, predicted := !p.usable, temp := temp, image := draw }

/-- One record on a started context, with the clamp of R175. -/
def State.fastStep (s : State) (r : RecordIn) (cell : Nat) (c : Ctx) (p : Sample) : State :=
  have c1 := s.fastCtx s.monoNs s.free r cell (s.cellTemp cell) c p
  (s.drawnBy fastDraws).putChecked cell (if p.usable && decide (c1.level ≤ 2) then s.clampCtx cell c1 else c1)

/-- The fast and health layers of one cell on a record (R160). A cell whose unit is dead or whose rebuild still
replays has no update. -/
def State.fastCell (s : State) (r : RecordIn) (blocks : List Bytes) (cell : Nat) : State :=
  match s.ctx cell with
  | none => s
  | some c =>
    have p := s.sampleOf blocks cell
    if !s.unitLives c.unit || c.replaying then s.putCtx cell { c with predicted := true }
    else if c.started then s.fastStep r cell c p
    else
      match s.startCtx cell c p with
      | none => s
      | some c1 => s.fastStep r cell c1 p

/-! Replay (R145, R146). -/

/-- The bytes of the replay entry that is so many entries older than the newest. -/
def State.replayEntryAt (s : State) (age : Nat) : Bytes :=
  s.getBytes ((s.rd Reg.EST_REPLAY_BASE).toNat + s.replayEntry * ((s.est.replayHead + 2499 - age) % 1250)) s.replayEntry

/-- What a replay entry gives every cell. -/
def replayIn (e : Bytes) : RecordIn :=
  have flags := fieldLE e 2 2
  { id := fieldLE e 0 2, period := fieldLE e 8 4, current := BitVec.ofNat 32 (fieldLE e 12 4),
    noisy := flags % 2 == 1, invalid := flags / 16 % 2 == 1 }

/-- The sample of a cell in a replay entry. -/
def State.replaySample (s : State) (e : Bytes) (cell : Nat) : Sample :=
  match s.placeOf cell with
  | none => { volt := 0, present := false, usable := false, temp := none }
  | some (node, input) =>
    have v := fieldLE e (16 + 2 * (cell - 1)) 2
    have at_ := 16 + 2 * s.cellCount + 9 * (node - 1)
    have present := v != 0xFFFF
    { volt := v, present := present, usable := present && !s.wireSuspect node input,
      temp := if fieldLE e at_ 1 = 0 then some (signed 16 (fieldLE e (at_ + 1 + 2 * (s.tempInput cell - 1)) 2)) else none }

/-- Replay so many entries, the oldest first: the context after them. The time of an entry is now less the periods of the
later ones. -/
def State.replayCtx (s : State) (cell : Nat) : Nat → Ctx → Ctx
  | 0, c => c
  | n + 1, c =>
    have later := ((List.range n).map (fun k => (replayIn (s.replayEntryAt k)).period * 1000)).sum
    have e := s.replayEntryAt n
    have p := s.replaySample e cell
    have now := s.monoNs - later
    have temp := p.temp.getD c.temp
    have ready := if c.started then some c else s.startCtx cell c p
    s.replayCtx cell n (match ready with
      | none => c
      | some k => s.fastCtx now (s.free + fastDraws * n) (replayIn e) cell temp k p)

/-- The context after the fast and health layers have been replayed over the entries that follow its sweep (R146). -/
def State.replayed (s : State) (cell : Nat) (c : Ctx) : Ctx := s.replayCtx cell (s.est.replay.takeWhile (· != c.sweep)).length c

/-! Broken sense wires (R90, R91). -/

/-- Show a node's marks in TTH.WIREn and TTH.NODEn. -/
def State.showWire (s : State) (node : Nat) : State :=
  have mine := s.tth.marks.filter (fun m => m.node == node)
  have bits := (List.range 16).foldl (fun a i => if mine.any (fun m => m.input == i + 1) then a + 2 ^ i else a) 0
  (s.setFld (Reg.TTH_WIRE (node - 1)) 15 0 bits).setBit (Reg.TTH_NODE (node - 1)) 1 (!mine.isEmpty)

/-- Mark cell inputs of a node: TTH_WIRE_SUSPECT, and a test falls due (R90). -/
def State.markWire (s : State) (node : Nat) (inputs : List Nat) (line cause : Nat) : State :=
  have keep := s.tth.marks.filter (fun m =>
    !(m.node == node && inputs.contains m.input && m.line == line && m.cause == cause))
  have new := inputs.map (fun i => ({ node := node, input := i, line := line, cause := cause } : WireMark))
  have s1 : State := { s with tth := { s.tth with
    marks := keep ++ new,
    testsDue := if s.tth.testsDue.contains node then s.tth.testsDue else s.tth.testsDue ++ [node] } }
  (s1.showWire node).strobe Src.TTH_WIRE_SUSPECT
    (cause * 2 ^ 22 + line * 2 ^ 16 + (inputs.headD 1 - 1) % 16 * 2 ^ 8 + node)

/-- The residual of a cell against the fast layer's prediction, 100 µV, where the record holds a value. -/
def State.residual (s : State) (r : RecordIn) (blocks : List Bytes) (node input : Nat) : Option Int :=
  have cell := s.cellOf node input
  match s.ctx cell with
  | none => none
  | some c =>
    have p := s.sampleOf blocks cell
    if cell = 0 || !p.present || !c.started || c.replaying then none
    else
      have t := s.cellTempC cell
      have i := s.cellCurrent r cell
      have c1 := if r.period = 0 then c else s.predict c c.z i (f32OfRat r.period 1000000) t
      have y := f32ToInt .away (-0x100000) 0x100000 10000 (s.predictedV c1 c.z i t)
      some ((p.volt : Int) - y)

/-- Cell inputs in use of a node, as written to INPUTS (R79). -/
def State.inputsUsed (s : State) (node : Nat) : List Nat :=
  ((List.range 16).map (· + 1)).filter (fun m => (s.node node).cellsUsed / 2 ^ (m - 1) % 2 == 1)

/-- The node's cells in use less its stack, 100 µV, when every one was measured. -/
def State.sumError (s : State) (node : Nat) (b : Bytes) : Option Int :=
  have ms := s.inputsUsed node
  if ms.all (fun m => blockCellValid b / 2 ^ (m - 1) % 2 == 1) && !ms.isEmpty then
    some (((ms.map (blockCell b)).sum : Int) - blockStack b)
  else none

/-- A pair of residuals makes the pair signature. -/
def pairSignature (a b : Option Int) : Bool :=
  match a, b with
  | some x, some y => decide (500 ≤ x.natAbs) && decide (500 ≤ y.natAbs) && decide ((x < 0) ≠ (y < 0)) &&
      decide ((x + y).natAbs ≤ 100)
  | _, _ => false

/-- Count a sweep finding; at the third sweep in a row it marks (R90). -/
def State.countSig (s : State) (node key : Nat) (found : Bool) (inputs : List Nat) (line cause : Nat) : State :=
  have k := 64 * node + key
  have n := if found then satInc (tget 0 s.tth.sigs k) 3 else 0
  have before := tget 0 s.tth.sigs k
  have marks := s.tth.marks.map (fun m =>
    if m.node == node && inputs.contains m.input && m.cause == cause && m.line == line then
      { m with absentAt := if found then none else some (m.absentAt.getD s.monoNs) }
    else m)
  have s1 : State := { s with tth := { s.tth with sigs := tset 0 s.tth.sigs k n, marks := marks } }
  if n = 3 ∧ before < 3 then s1.markWire node inputs line cause else s1

/-- The findings of a record for one node. Without a VALID block no finding is in a row any more. -/
def State.wireNode (s : State) (s0 : State) (r : RecordIn) (blocks : List Bytes) (b : Bytes) : State :=
  if blockCode b ≠ 0 then
    { s with tth := { s.tth with sigs := s.tth.sigs.filter (fun p => p.1 / 64 != blockNode b) } }
  else
    have node := blockNode b
    have sum := s0.sumError node b
    have sumOk := match sum with
      | some e => decide (e.natAbs ≤ 200)
      | none => false
    have s1 := (List.range 15).foldl (fun (t : State) i =>
      have found := sumOk && pairSignature (s0.residual r blocks node (i + 1)) (s0.residual r blocks node (i + 2))
      t.countSig node (i + 1) found [i + 1, i + 2] (i + 1) 0) s
    have top := (s0.inputsUsed node).getLastD 1
    s1.countSig node 0 (sum.isSome && !sumOk) (if top = 1 then [1] else [1, top]) 0 1

/-- The findings of a record (R90), judged against the predictions that stand in s0. -/
def State.wireFindings (s s0 : State) (r : RecordIn) (blocks : List Bytes) : State :=
  blocks.foldl (fun (t : State) b => t.wireNode s0 r blocks b) s

/-! Impedance layer (R124, R126, R168 to R170). -/

/-- Record of a cell in the impedance table. -/
def State.impRecord (s : State) (cell : Nat) : Nat := (s.rd Reg.SWP_IMP_BASE).toNat + 144 * (cell - 1)

/-- The place of a cell's input block among those of the burst in hand. -/
def State.burstBlock (s : State) (b : Burst) (cell : Nat) : Option Nat :=
  match s.placeOf cell with
  | none => none
  | some (node, input) =>
    have k := b.inputs.findIdx (fun i => i.node == node && i.input == input - 1)
    if k < b.inputs.length then some k else none

/-- A cell's block of the burst in hand may give valid bins (R124). -/
def State.burstCell (s : State) (b : Burst) (cell : Nat) : Bool :=
  match s.placeOf cell with
  | none => false
  | some (node, input) =>
    !b.absent.contains node && b.inputs.any (fun i =>
      i.node == node && i.input == input - 1 && i.read == 4096 && i.saturated == 0)

/-- The values of 4096 points less their mean, times 4096. -/
def centred (xs : List Int) : List Int :=
  have total := xs.foldl (· + ·) 0
  xs.map (fun x => 4096 * x - total)

/-- The 4096-point transform at index k (R124), real and imaginary part, in 2^-40 of the values' unit. -/
def dft (xs : List Int) (k : Nat) : Int × Int :=
  (xs.zip (List.range xs.length)).foldl (fun acc p =>
    have phase := p.2 * k % 4096 * 2 ^ 20
    (acc.1 + p.1 * cosTurn phase, acc.2 - p.1 * sinTurn phase)) (0, 0)

/-- The points of an input block in 10 µV (Table 3.10). -/
def State.blockPoints (s : State) (k : Nat) : List Int :=
  have a := (s.rd Reg.SWP_BURST_BASE).toNat + blockOffset k
  have base := 10 * (natLE (s.getBytes (a + 2) 2) : Int)
  (List.range 4096).map (fun n => base + signed 16 (natLE (s.getBytes (a + 8 + 2 * n) 2)))

/-- The currents of a burst's points in 2^-149 A. -/
def State.pointCurrents (s : State) : List Int :=
  have a := (s.rd Reg.SWP_BURST_BASE).toNat + 64
  (List.range 4096).map (fun n => f32Exact (s.getWord (a + 4 * n)))

/-- k_b of a bin (Table 3.7). -/
def binIndex (bin : Nat) : Nat := [4, 8, 15, 30, 57, 11, 22, 42, 81, 156, 30, 58, 113, 219, 423, 819].getD (bin - 1) 0

/-- Z_b of a bin, each part rounded to binary32, and whether |I_b| is at least 25 % of the commanded component times 2048
(R124). The manual states no arithmetic: the transforms are exact but for the cosine's reference (DESIGN CHOICE, assumption
234). Without a block or a current the manual gives no value: none. -/
def State.binValue (s : State) (b : Burst) (cell bin : Nat) : Option (Word × Word × Bool) :=
  match s.burstBlock b cell with
  | none => none
  | some k =>
    have x := dft (centred (s.blockPoints k)) (binIndex bin)
    have i := dft (centred s.pointCurrents) (binIndex bin)
    have m := i.1 * i.1 + i.2 * i.2
    have least := 512 * 4096 * cosOne * f32Exact (componentAmp b.band b.amp)
    if m = 0 then none
    else some (f32OfRat ((x.1 * i.1 + x.2 * i.2) * 2 ^ 149) (100000 * m.toNat),
      f32OfRat ((x.2 * i.1 - x.1 * i.2) * 2 ^ 149) (100000 * m.toNat), decide (least * least ≤ m))

/-- One bin of a cell's record (R124, R126): a value that the manual does not give is free. -/
def State.binOf (s : State) (b : Burst) (cell bin : Nat) : State :=
  have a := s.impRecord cell
  have z := (s.binValue b cell bin).getD (s.freeWord, s.drawn.freeWord, false)
  have valid := s.burstCell b cell && z.2.2
  have set := fun (w : Nat) (v : Bool) => w - (if w / 2 ^ (bin - 1) % 2 = 1 then 2 ^ (bin - 1) else 0) +
    (if v then 2 ^ (bin - 1) else 0)
  have s1 := s.drawnBy 2
  have v := natLE (s1.getBytes (a + 4) 2)
  have n := natLE (s1.getBytes (a + 6) 2)
  (((s1.putBytes (a + 4) (bytesLE 2 (set v valid))).putBytes (a + 6) (bytesLE 2 (set n (f32Lt z.1 0)))).putBytes
    (a + 8 + 8 * (bin - 1)) (bytesLE 4 z.1.toNat ++ bytesLE 4 z.2.1.toNat))

/-- Bins of a band, 1 to 16. -/
def bandBinList : Nat → List Nat
  | 0 => [11, 12, 13, 14, 15, 16]
  | 1 => [6, 7, 8, 9, 10]
  | _ => [1, 2, 3, 4, 5]

/-- Number of set bits. -/
def popcount (n bits : Nat) : Nat := ((List.range bits).filter (fun i => n / 2 ^ i % 2 == 1)).length

/-- CELL and FLAGS of a cell's record (Table 3.11). -/
def State.impHead (s : State) (cell : Nat) : State :=
  have a := s.impRecord cell
  have node := ((s.placeOf cell).map (·.1)).getD 0
  have any := natLE (s.getBytes (a + 4) 2) != 0
  have wire := fieldLE (s.getBytes (a + 2) 2) 0 2 / 2 % 2
  s.putBytes a (bytesLE 2 cell ++ bytesLE 2 (b2n any + 2 * wire + 4 * b2n (decide (node ≠ 0) && s.nodeVersion node == 2)))

/-- CELL and FLAGS of every record, as an enumeration leaves them. -/
def State.impHeads (s : State) : State := ((List.range 768).map (· + 1)).foldl State.impHead s

/-- The record of a cell after a burst of a band (R126): a cell at level 4 holds no context and gets no bins (Table 4.3). -/
def State.binsCell (s : State) (b : Burst) (cell : Nat) : State :=
  if (s.ctx cell).isNone then s
  else
    have a := s.impRecord cell
    have s1 := (bandBinList b.band).foldl (fun (t : State) k => t.binOf b cell k) s
    ((s1.putBytes (a + 2) (bytesLE 2 (2 * b2n (s1.cellSuspect cell)))).putBytes (a + 136 + 2 * b.band)
      (bytesLE 2 b.id)).impHead cell

/-- Two or more bins with a negative real part mark the cell and its neighbours within the node (R90). The line of the finding is
that numbered as the cell's input, its lower one (DESIGN CHOICE, assumption 239). -/
def State.impedanceMark (s : State) (cell : Nat) : State :=
  match s.placeOf cell with
  | none => s
  | some (node, input) =>
    if popcount (natLE (s.getBytes (s.impRecord cell + 6) 2)) 16 < 2 then
      { s with tth := { s.tth with marks := s.tth.marks.map (fun m =>
        if m.node == node && m.line == input && m.cause == 2 then
          { m with absentAt := some (m.absentAt.getD s.monoNs) } else m) } }
    else s.markWire node ([input - 1, input, input + 1].filter (fun i =>
      decide (1 ≤ i) && decide (i ≤ 16) && s.cellOf node i != 0)) input 2

/-! The model fit (R168, R169). -/

/-- Complex numbers as pairs, in binary32. -/
def cAdd (a b : Word × Word) : Word × Word := (f32Add a.1 b.1, f32Add a.2 b.2)
def cMul (a b : Word × Word) : Word × Word :=
  (f32Sub (f32Mul a.1 b.1) (f32Mul a.2 b.2), f32Add (f32Mul a.1 b.2) (f32Mul a.2 b.1))
def cAbs2 (a : Word × Word) : Word := f32Add (f32Sq a.1) (f32Sq a.2)
def cDiv (a b : Word × Word) : Word × Word :=
  have m := cAbs2 b
  have n := cMul a (b.1, f32Neg b.2)
  (f32Div n.1 m, f32Div n.2 m)
def cScale (r : Word) (a : Word × Word) : Word × Word := (f32Mul r a.1, f32Mul r a.2)

/-- A binary32 value in turns / 4 as a phase of cosTurn. -/
def quarterPhase (x : Word) : Nat := (f32FloorScaled x (2 ^ 30) 1 % 2 ^ 32).toNat

/-- (j omega)^p: omega^p at p quarter turns, omega^p by exp and log of the special-function unit. -/
def jPow (omega p : Word) : Word × Word :=
  have m := sfuExp (f32Mul p (sfuLog omega))
  cScale m (f32OfRat (cosTurn (quarterPhase p)) (2 ^ 40), f32OfRat (sinTurn (quarterPhase p)) (2 ^ 40))

/-- Z(omega) of the nine parameters L, R_s, R_f, Y_f, beta, R_ct, Y_dl, alpha and A_W (R168). -/
def zModel (q : List Word) (omega : Word) : Word × Word :=
  have v := fun i => q.getD i 0
  have arc := fun (r y e : Word) => cDiv (r, 0) (cAdd (f32One, 0) (cScale (f32Mul r y) (jPow omega e)))
  cAdd (cAdd (cAdd (cAdd (0, f32Mul omega (v 0)) (v 1, 0)) (arc (v 2) (v 3) (v 4))) (arc (v 5) (v 6) (v 7)))
    (cScale (v 8) (jPow omega (f32Neg (f32OfRat 1 2))))

/-- Angular frequency of a bin, rad/s: 2 pi k_b times the rate / 4096 of its band. -/
def binOmega (bin : Nat) : Word :=
  have rate : Nat := if bin ≤ 5 then 100 else if bin ≤ 10 then 1000 else 10000
  f32OfRat (twoPi * (binIndex bin : Int) * (rate : Int)) (4096 * 2 ^ 40)

/-- The weighted RMS residual of parameters over a cell's valid bins, weights 1 / |Z_b|^2 (R168). -/
def State.fitResidual (s : State) (cell : Nat) (q : List Word) : Word :=
  have a := s.impRecord cell
  have valid := natLE (s.getBytes (a + 4) 2)
  have bins := ((List.range 16).map (· + 1)).filter (fun b => valid / 2 ^ (b - 1) % 2 == 1)
  have parts := bins.map (fun b =>
    have z := (s.getWord (a + 8 + 8 * (b - 1)), s.getWord (a + 12 + 8 * (b - 1)))
    have d := zModel q (binOmega b)
    f32Div (cAbs2 (f32Sub d.1 z.1, f32Sub d.2 z.2)) (cAbs2 z))
  f32Sqrt (f32Div (parts.foldl f32Add 0) (f32N bins.length))

/-- An exponent of the model, from 0.5 to 1. -/
def fitExponent (x : Word) : Word := f32Clamp (f32OfRat 1 2) f32One x

/-- The model fit of a cell at levels 0 to 2 (R168, R169). The parameters that the iterations find are free values within the
bounds of alpha and beta; they stand if their residual is at most 5 %, and Re Z_fit at 1000 rad/s (159.2 Hz) observes Rohm25. R_f
and R_ct stand in the context for the full layer, whose states are free. -/
def State.fitCell (s : State) (cell : Nat) : State :=
  match s.ctx cell with
  | none => s
  | some c =>
    have valid := natLE (s.getBytes (s.impRecord cell + 4) 2)
    if 2 < c.level ∨ popcount valid 16 < 6 ∨ popcount (valid / 2 ^ 10) 6 < 3 then s
    else
      have d := s.draws 9
      have low : Bool := valid % 2 ^ 10 = 0
      have old := fun n => c.imp.getD n 0
      have new := fun n => d.1.getD n 0
      have imp := [new 0, new 1, if low then old 2 else new 2, if low then old 3 else new 3,
        if low then old 4 else fitExponent (new 4), new 5, new 6, fitExponent (new 7), if low then old 8 else new 8]
      have t := d.2.drawn
      if !f32Le (s.fitResidual cell imp) (f32OfRat 5 100) then t
      else
        have ratio := f32Div s.rohmRef (milli (s.ecm 5 0 c.z (s.cellTempC cell)))
        have c1 := { c with imp := imp, fitted := true }.observeR (f32Mul (zModel imp (f32N 1000)).1 ratio) 60
          (freeNoise d.2.free)
        t.putChecked cell { c1 with rohmFit := c1.rohm }

end Sys2Proof.Machine
end

