-- ==== Sys2Proof/Machine/EstSlot.lean ====
section
/-!
DEFINITION. The bytes of a context slot and of an estimation unit's local SRAM (R132, Tables 4.1, 4.2), and a checkpoint's
(R144, Table 4.4). Table 4.2 gives the areas of a slot and what stands in each: that its values stand there in the order in which the
table names them, little-endian binary32, is DEDUCED; every other byte is a free value (assumption 242).
-/

namespace Sys2Proof.Machine

/-! Binary16, to nearest, ties to even. -/

/-- A binary32 as binary16. -/
def toHalf (w : Word) : Nat :=
  have sign := if getBit w 31 then 0x8000 else 0
  if f32IsNaN w then sign + 0x7E00
  else if !f32IsFinite w then sign + 0x7C00
  else
    have n := (f32Exact w).natAbs
    have place := max (Nat.log2 n - 10) 125
    have q := n / 2 ^ place
    have r := n % 2 ^ place
    have half := 2 ^ (place - 1)
    have up := decide (half < r) || (r == half && q % 2 == 1)
    sign + min 0x7C00 ((place - 125) * 1024 + q + b2n up)

/-- A binary16 as binary32. -/
def ofHalf (h : Nat) : Word :=
  have neg : Bool := h / 0x8000 % 2 = 1
  have e := h / 1024 % 32
  have m := h % 1024
  if e = 31 then (if m = 0 then f32Inf neg else f32NaN)
  else if e = 0 then f32Round neg m (-24) false
  else f32Round neg (1024 + m) ((e : Int) - 25) false

/-! A context slot. -/

/-- n bytes of an area that the manual does not give, from an offset. -/
def openBytes (draw off n : Nat) : Bytes := (List.range n).map (fun i => Config.slotByte draw (off + i))

/-- Words little-endian. -/
def wordBytes (l : List Word) : Bytes := l.flatMap (fun w => bytesLE 4 w.toNat)

/-- An area of a slot: what it is known to hold, then open bytes. -/
def slotArea (draw off size : Nat) (known : Bytes) : Bytes :=
  known.take size ++ openBytes draw (off + known.length) (size - known.length)

/-- The draw for a context's full-layer areas: they change with the full layer. -/
def Ctx.fullImage (c : Ctx) : Nat := c.full.getD c.image

/-- Flags of a context: full state valid, REINITIALISED (Table 4.4). -/
def Ctx.slotFlags (c : Ctx) : Nat := b2n c.full.isSome + 2 * b2n c.reinit

/-- The covariance of z, va, vb and b, row by row. -/
def Ctx.covRows (c : Ctx) : List Word := (List.range 16).map (fun k => c.p (k / 4) (k % 4))

/-- Bytes 0x0000 to 0x06BF of a cell's slot: header, fast, health, impedance, horizon, learned and full areas. -/
def Ctx.slotHead (c : Ctx) (cell : Nat) : Bytes :=
  slotArea c.image 0 64 (bytesLE 2 cell ++ [BitVec.ofNat 8 c.level, BitVec.ofNat 8 c.slotFlags] ++ bytesLE 2 c.sweep ++
    bytesLE 2 c.ckptSeq) ++
  slotArea c.image 0x40 128 (wordBytes ([c.z, c.va, c.vb, c.b] ++ c.covRows ++ [c.h])) ++
  slotArea c.image 0xC0 128 (wordBytes [c.q, c.rohm, f32Sq c.sigmaQ, 0, 0, f32Sq c.sigmaR, c.through]) ++
  slotArea c.image 0x140 256 (wordBytes c.imp) ++
  slotArea c.image 0x240 256 (wordBytes (c.chg ++ c.dis)) ++
  slotArea c.image 0x340 512 (wordBytes c.degr) ++
  openBytes c.fullImage 0x540 208 ++ slotArea c.fullImage 0x610 48 (wordBytes c.fullX) ++
  openBytes c.fullImage 0x640 128

/-- The covariance factor: 2080 binary32 values, free; those of a rebuilt context have passed through binary16 (R146). -/
def Ctx.factor (c : Ctx) : List Word :=
  (List.range 2080).map (fun i =>
    have w := BitVec.ofNat 32 (natLE (openBytes c.fullImage (0x6C0 + 4 * i) 4))
    if c.widened then ofHalf (toHalf w) else w)

/-- The 10,240 bytes of a cell's slot (Table 4.2). -/
def Ctx.slotBytes (c : Ctx) (cell : Nat) : Bytes :=
  c.slotHead cell ++ wordBytes c.factor ++ openBytes c.image 0x2740 192

/-- A context from bytes 0x0000 to 0x06BF of a slot; what they do not give is as in a fresh context. -/
def Ctx.ofSlot (bs : Bytes) : Ctx :=
  have w := fun (off : Nat) => BitVec.ofNat 32 (fieldLE bs off 4)
  have ws := fun (off n : Nat) => (List.range n).map (fun i => w (off + 4 * i))
  have flags := fieldLE bs 3 1
  have c : Ctx := {
    unit := 0, level := fieldLE bs 2 1, started := true, sweep := fieldLE bs 4 2, ckptSeq := fieldLE bs 6 2,
    z := w 0x40, va := w 0x44, vb := w 0x48, b := w 0x4C, h := w 0x90, q := w 0xC0, rohm := w 0xC4,
    sigmaQ := f32Sqrt (w 0xC8), sigmaR := f32Sqrt (w 0xD4), through := w 0xD8, rohmFit := w 0xC4,
    imp := ws 0x140 9, chg := ws 0x240 4, dis := ws 0x250 4, degr := ws 0x340 12, fullX := ws 0x610 12,
    full := if flags % 2 = 1 then some 0 else none, reinit := flags / 2 % 2 == 1 }
  c.withP (fun i j => w (0x50 + 16 * i + 4 * j))

/-! A unit's local SRAM (Table 4.1). -/

/-- The ingest buffer: the string current of both sweeps, and both samples of each slot's cell. -/
def State.ingestBytes (s : State) (unit : Nat) : Bytes :=
  have samples := (List.range 4).flatMap (fun k =>
    match s.est.ctxs.find? (fun p => p.2.unit == unit && p.2.slot == k) with
    | none => zeros 4
    | some p =>
      have v := ((s.est.ingest.find? (fun q => q.1 == p.1)).map (·.2)).getD (0, 0)
      bytesLE 2 v.1 ++ bytesLE 2 v.2)
  slotArea s.free 0 4096 (wordBytes [s.est.ingestI, s.est.ingestI0] ++ samples)

/-- The 64 KB of a unit: ingest buffer, model tables, work area, slots. -/
def State.localBytes (s : State) (unit : Nat) : Bytes :=
  s.ingestBytes unit ++ openBytes 0 0x1000 8192 ++ openBytes s.free 0x3000 12288 ++
    (List.range 4).flatMap (fun k =>
      match s.est.ctxs.find? (fun p => p.2.unit == unit && p.2.slot == k) with
      | none => openBytes s.free (0x6000 + 10240 * k) 10240
      | some p => p.2.slotBytes p.1)

/-! Checkpoints (R144). -/

/-- The bytes of a checkpoint. -/
def State.ckptBytes (s : State) (cell : Nat) (c : Ctx) : Bytes :=
  have head := bytesLE 2 cell ++ bytesLE 2 c.sweep ++ [BitVec.ofNat 8 c.level, BitVec.ofNat 8 c.slotFlags] ++
    bytesLE 2 c.ckptSeq ++ bytesLE 4 s.tim.mono.sec ++ bytesLE 4 s.tim.mono.ns ++ zeros 12
  have body := c.slotHead cell ++ c.factor.flatMap (fun w => bytesLE 2 (toHalf w)) ++ zeros 224
  head ++ bytesLE 4 (crc32 (head ++ body)).toNat ++ body

/-- Checkpoint a hosted context: its bytes go to its region's staging buffer, then over the cell's checkpoint. -/
def State.checkpoint (s : State) (cell : Nat) : State :=
  match s.ctx cell with
  | none => s
  | some c =>
    if !s.unitLives c.unit then s
    else
      have c1 := { c with ckptSeq := (c.ckptSeq + 1) % 0x10000 }
      have bs := s.ckptBytes cell c1
      have s1 := ((s.putCtx cell c1).putBytes (s.areaBase 9 + 6144 * unitRegion c.unit) bs).putBytes (s.ckptAt cell) bs
      { s1 with est := { s1.est with
        ckpts := s1.est.ckpts.filter (fun p => p.1 != cell) ++ [(cell, { ctx := c1, sweep := c1.sweep })] } }

/-- CHECKPOINT_TIMER (R144). -/
def execCheckpointTimer (cell : Nat) (s : State) : Host.Outcome State Fault Refusal := s.whenVamp <|
  .next (s.checkpoint cell)

/-- Context bytes 0x0040 to 0x013F of every configured cell (Table 16.3); those of a cell without a context are free. -/
def State.fastBytes (s : State) : Bytes :=
  s.cells.flatMap (fun cell =>
    match s.ctx cell with
    | none => openBytes s.free (256 * cell) 256
    | some c => slice (c.slotHead cell) 0x40 256)

end Sys2Proof.Machine
end

