-- ==== Sys2Proof/Machine/EstArray.lean ====
section
/-!
DEFINITION. The array as a whole (chapter 4): its registers and reports, faults of its units, plans taking effect
at a sweep boundary, criticality, exchanges, overloads and raises, checkpoints and rebuilds.
-/

namespace Sys2Proof.Machine

/-! Registers and reports (R154, Tables 4.6, 4.7, 4.11). -/

/-- Contexts that a unit hosts. -/
def State.hostedBy (s : State) (u : Nat) : List (Nat × Ctx) := s.est.ctxs.filter (fun p => p.2.unit == u)

/-- Cells at a level from 0 to 3. -/
def State.atLevel (s : State) (l : Nat) : Nat := (s.est.ctxs.filter (fun p => p.2.level == l)).length

/-- Monitored cells without a context. -/
def State.unhosted (s : State) : List Nat := s.homeless s.layout

/-- Configured cells that are not monitored. -/
def State.unmonitored (s : State) : Nat := s.cellCount - s.est.monitored.length

/-- The EST registers that show the array. -/
def State.showEst (s : State) : State :=
  have l := s.layout
  have live := allUnits.filter s.unitLives
  have hosting := allUnits.filter (fun u => decide (0 < l.count u))
  have idle := allUnits.filter (fun u => s.isSpare u && s.unitLives u && l.count u == 0)
  have s1 := (s.wr Reg.EST_UNITS (BitVec.ofNat 32 (live.length * 2 ^ 16 + hosting.length))).wr Reg.EST_UNITS2
    (BitVec.ofNat 32 (idle.length * 2 ^ 16 + (288 - live.length)))
  have s2 := (s1.wr Reg.EST_LEVEL01 (BitVec.ofNat 32 (s.atLevel 1 * 2 ^ 16 + s.atLevel 0))).wr Reg.EST_LEVEL23
    (BitVec.ofNat 32 (s.atLevel 3 * 2 ^ 16 + s.atLevel 2))
  have s3 := s2.wr Reg.EST_LEVEL4 (BitVec.ofNat 32 (s.unmonitored * 2 ^ 16 + s.unhosted.length))
  have s4 := ((s3.setBit Reg.EST_STAT 10 (!s.est.overloaded.isEmpty)).setBit Reg.EST_STAT 9
    (s.est.ctxs.any (fun p => p.2.rebuilding))).setBit Reg.EST_STAT 8 s.est.deficient
  (List.range 8).foldl (fun (t : State) r =>
    have us := (List.range 36).map (fun i => 36 * r + i)
    have n := (us.map (fun u => l.count u)).sum
    have dead := us.all (fun u => tget 0 s.est.units u == 4)
    (((t.setFld (Reg.EST_REGION r) 31 30 (if dead then 2 else if n = 0 then 0 else 1)).setFld (Reg.EST_REGION r)
      23 16 n).setFld (Reg.EST_REGION r) 15 8 (us.filter s.unitLives).length)) s4

/-- Unit entry of the placement map. -/
def State.mapEntry (s : State) (u : Nat) : Bytes :=
  have hs := s.hostedBy u
  have st := tget 0 s.est.units u
  have load := s.fld (Reg.EST_LOAD (u / 4)) (8 * (u % 4) + 7) (8 * (u % 4))
  have cells := (List.range 4).flatMap (fun i => bytesLE 2 (((hs.find? (fun p => p.2.slot == i)).map (·.1)).getD 0))
  have flags := b2n (hs.any (fun p => p.2.rebuilding)) +
    2 * b2n (hs.any (fun p => unitCluster p.2.home != unitCluster u)) +
    4 * b2n (hs.any (fun p => unitRegion p.2.home != unitRegion u))
  bytesLE 2 u ++ [BitVec.ofNat 8 (b2n (s.isSpare u)),
    BitVec.ofNat 8 (if st ≠ 0 then st else if hs.isEmpty then 0 else 1)] ++ cells ++
    [BitVec.ofNat 8 load, BitVec.ofNat 8 (s.layout.load u), BitVec.ofNat 8 flags, 0]

/-- Full-layer rate of a level in 0.1 Hz. -/
def fullRate : Nat → Nat
  | 0 => 100
  | 1 => 50
  | 2 => 10
  | _ => 0

/-- LEVEL of a cell as the ledger gives it. -/
def State.ledgerLevel (s : State) (cell : Nat) : Nat :=
  match s.ctx cell with
  | some c => c.level
  | none => if s.cellCount < cell then 6 else if s.est.monitored.contains cell then 4 else 5

/-- A cell changed level by exchange less than 60 s ago (R143). -/
def State.inDwell (s : State) (cell : Nat) : Bool :=
  match s.est.exchanged.find? (fun p => p.1 == cell) with
  | none => false
  | some p => decide (s.tim.mono.sec < p.2 + 60)

/-- Cell entry of the fidelity ledger. -/
def State.ledgerEntry (s : State) (cell : Nat) : Bytes :=
  have c := s.ctx cell
  have is := fun (f : Ctx → Bool) => b2n ((c.map f).getD false)
  have flags := is (·.rebuilding) + 2 * is (·.reinit) + 4 * is (fun k => k.borrowed == 1) +
    8 * is (fun k => k.borrowed == 2) + 16 * is (fun k => k.borrowed == 3) + 32 * b2n (s.cellSuspect cell) +
    64 * b2n (s.inDwell cell)
  have lvl := s.ledgerLevel cell
  bytesLE 2 cell ++ [BitVec.ofNat 8 lvl, BitVec.ofNat 8 flags] ++ bytesLE 2 ((c.map (·.unit)).getD 0xFFFF) ++
    bytesLE 2 (s.critOf cell) ++ bytesLE 4 (tget 0 s.est.since cell) ++ bytesLE 2 (fullRate lvl) ++ [0, 0]

/-- Rewrite both reports and count MAP_SEQ (R154). -/
def State.rewriteReports (s : State) : State :=
  have s1 := (s.incWrap Reg.EST_MAP_SEQ).showEst
  have seq := bytesLE 4 (s1.rd Reg.EST_MAP_SEQ).toNat
  have live := (allUnits.filter s1.unitLives).length
  have map := seq ++ bytesLE 4 s1.tim.mono.sec ++ bytesLE 2 live ++ bytesLE 2 (288 - live) ++
    bytesLE 2 s1.est.ctxs.length ++ bytesLE 2 s1.unhosted.length ++ zeros 16 ++ allUnits.flatMap s1.mapEntry
  have ledger := seq ++ (List.range 4).flatMap (fun l => bytesLE 2 (s1.atLevel l)) ++ bytesLE 2 s1.unhosted.length ++
    bytesLE 2 s1.unmonitored ++ [BitVec.ofNat 8 (b2n s1.est.deficient)] ++ zeros 15 ++
    ((List.range 768).map (· + 1)).flatMap s1.ledgerEntry
  (s1.putBytes (s1.rd Reg.EST_MAP_BASE).toNat map).putBytes (s1.rd Reg.EST_LEDGER_BASE).toNat ledger

/-- REPORT_REFRESH (R154): measured loads of the last 1 s, then both reports. -/
def execReportRefresh (loads : List Nat) (s : State) : Host.Outcome State Fault Refusal := s.whenVamp <|
  have s1 := allUnits.foldl (fun (t : State) u =>
    t.setFld (Reg.EST_LOAD (u / 4)) (8 * (u % 4) + 7) (8 * (u % 4)) (min 255 (loads.getD u 0))) s
  .next s1.rewriteReports

/-! Faults (Table 1.5, R129, R131, R135, R148). -/

/-- Units become suspect: their contexts must leave, moves to them are cancelled and moves from them become rebuilds (R148),
and EST_UNIT_SUSPECT strobes once. A unit that already is suspect or failed keeps its state. -/
def State.suspectUnits (s : State) (units : List Nat) (st cause scope : Nat) : State :=
  have new := units.filter s.unitLives
  if new.isEmpty then s
  else
    have s1 : State := { s with est := { s.est with
      units := new.foldl (fun l u => tset 0 l u st) s.est.units,
      leaving := s.est.leaving ++ new.filter (fun u => s.est.ctxs.any (fun p => p.2.unit == u)),
      plan := s.est.plan.map (fun p => { p with
        moves := p.moves.filter (fun m => !(new.contains m.2.2.1)),
        rebuilds := p.rebuilds ++ (p.moves.filter (fun m => new.contains m.2.1)).map (·.1),
        fresh := p.fresh.filter (fun f => !(new.contains f.2.1)) }) } }
    ((s1.showEst).flag Reg.EST_STAT Reg.EST_STAT_COUNT 0).strobe Src.EST_UNIT_SUSPECT
      (cause * 2 ^ 21 + scope * 2 ^ 19 + units.headD 0)

/-- MEM_PARITY_ARRAY (Table 12.12). -/
def State.arrayParity (s : State) (kind unit : Nat) : State :=
  (s.flag Reg.MEM_STAT Reg.MEM_STAT_COUNT0 2).strobe Src.MEM_PARITY_ARRAY (kind * 2 ^ 21 + unit)

/-- EU_LOCAL_PARITY_ERROR (R383, Table 1.5). -/
def execEuLocalParityError (unit : Nat) (s : State) : Host.Outcome State Fault Refusal := s.whenVamp <|
  if unit < 288 then .next ((s.arrayParity 0 unit).suspectUnits [unit] 2 0 0) else .next s

/-- MICROCODE_CHECK (R131): a mismatch marks the unit suspect. -/
def execMicrocodeCheck (unit : Nat) (ok : Bool) (s : State) : Host.Outcome State Fault Refusal := s.whenVamp <|
  if unit < 288 ∧ !ok then .next (s.suspectUnits [unit] 2 1 0) else .next s

/-- The units of cluster c (from 1) of region r (from 1), and of a region. -/
def clusterUnits (r c : Nat) : List Nat := (List.range 9).map (fun i => 36 * (r - 1) + 9 * (c - 1) + i)
def regionUnits (r : Nat) : List Nat := (List.range 36).map (fun i => 36 * (r - 1) + i)

/-- A region and cluster number that exist (R128). -/
def clusterExists (r c : Nat) : Bool := decide (1 ≤ r) && decide (r ≤ 8) && decide (1 ≤ c) && decide (c ≤ 4)

/-- CLUSTER_SCRATCH_PARITY_ERROR (R135): the block is refilled; a second error within 1 s marks the cluster. -/
def execClusterScratchParityError (region cluster : Nat) (s : State) : Host.Outcome State Fault Refusal := s.whenVamp <|
  if !clusterExists region cluster then .next s
  else
    have us := clusterUnits region cluster
    have first := us.headD 0
    have again := match s.est.scratchAt.find? (fun p => p.1 == first) with
      | none => false
      | some p => decide (s.monoNs ≤ p.2 + 1000000000)
    have s1 : State := { s with est := { s.est with
      scratchAt := s.est.scratchAt.filter (fun p => p.1 != first) ++ [(first, s.monoNs)] } }
    if again then .next ((s1.arrayParity 2 first).suspectUnits us 3 2 1) else .next (s1.arrayParity 1 first)

/-- SFU_CHECK_FAIL (Table 1.5). -/
def execSfuCheckFail (region cluster : Nat) (s : State) : Host.Outcome State Fault Refusal := s.whenVamp <|
  if clusterExists region cluster then .next (s.suspectUnits (clusterUnits region cluster) 3 3 1) else .next s

/-- REGION_FAULT (Table 1.5): an ingest-port or scheduler fault. -/
def execRegionFault (region : Nat) (s : State) : Host.Outcome State Fault Refusal := s.whenVamp <|
  if clusterExists region 1 then .next (s.suspectUnits (regionUnits region) 4 4 2) else .next s

/-! Plans (R149, R29). -/

/-- A trigger of R149 stands. -/
def State.planDue (s : State) : Bool :=
  s.est.replanAll || !s.est.leaving.isEmpty || !s.est.overloaded.isEmpty ||
    (s.unhosted.any (fun c => !(s.est.noRoom.contains c)))

/-- PLACEMENT_PLAN (R149): the plan takes effect at the next sweep boundary. -/
def execPlacementPlan (s : State) : Host.Outcome State Fault Refusal := s.whenVamp <|
  if !s.planDue then .next s
  else
    have kept : State := { s with est := { s.est with
      ctxs := s.est.ctxs.filter (fun p => s.est.monitored.contains p.1) } }
    .next { s with est := { s.est with plan := some kept.makePlan, replanAll := false } }

/-- A plan changes nothing. -/
def Plan.isEmpty (p : Plan) : Bool :=
  p.moves.isEmpty && p.fresh.isEmpty && p.levels.isEmpty && p.unhosted.isEmpty

/-- A move: cell, source, destination and step of R150. -/
abbrev Move := Nat × Nat × Nat × Nat

/-- The lowest free slot of a unit (Table 4.1). -/
def State.freeSlot (s : State) (u : Nat) : Nat :=
  ((List.range 4).find? (fun k => !((s.hostedBy u).any (fun p => p.2.slot == k)))).getD 0

/-- Move a context to a unit by a step of R150; step 0 is a fresh placement. -/
def State.moveCtx (s : State) (m : Move) (rebuild : Bool) : State :=
  match s.ctx m.1 with
  | none => s
  | some c =>
    have c1 := { c with unit := m.2.2.1, slot := s.freeSlot m.2.2.1, borrowed := min m.2.2.2 3,
                        home := if m.2.2.2 = 0 then m.2.2.1 else c.home }
    s.putCtx m.1 (if rebuild then s.rebuildCtx c1 m.1 else c1)

/-- A move is a rebuild: planned so, or its source is dead (R148). -/
def State.rebuilds (s : State) (planned : List Nat) (m : Move) : Bool :=
  planned.contains m.1 || (match s.ctx m.1 with
    | none => false
    | some c => !s.unitLives c.unit)

/-- Apply a plan's moves whose destination has room (R138): every rebuild, and at most n live moves (R148): the state, what was
applied, and what is left. A move to a dead unit is cancelled. -/
def State.applyMoves (planned : List Nat) : List Move → Nat → State → State × List Move × List Move
  | [], _, s => (s, [], [])
  | m :: rest, n, s =>
    have dead := s.rebuilds planned m
    if !s.unitLives m.2.2.1 || (s.ctx m.1).isNone then State.applyMoves planned rest n s
    else if s.room s.layout m.2.2.1 (s.levelOf m.1) && (dead || decide (0 < n)) then
      have r := State.applyMoves planned rest (if dead then n else n - 1) (s.moveCtx m dead)
      (r.1, m :: r.2.1, r.2.2)
    else
      have r := State.applyMoves planned rest n s
      (r.1, r.2.1, m :: r.2.2)

/-- Moves that each wait for the next one's slot, from the one that a chain ends with: closed to a ring, or ended at a unit that
no move leaves. -/
def ringOf (ms : List Move) : Nat → List Move → Option (List Move)
  | 0, _ => none
  | n + 1, chain =>
    match chain.getLast? with
    | none => none
    | some m =>
      match chain.findIdx? (fun x => x.2.1 == m.2.2.1), ms.find? (fun x => x.2.1 == m.2.2.1) with
      | some k, _ => some (chain.drop k)
      | none, none => some chain
      | none, some x => ringOf ms n (chain ++ [x])

/-- Moves at one boundary that wait for each other's slots: all leave, then all arrive. -/
def State.moveRing (s : State) (planned : List Nat) (ms : List Move) : State :=
  have out := ms.foldl (fun (t : State) m =>
    match t.ctx m.1 with
    | none => t
    | some c => t.putCtx m.1 { c with unit := noUnit }) s
  ms.foldl (fun (t : State) m => t.moveCtx m (s.rebuilds planned m)) out

/-- Both bounds of R138 hold on every unit. -/
def Layout.within (l : Layout) : Bool :=
  allUnits.all (fun u => decide (l.count u ≤ 4) && decide (l.load u ≤ 100))

/-- One sweep's moves; when each waits for another's slot, a ring of them that keeps the bounds (DEDUCED, assumption 33). -/
def State.sweepMoves (s : State) (planned : List Nat) (ms : List Move) : State × List Move × List Move :=
  have r := State.applyMoves planned ms 32 s
  if !r.2.1.isEmpty || r.2.2.isEmpty then r
  else
    match ms.findSome? (fun m => (ringOf ms 32 [m]).filter (fun ring => (s.moveRing planned ring).layout.within)) with
    | none => r
    | some ring => (s.moveRing planned ring, ring, ms.filter (fun m => !ring.contains m))

/-- A cell takes a level (R139): from level 3 upwards the full layer restarts from the fast layer's z, with the initial states and
deviations of Table 5.4. -/
def State.setLevel (s : State) (cell level : Nat) : State :=
  match s.ctx cell with
  | none => s
  | some c =>
    if c.level = level then s
    else
      have c1 := { c with level := level }
      have x := s.initFull cell c.degr
      have c2 := if c.level = 3 then
        { c1 with full := none, fullSoc := c.z, fullSd := startSd, fullX := x.1, fullS := x.2, tCore := s.cellTemp cell,
                  stale := true, reinit := true, fullDue := true } else c1
      have s1 := s.putCtx cell c2
      { s1 with est := { s1.est with since := tset 0 s1.est.since cell s1.tim.mono.sec } }

/-- Level changes: those that lower a cell, then those that raise one where its unit keeps the bounds; what is left. -/
def State.setLevels (s : State) (ls : List (Nat × Nat)) : State × List (Nat × Nat) :=
  ls.foldl (fun a l =>
    have t := a.1
    have fits := match t.ctx l.1 with
      | none => true
      | some c => decide (c.level ≤ l.2) ||
          decide (t.layout.load c.unit - levelLoad c.level + levelLoad l.2 ≤ 100)
    if fits then (t.setLevel l.1 l.2, a.2) else (t, a.2 ++ [l])) (s, [])

/-- A context that starts from the Last at takeover (R482), without replay: the time since is one prediction step, whose length
and current the manual does not give: what it changes is free. A checkpoint 10 s old or older re-anchors; one without a covariance
factor starts the full layer afresh. -/
def State.lastCtx (s : State) (f : Nat × Nat × Nat) (k : Ckpt) : Ctx × State :=
  have d := s.draws 12
  have at_ := fun n => d.1.getD n 0
  have l := k.ctx
  have x := s.initFull f.1 l.degr
  have c : Ctx := { l with
    unit := f.2.1, home := f.2.1, slot := s.freeSlot f.2.1, level := f.2.2, started := true,
    z := at_ 0, va := at_ 1, vb := at_ 2, h := at_ 3, var := [at_ 4, at_ 5, at_ 6, l.var.getD 3 0],
    cov := [at_ 7, at_ 8, at_ 9, at_ 10, at_ 11, l.cov.getD 5 0], fullSoc := at_ 0, fullSd := f32Sqrt (at_ 4),
    fullX := if l.full.isSome then l.fullX else x.1, fullS := x.2, tCore := s.cellTemp f.1, temp := s.cellTemp f.1,
    full := l.full.map (fun _ => d.2.free), window := some (at_ 0, f32Sqrt (at_ 4), 0, s.monoNs), usableAt := s.monoNs,
    sweep := k.sweep, predicted := true, fullDue := decide (f.2.2 ≤ 2), horizonDue := true, reinit := l.full.isNone }
  (if k.good then c else c.reanchor s.monoNs, d.2.drawnBy 1)

/-- A cell starts a context on a unit: afresh, or at takeover from its checkpoint of the Last. -/
def State.hostCell (s : State) (f : Nat × Nat × Nat) : State :=
  have c : Ctx := { unit := f.2.1, home := f.2.1, slot := s.freeSlot f.2.1, level := f.2.2, usableAt := s.monoNs }
  have k := if s.supply.takeover then (s.est.ckpts.find? (fun p => p.1 == f.1)).map (·.2) else none
  have r := match k with
    | none => (c, s)
    | some x => s.lastCtx f x
  have t : State := r.2
  { t with est := { t.est with
    ctxs := (t.est.ctxs.filter (fun p => p.1 != f.1) ++ [(f.1, r.1)]).mergeSort (fun a b => decide (a.1 ≤ b.1)),
    ckpts := if k.isSome then t.est.ckpts.filter (fun p => p.1 != f.1) else t.est.ckpts,
    noRoom := t.est.noRoom.filter (· != f.1), since := tset 0 t.est.since f.1 t.tim.mono.sec } }

/-- Cells start where their unit has room (R138); what is left. A start on a dead unit is cancelled. -/
def State.hostCells (s : State) (fs : List (Nat × Nat × Nat)) : State × List (Nat × Nat × Nat) :=
  fs.foldl (fun a f =>
    if !a.1.unitLives f.2.1 then a
    else if a.1.room a.1.layout f.2.1 f.2.2 then (a.1.hostCell f, a.2)
    else (a.1, a.2 ++ [f])) (s, [])

/-- A cell loses its context; its learned values stand as they are, stale (Table 5.10). -/
def State.unhostCell (s : State) (cell : Nat) : State :=
  have l := { s.learnedNow cell with stale := true }
  { s with est := { s.est with
    ctxs := s.est.ctxs.filter (fun p => p.1 != cell), noRoom := s.est.noRoom ++ [cell],
    learned := s.est.learned.filter (fun p => p.1 != cell) ++ [(cell, l)],
    since := tset 0 s.est.since cell s.tim.mono.sec } }

/-- EST_BORROW_x per source unit and step (R150, R156). -/
def State.borrowEvents (s : State) (ms : List (Nat × Nat × Nat × Nat)) : State :=
  have keys := ((ms.filter (fun m => m.2.2.2 != 0)).map (fun m => (m.2.1, m.2.2.2))).eraseDups
  keys.foldl (fun (t : State) k =>
    have mine := ms.filter (fun m => m.2.1 == k.1 && m.2.2.2 == k.2)
    have dst := (mine.map (fun m => m.2.2.1)).headD 0
    have src := if k.2 = 1 then Src.EST_BORROW_CLUSTER else if k.2 = 2 then Src.EST_BORROW_REGION
      else Src.EST_BORROW_DIE
    (t.flag Reg.EST_STAT Reg.EST_STAT_COUNT 1).strobe src (min 7 mine.length * 2 ^ 18 + dst * 2 ^ 9 + k.1)) s

/-- Enter or leave the estimator-deficient condition (R141). -/
def State.judgeDeficient (s : State) : State :=
  have d := !s.unhosted.isEmpty
  if d = s.est.deficient then s
  else
    have s1 : State := { s with est := { s.est with deficient := d } }
    (s1.setBit Reg.EST_STAT 8 d).strobe Src.EST_DEFICIENT (b2n d * 2 ^ 23 + s1.unhosted.length)

/-- The event of one move of fidelity: cell, old and new level. -/
def State.fidelityEvent (s : State) (src : Nat) (d : Nat × Nat × Nat) : State :=
  s.strobe src (d.1 * 2 ^ 21 + min 1023 d.2.1 * 2 ^ 10 + d.2.2)

/-- Fidelity events of a plan (R151, R153). -/
def State.fidelityEvents (s : State) (p : Plan) : State :=
  have lowered := p.levels.any (fun l => decide (s.levelOf l.1 < l.2)) || !p.unhosted.isEmpty
  have s1 := if lowered then s.flag Reg.EST_STAT Reg.EST_STAT_COUNT 2 else s
  p.ups.foldl (fun t d => t.fidelityEvent Src.EST_FIDELITY_UP d)
    (p.downs.foldl (fun t d => t.fidelityEvent Src.EST_FIDELITY_DOWN d) s1)

/-- A plan takes effect (R29, R149): cells leave and are lowered, contexts move and start where there is room, cells rise; what
the bounds of R138 do not admit yet stays planned. EST_PLACEMENT, its events, both reports and, the first time after a commit, a
journal trigger (R182). -/
def State.applyPlan (s : State) (p : Plan) : State :=
  have s0 : State := { s with est := { s.est with plan := none } }
  have s1 := s0.fidelityEvents p
  have s2 := p.unhosted.foldl State.unhostCell s1
  have down := (p.levels.filter (fun l => decide (s2.levelOf l.1 ≤ l.2)))
  have s3 := (s2.setLevels down).1
  have r := s3.sweepMoves p.rebuilds p.moves
  have h := r.1.hostCells p.fresh
  have g := h.1.setLevels (p.levels.filter (fun l => !down.contains l))
  have rest : Plan := { moves := r.2.2, rebuilds := p.rebuilds, fresh := h.2, levels := g.2 }
  have s5 : State := g.1
  have s6 : State := { s5 with est := { s5.est with
    plan := if rest.isEmpty then none else some rest,
    overloaded := s5.est.overloaded.filter (fun u => !p.relieved.contains u),
    leaving := s5.est.leaving.filter (fun u => s5.est.ctxs.any (fun c => c.2.unit == u)) } }
  have s7 := (s6.borrowEvents r.2.1).judgeDeficient.rewriteReports
  have s8 := s7.strobe Src.EST_PLACEMENT (min 255 r.2.1.length * 2 ^ 16 + s7.fld Reg.EST_MAP_SEQ 15 0)
  if s8.est.placed then s8
  else ({ s8 with est := { s8.est with placed := true } }).journalTrigger 3

/-- Cells that are no longer monitored release their contexts (R141). -/
def State.releaseCells (s : State) : State :=
  { s with est := { s.est with ctxs := s.est.ctxs.filter (fun p => s.est.monitored.contains p.1) } }

/-- LEARNED_RESET takes effect: the cells start from defaults. -/
def State.applyResets (s : State) : State :=
  have s1 : State := { s with est := { s.est with
    learned := s.est.learned.filter (fun p => !(s.est.resetDue.contains p.1)), resetDue := [] } }
  s.est.resetDue.foldl (fun (t : State) cell =>
    match t.ctx cell with
    | none => t
    | some c => if c.started then t.putCtx cell (t.reinitCtx c cell) else t) s1

/-- Tick period of a level, ns: the full and horizon layers, and at level 3 the equivalent-circuit limits. -/
def tickPeriod : Nat → Nat
  | 1 => 200000000
  | 2 => 1000000000
  | _ => 100000000

/-- Ticks on a delivered record (R162). -/
def State.ticks (s : State) : State :=
  have now := s.monoNs
  { s with est := { s.est with ctxs := s.est.ctxs.map (fun p =>
    have c := p.2
    have per := tickPeriod c.level
    have due := decide (per < s.sweepPeriod) || decide (now / per ≠ c.lastTick / per)
    (p.1, { c with lastTick := now, horizonDue := c.horizonDue || due,
                   fullDue := c.fullDue || (due && decide (c.level ≤ 2)) })) } }

/-! Criticality, exchanges, overloads and raises (R142, R143, R152, R153). -/

/-- 1 - d / (0.25 (hi - lo)), clamped, for a value between limits. -/
def closeness (v lo hi : Word) : Word :=
  have d := f32Min (f32Sub hi v) (f32Sub v lo)
  f32Clamp 0 f32One (f32Sub f32One (f32Div d (f32Mul (f32OfRat 1 4) (f32Sub hi lo))))

/-- The score of a cell (R142). -/
def State.score (s : State) (cell : Nat) : Nat :=
  have c := s.ctx cell
  have flagged := s.cellSuspect cell || (match c with
    | none => false
    | some k => k.rebuilding || k.reinit || (match k.reanchoredAt with
      | none => false
      | some t => decide (s.monoNs < t + 600000000000)))
  if flagged then 65535
  else
    have u := match c with
      | none => 0
      | some k => f32Clamp 0 f32One (f32Div (if k.level ≤ 2 then k.fullSd else f32Sqrt (k.var.getD 0 0)) (f32OfRat 5 100))
    have pv := closeness (voltOf (tget 0 s.est.volts cell)) (s.cfgW 10 0 1 0) (s.cfgW 10 0 0 0)
    have pt := closeness (s.cellTempC cell) (s.cfgW 10 1 1 0) (s.cfgW 10 1 0 0)
    (f32ToInt .away 0 65535 65535 (f32Max u (f32Max pv pt))).toNat

/-- Two cells may exchange their levels (R143). -/
def State.mayExchange (s : State) (a b : Nat) : Bool :=
  match s.ctx b with
  | none => false
  | some cb =>
    have lb := cb.level
    have la := s.levelOf a
    have l := s.layout
    have fits := fun (u old new : Nat) => decide (l.load u - levelLoad old + levelLoad new ≤ 100)
    have room := match s.ctx a with
      | none => true
      | some ca => if ca.unit = cb.unit then true else fits ca.unit la lb && fits cb.unit lb la
    decide (lb < la) && decide (s.critOf b + 8192 ≤ s.critOf a) && !s.inDwell a && !s.inDwell b && room

/-- Key of an ordered pair of cells in the lead table. -/
def pairKey (a b : Nat) : Nat := 1024 * a + b

/-- Pairs (lower cell, higher cell) that R143 compares. -/
def State.leadPairs (s : State) : List (Nat × Nat) :=
  s.est.monitored.flatMap (fun a => (s.est.ctxs.filter (fun p =>
    decide (p.2.level < s.levelOf a) && decide (s.critOf p.1 + 8192 ≤ s.critOf a))).map (fun p => (a, p.1)))

/-- The plan that exchanges the levels of two cells (R143): with an unhosted cell the place changes hands. -/
def State.exchangePlan (s : State) (a b : Nat) : Plan :=
  match s.ctx a, s.ctx b with
  | _, none => {}
  | none, some cb => { unhosted := [b], fresh := [(a, cb.unit, cb.level)] }
  | some ca, some cb => { levels := [(a, cb.level), (b, ca.level)] }

/-- The exchange that falls due (R143): of the pairs whose lead has held, the highest-scoring lower cell with the lowest-scoring
higher one. -/
def State.exchangeDue (s : State) : Option (Nat × Nat) :=
  have ripe := (s.leadPairs.filter (fun p => s.est.lead.any (fun q => q.1 == pairKey p.1 p.2 && decide (11 ≤ q.2)))).filter
    (fun p => s.mayExchange p.1 p.2)
  (s.highest (ripe.map (·.1))).bind (fun a =>
    (s.lowest ((ripe.filter (fun p => p.1 == a)).map (·.2))).map (fun b => (a, b)))

/-- At most one exchange at a sweep boundary, where no other plan is in hand. -/
def State.exchangeStep (s : State) : State :=
  match s.est.plan, s.exchangeDue with
  | none, some (a, b) =>
    have at_ := fun (l : List (Nat × Nat)) (k : Nat) => l.filter (fun q => q.1 != k) ++ [(k, s.tim.mono.sec)]
    have t : State := { s with est := { s.est with exchanged := at_ (at_ s.est.exchanged a) b } }
    t.applyPlan (s.exchangePlan a b)
  | _, _ => s

/-- CRITICALITY_SCORE (R142, R143): scores, and the seconds for which each pair's lead has held. -/
def execCriticalityScore (s : State) : Host.Outcome State Fault Refusal := s.whenVamp <|
  have scores := s.est.monitored.map (fun c => (c, s.score c))
  have s1 : State := { s with est := { s.est with
    crit := scores.foldl (fun l p => tset 0 l p.1 p.2) [] } }
  have lead := s1.leadPairs.map (fun p => (pairKey p.1 p.2,
    satInc (((s1.est.lead.find? (fun q => q.1 == pairKey p.1 p.2)).map (·.2)).getD 0) 11))
  .next { s1 with est := { s1.est with lead := lead } }

/-- LOAD_WINDOW (R152): the units whose load exceeded 100 units over 10 s. -/
def execLoadWindow (units : List Nat) (s : State) : Host.Outcome State Fault Refusal := s.whenVamp <|
  have new := (units.filter (fun u => s.unitLives u && !(s.hostedBy u).isEmpty)).filter
    (fun u => !(s.est.overloaded.contains u))
  .next ({ s with est := { s.est with overloaded := s.est.overloaded ++ new } }).showEst

/-- FIDELITY_RAISE (R153): one cell, not one raised in the last 10 s. -/
def execFidelityRaise (s : State) : Host.Outcome State Fault Refusal := s.whenVamp <|
  have now := s.tim.mono.sec
  have recent := fun (c : Nat) => s.est.raised.any (fun p => p.1 == c && decide (now < p.2 + 10))
  have cells := s.est.monitored.filter (fun c => !recent c && (s.raiseUnit c).isSome)
  if s.est.plan.isSome || s.est.replanAll || !s.est.leaving.isEmpty || !s.est.overloaded.isEmpty then .next s
  else
    match s.highest cells with
    | none => .next s
    | some c =>
      have l := s.levelOf c
      have p : Plan := match s.ctx c with
        | some _ => { levels := [(c, l - 1)], ups := [(l - 1, 1, c)] }
        | none => { fresh := [(c, (s.raiseUnit c).getD 0, 3)], ups := [(3, 1, c)] }
      .next { s with est := { s.est with
        plan := some p, raised := s.est.raised.filter (fun q => q.1 != c) ++ [(c, now)] } }

/-- n free bytes. -/
def State.freeBytes (s : State) (n : Nat) : Bytes × State :=
  have d := State.draws (n / 4) s
  (d.1.flatMap (fun w => bytesLE 4 w.toNat), d.2)

/-! The sweep boundary (R29, R104, R136). -/

/-- Rebuilt contexts whose replay has caught up join the live sweeps; their full and horizon layers are owed (R146). -/
def State.joinRebuilt (s : State) : State :=
  { s with est := { s.est with ctxs := s.est.ctxs.map (fun p =>
    (p.1, if p.2.joining then
      { p.2 with joining := false, replaying := false, fullDue := decide (p.2.level ≤ 2), horizonDue := true } else p.2)) } }

/-- The ingest ports' masks: the cells that their regions host (R136). -/
def State.takeMasks (s : State) : State :=
  { s with est := { s.est with masks := s.est.ctxs.map (fun p => (unitRegion p.2.unit, p.1)) } }

/-- The pending plan takes effect; a release frees room, which is a plan change too. -/
def State.takePlan (s : State) (freed : Bool) : State :=
  match s.est.plan with
  | none => if freed then s.applyPlan {} else s
  | some p =>
    if freed || !p.isEmpty then s.applyPlan p
    else { s with est := { s.est with
      plan := none, overloaded := s.est.overloaded.filter (fun u => !p.relieved.contains u) } }

/-- What changes at a sweep boundary in the array. -/
def State.estBoundary (s : State) : State :=
  have s1 := s.releaseCells
  have freed : Bool := s1.est.ctxs.length ≠ s.est.ctxs.length
  ((s1.takePlan freed).exchangeStep.judgeDeficient.joinRebuilt.applyResets.ticks).takeMasks.journalBoundary.recBoundary

/-! Rebuilds and the layers that tick. In a unit, replay for a rebuild comes before the full layer, the full layer before the
horizon layer, and that before the full replay of a rebuild; the live fast layer comes before them all (R136). -/

/-- The live fast layer or a replay still runs on a unit. -/
def State.fastBusy (s : State) (u : Nat) : Bool :=
  s.est.delivered || (s.hostedBy u).any (fun p => p.2.replaying && !p.2.joining)

/-- A live full layer is due on a unit. -/
def State.fullBusy (s : State) (u : Nat) : Bool :=
  (s.hostedBy u).any (fun p => p.2.fullDue && !p.2.rebuilding && p.2.started && decide (p.2.level ≤ 2))

/-- A live horizon layer is due on a unit. -/
def State.horizonBusy (s : State) (u : Nat) : Bool :=
  (s.hostedBy u).any (fun p => p.2.horizonDue && !p.2.rebuilding && p.2.started)

/-- CONTEXT_REBUILD_DONE (R146): the fast and health layers have replayed the entries that follow the checkpoint; the context
joins at the next sweep boundary. -/
def execContextRebuildDone (cell : Nat) (s : State) : Host.Outcome State Fault Refusal := s.whenVamp <|
  match s.ctx cell with
  | none => .next s
  | some c =>
    if !c.replaying || c.joining || !s.unitLives c.unit || s.est.delivered then .next s
    else .next (((s.drawnBy (fastDraws * 1250)).putChecked cell { s.replayed cell c with joining := true }).showEst)

/-- A limit of the full model: a free number of steps, at most 256, and a free cause of those that apply. -/
def fullLimit (max_ n k : Word) (causes : List Nat) : Word × Nat :=
  have steps := n.toNat % 257
  (f32Mul (f32N steps) (f32Div max_ (f32N 256)), if steps = 256 then 0 else causes.getD (k.toNat % causes.length) 1)

/-- HORIZON_LAYER_COMPLETE (R173, R174): the four horizons of a cell. At levels 0 to 2 the forward simulation is
the full model's, whose arithmetic the manual does not state: free values within the manual's bounds. A rebuilt context's
horizon layer follows its full replay. -/
def execHorizonLayerComplete (cell : Nat) (s : State) : Host.Outcome State Fault Refusal := s.whenVamp <|
  match s.ctx cell with
  | none => .next s
  | some c =>
    if !c.horizonDue || c.replaying || !c.started || !s.unitLives c.unit || s.fastBusy c.unit || s.fullBusy c.unit ||
        (c.rebuilding && c.fullDue) then .next s
    else if c.level = 3 then
      have chg := (List.range 4).map (fun h => s.ecLimit cell c true h s.ecMargin)
      have dis := (List.range 4).map (fun h => s.ecLimit cell c false h s.ecMargin)
      .next ((s.putChecked cell { c with
        chg := chg.map (·.1), dis := dis.map (·.1), chgCause := chg.map (·.2), disCause := dis.map (·.2),
        horizonDue := false, rebuilding := false }).showEst)
    else
      have d := s.draws 16
      have at_ := fun n => d.1.getD n 0
      have chg := (List.range 4).map (fun h => fullLimit s.iChgMax (at_ h) (at_ (h + 4)) [1, 2, 3, 4])
      have dis := (List.range 4).map (fun h => fullLimit s.iDisMax (at_ (h + 8)) (at_ (h + 12)) [1, 2, 4])
      .next ((d.2.putChecked cell { c with
        chg := chg.map (·.1), dis := dis.map (·.1), chgCause := chg.map (·.2), disCause := dis.map (·.2),
        horizonDue := false, rebuilding := false }).showEst)

/-- FULL_LAYER_COMPLETE (R159): the fast layer takes the full layer's SoC and variance, and the covariances of z
become 0. What the filter finds is free. -/
def execFullLayerComplete (cell : Nat) (s : State) : Host.Outcome State Fault Refusal := s.whenVamp <|
  match s.ctx cell with
  | none => .next s
  | some c =>
    if !c.fullDue || c.replaying || !c.started || 2 < c.level || !s.unitLives c.unit || s.fastBusy c.unit ||
        (c.rebuilding && (s.fullBusy c.unit || s.horizonBusy c.unit)) then .next s
    else
      have d := s.draws 39
      have at_ := fun n => d.1.getD n 0
      have c1 := { c with
        full := some d.2.free, fullSoc := at_ 0, fullSd := at_ 1, tCore := signed 16 (at_ 2).toNat,
        degr := (d.1.drop 3).take 12, fullX := (d.1.drop 15).take 12, fullS := (d.1.drop 27).take 12, widened := false, stale := false,
        z := at_ 0, var := setAt c.var 0 (f32Sq (at_ 1)),
        cov := [0, 0, 0] ++ c.cov.drop 3, fullDue := false, fullReanchor := false, fullAnchor := false,
        reinit := false }
      .next ((d.2.drawnBy 2176).putChecked cell c1)

end Sys2Proof.Machine
end

