-- ==== Sys2Proof/Machine/LineCode.lean ====
section
/-!
DEFINITION. The line code of the Tether chain (R50, R52, R53), the PCS port (R226, R228, R229) and the partner link (R475, R476):
8b/10b code groups with running disparity, the symbols of Table 2.3, heartbeat slots stripped, and the frames that a receiver
takes from a line. A code group is a number of ten
bits, the bit sent first the highest; none is a symbol time without a symbol.
-/

namespace Sys2Proof.Machine

/-- What a symbol time carries (Table 2.3). -/
inductive LineSymbol where
  | data (b : Byte)
  | idle
  | sd
  | ed
  | abort
  | hb
  | rhb
  | at1
  | at2
deriving DecidableEq, Repr

/-- The six-bit sub-blocks abcdei of D.0 to D.31 at negative disparity (IEEE 802.3 Clause 36; PRESUMED, assumption 220). -/
def fiveSix : List Nat :=
  [39, 29, 45, 49, 53, 41, 25, 56, 57, 37, 21, 52, 13, 44, 28, 23, 27, 35, 19, 50, 11, 42, 26, 58, 51, 38, 22, 54, 14, 46, 30,
    43]

/-- The four-bit sub-blocks fghj of D.x.0 to D.x.7 at negative disparity. -/
def threeFour : List Nat := [11, 9, 5, 12, 13, 10, 6, 14]

/-- The number of ones among the low bits of a number. -/
def ones (n bits : Nat) : Nat := ((List.range bits).filter (fun i => n / 2 ^ i % 2 == 1)).length

/-- A sub-block of a table, for a disparity: turned over at positive disparity where it is unbalanced, or where it is the
balanced one with two forms (D.7, D.x.3). -/
def subBlock (table : List Nat) (bits two : Nat) (rd : Bool) (x : Nat) : Nat :=
  have w := table.getD x 0
  if rd && (decide (2 * ones w bits ≠ bits) || x == two) then 2 ^ bits - 1 - w else w

/-- Disparity after a sub-block. -/
def rdAfter (rd : Bool) (w bits : Nat) : Bool :=
  if 2 * ones w bits = bits then rd else decide (bits < 2 * ones w bits)

/-- The code group of a data byte, and the disparity after it: D.x.A7 replaces D.x.P7 where five equal bits would stand. -/
def dataGroup (rd : Bool) (b : Byte) : Nat × Bool :=
  have x := b.toNat % 32
  have y := b.toNat / 32
  have six := subBlock fiveSix 6 7 rd x
  have rd1 := rdAfter rd six 6
  have alt := decide (y = 7) && (if rd1 then [11, 13, 14] else [17, 18, 20]).contains x
  have four := if alt then (if rd1 then 8 else 7) else subBlock threeFour 4 3 rd1 y
  (16 * six + four, rdAfter rd1 four 4)

/-- The special code groups of Table 2.3 at negative disparity. -/
def specialGroups : List (LineSymbol × Nat) :=
  [(.idle, 0x0FA), (.sd, 0x368), (.ed, 0x2E8), (.abort, 0x1E8), (.hb, 0x0F9), (.rhb, 0x0F2), (.at1, 0x0F5), (.at2, 0x0F6)]

/-- The code group of a symbol, and the disparity after it. -/
def codeGroup (rd : Bool) (y : LineSymbol) : Nat × Bool :=
  match y with
  | .data b => dataGroup rd b
  | y =>
    have w := ((specialGroups.find? (fun p => p.1 == y)).map (·.2)).getD 0
    (if rd then 1023 - w else w, if ones w 10 = 5 then rd else !rd)

/-- The code groups of some symbols from a disparity on. -/
def lineGroups (rd : Bool) : List LineSymbol → List Nat
  | [] => []
  | y :: rest => (codeGroup rd y).1 :: lineGroups (codeGroup rd y).2 rest

/-- The symbols of a frame (Table 2.5). -/
def frameSymbols (frame : Bytes) : List LineSymbol := .sd :: frame.map LineSymbol.data ++ [.ed]

/-- The code groups that carry a frame. The disparity at its start depends on how many IDLE symbols went before. -/
def frameGroups (rd : Bool) (frame : Bytes) : List (Option Nat) := (lineGroups rd (frameSymbols frame)).map some

/-- The symbol of a code group at a disparity, and the disparity after it; none for a code or disparity error. -/
def readGroup (rd : Bool) (g : Nat) : Option (LineSymbol × Bool) :=
  match specialGroups.find? (fun p => (if rd then 1023 - p.2 else p.2) == g) with
  | some p => some (p.1, (codeGroup rd p.1).2)
  | none =>
    match (List.range 32).find? (fun x => subBlock fiveSix 6 7 rd x == g / 16) with
    | none => none
    | some x =>
      match (List.range 8).find? (fun y => (dataGroup rd (BitVec.ofNat 8 (32 * y + x))).1 == g) with
      | none => none
      | some y => some (.data (BitVec.ofNat 8 (32 * y + x)), (dataGroup rd (BitVec.ofNat 8 (32 * y + x))).2)

/-! Receiving. -/

/-- What a receiver takes from a line: an accepted frame's header, payload and CRC, or a discard with its reason (Table
2.16) and the bytes that had come. -/
inductive FrameEnd where
  | good (frame : Bytes)
  | discard (reason : Nat) (got : Bytes)
deriving DecidableEq, Repr

/-- A receiver: hunting for an SD, or in a frame with its disparity, bytes (newest first), idle symbol times, and the first
symbol of a slot that may have begun. -/
inductive Receiver where
  | hunt
  | frame (rd : Bool) (got : Bytes) (idle : Nat) (slot : Option LineSymbol)
deriving DecidableEq, Repr

/-- The disparity before an SD, where a code group is one. -/
def sdDisparity (g : Option Nat) : Option Bool :=
  if g = some (codeGroup false .sd).1 then some false
  else if g = some (codeGroup true .sd).1 then some true else none

/-- The second symbol of a slot. -/
def slotSecond : LineSymbol → Option LineSymbol
  | .hb | .rhb => some .idle
  | .at1 => some .at2
  | _ => none

/-- The CRC-16 of R64 stands right at a frame's end. -/
def crcRight (frame : Bytes) : Bool :=
  decide (4 ≤ frame.length) && crc16 (frame.take (frame.length - 2)) == fieldBE frame (frame.length - 2) 2

/-- A line: whether it carries slots, the most data bytes of a frame, and why a frame's bytes are discarded at its ED, 0 if they are
not. -/
structure LineKind where
  slots : Bool
  most : Nat
  judge : Bytes → Nat

/-- A port of the chain (R52, R53). -/
def chainLine : LineKind := { slots := true, most := 68, judge := fun frame => if crcRight frame then 0 else 2 }

/-- The PCS port (R229): length, CRC and FORMAT. -/
def pcsLine : LineKind :=
  { slots := false, most := 32,
    judge := fun frame =>
      if frame.length ≠ 32 then 4 else if !crcRight frame then 2 else if fieldLE frame 0 1 ≠ 1 then 7 else 0 }

/-- The partner link (R476): header, payload and CRC-32 in at most 4112 bytes. -/
def partnerLine : LineKind :=
  { slots := false, most := 4112,
    judge := fun frame => if frame.length < 16 then 4 else if crcHolds frame then 0 else 2 }

/-- One more idle symbol time in a frame: more than two end it (R53). -/
def idleTime (rd : Bool) (got : Bytes) (idle : Nat) : Receiver × Option FrameEnd :=
  if 2 ≤ idle then (.hunt, some (.discard 1 got.reverse)) else (.frame rd got (idle + 1) none, none)

/-- A symbol time in a frame, no slot having begun (R52, R53). -/
def frameTime (l : LineKind) (rd : Bool) (got : Bytes) (idle : Nat) (g : Option Nat) : Receiver × Option FrameEnd :=
  match g with
  | none => idleTime rd got idle
  | some w =>
    match readGroup rd w with
    | none =>
      match sdDisparity g with
      | some r => (.frame r [] 0 none, some (.discard 3 got.reverse))
      | none => (.hunt, some (.discard 3 got.reverse))
    | some (y, rd1) =>
      match y with
      | .data b => if l.most ≤ got.length then (.hunt, some (.discard 4 (b :: got).reverse)) else (.frame rd1 (b :: got) idle none, none)
      | .sd => (.frame rd1 [] 0 none, some (.discard 6 got.reverse))
      | .ed =>
        have why := l.judge got.reverse
        (.hunt, some (if why = 0 then .good got.reverse else .discard why got.reverse))
      | .abort => (.hunt, some (.discard 5 got.reverse))
      | .hb | .rhb | .at1 =>
        if l.slots then (.frame rd1 got idle (some y), none) else (.hunt, some (.discard 3 got.reverse))
      | .idle | .at2 => idleTime rd1 got idle

/-- A symbol time at a receiver. A slot is stripped when its second symbol follows its first (R52); without it the first
symbol's time carried no data. -/
def Receiver.time (l : LineKind) (r : Receiver) (g : Option Nat) : Receiver × List FrameEnd :=
  match r with
  | .hunt =>
    match sdDisparity g with
    | some rd => (.frame (codeGroup rd .sd).2 [] 0 none, [])
    | none => (.hunt, [])
  | .frame rd got idle none => ((frameTime l rd got idle g).1, (frameTime l rd got idle g).2.toList)
  | .frame rd got idle (some y) =>
    match g.bind (readGroup rd), slotSecond y with
    | some (z, rd1), some e =>
      if z = e then (.frame rd1 got idle none, [])
      else
        match idleTime rd got idle with
        | (.frame rd2 got2 idle2 _, _) => ((frameTime l rd2 got2 idle2 g).1, (frameTime l rd2 got2 idle2 g).2.toList)
        | (.hunt, e2) => (.hunt, e2.toList)
    | _, _ =>
      match idleTime rd got idle with
      | (.frame rd2 got2 idle2 _, _) => ((frameTime l rd2 got2 idle2 g).1, (frameTime l rd2 got2 idle2 g).2.toList)
      | (.hunt, e2) => (.hunt, e2.toList)

/-- What a receiver takes from some symbol times; a line that falls silent in a frame is idle. -/
def Receiver.run (l : LineKind) (r : Receiver) : List (Option Nat) → List FrameEnd
  | [] =>
    match r with
    | .hunt => []
    | .frame _ got _ _ => [.discard 1 got.reverse]
  | g :: rest => (r.time l g).2 ++ (r.time l g).1.run l rest

/-- The frames of a line's code groups. -/
def lineFrames (l : LineKind) (groups : List (Option Nat)) : List FrameEnd := Receiver.hunt.run l groups

end Sys2Proof.Machine
end

