-- ==== Sys2Proof/Machine/CanCore.lean ====
section
/-!
DEFINITION. CAN FD controllers (chapter 14): elements, windows, transmit slots, error state, sleep and
network time. Reception, which hands frames to Welt and to stations, and bus-off stand in Can.
-/

namespace Sys2Proof.Machine

/-- A controller's record. -/
def State.canCtl (s : State) (n : Nat) : CanCtl := tget {} s.can n

/-- The state with a controller's record set. -/
def State.setCanCtl (s : State) (n : Nat) (c : CanCtl) : State := { s with can := tset {} s.can n c }

/-! Elements. -/

/-- Data bytes of a DLC; classical frames carry at most 8 (ISO 11898-1). -/
def dlcLength (fdf : Bool) (dlc : Nat) : Nat :=
  have n := [0, 1, 2, 3, 4, 5, 6, 7, 8, 12, 16, 20, 24, 32, 48, 64].getD dlc 64
  if fdf then n else min n 8

/-- The least DLC that carries a length. -/
def lengthDlc (len : Nat) : Nat :=
  ((List.range 16).find? (fun d => decide (len ≤ dlcLength true d))).getD 15

/-- Word i of an element. -/
def eltWord (e : Bytes) (i : Nat) : Word := BitVec.ofNat 32 (fieldLE e (4 * i) 4)

/-- Word 0 of an element: VALID, IDE, RTR and ID (Table 14.1). -/
def eltHead (valid ide rtr : Bool) (id : Nat) : Nat :=
  b2n valid * 2 ^ 31 + b2n ide * 2 ^ 30 + b2n rtr * 2 ^ 29 + id % 2 ^ 29

/-- A transmit element as firmware builds one. -/
def txElement (ide fdf brs : Bool) (id : Nat) (data : Bytes) : Bytes :=
  bytesLE 4 (eltHead true ide false id) ++
  bytesLE 4 (b2n fdf * 2 ^ 31 + b2n brs * 2 ^ 30 + lengthDlc data.length * 2 ^ 24) ++ zeros 24 ++
  padTo 96 data

/-- The time base of a controller's CANT. -/
def State.cant (s : State) (n : Nat) : Stamp :=
  match n with
  | 0 => s.tim.cant0
  | 1 => s.tim.cant1
  | 2 => s.tim.cant2
  | _ => s.tim.cant3

/-- Set a controller's CANT to a number of ns. -/
def State.setCant (s : State) (n ns : Nat) : State :=
  have t := Stamp.ofNs ns
  match n with
  | 0 => { s with tim := { s.tim with cant0 := t } }
  | 1 => { s with tim := { s.tim with cant1 := t } }
  | 2 => { s with tim := { s.tim with cant2 := t } }
  | _ => { s with tim := { s.tim with cant3 := t } }

/-- How far a frame's stamp may lie from the sample point of its SOF, ns: 4 ns and one nominal time quantum (R433). -/
def State.canStampBound (s : State) (n : Nat) : Nat := 4 + (s.fld (Reg.CAN_NBT n) 31 24 + 1) * 25 / 2

/-- The stamp of a base for a SOF some ns ago: true within canStampBound, by a free deviation (R433). -/
def State.canStamp (s : State) (n ago : Nat) (t : Stamp) : Stamp :=
  have b := s.canStampBound n
  Stamp.ofNs (t.total + s.freeWord.toNat % (2 * b + 1) - b - ago)

/-- A received element (Table 14.1, R433); the sample point of its SOF lies ago ns back. -/
def State.rxElement (s : State) (n id : Nat) (ide rtr fdf brs esi : Bool) (dlc hit ago : Nat) (data : Bytes) : Bytes :=
  have c := s.canStamp n ago (s.cant n)
  have m := s.canStamp n ago s.tim.mono
  bytesLE 4 (eltHead true ide rtr id) ++
  bytesLE 4 (b2n fdf * 2 ^ 31 + b2n brs * 2 ^ 30 + b2n esi * 2 ^ 29 + dlc % 16 * 2 ^ 24 + hit * 2 ^ 16) ++
  bytesLE 4 c.sec ++ bytesLE 4 c.ns ++ bytesLE 4 m.sec ++ bytesLE 4 m.ns ++
  zeros 8 ++ padTo 64 (data.take (if rtr then 0 else dlcLength fdf dlc)) ++ zeros 32

/-! Operating state. -/

/-- OPMODE of a controller (R427). -/
def State.canMode (s : State) (n : Nat) : Nat := s.fld (Reg.CAN_MODE n) 31 30

/-- The controller runs: committed, and in Run, Stop or Safe (R427). -/
def State.canRuns (s : State) (n : Nat) : Bool :=
  decide (n < 4) && (s.canCtl n).committed && (s.mode == .run || s.mode == .stop || s.mode == .safe) &&
    s.canMode n != 0

/-- The level of CANn_STB (R427, R441): high before the commit, in Off, Boot and Standby, and in a sleep that any dominant
edge ends; low else. -/
def State.canStb (s : State) (n : Nat) : Bool :=
  !(s.canCtl n).committed || !(s.mode == .run || s.mode == .stop || s.mode == .safe) ||
    ((s.canCtl n).sleeping && !s.bit (Reg.CAN_MODE n) 26)

/-- The controller may transmit: normal or loopback, awake, not bus-off. -/
def State.canSends (s : State) (n : Nat) : Bool :=
  s.canRuns n && (s.canMode n == 1 || s.canMode n == 3) && !(s.canCtl n).sleeping && s.fld (Reg.CAN_ERR n) 31 30 < 2

/-- CANn_STATUS with a cause (R445). -/
def State.canStatus (s : State) (n cause low : Nat) : State :=
  s.strobe (Src.CAN_STATUS n) (cause * 2 ^ 21 + low)

/-- A flag of CANn.STAT. -/
def State.canFlag (s : State) (n b : Nat) : State := s.flag (Reg.CAN_STAT n) (Reg.CAN_STAT_COUNT0 n) b

/-! Transmit slots. -/

/-- Status of a slot (Table 14.2). -/
def State.slotStatus (s : State) (n k : Nat) : Nat :=
  s.fld (Reg.CAN_TX_RESULT n (k / 8)) (4 * (k % 8) + 3) (4 * (k % 8))

/-- A slot is requested or on the bus. -/
def State.slotBusy (s : State) (n k : Nat) : Bool := s.slotStatus n k == 1 || s.slotStatus n k == 2

/-- Set a slot's status; TX_PENDING and TX_LAST.FREE follow. -/
def State.setSlotStatus (s : State) (n k v : Nat) : State :=
  have s1 := s.setFld (Reg.CAN_TX_RESULT n (k / 8)) (4 * (k % 8) + 3) (4 * (k % 8)) v
  have busy := (List.range 32).filter (fun j => s1.slotBusy n j)
  (s1.wr (Reg.CAN_TX_PENDING n) (BitVec.ofNat 32 ((busy.map (fun j => 2 ^ j)).sum))).setFld (Reg.CAN_TX_LAST n) 13 8
    (32 - busy.length)

/-- A slot completes (R438): CANn_TX_DONE, and the transmit queue has room. -/
def State.slotDone (s : State) (n k v : Nat) : State :=
  match (s.canCtl n).slots.find? (fun p => p.1 == k) with
  | none => s
  | some (_, sl) =>
    have user := getBits (eltWord sl.element 1) 15 0
    have s1 := s.setSlotStatus n k v
    (s1.strobe (Src.CAN_TX_DONE n) (v * 2 ^ 21 + k * 2 ^ 16 + user)).dmaRequest (8 + n)

/-- An element that R436 calls invalid. -/
def State.badElement (s : State) (n : Nat) (e : Bytes) : Bool :=
  have fdf := getBit (eltWord e 1) 31
  (fdf && !s.bit (Reg.CAN_MODE n) 29) || (getBit (eltWord e 0) 29 && fdf) || (getBit (eltWord e 1) 30 && !fdf)

/-- CANT has reached TX_AT of an element (R437). -/
def State.txAtPassed (s : State) (n : Nat) (e : Bytes) : Bool :=
  decide ((eltWord e 6).toNat * 1000000000 + (eltWord e 7).toNat ≤ (s.cant n).sec % 2 ^ 32 * 1000000000 + (s.cant n).ns)

/-- Request a slot with an element: invalid elements are rejected at once (R436). -/
def State.requestSlot (s : State) (n k : Nat) (e : Bytes) : State :=
  have c := s.canCtl n
  have sl : CanSlot := { element := e, order := c.requests, due := !getBit (eltWord e 1) 23 || s.txAtPassed n e }
  have s1 := s.setCanCtl n { c with
    slots := c.slots.filter (fun (p : Nat × CanSlot) => p.1 != k) ++ [(k, sl)], requests := c.requests + 1 }
  if s1.badElement n e then s1.slotDone n k 7 else s1.setSlotStatus n k 1

/-- Push an element into the lowest free slot (R436). -/
def State.canPush (s : State) (n : Nat) (e : Bytes) : State :=
  match (List.range 32).find? (fun k => !s.slotBusy n k) with
  | none => s.canFlag n 7
  | some k => (s.requestSlot n k e).setFld (Reg.CAN_TX_LAST n) 20 16 k

/-- CAN_TX_PUSH (R436): the element written in the push window since the previous push. -/
def execCanTxPush (n : Nat) (value : Word) (s : State) : Host.Outcome State Fault Refusal := s.whenVamp <|
  have c := s.canCtl n
  have word := fun (i : Nat) => if i = 31 then value else tget 0 c.txWin i
  have e := (List.range 32).flatMap (fun i => bytesLE 4 (word i).toNat)
  .next (if n < 4 then (s.setCanCtl n { c with txWin := [] }).canPush n e else s)

/-- CAN_TX_REQ (R436, R438): completed slots that hold an element are requested again; those that TX_CANCEL names in the
same cycle are cancelled with no transmission. -/
def execCanTxReq (n : Nat) (bits cancel : Word) (s : State) : Host.Outcome State Fault Refusal := s.whenVamp <|
  .next ((List.range 32).foldl (fun t k =>
    match (t.canCtl n).slots.find? (fun p => p.1 == k) with
    | some (_, sl) =>
      if getBit bits k && decide (3 ≤ t.slotStatus n k) then
        (if getBit cancel k then t.slotDone n k 4 else t.requestSlot n k sl.element)
      else t
    | none => t) s)

/-- Change the record of a slot. -/
def State.mapSlot (s : State) (n k : Nat) (f : CanSlot → CanSlot) : State :=
  have c := s.canCtl n
  s.setCanCtl n { c with slots := c.slots.map (fun (p : Nat × CanSlot) => if p.1 == k then (p.1, f p.2) else p) }

/-- CAN_TX_CANCEL (R438): onBus is the slot whose frame is on the bus now, if one is. -/
def execCanTxCancel (n : Nat) (bits : Word) (onBus : Option Nat) (s : State) :
    Host.Outcome State Fault Refusal := s.whenVamp <|
  .next ((List.range 32).foldl (fun t k =>
    if getBit bits k && t.slotBusy n k then
      if onBus == some k then (t.setSlotStatus n k 2).mapSlot n k (fun sl => { sl with cancel := true })
      else t.slotDone n k 4
    else t) s)

/-- The arbitration order of a slot (R436): push order, or the identifier as 29 bits and then the slot. -/
def State.slotKey (s : State) (n k : Nat) (sl : CanSlot) : Nat :=
  if s.bit (Reg.CAN_MODE n) 28 then sl.order
  else
    have w := eltWord sl.element 0
    (if getBit w 30 then getBits w 28 0 else getBits w 10 0 * 2 ^ 18) * 32 + k

/-- Slot k may be the one that entered arbitration: it is requested and due, and no slot requested before
it goes first (R436). -/
def State.mayArbitrate (s : State) (n k : Nat) : Bool :=
  match (s.canCtl n).slots.find? (fun p => p.1 == k) with
  | none => false
  | some (_, sl) =>
    s.slotBusy n k && sl.due && (s.canCtl n).slots.all (fun p =>
      !(s.slotBusy n p.1 && p.2.due && decide (p.2.order < sl.order)) ||
        decide (s.slotKey n k sl ≤ s.slotKey n p.1 p.2))

/-! Error state. -/

/-- The error state that counters give (ISO 11898-1): 0 active, 1 passive, 2 bus-off. -/
def errorState (tec rcv : Nat) : Nat := if 256 ≤ tec then 2 else if 128 ≤ tec ∨ 128 ≤ rcv then 1 else 0

/-- Set the error counters; a change of state sets its flag and strobes CANn_STATUS (R439). -/
def State.canCounters (s : State) (n tec rcv : Nat) : State :=
  have old := s.fld (Reg.CAN_ERR n) 31 30
  have new := if old = 3 then 3 else errorState tec rcv
  have s1 := ((s.setFld (Reg.CAN_ERR n) 16 8 (min 511 tec)).setFld (Reg.CAN_ERR n) 24 17 (min 255 rcv)).setFld
    (Reg.CAN_ERR n) 31 30 new
  if new = old then s1
  else
    have s2 := s1.setBit (Reg.CAN_STAT n) 8 (new == 2)
    have s3 := if new = 1 then s2.canFlag n 1 else if new = 2 then s2.canFlag n 2 else s2
    s3.canStatus n 0 new

/-- A frame sent or received without error brings its counter down by one; a receive counter above 127 goes to a value from
119 to 127, which is free (ISO 11898-1). -/
def State.canGood (s : State) (n : Nat) (transmit : Bool) : State :=
  have tec := s.fld (Reg.CAN_ERR n) 16 8
  have rcv := s.fld (Reg.CAN_ERR n) 24 17
  if transmit then s.canCounters n (tec - 1) rcv
  else if 127 < rcv then s.drawn.canCounters n tec (119 + s.freeWord.toNat % 9)
  else s.canCounters n tec (rcv - 1)

/-! Windows. -/

/-- FILL of the FIFOs follows. -/
def State.showFill (s : State) (n : Nat) : State :=
  have c := s.canCtl n
  (s.setFld (Reg.CAN_RXF_STAT n) 6 0 c.fifo0.length).setFld (Reg.CAN_RXF_STAT n) 13 8 c.fifo1.length

/-- The element at the head of a window: 0 and 1 the FIFOs, 2 + b buffer b. -/
def CanCtl.head (c : CanCtl) (win : Nat) : Option Bytes :=
  match win with
  | 0 => c.fifo0.head?
  | 1 => c.fifo1.head?
  | b => (c.bufs.find? (fun p => p.1 == b - 2)).map (·.2)

/-- CAN_RX_LATCH (R431): a read of word 0 latches the head element whole. -/
def State.canLatch (s : State) (n win : Nat) : State :=
  have c := s.canCtl n
  have rest := c.latch.filter (fun (p : Nat × Bytes) => p.1 != win)
  match c.head win with
  | none => s.setCanCtl n { c with latch := rest }
  | some e => s.setCanCtl n { c with latch := rest ++ [(win, e)], renewed := c.renewed.filter (· != win) }

/-- CAN_RX_LATCH (R431). -/
def execCanRxLatch (n win : Nat) (s : State) : Host.Outcome State Fault Refusal := s.whenVamp <|
  .next (if n < 4 ∧ win < 10 then s.canLatch n win else s)

/-- CAN_RX_RELEASE (R431): the FIFO is popped or the buffer freed; a buffer that a newer frame has
overwritten since the latch keeps that frame. -/
def State.canRelease (s : State) (n win : Nat) : State :=
  have c := s.canCtl n
  have c1 := { c with latch := c.latch.filter (fun (p : Nat × Bytes) => p.1 != win) }
  match win with
  | 0 => (s.setCanCtl n { c1 with fifo0 := c.fifo0.tail }).showFill n
  | 1 => (s.setCanCtl n { c1 with fifo1 := c.fifo1.tail }).showFill n
  | b =>
    if c.renewed.contains b then s.setCanCtl n { c1 with renewed := c.renewed.filter (· != b) }
    else (s.setCanCtl n { c1 with bufs := c.bufs.filter (fun (p : Nat × Bytes) => p.1 != b - 2) }).setBit
      (Reg.CAN_BUF_FLAG n) (16 + (b - 2)) false

/-- CAN_RX_RELEASE (R431): a window that held nothing at its latch releases nothing. -/
def execCanRxRelease (n win : Nat) (s : State) : Host.Outcome State Fault Refusal := s.whenVamp <|
  .next (if n < 4 ∧ win < 10 ∧ (s.canCtl n).latch.any (fun p => p.1 == win) then s.canRelease n win else s)

/-- A word read from a receive window: the latched element's, 0 when nothing is latched (R431). -/
def State.canWindow (s : State) (n win i : Nat) : Word :=
  match (s.canCtl n).latch.find? (fun p => p.1 == win) with
  | some (_, e) => eltWord e i
  | none => 0

/-- Store an element in a FIFO (R434). -/
def State.canFifo (s : State) (n k : Nat) (e : Bytes) : State :=
  have c := s.canCtl n
  have q := if k = 0 then c.fifo0 else c.fifo1
  have detail := fun (t : State) (overflow : Bool) (fill : Nat) =>
    k * 2 ^ 23 + b2n overflow * 2 ^ 22 + fill * 2 ^ 8 + t.fld (Reg.CAN_RXF_STAT n) (23 + 8 * k) (16 + 8 * k)
  if (if k = 0 then 64 else 32) ≤ q.length then
    have s1 := (s.incFld (Reg.CAN_RXF_STAT n) (23 + 8 * k) (16 + 8 * k)).canFlag n 0
    s1.strobe (Src.CAN_RX_FIFO n) (detail s1 true q.length)
  else
    have c1 := if k = 0 then { c with fifo0 := q ++ [e] } else { c with fifo1 := q ++ [e] }
    have s1 := ((s.setCanCtl n c1).showFill n).dmaRequest (4 * k + n)
    if q.isEmpty then s1.strobe (Src.CAN_RX_FIFO n) (detail s1 false 1) else s1

/-- Buffers contribute to CANn_RX_BUFFER, at most once per 10 µs (R445). -/
def State.canBufferEvent (s : State) (n b : Nat) (overwrote : Bool) : State :=
  have c := s.canCtl n
  have c1 := { c with filled := Nat.lor c.filled (2 ^ b),
                      overwritten := if overwrote then Nat.lor c.overwritten (2 ^ b) else c.overwritten }
  if c.holdOff then s.setCanCtl n c1
  else (s.setCanCtl n { c1 with holdOff := true, filled := 0, overwritten := 0 }).strobe (Src.CAN_RX_BUFFER n)
    (c1.overwritten * 2 ^ 8 + c1.filled)

/-- CAN_RX_BUFFER_HOLDOFF_END (R445). -/
def execCanRxBufferHoldoffEnd (n : Nat) (s : State) : Host.Outcome State Fault Refusal := s.whenVamp <|
  have c := s.canCtl n
  if c.filled = 0 then .next (s.setCanCtl n { c with holdOff := false })
  else .next ((s.setCanCtl n { c with filled := 0, overwritten := 0 }).strobe (Src.CAN_RX_BUFFER n)
    (c.overwritten * 2 ^ 8 + c.filled))

/-- Store an element in a dedicated buffer (R435): a full buffer is overwritten. -/
def State.canBuffer (s : State) (n b : Nat) (e : Bytes) : State :=
  have c := s.canCtl n
  have full := c.bufs.any (fun p => p.1 == b)
  have latched := c.latch.any (fun p => p.1 == b + 2)
  have c1 := { c with bufs := c.bufs.filter (fun (p : Nat × Bytes) => p.1 != b) ++ [(b, e)],
                      renewed := if full && latched then (b + 2) :: c.renewed.filter (· != b + 2) else c.renewed }
  have s1 := if full then (s.setCanCtl n c1).incFld (Reg.CAN_BUF_OVW n) (4 * b + 3) (4 * b) else s.setCanCtl n c1
  have s2 := ((s1.setBit (Reg.CAN_BUF_FLAG n) (16 + b) true).flag (Reg.CAN_BUF_FLAG n) (Reg.CAN_BUF_COUNT0 n) b).dmaRequest
    (12 + n)
  if s2.bit (Reg.CAN_BUF_ENABLE n) b then s2.canBufferEvent n b full else s2

/-- Where a received frame is stored. -/
inductive CanDest where
  | reject
  | fifo (k : Nat)
  | buffer (b : Nat)
  | station
deriving DecidableEq, Repr

/-- The destination of a frame and its MATCH field (R432). -/
def State.canMatch (s : State) (n id : Nat) (ide rtr : Bool) : CanDest × Nat :=
  have used := fun (b : Nat) => have w := s.rd (Reg.CAN_BUF_CFG n b)
    getBit w 31 && getBit w 29 == ide && getBits w 28 0 == id && !rtr
  match (List.range 8).find? used with
  | some b => (.buffer b, 0x40 + b)
  | none =>
    have hits := fun (f : Nat) =>
      have i := s.rd (Reg.CAN_FLT_ID n f)
      have m := s.rd (Reg.CAN_FLT_MASK n f)
      getBit m 31 && getBit i 29 == ide && Nat.land (Nat.xor id (getBits i 28 0)) (getBits m 28 0) == 0
    match (List.range 64).find? hits with
    | some f =>
      match s.fld (Reg.CAN_FLT_ID n f) 31 30 with
      | 0 => (.reject, f)
      | 1 => (.fifo 0, f)
      | 2 => (.fifo 1, f)
      | _ => (.station, f)
    | none =>
      match s.fld (Reg.CAN_MODE n) 25 24 with
      | 1 => (.fifo 0, 0x7F)
      | 2 => (.fifo 1, 0x7F)
      | _ => (.reject, 0x7F)

/-! Network time (R442, R443). -/

/-- ROLE of a controller: 0 off, 1 follower, 2 master. -/
def State.ttRole (s : State) (n : Nat) : Nat := s.fld (Reg.CAN_TT_CFG n) 31 30

/-- PERIOD_NS. -/
def State.ttPeriod (s : State) (n : Nat) : Nat := (s.rd (Reg.CAN_TT_PERIOD n)).toNat

/-- CAN_REFERENCE_DUE (R442): CANT has reached the next whole multiple of PERIOD_NS and the master's reference leaves now,
late by what arbitration delayed it; its SOF sets CANT. In loopback CANn_TX stays recessive (R427). -/
def execCanReferenceDue (n : Nat) (s : State) : Host.Outcome State Fault Refusal := s.whenVamp <|
  have c := s.canCtl n
  have k := c.cycle + 1
  have due := k * s.ttPeriod n
  if s.canSends n && s.ttRole n == 2 && decide (due ≤ (s.cant n).total) then
    have w := s.rd (Reg.CAN_TT_CFG n)
    have late := ((s.cant n).total - due) / 1000
    have s0 := s.setCanCtl n { c with cycle := k }
    have s1 := if s.canMode n = 3 then s0
      else s0.emit (.canFrame n (txElement (getBit w 29) false false (getBits w 28 0) [BitVec.ofNat 8 (k % 64)]))
    have s2 := (s1.setCant n due).setFld (Reg.CAN_TT_STAT n) 5 0 (k % 64)
    .next (((s2.setBit (Reg.CAN_TT_STAT n) 31 true).setBit (Reg.CAN_TT_STAT n) 30 true).setFld (Reg.CAN_TT_STAT n) 15 8
      (max (s.fld (Reg.CAN_TT_STAT n) 15 8) (min 255 late)))
  else .next s

/-- CAN_REFERENCE_LOST (R443): 3 periods without a reference. -/
def execCanReferenceLost (n : Nat) (s : State) : Host.Outcome State Fault Refusal := s.whenVamp <|
  have c := s.canCtl n
  if s.canRuns n && s.ttRole n == 1 && !c.refLost then
    have s1 := (s.setCanCtl n { c with refLost := true }).setBit (Reg.CAN_TT_STAT n) 31 false
    .next ((s1.canFlag n 5).canStatus n 5 0)
  else .next s

/-- CAN_REFERENCE_RECEIVE (R442, R443): a follower sets CANT from the extended count at the sample point of the message's
SOF, ago ns back; a master that hears another's reference becomes a follower. -/
def State.canReference (s : State) (n count ago : Nat) : State :=
  have s0 := if s.ttRole n = 2 then
      (((s.setFld (Reg.CAN_TT_CFG n) 31 30 1).setBit (Reg.CAN_TT_STAT n) 30 false).canFlag n 6).canStatus n 7 0
    else s
  have c := s0.canCtl n
  have k := if c.refSeen then c.cycle + (count + 64 - c.cycle % 64) % 64 else count
  have s1 := s0.setCanCtl n { c with cycle := k, refSeen := true, refLost := false }
  have s2 := s1.setCant n (k * s1.ttPeriod n + ago)
  have s3 := (s2.setFld (Reg.CAN_TT_STAT n) 5 0 (k % 64)).setBit (Reg.CAN_TT_STAT n) 31 true
  if c.refLost then s3.canStatus n 6 (k % 64) else s3

/-- A frame is a reference message of this controller. -/
def State.isReference (s : State) (n id : Nat) (ide rtr fdf : Bool) (dlc : Nat) : Bool :=
  have w := s.rd (Reg.CAN_TT_CFG n)
  s.ttRole n != 0 && getBit w 29 == ide && getBits w 28 0 == id && !rtr && !fdf && dlc == 1

/-! Timed requests, recovery, sleep, commit. -/

/-- CAN_TIMED_TX_DUE (R437): CANT reaches TX_AT. -/
def execCanTimedTxDue (n slot : Nat) (s : State) : Host.Outcome State Fault Refusal := s.whenVamp <|
  .next (s.mapSlot n slot (fun sl => { sl with due := sl.due || s.txAtPassed n sl.element }))

/-- CAN_RECOVER (R439): bus-off recovery starts. -/
def execCanRecover (n : Nat) (s : State) : Host.Outcome State Fault Refusal := s.whenVamp <|
  if n < 4 ∧ s.fld (Reg.CAN_ERR n) 31 30 = 2 then
    .next ((s.setFld (Reg.CAN_ERR n) 31 30 3).setFld (Reg.CAN_ERR n) 7 0 0)
  else .next s

/-- CAN_BUSOFF_RECOVERED (R439): 128 sequences of 11 recessive bits end recovery. -/
def execCanBusoffRecovered (n : Nat) (s : State) : Host.Outcome State Fault Refusal := s.whenVamp <|
  if n < 4 ∧ s.fld (Reg.CAN_ERR n) 31 30 = 3 then
    .next (((s.setFld (Reg.CAN_ERR n) 31 0 128).setBit (Reg.CAN_STAT n) 8 false).canStatus n 1 0)
  else .next s

/-- CAN_SLEEP_REQ (R441): sleep at the next bus idle, but for a wake condition in the same cycle. -/
def execCanSleepReq (n : Nat) (wake : Bool) (s : State) : Host.Outcome State Fault Refusal := s.whenVamp <|
  if s.canRuns n && !(s.canCtl n).sleeping && !wake then
    .next (((s.setCanCtl n { s.canCtl n with sleeping := true }).setBit (Reg.CAN_STAT n) 9 true).canStatus n 4 0)
  else .next s

/-- Waking (R441): cause 3 with how it came. -/
def State.canWake (s : State) (n how : Nat) : State :=
  if (s.canCtl n).sleeping then
    (((s.setCanCtl n { s.canCtl n with sleeping := false }).setBit (Reg.CAN_STAT n) 9 false).canFlag n 4).canStatus n 3 how
  else s

/-- CAN_WAKE_REQ (R441). -/
def execCanWakeReq (n : Nat) (s : State) : Host.Outcome State Fault Refusal := s.whenVamp <|
  .next (s.canWake n 0)

/-- CAN_WAKE_DETECT (R441): a dominant period of WAKE_FILTER µs without a break wakes a sleep of kind 0, a wake frame one of
kind 1. -/
def execCanWakeDetect (n : Nat) (frame : Bool) (dominantUs : Nat) (s : State) : Host.Outcome State Fault Refusal :=
  s.whenVamp <|
  have wakes := frame || decide (s.fld (Reg.CAN_MODE n) 15 8 ≤ dominantUs)
  .next (if s.bit (Reg.CAN_MODE n) 26 == frame && wakes then s.canWake n (b2n frame) else s)

/-- CAN_COMMIT (R444): RWL registers close until the next start and the controller runs as configured. -/
def execCanCommit (n : Nat) (value : Word) (s : State) : Host.Outcome State Fault Refusal := s.whenVamp <|
  .next (if n < 4 ∧ getBit value 0 then s.setCanCtl n { s.canCtl n with committed := true } else s)

end Sys2Proof.Machine
end

