-- ==== Sys2Proof/Machine/SafCore.lean ====
section
/-!
DEFINITION. The safety channels' shared operations (R250 to R273): findings, latching, what a channel
does about what it holds, Drogue, the shunt trip, the always-on log and acknowledgement, with the state
transitions to Safe (R5 to R8).
-/

namespace Sys2Proof.Machine

/-! Controller state. -/

/-- STATE of SYS.STATE (Table 17.14). -/
def modeCode : Mode → Nat
  | .off => 0
  | .boot => 1
  | .standby => 2
  | .run => 3
  | .stop => 4
  | .safe => 5

/-- A transition of Table 0.2, with the overlay as it then stands: SYS_STATE_CHANGE (R505). -/
def State.setMode (s : State) (m : Mode) (drogue : Bool) : State :=
  have s1 := { s with mode := m, drogue := drogue }
  s1.strobe Src.SYS_STATE_CHANGE (modeCode m * 2 ^ 20 + modeCode s.mode * 2 ^ 16 + b2n drogue * 2 ^ 8)

/-! Channels. -/

/-- A channel's record. -/
def State.safChan (s : State) (ch : Nat) : SafChan := if ch = 1 then s.saf.ch1 else s.saf.ch2

/-- The state with a channel's record set. -/
def State.setSafChan (s : State) (ch : Nat) (c : SafChan) : State :=
  { s with saf := if ch = 1 then { s.saf with ch1 := c } else { s.saf with ch2 := c } }

/-- The other channel. -/
def otherCh (ch : Nat) : Nat := 3 - ch

/-- A channel works: channel 1 while its program runs, channel 2 while the Sole is powered. -/
def State.safOn (s : State) (ch : Nat) : Bool :=
  if ch = 1 then s.saf.ch1On && s.vampOn else s.mode != .off

/-- The time of a channel, ns: MONO, which restarts at a Boot; channel 2's runs on. -/
def State.safNow (s : State) (ch : Nat) : Nat := if ch = 1 then s.monoNs else s.saf.soleNs

/-- A strobe of the safety channels, which the Vamp's event controller takes while it runs. -/
def State.safEvent (s : State) (src detail : Nat) : State := if s.vampOn then s.safStrobe src detail else s

/-- Copy the entries of the always-on log that are newer than the newest copied into the recorder (R285, R448). -/
def State.copySole (s : State) : State :=
  s.saf.log.foldl (fun (t : State) (p : Nat × LogEntry) =>
    have e := p.2
    have newer := decide (t.recorder.soleStamp < e.stamp) ||
      (e.stamp == t.recorder.soleStamp && decide (t.recorder.soleScan < e.scan))
    if newer then
      have r := t.recOccur (128 + e.code) e.detail
      have t1 := if r.2 then r.1.strobe Src.REC_RATE_LIMIT (128 + e.code) else r.1
      { t1 with recorder := { t1.recorder with soleScan := e.scan, soleStamp := e.stamp } }
    else t) s

/-- Write an entry of the always-on log (R285): SOLE.STAT.LOG and SOLE_LOG. -/
def State.soleLog (s : State) (code detail : Nat) : State :=
  have h := s.fld Reg.SOLE_LOG_HEAD 5 0
  have e : LogEntry := { code := code, detail := detail, stamp := s.stamp, scan := s.saf.scans % 2 ^ 32 }
  have s1 := { s with saf := { s.saf with log := s.saf.log.filter (fun (p : Nat × LogEntry) => p.1 != h) ++ [(h, e)] } }
  have s2 := ((s1.setFld Reg.SOLE_LOG_HEAD 5 0 ((h + 1) % 64)).setBit Reg.SOLE_STAT 4 true).incFld
    Reg.SOLE_STAT_COUNT1 7 0
  if s2.vampOn then (s2.strobe Src.SOLE_LOG h).copySole else s2

/-! Findings. -/

/-- The finding is this one. -/
def Finding.is (f : Finding) (hazard : Bool) (code key : Nat) : Bool :=
  f.hazard == hazard && f.code == code && f.key == key

/-- The channel holds the finding latched. -/
def Finding.lat (f : Finding) (ch : Nat) : Bool := if ch = 1 then f.lat1 else f.lat2

/-- The finding with a channel's view of its condition set. -/
def Finding.see (f : Finding) (ch : Nat) (v : Bool) : Finding :=
  if ch = 1 then { f with src1 := v } else { f with src2 := v }

/-- The finding latched by a channel. -/
def Finding.latch (f : Finding) (ch : Nat) : Finding :=
  if ch = 1 then { f with lat1 := true } else { f with lat2 := true }

/-- Change the findings that are this one. -/
def State.mapFinding (s : State) (h : Bool) (c k : Nat) (g : Finding → Finding) : State :=
  { s with saf := { s.saf with findings := s.saf.findings.map (fun f => if f.is h c k then g f else f) } }

/-- The finding, if it is known. -/
def State.finding (s : State) (h : Bool) (c k : Nat) : Option Finding :=
  s.saf.findings.find? (fun f => f.is h c k)

/-- A channel holds a hazard demand latched. -/
def State.holdsHazard (s : State) (ch : Nat) : Bool := s.saf.findings.any (fun f => f.hazard && f.lat ch)

/-- A channel holds a Drogue cause latched. -/
def State.holdsCause (s : State) (ch : Nat) : Bool := s.saf.findings.any (fun f => !f.hazard && f.lat ch)

/-- A channel holds something latched. -/
def State.holdsAny (s : State) (ch : Nat) : Bool := s.saf.findings.any (fun f => f.lat ch)

/-! Measured current. -/

/-- The measured current of a channel (R260): the sensor mean of greater magnitude, none when unknown. -/
def SafChan.current (c : SafChan) : Option Word :=
  match c.meanA, c.meanB with
  | some a, some b => some (if f32Lt (f32Abs a) (f32Abs b) then b else a)
  | _, _ => none

/-- |I| is at or above I_BREAK; an unknown current counts as below (R260). -/
def State.overBreak (s : State) (m : Option Word) : Bool :=
  match m with
  | none => false
  | some i => f32Le (s.cfgW 10 11 0 0) (f32Abs i)

/-- |I| is below 2 % of rated; an unknown current counts as not below (R260, R272). -/
def State.nearZero (s : State) (m : Option Word) : Bool :=
  match m with
  | none => false
  | some i => f32Lt (f32Abs i) (f32Div (f32Mul (s.cfgW 10 5 0 0) (f32OfInteger 2)) (f32OfInteger 100))

/-- A conversion of both sensors joins a channel's windows (R260). -/
def SafWindow.add (w : SafWindow) (a b : Int) : SafWindow := { count := w.count + 1, sumA := w.sumA + a, sumB := w.sumB + b }

/-- A channel takes a conversion of the eight ADC channels (R260): I_A and I_B as the safety parameters name them. -/
def State.safConversion (s : State) (ch : Nat) (codes : List Int) : State :=
  have a := codes.getD (s.cfgN 10 6 0 0) 0
  have b := codes.getD (s.cfgN 10 6 1 0) 0
  have c := s.safChan ch
  s.setSafChan ch { c with ms := c.ms.add a b, hundred := c.hundred.add a b }

/-- No conversion reaches a channel any more: its means are unknown from the first one its windows lack (R260). -/
def State.currentUnknown (s : State) (ch : Nat) : State :=
  s.setSafChan ch { s.safChan ch with meanA := none, meanB := none }

/-! Driving the switches. -/

/-- Set a channel's switch commands, which the other channel's kill wire forces off while it is asserted (R25, R251); a
test pulse on a pair whose commands change is broken (R256). -/
def State.setSwitches (s : State) (ch want : Nat) : State :=
  have c := s.safChan ch
  have sw := if (s.safChan (otherCh ch)).kill then 0 else want
  if c.sw = sw then s
  else
    have changed := Nat.xor c.sw sw
    have p := s.saf.pulse.map (fun p =>
      if changed / 2 ^ (p.switch / 2) % 2 = 1 then { p with broken := true } else p)
    have s1 := s.setSafChan ch { c with sw := sw }
    { s1 with saf := { s1.saf with pulse := p } }

/-- Kill wire of a channel (R251): while asserted it forces the other channel's switches off. -/
def State.setKill (s : State) (ch : Nat) (kill : Bool) : State :=
  have s1 := s.setSafChan ch { s.safChan ch with kill := kill }
  if kill then s1.setSwitches (otherCh ch) 0 else s1

/-- A mapped Welt connection has not delivered its first DATA (R299). -/
def State.weltWaits (s : State) : Bool :=
  (List.range 16).any (fun i => s.bit (Reg.WLT_VMAP i) 31 &&
    !(tget ({} : WeltConn) s.welt.conns (s.fld (Reg.WLT_VMAP i) 28 24)).live)

/-- A channel's close permissive (R258): the conditions common to all pairs. -/
def State.permits (s : State) (ch : Nat) : Bool :=
  s.safOn ch && (s.mode == .run || s.mode == .stop) && !s.drogue && !s.holdsAny ch &&
  (s.safChan ch).drogueAt.isNone && (s.safChan ch).shuntAt.isNone && !s.saf.crcDiffer && !s.saf.cfgDiffer &&
  !(ch == 1 && s.weltWaits)

/-- A record of the other channel arrived within 1 ms. -/
def State.fresh (s : State) (c : SafChan) : Bool :=
  match c.rxAt with
  | none => false
  | some t => decide (s.saf.soleNs ≤ t + 1000000)

/-- A channel sees pair i + 1 requested closed: channel 1 in SAF.OUT_REQ, channel 2 in its copy (R283). -/
def State.asked (s : State) (ch i : Nat) : Bool := if ch = 1 then s.bit Reg.SAF_OUT_REQ i else s.saf.req2 / 2 ^ i % 2 == 1

/-- SAF.OUT_REQ.CLOSE takes a value, which the VS link forwards to channel 2 while it is up (R283). -/
def State.setClose (s : State) (v : Nat) : State :=
  have s1 := s.setFld Reg.SAF_OUT_REQ 2 0 (v % 8)
  if s1.links.vsUp then { s1 with saf := { s1.saf with req2 := v % 8 } } else s1

/-- The switches a channel wants when it serves nothing (R258): a switch closes only on a fresh
permissive; one that is closed stays closed while the last permissive received was set. -/
def State.wantClosed (s : State) (ch : Nat) : Nat :=
  have c := s.safChan ch
  if s.drogue then Nat.land c.sw 3
  else
    (List.range 3).foldl (fun a i =>
      have on := c.sw / 2 ^ i % 2 == 1
      have blocked := s.saf.rbFault / 2 ^ i % 2 == 1 || s.saf.mirrorFault / 2 ^ i % 2 == 1 ||
        s.saf.pulseFail / 4 ^ i % 4 != 0
      if s.asked ch i && s.permits ch && !blocked && c.permitted && (on || s.fresh c) then a + 2 ^ i
      else a) 0

/-- Drive a channel's switches and kill wire by what it serves (R251, R258, R259, R271). -/
def State.drive (s : State) (ch : Nat) : State :=
  have c := s.safChan ch
  if c.shuntAt.isSome then (s.setSwitches ch (Nat.land c.sw 3 + 8)).setKill ch false
  else if c.drogueAt.isSome then (s.setSwitches ch (Nat.land c.sw 3)).setKill ch false
  else if s.holdsAny ch then (s.setSwitches ch 0).setKill ch (s.holdsHazard ch || c.shuntDone)
  else (s.setKill ch false).setSwitches ch (s.wantClosed ch)

/-! Drogue, shunt trip, Safe. -/

/-- Balancing stops (R178): duty 0 to every active node. -/
def State.balanceStop (s : State) : State :=
  s.activeNodes.foldl (fun t n => t.sendNode n 0x05 (zeros 16 ++ [30, 0])) s

/-- Power-role slots halt and POWER channels go low (Table 6.5). -/
def State.safeHalt (s : State) : State := ((s.haltPower 7).driveLow s.power).awlAbort 6

/-- Entry to Safe (R5): the overlay ends, the engine halts, a burst aborts. While the Vamp is in reset its state
machine does not move (R274). -/
def State.enterSafe (s : State) : State :=
  if s.vampOn ∧ (s.mode = .run ∨ s.mode = .stop ∨ s.mode = .boot) then
    have s1 := { s with saf := { s.saf with tasksOnSafe := s.tasksRun } }
    have s2 := (s1.setMode .safe false).ctlDrogueEnd.pcsDrogueEnd
    s2.safeHalt.burstAbort 1
  else s

/-- A channel's Drogue ends (R272): how 1 timer, 2 current, 3 hazard demand. -/
def State.endDrogue (s : State) (ch how : Nat) : State :=
  have c := s.safChan ch
  match c.drogueAt with
  | none => s
  | some t =>
    have s1 := s.setSafChan ch { c with drogueAt := none, done := true, endedBy := how }
    have s2 := s1.safEvent Src.SAF_DROGUE_EXIT (how * 2 ^ 16 + min 0xFFFF ((s.safNow ch - t) / 10000000))
    have s3 := if ch = 2 then s2.soleLog 3 how else s2
    if how = 3 then s3 else s3.enterSafe

/-- The bit of the first Drogue cause a channel holds. -/
def State.causeOf (s : State) (ch : Nat) : Nat :=
  match s.saf.findings.find? (fun f => !f.hazard && f.lat ch) with
  | some f => f.code
  | none => 0

/-- A channel starts Drogue (R271): its timer, pair 3, SAF_DROGUE_ENTER. The first one to start enters the overlay: the envelope is
latched, the converter ramps and balancing stops (R240, R209, R178). -/
def State.startDrogue (s : State) (ch : Nat) : State :=
  have bit := s.causeOf ch
  have s1 := s.setSafChan ch { s.safChan ch with drogueAt := some (s.safNow ch), endedBy := 0, cause := bit }
  have s2 := (s1.flag Reg.SAF_STAT Reg.SAF_STAT_COUNT 1).safEvent Src.SAF_DROGUE_ENTER
    (ch * 2 ^ 22 + bit * 2 ^ 16 + s.drogueTenths)
  have s3 := if ch = 2 then s2.soleLog 2 bit else s2
  if s3.drogue || !(s3.mode == .run || s3.mode == .stop) || !s3.vampOn then s3
  else ((s3.setMode s3.mode true).burstAbort 1).pcsDrogue.ctlDrogue.balanceStop

/-- The controller's state admits Drogue (R271): Run or Stop, or the Vamp is gone (R265). -/
def State.mayDrogue (s : State) : Bool := s.mode == .run || s.mode == .stop || !s.vampOn

/-- A host FIRE is a hazard demand INPUT with this key (Table 8.12). -/
def fireKey : Nat := 0x8000

/-- A channel acts on what it holds latched (R6, R7, R251, R259, R271): a hazard ends Drogue and wins; a
cause with a main pair closed starts Drogue; opening at or above I_BREAK, or on FIRE, fires the shunt
trip. -/
def State.act (s : State) (ch : Nat) : State :=
  if !s.safOn ch then s
  else
    have haz := s.holdsHazard ch
    have s1 := if haz then s.endDrogue ch 3 else s
    have s2 := if haz then (if s1.vampOn then s1.enterSafe.holdSaf else s1) else s1
    have c2 := s2.safChan ch
    have s3 := if !haz && s2.holdsCause ch && c2.drogueAt.isNone && !c2.done && c2.shuntAt.isNone &&
        s2.mainClosed && s2.mayDrogue then s2.startDrogue ch else s2
    have c3 := s3.safChan ch
    have fire := s3.saf.findings.any (fun f => f.is true 7 fireKey && f.lat ch)
    have opens := (haz || c3.done) && c3.drogueAt.isNone && c3.shuntAt.isNone && !c3.shuntDone
    have s4 := if opens && (fire || (Nat.land c3.sw 3 != 0 && s3.overBreak c3.current)) then
        s3.setSafChan ch { c3 with shuntAt := some s3.saf.soleNs }
      else s3
    s4.drive ch

/-- The shunt decision of a channel ends (R259): it opens pairs 1, 2 and 4 and asserts its kill wire. -/
def State.endShunt (s : State) (ch : Nat) : State :=
  have c := s.safChan ch
  match c.shuntAt with
  | none => s
  | some _ =>
    have s1 := s.setSafChan ch { c with shuntAt := none, shuntDone := true }
    (s1.setSwitches ch 0).setKill ch true

/-- A channel joins the other's shunt decision (R259). -/
def State.joinShunt (s : State) (ch how : Nat) : State :=
  have c := s.safChan ch
  if c.shuntAt.isSome || c.shuntDone then s
  else
    have s1 := s.endDrogue ch how
    (s1.setSafChan ch { s1.safChan ch with shuntAt := some s1.saf.soleNs }).drive ch

/-! Safety inputs. -/

/-- Type, function, filter and DISC_TICKS of input n (R267). -/
def State.inputType (s : State) (n : Nat) : Nat := s.cfgN 10 17 (4 * n) 0
def State.inputFunction (s : State) (n : Nat) : Nat := s.cfgN 10 17 (4 * n + 1) 0
def State.discTicks (s : State) (n : Nat) : Nat := s.cfgN 10 17 (4 * n + 3) 10000

/-- Line A (0) or B (1) of input n is in its demand state at a channel (R267). -/
def State.lineDemands (s : State) (ch n line : Nat) : Bool :=
  have high := (s.safChan ch).lines / 2 ^ (2 * n + line) % 2 == 1
  match s.inputType n with
  | 1 => !high
  | 2 => if line = 0 then !high else high
  | _ => false

/-- The demand of an input: hazard class and cause bit, none for MIRROR and ACK (R267). -/
def State.inputCause (s : State) (n : Nat) : Option (Bool × Nat) :=
  if s.inputType n = 0 then none
  else match s.inputFunction n with
    | 0 => some (true, 7)
    | 1 => some (false, 11)
    | 2 => some (if s.cfgN 10 18 0 1 = 0 then (true, 8) else (false, 12))
    | _ => none

/-- A channel holds a discrepancy fault on input n. -/
def State.discrepant (s : State) (ch n : Nat) : Bool := (s.safChan ch).disc / 2 ^ n % 2 == 1

/-- An input demands, as SAF.INPUT and the Welt image show it (R267, R268): by a line, unless its function makes no
demand, or by a discrepancy fault. -/
def State.inputDemands (s : State) (ch n : Nat) : Bool :=
  s.discrepant ch n || ((s.inputCause n).isSome && (s.lineDemands ch n 0 || s.lineDemands ch n 1))

/-- The finding's input is held in demand by a discrepancy fault (R267, R268). -/
def State.heldByDisc (s : State) (f : Finding) : Bool :=
  decide (f.key < 16) && (if f.hazard then f.code == 7 || f.code == 8 else f.code == 11 || f.code == 12) &&
    (s.discrepant 1 f.key || s.discrepant 2 f.key)

/-- The input configured as MIRROR of pair n (R257). -/
def State.mirrorInput (s : State) (n : Nat) : Option Nat :=
  (List.range 16).find? (fun i => s.inputType i != 0 && s.inputFunction i == n + 2)

/-- The mirror of input i shows, at a channel, its contactor open: both lines show the contact closed. -/
def State.mirrorOpen (s : State) (ch i : Nat) : Bool := !s.lineDemands ch i 0 && !s.lineDemands ch i 1

/-- The mirror shows its contactor closed: both lines show the contact open. -/
def State.mirrorClosed (s : State) (ch i : Nat) : Bool := s.lineDemands ch i 0 && s.lineDemands ch i 1

/-- Both channels command pair n closed. -/
def State.commandedClosed (s : State) (n : Nat) : Bool :=
  s.saf.ch1.sw / 2 ^ (n - 1) % 2 == 1 && s.saf.ch2.sw / 2 ^ (n - 1) % 2 == 1

/-- The mirror of pair n agrees, at a channel, with the command. -/
def State.mirrorAgrees (s : State) (ch n : Nat) : Bool :=
  match s.mirrorInput n with
  | none => true
  | some i => if s.commandedClosed n then s.mirrorClosed ch i else s.mirrorOpen ch i


/-! Latching and clearing. -/

/-- A channel latches a finding: SAF_DEMAND at the first channel, the log at channel 2 (R251, R285). What the channel
does about it follows in act: a cycle or a scan latches all that it finds before it acts, so that a hazard demand wins
over a Drogue cause of the same cycle (R6). -/
def State.latchOnly (s : State) (ch : Nat) (h : Bool) (c k : Nat) : State :=
  match s.finding h c k with
  | none => s
  | some f =>
    if f.lat ch then s
    else
      have first := !(f.lat (otherCh ch))
      have s1 := s.mapFinding h c k (fun g => g.latch ch)
      have s2 := if h && first then
          (s1.flag Reg.SAF_STAT Reg.SAF_STAT_COUNT 0).safEvent Src.SAF_DEMAND
            (ch * 2 ^ 22 + c * 2 ^ 16 + f.detail % 0x10000)
        else s1
      if h && ch == 2 then s2.soleLog 1 c else s2

/-- A channel sees the condition of a finding present. -/
def State.noteFinding (s : State) (ch : Nat) (h : Bool) (c k detail : Nat) : State :=
  match s.finding h c k with
  | some _ => s.mapFinding h c k (fun f => { f.see ch true with clearedAt := none })
  | none =>
    have f : Finding := { hazard := h, code := c, key := k, detail := detail }
    { s with saf := { s.saf with findings := s.saf.findings ++ [f.see ch true] } }

/-- A channel finds a condition present and latches its cause; in Standby nothing is latched (R469). -/
def State.findOnly (s : State) (ch : Nat) (h : Bool) (c k detail : Nat) : State :=
  if !s.safOn ch || s.mode == .standby then s else (s.noteFinding ch h c k detail).latchOnly ch h c k

/-- A channel finds a condition and acts on what it then holds. -/
def State.find (s : State) (ch : Nat) (h : Bool) (c k detail : Nat) : State := (s.findOnly ch h c k detail).act ch

/-- A further condition of the cause is present. -/
def State.present (s : State) (h : Bool) (c : Nat) : Bool :=
  s.saf.findings.any (fun f => f.hazard == h && f.code == c && (f.src1 || f.src2))

/-- SAF_ACK_PENDING (R270): found 1 an acknowledgement met the condition, 0 the condition cleared. -/
def State.ackPending (s : State) (found : Nat) (h : Bool) (c : Nat) : State :=
  s.safEvent Src.SAF_ACK_PENDING (found * 2 ^ 23 + b2n h * 2 ^ 13 + c)

/-- A channel no longer sees a condition (R270): when no channel sees any condition of the cause,
SAF_ACK_PENDING strobes, unless a discrepancy fault still holds the input in demand. -/
def State.unfind (s : State) (ch : Nat) (h : Bool) (c k : Nat) : State :=
  match s.finding h c k with
  | none => s
  | some f =>
    if (if ch = 1 then f.src1 else f.src2) then
      have s1 := s.mapFinding h c k (fun g =>
        have g1 := g.see ch false
        if g1.src1 || g1.src2 then g1 else { g1 with clearedAt := some s.saf.soleNs })
      if s1.present h c || s1.heldByDisc f then s1 else s1.ackPending 0 h c
    else s

/-- Find or unfind by whether the condition holds; the caller acts. -/
def State.judgeOnly (s : State) (ch : Nat) (h : Bool) (c k detail : Nat) (holds : Bool) : State :=
  if holds then s.findOnly ch h c k detail else s.unfind ch h c k

/-- Find or unfind by whether the condition holds. -/
def State.judge (s : State) (ch : Nat) (h : Bool) (c k detail : Nat) (holds : Bool) : State :=
  if holds then s.find ch h c k detail else s.unfind ch h c k

/-- A channel adopts the discrepancy faults of the other that it does not hold (R252, R268): their lines must be in demand
together from then on. -/
def State.adoptDisc (s : State) (ch disc : Nat) : State :=
  have c := s.safChan ch
  have fresh := Nat.land disc (Nat.xor 0xFFFF (Nat.land c.disc 0xFFFF))
  s.setSafChan ch { c with disc := Nat.lor c.disc fresh, both := Nat.land c.both (Nat.xor 0xFFFF fresh) }

/-- Adopt what the other channel holds, as its last record said (R252); the cycle or scan then acts. -/
def State.adopt (s : State) (ch : Nat) : State :=
  match (s.safChan ch).rx with
  | none => s
  | some r =>
    have s0 := s.adoptDisc ch r.disc
    have s1 := r.latched.foldl (fun t (p : Bool × Nat × Nat × Nat) => t.latchOnly ch p.1 p.2.1 p.2.2.1) s0
    if r.shunt then s1.joinShunt ch (if s1.holdsHazard ch then 3 else max 1 r.ended) else s1

/-- What a channel's cross-check record carries (R252). -/
def State.crossOf (s : State) (ch : Nat) : Cross :=
  have c := s.safChan ch
  { latched := (s.saf.findings.filter (fun f => f.lat ch)).map (fun f => (f.hazard, f.code, f.key, f.detail)),
    drogueMs := c.drogueAt.map (fun t => (s.safNow ch - t) / 1000000), ended := c.endedBy, switches := c.sw,
    permit := s.permits ch, shunt := c.shuntAt.isSome, meanA := c.meanA, meanB := c.meanB,
    crc := if c.sent % 40 = 39 then some c.crc else none, disc := c.disc }

/-- The bytes of a cross-check record; the spec lists its contents and no layout, so the layout is the
model's (DESIGN CHOICE, assumption 30). -/
def Cross.bytes (r : Cross) : Bytes :=
  have opt := fun (w : Option Word) => match w with
    | none => [0] ++ zeros 4
    | some v => [1] ++ bytesLE 4 v.toNat
  bytesLE 1 r.latched.length ++
  r.latched.flatMap (fun p => bytesLE 1 (b2n p.1 * 128 + p.2.1) ++ bytesLE 2 p.2.2.1 ++ bytesLE 2 p.2.2.2) ++
  opt (r.drogueMs.map (BitVec.ofNat 32)) ++ bytesLE 1 r.ended ++ bytesLE 1 r.switches ++
  bytesLE 1 (b2n r.permit + 2 * b2n r.shunt) ++ opt r.meanA ++ opt r.meanB ++ opt r.crc ++ bytesLE 2 r.disc

/-- A channel sends its record: its flits of eight bytes wait at the VS link (R20). -/
def State.sendCross (s : State) (ch : Nat) : State :=
  have r := s.crossOf ch
  have c := s.safChan ch
  have n := (r.bytes.length + 7) / 8
  have s1 := (s.setSafChan ch { c with tx := some r, sent := c.sent + 1 }).emit (.crossCheck ch r.bytes)
  { s1 with links := if ch = 1 then { s1.links with crossSole := s1.links.crossSole + n }
                     else { s1.links with crossVamp := s1.links.crossVamp + n } }

/-! Evaluating the inputs. -/

/-- The WELD of a mirror is over at a channel once the mirror shows its contactor open (R257). -/
def State.judgeMirror (s : State) (ch n : Nat) : State :=
  have p := s.inputFunction n - 2
  if s.inputType n ≠ 0 ∧ 1 ≤ p ∧ p ≤ 2 ∧ s.mirrorOpen ch n then s.unfind ch true 12 (8 + p) else s

/-- A channel evaluates one input (R267, R269): either line demands; both lines together are remembered. The caller
acts. -/
def State.judgeInput (s : State) (ch n : Nat) : State :=
  have a := s.lineDemands ch n 0
  have b := s.lineDemands ch n 1
  match s.inputCause n with
  | none => s.judgeMirror ch n
  | some (h, c) =>
    have ch0 := s.safChan ch
    have s1 := if a && b then s.setSafChan ch { ch0 with both := Nat.lor ch0.both (2 ^ n) } else s
    s1.judgeOnly ch h c n n (a || b)

/-- A channel evaluates its inputs. -/
def State.judgeInputs (s : State) (ch : Nat) : State :=
  (List.range 16).foldl (fun t n => t.judgeInput ch n) s

/-! Acknowledgement (R270). -/

/-- Discrepancy faults whose lines have since been in demand together clear (R269). -/
def State.ackDiscrepancy (s : State) (ch : Nat) : State :=
  have c := s.safChan ch
  s.setSafChan ch { c with disc := Nat.land c.disc (Nat.xor 0xFFFF (Nat.land c.both 0xFFFF)) }

/-- The finding's condition has been absent for at least 100 ms. -/
def State.absent (s : State) (f : Finding) : Bool :=
  !f.src1 && !f.src2 && !s.heldByDisc f &&
    (match f.clearedAt with
     | none => false
     | some t => decide (t + 100000000 ≤ s.saf.soleNs))

/-- Every condition of the cause has been absent for at least 100 ms. -/
def State.quiet (s : State) (h : Bool) (c : Nat) : Bool :=
  s.saf.findings.all (fun f => !(f.hazard == h && f.code == c) || s.absent f)

/-- Remove the findings of a cause; with TASK_DEADLINE the deadline fault clears (R323). -/
def State.dropCause (s : State) (h : Bool) (c : Nat) : State :=
  have s1 := if !h && c == 0 then s.setBit Reg.PRG_STATE 3 false else s
  { s1 with saf := { s1.saf with findings := s1.saf.findings.filter (fun f => !(f.hazard == h && f.code == c)) } }

/-- A record keeps only what is still latched. -/
def State.staleCross (s : State) (r : Cross) : Cross :=
  { r with latched := r.latched.filter (fun p => (s.finding p.1 p.2.1 p.2.2.1).isSome),
           disc := Nat.land r.disc (Nat.lor s.saf.ch1.disc s.saf.ch2.disc) }

/-- After causes cleared: a channel that holds nothing may start Drogue again (R273). -/
def State.restChan (s : State) (ch : Nat) : State :=
  have c := s.safChan ch
  have c1 := { c with rx := c.rx.map s.staleCross, tx := c.tx.map s.staleCross }
  s.setSafChan ch (if s.holdsAny ch then c1 else { c1 with done := false, shuntDone := false })

/-- The tone has been silent for 100 ms after the later of the last alarm pair and the last
CLEAR_LATCH reply, and none of those replies is awaited (R61). -/
def State.toneSilent (s : State) : Bool :=
  have past := fun (t : Option Nat) => match t with
    | none => true
    | some x => decide (x + 100000000 ≤ s.saf.soleNs)
  s.saf.clearNodes.isEmpty && past s.saf.alarmAt && past s.saf.clearReplyAt

/-- An acknowledgement of TONE (R61): CLEAR_LATCH to every active node that shows ALARM, and the
acknowledgement is held open. -/
def State.ackTone (s : State) : State :=
  have ns := s.activeNodes.filter (fun n => (s.node n).alarm)
  have s0 := s.mapFinding true 2 0 (fun f => { f with ackOpen := true })
  have s1 := { s0 with saf := { s0.saf with clearNodes := ns, clearReplyAt := none } }
  have s2 := ns.foldl (fun t n => t.sendNode n 0x0C (t.heartbeatCfg true)) s1
  if ns.isEmpty && s2.toneSilent && s2.quiet true 2 then s2.dropCause true 2 else s2

/-- One cause at an acknowledgement. -/
def State.ackCause (s : State) (p : Bool × Nat) : State :=
  if p.1 && p.2 == 2 then s.ackTone
  else if s.quiet p.1 p.2 then s.dropCause p.1 p.2
  else s.ackPending 1 p.1 p.2

/-- A mirror fault clears at an acknowledgement that finds the mirror agreeing with the command at every channel that
works (R257; DEDUCED, assumption 245: the spec states no other end of it). -/
def State.ackMirror (s : State) : State :=
  have agrees := fun (n : Nat) => [1, 2].all (fun ch => !s.safOn ch || s.mirrorAgrees ch n)
  have keep := (List.range 3).filter (fun i => s.saf.mirrorFault / 2 ^ i % 2 == 1 && !agrees (i + 1))
  { s with saf := { s.saf with mirrorFault := (keep.map (fun i => 2 ^ i)).sum } }

/-- An acknowledgement reaches both channels (R269, R270): discrepancy faults first, then each latched
cause by itself. -/
def State.acknowledge (s : State) : State :=
  have s1 := (s.ackDiscrepancy 1).ackDiscrepancy 2
  have causes := ((s1.saf.findings.filter (fun f => f.lat1 || f.lat2)).map (fun f => (f.hazard, f.code))).dedup
  have s2 := causes.foldl State.ackCause s1
  have s3 := (s2.restChan 1).restChan 2
  have s4 := s3.ackMirror
  ((s4.setBit Reg.SOLE_LIVE 31 false).act 1).act 2

/-- ACK_SRC enables a source: 0 command channel, 1 SAF.ACK, 2 ACK input (R270). A software acknowledgement reaches channel 2
over the VS link, and both channels must receive it; it clears in both at once (DEDUCED, assumption 246). -/
def State.ackFrom (s : State) (src : Nat) : State :=
  if s.cfgN 10 20 0 1 / 2 ^ src % 2 = 1 && (src == 2 || s.links.vsUp) then s.acknowledge else s

end Sys2Proof.Machine
end

