-- ==== Sys2Proof/Machine/Welt.lean ====
section
/-!
DEFINITION. The Welt safety layer (chapter 9): PDUs, arming, data, sequence rules and virtual inputs.
-/

namespace Sys2Proof.Machine

/-! Connection parameters, as the registers show them (Table 9.11). -/

/-- A connection's record. -/
def State.weltConn (s : State) (c : Nat) : WeltConn := tget {} s.welt.conns c

/-- The state with a connection's record set. -/
def State.setWeltConn (s : State) (c : Nat) (v : WeltConn) : State :=
  { s with welt := { s.welt with conns := tset {} s.welt.conns c v } }

def State.weltEnabled (s : State) (c : Nat) : Bool := decide (c < 32) && s.bit (Reg.WLT_CONN_CFG c) 31
def State.weltProducer (s : State) (c : Nat) : Bool := s.bit (Reg.WLT_CONN_CFG c) 30
def State.weltCan (s : State) (c : Nat) : Bool := s.bit (Reg.WLT_CONN_CFG c) 29
def State.weltLen (s : State) (c : Nat) : Nat := s.fld (Reg.WLT_CONN_CFG c) 15 8
def State.weltGap (s : State) (c : Nat) : Nat := s.fld (Reg.WLT_CONN_CFG c) 3 0
def State.weltId (s : State) (c : Nat) : Word := s.rd (Reg.WLT_CONN_ID c)

/-- W in µs. -/
def State.weltW (s : State) (c : Nat) : Nat :=
  s.fld (Reg.WLT_CONN_TIME c) 31 16 * (if s.bit (Reg.WLT_CONN_CFG c) 4 then 1000 else 100)

/-- Lowest and highest enabled version; 0 for none. -/
def State.weltVmin (s : State) (c : Nat) : Nat :=
  if s.bit (Reg.WLT_CONN_CFG c) 25 then 1 else if s.bit (Reg.WLT_CONN_CFG c) 26 then 2 else 0
def State.weltVmax (s : State) (c : Nat) : Nat :=
  if s.bit (Reg.WLT_CONN_CFG c) 26 then 2 else if s.bit (Reg.WLT_CONN_CFG c) 25 then 1 else 0

/-- The remote address of an Ethernet connection and the fail-safe pattern (R296, R306). -/
def State.weltPeer (s : State) (c : Nat) : Nat :=
  (List.range 4).foldl (fun a i => a + s.cfgN 10 (21 + c) (4 + i) 0 * 2 ^ (32 * i)) 0
def State.weltFailsafe (s : State) (c : Nat) : Bytes :=
  ((List.range 16).flatMap (fun i => bytesLE 4 (s.cfgN 10 (21 + c) (8 + i) 0))).take (s.weltLen c)

/-- State of a connection: 0 idle, 1 arming, 2 running, 3 failed (Table 9.4). -/
def State.weltState (s : State) (c : Nat) : Nat := s.fld (Reg.WLT_CONN_STAT c) 31 30

/-- Set a connection's state; RUNNING, FAILED and FAILED_NOW follow. -/
def State.setWeltState (s : State) (c st : Nat) : State :=
  have s1 := ((s.setFld (Reg.WLT_CONN_STAT c) 31 30 st).setBit Reg.WLT_RUNNING c (st == 2)).setBit Reg.WLT_FAILED c
    (st == 3)
  s1.setBit Reg.WLT_STAT 8 (decide (s1.rd Reg.WLT_FAILED ≠ 0))

/-! PDUs (R287, R288). -/

/-- CHECK of a PDU body under an identity. -/
def weltCheck (id : Word) (body : Bytes) : Word := crc32c (bytesLE 4 id.toNat ++ body)

/-- A PDU: header, data and CHECK (Table 9.1). -/
def weltPdu (id : Word) (version kind seq wd : Nat) (data : Bytes) : Bytes :=
  have body := bytesLE 1 (version * 32 + kind * 8) ++ bytesLE 1 data.length ++ bytesLE 3 seq ++ bytesLE 2 wd ++ data
  body ++ bytesLE 4 (weltCheck id body).toNat

/-- The fields of a PDU. -/
def pduVersion (p : Bytes) : Nat := fieldLE p 0 1 / 32
def pduKind (p : Bytes) : Nat := fieldLE p 0 1 / 8 % 4
def pduLen (p : Bytes) : Nat := fieldLE p 1 1
def pduSeq (p : Bytes) : Nat := fieldLE p 2 3
def pduWd (p : Bytes) : Nat := fieldLE p 5 2
def pduData (p : Bytes) : Bytes := slice p 7 (pduLen p)

/-- CHECK verifies with an identity. -/
def pduVerifies (id : Word) (p : Bytes) : Bool :=
  decide (11 ≤ p.length) && p.length == 11 + pduLen p &&
    fieldLE p (p.length - 4) 4 == (weltCheck id (p.take (p.length - 4))).toNat

/-- WD of a version (Table 9.2). -/
def State.weltWd (s : State) (c version : Nat) : Nat := s.weltW c / (if version = 1 then 1000 else 100)

/-- Send a PDU on its connection's carrier (R306, R307). -/
def State.weltSend (s : State) (c : Nat) (pdu : Bytes) (toConsumer : Bool) : State :=
  if s.weltCan c then
    have n := s.fld (Reg.WLT_CONN_CFG c) 28 27
    have a := s.rd (Reg.WLT_CONN_ADDR c)
    have len := dlcLength true (lengthDlc pdu.length)
    have data := pdu ++ List.replicate (len - pdu.length) 0xCC
    if s.canRuns n then
      s.canPush n (txElement (getBit a 31) true false (getBits a 28 0 + (if toConsumer then 0 else 1)) data)
    else s
  else
    s.emit (.udp (s.weltPeer c) (s.fld (Reg.WLT_CONN_ADDR c) 15 0)
      (bytesLE 1 (s.fld (Reg.WLT_CONN_CFG c) 23 16) ++ pdu))

/-- Channel 1 runs Welt: in Boot from its start, and in Run, Stop and Safe (R294). -/
def State.weltOn (s : State) : Bool := s.safOn 1 && s.mode != .off && s.mode != .standby

/-! Virtual inputs (R297, R299). -/

/-- What a connection presents: its data while running, the fail-safe pattern otherwise (R296). -/
def State.weltData (s : State) (c : Nat) : Bytes :=
  if s.weltState c = 2 then (s.weltConn c).data.getD (s.weltFailsafe c) else s.weltFailsafe c

/-- Virtual input 16 + i is in demand (R297). -/
def State.vDemand (s : State) (i : Nat) : Bool :=
  have r := Reg.WLT_VMAP i
  s.bit r 31 &&
    ((((s.weltData (s.fld r 28 24)).getD (s.fld r 21 16) 0).toNat / 2 ^ s.fld r 2 0 % 2 == 1) == s.bit r 29)

/-- Channel 1 evaluates the virtual inputs of connections that have delivered data (R266, R299); it acts at the end of
its cycle (R6). -/
def State.judgeVirtual (s : State) : State :=
  (List.range 16).foldl (fun t i =>
    have r := Reg.WLT_VMAP i
    if t.bit r 31 && (t.weltConn (t.fld r 28 24)).live then
      if t.bit r 30 then t.judgeOnly 1 true 7 (16 + i) (16 + i) (t.vDemand i)
      else t.judgeOnly 1 false 11 (16 + i) (16 + i) (t.vDemand i)
    else t) s

/-- The loss class of a connection (R298): some true hazard, some false Drogue, none without inputs. -/
def State.lossClass (s : State) (c : Nat) : Option Bool :=
  have mapped := (List.range 16).filter (fun i => s.bit (Reg.WLT_VMAP i) 31 && s.fld (Reg.WLT_VMAP i) 28 24 == c)
  if mapped.isEmpty then none else some (mapped.any (fun i => s.bit (Reg.WLT_VMAP i) 30))

/-! States and errors. -/

/-- Enter arming (R290, R292): a fresh START_SEQ, WLT_ARMING with its cause. -/
def State.weltArming (s : State) (c cause : Nat) : State :=
  have s1 := s.setWeltConn c { s.weltConn c with startSeq := s.monoNs % 2 ^ 24, data := none, checks := [] }
  ((s1.setWeltState c 1).setFld (Reg.WLT_CONN_STAT c) 29 28 0).strobe Src.WLT_ARMING (cause * 2 ^ 22 + c)

/-- Enter running with a version and a last sequence. -/
def State.weltRunning (s : State) (c version seq : Nat) : State :=
  have s1 := s.setWeltConn c { s.weltConn c with data := none, checks := [], acceptedNs := s.monoNs }
  have s2 := ((s1.setWeltState c 2).setFld (Reg.WLT_CONN_STAT c) 29 28 version).setFld (Reg.WLT_CONN_SEQ c) 23 0 seq
  (s2.flag Reg.WLT_STAT Reg.WLT_STAT_COUNT 2).strobe Src.WLT_RUNNING (version * 2 ^ 16 + c)

/-- An error that does not fail the connection is counted (R303). -/
def State.weltError (s : State) (c code missing : Nat) : State :=
  ((s.setFld (Reg.WLT_CONN_STAT c) 26 24 code).flag Reg.WLT_STAT Reg.WLT_STAT_COUNT 1).strobe Src.WLT_ERROR
    (code * 2 ^ 21 + min 255 missing * 2 ^ 8 + c)

/-- A connection fails (R298, R299, R303): its loss class latches WELT unless no data was ever accepted. Channel 1
then acts, at the end of its cycle or of the command. -/
def State.weltFail (s : State) (c code other : Nat) : State :=
  have live := (s.weltConn c).live
  have s1 := (s.setFld (Reg.WLT_CONN_STAT c) 26 24 code).incFld (Reg.WLT_CONN_ERR c) 7 0
  have s2 := (s1.setWeltConn c { s1.weltConn c with data := none }).setWeltState c 3
  have s3 := (s2.flag Reg.WLT_STAT Reg.WLT_STAT_COUNT 0).strobe Src.WLT_FAILED (code * 2 ^ 21 + other * 2 ^ 8 + c)
  have s4 := match s3.lossClass c with
    | some true => if live then s3.findOnly 1 true 11 c c else s3
    | some false => if live then s3.findOnly 1 false 13 c c else s3
    | none => s3
  s4.judgeVirtual

/-- A check failure (Table 9.7 code 4): a running consumer fails at the third within 1 s. -/
def State.weltCheckFail (s : State) (c : Nat) : State :=
  have s1 := s.incFld (Reg.WLT_CONN_ERR c) 31 24
  if s1.weltState c = 2 ∧ ¬ s1.weltProducer c then
    have k := s1.weltConn c
    have recent := s1.monoNs :: k.checks.filter (fun t => decide (s1.monoNs < t + 1000000000))
    have s2 := s1.setWeltConn c { k with checks := recent }
    if 3 ≤ recent.length then s2.weltFail c 4 0 else s2.weltError c 4 0
  else s1.weltError c 4 0

/-! Arming. -/

/-- W as an arming PDU carries it: value and W_UNIT (R289). -/
def State.weltArmW (s : State) (c : Nat) : Nat × Nat :=
  if s.weltW c ≤ 6553500 then (s.weltW c / 100, 0) else (s.weltW c / 1000, 1)

/-- W in µs that arming data carry, in the unit of byte 11 (Table 9.3). -/
def armingUs (d : Bytes) : Nat := fieldLE d 4 2 * (if fieldLE d 11 1 = 0 then 100 else 1000)

/-- WELT_ARM_SEND (R290): a consumer in arming sends ARM. -/
def execWeltArmSend (c : Nat) (s : State) : Host.Outcome State Fault Refusal := s.whenVamp <|
  if s.weltEnabled c && s.weltOn && !s.weltProducer c && s.weltState c == 1 then
    have w := s.weltArmW c
    have data := bytesLE 1 (s.weltVmin c) ++ bytesLE 1 (s.weltVmax c) ++ bytesLE 1 (s.weltLen c) ++
      bytesLE 1 (s.weltGap c) ++ bytesLE 2 w.1 ++ bytesLE 3 (s.weltConn c).startSeq ++ zeros 2 ++ bytesLE 1 w.2 ++
      zeros 4
    .next (s.weltSend c (weltPdu (s.weltId c) (s.weltVmax c) 1 0 0 data) false)
  else .next s

/-- A consumer in arming takes an ARM_ACK with a good CHECK (R290). -/
def State.weltTakeAck (s : State) (c : Nat) (p : Bytes) (rxNs : Nat) : State :=
  have d := pduData p
  have version := fieldLE d 0 1
  have period := fieldLE d 9 2
  have ok := decide (d.length = 16) && version != 0 && decide (s.weltVmin c ≤ version) &&
    decide (version ≤ s.weltVmax c) && fieldLE d 6 3 == (s.weltConn c).startSeq &&
    fieldLE d 2 1 == s.weltLen c && fieldLE d 3 1 == s.weltGap c && armingUs d == s.weltW c &&
    decide (2 * (period * 250) ≤ s.weltW c)
  if ok then
    have s1 := s.weltRunning c version (s.weltConn c).startSeq
    s1.setWeltConn c { s1.weltConn c with acceptedNs := rxNs }
  else s.weltFail c 6 0

/-- Why a producer refuses an ARM, 0 if it agrees: the lowest REASON that applies (R291, Table 9.3). -/
def State.weltReason (s : State) (c : Nat) (d : Bytes) : Nat :=
  if min (fieldLE d 1 1) (s.weltVmax c) < max (fieldLE d 0 1) (s.weltVmin c) ∨ s.weltVmax c = 0 then 1
  else if fieldLE d 2 1 ≠ s.weltLen c then 2
  else if armingUs d ≠ s.weltW c then 3
  else if fieldLE d 3 1 ≠ s.weltGap c then 4
  else if s.weltW c < 2 * (s.fld (Reg.WLT_CONN_TIME c) 15 0 * 250) then 5 else 0

/-- A producer takes an ARM with a good CHECK: it leaves running, answers, and runs if it agrees (R291). The answer
echoes START_SEQ and W_UNIT and gives W in that unit (Table 9.3). -/
def State.weltTakeArm (s : State) (c : Nat) (p : Bytes) : State :=
  have d := pduData p
  have s1 := if s.weltState c = 2 then s.weltArming c 2 else s
  have reason := s1.weltReason c d
  have version := if reason = 0 then min (fieldLE d 1 1) (s1.weltVmax c) else 0
  have unit := fieldLE d 11 1
  have w := s1.weltW c / (if unit = 0 then 100 else 1000)
  have ack := bytesLE 1 version ++ bytesLE 1 reason ++ bytesLE 1 (s1.weltLen c) ++ bytesLE 1 (s1.weltGap c) ++
    bytesLE 2 w ++ slice d 6 3 ++ bytesLE 2 (s1.fld (Reg.WLT_CONN_TIME c) 15 0) ++ bytesLE 1 unit ++ zeros 4
  have s2 := s1.weltSend c (weltPdu (s1.weltId c) (s1.weltVmax c) 2 0 0 ack) true
  if reason = 0 then s2.weltRunning c version (fieldLE d 6 3) else s2

/-! Data. -/

/-- A running consumer takes a DATA PDU as agreed: the sequence rules of Table 9.6. -/
def State.weltTakeData (s : State) (c : Nat) (p : Bytes) (rxNs : Nat) : State :=
  have last := s.fld (Reg.WLT_CONN_SEQ c) 23 0
  have d := (pduSeq p + 2 ^ 24 - last) % 2 ^ 24
  if d = 0 ∨ 2 ^ 23 ≤ d then (s.incFld (Reg.WLT_CONN_ERR c) 15 8).weltError c 2 0
  else if s.weltGap c + 2 ≤ d then s.weltFail c 1 0
  else
    have s1 := s.setWeltConn c { s.weltConn c with data := some (pduData p), live := true, acceptedNs := rxNs }
    have s2 := s1.setFld (Reg.WLT_CONN_SEQ c) 23 0 (pduSeq p)
    have s3 := if 1 < d then
        (s2.setFld (Reg.WLT_CONN_ERR c) 23 16 (min 255 (s2.fld (Reg.WLT_CONN_ERR c) 23 16 + (d - 1)))).weltError c 1 (d - 1)
      else s2
    have s4 := if s3.bit Reg.WLT_PDU_EVT c then s3.strobe Src.WLT_PDU_RX (pduSeq p % 0x10000 * 2 ^ 8 + c) else s3
    s4.judgeVirtual

/-- Another enabled connection of the same carrier whose identity verifies the PDU (Table 9.7 code 5). -/
def State.weltMisdirected (s : State) (c : Nat) (p : Bytes) : Option Nat :=
  (List.range 32).find? (fun e => e != c && s.weltEnabled e && s.weltCan e == s.weltCan c && pduVerifies (s.weltId e) p)

/-- WELT_PDU_ACCEPT (R290, R291, R300, R303, R304): channel 1 checks a held PDU and applies the rules. A carrier's
length or format that does not fit is a check failure of the connection (R306, R307); in arming DATA and ARM are ignored. -/
def State.weltAccept (s : State) (h : WeltPdu) : State :=
  have c := h.conn
  have p := h.pdu
  have st := s.weltState c
  if !s.weltEnabled c || st == 0 || st == 3 then s
  else if !h.form then s.weltCheckFail c
  else if s.weltProducer c then
    if pduKind p ≠ 1 then s else if pduVerifies (s.weltId c) p then s.weltTakeArm c p else s.weltCheckFail c
  else if !pduVerifies (s.weltId c) p then
    match s.weltMisdirected c p with
    | some e =>
      if st = 2 then s.weltFail c 5 e else (s.incFld (Reg.WLT_CONN_ERR c) 31 24).weltError c 4 0
    | none => s.weltCheckFail c
  else if st = 1 then
    match pduKind p with
    | 2 => s.weltTakeAck c p h.rxNs
    | 3 => s.weltCheckFail c
    | _ => s
  else
    have version := s.fld (Reg.WLT_CONN_STAT c) 29 28
    if pduKind p == 0 && pduVersion p == version && pduLen p == s.weltLen c && pduWd p == s.weltWd c version then
      s.weltTakeData c p h.rxNs
    else s.weltCheckFail c

/-- Channel 1 takes every held PDU in its cycle (R304). -/
def State.weltCycle (s : State) : State :=
  have held := s.welt.held
  held.foldl State.weltAccept { s with welt := { s.welt with held := [] } }

/-! Reception. -/

/-- LEN that a PDU's KIND requires. -/
def State.weltRequired (s : State) (c : Nat) (p : Bytes) : Nat := if pduKind p = 0 then s.weltLen c else 16

/-- Hold a PDU for channel 1. -/
def State.weltHold (s : State) (c : Nat) (pdu : Bytes) (form : Bool) : State :=
  { s with welt := { s.welt with held := s.welt.held ++ [{ conn := c, pdu := pdu, form := form, rxNs := s.monoNs }] } }

/-- A Welt datagram (R306): matched by source address and TAG, its length by KIND. -/
def State.weltUdp (s : State) (peer : Nat) (payload : Bytes) : State :=
  have tag := fieldLE payload 0 1
  have pdu := payload.drop 1
  match (List.range 32).find? (fun c => s.weltEnabled c && !s.weltCan c && s.weltPeer c == peer &&
      s.fld (Reg.WLT_CONN_CFG c) 23 16 == tag && !payload.isEmpty) with
  | none => s
  | some c => s.weltHold c pdu (pdu.length == 11 + s.weltRequired c pdu)

/-- A frame on a Welt identifier of CAN controller n (R307): bytes after the PDU are ignored. -/
def State.weltCanFrame (s : State) (n id : Nat) (ide fd : Bool) (data : Bytes) : State :=
  match (List.range 32).find? (fun c => s.weltEnabled c && s.weltCan c && s.fld (Reg.WLT_CONN_CFG c) 28 27 == n &&
      s.bit (Reg.WLT_CONN_ADDR c) 31 == ide &&
      s.fld (Reg.WLT_CONN_ADDR c) 28 0 + (if s.weltProducer c then 1 else 0) == id) with
  | none => s
  | some c =>
    have pdu := data.take (11 + pduLen data)
    s.weltHold c pdu (fd && pduLen pdu == s.weltRequired c pdu)

/-- WELT_PDU_RECEIVE (R304): carrier 0 to 3 a CAN controller, with the identifier (IDE in bit 29) as peer,
4 Ethernet, with the source address. -/
def execWeltPduReceive (carrier peer : Nat) (payload : Bytes) (fd : Bool) (s : State) :
    Host.Outcome State Fault Refusal := s.whenVamp <|
  if !s.weltOn then .next s
  else if carrier < 4 then .next (s.weltCanFrame carrier (peer % 2 ^ 29) (peer / 2 ^ 29 % 2 == 1) fd payload)
  else .next (s.weltUdp peer payload)

/-- WELT_ARM_ACK_RECEIVE (R290). -/
def execWeltArmAckReceive (c : Nat) (pdu : Bytes) (s : State) : Host.Outcome State Fault Refusal := s.whenVamp <|
  .next ((s.weltAccept { conn := c, pdu := pdu, form := pduLen pdu == 16, rxNs := s.monoNs }).act 1)

/-- WELT_ARM_RECEIVE (R291). -/
def execWeltArmReceive (c : Nat) (pdu : Bytes) (s : State) : Host.Outcome State Fault Refusal := s.whenVamp <|
  .next ((s.weltAccept { conn := c, pdu := pdu, form := pduLen pdu == 16, rxNs := s.monoNs }).act 1)

/-- WELT_DATA_SEND (R295, R300): a running producer sends its image with the next SEQ. -/
def execWeltDataSend (c : Nat) (s : State) : Host.Outcome State Fault Refusal := s.whenVamp <|
  if s.weltEnabled c && s.weltOn && s.weltProducer c && s.weltState c == 2 then
    have seq := (s.fld (Reg.WLT_CONN_SEQ c) 23 0 + 1) % 2 ^ 24
    have version := s.fld (Reg.WLT_CONN_STAT c) 29 28
    have data := padTo (s.weltLen c) (padTo 16 s.welt.image ++ tget [] s.prg.welt c)
    .next ((s.setFld (Reg.WLT_CONN_SEQ c) 23 0 seq).weltSend c
      (weltPdu (s.weltId c) version 0 seq (s.weltWd c version) data) true)
  else .next s

/-- The watchdog of a running consumer reaches W (R301). -/
def State.weltTimeout (s : State) (c : Nat) : State :=
  if s.weltEnabled c && !s.weltProducer c && s.weltState c == 2 then (s.weltFail c 3 0).act 1 else s

/-- WLT_REARM (R293): requests for connections in another state are ignored. -/
def State.weltRearm (s : State) (bits : Word) : State :=
  (List.range 32).foldl (fun t c =>
    if getBit bits c && t.weltEnabled c && t.weltState c == 3 then t.weltArming c 1 else t) s

/-- WLT_REARM (R293). -/
def execWltRearm (bits : Word) (s : State) : Host.Outcome State Fault Refusal := s.whenVamp <|
  .next (s.weltRearm bits)

/-- WELT_AUTO_REARM (R293). -/
def execWeltAutoRearm (c : Nat) (s : State) : Host.Outcome State Fault Refusal := s.whenVamp <|
  .next (if s.weltEnabled c && s.bit (Reg.WLT_CONN_CFG c) 24 && s.weltState c == 3 then s.weltArming c 1 else s)

/-- WELT_CONDITION_CLEAR (R293): 100 ms of running without interruption. -/
def execWeltConditionClear (c : Nat) (s : State) : Host.Outcome State Fault Refusal := s.whenVamp <|
  .next (if s.weltState c = 2 then (s.unfind 1 true 11 c).unfind 1 false 13 c else s)

/-- In Off and Standby every connection is idle (Table 9.4). -/
def State.weltIdle (s : State) : State := ((List.range 32).filter s.weltEnabled).foldl (fun (t : State) c => t.setWeltState c 0) s

/-- The status image of Table 9.5, taken at the end of the safety core cycle. -/
def State.weltImage (s : State) : Bytes :=
  have bits := fun (h : Bool) => (((s.saf.findings.filter (fun f => f.hazard == h && f.lat1)).map (·.code)).dedup.map
    (fun b => 2 ^ b)).sum
  have state := match s.mode with
    | .run => 1
    | .stop => 2
    | .safe => 3
    | _ => 0
  have closed := ((List.range 4).filter (fun i => s.readsClosed (i + 1))).map (fun i => 2 ^ i)
  have c := s.saf.ch1
  have left := match c.drogueAt with
    | none => 0
    | some t => (s.drogueNs - (s.monoNs - t)) / 10000000
  have inputs := ((List.range 16).filter (s.inputDemands 1)).map (fun n => 2 ^ n)
  have virt := ((List.range 16).filter s.vDemand).map (fun i => 2 ^ i)
  bytesLE 1 state ++
  bytesLE 1 (closed.sum + b2n s.allOpen * 16 + b2n c.drogueAt.isSome * 32 + b2n c.shuntAt.isSome * 64) ++
  bytesLE 2 (bits true) ++ bytesLE 2 (bits false) ++ bytesLE 2 inputs.sum ++
  bytesLE 4 (c.current.getD (s.rd Reg.SAF_CURRENT_A)).toNat ++ bytesLE 2 (min 0xFFFF left) ++ bytesLE 2 virt.sum

end Sys2Proof.Machine
end

