-- ==== Sys2Proof/Machine/Saf.lean ====
section
/-!
DEFINITION. The safety channels' events (chapter 8): cycles, scans, cross-check, currents, read-back, test
pulses, inputs and acknowledgements.
-/

namespace Sys2Proof.Machine

/-- Channel numbers are 1 and 2. -/
def isChannel (ch : Nat) : Bool := ch == 1 || ch == 2

/-! Comparators (R264, R214). -/

/-- COMPARATOR_TRIP (R214, R264, R285): an armed comparator's input reaches a threshold. -/
def execComparatorTrip (c : Nat) (upper : Bool) (s : State) : Host.Outcome State Fault Refusal :=
  if c < 4 ∧ s.mode ≠ .off ∧ (s.bit (Reg.SOLE_CMP_CFG c) 30 ∨ s.bit (Reg.SOLE_CMP_CFG c) 31) then
    have s1 := (s.flag Reg.SOLE_STAT Reg.SOLE_STAT_COUNT 2).soleLog 7 c
    have s2 := if s1.vampOn then
        (s1.strobe Src.SOLE_COMPARATOR ((if upper then 1 else 2) * 4 + c)).compTrip
      else s1
    .next (if s2.bit (Reg.SOLE_CMP_CFG c) 31 then s2.find 2 true 0 c c else s2)
  else .next s

/-! Read-back (R254, R255). -/

/-- The levels Table 8.2 gives for a pair's two switches. -/
def pattern (high low : Bool) : Nat :=
  match high, low with
  | true, true => 8
  | true, false => 10
  | false, true => 0
  | false, false => 5

/-- Both channels' commands of pair n: high side (channel 2) and low side (channel 1). -/
def State.highOn (s : State) (n : Nat) : Bool := s.saf.ch2.sw / 2 ^ (n - 1) % 2 == 1
def State.lowOn (s : State) (n : Nat) : Bool := s.saf.ch1.sw / 2 ^ (n - 1) % 2 == 1

/-- Pair n reads what its switches should give. -/
def State.pairMatches (s : State) (n : Nat) : Bool := s.pairLevels n == pattern (s.highOn n) (s.lowOn n)

/-- Set or clear the read-back fault of pair n. -/
def State.setRbFault (s : State) (n : Nat) (v : Bool) : State :=
  have m := 2 ^ (n - 1)
  have f := s.saf.rbFault
  { s with saf := { s.saf with rbFault := if v then Nat.lor f m else f - f / m % 2 * m } }

/-- A channel takes the read-back: pairs that match again lose their findings (R255, R256). -/
def State.takeReadback (s : State) (ch levels : Nat) : State :=
  have s1 := { s with saf := { s.saf with readback := levels % 0x10000 } }
  [1, 2, 3, 4].foldl (fun t n =>
    if t.pairMatches n then ((t.setRbFault n false).unfind ch true 12 n).unfind ch false 10 n else t) s1

/-- No test pulse runs on the pair. -/
def State.pulseOff (s : State) (n : Nat) : Bool :=
  match s.saf.pulse with
  | none => true
  | some p => p.switch / 2 + 1 != n

/-- READBACK_MISMATCH_TIMEOUT (R255): a mismatch of a pair has lasted 1 ms. -/
def execReadbackMismatchTimeout (channel pair : Nat) (s : State) : Host.Outcome State Fault Refusal :=
  if isChannel channel ∧ 1 ≤ pair ∧ pair ≤ 4 ∧ s.pulseOff pair ∧ ¬ s.pairMatches pair then
    have s1 := s.setRbFault pair true
    have isOpen := !s.highOn pair && !s.lowOn pair
    if isOpen && s.pairLevels pair == 8 then
      .next ((s1.safEvent Src.SAF_WELD (pair * 2 ^ 16)).find channel true 12 pair 0)
    else if s.pairLevels pair = 1 ∧ isOpen then .next s1
    else .next (s1.find channel false 10 pair 0)
  else .next s
/-! Sweep checks (R262). -/

/-- Count a checkable sample against a limit (0 OV, 1 UV, 2 OT, 3 UT): N_SWEEP in a row demand. -/
def State.countBeyond (s : State) (limit unit detail : Nat) (beyond : Bool) : State :=
  have key := 65536 * limit + unit
  have n := if beyond then min 8 (tget 0 s.saf.beyond key + 1) else 0
  have s1 := { s with saf := { s.saf with beyond := tset 0 s.saf.beyond key n } }
  if s.cfgN 10 2 0 2 ≤ n then s1.findOnly 1 true (3 + limit) unit detail
  else if beyond then s1 else s1.unfind 1 true (3 + limit) unit

/-- A voltage limit in 100 µV, a temperature limit in 0.01 °C, rounded to the nearest unit. -/
def State.rawLimit (s : State) (item idx scale : Nat) : Int :=
  f32ToInt .away (-0x8000) 0xFFFF scale (s.cfgW 10 item idx 0)

/-- A cell input is marked wire suspect. -/
def State.suspect (s : State) (node input : Nat) : Bool :=
  s.tth.marks.any (fun m => m.node == node && m.input == input)

/-- The values of a wire-suspect cell of a block, as a comparison against OV and against UV (R92). With
every cell of the node marked, the upper value is free, since R92 then divides by 0. -/
def State.suspectBeyond (s : State) (node : Nat) (block : Bytes) : Bool × Bool × State :=
  have stack : Int := (fieldLE block 6 2 : Int) * 20
  have used := (List.range 16).filter (fun i => s.cellOf node (i + 1) != 0)
  have good := used.filter (fun i => !s.suspect node (i + 1))
  have sum : Int := good.foldl (fun (a : Int) i => a + (fieldLE block (8 + 2 * i) 2 : Int)) 0
  have ov := s.rawLimit 0 0 10000
  have uv := s.rawLimit 0 1 10000
  have under := decide (stack - sum - ov ≤ uv)
  if good.isEmpty then (getBit s.freeWord 0, under, s.drawn)
  else (decide (ov * (good.length : Int) ≤ stack), under, s)

/-- Channel 1 checks one cell of a block. -/
def State.checkCell (s : State) (node : Nat) (block : Bytes) (i : Nat) : State :=
  have cell := s.cellOf node (i + 1)
  if cell = 0 ∨ (fieldLE block 4 2) / 2 ^ i % 2 = 0 then s
  else
    have s0 := ({ s with saf := { s.saf with sampled := tset 0 s.saf.sampled cell (s.monoNs + 1) } }).unfind 1 false 8 cell
    have v : Int := fieldLE block (8 + 2 * i) 2
    have r := if s0.suspect node (i + 1) then s0.suspectBeyond node block
      else (decide (s0.rawLimit 0 0 10000 ≤ v), decide (v ≤ s0.rawLimit 0 1 10000), s0)
    (r.2.2.countBeyond 0 cell cell r.1).countBeyond 1 cell cell r.2.1

/-- Channel 1 checks one temperature input of a block, if it is in use. -/
def State.checkTemp (s : State) (node : Nat) (block : Bytes) (j : Nat) : State :=
  if (s.node node).tempsUsed / 2 ^ j % 2 = 0 then s
  else
    have v := signed 16 (fieldLE block (40 + 2 * j) 2)
    have unit := node * 256 + j + 1
    (s.countBeyond 2 unit unit (decide (s.rawLimit 1 0 100 ≤ v))).countBeyond 3 unit unit
      (decide (v ≤ s.rawLimit 1 1 100))

/-- A node block is checkable: VALID or LATE (Table 3.4). -/
def checkable (block : Bytes) : Bool := fieldLE block 1 1 < 2

/-- SWEEP_CELL_CHECK (R262): one record's blocks; SAF.UNMEAS follows. -/
def State.checkRecord (s : State) (blocks : List Bytes) : State :=
  have s1 := blocks.foldl (fun t b =>
    if checkable b then
      have node := fieldLE b 0 1
      have t1 := (List.range 16).foldl (fun u i => u.checkCell node b i) t
      (List.range 4).foldl (fun u j => u.checkTemp node b j) t1
    else t) s
  have cells := (List.range s1.cellCount).map (· + 1)
  have stale := cells.filter (fun c => tget 0 s1.saf.sampled c != s1.monoNs + 1)
  have ages := cells.map (fun c => (s1.monoNs + 1 - tget 0 s1.saf.sampled c) / 1000000)
  s1.wr Reg.SAF_UNMEAS (BitVec.ofNat 32 (min 1023 stale.length * 2 ^ 16 + min 0xFFFF (ages.foldl max 0)))

/-- Channel 1 checks every record delivered since its last cycle. -/
def State.checkRecords (s : State) : State :=
  s.saf.records.foldl State.checkRecord { s with saf := { s.saf with records := [] } }

/-! Cycles and scans. -/

/-- SAFETY_CORE_CYCLE (R25, R252, R262, R267, R304): one channel 1 program cycle; it toggles LIVE. -/
def execSafetyCoreCycle (readback : Nat) (s : State) : Host.Outcome State Fault Refusal :=
  if s.safOn 1 then
    have s1 := (s.takeReadback 1 readback).adopt 1
    have s2 := (s1.judgeInputs 1).checkRecords.weltCycle
    have s3 := (s2.act 1).sendCross 1
    .next { s3 with welt := { s3.welt with image := s3.weltImage }, saf := { s3.saf with live := !s3.saf.live } }
  else .next s

/-- CH2_SCAN (R252, R264, R267): one channel 2 scan; beyond has a bit for each comparator whose input
lies at or beyond a threshold. -/
def execCh2Scan (readback beyond : Nat) (s : State) : Host.Outcome State Fault Refusal :=
  if s.safOn 2 then
    have s0 := { s with saf := { s.saf with scans := s.saf.scans + 1 } }
    have s1 := ((s0.takeReadback 2 readback).adopt 2).judgeInputs 2
    have s2 := (List.range 4).foldl (fun t c => if beyond / 2 ^ c % 2 = 1 then t else t.unfind 2 true 0 c) s1
    .next (s2.act 2)
  else .next s

/-- CH2_CROSS_CHECK_SEND (R252). -/
def execCh2CrossCheckSend (s : State) : Host.Outcome State Fault Refusal :=
  .next (if s.safOn 2 then s.sendCross 2 else s)

/-- CROSS_CHECK_RECEIVE (R252, R253, R258): the other channel's last record arrives. -/
def execCrossCheckReceive (channel : Nat) (s : State) : Host.Outcome State Fault Refusal :=
  match (s.safChan (otherCh channel)).tx with
  | none => .next s
  | some r =>
    if isChannel channel ∧ s.safOn channel ∧ s.links.vsUp then
      have s0 : State := { s with links := if channel = 1 then { s.links with crossVamp := 0 }
                                           else { s.links with crossSole := 0 } }
      have s1 := s0.setSafChan channel { s.safChan channel with rx := some r, rxAt := some s.saf.soleNs, permitted := r.permit }
      have s2 := if channel = 1 then
          (match r.crc with
           | some w => s1.wr Reg.SAF_PARAM_SOLE_CRC w
           | none => s1).unfind 1 false 6 0
        else s1
      .next s2
    else .next s

/-- Causes exempt from the disagreement check: comparator, Welt and liveness causes (R252). -/
def Finding.exempt (f : Finding) : Bool :=
  if f.hazard then f.code == 0 || f.code == 11 else f.code == 2 || f.code == 6 || f.code == 13 || f.code == 5

/-- CHANNEL_DISAGREE_TIMEOUT (R252): 4 ms with a cause latched in one channel only. -/
def execChannelDisagreeTimeout (s : State) : Host.Outcome State Fault Refusal :=
  if s.saf.findings.any (fun f => !f.exempt && f.lat1 != f.lat2) then
    have s1 := (s.find 1 false 5 0 0).find 2 false 5 0 0
    .next ((s1.unfind 1 false 5 0).unfind 2 false 5 0)
  else .next s

/-- CH2_SILENT_TIMEOUT (R253). -/
def execCh2SilentTimeout (s : State) : Host.Outcome State Fault Refusal := s.whenVamp <|
  .next (s.find 1 false 6 0 0)

/-! Liveness (R265). -/

/-- Loss of Vamp liveness: 0 edge late, 1 edge early, 2 VS link down, 3 records absent (Table 8.12). -/
def State.loseLiveness (s : State) (cause : Nat) : State :=
  if (s.finding false 2 0).any (fun f => f.src2) then s
  else
    have s1 := ((s.flag Reg.SOLE_STAT Reg.SOLE_STAT_COUNT 0).setBit Reg.SOLE_LIVE 31 true).soleLog 5 0
    have s2 := if s1.vampOn then s1.strobe Src.SOLE_WATCHDOG cause else s1
    s2.find 2 false 2 0 0

/-- LIVE_EDGE_RECEIVE (R265): an edge less than 125 µs after the previous one is early; one inside the
window ends the loss while the link is up and records arrive. -/
def execLiveEdgeReceive (intervalUs : Nat) (s : State) : Host.Outcome State Fault Refusal :=
  if s.safOn 2 then
    have s1 := ({ s with saf := { s.saf with liveAt := some s.saf.soleNs } }).setFld Reg.SOLE_LIVE 10 0 (min 0x7FF intervalUs)
    if intervalUs < 125 then .next (s1.loseLiveness 1)
    else .next (if intervalUs ≤ 1000 && s1.links.vsUp && s1.fresh (s1.safChan 2) then s1.unfind 2 false 2 0 else s1)
  else .next s

/-- LIVE_TIMEOUT (R265). -/
def execLiveTimeout (cause : Nat) (s : State) : Host.Outcome State Fault Refusal :=
  .next (if s.safOn 2 then s.loseLiveness cause else s)

/-- DROGUE_TIMER_EXPIRY (R272): the channel opens the outputs and the controller enters Safe. -/
def execDrogueTimerExpiry (channel : Nat) (s : State) : Host.Outcome State Fault Refusal :=
  .next (if isChannel channel ∧ s.safOn channel then (s.endDrogue channel 1).act channel else s)

/-! Currents (R260). -/

/-- A sensor mean in A from the sum of its codes: (mean - OFFSET) * SCALE; sensor 0 I_A, 1 I_B. -/
def State.sensorMean (s : State) (sensor n : Nat) (sum : Int) : Word :=
  f32Mul (f32Sub (f32OfRat sum n) (s.cfgW 10 6 (3 + 2 * sensor) 0)) (s.cfgW 10 6 (2 + 2 * sensor) 0)

/-- The measured current that a cross-check record carries. -/
def Cross.current (r : Cross) : Option Word :=
  match r.meanA, r.meanB with
  | some a, some b => some (if f32Lt (f32Abs a) (f32Abs b) then b else a)
  | _, _ => none

/-- The slow limits (Table 8.6): 1.1 × I_RATED unless the set gives them. -/
def State.slowLimit (s : State) (idx : Nat) : Word :=
  s.cfgW 10 8 idx (f32Div (f32Mul (s.cfgW 10 5 0 0) (f32OfInteger 11)) (f32OfInteger 10))

/-- A current at or above a slow limit, in its direction. -/
def State.slowOver (s : State) (m : Option Word) : Bool :=
  match m with
  | none => false
  | some i => f32Le (s.slowLimit 0) i || f32Le (s.slowLimit 1) (f32Neg i)

/-- SAFETY_CURRENT_MEAN_1MS (R259, R260, R272): a channel's window of 20,000 conversions ends; one that lacks a conversion
leaves the means unknown. -/
def execSafetyCurrentMean1ms (channel : Nat) (s : State) : Host.Outcome State Fault Refusal :=
  if isChannel channel ∧ s.safOn channel then
    have w := (s.safChan channel).ms
    have known := w.count == 20000
    have a := if known then some (s.sensorMean 0 20000 w.sumA) else none
    have b := if known then some (s.sensorMean 1 20000 w.sumB) else none
    have c0 : SafChan := { s.safChan channel with meanA := a, meanB := b, ms := {} }
    have slow := s.slowOver c0.current
    have c : SafChan := { c0 with slowMs := if slow then c0.slowMs + 1 else 0 }
    have s1 := s.setSafChan channel c
    have s2 := if channel = 1 then
        (s1.wr Reg.SAF_CURRENT_A (a.getD (s1.rd Reg.SAF_CURRENT_A))).wr Reg.SAF_CURRENT_B
          (b.getD (s1.rd Reg.SAF_CURRENT_B))
      else s1
    have s3 := if slow then s2 else s2.unfind channel true 1 0
    have s4 := if c.drogueAt.isSome && s3.nearZero c.current then (s3.endDrogue channel 2).act channel else s3
    have quietBoth := !s4.overBreak c.current && !s4.overBreak (c.rx.bind Cross.current)
    .next (if (s4.safChan channel).shuntAt.isSome && quietBoth then s4.endShunt channel else s4)
  else .next s

/-- SAFETY_CURRENT_MEAN_100MS (R260): a channel's window of 2,000,000 conversions ends; no comparison is made over an unknown
window. -/
def execSafetyCurrentMean100ms (channel : Nat) (s : State) : Host.Outcome State Fault Refusal :=
  if isChannel channel ∧ s.safOn channel then
    have w := (s.safChan channel).hundred
    have s1 := s.setSafChan channel { s.safChan channel with hundred := {} }
    have d := f32Abs (f32Sub (s1.sensorMean 0 2000000 w.sumA) (s1.sensorMean 1 2000000 w.sumB))
    have bound := f32Div (f32Mul (s1.cfgW 10 10 0 0x40A00000) (s1.cfgW 10 5 0 0)) (f32OfInteger 100)
    .next (if w.count = 2000000 then s1.judge channel false 4 0 0 (f32Lt bound d) else s1)
  else .next s

/-- SLOW_OVERCURRENT (R261): the 1 ms means of T_SLOW ms, the last included, lay at or above a slow limit. -/
def execSlowOvercurrent (channel : Nat) (s : State) : Host.Outcome State Fault Refusal :=
  have c := s.safChan channel
  .next (if isChannel channel ∧ s.slowOver c.current ∧ s.cfgN 10 9 0 100 ≤ c.slowMs then s.find channel true 1 0 0 else s)

/-- SHUNT_WAIT_TIMEOUT (R259). -/
def execShuntWaitTimeout (channel : Nat) (s : State) : Host.Outcome State Fault Refusal :=
  .next (if isChannel channel then s.endShunt channel else s)

/-! Test pulses (R256). -/

/-- The test result of a switch: 1 passed, 2 failed, 3 skipped. -/
def State.tpResult (s : State) (sw v : Nat) : State := s.setFld Reg.SAF_TP_STAT (2 * sw + 1) (2 * sw) v

/-- A test is skipped, to be retried 100 ms later. -/
def State.tpSkip (s : State) (sw : Nat) : State := (s.tpResult sw 3).safEvent Src.SAF_TEST_PULSE (sw * 2)

/-- Start the test of a switch, or skip it. -/
def State.tpStart (s : State) (sw : Nat) : State :=
  have n := sw / 2 + 1
  if 8 ≤ sw ∨ s.saf.pulse.isSome ∨ ¬ s.safOn (if sw % 2 = 0 then 2 else 1) then s
  else if s.holdsHazard 1 || s.holdsHazard 2 || s.drogue || s.saf.ch1.drogueAt.isSome || s.saf.ch2.drogueAt.isSome ||
      s.highOn n != s.lowOn n then s.tpSkip sw
  else { s with saf := { s.saf with pulse := some { switch := sw, closed := s.highOn n } } }

/-- TEST_PULSE_START (R256). -/
def execTestPulseStart (switch : Nat) (s : State) : Host.Outcome State Fault Refusal := .next (s.tpStart switch)

/-- TEST_PULSE_RETRY (R256). -/
def execTestPulseRetry (switch : Nat) (s : State) : Host.Outcome State Fault Refusal :=
  .next (if s.fld Reg.SAF_TP_STAT (2 * switch + 1) (2 * switch) = 3 then s.tpStart switch else s)

/-- The levels of Table 8.2 for the pair of a switch while the test pulses it. -/
def Pulse.levels (p : Pulse) : Nat := pattern (if p.switch % 2 = 0 then !p.closed else p.closed)
  (if p.switch % 2 = 0 then p.closed else !p.closed)

/-- The pulsed pattern appeared during the pulse, and the steady one after it. -/
def Pulse.passes (p : Pulse) (during after : Nat) : Bool := during == p.levels && after == pattern p.closed p.closed

/-- TEST_PULSE_END (R256): during are the levels of the switch's pair in the last 20 µs of the pulse and after those
TP_OFF_US after it, each as SAF.OUT_STAT gives them. -/
def execTestPulseEnd (during after : Nat) (s : State) : Host.Outcome State Fault Refusal :=
  match s.saf.pulse with
  | none => .next s
  | some p =>
    have sw := p.switch
    have ch := if sw % 2 = 0 then 2 else 1
    have s1 := { s with saf := { s.saf with pulse := none } }
    have m := 2 ^ sw
    have f := s1.saf.pulseFail
    if p.broken || s1.holdsHazard 1 || s1.holdsHazard 2 || s1.drogue then .next (s1.tpSkip sw)
    else if p.passes during after then
      have s2 := { s1.tpResult sw 1 with saf := { s1.saf with pulseFail := f - f / m % 2 * m } }
      .next (s2.unfind ch false 10 (16 + sw))
    else
      have s2 := { s1.tpResult sw 2 with saf := { s1.saf with pulseFail := Nat.lor f m } }
      have s3 := (s2.flag Reg.SAF_STAT Reg.SAF_STAT_COUNT 3).safEvent Src.SAF_TEST_PULSE (sw * 2 + 1)
      .next (s3.find ch false 10 (16 + sw) 0)

/-! Mirror contacts (R257). -/

/-- MIRROR_FEEDBACK_TIMEOUT (R257): FB_TIME_MS after a command change the mirror does not agree. -/
def execMirrorFeedbackTimeout (channel pair : Nat) (s : State) : Host.Outcome State Fault Refusal :=
  match s.mirrorInput pair with
  | none => .next s
  | some _ =>
    have closed := s.commandedClosed pair
    if !isChannel channel || pair < 1 || 3 < pair || s.mirrorAgrees channel pair then .next s
    else
      have s1 := { s with saf := { s.saf with mirrorFault := Nat.lor s.saf.mirrorFault (2 ^ (pair - 1)) } }
      have other := 3 - pair
      have both := pair ≤ 2 && !closed && (match s.mirrorInput other with
        | none => true
        | some j => s.mirrorClosed channel j)
      have s2 := s1.safEvent Src.SAF_WELD (pair * 2 ^ 16 + (if both then 2 else 1))
      .next (if both then s2.find channel true 12 (8 + pair) 0 else s2)

/-- UNMEASURED_TIMEOUT (R262): a cell without a checkable sample for UNMEAS_MS; one of an unreachable node
falls under node unreachable instead. -/
def execUnmeasuredTimeout (cell : Nat) (s : State) : Host.Outcome State Fault Refusal := s.whenVamp <|
  have gone := s.nodeList.any (fun n => s.nodeState n == 3 &&
    (List.range 16).any (fun i => s.cellOf n (i + 1) == cell))
  .next (if 1 ≤ cell ∧ cell ≤ s.cellCount ∧ ¬ gone then s.find 1 false 8 cell 0 else s)

/-! Inputs (R267 to R270). -/

/-- SAFETY_INPUT_LEVEL_CHANGE (R267): a line's filtered level at a scanner changes. -/
def execSafetyInputLevelChange (channel input line : Nat) (high : Bool) (s : State) :
    Host.Outcome State Fault Refusal :=
  if isChannel channel ∧ input < 16 ∧ line < 2 then
    have c := s.safChan channel
    have m := 2 ^ (2 * input + line)
    have l := if high then Nat.lor c.lines m else c.lines - c.lines / m % 2 * m
    .next (((s.setSafChan channel { c with lines := l }).judgeInput channel input).act channel)
  else .next s

/-- DISCREPANCY_FAULT (R268): the lines of an input have disagreed for DISC_TICKS + 1 scans. -/
def execDiscrepancyFault (channel input scans : Nat) (s : State) : Host.Outcome State Fault Refusal :=
  if isChannel channel ∧ input < 16 ∧ (s.inputCause input).isSome ∧ s.discTicks input < scans ∧
      s.lineDemands channel input 0 ≠ s.lineDemands channel input 1 then
    have c := s.safChan channel
    have m := 2 ^ input
    have s1 := s.setSafChan channel { c with disc := Nat.lor c.disc m, both := c.both - c.both / m % 2 * m }
    .next ((((s1.flag Reg.SAF_STAT Reg.SAF_STAT_COUNT 2).safEvent Src.SAF_DISCREPANCY
      (input * 2 ^ 16 + min 0xFFFF scans)).judgeInput channel input).act channel)
  else .next s

/-- ACK_INPUT_PULSE (R270): a pulse of 5,000 to 200,000 scans on an ACK input acknowledges. -/
def execAckInputPulse (channel input scans : Nat) (s : State) : Host.Outcome State Fault Refusal :=
  if isChannel channel ∧ input < 16 ∧ s.inputType input ≠ 0 ∧ s.inputFunction input = 6 ∧ 5000 ≤ scans ∧
      scans ≤ 200000 then .next (s.ackFrom 2)
  else .next s

/-- SAF_ACK_WRITE (R270): the key acknowledges; other values are ignored. -/
def State.safAckWrite (s : State) (value : Word) : State := if value = 0x5AC3 then s.ackFrom 1 else s

/-- SAF_ACK_WRITE (R270). -/
def execSafAckWrite (value : Word) (s : State) : Host.Outcome State Fault Refusal := s.whenVamp <|
  .next (s.safAckWrite value)

/-! Output requests (R258, R259, R283). -/

/-- SAF_OUT_REQ_FIRE (R259): a hazard demand of both channels, reported as INPUT with bit 15. -/
def State.fire (s : State) : State :=
  have s1 := (s.find 1 true 7 fireKey fireKey).find 2 true 7 fireKey fireKey
  (s1.unfind 1 true 7 fireKey).unfind 2 true 7 fireKey

/-- SAF_OUT_REQ_FIRE (R259). -/
def execSafOutReqFire (s : State) : Host.Outcome State Fault Refusal := s.whenVamp <|
  .next s.fire

/-- A write to SAF.OUT_REQ.CLOSE: each channel takes it at its next cycle (R283). -/
def State.outReqClose (s : State) (value : Word) : State := s.setClose (getBits value 2 0)

/-- SAF_OUT_REQ_CLOSE (R258). -/
def execSafOutReqClose (value : Word) (s : State) : Host.Outcome State Fault Refusal := s.whenVamp <|
  .next (s.outReqClose value)

/-- PARAM_CRC_CHECK (R280): a channel recomputes the CRC of its working copy and compares it. -/
def execParamCrcCheck (channel : Nat) (crc : Word) (s : State) : Host.Outcome State Fault Refusal :=
  if isChannel channel ∧ s.safOn channel then
    have s1 := s.setSafChan channel { s.safChan channel with crc := crc }
    have s2 := s1.wr (if channel = 1 then Reg.SAF_PARAM_CRC else Reg.SOLE_PARAM_CRC) crc
    if crc = (s2.safChan (otherCh channel)).crc then .next (s2.unfind channel false 7 0)
    else
      have s3 := s2.safEvent Src.SAF_PARAM_MISMATCH 1
      have s4 := if channel = 2 then s3.soleLog 8 0 else s3
      .next (s4.find channel false 7 0 0)
  else .next s

end Sys2Proof.Machine
end

