-- ==== Sys2Proof/Machine/Pcs.lean ====
section
/-!
DEFINITION. The PCS port (R225 to R249): requests and answers, the limit table, link loss, the current
comparison, dispatch and the perturbation enable.
-/

namespace Sys2Proof.Machine

/-! Requests. -/

/-- The measured cycle in µs for a detail word, saturating (R249). -/
def State.cycleUs (s : State) : Nat := min 0xFFFF ((s.rd Reg.PCS_CYCLE).toNat / 1000)

/-- PCS_REQUEST with a cause of Table 7.8. -/
def State.pcsNotice (s : State) (cause : Nat) : State :=
  s.strobe Src.PCS_REQUEST (cause * 2 ^ 16 + s.cycleUs)

/-- PCS_FRAME_DISCARD for the bytes that came (Table 7.8): SEQ is readable once bytes 0 and 1 have come. -/
def State.pcsDiscard (s : State) (got : Bytes) (reason : Nat) : State :=
  s.strobe Src.PCS_FRAME_DISCARD (b2n (decide (2 ≤ got.length)) * 2 ^ 16 + fieldLE got 1 1 * 2 ^ 8 + reason)

/-- A request arrived less than 19 µs after the previous valid one (R234). -/
def State.pcsEarly (s : State) : Bool :=
  match s.pcs.lastEdge with
  | none => false
  | some t => decide (s.tim.chain.total < t + 19000)

/-- The edge pattern of a request (R230): its origin is the reference edge less LINK_DELAY_NS. -/
def State.pcsPattern (s : State) (frame : Bytes) : EdgePattern :=
  { edgeNs := s.tim.chain.total - s.fld Reg.PCS_CONFIG 10 0, period := fieldLE frame 12 2,
    start := fieldLE frame 14 2,
    edges := ((List.range 7).map (fun i => fieldLE frame (16 + 2 * i) 2)).filter (· != 0xFFFF) }

/-- The measured cycle changed by more than 1 %. -/
def cycleChanged (old new : Nat) : Bool :=
  decide (old ≠ 0) && (decide (old < 100 * (new - old)) || decide (old < 100 * (old - new)))

/-- The acknowledgement rules of R121 on a direct string: withdrawn, or none within 10 requests. -/
def State.pertAck (s : State) (ack : Bool) : State :=
  match s.swp.burst with
  | none => s
  | some b =>
    if s.converter || !s.burstRuns then s
    else if ack then { s with swp := { s.swp with burst := some { b with acked := true, requests := b.requests + 1 } } }
    else if b.acked || decide (10 ≤ b.requests + 1) then s.burstAbort 4
    else { s with swp := { s.swp with burst := some { b with requests := b.requests + 1 } } }

/-- REQUESTED_I outside the previous answer's allowed currents (R246): counted, flagged, and reported at
most once per 1 s. -/
def State.overRequest (s : State) (req : Word) : State :=
  if s.pcs.answeredAt.isSome && (f32Lt s.pcs.allowedChg req || f32Lt req (f32Neg s.pcs.allowedDis)) then
    have s1 := (s.flag Reg.PCS_STAT Reg.PCS_STAT_COUNT0 6).incFld Reg.PCS_ERR2 31 16
    have due := match s1.pcs.overAt with
      | none => true
      | some t => decide (t + 1000000000 ≤ s1.monoNs)
    if due then ({ s1 with pcs := { s1.pcs with overAt := some s1.monoNs } }).pcsNotice 3 else s1
  else s

/-- What a valid request leaves in the registers and the state (R95, R230, R243 to R246). -/
def State.pcsTake (s : State) (frame : Bytes) : State :=
  have flags := fieldLE frame 2 2
  have meas := BitVec.ofNat 32 (fieldLE frame 4 4)
  have req := BitVec.ofNat 32 (fieldLE frame 8 4)
  have now := s.tim.chain.total
  have old := (s.rd Reg.PCS_CYCLE).toNat
  have cycle := if s.pcs.valid = 0 then 0 else now - s.pcs.lastEdge.getD now
  have first := s.pcs.valid == 0
  have measValid := flags / 4 % 2 == 1
  have p : Pcs := { s.pcs with
    valid := min 2 (s.pcs.valid + 1), lastEdge := some now, before := (s.pcs.pattern.toList ++ s.pcs.before).take 32,
    pattern := some (s.pcsPattern frame), missedRun := 0, lossStands := false,
    measSum := if measValid then f32Add s.pcs.measSum meas else s.pcs.measSum,
    measCount := if measValid then s.pcs.measCount + 1 else s.pcs.measCount }
  have s1 : State := { s with pcs := p }
  have s2 := (s1.wr Reg.PCS_CYCLE (BitVec.ofNat 32 cycle)).wr Reg.PCS_LAST_RX
    (BitVec.ofNat 32 (flags * 256 + fieldLE frame 1 1))
  have s3 := ((s2.wr Reg.PCS_MEAS_I meas).wr Reg.PCS_REQ_I req).incWrap Reg.PCS_RX_COUNT
  have s4 := if s.pcs.lossStands then (s3.unfind 1 false 1 0).strobe Src.PCS_LINK_LOSS (b2n s.pcs.lossClosed) else s3
  have s5 := if first then s4.pcsNotice 0 else if cycleChanged old cycle then s4.pcsNotice 1 else s4
  (s5.overRequest req).pertAck (flags % 2 == 1)

/-! Answers. -/

/-- STATE of an answer (Table 7.3, R239). -/
def State.answerState (s : State) : Nat :=
  if s.demandLine then 3
  else match s.mode with
    | .run => 1
    | .stop => 2
    | .safe => 3
    | _ => 0

/-- FLAGS of an answer (Table 7.3, R241). -/
def State.answerFlags (s : State) : Nat :=
  have f := s.pcs.table.flags
  b2n s.drogue + 2 * b2n (getBit f 1) + 4 * b2n (getBit f 2) + 8 * b2n (getBit f 3) +
  16 * b2n (s.bit Reg.PCS_PERT_CTRL 0) + 32 * b2n (s.readsClosed 1 && s.readsClosed 2) +
  64 * b2n (decide (250 ≤ s.limitAge)) + 128 * b2n s.pcs.setpoint.isSome

/-- u of R242: whole µs from the write of ENABLE 1 to the answer's planned start. -/
def State.pertMicros (s : State) : Nat :=
  (s.pcs.lastEdge.getD 0 + 32 * s.fld Reg.PCS_CONFIG 23 20 - s.pcs.pertStart) / 1000

/-- The greatest amplitude of the perturbation, in 2^-149 A. -/
def State.pertLargest (s : State) : Nat :=
  (List.range 16).foldl (fun b m => max b (f32Exact (s.rd (Reg.PCS_PERT_AMP m))).natAbs) 0

/-- PERTURB (R242): 0.0 while ENABLE is 0, otherwise the sum over the components at u; each cosine may be wrong by 2^-18 of the
largest amplitude, which is free. Rounded once to binary32 (DESIGN CHOICE, assumption 32). -/
def State.perturb (s : State) : Word :=
  if s.bit Reg.PCS_PERT_CTRL 0 then
    have u := s.pertMicros
    have term := fun (m : Nat) =>
      have amp := f32Exact (s.rd (Reg.PCS_PERT_AMP m))
      have turn := (s.rd (Reg.PCS_PERT_PH m)).toNat * 2 ^ 8 + (s.rd (Reg.PCS_PERT_INC m)).toNat * u
      have c := cosTurn ((turn + 128) / 256)
      if amp = 0 then 0 else amp * c + (s.pertLargest : Int) * ((s.drawnBy m).unitCos c - c)
    f32OfInt false ((List.range 16).map term).sum (-189)
  else 0

/-- RAMP_MS (R240): R - τ rounded up to a ms, 0 when there is no envelope. -/
def State.rampMs (s : State) : Nat :=
  match s.pcs.envelope with
  | none => 0
  | some e => ((s.rampLeft e.1).1 + 999999) / 1000000

/-- The 32 bytes of an answer (Table 7.3). -/
def State.answerBytes (s : State) (seq : Nat) : Bytes :=
  have a := s.answerCurrents 0
  have h := s.answerCurrents s.pcs.hSel
  have body := bytesLE 1 1 ++ bytesLE 1 seq ++ bytesLE 1 s.answerState ++ bytesLE 1 s.answerFlags ++
    bytesLE 4 a.1.toNat ++ bytesLE 4 a.2.toNat ++ bytesLE 4 h.1.toNat ++ bytesLE 4 h.2.toNat ++
    bytesLE 1 s.pcs.hSel ++ bytesLE 1 s.limitAge ++ bytesLE 2 s.rampMs ++ bytesLE 4 s.perturb.toNat ++
    bytesLE 2 (s.pcs.setpoint.getD 0x8000)
  body ++ bytesBE 2 (crc16 body)

/-- The answer to a valid request (R232, R233, R238). -/
def State.pcsAnswer (s : State) (seq : Nat) : State :=
  if s.answers then
    have a := s.answerCurrents 0
    have last := s.pcs.hSel * 2 ^ 24 + s.answerFlags * 2 ^ 16 + s.answerState * 2 ^ 8 + seq
    have s1 := ((s.emit (.pcsFrame (s.answerBytes seq))).wr Reg.PCS_LAST_TX (BitVec.ofNat 32 last)).setBit
      Reg.PCS_STAT 9 true
    { s1.drawnBy 16 with pcs := { s1.pcs with
        hSel := s1.pcs.hSel % 3 + 1, allowedChg := a.1, allowedDis := a.2, answeredAt := some s1.monoNs } }
  else s

/-- What the port takes from the line: a request, an early one (R234), or a discard (R229). -/
def State.pcsFrameEnd (s : State) : FrameEnd → State
  | .discard why got => ((s.flag Reg.PCS_STAT Reg.PCS_STAT_COUNT0 0).incFld Reg.PCS_ERR 15 0).pcsDiscard got why
  | .good frame =>
    if s.pcsEarly then
      ((s.flag Reg.PCS_STAT Reg.PCS_STAT_COUNT0 3).incFld Reg.PCS_ERR2 15 0).pcsDiscard frame 0
    else (s.pcsTake frame).pcsAnswer (fieldLE frame 1 1)

/-- PCS_REQUEST_RECEIVE (R226, R228 to R230, R233, R234): the code groups of some symbol times, which end at the reference edge of
a request. -/
def execPcsRequestReceive (groups : List (Option Nat)) (s : State) : Host.Outcome State Fault Refusal := s.whenVamp <|
  if s.mode == .standby then .next s else .next ((lineFrames pcsLine groups).foldl State.pcsFrameEnd s)

/-- PCS_RX_ALIGN (R227). -/
def execPcsRxAlign (s : State) : Host.Outcome State Fault Refusal := s.whenVamp <|
  .next (s.setBit Reg.PCS_STAT 8 true)

/-- PCS_RX_LINK_DOWN (R227). -/
def execPcsRxLinkDown (s : State) : Host.Outcome State Fault Refusal := s.whenVamp <|
  .next (s.setBit Reg.PCS_STAT 8 false)

/-! The limit table. -/

/-- The shadow limit table takes effect (R236); the first commit with VALID starts the answers (R233). -/
def State.ltCommit (s : State) : State :=
  have t : LimitTable := {
    chg0 := s.rd (Reg.PCS_LT_CHG 0), chg1 := s.rd (Reg.PCS_LT_CHG 1), chg2 := s.rd (Reg.PCS_LT_CHG 2),
    chg3 := s.rd (Reg.PCS_LT_CHG 3), dis0 := s.rd (Reg.PCS_LT_DIS 0), dis1 := s.rd (Reg.PCS_LT_DIS 1),
    dis2 := s.rd (Reg.PCS_LT_DIS 2), dis3 := s.rd (Reg.PCS_LT_DIS 3), flags := s.rd Reg.PCS_LT_FLAGS }
  have ready := if s.pcs.readyAt.isNone && getBit t.flags 0 then some s.monoNs else s.pcs.readyAt
  have s1 : State := { s with pcs := { s.pcs with table := t, commitAt := some s.monoNs, readyAt := ready } }
  (s1.setFld Reg.PCS_LT_STAT 31 8 (s1.fld Reg.PCS_LT_STAT 31 8 + 1)).setBit Reg.PCS_STAT 11 false

/-- A write of PCS.LT_COMMIT: firmware only (R236). -/
def State.ltCommitWrite (s : State) (value : Word) (who : Requester) : State :=
  if who ≠ .firmware then s.emit (.errorResponse Reg.PCS_LT_COMMIT)
  else if getBit value 0 then s.ltCommit else s

/-- PCS_LT_COMMIT (R236). -/
def execPcsLtCommit (value : Word) (who : Requester) (s : State) : Host.Outcome State Fault Refusal := s.whenVamp <|
  .next (s.ltCommitWrite value who)

/-- LIMIT_STALE (R237). -/
def execLimitStale (s : State) : Host.Outcome State Fault Refusal := s.whenVamp <|
  .next ((s.flag Reg.PCS_STAT Reg.PCS_STAT_COUNT0 4).setBit Reg.PCS_STAT 11 true)

/-! Missed requests and link loss. -/

/-- PCS_REQUEST_MISSED_TIMEOUT (R244): counted until link loss. -/
def execPcsRequestMissedTimeout (s : State) : Host.Outcome State Fault Refusal := s.whenVamp <|
  if s.pcs.lossStands ∨ s.rd Reg.PCS_CYCLE = 0 then .next s
  else
    have n := satInc s.pcs.missedRun 0xFFFF
    have s1 : State := { s with pcs := { s.pcs with missedRun := n } }
    .next (((s1.flag Reg.PCS_STAT Reg.PCS_STAT_COUNT0 1).incFld Reg.PCS_ERR 31 16).strobe Src.PCS_REQUEST_MISSED n)

/-- PCS_LINK_LOSS_TIMEOUT (R245): with a main pair closed the loss is a Drogue cause. -/
def execPcsLinkLossTimeout (s : State) : Host.Outcome State Fault Refusal := s.whenVamp <|
  if s.pcs.lossStands ∨ s.pcs.readyAt.isNone then .next s
  else
    have closed := s.mainClosed
    have s1 : State := { s with pcs := { s.pcs with lossStands := true, lossClosed := closed, valid := 0, missedRun := 0 } }
    have s2 := (s1.flag Reg.PCS_STAT Reg.PCS_STAT_COUNT0 2).setBit Reg.PCS_STAT 9 false
    have s3 := (s2.wr Reg.PCS_CYCLE 0).strobe Src.PCS_LINK_LOSS (2 ^ 23 + b2n closed)
    .next (if closed then s3.find 1 false 1 0 0 else s3)

/-! Current comparison. -/

/-- PCS_CURRENT_COMPARE (R246): a window of 100 ms ends. The controller's own mean is that of the conversions that fell into it,
known if 2,000,000 did (DESIGN CHOICE, assumption 229). -/
def execPcsCurrentCompare (s : State) : Host.Outcome State Fault Refusal := s.whenVamp <|
  have own := (s.swp.tenth.means 2000000).map (·.1)
  have n := s.pcs.measCount
  have mean := f32Div s.pcs.measSum (f32OfInteger n)
  have s1 : State := { s with pcs := { s.pcs with measSum := 0, measCount := 0 }, swp := { s.swp with tenth := {} } }
  match own with
  | none => .next s1
  | some i =>
    if n ≠ 0 ∧ f32Lt (s.ratedPart 50) (f32Abs (f32Sub i mean)) then
      .next ((s1.flag Reg.PCS_STAT Reg.PCS_STAT_COUNT0 5).pcsNotice 2)
    else .next s1

/-! Dispatch. -/

/-- A cap that an apply may carry (R247): a number, not negative, not above rated. -/
def State.capOk (s : State) (cap : Word) : Bool := f32Le 0 cap && f32Le cap s.iRated

/-- Why an apply is refused (Table 7.8): 0 applied, 1 for a cap, 2 for the lease. -/
def State.dispatchBar (s : State) (chg dis : Word) (lease : Nat) : Nat :=
  if !(s.capOk chg && s.capOk dis) then 1 else if lease = 0 ∨ 60000 < lease then 2 else 0

/-- Apply caps, setpoint and lease together, or refuse them (R247, R248). -/
def State.dispatch (s : State) (chg dis : Word) (set lease : Nat) : State :=
  have bar := s.dispatchBar chg dis lease
  have s1 := if bar = 0 then
      ({ s with pcs := { s.pcs with
          capChg := some chg, capDis := some dis, setpoint := if set = 0x8000 then none else some set,
          leaseEnd := some (s.monoNs + lease * 1000000), leaseMs := lease } } : State).setFld Reg.PCS_DISP_STAT 17 16 1
    else s
  s1.strobe Src.PCS_DISPATCH (bar * 2 ^ 16 + lease)

/-- PCS_DISPATCH_APPLY (R247). -/
def execPcsDispatchApply (s : State) : Host.Outcome State Fault Refusal := s.whenVamp <|
  .next ((s.dispatch (s.rd Reg.PCS_DISP_CHG) (s.rd Reg.PCS_DISP_DIS) (s.fld Reg.PCS_DISP_SET 15 0)
    (s.fld Reg.PCS_DISP_LEASE 15 0)).setBit Reg.PCS_DISP_CTRL 0 false)

/-- DISPATCH_LEASE_EXPIRY (R248): the setpoint goes, and DISP_EXPIRY removes, holds or zeroes the caps. -/
def execDispatchLeaseExpiry (s : State) : Host.Outcome State Fault Refusal := s.whenVamp <|
  if s.pcs.leaseEnd.isNone then .next s
  else
    have rule := s.fld Reg.PCS_CONFIG 19 18
    have cap := fun (c : Option Word) => if rule = 0 then none else if rule = 2 then some f32Zero else c
    have s1 : State := { s with pcs := { s.pcs with
      setpoint := none, leaseEnd := none, capChg := cap s.pcs.capChg, capDis := cap s.pcs.capDis } }
    .next ((s1.setFld Reg.PCS_DISP_STAT 17 16 (if rule = 0 then 0 else if rule = 2 then 3 else 2)).strobe
      Src.PCS_DISPATCH (3 * 2 ^ 16 + s.pcs.leaseMs))

/-! Perturbation. -/

/-- A write of PCS.PERT_CTRL: firmware only (R236, R242). -/
def State.pertWrite (s : State) (value : Word) (who : Requester) : State :=
  if who ≠ .firmware then s.emit (.errorResponse Reg.PCS_PERT_CTRL)
  else
    have s1 := s.setBit Reg.PCS_PERT_CTRL 0 (getBit value 0)
    if getBit value 0 then { s1 with pcs := { s1.pcs with pertStart := s1.tim.chain.total } } else s1

/-- PCS_PERT_ENABLE (R242). -/
def execPcsPertEnable (value : Word) (who : Requester) (s : State) : Host.Outcome State Fault Refusal := s.whenVamp <|
  .next (s.pertWrite value who)

end Sys2Proof.Machine
end

