-- ==== Sys2Proof/Machine/EstView.lean ====
section
/-!
DEFINITION. What the newest record shows: an entry of the cell result table (R187) and the values that the
page 2 operations of Bavin code read (R314, Table 10.8), which stay available for two sweep periods after the
next record.
-/

namespace Sys2Proof.Machine

/-- FLAGS of a cell result entry (Table 5.13). -/
def State.resultFlags (s : State) (cell : Nat) : Nat :=
  have c := s.ctx cell
  have is := fun (f : Ctx → Bool) => b2n ((c.map f).getD false)
  have bleed := (s.placeOf cell).bind (fun q => (s.est.bleed.find? (fun p => p.1 == q.1)).map (fun p =>
    p.2.1 / 2 ^ (q.2 - 1) % 2))
  have re := fun (k : Ctx) => match k.reanchoredAt with
    | none => false
    | some t => decide (s.monoNs < t + 600000000000)
  is re + 2 * b2n (s.cellSuspect cell) + 4 * is (·.predicted) + 8 * bleed.getD 0 +
    16 * is (·.defaults) + 32 * is (·.rebuilding) + 64 * is (·.reinit)

/-- Entry of the cell result table (Table 5.13). -/
def State.resultEntry (s : State) (cell : Nat) : Bytes :=
  have c := s.ctx cell
  have get := fun (f : Ctx → Word) => bytesLE 4 ((c.map f).getD 0).toNat
  have duty := (s.placeOf cell).bind (fun q => (s.est.bleed.find? (fun p => p.1 == q.1)).map (fun p =>
    p.2.2.2.getD (q.2 - 1) 0))
  have tCore := match c with
    | none => 0
    | some k => wrapInt 16 (if k.level = 3 then s.cellTemp cell else k.tCore)
  bytesLE 2 cell ++ [BitVec.ofNat 8 (s.ledgerLevel cell), BitVec.ofNat 8 (s.resultFlags cell)] ++ get (·.z) ++
    get (fun k => f32Sqrt (k.var.getD 0 0)) ++ get (·.q) ++ get (·.rohm) ++ bytesLE 2 tCore ++
    [BitVec.ofNat 8 (duty.getD 0), 0] ++ get (fun k => k.chg.getD 0 0) ++ get (fun k => k.dis.getD 0 0)

/-! Values of the page 2 operations. -/

/-- CELLGET fields of a cell from the newest record; NaN where a value is not available. -/
def State.liveCell (s : State) (cell : Nat) : List Word :=
  have blocks := match s.swp.record with
    | some (_, bs) => bs
    | none => []
  have p := s.sampleOf blocks cell
  have volt := if p.usable then voltOf p.volt
    else match tget 0 s.est.volts cell with
      | 0 => f32NaN
      | v => voltOf v
  have temp := match p.temp with
    | some t => f32OfRat t 100
    | none => if tget noTemp s.est.temps cell = noTemp then f32NaN else s.cellTempC cell
  have rest := match s.ctx cell with
    | none => List.replicate 7 f32NaN
    | some c =>
      if !c.started then List.replicate 7 f32NaN
      else [c.z, f32Sqrt (c.var.getD 0 0), c.q, c.rohm, if 3 ≤ c.level then f32NaN else f32OfRat c.tCore 100,
        c.chg.getD 0 0, c.dis.getD 0 0]
  volt :: temp :: rest

/-- The CELLFLAGS word of a cell: LEVEL over FLAGS. -/
def State.liveFlags (s : State) (cell : Nat) : Nat := s.ledgerLevel cell * 256 + s.resultFlags cell % 256

/-- NODEGET fields of a node from the newest record. -/
def State.liveNode (s : State) (node : Nat) : List Word :=
  match s.swp.record.bind (fun r => r.2.find? (fun b => blockNode b == node)) with
  | none => List.replicate 7 f32NaN
  | some b =>
    if 2 ≤ blockCode b then List.replicate 7 f32NaN
    else
      [f32OfRat (fieldLE b 6 2) 500] ++ (List.range 4).map (fun j => f32OfRat (signed 16 (fieldLE b (40 + 2 * j) 2)) 100) ++
        (List.range 2).map (fun j => f32OfRat (fieldLE b (48 + 2 * j) 2) 10000)

/-- The greatest or least of values, NaN when there is none. -/
def extremeOf (pick : Word → Word → Word) (l : List Word) : Word :=
  match l with
  | [] => f32NaN
  | w :: ws => ws.foldl pick w

/-- STRGET fields from the newest record. -/
def State.liveString (s : State) : List Word :=
  match s.swp.record with
  | none => List.replicate 15 f32NaN
  | some (head, blocks) =>
    have temps := (s.cells.map (fun c => (s.liveCell c).getD 1 f32NaN)).filter (fun w => !f32IsNaN w)
    have usable := (s.usableVolts blocks).map (fun (x : Nat × Nat) => x.2)
    have volts := usable.map voltOf
    have sum := if usable.isEmpty then f32NaN else f32OfRat (usable.sum : Int) 10000
    [if recInvalid head then f32NaN else recCurrent head] ++ s.est.limChg ++ s.est.limDis ++
      [extremeOf f32Max temps, extremeOf f32Min temps, extremeOf f32Max volts, extremeOf f32Min volts, sum,
       f32OfInteger (recId head)]

/-- The values of the newest record are kept when the next one closes (R314). -/
def State.freezeView (s : State) : State :=
  match s.swp.record with
  | none => s
  | some (head, _) =>
    have v : RecView := {
      id := recId head, nextAt := s.monoNs,
      cells := s.cells.map (fun c => (s.liveCell c, s.liveFlags c)),
      nodes := s.nodeList.map s.liveNode, string := s.liveString }
    { s with prg := { s.prg with views := v :: s.prg.views.take 2 } }

/-- What a cycle reads of the record of its snapshot. -/
inductive Seen where
  | live
  | kept (v : RecView)
  | gone
deriving DecidableEq, Repr

/-- The record of a SWEEP_ID as a cycle still sees it: the newest one, one whose values are kept, or none. -/
def State.seen (s : State) (record : Option Nat) : Seen :=
  match record with
  | none => .gone
  | some id =>
    if s.swp.record.map (fun (r : Bytes × List Bytes) => recId r.1) == some id then .live
    else match s.prg.views.find? (fun v => v.id == id && decide (s.monoNs ≤ v.nextAt + 2 * s.sweepPeriod)) with
      | some v => .kept v
      | none => .gone

/-- CELLGET (Table 10.8). -/
def State.cellGet (s : State) (record : Option Nat) (cell field : Nat) : Word :=
  if cell = 0 ∨ s.cellCount < cell then f32NaN
  else match s.seen record with
    | .live => (s.liveCell cell).getD field f32NaN
    | .kept v => ((v.cells.getD (cell - 1) ([], 0)).1).getD field f32NaN
    | .gone => f32NaN

/-- CELLFLAGS; a value that is not available has no word, and the spec states none (free value). -/
def State.cellFlags (s : State) (record : Option Nat) (cell : Nat) : Option Nat :=
  if cell = 0 ∨ 768 < cell then none
  else match s.seen record with
    | .live => some (s.liveFlags cell)
    | .kept v => if s.cellCount < cell then some (6 * 256) else (v.cells[cell - 1]?).map (fun (x : List Word × Nat) => x.2)
    | .gone => none

/-- NODEGET (Table 10.8). -/
def State.nodeGet (s : State) (record : Option Nat) (node field : Nat) : Word :=
  if node = 0 ∨ s.nodeCount < node then f32NaN
  else match s.seen record with
    | .live => (s.liveNode node).getD field f32NaN
    | .kept v => (v.nodes.getD (node - 1) []).getD field f32NaN
    | .gone => f32NaN

/-- STRGET (Table 10.8). -/
def State.stringGet (s : State) (record : Option Nat) (field : Nat) : Word :=
  match s.seen record with
  | .live => s.liveString.getD field f32NaN
  | .kept v => v.string.getD field f32NaN
  | .gone => f32NaN

end Sys2Proof.Machine
end

