-- ==== Sys2Proof/Machine/Station.lean ====
section
/-!
DEFINITION. Remote stations (R332 to R337) and the INPUT symbols of the published image (R326, R330, R334).
-/

namespace Sys2Proof.Machine

/-! Stations. -/

/-- The station of an index in a program's station table. -/
def stationDef (p : Program) (u : Nat) : Option StationDef :=
  (p.stations.find? (fun (x : Nat × StationDef) => x.1 == u)).map (·.2)

/-- A station's runtime record. -/
def State.station (s : State) (u : Nat) : Station := tget {} s.prg.stations u

/-- The state with a station's record set. -/
def State.setStation (s : State) (u : Nat) (v : Station) : State :=
  { s with prg := { s.prg with stations := tset {} s.prg.stations u v } }

/-- Show a station absent or not (PRG.ABSENT0, ABSENT1). -/
def State.showAbsent (s : State) (u : Nat) (v : Bool) : State :=
  s.setBit (if u < 32 then Reg.PRG_ABSENT0 else Reg.PRG_ABSENT1) (u % 32) v

/-- What a station's inputs are while it is absent or disabled (R334): bytes in no range are zero. -/
def ballastBytes (d : StationDef) (last : Bytes) : Bytes :=
  (List.range d.inLen).map (fun i =>
    match d.ballast.find? (fun b => decide (b.offset ≤ i) && decide (i < b.offset + b.length)) with
    | none => 0
    | some b => if b.mode = 1 then b.value.getD (i - b.offset) 0 else if b.mode = 2 then last.getD i 0 else 0)

/-- A station's input bytes as a snapshot takes them. -/
def State.stationInputs (s : State) (p : Program) (u : Nat) : Bytes :=
  match stationDef p u with
  | none => []
  | some d =>
    have t := s.station u
    if t.present then t.inputs else ballastBytes d t.inputs

/-! INPUT symbols. -/

/-- An INPUT element: its station's or connection's bytes, or its initial value when it binds none. -/
def State.inputRaw (s : State) (p : Program) (y : Symbol) (el : Nat) : Quad :=
  have off := y.bindOffset + typeSize y.ty * el
  match y.bind with
  | 1 => valAt y.ty (s.stationInputs p y.bindUnit) off
  | 2 => valAt y.ty (s.weltData y.bindUnit) off
  | _ => symInit y el

/-- A force on an element that a snapshot has taken up (R338). -/
def State.activeForce (s : State) (y : Symbol) (el : Nat) : Option Quad :=
  (s.prg.forces.find? (fun f => f.active && f.identity == y.identity && f.element == el)).map (·.value)

/-- Bring every INPUT symbol of the image up to date. -/
def State.refreshInputs (s : State) (p : Program) : State :=
  ((symList p).filter (fun (x : Nat × Symbol) => x.2.cls == 0)).foldl (fun (t : State) (x : Nat × Symbol) =>
    t.setSymbol p x.1 x.2 (fun el => (t.activeForce x.2 el).getD (t.inputRaw p x.2 el))) s

/-! Exchanges. -/

/-- The output bytes of a station as currently published (R332). -/
def State.stationOutputs (s : State) (p : Program) (u : Nat) (d : StationDef) : Bytes :=
  have put := fun (bs : Bytes) (off : Nat) (v : Bytes) => bs.take off ++ v ++ bs.drop (off + v.length)
  have all := (symList p).filter (fun (x : Nat × Symbol) => x.2.cls == 1 && x.2.bind == 1 && x.2.bindUnit == u)
  padTo d.outLen (all.foldl (fun (bs : Bytes) (x : Nat × Symbol) =>
    put bs x.2.bindOffset ((List.range x.2.elements).flatMap (fun el => valBytes x.2.ty (s.imageVal x.1 el))))
    (zeros d.outLen))

/-- The exchange timers run: in Run, Stop and Safe (R324, R332). -/
def State.stationsRun (s : State) : Bool := s.mode == .run || s.mode == .stop || s.mode == .safe

/-- Send a station frame on its carrier; an FD frame is filled with zeros to its length code. -/
def State.stationSend (s : State) (d : StationDef) (frame : Bytes) : State :=
  if d.carrier ≤ 3 then
    have fd := !d.classical
    have len := dlcLength fd (lengthDlc frame.length)
    if s.canRuns d.carrier then
      s.canPush d.carrier (txElement d.extended fd false d.address (padTo len frame))
    else s
  else s.emit (.udp d.address (s.cfgN 7 18 0 38812) frame)

/-- STATION_EXCHANGE_SEND (R332, R336). -/
def execStationExchangeSend (u : Nat) (s : State) : Host.Outcome State Fault Refusal := s.whenVamp <|
  match s.program.bind (fun p => (stationDef p u).map (fun d => (p, d))) with
  | none => .next s
  | some (p, d) =>
    have t := s.station u
    if !s.stationsRun || t.disabled then .next s
    else
      have seq := (t.seq + 1) % 256
      have stop := if s.tasksRun then 0 else 4
      have frame := if t.present then bytesLE 1 seq ++ bytesLE 1 (1 + stop) ++ s.stationOutputs p u d
        else bytesLE 1 seq ++ bytesLE 1 (2 + stop)
      .next ((s.setStation u { t with seq := seq, awaiting := true, probing := !t.present }).stationSend d frame)

/-- A good exchange (R333, R336): inputs of a present station, or a step toward re-entry. -/
def State.stationGood (s : State) (p : Program) (u : Nat) (frame : Bytes) (inLen : Nat) : State :=
  have t := s.station u
  have t1 := { t with awaiting := false, misses := 0, status := fieldLE frame 1 1 }
  have data := slice frame 2 inLen
  if t.present then (s.setStation u { t1 with inputs := data }).refreshInputs p
  else if 3 ≤ t.good + 1 then
    have s1 := (s.setStation u { t1 with inputs := data, present := true, probing := false, good := 0 }).showAbsent u false
    (s1.strobe Src.PRG_STATION_BACK u).refreshInputs p
  else s.setStation u { t1 with good := t.good + 1 }

/-- An input frame meets the terms of R333. -/
def State.stationFrameGood (s : State) (u : Nat) (d : StationDef) (frame : Bytes) : Bool :=
  have need := 2 + d.inLen
  have len := if d.carrier ≤ 3 then dlcLength (!d.classical) (lengthDlc need) else need
  (s.station u).awaiting && !(s.station u).disabled && frame.length == len &&
    fieldLE frame 0 1 == (s.station u).seq && fieldLE frame 1 1 % 2 == 1

/-- A station's input frame arrives; one that is not good leaves the exchange to its timeout. -/
def State.stationInput (s : State) (u : Nat) (frame : Bytes) : State :=
  match s.program.bind (fun p => (stationDef p u).map (fun d => (p, d))) with
  | none => s
  | some (p, d) => if s.stationFrameGood u d frame then s.stationGood p u frame d.inLen else s

/-- STATION_INPUT_RECEIVE (R333). -/
def execStationInputReceive (u : Nat) (frame : Bytes) (s : State) : Host.Outcome State Fault Refusal := s.whenVamp <|
  .next (s.stationInput u frame)

/-- The task of an index in a program's task table. -/
def taskDef (p : Program) (k : Nat) : Option TaskDef :=
  (p.tasks.find? (fun (x : Nat × TaskDef) => x.1 == k)).map (·.2)

/-- The error task of a station's owner is released, and the owner's next cycle waits for it (R333, R335). -/
def State.errorRelease (s : State) (p : Program) (owner : Nat) : State :=
  match (taskDef p owner).bind (·.errorTask) with
  | none => s
  | some e =>
    if s.tasksRun then
      have s1 := s.releaseEvent e
      have s2 := s1.setTask owner { s1.task owner with waits := some e }
      if s2.taskState owner = 1 then s2.setFld (Reg.PRG_TASK_STAT owner) 30 28 4 else s2
    else s

/-- A present station goes absent (R333): cause 0 missed exchanges, 1 carrier error state. -/
def State.stationAbsent (s : State) (p : Program) (u : Nat) (d : StationDef) (cause : Nat) : State :=
  have t := s.station u
  if !t.present then s
  else
    have s1 := (s.setStation u { t with present := false, probing := true, awaiting := false, misses := 0, good := 0 }).showAbsent
      u true
    have s2 := (s1.flag Reg.PRG_STAT Reg.PRG_STAT_COUNT0 1).strobe Src.PRG_STATION_ABSENT (cause * 2 ^ 22 + u)
    (s2.refreshInputs p).errorRelease p d.owner

/-- STATION_REPLY_TIMEOUT (R333, R336): the exchange has failed. -/
def execStationReplyTimeout (u : Nat) (s : State) : Host.Outcome State Fault Refusal := s.whenVamp <|
  match s.program.bind (fun p => (stationDef p u).map (fun d => (p, d))) with
  | none => .next s
  | some (p, d) =>
    have t := s.station u
    if !t.awaiting then .next s
    else if !t.present then .next (s.setStation u { t with awaiting := false, good := 0 })
    else if d.missLimit ≤ t.misses + 1 then .next (s.stationAbsent p u d 0)
    else .next (s.setStation u { t with awaiting := false, misses := t.misses + 1 })

/-- The stations of a CAN controller go absent at its bus-off (R439). -/
def State.stationsOff (s : State) (n : Nat) : State :=
  match s.program with
  | none => s
  | some p => (p.stations.filter (fun (x : Nat × StationDef) => x.2.carrier == n)).foldl
      (fun (t : State) (x : Nat × StationDef) => t.stationAbsent p x.1 x.2 1) s

/-- STNENABLE (R336): a disabled station is not exchanged with and is not absent; enabling starts probing. -/
def State.stationEnable (s : State) (p : Program) (u : Nat) (on : Bool) : State :=
  have t := s.station u
  if on && t.disabled then
    (s.setStation u { t with disabled := false, present := false, probing := true, good := 0, misses := 0 }).showAbsent u true
  else if !on && !t.disabled then
    ((s.setStation u { t with disabled := true, present := false, probing := false, awaiting := false }).showAbsent
      u false).refreshInputs p
  else s

/-- The stations of a program start absent, but those matched to a record keep it (R342, R483). -/
def State.startStations (s : State) (p : Program) (old : Nat → StationDef → Option Station) : State :=
  have s0 : State := { s with prg := { s.prg with stations := [] } }
  have s1 := (s0.wr Reg.PRG_ABSENT0 0).wr Reg.PRG_ABSENT1 0
  p.stations.foldl (fun (t : State) (x : Nat × StationDef) =>
    have v := (old x.1 x.2).getD { probing := true }
    (t.setStation x.1 v).showAbsent x.1 (!v.present && !v.disabled)) s1

end Sys2Proof.Machine
end

