-- ==== Sys2Proof/Machine/Prg.lean ====
section
/-!
DEFINITION. Tasks (R319 to R327, R331, R335, R338): placement, releases, snapshots, publication, deadlines,
starting and stopping.
-/

namespace Sys2Proof.Machine

/-! Values of a cycle. -/

/-- The value under a key, if the list has one. -/
def valFind (l : Values) (k : Nat) : Option Quad := (l.find? (fun (x : Nat × Quad) => x.1 == k)).map (·.2)

/-- The list with a value under a key. -/
def valPut (l : Values) (k : Nat) (v : Quad) : Values := (k, v) :: l.filter (fun (x : Nat × Quad) => x.1 != k)

/-- What a cycle reads of an element (R326, R338): its force, its own write, or the snapshot. -/
def TaskCtx.read (c : TaskCtx) (sym el : Nat) : Quad :=
  match valFind c.forced (valKey sym el) with
  | some v => v
  | none => (valFind c.writes (valKey sym el)).getD (tget 0 c.snap (valKey sym el))

/-- A cycle writes an element. -/
def TaskCtx.write (c : TaskCtx) (sym el : Nat) (v : Quad) : TaskCtx :=
  { c with writes := valPut c.writes (valKey sym el) v }

/-! Tasks on their cores. -/

/-- The task that runs on a core. -/
def State.onCore (s : State) (core : Nat) : Option Nat :=
  match core with
  | 0 => s.prg.core0
  | 1 => s.prg.core1
  | _ => none

/-- Set the task that runs on a core. -/
def State.setCore (s : State) (core : Nat) (k : Option Nat) : State :=
  match core with
  | 0 => { s with prg := { s.prg with core0 := k } }
  | 1 => { s with prg := { s.prg with core1 := k } }
  | _ => s

/-- PRG.TASKk_STAT.CORE. -/
def State.taskCore (s : State) (k : Nat) : Nat := s.fld (Reg.PRG_TASK_STAT k) 31 31

/-- Set PRG.TASKk_STAT.STATE. -/
def State.setTaskState (s : State) (k v : Nat) : State := s.setFld (Reg.PRG_TASK_STAT k) 30 28 v

/-- Estimated utilisation of a task, in 10^-9 of a core: its cost over its period or its deadline (assumption 51). -/
def taskShare (d : TaskDef) : Nat :=
  if d.event then d.cost * 1000000 / max 1 d.deadlineUs else d.cost * 4000 / max 1 d.period

/-- Placement of a task list (R321): pinned tasks first, then in descending order of their cost, each to the
core of the lower total, core 0 on a tie. -/
def placeTasks (tasks : List (Nat × TaskDef)) : List (Nat × Nat) :=
  have pinned := tasks.filter (fun (x : Nat × TaskDef) => x.2.pin != 0)
  have rest := (tasks.filter (fun (x : Nat × TaskDef) => x.2.pin == 0)).mergeSort
    (fun (x y : Nat × TaskDef) => decide (y.2.cost < x.2.cost) || (x.2.cost == y.2.cost && decide (x.1 ≤ y.1)))
  have step := fun (a : List (Nat × Nat) × Nat × Nat) (x : Nat × TaskDef) =>
    have core := if x.2.pin = 1 then 0 else if x.2.pin = 2 then 1 else if a.2.1 ≤ a.2.2 then 0 else 1
    (a.1 ++ [(x.1, core)], if core = 0 then a.2.1 + taskShare x.2 else a.2.1,
      if core = 1 then a.2.2 + taskShare x.2 else a.2.2)
  ((pinned ++ rest).foldl step ([], 0, 0)).1

/-- Place every task of a program (R321). -/
def State.placeProgram (s : State) (p : Program) : State :=
  (placeTasks p.tasks).foldl (fun (t : State) (x : Nat × Nat) => t.setFld (Reg.PRG_TASK_STAT x.1) 31 31 x.2) s

/-- Among tasks, the one to run (R322): by priority, then by release, then by index. -/
def State.runsBefore (s : State) (a b : Nat) : Bool :=
  have pr := fun k => s.fld (Reg.PRG_TASK_CFG k) 27 24
  have at_ := fun k => (s.task k).timer.getD 0
  decide (pr a < pr b) || (pr a == pr b && (decide (at_ a < at_ b) || (at_ a == at_ b && decide (a < b))))

/-- The best of the tasks of a core that are ready, pre-empted or running. -/
def State.bestTask (s : State) (core : Nat) : Option Nat :=
  ((List.range 48).filter (fun k => s.bit (Reg.PRG_TASK_CFG k) 31 && s.taskCore k == core &&
    (s.taskState k == 1 || s.taskState k == 2 || s.taskState k == 3))).foldl
    (fun (b : Option Nat) k => match b with
      | none => some k
      | some j => if s.runsBefore k j then some k else some j) none

/-! The snapshot (R326). -/

/-- Elements of a program's symbols that meet a condition, as symbol index, symbol and element. -/
def elements (p : Program) (ok : Symbol → Bool) : List (Nat × Symbol × Nat) :=
  ((symList p).filter (fun (x : Nat × Symbol) => ok x.2)).flatMap (fun (x : Nat × Symbol) =>
    (List.range x.2.elements).map (fun el => (x.1, x.2, el)))

/-- A task reads or owns a symbol. -/
def touches (p : Program) (k sym : Nat) : Bool :=
  ((symOf p sym).map (fun y => y.owner == k)).getD false ||
    ((taskDef p k).map (fun d => d.reads.contains sym)).getD false

/-- A task owns a symbol. -/
def owns (p : Program) (k sym : Nat) : Bool := ((symOf p sym).map (fun y => y.owner == k)).getD false

/-- The context with which a cycle of task k begins. -/
def State.newContext (s : State) (p : Program) (k : Nat) : TaskCtx :=
  have inputs := elements p (fun y => y.cls == 0)
  have snap := inputs.foldl (fun (v : Values) x => tset 0 v (valKey x.1 x.2.2) (s.inputRaw p x.2.1 x.2.2)) s.prg.image
  have starts := if (s.task k).fresh then
      (elements p (fun y => y.cls == 1 && y.owner == k)).map (fun x => (valKey x.1 x.2.2, symInit x.2.1 x.2.2))
    else []
  have mine := s.prg.hostWrites.filter (fun (x : Nat × Quad) =>
    ((symOf p (x.1 / 65536)).map (fun y => y.owner == k)).getD false)
  have forced := s.prg.forces.filterMap (fun f => (symIndex p f.identity).map (fun i => (valKey i f.element, f.value)))
  { pc := (((taskDef p k).bind (fun d => p.functions[d.body]?)).map (fun f => f.entry)).getD 0,
    snapNs := s.monoNs, snap := snap, writes := mine ++ starts, forced := forced,
    record := s.swp.record.map (fun (r : Bytes × List Bytes) => recId r.1) }

/-- Task k takes its snapshot: forces it reads or owns are in force, its host writes are applied, and the
operations that waited for it complete (R329, R338, R361). -/
def State.takeSnapshot (s : State) (p : Program) (k : Nat) : State :=
  have c := s.newContext p k
  have s1 : State := { s with prg := { s.prg with
    forces := s.prg.forces.map (fun f =>
      if ((symIndex p f.identity).map (touches p k)).getD false then { f with active := true } else f),
    hostWrites := s.prg.hostWrites.filter (fun (x : Nat × Quad) =>
      !((symOf p (x.1 / 65536)).map (fun y => y.owner == k)).getD false) } }
  have s2 := ((s1.setTask k { s1.task k with ctx := some c }).refreshInputs p)
  have done := s2.cmd.snapshotOps.filter (fun (x : Nat × Nat) =>
    x.1 == 0 || (x.1 % 2 == 0 && touches p k (x.1 / 2)) || (x.1 % 2 == 1 && owns p k (x.1 / 2)))
  have s3 : State := { s2 with cmd := { s2.cmd with snapshotOps := s2.cmd.snapshotOps.filter (fun x => !done.contains x) } }
  s3.completeAll (done.map (·.2)) St.OK []

/-- TASK_START (R322, R326): the best task of the core runs; a ready one begins its cycle. -/
def execTaskStart (core : Nat) (s : State) : Host.Outcome State Fault Refusal := s.whenVamp <|
  match s.program, s.bestTask core with
  | some p, some k =>
    if !s.tasksRun || decide (2 ≤ core) || s.onCore core == some k || s.prg.halted.contains core then .next s
    else
      have s1 := match s.onCore core with
        | some j => s.setTaskState j 3
        | none => s
      have s2 := if s1.taskState k = 1 then s1.takeSnapshot p k else s1
      .next ((s2.setTaskState k 2).setCore core (some k))
  | _, _ => .next s

/-! Releases. -/

/-- TASK_RELEASE_CYCLIC (R320, R323, R335). -/
def execTaskReleaseCyclic (k : Nat) (s : State) : Host.Outcome State Fault Refusal := s.whenVamp <|
  if !s.tasksRun || decide (16 ≤ k) || !s.bit (Reg.PRG_TASK_CFG k) 31 then .next s
  else
    match s.taskState k with
    | 0 =>
      have t := s.task k
      .next ((s.setTaskState k (if t.waits.isSome then 4 else 1)).setTask k { t with timer := some s.monoNs })
    | 5 => .next s
    | _ =>
      if s.fld (Reg.PRG_TASK_CFG k) 23 20 = 1 then .next s
      else .next ((s.incFld (Reg.PRG_TASK_STAT k) 23 16).flag Reg.PRG_STAT Reg.PRG_STAT_COUNT0 5)

/-! Publication (R315, R327). -/

/-- Bytes put into a Welt producer's data from an offset; byte 0 of the list is data byte 16. -/
def weltPatch (old : Bytes) (off : Nat) (v : Bytes) : Bytes :=
  have a := off - 16
  padTo a old ++ v ++ old.drop (a + v.length)

/-- Publish an element of a symbol: an INSTANCE's state, or image, bytes and, bound to Welt, producer bytes. -/
def State.publishValue (s : State) (p : Program) (sym el : Nat) (v : Quad) : State :=
  match symOf p sym with
  | none => s
  | some y =>
    if y.cls = 6 then { s with prg := { s.prg with image := tset 0 s.prg.image (valKey sym el) v } }
    else
      have s1 := s.setImage p sym el v
      if y.cls = 1 ∧ y.bind = 2 then
        have old := tget [] s1.prg.welt y.bindUnit
        { s1 with prg := { s1.prg with
          welt := tset [] s1.prg.welt y.bindUnit
            (weltPatch old (y.bindOffset + typeSize y.ty * el) (valBytes y.ty v)) } }
      else s1

/-- The bytes of a symbol as published. -/
def State.symbolBytes (s : State) (sym : Nat) (y : Symbol) : Bytes :=
  (List.range y.elements).flatMap (fun el => valBytes y.ty (s.imageVal sym el))

/-- One deferred effect (R315). -/
def State.effect (s : State) (p : Program) (e : Effect) : State :=
  match e with
  | .xin n v => s.wr (Reg.CTL_XIN n) v
  | .outReq v =>
    have s1 := s.outReqClose (BitVec.ofNat 32 v)
    if v / 8 % 2 = 1 then s1.fire else s1
  | .ackSafe => s.safAckWrite 0x5AC3
  | .raiseUser n detail => s.strobe (Src.PRG_USER0 + n) (detail % 2 ^ 24)
  | .trigger k => if s.tasksRun then s.releaseEvent k else s
  | .wpub c sym =>
    match symOf p sym with
    | none => s
    | some y => { s with prg := { s.prg with welt := tset [] s.prg.welt c (s.symbolBytes sym y) } }

/-- Effects in program order, of which only the last XINSET to each word and the last OUTREQ count. -/
def lastEffects : List Effect → List Effect
  | [] => []
  | e :: rest =>
    have again := match e with
      | .xin n _ => rest.any (fun f => match f with
        | .xin m _ => m == n
        | _ => false)
      | .outReq _ => rest.any (fun f => match f with
        | .outReq _ => true
        | _ => false)
      | _ => false
    if again then lastEffects rest else e :: lastEffects rest

/-- The values that a publication of task k carries: its writes, then forces on its symbols. -/
def published (p : Program) (k : Nat) (c : TaskCtx) : Values :=
  c.writes ++ c.forced.filter (fun (x : Nat × Quad) =>
    ((symOf p (x.1 / 65536)).map (fun y => y.owner == k)).getD false)

/-- The cycle of the task on a core is over: the task is idle, or released again; a task that was to move
changes core; a pre-empted task goes on (R320 to R322). -/
def State.finishCycle (s : State) (core k : Nat) : State :=
  have t := s.task k
  have again := t.pending
  have s1 := s.setTask k { t with ctx := none, pending := false, moving := false,
                                   timer := if again then some s.monoNs else none }
  have s2 := s1.setTaskState k (if again then (if t.waits.isSome then 4 else 1) else 0)
  have s3 := (if t.moving then s2.setFld (Reg.PRG_TASK_STAT k) 31 31 (1 - core) else s2).setCore core none
  match s3.bestTask core with
  | none => s3
  | some j => if s3.taskState j = 3 then (s3.setTaskState j 2).setCore core (some j) else s3

/-- Tasks that wait for error task k may start (R335). -/
def State.errorPublished (s : State) (k : Nat) : State :=
  (List.range 48).foldl (fun (t : State) j =>
    if (t.task j).waits = some k then
      have t1 := t.setTask j { t.task j with waits := none }
      if t1.taskState j = 4 then t1.setTaskState j 1 else t1
    else t) s

/-- Task k publishes (R327): values and effects as one unit, and its counts and times. -/
def State.publish (s : State) (p : Program) (k : Nat) (c : TaskCtx) : State :=
  have us := match (s.task k).timer with
    | some t0 => min 0xFFFF ((s.monoNs - t0) / 1000)
    | none => 0
  have s0 := s.setTask k { s.task k with timer := none, fresh := false, runCycles := (s.task k).runCycles + 1 }
  have s1 := (published p k c).foldl (fun (t : State) (x : Nat × Quad) =>
    t.publishValue p (x.1 / 65536) (x.1 % 65536) x.2) s0
  have s2 := (s1.incWrap Reg.PRG_PUB_SEQ).setFld (Reg.PRG_TASK_STAT k) 15 0 (s1.fld (Reg.PRG_TASK_STAT k) 15 0 + 1)
  have s3 := (s2.setFld (Reg.PRG_TASK_TIME k) 15 0 us).setFld (Reg.PRG_TASK_TIME k) 31 16
    (max us (s2.fld (Reg.PRG_TASK_TIME k) 31 16))
  ((lastEffects c.effects).foldl (fun (t : State) e => t.effect p e) s3).errorPublished k

/-- A descriptor that overlaps the published image is in progress (R382). -/
def State.imageInUse (s : State) (p : Program) : Bool :=
  have b := (s.rd Reg.PRG_IMAGE_BASE).toNat
  (List.range 16).any (fun n => match (s.chan n).desc with
    | none => false
    | some d => decide (0 < (s.chan n).moved) &&
        overlaps (descSrc d) (descSpan (getBit (descWord d 0) 27) d) b (b + progImageSize p))

/-! Starting and stopping. -/

/-- Every OUTPUT symbol at its safe value, as one publication. -/
def State.outputsSafe (s : State) (p : Program) : State :=
  (elements p (fun y => y.cls == 1)).foldl (fun (t : State) x => t.publishValue p x.1 x.2.2 (symSafe x.2.1 x.2.2)) s

/-- Steps 1 and 2 of R323: every task stops, and OUTPUT symbols and owned XIN words take their safe values. -/
def State.stopTasks (s : State) (p : Program) : State :=
  have s1 := p.tasks.foldl (fun (t : State) (x : Nat × TaskDef) =>
    (t.setTask x.1 { t.task x.1 with ctx := none, timer := none, pending := false, waits := none }).setTaskState x.1 5) s
  have s2 : State := { s1 with prg := { s1.prg with core0 := none, core1 := none } }
  have s3 := p.xinSafe.foldl (fun (t : State) (x : Nat × Word) => t.wr (Reg.CTL_XIN x.1) x.2) (s2.outputsSafe p)
  (s3.incWrap Reg.PRG_PUB_SEQ).setFld Reg.PRG_STATE 2 0 1

/-- The epoch of a Run that begins now (R320): the first 250 µs boundary of MONO at least 1 ms away. -/
def State.nextEpoch (s : State) : Nat := (s.monoNs + 1000000 + 249999) / 250000 * 250000

/-- Tasks begin (R320, R331): symbols that take their initial values take them, OUTPUT symbols stand at their
safe values until their owner publishes, and every task is idle on its core. -/
def State.startTasks (s : State) (p : Program) : State :=
  have s1 := (elements p (fun y => y.cls == 2 || y.cls == 6)).foldl (fun (t : State) x =>
    t.publishValue p x.1 x.2.2 (symInit x.2.1 x.2.2)) s
  have s2 := (s1.outputsSafe p).placeProgram p
  have s3 := p.tasks.foldl (fun (t : State) (x : Nat × TaskDef) =>
    (t.setTask x.1 { fresh := true }).setTaskState x.1 0) s2
  have s4 : State := { s3 with prg := { s3.prg with epoch := s3.nextEpoch, core0 := none, core1 := none } }
  (s4.refreshInputs p).setFld Reg.PRG_STATE 2 0 2

/-- The controller holds the active role, which in compatibility mode only a grant confirmed at Boot gives and a
withdrawal ends (R2, R3, R472). -/
def State.activeRole (s : State) : Bool := !s.compat || s.fld Reg.RED_ROLE 31 30 == 1

/-- A start is accepted (R3, R5, R324): in Stop, no deadline fault latched and, in compatibility mode, the active
role held. -/
def State.mayRun (s : State) : Bool := s.mode == .stop && !s.bit Reg.PRG_STATE 3 && s.activeRole

/-- A start of the tasks; without a program the controller enters Run without any. -/
def State.runTasks (s : State) : State :=
  if s.mayRun then
    (match s.program with
     | none => s
     | some p => s.startTasks p).setMode .run s.drogue
  else s

/-- Steps 1 and 2 of R323 for the program that is loaded, if one is. -/
def State.stopProgram (s : State) : State :=
  match s.program with
  | none => s
  | some p => s.stopTasks p

/-- The tasks stop on a command (R324): in Run the controller enters Stop; in Safe the state stays. -/
def State.haltTasks (s : State) : State :=
  if s.mode = .run then (s.stopProgram.setMode .stop s.drogue).burstAbort 1
  else if s.mode = .safe ∧ s.tasksRun then
    have s1 := s.stopProgram
    { s1 with saf := { s1.saf with tasksOnSafe := false } }
  else s

/-- The unpinned task of the busier core whose move best narrows a gap, if one narrows it (R321). -/
def State.bestMove (s : State) (p : Program) (used : List Nat) (busy gap : Nat) : Option Nat :=
  have left := fun (k : Nat) => ((gap : Int) - 2 * (used.getD k 0 : Int)).natAbs
  ((p.tasks.filter (fun (x : Nat × TaskDef) => x.2.pin == 0 && s.taskCore x.1 == busy &&
    decide (left x.1 < gap))).map (·.1)).foldl
    (fun (b : Option Nat) k => match b with
      | none => some k
      | some j => if left k < left j then some k else some j) none

/-- TASK_BALANCE (R321): the time that each task used in the last second, ns; PRG.LOAD, and a move at the task's
next point between cycles. -/
def execTaskBalance (used : List Nat) (s : State) : Host.Outcome State Fault Refusal := s.whenVamp <|
  match s.program with
  | none => .next s
  | some p =>
    have load := fun (core : Nat) => ((p.tasks.filter (fun (x : Nat × TaskDef) => s.taskCore x.1 == core)).map
      (fun (x : Nat × TaskDef) => used.getD x.1 0)).sum
    have a := load 0
    have b := load 1
    have s1 := (s.setFld Reg.PRG_LOAD 15 0 (min 0xFFFF (a / 1000000))).setFld Reg.PRG_LOAD 31 16 (min 0xFFFF (b / 1000000))
    have busy := if b ≤ a then 0 else 1
    have gap := if b ≤ a then a - b else b - a
    if !s1.tasksRun || decide (gap ≤ 200000000) then .next s1
    else match s1.bestMove p used busy gap with
      | none => .next s1
      | some k =>
        if (s1.task k).ctx.isSome then .next (s1.setTask k { s1.task k with moving := true })
        else .next (s1.setFld (Reg.PRG_TASK_STAT k) 31 31 (1 - busy))

/-- A runtime fault (R325): PRG.STAT.RUNTIME, PRG.FAULT and PRG.FAULT_PC. -/
def State.runtimeFault (s : State) (k code operand pc : Nat) : State :=
  ((s.flag Reg.PRG_STAT Reg.PRG_STAT_COUNT0 4).wr Reg.PRG_FAULT
    (BitVec.ofNat 32 (code * 2 ^ 24 + k % 64 * 2 ^ 16 + operand % 2 ^ 16))).wr Reg.PRG_FAULT_PC (BitVec.ofNat 32 pc)

end Sys2Proof.Machine
end

