-- ==== Sys2Proof/Machine/PrgChange.lean ====
section
/-!
DEFINITION. Loading a program, its persistent data, and the on-line change (R339 to R344).
-/

namespace Sys2Proof.Machine

/-! What the PRG registers show of the banks. -/

/-- The device record is to be written (R499). -/
def State.storeDevice (s : State) : State :=
  { s.insoleStart .config with cfg := { s.cfg with deviceWrite := true } }

/-- The registers of a program that becomes the active one: identity, image and tasks (Table 10.16). -/
def State.showProgram (s : State) : State :=
  have progId := fun (q : Option Program) => (q.map (·.progId)).getD 0
  have other := s.inactive
  have ok := if s.bit Reg.PRG_STATE 10 then s.prg.okA else s.prg.okB
  have s1 := ((s.wr Reg.PRG_PROG_ID (progId s.program)).wr Reg.PRG_INACTIVE_ID (progId other)).setBit Reg.PRG_STATE 11
    (other.isSome && ok)
  have cfg := fun (x : Option TaskDef) => match x with
    | none => 0
    | some d => 2 ^ 31 + b2n d.event * 2 ^ 30 + d.pin % 4 * 2 ^ 28 + d.priority % 16 * 2 ^ 24 +
        (if d.event then d.source % 128 else d.deadlineMult % 16 * 2 ^ 20 + d.period % 2 ^ 16)
  have dl := fun (x : Option TaskDef) => match x with
    | none => 0
    | some d => if d.event then d.deadlineUs else 250 * d.period * d.deadlineMult
  (List.range 48).foldl (fun (t : State) k =>
    have d := s.program.bind (fun p => taskDef p k)
    (t.wr (Reg.PRG_TASK_CFG k) (BitVec.ofNat 32 (cfg d))).wr (Reg.PRG_TASK_DEADLINE k) (BitVec.ofNat 32 (dl d))) s1

/-! Carry-over by symbol identity (Table 10.13). -/

/-- What becomes of a symbol that both programs have: not carried, refused with reason 2, or carried. -/
inductive Carry where
  | fresh
  | refused
  | carried
deriving DecidableEq, Repr

/-- Whether a value of one type may become one of another: the same, widened, or an integer made REAL32. -/
def typeCarries (old new : Nat) : Bool :=
  old == new || (old == 1 && new == 2) || (old == 3 && (new == 4 || new == 2)) || (typeInt old && new == 5)

/-- The row of Table 10.13 for two symbols of one identity. -/
def carryOf (o n : Symbol) : Carry :=
  if o.cls = 0 ∨ o.cls = 5 ∨ n.cls = 0 ∨ n.cls = 5 then .fresh
  else if o.cls = 6 ∨ n.cls = 6 then (if o.cls = 6 ∧ n.cls = 6 ∧ o.bind = n.bind then .carried else .refused)
  else if typeCarries o.ty n.ty then .carried else .refused

/-- Elements that a carried symbol costs the switch (R341). -/
def carryCost (o n : Symbol) : Nat :=
  if carryOf o n = .carried ∧ o.cls ≠ 6 ∧ (o.ty ≠ n.ty ∨ o.elements ≠ n.elements) then min o.elements n.elements else 0

/-- A value carried from one type to another (R312). -/
def carryVal (o n : Symbol) (v : Quad) : Quad := if o.ty = n.ty then v else valConv o.ty n.ty v

/-- The symbol of an identity with its index. -/
def symFind (p : Program) (ident : Word) : Option (Nat × Symbol) :=
  (symList p).find? (fun (x : Nat × Symbol) => x.2.identity == ident)

/-- X of R341: elements converted, widened or copied because their count changed. -/
def changeCost (old new : Program) : Nat :=
  (new.symbols.map (fun n => match symFind old n.identity with
    | none => 0
    | some o => carryCost o.2 n)).sum

/-- A force stands on a symbol. -/
def State.isForced (s : State) (ident : Word) : Bool := s.prg.forces.any (fun f => f.identity == ident)

/-- The first conflict of a change in the order of the new program's table: reason and identity. -/
def State.changeConflict (s : State) (old new : Program) (dropForces : Bool) : Option (Nat × Word) :=
  new.symbols.findSome? (fun n => match symFind old n.identity with
    | none => none
    | some o =>
      if carryOf o.2 n = .refused then some (2, n.identity)
      else if !dropForces && o.2.ty != n.ty && s.isForced n.identity then some (3, n.identity) else none)

/-! The change. -/

/-- A change ends without a switch (R339, Table 10.14). -/
def State.refuseChange (s : State) (reason : Nat) (sym : Option Word) : State :=
  have d := (s.prg.change.map (·.deferrals)).getD 0
  have s0 := match sym with
    | some w => s.wr Reg.PRG_CHANGE_SYM w
    | none => s
  have s1 : State := { s0 with prg := { s0.prg with change := none }, cmd := { s0.cmd with changeOp := none } }
  have s2 := ((s1.setFld Reg.PRG_STATE 9 8 0).setBit Reg.PRG_CTRL 2 false).wr Reg.PRG_CHANGE_STAT
    (BitVec.ofNat 32 (d % 256 * 2 ^ 24 + reason * 2 ^ 20 + s.fld Reg.PRG_CHANGE_STAT 15 0))
  have s3 := (s2.flag Reg.PRG_STAT Reg.PRG_STAT_COUNT0 2).strobe Src.PRG_CHANGE_REFUSED (reason * 2 ^ 20)
  match s.cmd.changeOp with
  | none => s3
  | some op => s3.complete op St.REFUSED (bytesLE 1 reason ++ bytesLE 4 (s3.rd Reg.PRG_CHANGE_SYM).toNat)

/-- Forces that a change removes for a cause are dropped, with one strobe (R340): 0 symbol removed, 1 type change. -/
def State.dropForces (s : State) (cause : Nat) (gone : Force → Bool) : State :=
  have n := (s.prg.forces.filter gone).length
  if n = 0 then s
  else
    have s1 : State := { s with prg := { s.prg with forces := s.prg.forces.filter (fun f => !gone f) } }
    ((s1.setFld Reg.PRG_STATE 24 16 s1.prg.forces.length).flag Reg.PRG_STAT Reg.PRG_STAT_COUNT0 3).strobe
      Src.PRG_FORCE_DROPPED (min 255 n * 2 ^ 16 + cause)

/-- The value an element of the new program begins with (Table 10.13). -/
def carriedVal (old : Program) (image : Values) (n : Symbol) (el : Nat) : Quad :=
  match symFind old n.identity with
  | none => symInit n el
  | some (i, o) =>
    if carryOf o n = .carried ∧ el < o.elements then carryVal o n (tget 0 image (valKey i el)) else symInit n el

/-- State of an INSTANCE of the same kind, beyond its elements. -/
def carriedInstances (old new : Program) (image : Values) : Values :=
  ((symList new).filter (fun (x : Nat × Symbol) => x.2.cls == 6)).flatMap (fun (x : Nat × Symbol) =>
    match symFind old x.2.identity with
    | none => []
    | some (i, o) => if carryOf o x.2 = .carried then
        (List.range 4).map (fun el => (valKey x.1 el, tget 0 image (valKey i el))) else [])

/-- The image of the new program: carried values and initial ones. -/
def State.carryImage (s : State) (old new : Program) : State :=
  have image := s.prg.image
  have s1 : State := { s with prg := { s.prg with image := [] } }
  have s2 := (elements new (fun y => y.cls != 0 && y.cls != 6)).foldl (fun (t : State) x =>
    t.setImage new x.1 x.2.2 (carriedVal old image x.2.1 x.2.2)) s1
  have inst := carriedInstances old new image
  { s2 with prg := { s2.prg with image := inst.foldl (fun (v : Values) x => tset 0 v x.1 x.2) s2.prg.image } }

/-- A station record that the new program keeps: the same identity on the same carrier (R342). -/
def keptStation (old : Program) (stations : List (Nat × Station)) (_ : Nat) (d : StationDef) : Option Station :=
  (old.stations.find? (fun (x : Nat × StationDef) => x.2.identity == d.identity && x.2.carrier == d.carrier)).map
    (fun (x : Nat × StationDef) => tget {} stations x.1)

/-- The symbol of the new program that takes host writes meant for one of the old: of one identity, type and class of
R329. -/
def writeHeir (old new : Program) (sym : Nat) : Option Nat :=
  match symOf old sym with
  | none => none
  | some o => match symFind new o.identity with
    | none => none
    | some (i, n) => if n.ty = o.ty ∧ o.elements ≤ n.elements ∧ 2 ≤ n.cls ∧ n.cls ≤ 4 then some i else none

/-- Host writes and operations that wait for a snapshot go on to the new program's symbols; a write whose symbol is
gone ends with ABORTED, and an operation about a force on one completes at the next snapshot. -/
def State.carryWaiting (s : State) (old new : Program) : State :=
  have writes := s.prg.hostWrites.filterMap (fun (x : Nat × Quad) =>
    (writeHeir old new (x.1 / 65536)).map (fun i => (valKey i (x.1 % 65536), x.2)))
  have lost := fun (x : Nat × Nat) => x.1 % 2 == 1 && (writeHeir old new (x.1 / 2)).isNone
  have moved := (s.cmd.snapshotOps.filter (fun x => !lost x)).map (fun (x : Nat × Nat) =>
    if x.1 % 2 = 1 then (2 * (writeHeir old new (x.1 / 2)).getD 0 + 1, x.2)
    else (2 * (((symOf old (x.1 / 2)).bind (fun o => symFind new o.identity)).map (fun n => n.1)).getD 0, x.2))
  have s1 : State := { s with prg := { s.prg with hostWrites := writes }, cmd := { s.cmd with snapshotOps := moved } }
  s1.completeAll ((s.cmd.snapshotOps.filter lost).map (fun x => x.2)) St.ABORTED []

/-- Sources of the event tasks that a release has reached and whose cycle has not begun. -/
def State.heldReleases (s : State) : List Nat :=
  ((List.range 48).filter (fun k => s.bit (Reg.PRG_TASK_CFG k) 30 && (s.taskState k == 1 || s.taskState k == 4))).map
    (fun k => s.fld (Reg.PRG_TASK_CFG k) 6 0)

/-- Releases that meet the switch go to the new tasks of the same sources (R342). -/
def State.carryReleases (s : State) (sources : List Nat) : State :=
  sources.foldl (fun (t : State) src =>
    (List.range 48).foldl (fun (u : State) k => if u.boundTo src k then u.releaseEvent k else u) t) s

/-- The switch (R339 to R342): the other bank becomes active, and the boundary is the new program's epoch. -/
def State.switchProgram (s : State) (old new : Program) (c : Change) : State :=
  have runs := s.tasksRun
  have base := (s.rd Reg.PRG_IMAGE_BASE).toNat
  have toB := !s.bit Reg.PRG_STATE 10
  have s0 := (s.dropForces 0 (fun f => (symFind new f.identity).isNone)).dropForces 1 (fun f =>
    match symFind old f.identity, symFind new f.identity with
    | some o, some n => o.2.ty != n.2.ty
    | _, _ => false)
  have s1 := ((s0.carryWaiting old new).setBit Reg.PRG_STATE 10 toB).wr Reg.PRG_IMAGE_BASE
    (BitVec.ofNat 32 (if base = s.fixedEnd then s.fixedEnd + progImageSize new else s.fixedEnd))
  have kept := s.prg.stations
  have s2 := ((s1.carryImage old new).startStations new (keptStation old kept)).showProgram.placeProgram new
  have s3 : State := { s2 with
    prg := { s2.prg with change := none, epoch := s2.monoNs, core0 := none, core1 := none, tasks := [] },
    cmd := { s2.cmd with changeOp := none }, cfg := { s2.cfg with dev := { s2.cfg.dev with progB := toB } } }
  have s4 := (List.range 48).foldl (fun (t : State) k => t.setTaskState k (if runs || !t.bit (Reg.PRG_TASK_CFG k) 31 then 0 else 5)) s3
  have s5 := (if runs then s4.carryReleases s.heldReleases else s4.outputsSafe new).refreshInputs new
  have ticks := s5.freeWord.toNat % (2001 + 2 * c.x)
  have s6 := (s5.drawn.rewriteAllocMap.storeDevice.setFld Reg.PRG_STATE 9 8 0).setBit Reg.PRG_CTRL 2 false
  have s7 := s6.wr Reg.PRG_CHANGE_STAT (BitVec.ofNat 32 (c.deferrals % 256 * 2 ^ 24 + ticks))
  have s8 := (s7.strobe Src.PRG_CHANGE_DONE (min 4095 c.x * 2 ^ 12 + ticks / 100)).persistTrigger
  match s.cmd.changeOp with
  | none => s8
  | some op => s8.complete op St.OK (bytesLE 4 (10 * ticks))

/-- A common boundary (R339, R342), or a stop: the switch, a deferral, or the refusal after ten. -/
def State.changeBoundary (s : State) : State :=
  match s.prg.change, s.program, s.inactive with
  | some c, some old, some new =>
    if s.tasksRun && (List.range 48).any (fun k => (s.task k).ctx.isSome) then
      have s1 : State := { s with prg := { s.prg with change := some { c with deferrals := c.deferrals + 1 } } }
      if 10 ≤ c.deferrals + 1 then s1.refuseChange 5 none else s1
    else s.switchProgram old new c
  | _, _, _ => s

/-- A request for an on-line change (R339, R341, R342); one that finds a change pending does nothing. -/
def State.requestChange (s : State) (dropForces : Bool) : State :=
  if s.prg.change.isSome then s
  else if s.mode ≠ .run ∧ s.mode ≠ .stop then s.refuseChange 6 none
  else
    match s.program, s.inactive with
    | some old, some new =>
      if !s.bit Reg.PRG_STATE 11 then s.refuseChange 1 none
      else match s.changeConflict old new dropForces with
        | some (reason, ident) => s.refuseChange reason (some ident)
        | none =>
          have x := changeCost old new
          if 1500 < x then s.refuseChange 4 none
          else
            have s1 : State := { s with prg := { s.prg with change := some { x := x, dropForces := dropForces } } }
            have s2 := (s1.setFld Reg.PRG_STATE 9 8 2).setBit Reg.PRG_CTRL 2 true
            if s2.tasksRun then s2 else s2.changeBoundary
    | _, _ => s.refuseChange 1 none

/-- PRG_CHANGE_REQ (R339): with the option of PRG.CHANGE_OPT. -/
def execPrgChangeReq (s : State) : Host.Outcome State Fault Refusal := s.whenVamp <|
  .next (s.requestChange (s.bit Reg.PRG_CHANGE_OPT 0))

/-- CHANGE_ABORT (R342). -/
def State.abortChange (s : State) : State := if s.prg.change.isSome then s.refuseChange 7 none else s

/-- PRG_CHANGE_ABORT (R342). -/
def execPrgChangeAbort (s : State) : Host.Outcome State Fault Refusal := s.whenVamp <|
  .next s.abortChange

/-- ONLINE_CHANGE_SWITCH (R339, R341, R342). -/
def execOnlineChangeSwitch (s : State) : Host.Outcome State Fault Refusal := s.whenVamp <|
  .next s.changeBoundary

/-- A stop command: the tasks stop, and a change that waits is switched at once (R324, R342). -/
def State.stopRequest (s : State) : State := s.haltTasks.changeBoundary

/-- PRG_STOP_REQ (R324). -/
def execPrgStopReq (s : State) : Host.Outcome State Fault Refusal := s.whenVamp <|
  .next s.stopRequest

/-- TASK_DEADLINE_EXPIRY (R323): the tasks stop, PRG_DEADLINE strobes, the fault is latched, and the string is
handed to the safety function with the Drogue cause TASK_DEADLINE. -/
def execTaskDeadlineExpiry (k : Nat) (s : State) : Host.Outcome State Fault Refusal := s.whenVamp <|
  match s.program with
  | none => .next s
  | some p =>
    if (s.task k).timer.isNone || !s.tasksRun then .next s
    else
      have cycles := min 0xFFFF (s.task k).runCycles
      have s1 := (s.stopTasks p).flag Reg.PRG_STAT Reg.PRG_STAT_COUNT0 0
      have s2 := (s1.strobe Src.PRG_DEADLINE (k % 64 * 2 ^ 16 + cycles)).setBit Reg.PRG_STATE 3 true
      have s3 := if s2.mode = .run then (s2.setMode .stop s2.drogue).burstAbort 1
        else { s2 with saf := { s2.saf with tasksOnSafe := false } }
      .next ((s3.find 1 false 0 0 0).unfind 1 false 0 0).changeBoundary

/-! Loading at Boot. -/

/-- The values that a persistence record gives a PERSIST symbol, with refusals at initial values (R344). -/
def persistVal (r : Option PersistRec) (n : Symbol) (el : Nat) : Quad :=
  match r.bind (fun q => q.entries.find? (fun (e : Word × Nat × List Quad) => e.1 == n.identity)) with
  | none => symInit n el
  | some e =>
    if typeCarries e.2.1 n.ty && decide (el < e.2.2.length) then
      (if e.2.1 = n.ty then e.2.2.getD el 0 else valConv e.2.1 n.ty (e.2.2.getD el 0))
    else symInit n el

/-- The newest record of the active bank, or of the other one (R344). -/
def State.persistNewest (s : State) : Option PersistRec :=
  have b := s.persistBase
  match newerPersist (s.persistSlot b) (s.persistSlot (b + 1)) with
  | some r => some r
  | none => newerPersist (s.persistSlot (2 - b)) (s.persistSlot (3 - b))

/-- The active program is loaded at Boot: image, persistent data and stations (R331, R344, Table 17.4). -/
def State.loadProgram (s : State) : State :=
  have s0 : State := { s with prg := { s.prg with
    image := [], tasks := [], core0 := none, core1 := none, forces := [], hostWrites := [], change := none, welt := [],
    stations := [], views := [] } }
  match s0.program with
  | none => s0.showProgram.setFld Reg.PRG_STATE 2 0 0
  | some p =>
    have s1 := s0.wr Reg.PRG_IMAGE_BASE (BitVec.ofNat 32 s0.fixedEnd)
    have r := s1.persistNewest
    have s2 := (elements p (fun y => y.cls != 0)).foldl (fun (t : State) x =>
      have v := if x.2.1.cls = 4 then persistVal r x.2.1 x.2.2
        else if x.2.1.cls = 1 then symSafe x.2.1 x.2.2 else symInit x.2.1 x.2.2
      t.publishValue p x.1 x.2.2 v) s1
    have s3 := ((s2.startStations p (fun _ _ => none)).refreshInputs p).showProgram
    have s4 := (List.range 48).foldl (fun (t : State) k =>
      t.setTaskState k (if t.bit (Reg.PRG_TASK_CFG k) 31 then 5 else 0)) s3
    (s4.setFld Reg.PRG_STATE 2 0 1).rewriteAllocMap

end Sys2Proof.Machine
end

