-- ==== Sys2Proof/Machine/Bavin.lean ====
section
/-!
DEFINITION. The Bavin instructions (R311 to R316, R325 to R327, Tables 10.5 to 10.7), one meaning each. An
instruction executes for the task that runs on its core when the program's code at the task's position holds
its encoding; otherwise nothing happens. What verification (R317) excludes, such as an empty stack, changes
nothing.
-/

namespace Sys2Proof.Machine

/-! How an instruction executes. -/

/-- The task that runs on a core, with its context. -/
def State.inCycle (s : State) (core : Nat) : Option (Nat × TaskCtx) :=
  (s.onCore core).bind (fun k => (s.task k).ctx.map (fun c => (k, c)))

/-- The instruction with this code stands at the position of the task on a core, and no task that is ready there comes before
it, since that one pre-empts it (R322): the task, its context with the
position after the instruction, and the code offset of the instruction. -/
def State.fetched (s : State) (core : Nat) (code : Option Bytes) : Option (Nat × TaskCtx × Nat) :=
  match code, s.inCycle core, s.program with
  | some bs, some (k, c), some p =>
    if s.vampOn && s.tasksRun && !s.prg.halted.contains core && (s.bestTask core).all (fun j => j == k) &&
        slice p.code c.pc bs.length == bs then some (k, { c with pc := c.pc + bs.length }, c.pc) else none
  | _, _, _ => none

/-- The state with a task's context set. -/
def State.setCtx (s : State) (k : Nat) (c : TaskCtx) : State := s.setTask k { s.task k with ctx := some c }

/-- An instruction that acts on its context only. -/
def State.bavin (s : State) (core : Nat) (code : Option Bytes) (f : TaskCtx → Option TaskCtx) :
    Host.Outcome State Fault Refusal :=
  match s.fetched core code with
  | none => .next s
  | some (k, c, _) =>
    match f c with
    | none => .next s
    | some d => .next (s.setCtx k d)

/-- An instruction that also acts on the state: f takes the task, the code offset and the context, and answers
the new context with what happens besides. -/
def State.bavinDo (s : State) (core : Nat) (code : Option Bytes)
    (f : Nat → Nat → TaskCtx → Option (TaskCtx × (State → State))) : Host.Outcome State Fault Refusal :=
  match s.fetched core code with
  | none => .next s
  | some (k, c, pc) =>
    match f k pc c with
    | none => .next s
    | some (d, g) => .next (g (s.setCtx k d))

/-! Stack forms. -/

/-- The context with an entry pushed. -/
def TaskCtx.push (c : TaskCtx) (v : Quad) : TaskCtx := { c with stack := v :: c.stack }

/-- a → f a. -/
def unary (f : Quad → Quad) (c : TaskCtx) : Option TaskCtx :=
  match c.stack with
  | a :: st => some { c with stack := f a :: st }
  | _ => none

/-- a b → f a b. -/
def binary (f : Quad → Quad → Quad) (c : TaskCtx) : Option TaskCtx :=
  match c.stack with
  | b :: a :: st => some { c with stack := f a b :: st }
  | _ => none

/-- a b c → f a b c. -/
def ternary (f : Quad → Quad → Quad → Quad) (c : TaskCtx) : Option TaskCtx :=
  match c.stack with
  | z :: y :: x :: st => some { c with stack := f x y z :: st }
  | _ => none

/-- The top entry taken by a function of it and the rest. -/
def popped (f : Quad → TaskCtx → Option TaskCtx) (c : TaskCtx) : Option TaskCtx :=
  match c.stack with
  | a :: st => f a { c with stack := st }
  | _ => none

/-- A free 64-bit value, and the state after its draws. -/
def State.freeQuad (s : State) : Quad :=
  BitVec.ofNat 64 ((Config.freeValue s.free).toNat + 2 ^ 32 * (Config.freeValue (s.free + 1)).toNat)
def State.drawnQuad (s : State) : State := s.drawn.drawn

/-- The symbol of an index in the running program. -/
def State.sym (s : State) (y : Nat) : Option Symbol := s.program.bind (fun p => symOf p y)

/-- An effect deferred to publication (R315). -/
def TaskCtx.defer (c : TaskCtx) (e : Effect) : TaskCtx := { c with effects := c.effects ++ [e] }

/-! Page 0: the stack. -/

/-- NOP: nothing. -/
def execBavinNop (core : Nat) (s : State) : Host.Outcome State Fault Refusal :=
  s.bavin core (some [0x00]) some

/-- DUP: a → a a. -/
def execBavinDup (core : Nat) (s : State) : Host.Outcome State Fault Refusal :=
  s.bavin core (some [0x01]) (popped (fun a c => some ((c.push a).push a)))

/-- DROP: a →. -/
def execBavinDrop (core : Nat) (s : State) : Host.Outcome State Fault Refusal :=
  s.bavin core (some [0x02]) (popped (fun _ c => some c))

/-- SWAP: a b → b a. -/
def execBavinSwap (core : Nat) (s : State) : Host.Outcome State Fault Refusal :=
  s.bavin core (some [0x03]) (fun c => match c.stack with
    | b :: a :: st => some { c with stack := a :: b :: st }
    | _ => none)

/-- OVER: a b → a b a. -/
def execBavinOver (core : Nat) (s : State) : Host.Outcome State Fault Refusal :=
  s.bavin core (some [0x04]) (fun c => match c.stack with
    | b :: a :: st => some { c with stack := a :: b :: a :: st }
    | _ => none)

/-- ROT: a b c → b c a. -/
def execBavinRot (core : Nat) (s : State) : Host.Outcome State Fault Refusal :=
  s.bavin core (some [0x05]) (fun c => match c.stack with
    | z :: y :: x :: st => some { c with stack := x :: z :: y :: st }
    | _ => none)

/-- PICK: a copy of entry n, 0 the top. -/
def execBavinPick (core : Nat) (n : Nat) (s : State) : Host.Outcome State Fault Refusal :=
  s.bavin core (byteCode [0x06] 0 255 n) (fun c => (c.stack[n]?).map c.push)

/-! Page 0: literals and symbols (R326). -/

/-- LIT: the value of its type. -/
def execBavinLit (core : Nat) (t v : Nat) (s : State) : Host.Outcome State Fault Refusal :=
  s.bavin core (literalCode t v) (fun c => some (c.push (extend t (v % 2 ^ (8 * typeSize t)))))

/-- LOAD: from the snapshot, own writes or a force. -/
def execBavinLoad (core : Nat) (t y : Nat) (s : State) : Host.Outcome State Fault Refusal :=
  s.bavin core (symbolCode 0x10 t y) (fun c => some (c.push (c.read y 0)))

/-- STORE: an own write of the task. -/
def execBavinStore (core : Nat) (t y : Nat) (s : State) : Host.Outcome State Fault Refusal :=
  s.bavin core (symbolCode 0x18 t y) (popped (fun v c => some (c.write y 0 v)))

/-- LOADX: out of range pushes 0 with runtime fault 2 (R325). -/
def execBavinLoadx (core : Nat) (t y : Nat) (s : State) : Host.Outcome State Fault Refusal :=
  s.bavinDo core (symbolCode 0x20 t y) (fun k pc c => match c.stack, s.sym y with
    | i :: st, some m =>
      have c1 := { c with stack := st }
      if i.toNat < m.elements then some (c1.push (c1.read y i.toNat), id)
      else some (c1.push 0, fun u => u.runtimeFault k 2 0 pc)
    | _, _ => none)

/-- STOREX: out of range writes nothing with runtime fault 2 (R325). -/
def execBavinStorex (core : Nat) (t y : Nat) (s : State) : Host.Outcome State Fault Refusal :=
  s.bavinDo core (symbolCode 0x28 t y) (fun k pc c => match c.stack, s.sym y with
    | v :: i :: st, some m =>
      have c1 := { c with stack := st }
      if i.toNat < m.elements then some (c1.write y i.toNat v, id)
      else some (c1, fun u => u.runtimeFault k 2 0 pc)
    | _, _ => none)

/-! Page 0: arithmetic (R311). -/

/-- ADD: wraps on integers and TIME64. -/
def execBavinAdd (core : Nat) (t : Nat) (s : State) : Host.Outcome State Fault Refusal :=
  s.bavin core (typedCode 0x30 1 6 t) (binary (valAdd t))

/-- SUB: wraps on integers and TIME64. -/
def execBavinSub (core : Nat) (t : Nat) (s : State) : Host.Outcome State Fault Refusal :=
  s.bavin core (typedCode 0x38 1 6 t) (binary (valSub t))

/-- MUL: wraps on integers. -/
def execBavinMul (core : Nat) (t : Nat) (s : State) : Host.Outcome State Fault Refusal :=
  s.bavin core (typedCode 0x40 1 5 t) (binary (valMul t))

/-- The result of an integer DIV or MOD, and what happens besides: 0 and runtime fault 1 for a zero divisor; a
quotient outside the type's range, of which the spec states no value, is free. -/
def State.divide (s : State) (t k pc : Nat) (q : Option Int) : Quad × (State → State) :=
  match q with
  | none => (0, fun u => u.runtimeFault k 1 0 pc)
  | some i =>
    if typeMin t ≤ i ∧ i ≤ typeMax t then (wrapVal t i, id) else (extend t s.freeWord.toNat, fun u => u.drawn)

/-- DIV: truncates toward zero; REAL32 divides as IEEE 754 has it. -/
def execBavinDiv (core : Nat) (t : Nat) (s : State) : Host.Outcome State Fault Refusal :=
  s.bavinDo core (typedCode 0x48 1 5 t) (fun k pc c => match c.stack with
    | y :: x :: st =>
      if t = 5 then some ({ c with stack := ofReal (f32Div (valReal x) (valReal y)) :: st }, id)
      else
        have r := s.divide t k pc (valQuot x y)
        some ({ c with stack := r.1 :: st }, r.2)
    | _ => none)

/-- MOD: the remainder takes the sign of the dividend. -/
def execBavinMod (core : Nat) (t : Nat) (s : State) : Host.Outcome State Fault Refusal :=
  s.bavinDo core (typedCode 0x50 1 4 t) (fun k pc c => match c.stack with
    | y :: x :: st =>
      have r := s.divide t k pc (valRem x y)
      some ({ c with stack := r.1 :: st }, r.2)
    | _ => none)

/-- NEG. -/
def execBavinNeg (core : Nat) (t : Nat) (s : State) : Host.Outcome State Fault Refusal :=
  s.bavin core (signedCode 0x58 t) (unary (valNeg t))

/-- ABS: of the most negative value, that value. -/
def execBavinAbs (core : Nat) (t : Nat) (s : State) : Host.Outcome State Fault Refusal :=
  s.bavin core (signedCode 0x60 t) (unary (valAbs t))

/-- MIN. -/
def execBavinMin (core : Nat) (t : Nat) (s : State) : Host.Outcome State Fault Refusal :=
  s.bavin core (typedCode 0x68 1 6 t) (binary (valMin t))

/-- MAX. -/
def execBavinMax (core : Nat) (t : Nat) (s : State) : Host.Outcome State Fault Refusal :=
  s.bavin core (typedCode 0x70 1 6 t) (binary (valMax t))

/-! Page 0: comparison. -/

/-- EQ. -/
def execBavinEq (core : Nat) (t : Nat) (s : State) : Host.Outcome State Fault Refusal :=
  s.bavin core (typedCode 0x78 0 6 t) (binary (fun a b => ofBool (valEq t a b)))

/-- NE. -/
def execBavinNe (core : Nat) (t : Nat) (s : State) : Host.Outcome State Fault Refusal :=
  s.bavin core (typedCode 0x80 0 6 t) (binary (fun a b => ofBool (!valEq t a b)))

/-- LT. -/
def execBavinLt (core : Nat) (t : Nat) (s : State) : Host.Outcome State Fault Refusal :=
  s.bavin core (typedCode 0x88 1 6 t) (binary (fun a b => ofBool (valLt t a b)))

/-- LE. -/
def execBavinLe (core : Nat) (t : Nat) (s : State) : Host.Outcome State Fault Refusal :=
  s.bavin core (typedCode 0x90 1 6 t) (binary (fun a b => ofBool (valLe t a b)))

/-- GT. -/
def execBavinGt (core : Nat) (t : Nat) (s : State) : Host.Outcome State Fault Refusal :=
  s.bavin core (typedCode 0x98 1 6 t) (binary (fun a b => ofBool (valLt t b a)))

/-- GE. -/
def execBavinGe (core : Nat) (t : Nat) (s : State) : Host.Outcome State Fault Refusal :=
  s.bavin core (typedCode 0xa0 1 6 t) (binary (fun a b => ofBool (valLe t b a)))

/-! Page 0: bits. -/

/-- AND. -/
def execBavinAnd (core : Nat) (t : Nat) (s : State) : Host.Outcome State Fault Refusal :=
  s.bavin core (typedCode 0xa8 0 4 t) (binary (valAnd t))

/-- OR. -/
def execBavinOr (core : Nat) (t : Nat) (s : State) : Host.Outcome State Fault Refusal :=
  s.bavin core (typedCode 0xb0 0 4 t) (binary (valOr t))

/-- XOR. -/
def execBavinXor (core : Nat) (t : Nat) (s : State) : Host.Outcome State Fault Refusal :=
  s.bavin core (typedCode 0xb8 0 4 t) (binary (valXor t))

/-- NOT. -/
def execBavinNot (core : Nat) (t : Nat) (s : State) : Host.Outcome State Fault Refusal :=
  s.bavin core (typedCode 0xC0 0 4 t) (unary (valNot t))

/-- SHL: a n → r. -/
def execBavinShl (core : Nat) (t : Nat) (s : State) : Host.Outcome State Fault Refusal :=
  s.bavin core (typedCode 0xc8 1 4 t) (binary (valShl t))

/-- SHR: a n → r. -/
def execBavinShr (core : Nat) (t : Nat) (s : State) : Host.Outcome State Fault Refusal :=
  s.bavin core (typedCode 0xd0 1 4 t) (binary (valShr t))

/-- CONV (R312). -/
def execBavinConv (core : Nat) (src dst : Nat) (s : State) : Host.Outcome State Fault Refusal :=
  s.bavin core (convCode src dst) (fun c => if convListed src dst then unary (valConv src dst) c else none)

/-! Page 0: control. -/

/-- The context at a signed distance from the next instruction. -/
def TaskCtx.jump (c : TaskCtx) (offset : Int) : TaskCtx := { c with pc := ((c.pc : Int) + offset).toNat }

/-- JMP. -/
def execBavinJmp (core : Nat) (offset : Int) (s : State) : Host.Outcome State Fault Refusal :=
  s.bavin core (jumpCode 0xD9 offset) (fun c => some (c.jump offset))

/-- JMPT: jumps when TRUE. -/
def execBavinJmpt (core : Nat) (offset : Int) (s : State) : Host.Outcome State Fault Refusal :=
  s.bavin core (jumpCode 0xDA offset) (popped (fun g c => some (if isTrue g then c.jump offset else c)))

/-- JMPF: jumps when FALSE. -/
def execBavinJmpf (core : Nat) (offset : Int) (s : State) : Host.Outcome State Fault Refusal :=
  s.bavin core (jumpCode 0xDB offset) (popped (fun g c => some (if isTrue g then c else c.jump offset)))

/-- CALL: the arguments stay on the stack, and the callee has local slots of its own. -/
def execBavinCall (core : Nat) (f : Nat) (s : State) : Host.Outcome State Fault Refusal :=
  s.bavin core (wordCode [0xDC] f) (fun c => (s.program.bind (fun p => p.functions[f]?)).map (fun d =>
    { c with frames := (c.pc, c.locals) :: c.frames, locals := [], pc := d.entry }))

/-- RET: back to the caller, with its local slots. -/
def execBavinRet (core : Nat) (s : State) : Host.Outcome State Fault Refusal :=
  s.bavin core (some [0xDD]) (fun c => match c.frames with
    | (back, slots) :: rest => some { c with pc := back, locals := slots, frames := rest }
    | [] => none)

/-- END (R327, R382): the task publishes as one unit, unless a descriptor that overlaps the image is in progress. -/
def execBavinEnd (core : Nat) (s : State) : Host.Outcome State Fault Refusal :=
  match s.fetched core (some [0xDE]), s.program with
  | some (k, c, _), some p => .next (if s.imageInUse p then s else (s.publish p k c).finishCycle core k)
  | _, _ => .next s

/-- SEL: g a b → b if g is TRUE, otherwise a. -/
def execBavinSel (core : Nat) (t : Nat) (s : State) : Host.Outcome State Fault Refusal :=
  s.bavin core (byteCode [0xDF] 0 6 t) (ternary (fun g a b => if isTrue g then b else a))

/-- LIMIT: x lo hi → min(max(x, lo), hi). -/
def execBavinLimit (core : Nat) (t : Nat) (s : State) : Host.Outcome State Fault Refusal :=
  s.bavin core (byteCode [0xE0] 1 6 t) (ternary (valLimit t))

/-- The type of a local slot of the function that holds a code offset. -/
def localType (p : Program) (pc slot : Nat) : Nat :=
  match p.functions.find? (fun f => decide (f.entry ≤ pc) && decide (pc < f.entry + f.length)) with
  | none => 2
  | some f => f.locals.getD slot 2

/-- LDL: a slot that nothing has written in this call reads a free value of its type (the spec states none). -/
def execBavinLdl (core : Nat) (slot : Nat) (s : State) : Host.Outcome State Fault Refusal :=
  s.bavinDo core (byteCode [0xE1] 0 255 slot) (fun _ pc c =>
    match c.locals.find? (fun (x : Nat × Quad) => x.1 == slot) with
    | some x => some (c.push x.2, id)
    | none =>
      have t := (s.program.map (fun p => localType p pc slot)).getD 2
      some (c.push (extend t s.freeQuad.toNat), State.drawnQuad))

/-- STL: a slot of the function in hand. -/
def execBavinStl (core : Nat) (slot : Nat) (s : State) : Host.Outcome State Fault Refusal :=
  s.bavin core (byteCode [0xE2] 0 255 slot) (popped (fun v c =>
    some { c with locals := (slot, v) :: c.locals.filter (fun (x : Nat × Quad) => x.1 != slot) }))

/-! Page 1: REAL32 functions. -/

/-- SQRT. -/
def execBavinSqrt (core : Nat) (s : State) : Host.Outcome State Fault Refusal :=
  s.bavin core (some [0xFE, 0x00]) (unary (fun a => ofReal (f32Sqrt (valReal a))))

/-- EXP: the value of the named function, which the spec does not compute. -/
def execBavinExp (core : Nat) (s : State) : Host.Outcome State Fault Refusal :=
  s.bavin core (some [0xFE, 0x01]) (unary (fun a => ofReal (Config.realFn .exp (valReal a))))

/-- LN: the value of the named function, which the spec does not compute. -/
def execBavinLn (core : Nat) (s : State) : Host.Outcome State Fault Refusal :=
  s.bavin core (some [0xFE, 0x02]) (unary (fun a => ofReal (Config.realFn .ln (valReal a))))

/-- LOG10: the value of the named function, which the spec does not compute. -/
def execBavinLog10 (core : Nat) (s : State) : Host.Outcome State Fault Refusal :=
  s.bavin core (some [0xFE, 0x03]) (unary (fun a => ofReal (Config.realFn .log10 (valReal a))))

/-- SIN: the value of the named function, which the spec does not compute. -/
def execBavinSin (core : Nat) (s : State) : Host.Outcome State Fault Refusal :=
  s.bavin core (some [0xFE, 0x04]) (unary (fun a => ofReal (Config.realFn .sin (valReal a))))

/-- COS: the value of the named function, which the spec does not compute. -/
def execBavinCos (core : Nat) (s : State) : Host.Outcome State Fault Refusal :=
  s.bavin core (some [0xFE, 0x05]) (unary (fun a => ofReal (Config.realFn .cos (valReal a))))

/-- TAN: the value of the named function, which the spec does not compute. -/
def execBavinTan (core : Nat) (s : State) : Host.Outcome State Fault Refusal :=
  s.bavin core (some [0xFE, 0x06]) (unary (fun a => ofReal (Config.realFn .tan (valReal a))))

/-- ASIN: the value of the named function, which the spec does not compute. -/
def execBavinAsin (core : Nat) (s : State) : Host.Outcome State Fault Refusal :=
  s.bavin core (some [0xFE, 0x07]) (unary (fun a => ofReal (Config.realFn .asin (valReal a))))

/-- ACOS: the value of the named function, which the spec does not compute. -/
def execBavinAcos (core : Nat) (s : State) : Host.Outcome State Fault Refusal :=
  s.bavin core (some [0xFE, 0x08]) (unary (fun a => ofReal (Config.realFn .acos (valReal a))))

/-- ATAN: the value of the named function, which the spec does not compute. -/
def execBavinAtan (core : Nat) (s : State) : Host.Outcome State Fault Refusal :=
  s.bavin core (some [0xFE, 0x09]) (unary (fun a => ofReal (Config.realFn .atan (valReal a))))

/-- ATAN2: y x → r. -/
def execBavinAtan2 (core : Nat) (s : State) : Host.Outcome State Fault Refusal :=
  s.bavin core (some [0xFE, 0x0a]) (binary (fun a b => ofReal (Config.realFn2 .atan2 (valReal a) (valReal b))))

/-- POW: a b → a^b. -/
def execBavinPow (core : Nat) (s : State) : Host.Outcome State Fault Refusal :=
  s.bavin core (some [0xFE, 0x0b]) (binary (fun a b => ofReal (Config.realFn2 .pow (valReal a) (valReal b))))

/-- TRUNC: REAL32 to INT32, saturated; NaN gives 0. -/
def execBavinTrunc (core : Nat) (s : State) : Host.Outcome State Fault Refusal :=
  s.bavin core (some [0xFE, 0x0c]) (unary (valRound .trunc))

/-- ROUND: REAL32 to INT32, saturated; NaN gives 0. -/
def execBavinRound (core : Nat) (s : State) : Host.Outcome State Fault Refusal :=
  s.bavin core (some [0xFE, 0x0d]) (unary (valRound .away))

/-- FLOOR: REAL32 to INT32, saturated; NaN gives 0. -/
def execBavinFloor (core : Nat) (s : State) : Host.Outcome State Fault Refusal :=
  s.bavin core (some [0xFE, 0x0e]) (unary (valRound .floor))

/-- CEIL: REAL32 to INT32, saturated; NaN gives 0. -/
def execBavinCeil (core : Nat) (s : State) : Host.Outcome State Fault Refusal :=
  s.bavin core (some [0xFE, 0x0f]) (unary (valRound .ceil))

/-- ISNAN. -/
def execBavinIsnan (core : Nat) (s : State) : Host.Outcome State Fault Refusal :=
  s.bavin core (some [0xFE, 0x10]) (unary (fun a => ofBool (f32IsNaN (valReal a))))

/-- FMA: a × b + c, rounded once. -/
def execBavinFma (core : Nat) (s : State) : Host.Outcome State Fault Refusal :=
  s.bavin core (some [0xFE, 0x11]) (ternary (fun x y z => ofReal (f32Fma (valReal x) (valReal y) (valReal z))))

/-! Page 1: bits. -/

/-- ROL: a n → r. -/
def execBavinRol (core : Nat) (t : Nat) (s : State) : Host.Outcome State Fault Refusal :=
  s.bavin core (byteCode [0xFE, 0x12] 1 4 t) (binary (valRol t))

/-- ROR: a n → r. -/
def execBavinRor (core : Nat) (t : Nat) (s : State) : Host.Outcome State Fault Refusal :=
  s.bavin core (byteCode [0xFE, 0x13] 1 4 t) (binary (valRor t))

/-- A bit operation on bit n of a; of a bit beyond the width the spec states no result, so it is free. -/
def State.bitOp (s : State) (core t op : Nat) (inside : Quad → Quad → Quad) (free : Quad) :
    Host.Outcome State Fault Refusal :=
  s.bavinDo core (byteCode [0xFE, BitVec.ofNat 8 op] 1 4 t) (fun _ _ c => match c.stack with
    | n :: a :: st =>
      if n.toNat < typeBits t then some ({ c with stack := inside a n :: st }, id)
      else some ({ c with stack := free :: st }, fun u => u.drawn)
    | _ => none)

/-- GETBIT: a n → BOOL. -/
def execBavinGetbit (core : Nat) (t : Nat) (s : State) : Host.Outcome State Fault Refusal :=
  s.bitOp core t 0x14 (fun a n => ofBool ((valBits t a).testBit n.toNat)) (extend 0 (s.freeWord.toNat % 2))

/-- SETBIT: a n → r. -/
def execBavinSetbit (core : Nat) (t : Nat) (s : State) : Host.Outcome State Fault Refusal :=
  s.bitOp core t 0x15 (fun a n => valSetBit t a n true) (extend t s.freeWord.toNat)

/-- CLRBIT: a n → r. -/
def execBavinClrbit (core : Nat) (t : Nat) (s : State) : Host.Outcome State Fault Refusal :=
  s.bitOp core t 0x16 (fun a n => valSetBit t a n false) (extend t s.freeWord.toNat)

/-! Page 1: time. -/

/-- NOW: MONO now. -/
def execBavinNow (core : Nat) (s : State) : Host.Outcome State Fault Refusal :=
  s.bavin core (some [0xFE, 0x20]) (fun c => some (c.push (BitVec.ofNat 64 s.monoNs)))

/-- NOWPLANT: PLANT now, and TRUE while PLANT is valid. -/
def execBavinNowplant (core : Nat) (s : State) : Host.Outcome State Fault Refusal :=
  s.bavin core (some [0xFE, 0x21]) (fun c =>
    some ((c.push (BitVec.ofNat 64 s.tim.plant.total)).push (ofBool s.plantValid)))

/-- CYCLESTART: this cycle's snapshot instant. -/
def execBavinCyclestart (core : Nat) (s : State) : Host.Outcome State Fault Refusal :=
  s.bavin core (some [0xFE, 0x22]) (fun c => some (c.push (BitVec.ofNat 64 c.snapNs)))

/-- PERIOD: the task's period, 0 for an event task. -/
def execBavinPeriod (core : Nat) (s : State) : Host.Outcome State Fault Refusal :=
  s.bavinDo core (some [0xFE, 0x23]) (fun k _ c =>
    have d := s.program.bind (fun p => taskDef p k)
    have ns := match d with
      | some x => if x.event then 0 else 250000 * x.period
      | none => 0
    some (c.push (BitVec.ofNat 64 ns), id))

/-! Page 1: function blocks of IEC 61131-3 (Table 10.6). An instance holds its last input in element 0; a
timer its output, start and elapsed time in 1 to 3, a counter its count and a bistable its output in 1. -/

/-- Two inputs and one output: f takes the context and answers the output and the new context. -/
def blockTwo (f : Quad → Quad → TaskCtx → Quad × TaskCtx) (c : TaskCtx) : Option TaskCtx :=
  match c.stack with
  | b :: a :: st =>
    have r := f a b { c with stack := st }
    some (r.2.push r.1)
  | _ => none

/-- A timer: IN PT → Q ET; f answers the output, the start and the elapsed time to show. -/
def timerBlock (y : Nat) (f : TaskCtx → Bool → Int → Bool × Int × Int) (c : TaskCtx) : Option TaskCtx :=
  match c.stack with
  | pt :: inp :: st =>
    have c1 := { c with stack := st }
    have r := f c1 (isTrue inp) (valInt pt)
    have q := ofBool r.1
    have c2 := (((c1.write y 0 (ofBool (isTrue inp))).write y 1 q).write y 2 (wrapVal 6 r.2.1)).write y 3 (wrapVal 6 r.2.2)
    some ((c2.push q).push (wrapVal 6 r.2.2))
  | _ => none

/-- CYCLESTART of the cycle as a signed number. -/
def TaskCtx.now (c : TaskCtx) : Int := c.snapNs

/-- TON: Q after IN has been TRUE for PT. -/
def execBavinTon (core : Nat) (y : Nat) (s : State) : Host.Outcome State Fault Refusal :=
  s.bavin core (wordCode [0xFE, 0x28] y) (timerBlock y (fun c i pt =>
    have start := if isTrue (c.read y 0) then valInt (c.read y 2) else c.now
    have run := c.now - start
    if i then (decide (pt ≤ run), start, min run pt) else (false, start, 0)))

/-- TOF: Q until IN has been FALSE for PT. -/
def execBavinTof (core : Nat) (y : Nat) (s : State) : Host.Outcome State Fault Refusal :=
  s.bavin core (wordCode [0xFE, 0x29] y) (timerBlock y (fun c i pt =>
    have start := if isTrue (c.read y 0) then c.now else valInt (c.read y 2)
    have run := c.now - start
    if i then (true, start, 0)
    else if isTrue (c.read y 1) then (decide (run < pt), start, min run pt)
    else (false, start, valInt (c.read y 3))))

/-- TP: a pulse of PT from a rising edge of IN. -/
def execBavinTp (core : Nat) (y : Nat) (s : State) : Host.Outcome State Fault Refusal :=
  s.bavin core (wordCode [0xFE, 0x2a] y) (timerBlock y (fun c i pt =>
    have rises := i && !isTrue (c.read y 0) && !isTrue (c.read y 1)
    have start := if rises then c.now else valInt (c.read y 2)
    have run := c.now - start
    if rises || isTrue (c.read y 1) then
      (decide (run < pt), start, if decide (run < pt) || i then min run pt else 0)
    else (false, start, if i then valInt (c.read y 3) else 0)))

/-- RTRIG: CLK → Q at a rising edge. -/
def execBavinRtrig (core : Nat) (y : Nat) (s : State) : Host.Outcome State Fault Refusal :=
  s.bavin core (wordCode [0xFE, 0x2b] y) (popped (fun v c =>
    some ((c.write y 0 (ofBool (isTrue v))).push (ofBool (isTrue v && !isTrue (c.read y 0))))))

/-- FTRIG: CLK → Q at a falling edge. -/
def execBavinFtrig (core : Nat) (y : Nat) (s : State) : Host.Outcome State Fault Refusal :=
  s.bavin core (wordCode [0xFE, 0x2c] y) (popped (fun v c =>
    some ((c.write y 0 (ofBool (!isTrue v))).push (ofBool (!isTrue v && !isTrue (c.read y 0))))))

/-- A counter: input, R or LD, PV → Q CV; f takes the rising edge, the second input, PV and the count. -/
def counterBlock (y : Nat) (f : Bool → Bool → Int → Int → Int) (q : Int → Int → Bool) (c : TaskCtx) : Option TaskCtx :=
  match c.stack with
  | pv :: r :: u :: st =>
    have c1 := { c with stack := st }
    have cv := f (isTrue u && !isTrue (c1.read y 0)) (isTrue r) (valInt pv) (valInt (c1.read y 1))
    have c2 := (c1.write y 0 (ofBool (isTrue u))).write y 1 (wrapVal 1 cv)
    some ((c2.push (ofBool (q cv (valInt pv)))).push (wrapVal 1 cv))
  | _ => none

/-- CTU: counts up to the greatest INT16; R clears; Q at PV or above. -/
def execBavinCtu (core : Nat) (y : Nat) (s : State) : Host.Outcome State Fault Refusal :=
  s.bavin core (wordCode [0xFE, 0x2d] y) (counterBlock y
    (fun edge r _ cv => if r then 0 else if edge && decide (cv < typeMax 1) then cv + 1 else cv)
    (fun cv pv => decide (pv ≤ cv)))

/-- CTD: LD loads PV; counts down to the least INT16; Q at 0 or below. -/
def execBavinCtd (core : Nat) (y : Nat) (s : State) : Host.Outcome State Fault Refusal :=
  s.bavin core (wordCode [0xFE, 0x2e] y) (counterBlock y
    (fun edge ld pv cv => if ld then pv else if edge && decide (typeMin 1 < cv) then cv - 1 else cv)
    (fun cv _ => decide (cv ≤ 0)))

/-- SR: set dominates. -/
def execBavinSr (core : Nat) (y : Nat) (s : State) : Host.Outcome State Fault Refusal :=
  s.bavin core (wordCode [0xFE, 0x2f] y) (blockTwo (fun a r c =>
    have q := ofBool (isTrue a || (!isTrue r && isTrue (c.read y 1)))
    (q, c.write y 1 q)))

/-- RS: reset dominates. -/
def execBavinRs (core : Nat) (y : Nat) (s : State) : Host.Outcome State Fault Refusal :=
  s.bavin core (wordCode [0xFE, 0x30] y) (blockTwo (fun a r c =>
    have q := ofBool (!isTrue r && (isTrue a || isTrue (c.read y 1)))
    (q, c.write y 1 q)))

/-! Page 1: arrays. -/

/-- COPY: min of the two lengths. -/
def execBavinCopy (core : Nat) (src dst : Nat) (s : State) : Host.Outcome State Fault Refusal :=
  s.bavin core (copyCode src dst) (fun c => match s.sym src, s.sym dst with
    | some a, some b => some ((List.range (min a.elements b.elements)).foldl
        (fun (u : TaskCtx) el => u.write dst el (c.read src el)) c)
    | _, _ => none)

/-- FILL: every element. -/
def execBavinFill (core : Nat) (y : Nat) (s : State) : Host.Outcome State Fault Refusal :=
  s.bavin core (wordCode [0xFE, 0x39] y) (popped (fun v c => (s.sym y).map (fun m =>
    (List.range m.elements).foldl (fun (u : TaskCtx) el => u.write y el v) c)))

/-- LEN: ELEMENTS. -/
def execBavinLen (core : Nat) (y : Nat) (s : State) : Host.Outcome State Fault Refusal :=
  s.bavin core (wordCode [0xFE, 0x3a] y) (fun c => (s.sym y).map (fun m => c.push (BitVec.ofNat 64 m.elements)))

/-! Page 1: stations and Welt. -/

/-- STNOK (R334). -/
def execBavinStnok (core : Nat) (u : Nat) (s : State) : Host.Outcome State Fault Refusal :=
  s.bavin core (byteCode [0xFE, 0x40] 0 63 u) (fun c => some (c.push (ofBool (s.station u).present)))

/-- STNSTATE (R332): [15:8] STATUS, [2] disabled, [1] probing, [0] present. -/
def execBavinStnstate (core : Nat) (u : Nat) (s : State) : Host.Outcome State Fault Refusal :=
  s.bavin core (byteCode [0xFE, 0x41] 0 63 u) (fun c =>
    have x := s.station u
    some (c.push (BitVec.ofNat 64 (x.status % 256 * 256 + 4 * b2n x.disabled + 2 * b2n x.probing + b2n x.present))))

/-- STNENABLE (R336). -/
def execBavinStnenable (core : Nat) (u : Nat) (s : State) : Host.Outcome State Fault Refusal :=
  s.bavinDo core (byteCode [0xFE, 0x42] 0 63 u) (fun _ _ c => match c.stack with
    | v :: st => some ({ c with stack := st }, fun x => match s.program with
      | some p => if (stationDef p u).isSome then x.stationEnable p u (isTrue v) else x
      | none => x)
    | _ => none)

/-- WVALID (R330). -/
def execBavinWvalid (core : Nat) (n : Nat) (s : State) : Host.Outcome State Fault Refusal :=
  s.bavin core (byteCode [0xFE, 0x48] 0 31 n) (fun c =>
    some (c.push (ofBool (s.weltEnabled n && !s.weltProducer n && s.weltState n == 2))))

/-- WPUB (R315, R330): at publication. -/
def execBavinWpub (core : Nat) (n y : Nat) (s : State) : Host.Outcome State Fault Refusal :=
  s.bavin core (wpubCode n y) (fun c => some (c.defer (.wpub n y)))

/-! Page 1: events and faults. -/

/-- RAISE (R315): at publication. -/
def execBavinRaise (core : Nat) (n : Nat) (s : State) : Host.Outcome State Fault Refusal :=
  s.bavin core (byteCode [0xFE, 0x50] 0 3 n) (popped (fun v c => some (c.defer (.raiseUser n v.toNat))))

/-- TRIGGER (R315, R320): at publication. -/
def execBavinTrigger (core : Nat) (k : Nat) (s : State) : Host.Outcome State Fault Refusal :=
  s.bavin core (byteCode [0xFE, 0x51] 16 47 k) (fun c => some (c.defer (.trigger k)))

/-- ASSERT (R325): FALSE raises runtime fault 4. -/
def execBavinAssert (core : Nat) (code : Nat) (s : State) : Host.Outcome State Fault Refusal :=
  s.bavinDo core (wordCode [0xFE, 0x60] code) (fun k pc c => match c.stack with
    | v :: st => some ({ c with stack := st }, fun u => if isTrue v then u else u.runtimeFault k 4 code pc)
    | _ => none)

/-- TRAP (R325): runtime fault 5 ends the cycle without publication. -/
def execBavinTrap (core : Nat) (code : Nat) (s : State) : Host.Outcome State Fault Refusal :=
  match s.fetched core (wordCode [0xFE, 0x61] code) with
  | none => .next s
  | some (k, _, pc) => .next ((s.runtimeFault k 5 code pc).finishCycle core k)

/-- ISFORCED (R338): as of the snapshot. -/
def execBavinIsforced (core : Nat) (y : Nat) (s : State) : Host.Outcome State Fault Refusal :=
  s.bavin core (wordCode [0xFE, 0x62] y) (popped (fun el c =>
    some (c.push (ofBool (valFind c.forced (valKey y el.toNat)).isSome))))

/-! Page 2 (R314, R315). -/

/-- CELLGET. -/
def execBavinCellget (core : Nat) (f : Nat) (s : State) : Host.Outcome State Fault Refusal :=
  s.bavin core (byteCode [0xFF, 0x00] 0 8 f) (popped (fun n c => some (c.push (ofReal (s.cellGet c.record n.toNat f)))))

/-- CELLFLAGS: a word that is not available is free. -/
def execBavinCellflags (core : Nat) (s : State) : Host.Outcome State Fault Refusal :=
  s.bavinDo core (some [0xFF, 0x01]) (fun _ _ c => match c.stack with
    | n :: st =>
      have c1 := { c with stack := st }
      match s.cellFlags c.record n.toNat with
      | some v => some (c1.push (BitVec.ofNat 64 v), id)
      | none => some (c1.push (extend 3 s.freeWord.toNat), fun u => u.drawn)
    | _ => none)

/-- NODEGET. -/
def execBavinNodeget (core : Nat) (f : Nat) (s : State) : Host.Outcome State Fault Refusal :=
  s.bavin core (byteCode [0xFF, 0x02] 0 6 f) (popped (fun n c => some (c.push (ofReal (s.nodeGet c.record n.toNat f)))))

/-- STRGET. -/
def execBavinStrget (core : Nat) (f : Nat) (s : State) : Host.Outcome State Fault Refusal :=
  s.bavin core (byteCode [0xFF, 0x03] 0 14 f) (fun c => some (c.push (ofReal (s.stringGet c.record f))))

/-- The string state word of Table 10.8. -/
def State.stringState (s : State) : Nat :=
  have m := match s.mode with
    | .run => 1
    | .stop => 2
    | .safe => 3
    | _ => 0
  m + 4 * b2n s.drogue + 8 * b2n s.est.deficient + 16 * b2n (s.readsClosed 1 && s.readsClosed 2) +
    32 * b2n s.est.noAnchor + 64 * b2n s.plantValid

/-- STRSTATE. -/
def execBavinStrstate (core : Nat) (s : State) : Host.Outcome State Fault Refusal :=
  s.bavin core (some [0xFF, 0x04]) (fun c => some (c.push (BitVec.ofNat 64 s.stringState)))

/-- SLOTY: CTL.SLOTn_Y as a real. -/
def execBavinSloty (core : Nat) (n : Nat) (s : State) : Host.Outcome State Fault Refusal :=
  s.bavin core (byteCode [0xFF, 0x05] 0 15 n) (fun c =>
    some (c.push (ofReal (f32OfRat (s.q23 (Reg.CTL_SLOT_Y n)) 0x800000))))

/-- XINSET (R315): at publication. -/
def execBavinXinset (core : Nat) (n : Nat) (s : State) : Host.Outcome State Fault Refusal :=
  s.bavin core (byteCode [0xFF, 0x06] 0 7 n) (popped (fun v c => some (c.defer (.xin n (realQ23 (valReal v))))))

/-- OUTREQ (R315): at publication. -/
def execBavinOutreq (core : Nat) (s : State) : Host.Outcome State Fault Refusal :=
  s.bavin core (some [0xFF, 0x07]) (popped (fun v c => some (c.defer (.outReq (v.toNat % 16)))))

/-- ACKSAFE (R315): at publication. -/
def execBavinAcksafe (core : Nat) (s : State) : Host.Outcome State Fault Refusal :=
  s.bavin core (some [0xFF, 0x08]) (fun c => some (c.defer .ackSafe))

end Sys2Proof.Machine
end

