-- ==== Sys2Proof/Machine/Can.lean ====
section
/-!
DEFINITION. CAN frames received and sent, and bus errors (R432 to R442): what reaches programs and stations.
-/

namespace Sys2Proof.Machine

/-! Receiving. -/

/-- The station of the running program whose input frame has this identifier on controller n (R332). -/
def State.stationOfFrame (s : State) (n id : Nat) (ide : Bool) : Option Nat :=
  s.program.bind (fun p => (p.stations.find? (fun (x : Nat × StationDef) =>
    x.2.carrier == n && x.2.extended == ide && x.2.address + 1 == id)).map (·.1))

/-- Store a frame at the first destination that takes it (R432); the station queue is served at once. -/
def State.canStore (s : State) (n id : Nat) (ide rtr fdf brs esi : Bool) (dlc ago : Nat) (data : Bytes) : State :=
  have m := s.canMatch n id ide rtr
  have e := s.rxElement n id ide rtr fdf brs esi dlc m.2 ago data
  match m.1 with
  | .reject => s
  | .fifo k => s.drawn.canFifo n k e
  | .buffer b => s.drawn.canBuffer n b e
  | .station =>
    match s.stationOfFrame n id ide with
    | none => s
    | some u => s.stationInput u (data.take (dlcLength fdf dlc))

/-- A frame is the wake frame of controller n (R441). -/
def State.isWakeFrame (s : State) (n id : Nat) (ide rtr : Bool) : Bool :=
  have w := s.rd (Reg.CAN_WAKE_ID n)
  !rtr && getBit w 29 == ide &&
    Nat.land (Nat.xor id (getBits w 28 0)) (s.fld (Reg.CAN_WAKE_MASK n) 28 0) == 0

/-- A frame received without error: the receive counter, a reference message, and the destinations. -/
def State.canReceive (s : State) (n id : Nat) (ide rtr fdf brs esi : Bool) (dlc ago : Nat) (data : Bytes) : State :=
  have s1 := s.canGood n false
  have s2 := if s1.isReference n id ide rtr fdf dlc then s1.canReference n (fieldLE data 0 1 % 64) ago else s1
  s2.canStore n id ide rtr fdf brs esi dlc ago data

/-- CAN_FRAME_RECEIVE (R432, R441, R442): a frame ends without error, the sample point of its SOF ago ns back. Asleep, only
the wake frame of a sleep of its kind is taken; in bus-off, none (ISO 11898-1). -/
def execCanFrameReceive (n id : Nat) (ide rtr fdf brs esi : Bool) (dlc : Nat) (data : Bytes) (ago : Nat) (s : State) :
    Host.Outcome State Fault Refusal := s.whenVamp <|
  if !s.canRuns n || decide (2 ≤ s.fld (Reg.CAN_ERR n) 31 30) || (fdf && !s.bit (Reg.CAN_MODE n) 29) then .next s
  else if (s.canCtl n).sleeping then
    if s.bit (Reg.CAN_MODE n) 26 && s.isWakeFrame n id ide rtr then
      .next ((s.canWake n 1).canReceive n id ide rtr fdf brs esi dlc ago data)
    else .next s
  else .next (s.canReceive n id ide rtr fdf brs esi dlc ago data)

/-! Sending. -/

/-- The frame of a transmit element, received internally in loopback (R427, R432). -/
def State.canLoop (s : State) (n : Nat) (e : Bytes) : State :=
  have w0 := eltWord e 0
  have w1 := eltWord e 1
  have ide := getBit w0 30
  s.canStore n (if ide then getBits w0 28 0 else getBits w0 10 0) ide (getBit w0 29) (getBit w1 31) (getBit w1 30)
    false (getBits w1 27 24) 0 (slice e 32 64)

/-- The loop delay measured in an FD frame sent with BRS (R429): a measured value, so a free one. -/
def State.canDelay (s : State) (n : Nat) (e : Bytes) : State :=
  if s.bit (Reg.CAN_TDC n) 31 && getBit (eltWord e 1) 31 && getBit (eltWord e 1) 30 then
    s.drawn.setFld (Reg.CAN_TDC n) 6 0 (s.freeWord.toNat % 128)
  else s

/-- A slot's frame has been sent without error (R437, R438); in loopback CANn_TX stays recessive (R427). -/
def State.canSent (s : State) (n slot : Nat) (sl : CanSlot) : State :=
  have s0 := if s.canMode n = 3 then s else s.emit (.canFrame n sl.element)
  have s1 := (s0.canDelay n sl.element).canGood n true
  have s2 := s1.slotDone n slot (if sl.cancel then 5 else 3)
  if s2.canMode n = 3 then s2.canLoop n sl.element else s2

/-- A slot's frame was not sent (R437, R438): a cancelled slot is cancelled, a SINGLE_SHOT slot fails, and any
other stays requested. -/
def State.canUnsent (s : State) (n slot : Nat) (sl : CanSlot) : State :=
  if sl.cancel then s.slotDone n slot 4
  else if getBit (eltWord sl.element 1) 28 then s.slotDone n slot 6
  else s.setSlotStatus n slot 1

/-- CAN_TX_COMPLETE (R437): outcome 3, the frame was sent without error; any other, it lost arbitration. -/
def execCanTxComplete (n slot outcome : Nat) (s : State) : Host.Outcome State Fault Refusal := s.whenVamp <|
  match (s.canCtl n).slots.find? (fun p => p.1 == slot) with
  | none => .next s
  | some (_, sl) =>
    if !s.canSends n || !(s.mayArbitrate n slot || s.slotStatus n slot == 2) then .next s
    else if outcome = 3 then .next (s.canSent n slot sl)
    else .next (s.canUnsent n slot sl)

/-! Errors. -/

/-- A collision of a slot's identifier (R440): the eighth within 1 s is reported, once in 60 s. -/
def State.canCollide (s : State) (n : Nat) (e : Bytes) : State :=
  have w := eltWord e 0
  have ide := getBit w 30
  have id := (if ide then getBits w 28 0 else getBits w 10 0) + b2n ide * 2 ^ 29
  have c := s.canCtl n
  have seen := ((id, s.monoNs) :: c.collisions).take 8
  have same := seen.filter (fun (x : Nat × Nat) => x.1 == id && decide (s.monoNs ≤ x.2 + 1000000000))
  have quiet := c.reported.any (fun (x : Nat × Nat) => x.1 == id && decide (s.monoNs < x.2 + 60000000000))
  if same.length = 8 ∧ !quiet then
    have s1 := s.setCanCtl n { c with
      collisions := seen, reported := (id, s.monoNs) :: c.reported.filter (fun (x : Nat × Nat) => x.1 != id) }
    have s2 := (s1.wr (Reg.CAN_COLLISION n) (BitVec.ofNat 32 (2 ^ 31 + b2n ide * 2 ^ 30 + id % 2 ^ 29))).canFlag n 3
    s2.canStatus n 2 (b2n ide * 2 ^ 20 + id % 2 ^ 20)
  else s.setCanCtl n { c with collisions := seen }

/-- Bus-off (R439): requested slots fail where MODE says so, stations on the controller go absent, and
recovery begins at once where MODE says so. -/
def State.canBusOff (s : State) (n : Nat) : State :=
  have s1 := if s.bit (Reg.CAN_MODE n) 23 then
      (List.range 32).foldl (fun (t : State) k => if t.slotBusy n k then t.slotDone n k 6 else t) s
    else s
  have s2 := s1.stationsOff n
  if s2.bit (Reg.CAN_MODE n) 27 then (s2.setFld (Reg.CAN_ERR n) 31 30 3).setFld (Reg.CAN_ERR n) 7 0 0 else s2

/-- The counters after an error (R439, fault confinement of ISO 11898-1, PRESUMED, assumption 248): the transmitter adds 8 to
TEC, a receiver 1 to REC. exempt says that the standard's exception holds: for the transmitter an error-passive ACK error
with no dominant bit in the error flag, or a stuff error in arbitration; for a receiver a bit error in its own flag. Each of
the more further conditions, a dominant bit after the flag, a bit error in the flag or 8 dominant bits more, adds 8. -/
def State.canCharge (s : State) (n code : Nat) (transmit exempt : Bool) (more : Nat) : State :=
  have tec := s.fld (Reg.CAN_ERR n) 16 8
  have rcv := s.fld (Reg.CAN_ERR n) 24 17
  have spared := exempt && (if transmit then code == 1 || (code == 3 && s.fld (Reg.CAN_ERR n) 31 30 == 1)
    else code == 4 || code == 5)
  if transmit then s.canCounters n (tec + (if spared then 0 else 8) + 8 * more) rcv
  else s.canCounters n tec (rcv + (if spared then 0 else 1) + 8 * more)

/-- CAN_BUS_ERROR (R439, R440): the error as the bus shows it, the slot being sent, whether it was a collision, and what
of fault confinement it meets. -/
def execCanBusError (n code : Nat) (dataPhase : Bool) (slot : Option Nat) (collision exempt : Bool) (more : Nat)
    (s : State) : Host.Outcome State Fault Refusal := s.whenVamp <|
  if !s.canRuns n || decide (2 ≤ s.fld (Reg.CAN_ERR n) 31 30) then .next s
  else
    have mine := slot.bind (fun k => ((s.canCtl n).slots.find? (fun p => p.1 == k && s.slotBusy n k)))
    have s1 := (((s.setFld (Reg.CAN_ERR_LAST n) 31 28 code).setBit (Reg.CAN_ERR_LAST n) 27 dataPhase).setBit
      (Reg.CAN_ERR_LAST n) 26 slot.isSome).incFld (Reg.CAN_ERR_LAST n) 15 0
    have s2 := match mine with
      | none => s1
      | some (k, sl) => (if collision then s1.canCollide n sl.element else s1).canUnsent n k sl
    have s3 := s2.canCharge n code slot.isSome exempt more
    .next (if s3.fld (Reg.CAN_ERR n) 31 30 = 2 then s3.canBusOff n else s3)

end Sys2Proof.Machine
end

