-- ==== Sys2Proof/Machine/Est.lean ====
section
/-!
DEFINITION. What a record brings about after it closes: delivery and the sweep boundary (R103, R104, R145), the
fast layer's completion with its results, limits and words (R176, R187, R191), the recorder's histograms (R446,
R447); the impedance bins (R124), rest anchors (R171, R172), balancing (R178, R179) and the EST commands (R155).
-/

namespace Sys2Proof.Machine

/-! Closing a record. -/

/-- The replay-ring entry of a record (R145). -/
def State.replayBytes (s : State) (head : Bytes) (blocks : List Bytes) : Bytes :=
  have volts := s.cells.flatMap (fun c =>
    have p := s.sampleOf blocks c
    bytesLE 2 (if p.present then p.volt else 0xFFFF))
  have temps := blocks.flatMap (fun b => bytesLE 1 (blockCode b) ++ slice b 40 8)
  have e := slice head 0 4 ++ slice head 8 4 ++ slice head 16 4 ++ slice head 20 4 ++ volts ++ temps
  e ++ zeros (s.replayEntry - e.length)

/-- Append a record to the replay ring of 1250 entries (R145). -/
def State.replayAppend (s : State) (head : Bytes) (blocks : List Bytes) : State :=
  have i := s.est.replayHead
  have s1 := s.putBytes ((s.rd Reg.EST_REPLAY_BASE).toNat + s.replayEntry * i) (s.replayBytes head blocks)
  { s1 with est := { s1.est with
    replayHead := (i + 1) % 1250, replay := (recId head :: s1.est.replay).take 1250 } }

/-- The ingest ports write each hosted cell's sample into its unit's buffer, beside that of the sweep before (R136, Table 4.1). -/
def State.ingestRecord (s : State) (head : Bytes) (blocks : List Bytes) : State :=
  { s with est := { s.est with
    ingestI := recCurrent head, ingestI0 := s.est.ingestI,
    ingest := s.est.masks.map (fun m =>
      have p := s.sampleOf blocks m.2
      (m.2, if p.present then p.volt else 0xFFFF, ((s.est.ingest.find? (fun q => q.1 == m.2)).map (fun q => q.2.1)).getD 0xFFFF)) } }

/-- A new grid that waits for the record's close: its first nominal instant is a whole µs at least D + 4 µs after it (R113). -/
def State.rebaseAtClose (s : State) : State :=
  if !s.swp.rebase then s
  else
    have at_ := (s.tim.chain.total + s.sampleDelay + 4999) / 1000 * 1000
    { s with swp := { s.swp with nominal := max s.swp.nominal at_, rebase := false } }

/-- A record closes and is delivered: the sweep boundary (R103, R104, R29, R86). Slots that a record triggers have their event
(R196), and chain traffic that waited goes on (R105, R123). -/
def State.recordClose (s : State) (r : OpenRecord) : State :=
  have s1 := s.freezeView.writeRecord r
  have s2 := match s1.swp.record with
    | some (head, blocks) => s1.replayAppend head blocks
    | none => s1
  have s3 := s2.chainBoundary.estBoundary
  have s4 : State := { s3 with est := { s3.est with delivered := true } }
  have s5 := match s4.swp.record with
    | some (head, blocks) => s4.ingestRecord head blocks
    | none => s4
  (((s5.rebaseAtClose.raiseRecord).readNext 0).readNext 1).pump

/-- RECORD_DEADLINE (R103): the open record closes with what it holds. -/
def execRecordDeadline (s : State) : Host.Outcome State Fault Refusal := s.whenVamp <|
  match s.swp.opened with
  | none => .next s
  | some r => .next (s.recordClose r)

/-! Recorder (R446, R447). -/

/-- Add microseconds to a bin. -/
def RecBin.add (b : RecBin) (us : Nat) : RecBin :=
  have t := b.micros + us
  { seconds := min 0xFFFFFFFF (b.seconds + t / 1000000), micros := t % 1000000 }

/-- Add microseconds to a bin of a block. -/
def RecBlock.addTo (k : RecBlock) (i us : Nat) : RecBlock :=
  { k with bins := tset {} k.bins i ((tget {} k.bins i).add us) }

/-- Take a value into an extreme. -/
def Extreme.take (e : Extreme) (higher : Bool) (v : Word) (stamp : Nat) : Extreme :=
  if e.stamp = 0 || (if higher then f32Lt e.value v else f32Lt v e.value) then { value := v, stamp := stamp } else e

/-- A bin index clamped to a range. -/
def clampBin (i : Int) (top : Nat) : Nat := (max 0 (min i top)).toNat

/-- Bins of Table 15.1. -/
def State.voltBin (s : State) (v : Word) : Nat :=
  have lo := s.cfgW 10 0 1 0
  have hi := s.cfgW 10 0 0 0
  if f32Lt v lo then 0 else if f32Le hi v then 63
  else 1 + clampBin (f32FloorScaled (f32Div (f32Sub v lo) (f32Sub hi lo)) 62 1) 61

def tempBin (t : Int) : Nat :=
  if t < -4000 then 0 else if 8400 ≤ t then 63 else clampBin (1 + (t + 4000) / 200) 62

def State.currentBin (s : State) (i : Word) : Nat :=
  clampBin (f32FloorScaled (f32Add (f32Div i s.iRated) (f32OfRat 3 2)) 32 3) 31

def socBin (z : Word) : Nat := clampBin (f32FloorScaled z 16 1) 15

def twentieth (x : Word) : Nat := clampBin (f32FloorScaled (f32Add x (f32OfRat 16 10)) 20 1) 63

/-- A block of the live copy. -/
def State.recBlock (s : State) (k : Nat) : RecBlock := tget {} s.recorder.blocks k

/-- The live copy with a block set. -/
def State.putRecBlock (s : State) (k : Nat) (b : RecBlock) : State :=
  { s with recorder := { s.recorder with blocks := tset {} s.recorder.blocks k b } }

/-- A cell's block after a record. -/
def State.recCell (s : State) (head : Bytes) (blocks : List Bytes) (us cell : Nat) : State :=
  have p := s.sampleOf blocks cell
  have v := voltOf p.volt
  have k0 := s.recBlock cell
  have k1 := if p.usable then
    { k0.addTo (s.voltBin v) us with ext0 := k0.ext0.take true v s.stamp, ext1 := k0.ext1.take false v s.stamp } else k0
  have code := match s.placeOf cell with
    | none => 3
    | some q => ((blocks.find? (fun b => blockNode b == q.1)).map blockCode).getD 3
  have t := s.cellTemp cell
  have k2 := if code ≤ 1 then
    { k1.addTo (64 + tempBin t) us with
      ext2 := k1.ext2.take true (s.cellTempC cell) s.stamp, ext3 := k1.ext3.take false (s.cellTempC cell) s.stamp } else k1
  have k3 := match s.ctx cell with
    | none => k2
    | some c => if recInvalid head then k2
      else k2.addTo (128 + 16 * s.currentBin (recCurrent head) + socBin c.z) us
  s.putRecBlock cell k3

/-- The string block after a record. -/
def State.recString (s : State) (head : Bytes) (blocks : List Bytes) (us : Nat) : State :=
  if recInvalid head then s
  else
    have i := recCurrent head
    have usable := s.usableVolts blocks
    have k0 := s.recBlock 0
    have k1 := k0.addTo (twentieth (f32Div i s.iRated)) us
    have k2 := if f32Lt 0 i then { k1 with ext0 := k1.ext0.take true i s.stamp }
      else if f32Lt i 0 then { k1 with ext1 := k1.ext1.take true (f32Neg i) s.stamp } else k1
    have zs := s.est.ctxs.map (fun p => p.2.z)
    have k3 := if zs.isEmpty then k2 else k2.addTo (128 + 16 * s.currentBin i + socBin (f32Mean zs)) us
    have k4 := if usable.isEmpty then k3
      else
        have pw := f32Mul i (f32OfRat ((usable.map (·.2)).sum : Int) 10000)
        have fs := f32Mul (f32Mul s.iRated (f32N s.cellCount)) (s.cfgW 10 0 0 0)
        have k := k3.addTo (64 + twentieth (f32Div pw fs)) us
        if f32Lt 0 pw then { k with ext2 := k.ext2.take true pw s.stamp }
        else if f32Lt pw 0 then { k with ext3 := k.ext3.take true (f32Neg pw) s.stamp } else k
    s.putRecBlock 0 k4

/-- Step 16 of Table 3.1: the record's time and extremes (R447); the first record after Boot adds no time. -/
def State.recRecord (s : State) (head : Bytes) (blocks : List Bytes) : State :=
  have us := if s.recorder.started then recPeriod head else 0
  have s1 := s.cells.foldl (fun (t : State) c => t.recCell head blocks us c) s
  have s2 := s1.recString head blocks us
  { s2 with recorder := { s2.recorder with started := true } }

/-! Results (R187, R191). -/

/-- Rewrite the cell result table (Tables 5.12, 5.13). -/
def State.writeResults (s : State) (id : Nat) : State :=
  have flags := b2n s.est.deficient + 2 * b2n s.est.staticOn + 4 * b2n s.est.noAnchor + 8 * b2n s.est.noAnchor +
    16 * b2n (decide (0 < s.unmonitored))
  have words := fun (l : List Word) => l.flatMap (fun w => bytesLE 4 w.toNat)
  have head := bytesLE 2 id ++ bytesLE 2 flags ++ words s.est.limChg ++ words s.est.limDis ++
    s.est.limCell.flatMap (fun c => bytesLE 2 c) ++ s.est.limCause.map (fun c => BitVec.ofNat 8 c) ++
    bytesLE 2 s.anchorHours ++ [0, 0]
  s.putBytes s.cellTable (head ++ ((List.range 768).map (· + 1)).flatMap s.resultEntry)

/-- A value as Q1.23, low bits dropped, saturating. -/
def toQ23 (x : Word) : Word := BitVec.ofNat 32 (wrapInt 24 (satInt 24 (f32FloorScaled x (2 ^ 23) 1)))

/-- The estimator words (R191). -/
def State.writeWords (s : State) (blocks : List Bytes) : State :=
  have scale := s.cfgW 1 6 0 f32One
  have sumV := f32OfRat (((s.usableVolts blocks).map (·.2)).sum : Int) 10000
  have sumO := (s.est.ctxs.map (fun p => s.ocv p.2.z (s.cellTempC p.1) p.2.h)).foldl f32Add 0
  (((s.wr (Reg.CTL_EST 0) (toQ23 (f32Div (s.est.limChg.getD 0 0) s.iRated))).wr (Reg.CTL_EST 1)
    (toQ23 (f32Div (s.est.limDis.getD 0 0) s.iRated))).wr (Reg.CTL_EST 2) (toQ23 (f32Div sumV scale))).wr
    (Reg.CTL_EST 3) (toQ23 (f32Div sumO scale))

/-- The limit table after a record (R176, R236). -/
def State.writeLimits (s : State) : State :=
  have s1 := (List.range 4).foldl (fun (t : State) h =>
    (t.wr (Reg.PCS_LT_CHG h) (s.est.limChg.getD h 0)).wr (Reg.PCS_LT_DIS h) (s.est.limDis.getD h 0)) s
  (s1.wr Reg.PCS_LT_FLAGS (BitVec.ofNat 32 (1 + 2 * b2n s.est.deficient + 4 * b2n s.est.staticOn +
    8 * b2n s.est.noAnchor))).ltCommit

/-! The fast layer completes. -/

/-- Temperatures and usable voltages that a record brings (R158, R178). -/
def State.takeSamples (s : State) (blocks : List Bytes) : State :=
  s.cells.foldl (fun (t : State) c =>
    have p := s.sampleOf blocks c
    { t with est := { t.est with
      temps := match p.temp with
        | some v => tset noTemp t.est.temps c v
        | none => t.est.temps
      volts := if p.usable then tset 0 t.est.volts c p.volt else t.est.volts } }) s

/-- Completion times of the regions (R152): a region above 56 µs in three sweeps in a row overloads its units. -/
def State.fastTimes (s : State) (us : List Nat) : State :=
  (List.range 8).foldl (fun (t : State) r =>
    have v := us.getD r 0
    have n := if 56 < v then satInc (tget 0 t.est.slow r) 3 else 0
    have hosts := (regionUnits (r + 1)).filter (fun u => t.unitLives u && !(t.hostedBy u).isEmpty)
    have new := if n = 3 then hosts.filter (fun u => !(t.est.overloaded.contains u)) else []
    ({ t with est := { t.est with
      slow := tset 0 t.est.slow r (if n = 3 then 0 else n), overloaded := t.est.overloaded ++ new } }).setFld
      (Reg.EST_REGION r) 7 0 (min 255 v)) s

/-- EST_REANCHORED once in a sweep that re-anchors cells (R161). -/
def State.reanchorEvent (s : State) : State :=
  match s.est.ctxs.filter (fun p => p.2.reanchoredAt == some s.monoNs) with
  | [] => s
  | p :: rest => s.strobe Src.EST_REANCHORED (min 255 (rest.length + 1) * 2 ^ 16 + p.1)

/-- Ten minutes have passed since a request. -/
def State.mayAsk (s : State) (at_ : Option Nat) : Bool :=
  match at_ with
  | none => true
  | some t => decide (t + 600 ≤ s.tim.mono.sec)

/-- The impedance layer asks for a band H burst (R170). -/
def State.askBurst (s : State) : State :=
  have moved := s.est.ctxs.any (fun p => decide (p.2.level ≤ 2) && p.2.started && p.2.fitted &&
    f32Lt (f32Mul (f32OfRat 5 100) p.2.rohmFit) (f32Abs (f32Sub p.2.rohm p.2.rohmFit)))
  if moved && s.mayAsk s.est.askedH then
    ({ s with est := { s.est with askedH := some s.tim.mono.sec } }).requestBurst false
  else s

/-- FAST_LAYER_COMPLETE (R133, R160, R176, R187, R191, R447): fastUs gives each region's completion time. -/
def execFastLayerComplete (fastUs : List Nat) (s : State) : Host.Outcome State Fault Refusal := s.whenVamp <|
  match s.est.delivered, s.swp.record with
  | true, some (head, blocks) =>
    have s0 := ({ s with est := { s.est with delivered := false } }).takeSamples blocks
    have s1 := s0.cells.foldl (fun (t : State) c => t.fastCell (recIn head) blocks c) s0
    have s2 := ((s1.wireFindings s0 (recIn head) blocks).fastTimes fastUs).reanchorEvent
    have s3 := (s2.formLimits blocks).showEst
    have s4 := ((s3.writeResults (recId head)).writeLimits).writeWords blocks
    .next (s4.recRecord head blocks).askBurst
  | _, _ => .next s

/-! Impedance. -/

/-- BURST_BINS_DONE (R124, R126, R168): the bins of the band in hand, the marks they make, and the model fits; the
burst is complete. -/
def execBurstBinsDone (s : State) : Host.Outcome State Fault Refusal := s.whenVamp <|
  match s.swp.burst with
  | none => .next s
  | some b =>
    if s.burstState ≠ 5 then .next s
    else
      have s1 := s.cells.foldl (fun (t : State) c => t.binsCell b c) s
      have s2 := s1.cells.foldl State.impedanceMark s1
      have s3 := s2.cells.foldl State.fitCell s2
      have seqDone : Bool := b.band = 2 ∧ s3.swp.inSeq
      have s4 : State := { s3 with est := { s3.est with
        lastSequence := if seqDone then s3.supply.opSeconds else s3.est.lastSequence } }
      .next (s4.burstEnd 0 0)

/-- FULL_SEQUENCE_REQUEST_TIMER (R170): 2 h of operation without an anchor and without a full sequence. -/
def execFullSequenceRequestTimer (s : State) : Host.Outcome State Fault Refusal := s.whenVamp <|
  if s.est.lastAnchor + 7200 ≤ s.supply.opSeconds ∧ s.est.lastSequence + 7200 ≤ s.supply.opSeconds ∧
      s.mayAsk s.est.askedSeq then
    .next (({ s with est := { s.est with askedSeq := some s.tim.mono.sec } }).requestBurst true)
  else .next s

/-! Anchors. -/

/-- The anchor update of a cell (R171): the voltage less va + vb observes OCV, with the variance of both, and moves z and b only.
That b stands in what is observed is DEDUCED: nothing else could move it (assumption 238). -/
def State.anchorUpdate (s : State) (c : Ctx) (p : Sample) (t : Word) : Ctx :=
  have relaxed := f32Add (f32Add (c.p 1 1) (c.p 2 2)) (f32Mul (f32N 2) (c.p 1 2))
  have residual := f32Sub (f32Sub (f32Sub (f32Sub (voltOf p.volt) c.va) c.vb) (s.ocv c.z t c.h)) c.b
  { c.observe [s.ocvSlope c.z t c.h, 0, 0, f32One] residual (f32Add (f32Sq s.sigmaV) relaxed) [0, 3] with
    fullAnchor := decide (c.level ≤ 2) }

/-- A rest anchor of a cell. Its open capacity window closes without an observation and a new one opens (DESIGN CHOICE, assumption
238). -/
def State.anchorCell (s : State) (blocks : List Bytes) (cell : Nat) : State :=
  match s.ctx cell with
  | none => s
  | some c =>
    if !c.started || c.replaying || !s.unitLives c.unit then s
    else
      have p := s.sampleOf blocks cell
      have c1 := if p.usable then s.anchorUpdate c p (s.cellTempC cell) else c
      have e := c1.endPoint
      s.putChecked cell { c1 with window := some (e.1, e.2, 0, s.monoNs) }

/-- REST_ANCHOR (R171, R172): every hosted cell anchors on the record's sample, and a journal write is
triggered. A further anchor waits until the current has reached the threshold. -/
def execRestAnchor (s : State) : Host.Outcome State Fault Refusal := s.whenVamp <|
  match s.est.anchorArmed && s.swp.restSince.isSome, s.swp.record with
  | true, some (_, blocks) =>
    have s1 := s.cells.foldl (fun (t : State) c => t.anchorCell blocks c) s
    have s2 : State := { s1 with est := { s1.est with
      lastAnchor := s1.supply.opSeconds, noAnchor := false, anchorArmed := false, noAnchorH := 0 } }
    .next (s2.journalTrigger 2)
  | _, _ => .next s

/-- NO_ANCHOR_TIMEOUT (R172): at 24 h and at every further 24 h. -/
def execNoAnchorTimeout (s : State) : Host.Outcome State Fault Refusal := s.whenVamp <|
  have h := s.anchorHours
  if h < 24 then .next s
  else .next (({ s with est := { s.est with noAnchor := true, noAnchorH := h } }).strobe Src.EST_NO_ANCHOR h)

/-! Balancing (R178, R179). -/

/-- A cell is eligible for bleeding. -/
def State.mayBleed (s : State) (cell : Nat) : Bool :=
  match s.ctx cell, s.placeOf cell with
  | some c, some (node, _) =>
    s.cfgN 4 12 0 1 != 0 && decide (c.level ≤ 2) && !s.cellSuspect cell &&
      (match s.tth.test with
        | some t => t.1 != node
        | none => true) &&
      f32Lt (s.cellTempC cell) (s.cfgW 4 16 0 0x42340000) && f32Lt s.vOpMin (voltOf (tget 0 s.est.volts cell)) &&
      (s.mode == .run || s.mode == .stop || s.mode == .safe) && !s.drogue
  | _, _ => false

/-- What balancing compares of a cell: (1 - z) Q in top mode, z Q in bottom mode. -/
def Ctx.room (c : Ctx) (top : Bool) : Word :=
  f32Mul (if top then f32Sub f32One c.z else c.z) c.q

/-- The eligible cell with the greatest room (top mode) or the least charge (bottom mode), lowest number first. -/
def balanceEdge (top : Bool) (l : List (Nat × Ctx)) : Option (Nat × Ctx) :=
  l.foldl (fun (b : Option (Nat × Ctx)) p =>
    match b with
    | none => some p
    | some q => if (if top then f32Lt (q.2.room top) (p.2.room top) else f32Lt (p.2.room top) (q.2.room top))
      then some p else some q) none

/-- The duty of an eligible cell against the edge cell, in 0.5 % steps (R179). -/
def State.dutyOf (s : State) (top : Bool) (edge c : Ctx) (cell : Nat) : Nat :=
  have e := if top then f32Sub (edge.room top) (c.room top) else f32Sub (c.room top) (edge.room top)
  have sd := f32Sqrt (f32Add (c.var.getD 0 0) (edge.var.getD 0 0))
  have bound := f32Add (s.cfgW 4 14 0 0x3E99999A) (f32Mul (f32Mul (f32N 2) c.q) sd)
  if f32Lt bound e then
    have i := f32Div (voltOf (tget 0 s.est.volts cell)) (s.cfgW 4 13 0 f32One)
    have d := f32Min f32One (f32Div e (f32Mul i (s.cfgW 4 15 0 0x41000000)))
    clampBin (f32FloorScaled d 200 1) 200
  else 0

/-- Duties of a node's sixteen inputs. -/
def State.nodeDuties (s : State) (top : Bool) (edge : Option (Nat × Ctx)) (node : Nat) : List Nat :=
  ((List.range 16).map (· + 1)).map (fun input =>
    have cell := s.cellOf node input
    match s.ctx cell, edge with
    | some c, some e => if cell ≠ 0 && s.mayBleed cell then s.dutyOf top e.2 c cell else 0
    | _, _ => 0)

/-- BALANCE_COMPUTE (R178, R179): BALANCE_SET with TIMEOUT_S 30 goes to every active node. -/
def execBalanceCompute (s : State) : Host.Outcome State Fault Refusal := s.whenVamp <|
  have top := s.cfgN 4 12 0 1 == 1
  have edge := balanceEdge top (s.est.ctxs.filter (fun (p : Nat × Ctx) => s.mayBleed p.1))
  .next (s.activeNodes.foldl (fun (t : State) n =>
    t.sendNode n 5 ((s.nodeDuties top edge n).map (fun d => BitVec.ofNat 8 d) ++ [30, 0])) s)

/-- A BALANCE_SET reply (R180): APPLIED and DERATE, with the duties of the command that it answers. -/
def State.balanceReply (s : State) (node : Nat) (sent p : Bytes) : State :=
  { s with est := { s.est with
    bleed := s.est.bleed.filter (fun q => q.1 != node) ++
      [(node, fieldLE p 0 2, fieldLE p 2 1, (sent.take 16).map (fun b => b.toNat))] } }

/-! EST commands (R155, Table 4.9). -/

/-- A command ends with an error before it runs. -/
def State.estError (s : State) (code : Nat) : State :=
  (s.setFld Reg.EST_CMD_STAT 15 8 code).flag Reg.EST_CMD_STAT Reg.EST_CMD_COUNT 1

/-- Whether a unit is an idle spare. -/
def State.idleSpare (s : State) (u : Nat) : Bool :=
  decide (u < 288) && s.isSpare u && s.unitLives u && (s.hostedBy u).isEmpty

/-- The error a command meets at its start, 0 for none. Lengths outside their range meet error 0x05. -/
def State.estCheck (s : State) (op : Nat) : Nat :=
  have a0 := s.rd Reg.EST_CMD_ARG0
  have cell := getBits a0 9 0
  have unit := getBits a0 24 16
  have off := getBits a0 15 0
  have len := s.fld Reg.EST_CMD_ARG1 14 0
  match op with
  | 1 => if cell = 0 ∨ s.cellCount < cell then 3 else if (s.ctx cell).isNone then 2 else 0
  | 2 => if 288 ≤ unit || !s.unitLives unit then 4
         else if len < 4 ∨ 16384 < len ∨ len % 4 ≠ 0 ∨ 65536 < off + len then 5 else 0
  | 3 => if s.est.deficient then 6 else 0
  | 5 => if s.idleSpare (getBits a0 8 0) then 0 else 7
  | _ => 0

/-- A write of an opcode to EST.CMD (R155): refused with 0x01 while a command runs. An opcode outside Table 4.9
starts nothing. -/
def State.estCommand (s : State) (op : Nat) : State :=
  if s.bit Reg.EST_CMD_STAT 2 then s.estError 1
  else if op = 0 ∨ 5 < op then s
  else
    have e := s.estCheck op
    if e ≠ 0 then s.estError e
    else
      have s1 := s.setBit Reg.EST_CMD_STAT 2 true
      { s1 with est := { s1.est with running := some op, replanAll := s1.est.replanAll || op == 3 } }

/-- EST_READ_CONTEXT, EST_READ_LOCAL, EST_REPLAN, EST_CHECKPOINT_NOW, EST_SPARE_SELFTEST: the command starts. -/
def execEstReadContext (s : State) : Host.Outcome State Fault Refusal := s.whenVamp <|
  .next (s.estCommand 1)
def execEstReadLocal (s : State) : Host.Outcome State Fault Refusal := s.whenVamp <|
  .next (s.estCommand 2)
def execEstReplan (s : State) : Host.Outcome State Fault Refusal := s.whenVamp <|
  .next (s.estCommand 3)
def execEstCheckpointNow (s : State) : Host.Outcome State Fault Refusal := s.whenVamp <|
  .next (s.estCommand 4)
def execEstSpareSelftest (s : State) : Host.Outcome State Fault Refusal := s.whenVamp <|
  .next (s.estCommand 5)

/-- What a completed command leaves: the bytes it read, checkpoints of every context, a failed spare made suspect. Its arguments
are read again as they stand when it completes (DESIGN CHOICE, assumption 236). -/
def State.estEffect (s : State) (op : Nat) (ok : Bool) : State :=
  have to_ := (s.rd Reg.EST_XFER_BASE).toNat
  have a0 := s.rd Reg.EST_CMD_ARG0
  if op = 1 then
    match s.ctx (getBits a0 9 0) with
    | none => s
    | some c => s.putBytes to_ (c.slotBytes (getBits a0 9 0))
  else if op = 2 then
    (s.putBytes to_ (slice (s.localBytes (getBits a0 24 16)) (getBits a0 15 0) (s.fld Reg.EST_CMD_ARG1 14 0))).drawn
  else if op = 4 then s.est.ctxs.foldl (fun (t : State) p => t.checkpoint p.1) s
  else if op = 5 && !ok then s.suspectUnits [s.fld Reg.EST_CMD_ARG0 8 0] 2 5 0
  else s

/-- EST_COMMAND_DONE (R155): ok is the result of a self-test. The command-channel operation that started the
command completes with EST.CMD_STAT (R366). -/
def execEstCommandDone (ok : Bool) (s : State) : Host.Outcome State Fault Refusal := s.whenVamp <|
  match s.est.running with
  | none => .next s
  | some op =>
    have s1 := ({ s with est := { s.est with running := none } }).estEffect op ok
    have s0 := s1.setBit Reg.EST_CMD_STAT 2 false
    have s2 := (if op = 5 then s0.setFld Reg.EST_CMD_STAT 15 8 (if ok then 0 else 8) else s0).flag
      Reg.EST_CMD_STAT Reg.EST_CMD_COUNT 0
    match s2.cmd.estOp with
    | none => .next s2
    | some o =>
      .next (({ s2 with cmd := { s2.cmd with estOp := none } }).complete o St.OK
        (bytesLE 4 (s2.rd Reg.EST_CMD_STAT).toNat))

end Sys2Proof.Machine
end

