-- ==== Sys2Proof/Machine/Net.lean ====
section
/-!
DEFINITION. Network ports and time bases (chapter 13): Ethernet with PRP, the seven time bases, the
alarms, the disciplining of PLANT and its holdover.
-/

namespace Sys2Proof.Machine

/-! Time bases (R414). -/

/-- One TIME cycle of a base: its increment, in 2^-32 ns, is added with carries. -/
def Stamp.advance (t : Stamp) (inc : Nat) : Stamp :=
  have f := t.frac + inc
  have n := t.ns + f / 2 ^ 32
  { sec := (t.sec + n / 1000000000) % 2 ^ 64, ns := n % 1000000000, frac := f % 2 ^ 32 }

/-- The nominal increment: exactly 4 ns. -/
def nominalInc : Nat := 0x400000000

/-- The servo state (Table 13.6): 0 FREE, 1 ACQUIRING, 2 LOCKED, 3 HOLDOVER. -/
def State.servo (s : State) : Nat := s.fld Reg.TIM_SERVO 31 30

/-- The time bases add their increments (R414, Table 13.4); each CANT runs at CHAIN's (R442, R443). -/
def State.basesCycle (s : State) : State :=
  have t := s.tim
  have chainInc := if s.servo = 0 then nominalInc else t.plantInc
  { s with tim := { t with
      mono := t.mono.advance nominalInc, plant := t.plant.advance t.plantInc,
      chain := t.chain.advance chainInc, cant0 := t.cant0.advance chainInc,
      cant1 := t.cant1.advance chainInc, cant2 := t.cant2.advance chainInc,
      cant3 := t.cant3.advance chainInc } }

/-- One TIME cycle of 4 ns passes: the Sole's own time runs while it is powered; the time bases run, and PWM edges fall due,
while the Vamp's domains run (R31, R200, R414). -/
def State.timeCycle (s : State) : State :=
  if s.mode = .off then s
  else
    have s1 : State := { s with saf := { s.saf with soleNs := s.saf.soleNs + 4 } }
    if s1.vampOn then s1.basesCycle.pwmFire fireLimit else s1

/-- The seven bases in the order of TIM.CAP_SEL: PLANT, MONO, CHAIN, CANT0 to CANT3. -/
def State.bases (s : State) : List Stamp :=
  [s.tim.plant, s.tim.mono, s.tim.chain, s.tim.cant0, s.tim.cant1, s.tim.cant2, s.tim.cant3]

/-- TIM_CAPTURE (R415): all seven bases are latched in one cycle; the bit reads 0. -/
def execTimCapture (s : State) : Host.Outcome State Fault Refusal := s.whenVamp <|
  .next { s with tim := { s.tim with capture := s.bases } }

/-- A capture register (R415): word i of the base that TIM.CAP_SEL selects, 0 for base 7. -/
def State.capWord (s : State) (i : Nat) : Word :=
  match s.tim.capture[s.fld Reg.TIM_CAP_SEL 2 0]? with
  | none => 0
  | some t =>
    match i with
    | 0 => BitVec.ofNat 32 (t.sec / 2 ^ 32)
    | 1 => BitVec.ofNat 32 t.sec
    | 2 => BitVec.ofNat 32 t.ns
    | _ => BitVec.ofNat 32 t.frac

/-! Alarms and the pulse per second. -/

/-- The base an alarm compares: MONO or PLANT (R416). -/
def State.alarmBase (s : State) (k : Nat) : Stamp :=
  if s.bit (Reg.TIM_ALARM_CFG k) 30 then s.tim.plant else s.tim.mono

/-- Nanoseconds by which the base has passed the alarm's target, counted modulo 2^32 s; none when the
target lies ahead (R416). -/
def State.alarmPast (s : State) (k : Nat) : Option Nat :=
  have b := s.alarmBase k
  have ds := (b.sec % 2 ^ 32 + 2 ^ 32 - (s.rd (Reg.TIM_ALARM_S k)).toNat) % 2 ^ 32
  have tn := (s.rd (Reg.TIM_ALARM_NS k)).toNat
  if ds ≥ 2 ^ 31 then none
  else if ds = 0 ∧ b.ns < tn then none
  else some (ds * 1000000000 + b.ns - tn)

/-- Write an alarm's target, ns modulo 2^32 s. -/
def State.setAlarm (s : State) (k ns : Nat) : State :=
  (s.wr (Reg.TIM_ALARM_S k) (BitVec.ofNat 32 (ns / 1000000000))).wr (Reg.TIM_ALARM_NS k)
    (BitVec.ofNat 32 (ns % 1000000000))

/-- Firings of an alarm since it was armed. -/
def State.alarmFired (s : State) (k : Nat) : Nat :=
  if k = 0 then s.tim.alarm0Fired else s.tim.alarm1Fired

/-- Set the firings of an alarm. -/
def State.setAlarmFired (s : State) (k n : Nat) : State :=
  if k = 0 then { s with tim := { s.tim with alarm0Fired := n } }
  else { s with tim := { s.tim with alarm1Fired := n } }

/-- An alarm fires (R416): it strobes with its firings and request line 39 or 40; a one-shot clears
ENABLE; a periodic target advances by one period, or, when PLANT was stepped over it, by whole periods
to the first one after the new time. -/
def State.alarmFire (s : State) (k : Nat) (stepped : Bool) : State :=
  have n := satInc (s.alarmFired k) 0xFFFF
  have s1 := s.setAlarmFired k n
  have s2 := (s1.strobe (Src.TIM_ALARM0 + k) (b2n stepped * 2 ^ 23 + n)).dmaRequest (39 + k)
  have p := (s.rd (Reg.TIM_ALARM_PERIOD k)).toNat
  have target := (s.rd (Reg.TIM_ALARM_S k)).toNat * 1000000000 + (s.rd (Reg.TIM_ALARM_NS k)).toNat
  if p = 0 then s2.setBit (Reg.TIM_ALARM_CFG k) 31 false
  else if stepped then
    match s.alarmPast k with
    | some past => s2.setAlarm k (target + p * (past / p + 1))
    | none => s2
  else s2.setAlarm k (target + p)

/-- A write of an alarm's CFG that sets ENABLE arms it: its firings count from there (Table 13.13). -/
def State.alarmArmed (s : State) (k : Nat) (v : Word) : State :=
  if getBit v 31 && !s.bit (Reg.TIM_ALARM_CFG k) 31 then s.setAlarmFired k 0 else s

/-- TIM_ALARM_FIRE (R416): an armed alarm whose base has reached its target fires. -/
def execTimAlarmFire (k : Nat) (s : State) : Host.Outcome State Fault Refusal := s.whenVamp <|
  if k < 2 ∧ s.bit (Reg.TIM_ALARM_CFG k) 31 then
    match s.alarmPast k with
    | some _ => .next (s.alarmFire k false)
    | none => .next s
  else .next s

/-- PLANT_SECOND (R417): TIM_PPS and request line 38 strobe at each whole PLANT second, and PPS_OUT rises
when enabled, while PLANT is valid or always when ALWAYS is set. -/
def execPlantSecond (s : State) : Host.Outcome State Fault Refusal := s.whenVamp <|
  have s1 := (s.strobe Src.TIM_PPS (b2n s.plantValid * 2 ^ 23 + s.tim.plant.sec % 2 ^ 23)).dmaRequest 38
  have drive := s.bit Reg.TIM_PPS_CFG 31 && (s.plantValid || s.bit Reg.TIM_PPS_CFG 30)
  .next (if drive then { s1 with tim := { s1.tim with ppsOut := true } } else s1)

/-- PPS_PULSE_END (R417): WIDTH_MS after the second, PPS_OUT falls. -/
def execPpsPulseEnd (s : State) : Host.Outcome State Fault Refusal := s.whenVamp <|
  .next { s with tim := { s.tim with ppsOut := false } }

/-! Disciplining PLANT (R418 to R422). -/

/-- VALID_LIMIT_NS in force, default 10,000. -/
def State.validLimit (s : State) : Nat := s.cfgN 7 14 0 10000

/-- SYNC_CLASS_MAX in force, default 6. -/
def State.syncClassMax (s : State) : Nat := s.cfgN 7 13 0 6

/-- Set PLANT valid or not. -/
def State.setValid (s : State) (v : Bool) : State := s.setBit Reg.TIM_STAT 9 v

/-- The mean peer delay of a port. -/
def State.peerDelay (s : State) (port : Nat) : Nat :=
  if port = 0 then s.tim.peerDelayA else s.tim.peerDelayB

/-- The Announce data last received on a port. -/
def State.announceOf (s : State) (port : Nat) : Option Announce :=
  if port = 0 then s.tim.announceA else s.tim.announceB

/-- The data-set comparison of the default best master clock algorithm over Announce data (R419): of one grandmaster by
the steps removed, of two by priority1, class, accuracy, variance, priority2 and identity. -/
def announceBetter (a b : Announce) : Bool :=
  have key := fun (x : Announce) => [x.priority1, x.clockClass, x.accuracy, x.variance, x.priority2, x.gmId]
  if a.gmId = b.gmId then decide (a.steps < b.steps) else decide (key a < key b)

/-- The port on which the best grandmaster is received, port A on a tie. -/
def State.bestPort (s : State) : Option Nat :=
  match s.tim.announceA, s.tim.announceB with
  | none, none => none
  | some _, none => some 0
  | none, some _ => some 1
  | some a, some b => if announceBetter b a then some 1 else some 0

/-- The grandmaster announced on a port is acceptable (Table 13.5). -/
def State.acceptable (s : State) (port : Nat) : Bool :=
  match s.announceOf port with
  | none => false
  | some a => decide (a.clockClass ≤ s.syncClassMax)

/-- The slave port. -/
def State.slavePort (s : State) : Nat := s.fld Reg.TIM_SERVO 29 29

/-- TIM_LOCKED's detail (Table 13.13). -/
def State.lockedDetail (s : State) (entered stepped : Bool) : Nat :=
  b2n entered * 2 ^ 23 + b2n stepped * 2 ^ 22 + s.slavePort * 2 ^ 16 + s.fld Reg.TIM_GM_QUALITY 31 24

/-- Minutes in HOLDOVER, saturating; 0 outside it. -/
def State.holdMinutes (s : State) : Nat :=
  if s.servo = 3 then min 0xFFFF ((s.monoNs - s.tim.hold.atNs) / 60000000000) else 0

/-- The error bound b of R422, ns, at a MONO time: σ_n is 5 × 10^-12, and a doubled σ_T counts twice from its doubling. -/
def Holdover.bound (h : Holdover) (doubled : Bool) (now : Nat) : Nat :=
  have t := now - h.atNs
  have linear := (h.sigmaY + h.sigmaT + 5000) * t + (if doubled then h.sigmaT * (now - h.doubledNs) else 0)
  max h.passed (h.b0 + linear / 10 ^ 15 + h.sigmaA * t * t / (2 * 10 ^ 30))

/-- TIM.HOLD: minutes in HOLDOVER and b in 10 ns units, saturating; 0 outside it. -/
def State.holdWord (s : State) : Nat :=
  if s.servo = 3 then
    s.holdMinutes * 2 ^ 16 + min 0xFFFF (s.tim.hold.bound s.tim.sigmaDoubled s.monoNs / 10)
  else 0

/-- TIM_HOLDOVER's strobe with a cause (Table 13.13). -/
def State.strobeHoldover (s : State) (cause : Nat) : State :=
  s.strobe Src.TIM_HOLDOVER (cause * 2 ^ 21 + s.holdMinutes)

/-- A correction of PLANT's increment: proportional-integral control with gains the spec does not give,
so a free value, limited to 200 ppm either side of nominal (R421); TIM.FREQ shows it. -/
def State.steer (s : State) : State :=
  have r := s.freeWord.toNat % 6871947
  have inc := nominalInc + r - 3435973
  have freq : Int := ((inc : Int) - nominalInc) * 1000000000000 / (2 ^ 34 : Nat)
  ({ s.drawn with tim := { s.tim with plantInc := inc } }).wr Reg.TIM_FREQ
    (BitVec.ofNat 32 (wrapInt 32 freq))

/-- Leave LOCKED: LOCK_LOST and TIM_LOCKED with 0 (Table 13.13). -/
def State.lockLost (s : State) : State :=
  (s.flag Reg.TIM_STAT Reg.TIM_STAT_COUNT 1).strobe Src.TIM_LOCKED (s.lockedDetail false false)

/-- Enter ACQUIRING (Table 13.6); PLANT stays valid only from HOLDOVER with PLANT valid. -/
def State.enterAcquiring (s : State) : State :=
  have fromHold : Bool := s.servo = 3
  have keep := decide fromHold && s.plantValid
  have s1 := if s.servo = 2 then s.lockLost else s
  have s2 := if fromHold then s1.strobeHoldover 3 else s1
  have s3 := (s2.setFld Reg.TIM_SERVO 31 30 1).setFld Reg.TIM_SERVO 15 0 0
  have s4 := s3.setBit Reg.TIM_STAT 8 false
  ({ s4 with tim := { s4.tim with goodOffsets := 0, badOffsets := 0, keepValid := keep,
                                  sigmaDoubled := false } }).setValid keep

/-- A holdover begins now (R422): the deviations of the filtered offset and of the fit are free values, b0 at least the
8 ns that the rule adds. -/
def State.holdFrom (s : State) : State :=
  have word := fun (i : Nat) => (Config.freeValue (s.free + i)).toNat
  have h : Holdover := {
    atNs := s.monoNs
    b0 := word 0 + 8
    sigmaY := word 1
    sigmaT := word 2
    sigmaA := word 3 }
  { s.drawn.drawn.drawn.drawn with tim := { s.tim with hold := h, sigmaDoubled := false } }

/-- Enter HOLDOVER with a cause, from LOCKED or from ACQUIRING after a lock since Boot, with PLANT valid while the error
bound is within VALID_LIMIT_NS; ACQUIRING without a lock falls back to FREE (Table 13.6). The increment follows the model,
whose values are free (R422). -/
def State.loseSource (s : State) (cause : Nat) : State :=
  if s.servo = 2 ∨ (s.servo = 1 ∧ s.tim.lockSeen) then
    have s1 := if s.servo = 2 then s.lockLost else s
    have s2 := (s1.setFld Reg.TIM_SERVO 31 30 3).setFld Reg.TIM_SERVO 15 0 0
    have s3 := s2.holdFrom
    have s4 := s3.setValid (decide (s3.tim.hold.b0 ≤ s3.validLimit))
    have s5 := (s4.flag Reg.TIM_STAT Reg.TIM_STAT_COUNT 2).steer
    s5.strobeHoldover cause
  else if s.servo = 1 then (s.setFld Reg.TIM_SERVO 31 30 0).setValid false
  else s

/-- PLANT is stepped by the negative of an offset (R421): TIM_LOCKED with STEPPED; a forward step over
an armed PLANT alarm's target fires it once (R416). -/
def State.stepPlant (s : State) (offset : Int) : State :=
  have s1 := { s with tim := { s.tim with
    plant := { Stamp.ofNs ((s.tim.plant.total : Int) - offset).toNat with frac := s.tim.plant.frac } } }
  have s2 := (s1.flag Reg.TIM_STAT Reg.TIM_STAT_COUNT 3).strobe Src.TIM_LOCKED (s1.lockedDetail false true)
  if offset < 0 then
    (List.range 2).foldl (fun t k =>
      if s.bit (Reg.TIM_ALARM_CFG k) 31 && s.bit (Reg.TIM_ALARM_CFG k) 30 &&
          (s.alarmPast k).isNone && (t.alarmPast k).isSome then t.alarmFire k true else t) s2
  else s2

/-- The fit of the oscillator model takes one Sync while LOCKED (R422): the temperatures seen widen. -/
def State.fitModel (s : State) : State :=
  have t := signed 16 (s.fld Reg.SYS_TEMP 15 0) / 100
  have lo := if s.rd Reg.TIM_MODEL = 0 then t else min (signed 8 (s.fld Reg.TIM_MODEL 31 24)) t
  have hi := if s.rd Reg.TIM_MODEL = 0 then t else max (signed 8 (s.fld Reg.TIM_MODEL 23 16)) t
  (s.setFld Reg.TIM_MODEL 31 24 (wrapInt 8 lo)).setFld Reg.TIM_MODEL 23 16 (wrapInt 8 hi)

/-- The servo takes one offset (R420, R421). The filtered offset is a free value, its filter not given. -/
def State.servoOffset (s : State) (offset : Int) : State :=
  have s0 := s.wr Reg.TIM_OFFSET (BitVec.ofNat 32 (wrapInt 32 (satInt 32 offset)))
  have s1 := if s0.servo = 0 ∨ s0.servo = 3 then s0.enterAcquiring else s0
  if s1.servo = 1 then
    have keep := s1.tim.keepValid && decide (offset.natAbs ≤ s1.validLimit)
    have s2 := ({ s1 with tim := { s1.tim with keepValid := keep } }).setValid keep
    if offset.natAbs > 100000 then
      have s3 := s2.stepPlant offset
      { s3 with tim := { s3.tim with goodOffsets := 0 } }
    else
      have filtered := signed 32 s2.freeWord.toNat
      have good := if filtered.natAbs ≤ 1000 then s2.tim.goodOffsets + 1 else 0
      have s3 := (s2.drawn).steer
      have s4 := { s3 with tim := { s3.tim with goodOffsets := good } }
      if good ≥ 60 then
        have s5 := (s4.setFld Reg.TIM_SERVO 31 30 2).setValid true
        have s6 := { s5 with tim := { s5.tim with lockSeen := true, badOffsets := 0 } }
        (s6.flag Reg.TIM_STAT Reg.TIM_STAT_COUNT 0).strobe Src.TIM_LOCKED (s6.lockedDetail true false)
      else s4
  else
    have bad := if offset.natAbs > 10000 then s1.tim.badOffsets + 1 else 0
    have s2 := ({ s1 with tim := { s1.tim with badOffsets := bad } }).steer
    if bad ≥ 3 then s2.enterAcquiring else s2.fitModel

/-- PTP_SYNC_RECEIVE (R419 to R421): a Sync of the configured domain, on the slave port or on the port
that takes over after the slave port's announces timed out, from an acceptable grandmaster, yields the
offset PLANT minus the grandmaster's time with its correction, the peer delay and the asymmetry. -/
def execPtpSyncReceive (port domain originNs : Nat) (correctionNs : Int) (rxPlantNs : Nat) (s : State) :
    Host.Outcome State Fault Refusal := s.whenVamp <|
  have takes := (s.announceOf s.slavePort).isNone
  if domain = s.cfgN 7 11 0 0 ∧ port < 2 ∧ s.acceptable port ∧ (port = s.slavePort ∨ takes) then
    have s1 := (s.setFld Reg.TIM_SERVO 29 29 port).wr Reg.TIM_PATH_DELAY (BitVec.ofNat 32 (s.peerDelay port))
    have asym := signed 32 (s.cfgN 7 12 port 0)
    have offset : Int := rxPlantNs - (originNs + correctionNs + s.peerDelay port + asym)
    .next (s1.servoOffset offset)
  else .next s

/-- The registers that show the grandmaster followed (Table 13.12). -/
def State.showGm (s : State) (a : Announce) : State :=
  have s1 := (s.wr Reg.TIM_GM_ID_HI (BitVec.ofNat 32 (a.gmId / 2 ^ 32))).wr Reg.TIM_GM_ID_LO
    (BitVec.ofNat 32 a.gmId)
  have s2 := s1.wr Reg.TIM_GM_QUALITY
    (BitVec.ofNat 32 (a.clockClass % 256 * 2 ^ 24 + a.accuracy % 256 * 2 ^ 16 + a.steps % 2 ^ 16))
  s2.wr Reg.TIM_UTC
    (BitVec.ofNat 32 (b2n a.utcValid * 2 ^ 17 + b2n a.traceable * 2 ^ 16 + a.utcOffset % 2 ^ 16))

/-- The best master clock algorithm over the Announce data of both ports (R419): the port on which the best grandmaster
is received is the slave port; after the slave port's announces timed out, the same grandmaster on the other port moves
the slave port at its next Sync only. A changed grandmaster returns LOCKED to ACQUIRING; a clockClass above SYNC_CLASS_MAX
loses it. -/
def State.selectMaster (s : State) : State :=
  match s.bestPort with
  | none => s
  | some p =>
    match s.announceOf p with
    | none => s
    | some a =>
      have same := s.tim.gm == some a.gmId
      have waits := same && (s.announceOf s.slavePort).isNone
      have s1 := (if waits then s else s.setFld Reg.TIM_SERVO 29 29 p).showGm a
      have s2 : State := { s1 with tim := { s1.tim with gm := some a.gmId } }
      have s3 := if s.tim.gm.isSome && !same && s2.servo == 2 then s2.enterAcquiring else s2
      if a.clockClass ≤ s3.syncClassMax then s3 else s3.loseSource 1

/-- PTP_ANNOUNCE_RECEIVE (R419). -/
def execPtpAnnounceReceive (port domain : Nat) (announce : Announce) (s : State) :
    Host.Outcome State Fault Refusal := s.whenVamp <|
  if domain = s.cfgN 7 11 0 0 ∧ port < 2 then
    have s1 := if port = 0 then { s with tim := { s.tim with announceA := some announce } }
              else { s with tim := { s.tim with announceB := some announce } }
    .next s1.selectMaster
  else .next s

/-- PTP_ANNOUNCE_TIMEOUT (R419, R420): the Announce data of a port lapse; without an acceptable grandmaster left the servo
enters HOLDOVER or FREE, else the algorithm chooses again. -/
def execPtpAnnounceTimeout (port : Nat) (s : State) : Host.Outcome State Fault Refusal := s.whenVamp <|
  have s1 := if port = 0 then { s with tim := { s.tim with announceA := none } }
            else { s with tim := { s.tim with announceB := none } }
  if s1.acceptable 0 || s1.acceptable 1 then .next s1.selectMaster
  else .next (s1.loseSource 2)

/-- PTP_SYNC_TIMEOUT (R420): no accepted Sync for 3 s. -/
def execPtpSyncTimeout (s : State) : Host.Outcome State Fault Refusal := s.whenVamp <|
  .next (s.loseSource 0)

/-- HOLDOVER_BOUND_EXCEEDED (R420, Table 13.6): the error bound passes VALID_LIMIT_NS and PLANT becomes invalid. -/
def execHoldoverBoundExceeded (s : State) : Host.Outcome State Fault Refusal := s.whenVamp <|
  if s.servo = 3 ∧ s.plantValid then
    have h : Holdover := { s.tim.hold with passed := s.validLimit + 1 }
    have s1 : State := { s with tim := { s.tim with hold := h } }
    .next ((s1.setValid false).strobeHoldover 4)
  else .next s

/-- HOLDOVER_TEMP_OUT_OF_RANGE (R422): σ_T is doubled in the bound and TIM_HOLDOVER strobes. -/
def execHoldoverTempOutOfRange (s : State) : Host.Outcome State Fault Refusal := s.whenVamp <|
  if s.servo = 3 ∧ ¬ s.tim.sigmaDoubled then
    have h : Holdover := { s.tim.hold with doubledNs := s.monoNs }
    have s1 : State := { s with tim := { s.tim with hold := h, sigmaDoubled := true } }
    .next ((s1.setBit Reg.TIM_STAT 8 true).strobeHoldover 5)
  else .next s

/-- A package temperature, 0.01 °C, within those seen during the fit, widened by 2 K at each end (R422). -/
def State.learnedTemp (s : State) (t : Int) : Bool :=
  decide (100 * (signed 8 (s.fld Reg.TIM_MODEL 31 24) - 2) ≤ t) && decide (t ≤ 100 * (signed 8 (s.fld Reg.TIM_MODEL 23 16) + 2))

/-- A package temperature is measured: in HOLDOVER the increment follows the model at it, and OUT_OF_RANGE ends inside the
learned range (R422). -/
def State.holdTemp (s : State) (t : Int) : State :=
  if s.servo = 3 then (if s.learnedTemp t then s.setBit Reg.TIM_STAT 8 false else s).steer else s

/-- OSC_MODEL_STORE (R422): every hour while LOCKED, K1 and K2 of the fit, which are free values, are
stored with the device record; LOCK_H and FIT_H count the hour. -/
def execOscModelStore (s : State) : Host.Outcome State Fault Refusal := s.whenVamp <|
  if s.servo = 2 then
    have s1 := { s.insoleStart .config with cfg := { s.cfg with
      k1 := Config.freeValue s.free, k2 := Config.freeValue (s.free + 1), deviceWrite := true } }
    .next ((s1.drawn.drawn.incFld Reg.TIM_SERVO 15 0).incFld Reg.TIM_MODEL 15 0)
  else .next s

/-! Frames. -/

/-- The controller's MAC address (R404). -/
def State.mac (s : State) : Bytes :=
  bytesBE 2 (s.fld Reg.ETH_MAC_HI 15 0) ++ bytesBE 4 (s.rd Reg.ETH_MAC_LO).toNat

/-- The link of a port is up. -/
def State.linkUp (s : State) (port : Nat) : Bool :=
  if port = 0 then s.bit Reg.ETH_PORTA_STAT 31 else s.bit Reg.ETH_PORTB_STAT 31

/-- An Ethernet frame with the configured VLAN tag where it is due (R406). -/
def State.ethFrame (s : State) (dst : Bytes) (etherType : Nat) (tagged : Bool) (payload : Bytes) : Bytes :=
  have vid := s.fld Reg.ETH_CONFIG 11 0
  have tag := if tagged && vid != 0 then
      bytesBE 2 0x8100 ++ bytesBE 2 (s.fld Reg.ETH_CONFIG 25 23 * 0x2000 + vid) else []
  dst ++ s.mac ++ tag ++ bytesBE 2 etherType ++ payload

/-- The redundancy control trailer of a port's copy (R407). The LSDU size counts the bytes after the
addresses and the tag, trailer included (PRESUMED from IEC 62439-3, assumption 12). -/
def rct (seq port size : Nat) : Bytes :=
  bytesBE 2 seq ++ bytesBE 2 ((0xA + port) * 0x1000 + size % 0x1000) ++ bytesBE 2 0x88FB

/-- Send a frame as a PRP pair: a copy with its trailer on each port whose link is up (R407). -/
def State.sendPair (s : State) (frame : Bytes) : State :=
  have size := frame.length - 12 - (if s.fld Reg.ETH_CONFIG 11 0 = 0 then 0 else 4) + 6
  have copy := fun (t : State) (p : Nat) =>
    if t.linkUp p then t.emit (.ethFrame p (frame ++ rct s.eth.prpSeq p size)) else t
  have s1 := copy (copy s 0) 1
  { s1 with eth := { s1.eth with prpSeq := (s.eth.prpSeq + 1) % 0x10000 } }

/-- Send a frame on one port without a trailer (PTP messages, R407). -/
def State.sendOn (s : State) (port : Nat) (frame : Bytes) : State :=
  if s.linkUp port then s.emit (.ethFrame port frame) else s

/-- The PTP port identity of a port: the MAC address as EUI-64, and the port number. -/
def State.portIdentity (s : State) (port : Nat) : Bytes :=
  s.mac.take 3 ++ [0xFF, 0xFE] ++ s.mac.drop 3 ++ bytesBE 2 (port + 1)

/-- A PTP message header with body (IEEE 1588-2019 header, version 2.1). -/
def State.ptpMessage (s : State) (port kind flags seq : Nat) (body : Bytes) : Bytes :=
  bytesBE 1 kind ++ bytesBE 1 0x12 ++ bytesBE 2 (34 + body.length) ++ bytesBE 1 (s.cfgN 7 11 0 0) ++
  bytesBE 1 0 ++ bytesBE 2 flags ++ bytesBE 8 0 ++ bytesBE 4 0 ++ s.portIdentity port ++
  bytesBE 2 seq ++ bytesBE 1 5 ++ bytesBE 1 0x7F ++ body

/-- A PTP timestamp: 48 bits of seconds and 32 bits of nanoseconds. -/
def ptpStamp (t : Stamp) : Bytes := bytesBE 6 t.sec ++ bytesBE 4 t.ns

/-- The address of peer-delay messages (Table 13.5). -/
def pdelayAddr : Bytes := [0x01, 0x80, 0xC2, 0x00, 0x00, 0x0E]

/-- PTP_PDELAY_REQ_SEND (R418, Table 13.5): a Pdelay_Req leaves on each port whose link is up. -/
def execPtpPdelayReqSend (s : State) : Host.Outcome State Fault Refusal := s.whenVamp <|
  have msg := fun (t : State) (p seq : Nat) =>
    t.sendOn p (t.ethFrame pdelayAddr 0x88F7 false (t.ptpMessage p 2 0 seq (zeros 20)))
  have s1 := msg (msg s 0 s.tim.pdelaySeqA) 1 s.tim.pdelaySeqB
  have now := s.tim.plant.total
  .next { s1 with tim := { s1.tim with
    pdelaySeqA := (s.tim.pdelaySeqA + 1) % 0x10000, pdelaySeqB := (s.tim.pdelaySeqB + 1) % 0x10000,
    pdelayT1A := now, pdelayT1B := now } }

/-- PTP_PDELAY_REQ_RECEIVE (R418): answered two-step, always. -/
def execPtpPdelayReqReceive (port seq : Nat) (requester : Bytes) (s : State) :
    Host.Outcome State Fault Refusal := s.whenVamp <|
  have body := ptpStamp s.tim.plant ++ padTo 10 requester
  have s1 := s.sendOn port (s.ethFrame pdelayAddr 0x88F7 false (s.ptpMessage port 3 0x0200 seq body))
  .next (s1.sendOn port (s1.ethFrame pdelayAddr 0x88F7 false (s1.ptpMessage port 0xA 0 seq body)))

/-- PTP_PDELAY_RESP_RECEIVE (R418): the response to the last request updates the port's peer delay:
half of the round trip less the turnaround and the corrections. -/
def execPtpPdelayRespReceive (port seq t2Ns t3Ns : Nat) (correctionNs : Int) (t4Ns : Nat) (s : State) :
    Host.Outcome State Fault Refusal := s.whenVamp <|
  have sent := if port = 0 then s.tim.pdelaySeqA else s.tim.pdelaySeqB
  have t1 := if port = 0 then s.tim.pdelayT1A else s.tim.pdelayT1B
  if port < 2 ∧ (seq + 1) % 0x10000 = sent then
    have d : Int := ((t4Ns : Int) - t1 - ((t3Ns : Int) - t2Ns) - correctionNs) / 2
    have s1 := if port = 0 then { s with tim := { s.tim with peerDelayA := d.toNat } }
              else { s with tim := { s.tim with peerDelayB := d.toNat } }
    .next (if port = s.slavePort then s1.wr Reg.TIM_PATH_DELAY (BitVec.ofNat 32 d.toNat) else s1)
  else .next s

/-! Ethernet ports. -/

/-- The two status registers by port. -/
def ethPortStat (port : Nat) : Nat := if port = 0 then Reg.ETH_PORTA_STAT else Reg.ETH_PORTB_STAT

/-- A LAN is lost (R410). -/
def State.lanLost (s : State) (lan : Nat) : Bool := if lan = 0 then s.eth.lanLostA else s.eth.lanLostB

/-- MONO ns of a LAN's last frame with a valid trailer. -/
def State.lanAt (s : State) (lan : Nat) : Nat := if lan = 0 then s.eth.lanAtA else s.eth.lanAtB

/-- Note a frame of a LAN now. -/
def State.setLanAt (s : State) (lan : Nat) : State :=
  if lan = 0 then { s with eth := { s.eth with lanAtA := s.monoNs } }
  else { s with eth := { s.eth with lanAtB := s.monoNs } }

/-- Declare a LAN lost or recovered: PATH_x_OK follows, a loss sets PATH_LOSS, and each change strobes
ETH_PATH_LOSS (R410). -/
def State.setLan (s : State) (lan : Nat) (lost : Bool) : State :=
  if s.lanLost lan = lost then s
  else
    have s1 := if lan = 0 then { s with eth := { s.eth with lanLostA := lost } }
              else { s with eth := { s.eth with lanLostB := lost } }
    have s2 := s1.setBit Reg.ETH_STAT (8 + lan) (!lost)
    have s3 := if lost then s2.flag Reg.ETH_STAT Reg.ETH_STAT_COUNT 2 else s2
    s3.strobe Src.ETH_PATH_LOSS
      (b2n lost * 2 ^ 23 + lan * 2 ^ 16 + min 0xFFFF ((s.monoNs - s.lanAt lan) / 1000000))

/-- Autonegotiation is in use on a port: always in SGMII, else as configured (Table 13.1). -/
def State.negotiates (s : State) (port : Nat) : Bool :=
  have mode := if port = 0 then s.fld Reg.ETH_CONFIG 31 30 else s.fld Reg.ETH_CONFIG 29 28
  mode == 3 || s.bit Reg.ETH_CONFIG (27 - port)

/-- What the partner's base page allows in a port mode (R402): the speed code with full duplex, none where the link stays
down. Clause 37 shows full duplex in bit 5 and a remote fault in bits 13:12; SGMII link in bit 15, duplex in bit 12 and
speed in bits 11:10 (PRESUMED from IEEE 802.3 and the SGMII specification, assumption 247). -/
def pageSpeed (mode page : Nat) : Option Nat :=
  have bit := fun (i : Nat) => page / 2 ^ i % 2 == 1
  if mode = 3 then
    have v := page / 1024 % 4
    if bit 15 && bit 12 && (v == 1 || v == 2) then some v else none
  else if bit 5 && page / 4096 % 4 == 0 then some (mode + 1)
  else none

/-- The causes of a link that is down (Table 13.13): loss of signal, loss of synchronisation, autonegotiation that runs
again, or a remote fault or refused partner; none where the link is up. -/
def State.linkCause (s : State) (port : Nat) (signal sync : Bool) (page : Option Nat) : Option Nat :=
  have mode := if port = 0 then s.fld Reg.ETH_CONFIG 31 30 else s.fld Reg.ETH_CONFIG 29 28
  if !signal then some 4
  else if !sync then some 1
  else if !s.negotiates port then none
  else match page with
    | none => some 2
    | some p => if (pageSpeed mode p).isSome then none else some 3

/-- The speed code of a port that comes up. -/
def State.linkSpeed (s : State) (port : Nat) (page : Option Nat) : Nat :=
  have mode := if port = 0 then s.fld Reg.ETH_CONFIG 31 30 else s.fld Reg.ETH_CONFIG 29 28
  ((page.bind (pageSpeed mode)).getD (mode + 1)) % 4

/-- ETH_LINK_A or ETH_LINK_B with the link's state and cause (Table 13.13). -/
def State.strobeLink (s : State) (port : Nat) (cause : Option Nat) (speed : Nat) : State :=
  s.strobe (Src.ETH_LINK_A + port)
    (b2n cause.isNone * 2 ^ 23 + (if cause.isNone then speed else 0) * 2 ^ 16 + cause.getD 0)

/-- A port's status as its receiver sees the line: link, speed, autonegotiation complete, and the partner's remote fault. -/
def State.showLink (s : State) (port : Nat) (cause : Option Nat) (page : Option Nat) : State :=
  have r := ethPortStat port
  have mode := if port = 0 then s.fld Reg.ETH_CONFIG 31 30 else s.fld Reg.ETH_CONFIG 29 28
  have complete := s.negotiates port && page.isSome && (cause.isNone || cause == some 3)
  have fault := cause == some 3 && mode != 3 && page.any (fun p => p / 4096 % 4 != 0)
  (((s.setBit r 31 cause.isNone).setFld r 30 29 (if cause.isNone then s.linkSpeed port page else 0)).setBit r 28
    complete).setBit r 27 fault

/-- ETH_LINK_CHANGE (R402, R403): what a port's receiver finds: signal, synchronisation under Clause 36, and the base page
of a complete autonegotiation. The link goes up or down with its flag and event, and a LAN is lost while its link is down; a
partner refused while the link is down is reported with cause 3. A port in mode 0 has its receiver off. -/
def execEthLinkChange (port : Nat) (signal sync : Bool) (page : Option Nat) (s : State) :
    Host.Outcome State Fault Refusal := s.whenVamp <|
  have mode := if port = 0 then s.fld Reg.ETH_CONFIG 31 30 else s.fld Reg.ETH_CONFIG 29 28
  if port < 2 ∧ mode ≠ 0 then
    have cause := s.linkCause port signal sync page
    have speed := s.linkSpeed port page
    have s1 := s.showLink port cause page
    if s.linkUp port = cause.isNone then .next (if cause = some 3 then s1.strobeLink port cause speed else s1)
    else
      have s2 := if cause.isNone then s1 else s1.incFld (ethPortStat port) 15 0
      have s3 := (s2.flag Reg.ETH_STAT Reg.ETH_STAT_COUNT port).strobeLink port cause speed
      .next (if cause.isNone then (s3.setLanAt port).setLan port false else s3.setLan port true)
  else .next s

/-- Count a frame delivered (or transmitted) toward ETH_RX or ETH_TX_DONE, which strobe at most once per
1 ms per port (R425): at once while no hold-off runs, otherwise at its end. -/
def State.ethCount (s : State) (port : Nat) (transmit : Bool) : State :=
  have e := s.eth
  match port, transmit with
  | 0, false => if e.rxHoldA then { s with eth := { e with rxCountA := satInc e.rxCountA 0xFFFF } }
    else ({ s with eth := { e with rxHoldA := true } }).strobe Src.ETH_RX 1
  | 0, true => if e.txHoldA then { s with eth := { e with txCountA := satInc e.txCountA 0xFFFF } }
    else ({ s with eth := { e with txHoldA := true } }).strobe Src.ETH_TX_DONE 1
  | _, false => if e.rxHoldB then { s with eth := { e with rxCountB := satInc e.rxCountB 0xFFFF } }
    else ({ s with eth := { e with rxHoldB := true } }).strobe Src.ETH_RX (0x10000 + 1)
  | _, true => if e.txHoldB then { s with eth := { e with txCountB := satInc e.txCountB 0xFFFF } }
    else ({ s with eth := { e with txHoldB := true } }).strobe Src.ETH_TX_DONE (0x10000 + 1)

/-- ETH_EVENT_HOLDOFF_END (R425): the hold-off ends; with frames counted the source strobes with them and
a new hold-off starts. -/
def execEthEventHoldoffEnd (port : Nat) (transmit : Bool) (s : State) :
    Host.Outcome State Fault Refusal := s.whenVamp <|
  have e := s.eth
  match port, transmit with
  | 0, false => if e.rxCountA = 0 then .next { s with eth := { e with rxHoldA := false } }
    else .next (({ s with eth := { e with rxCountA := 0 } }).strobe Src.ETH_RX e.rxCountA)
  | 0, true => if e.txCountA = 0 then .next { s with eth := { e with txHoldA := false } }
    else .next (({ s with eth := { e with txCountA := 0 } }).strobe Src.ETH_TX_DONE e.txCountA)
  | _, false => if e.rxCountB = 0 then .next { s with eth := { e with rxHoldB := false } }
    else .next (({ s with eth := { e with rxCountB := 0 } }).strobe Src.ETH_RX (0x10000 + e.rxCountB))
  | _, true => if e.txCountB = 0 then .next { s with eth := { e with txHoldB := false } }
    else .next (({ s with eth := { e with txCountB := 0 } }).strobe Src.ETH_TX_DONE (0x10000 + e.txCountB))

/-- Destinations the controller accepts (R405): its own address, broadcast, the two PTP addresses, the
PRP supervision address and its solicited-node multicast addresses. -/
def State.accepts (s : State) (dst : Bytes) : Bool :=
  dst == s.mac || dst == List.replicate 6 0xFF || dst == [0x01, 0x1B, 0x19, 0, 0, 0] ||
  dst == pdelayAddr || dst == [0x01, 0x15, 0x4E, 0x00, 0x01, 0x00] ||
  (dst.take 3 == [0x33, 0x33, 0xFF] &&
    (dst.drop 3 == s.mac.drop 3 || dst.drop 3 == bytesBE 3 ((s.cfgW 7 5 3 0).toNat % 2 ^ 24)))

/-- The duplicate forget time: 400 ms (R409). -/
def forgetNs : Nat := 400000000

/-- Note a source heard on a frame with a trailer: its node-table entry moves to the newest place; with
the table full the entry unheard for longest is replaced (R409). -/
def State.heard (s : State) (src : Nat) : State :=
  have others := s.eth.nodes.filter (fun n => n.1 != src)
  have kept := if others.length ≥ 1024 then others.drop 1 else others
  have gone := if others.length ≥ 1024 then others.take 1 else []
  have s1 := { s with eth := { s.eth with
    nodes := kept ++ [(src, s.monoNs)],
    forget := s.eth.forget.filter (fun f => !(gone.any (fun g => g.1 == f.1))) } }
  s1.setFld Reg.ETH_PRP_NODES 10 0 (kept.length + 1)

/-- The one's complement checksum of Internet headers. -/
def inetSum (bs : Bytes) : Nat :=
  let rec go : Bytes → Nat
    | [] => 0
    | [a] => a.toNat * 256
    | a :: b :: rest => a.toNat * 256 + b.toNat + go rest
  have t := go bs
  have f := t % 0x10000 + t / 0x10000
  0xFFFF - (f % 0x10000 + f / 0x10000)

/-- The controller's IPv4 address. -/
def State.ipv4 (s : State) : Bytes := bytesBE 4 (s.cfgW 7 4 0 0).toNat

/-- Whether one more echo may be answered in this second (R404), with the count taken. -/
def State.echoAllowed (s : State) : Bool :=
  s.eth.echoSec != s.tim.mono.sec || decide (s.eth.echoCount < 10)

/-- Count an answered echo. -/
def State.echoTaken (s : State) : State :=
  { s with eth := { s.eth with
    echoCount := if s.eth.echoSec = s.tim.mono.sec then s.eth.echoCount + 1 else 1,
    echoSec := s.tim.mono.sec } }

/-- The controller's IPv6 addresses: the link-local one formed from the MAC address as a modified EUI-64,
and the static one (R404). -/
def State.ipv6 (s : State) : List Bytes :=
  have m := s.mac
  have eui := bytesBE 1 (Nat.xor (natBE (m.take 1)) 2) ++ slice m 1 2 ++ [0xFF, 0xFE] ++ m.drop 3
  [[0xFE, 0x80] ++ zeros 6 ++ eui,
   bytesBE 4 (s.cfgW 7 5 0 0).toNat ++ bytesBE 4 (s.cfgW 7 5 1 0).toNat ++
   bytesBE 4 (s.cfgW 7 5 2 0).toNat ++ bytesBE 4 (s.cfgW 7 5 3 0).toNat]

/-- Answers of the stack to a delivered frame (R404): ARP requests, ICMP echo requests, IPv6 neighbour
solicitations and ICMPv6 echo requests, echoes at no more than 10 per second. body starts at the
payload after the EtherType. -/
def State.stackAnswer (s : State) (src : Bytes) (etherType : Nat) (body : Bytes) : State :=
  if etherType = 0x0806 then
    if fieldBE body 6 2 = 1 ∧ slice body 24 4 = s.ipv4 then
      s.sendPair (s.ethFrame src 0x0806 true
        (slice body 0 6 ++ bytesBE 2 2 ++ s.mac ++ s.ipv4 ++ slice body 8 10))
    else s
  else if etherType = 0x0800 then
    have hlen := 4 * (fieldBE body 0 1 % 16)
    have total := fieldBE body 2 2
    have icmp := slice body hlen (total - hlen)
    if fieldBE body 9 1 = 1 ∧ slice body 16 4 = s.ipv4 ∧ fieldBE body 6 2 % 0x4000 = 0 ∧
        fieldBE icmp 0 1 = 8 ∧ s.echoAllowed then
      have reply0 := bytesBE 2 0 ++ zeros 2 ++ icmp.drop 4
      have reply := bytesBE 2 0 ++ bytesBE 2 (inetSum reply0) ++ icmp.drop 4
      have head0 := bytesBE 1 0x45 ++ bytesBE 1 0 ++ bytesBE 2 (20 + icmp.length) ++ bytesBE 4 0 ++
        bytesBE 1 64 ++ bytesBE 1 1
      have addrs := s.ipv4 ++ slice body 12 4
      have head := head0 ++ bytesBE 2 (inetSum (head0 ++ zeros 2 ++ addrs)) ++ addrs
      s.echoTaken.sendPair (s.ethFrame src 0x0800 true (head ++ reply))
    else s
  else if etherType = 0x86DD ∧ fieldBE body 6 1 = 58 then
    have icmp := slice body 40 (fieldBE body 4 2)
    have answer := fun (t : State) (me : Bytes) (msg : Bytes) =>
      have pseudo := me ++ slice body 8 16 ++ bytesBE 4 msg.length ++ bytesBE 4 58
      have sum := bytesBE 2 (inetSum (pseudo ++ msg))
      t.sendPair (t.ethFrame src 0x86DD true
        (bytesBE 4 0x60000000 ++ bytesBE 2 msg.length ++ bytesBE 1 58 ++ bytesBE 1 255 ++ me ++
         slice body 8 16 ++ msg.take 2 ++ sum ++ msg.drop 4))
    if fieldBE icmp 0 1 = 128 ∧ s.echoAllowed ∧ s.ipv6.contains (slice body 24 16) then
      answer s.echoTaken (slice body 24 16) ([129, 0, 0, 0] ++ icmp.drop 4)
    else if fieldBE icmp 0 1 = 135 ∧ s.ipv6.contains (slice icmp 8 16) then
      answer s (slice icmp 8 16)
        ([136, 0, 0, 0, 0x60, 0, 0, 0] ++ slice icmp 8 16 ++ [2, 1] ++ s.mac)
    else s
  else s

/-- The stack takes a delivered frame further: no IP fragment (R404), and no UDP datagram whose checksum fails, where an
IPv4 checksum of zero passes (R405). body starts at the payload after the EtherType. -/
def stackKeeps (etherType : Nat) (body : Bytes) : Bool :=
  if etherType = 0x0800 then
    have hlen := 4 * (fieldBE body 0 1 % 16)
    have seg := slice body hlen (fieldBE body 2 2 - hlen)
    have whole := fieldBE body 6 2 % 0x4000 == 0
    have good := fieldBE seg 6 2 == 0 || inetSum (slice body 12 8 ++ bytesBE 2 17 ++ bytesBE 2 seg.length ++ seg) == 0
    whole && (fieldBE body 9 1 != 17 || good)
  else if etherType = 0x86DD then
    have seg := slice body 40 (fieldBE body 4 2)
    have good := fieldBE seg 6 2 != 0 && inetSum (slice body 8 32 ++ bytesBE 4 seg.length ++ bytesBE 4 17 ++ seg) == 0
    fieldBE body 6 1 != 44 && (fieldBE body 6 1 != 17 || good)
  else true

/-- ETH_FRAME_RECEIVE (R405, R406, R409 to R413): check, filter, count and de-duplicate the frame, stamp
it in MONO and PLANT, take a receive descriptor and deliver it. The frame comes beside its FCS, the CRC-32 of IEEE 802.3. -/
def execEthFrameReceive (port : Nat) (frame : Bytes) (fcs : Word) (s : State) :
    Host.Outcome State Fault Refusal := s.whenVamp <|
  have err := if port = 0 then Reg.ETH_RXA_ERR else Reg.ETH_RXB_ERR
  if ¬ (port < 2 ∧ s.linkUp port) then .next s
  else if crc32 frame ≠ fcs then .next (s.incFld err 31 16)
  else if frame.length < 60 ∨ frame.length > 1536 then .next (s.incFld err 15 0)
  else
    have type0 := fieldBE frame 12 2
    have tagged : Bool := type0 = 0x8100
    have tci := if tagged then fieldBE frame 14 2 else 0
    have vid := tci % 0x1000
    have etherType := if tagged then fieldBE frame 16 2 else type0
    have hdr := if tagged then 18 else 14
    have vlanOk : Bool := vid = 0 ∨ vid = s.fld Reg.ETH_CONFIG 11 0
    if ¬ (s.accepts (frame.take 6)) ∨ etherType = 0x8808 ∨ ¬ vlanOk then
      .next (s.incFld Reg.ETH_RX_DROP 31 16)
    else
      have n := frame.length
      have lanId := fieldBE frame (n - 4) 2 / 0x1000
      have hasRct : Bool := fieldBE frame (n - 2) 2 = 0x88FB ∧ (lanId = 0xA ∨ lanId = 0xB)
      have seq := if hasRct then fieldBE frame (n - 6) 2 else 0
      have src := fieldBE frame 6 6
      have wrong : Bool := hasRct ∧ lanId ≠ 0xA + port
      have s1 := if hasRct then (s.heard src).setLanAt (lanId - 0xA) else s
      have s2 := if hasRct ∧ s1.linkUp (lanId - 0xA) then s1.setLan (lanId - 0xA) false else s1
      have s3 := if wrong then
          (if port = 0 then s2.incFld Reg.ETH_PRP_ERR 31 16 else s2.incFld Reg.ETH_PRP_ERR 15 0).flag
            Reg.ETH_STAT Reg.ETH_STAT_COUNT 3 else s2
      have fresh := s3.eth.forget.filter (fun f => decide (s3.monoNs - f.2.2 ≤ forgetNs))
      have isPtp : Bool := etherType = 0x88F7
      if hasRct ∧ ¬ isPtp ∧ fresh.any (fun f => f.1 == src && f.2.1 == seq) then
        .next (({ s3 with eth := { s3.eth with forget := fresh } }).incWrap Reg.ETH_PRP_DUP)
      else
        have own := if port = 0 then s3.eth.rxOwnA else s3.eth.rxOwnB
        if own = 0 then .next (s3.incFld Reg.ETH_RX_DROP 15 0)
        else
          have bare := if hasRct then frame.take (n - 6) else frame
          have rx : EthRx := { rct := hasRct, wrongLan := wrong, ptp := isPtp, vlan := tci, seq := seq,
                               mono := s3.tim.mono, plant := s3.tim.plant, frame := bare,
                               kept := stackKeeps etherType (bare.drop hdr) }
          have s4 := { s3 with eth := { s3.eth with
            forget := if hasRct ∧ ¬ isPtp then fresh ++ [(src, seq, s3.monoNs)] else fresh,
            rxDone := s3.eth.rxDone ++ [rx],
            rxOwnA := if port = 0 then own - 1 else s3.eth.rxOwnA,
            rxOwnB := if port = 0 then s3.eth.rxOwnB else own - 1 } }
          have s5 := (s4.ethCount port false).dmaRequest (32 + port)
          .next (s5.stackAnswer (slice frame 6 6) etherType (bare.drop hdr))

/-- ETH_TX_COMPLETE (R407, R411, R412): the copies of a transmit descriptor leave on the ports whose link
is up, a PAIR with its trailers; the write-back carries the status, the stamps and the sequence. -/
def execEthTxComplete (pair : Bool) (port : Nat) (ts : Bool) (frame : Bytes) (user : Word)
    (underrun : Bool) (s : State) : Host.Outcome State Fault Refusal := s.whenVamp <|
  have status := fun (p : Nat) => if ¬ s.linkUp p then 1 else if underrun then 2 else 0
  have st := if pair then (if status 0 ≠ 0 then status 0 else status 1) else status port
  have fromB := if pair then !s.linkUp 0 else port == 1
  have s1 := if underrun then s else if pair then s.sendPair frame else s.sendOn port frame
  have done : EthTxDone := {
    user := user, status := st, fromB := fromB, seq := if pair then s.eth.prpSeq else 0,
    mono := if ts then s.tim.mono else {}, plant := if ts then s.tim.plant else {} }
  have s2 := { s1 with eth := { s1.eth with txDone := s1.eth.txDone ++ [done] } }
  have ring := if pair then 0 else port
  .next ((s2.ethCount ring true).dmaRequest (34 + ring))

/-- PRP_SUPERVISION_SEND (R408): a supervision frame on both ports. Its body follows IEC 62439-3
(PRESUMED, assumption 12). -/
def execPrpSupervisionSend (s : State) : Host.Outcome State Fault Refusal := s.whenVamp <|
  have body := bytesBE 2 1 ++ bytesBE 2 s.eth.prpSeq ++ [20, 6] ++ s.mac ++ [0, 0]
  .next (s.sendPair (s.ethFrame [0x01, 0x15, 0x4E, 0x00, 0x01, 0x00] 0x88FB true (padTo 46 body)))

/-- PRP_NODE_AGE_OUT (R409): nodes unheard for 60 s leave the node table. -/
def execPrpNodeAgeOut (s : State) : Host.Outcome State Fault Refusal := s.whenVamp <|
  have kept := s.eth.nodes.filter (fun n => decide (s.monoNs - n.2 < 60000000000))
  .next (({ s with eth := { s.eth with nodes := kept } }).setFld Reg.ETH_PRP_NODES 10 0 kept.length)

/-- PRP_PATH_LOSS_TIMEOUT (R410): no frame with a valid trailer of the LAN for PATH_LOSS_MS while such
frames arrived on the other port; the LAN is lost. -/
def execPrpPathLossTimeout (port : Nat) (s : State) : Host.Outcome State Fault Refusal := s.whenVamp <|
  if port < 2 ∧ s.linkUp port ∧ s.lanAt port < s.lanAt (1 - port) then .next (s.setLan port true)
  else .next s

end Sys2Proof.Machine
end

