-- ==== Sys2Proof/Machine/Setup.lean ====
section
/-!
DEFINITION. Configuration images and safety sets as bytes and as items, and every rule by which the controller
refuses one (R10, R165, R278, R347, R401, R428, R435, R467, R499, R500).
-/

namespace Sys2Proof.Machine

/-! Bytes (R500). -/

/-- A run of items as ITEM, COUNT and values; none where it does not end with an item's last value. -/
def parseItems : Nat → Nat → Bytes → Option CfgItems
  | 0, _, _ => none
  | _, _, [] => some []
  | n + 1, sec, bs =>
    have count := fieldLE bs 2 2
    if bs.length < 4 + 4 * count then none
    else
      have vs := (List.range count).map (fun i => BitVec.ofNat 32 (fieldLE bs (4 + 4 * i) 4))
      (parseItems n sec (bs.drop (4 + 4 * count))).map (fun l => (256 * sec + fieldLE bs 0 2, vs) :: l)

/-- The items of a section's bytes. -/
def sectionItems (sec : Nat) (bs : Bytes) : Option CfgItems := parseItems (bs.length / 4 + 1) sec bs

/-- The bytes of an item. -/
def itemBytes (x : Nat × List Word) : Bytes :=
  bytesLE 2 (x.1 % 256) ++ bytesLE 2 x.2.length ++ x.2.flatMap (fun w => bytesLE 4 w.toNat)

/-- A configuration image: CONFIG_SEQ and its items, or none where header, directory or sections do not fit. -/
def parseImage (bs : Bytes) : Option CfgImage :=
  have n := fieldLE bs 6 2
  if fieldBE bs 0 4 ≠ 0x474C5643 ∨ fieldLE bs 4 1 ≠ 1 ∨ fieldLE bs 12 4 ≠ bs.length ∨ bs.length < 36 + 12 * n then none
  else
    have entry := fun k => slice bs (32 + 12 * k) 12
    have secs := (List.range n).map (fun k =>
      have e := entry k
      if bs.length < fieldLE e 4 4 + fieldLE e 8 4 + 4 then none
      else sectionItems (fieldLE e 0 2) (slice bs (fieldLE e 4 4) (fieldLE e 8 4)))
    secs.foldl (fun (a : Option CfgImage) x => match a, x with
      | some i, some l => some { i with items := i.items ++ l }
      | _, _ => none) (some { seq := fieldLE bs 8 4, items := [] })

/-! Items (Tables 17.6, 5.5 to 5.8, 8.6). -/

/-- The range of a value: any; a uint32; a UDP port that may be off; a signed integer; a binary32 over a
denominator. -/
inductive Range where
  | any
  | nat (lo hi : Nat)
  | port
  | int (lo hi : Int)
  | real (lo hi : Int) (den : Nat)
deriving DecidableEq, Repr

/-- A value lies in its range. -/
def inRange_ (r : Range) (w : Word) : Bool :=
  match r with
  | .any => true
  | .nat lo hi => decide (lo ≤ w.toNat) && decide (w.toNat ≤ hi)
  | .port => w == 0 || (decide (1024 ≤ w.toNat) && decide (w.toNat ≤ 65535))
  | .int lo hi => decide (lo ≤ signed 32 w.toNat) && decide (signed 32 w.toNat ≤ hi)
  | .real lo hi den => f32Le (f32OfRat lo den) w && f32Le w (f32OfRat hi den)

/-- An item: its section and number, how many values, their ranges in order (the last for all that follow), and
whether it has no default. -/
structure ItemSpec where
  sec : Nat
  item : Nat
  count : Nat := 1
  ranges : List Range := [.any]
  required : Bool := false
deriving DecidableEq, Repr

/-- Sections 1 and 2. -/
def itemsSystem : List ItemSpec := [
  { sec := 1, item := 0, ranges := [.nat 0 1], required := true },
  { sec := 1, item := 1, ranges := [.nat 0 1], required := true },
  { sec := 1, item := 2, ranges := [.real 1 2000 1], required := true },
  { sec := 1, item := 3, ranges := [.nat 1 768], required := true },
  { sec := 1, item := 4, ranges := [.nat 1 48], required := true },
  { sec := 1, item := 5, count := 768, required := true },
  { sec := 1, item := 6, required := true },
  { sec := 2, item := 0, ranges := [.nat 0 65535] },
  { sec := 2, item := 1, ranges := [.nat 0 200] },
  { sec := 2, item := 2, ranges := [.nat 200 500] },
  { sec := 2, item := 3, ranges := [.nat 5 50] },
  { sec := 2, item := 4, ranges := [.nat 0 7], required := true },
  { sec := 2, item := 5, ranges := [.nat 0 50000], required := true },
  { sec := 2, item := 6, ranges := [.real 1 100 10] },
  { sec := 2, item := 7, ranges := [.nat 0 4] },
  { sec := 2, item := 8, ranges := [.nat 0 65535] },
  { sec := 2, item := 9, ranges := [.nat 0 255] },
  { sec := 2, item := 10, ranges := [.real 2 20 10] },
  { sec := 2, item := 11, ranges := [.nat 0 15] } ]

/-- Section 3: the rows of Table 5.5, then the groups of Table 5.6. -/
def itemsCell : List ItemSpec := [
  { sec := 3, item := 0, ranges := [.real 1 2000 1], required := true },
  { sec := 3, item := 1, count := 202, ranges := [.real 1 5 1], required := true },
  { sec := 3, item := 2, count := 101, ranges := [.real (-1) 1 1] },
  { sec := 3, item := 3, ranges := [.real 5 200 1000] },
  { sec := 3, item := 4, ranges := [.real 990 1000 1000] },
  { sec := 3, item := 5, count := 198, ranges := [.real 1 10000 100], required := true },
  { sec := 3, item := 6, count := 66, ranges := [.real 1 1000 10], required := true },
  { sec := 3, item := 7, count := 66, ranges := [.real 10 10000 1], required := true },
  { sec := 3, item := 8, ranges := [.real 1 5000 100], required := true },
  { sec := 3, item := 9, count := 3, ranges := [.real 5 300 1], required := true },
  { sec := 3, item := 10, count := 2, ranges := [.real 5 5000 100], required := true },
  { sec := 3, item := 11, count := 2, ranges := [.real 1 8 10], required := true },
  { sec := 3, item := 12, count := 3, ranges := [.real 1 8 10], required := true },
  { sec := 3, item := 13, count := 2, ranges := [.real 1000 100000 1], required := true },
  { sec := 3, item := 14, count := 4, ranges := [.real 0 1 1], required := true },
  { sec := 3, item := 15, count := 2, ranges := [.real 1 1000000 (10 ^ 17)], required := true },
  { sec := 3, item := 16, count := 2, ranges := [.real 1 100000 (10 ^ 13)], required := true },
  { sec := 3, item := 17, count := 5, ranges := [.real 0 100 1], required := true },
  { sec := 3, item := 18, count := 3, ranges := [.real 500 2000 1, .real 1 1000 (10 ^ 11), .real 2 6 10], required := true },
  { sec := 3, item := 19, ranges := [.real 1 50 10], required := true },
  { sec := 3, item := 20, count := 202, ranges := [.real 0 5 1], required := true },
  { sec := 3, item := 21, count := 2, ranges := [.real 1 100 100], required := true },
  { sec := 3, item := 22, ranges := [.real 0 1 10], required := true },
  { sec := 3, item := 23, count := 3, ranges := [.real 10 20000 1, .real 1 5000 100], required := true } ]

/-- Section 4: the rows of Table 5.7, then those of Table 5.8. -/
def itemsEst : List ItemSpec := [
  { sec := 4, item := 0, count := 2, required := true },
  { sec := 4, item := 1, count := 2, required := true },
  { sec := 4, item := 2, count := 2, required := true },
  { sec := 4, item := 3, count := 2, ranges := [.real 50 100 100, .real 0 50 100] },
  { sec := 4, item := 4, ranges := [.real 0 200 1] },
  { sec := 4, item := 5, count := 2, ranges := [.real 0 2000 1] },
  { sec := 4, item := 6, ranges := [.real 0 4 1] },
  { sec := 4, item := 7, ranges := [.real 50 100 100] },
  { sec := 4, item := 8, ranges := [.real 1 200 10] },
  { sec := 4, item := 9, ranges := [.real 5 500 100] },
  { sec := 4, item := 10, ranges := [.real 1 16 1] },
  { sec := 4, item := 11, ranges := [.nat 5 240] },
  { sec := 4, item := 12, ranges := [.nat 0 2] },
  { sec := 4, item := 13, ranges := [.real 5 1000 1], required := true },
  { sec := 4, item := 14, ranges := [.real 0 10 1] },
  { sec := 4, item := 15, ranges := [.real 1 48 1] },
  { sec := 4, item := 16, ranges := [.real 0 70 1] },
  { sec := 4, item := 17, count := 768, ranges := [.nat 1 4] },
  { sec := 4, item := 18, count := 8, ranges := [.real (-40) 85 1], required := true },
  { sec := 4, item := 19, count := 16, required := true },
  { sec := 4, item := 20, count := 8, required := true },
  { sec := 4, item := 21, count := 8, required := true } ]

/-- Sections 5 and 6; REG_IMAGE has any even number of values. -/
def itemsControl : List ItemSpec := [
  { sec := 5, item := 0, count := 8 },
  { sec := 5, item := 1, ranges := [.nat 0 0xFFFFFF], required := true },
  { sec := 5, item := 2, ranges := [.nat 0 0xFFFFFF] },
  { sec := 6, item := 0, ranges := [.nat 1 100] },
  { sec := 6, item := 1, ranges := [.nat 192 448] },
  { sec := 6, item := 2, ranges := [.nat 0 2000], required := true },
  { sec := 6, item := 3, ranges := [.nat 0 2] } ]

/-- Sections 7 and 9. -/
def itemsNet : List ItemSpec := [
  { sec := 7, item := 0, ranges := [.nat 0 3], required := true },
  { sec := 7, item := 1, ranges := [.nat 0 3], required := true },
  { sec := 7, item := 2, ranges := [.nat 0 1], required := true },
  { sec := 7, item := 3, ranges := [.nat 0 1], required := true },
  { sec := 7, item := 4, count := 3, required := true },
  { sec := 7, item := 5, count := 9, required := true },
  { sec := 7, item := 6, ranges := [.nat 0 4094] },
  { sec := 7, item := 7, ranges := [.nat 0 7] },
  { sec := 7, item := 8, ranges := [.nat 100 60000] },
  { sec := 7, item := 9, ranges := [.nat 0 1000], required := true },
  { sec := 7, item := 10, ranges := [.nat 0 1000], required := true },
  { sec := 7, item := 11, ranges := [.nat 0 255] },
  { sec := 7, item := 12, count := 2, ranges := [.int (-10000) 10000], required := true },
  { sec := 7, item := 13, ranges := [.nat 6 7] },
  { sec := 7, item := 14, ranges := [.nat 1000 1000000] },
  { sec := 7, item := 15, ranges := [.port] },
  { sec := 7, item := 16, ranges := [.nat 10 3600] },
  { sec := 7, item := 17, ranges := [.nat 1024 65535] },
  { sec := 7, item := 18, ranges := [.nat 1024 65535] },
  { sec := 9, item := 0, ranges := [.nat 5 240] },
  { sec := 9, item := 1, ranges := [.nat 0 60] },
  { sec := 9, item := 2, ranges := [.nat 5 240] } ]

/-- Section 8: for each controller MODE, NBT, DBT, TDC, WAKE_ID, WAKE_MASK, TT_CFG, TT_PERIOD, the eight BUFb_CFG, the 64
FLTf_ID and the 64 FLTf_MASK; their defaults are the registers' reset values (assumption 53). -/
def itemsCan (n : Nat) : List ItemSpec :=
  (List.range 11).map (fun j =>
    { sec := 8, item := 11 * n + j, count := if j < 8 then 1 else if j = 8 then 8 else 64,
      ranges := [if j = 7 then .nat 100000 1000000000 else .any] })

/-- Section 10: the rows of Table 8.6, then the Welt connections and mappings (assumption 54). -/
def itemsSafety : List ItemSpec := [
  { sec := 10, item := 0, count := 2, ranges := [.real 2 5 1, .real 1 4 1], required := true },
  { sec := 10, item := 1, count := 2, ranges := [.real 0 100 1, .real (-40) 20 1], required := true },
  { sec := 10, item := 2, ranges := [.nat 1 8] },
  { sec := 10, item := 3, ranges := [.nat 1 255] },
  { sec := 10, item := 4, ranges := [.nat 10 5000] },
  { sec := 10, item := 5, ranges := [.real 1 2000 1], required := true },
  { sec := 10, item := 6, count := 6, ranges := [.nat 0 7, .nat 0 7, .any], required := true },
  { sec := 10, item := 7, count := 3, ranges := [.any, .any, .nat 0 3], required := true },
  { sec := 10, item := 8, count := 2 },
  { sec := 10, item := 9, ranges := [.nat 1 10000] },
  { sec := 10, item := 10, ranges := [.real 1 20 1] },
  { sec := 10, item := 11, required := true },
  { sec := 10, item := 12, ranges := [.nat 10 2000] },
  { sec := 10, item := 13, ranges := [.real 5 1200 10] },
  { sec := 10, item := 14, ranges := [.nat 1 600] },
  { sec := 10, item := 15, count := 2, ranges := [.nat 100 1000, .nat 20 200] },
  { sec := 10, item := 16, ranges := [.nat 10 500] },
  { sec := 10, item := 17, count := 64 },
  { sec := 10, item := 18, ranges := [.nat 0 1] },
  { sec := 10, item := 20, ranges := [.nat 0 7] } ] ++
  (List.range 32).map (fun c => { sec := 10, item := 21 + c, count := 24 }) ++
  (List.range 16).map (fun i => { sec := 10, item := 53 + i })

/-- The items of a configuration image. -/
def itemSpecs : List ItemSpec :=
  itemsSystem ++ itemsCell ++ itemsEst ++ itemsControl ++ itemsNet ++ itemsCan 0 ++ itemsCan 1 ++ itemsCan 2 ++ itemsCan 3

/-- The specification of an item. -/
def specOf (l : List ItemSpec) (key : Nat) : Option ItemSpec :=
  l.find? (fun x => 256 * x.sec + x.item == key)

/-- A refusal: section, item and reason (Table 17.15). -/
structure Refused where
  sec : Nat
  item : Nat
  reason : Nat
deriving DecidableEq, Repr

/-- An item is known and has the right number of values. -/
def itemKnown (l : List ItemSpec) (x : Nat × List Word) : Bool :=
  if x.1 = 256 * 5 + 3 then x.2.length % 2 == 0
  else match specOf l x.1 with
    | none => false
    | some sp => x.2.length == sp.count

/-- Every value of an item lies in its range. -/
def itemInRange (l : List ItemSpec) (x : Nat × List Word) : Bool :=
  match specOf l x.1 with
  | none => true
  | some sp => (List.range x.2.length).all (fun i =>
      inRange_ (sp.ranges.getD i (sp.ranges.getLastD .any)) (x.2.getD i 0))

/-- The first refusal by unknown item or COUNT (5), missing item (6) or range (1). -/
def itemsRefusal (l : List ItemSpec) (items : CfgItems) : Option Refused :=
  match items.find? (fun x => !itemKnown l x) with
  | some x => some ⟨x.1 / 256, x.1 % 256, 5⟩
  | none =>
    match l.find? (fun sp => sp.required && !items.any (fun x => x.1 == 256 * sp.sec + sp.item)) with
    | some sp => some ⟨sp.sec, sp.item, 6⟩
    | none => (items.find? (fun x => !itemInRange l x)).map (fun x => ⟨x.1 / 256, x.1 % 256, 1⟩)

/-! Rules that relate values (reason 2). -/

/-- Strictly ascending values. -/
def ascending : List Word → Bool
  | a :: b :: rest => f32Lt a b && ascending (b :: rest)
  | _ => true

/-- A value of a curve of 101 points at x from 0 to 1. -/
def curveAt (pts : List Word) (x : Word) : Word :=
  interp ((List.range 101).map (fun i => f32OfRat i 100)) pts x

/-- The full model's open-circuit voltage at SoC k % (R165): stoichiometries move linearly from 0 % to 100 % SoC
(assumption 55). -/
def modelOcv (stoich ocp : List Word) (k : Nat) : Word :=
  have z := f32OfRat k 100
  have at_ := fun i => lerp (stoich.getD i 0) (stoich.getD (i + 1) 0) z
  f32Sub (curveAt (ocp.drop 101) (at_ 2)) (curveAt (ocp.take 101) (at_ 0))

/-- The breaches of R165, each with its first item. -/
def estBreaches (s : State) : List (Nat × Bool) :=
  have ocv := fun b i => s.ocvPoint b i
  have pts := List.range 101
  have steps := List.range 100
  have safe := s.cfg.safety.isSome
  have v := fun sec item idx => s.cfgW sec item idx 0
  have inside := fun (w : Word) => f32Le (v 10 1 1) w && f32Le w (v 10 1 0)
  have out := fun item => !inside (v 4 item 0) || !inside (v 4 item 1)
  have chg := s.cfgList 4 19 0 8 ++ s.cfgList 4 20 4 4
  have dis := s.cfgList 4 19 8 8 ++ s.cfgList 4 21 4 4
  [ (256 * 1 + 2, f32Lt s.iRated s.iChgMax || f32Lt s.iRated s.iDisMax || (chg ++ dis).any (fun w => f32Lt s.iRated w)),
    (256 * 3 + 1, [0, 1].any (fun b => steps.any (fun i => f32Lt (ocv b (i + 1)) (ocv b i))) ||
      pts.any (fun i => f32Lt (ocv 0 i) (ocv 1 i)) ||
      pts.any (fun i => f32Lt (f32OfRat 2 100) (f32Abs (f32Sub (modelOcv (s.cfgList 3 14 0 4) (s.cfgList 3 20 0 202) i)
        (f32Div (f32Add (ocv 0 i) (ocv 1 i)) (f32N 2)))))),
    (256 * 3 + 6, (List.range 66).any (fun i => !f32Lt (f32Mul (f32N 5) (v 3 6 i)) (v 3 7 i))),
    (256 * 4 + 0, (safe && (!f32Lt s.vOpMax (v 10 0 0) || !f32Lt (v 10 0 1) s.vOpMin)) ||
      f32Lt (f32OfRat 2 10) (f32Div s.vOpMax (v 4 13 0))),
    (256 * 4 + 1, safe && out 1), (256 * 4 + 2, safe && out 2),
    (256 * 4 + 5, chg.any (fun w => f32Lt s.iChgMax w) || dis.any (fun w => f32Lt s.iDisMax w)),
    (256 * 4 + 18, !ascending (s.cfgList 4 18 0 8)), (256 * 4 + 20, !ascending (s.cfgList 4 20 0 4)),
    (256 * 4 + 21, !ascending (s.cfgList 4 21 0 4)) ]

/-- The breaches of R10: cell numbers assigned zero times or twice, above the count, or beyond NODE_COUNT. -/
def mapBreaches (s : State) : List (Nat × Bool) :=
  have n := s.cfgN 1 3 0 0
  have nodes := s.cfgN 1 4 0 0
  have map_ := (s.cfgVals 1 5).getD []
  have used := (map_.map (fun w => w.toNat)).filter (· != 0)
  [ (256 * 1 + 3, !decide used.Nodup || used.any (fun c => decide (n < c)) || decide ((used.filter (fun c => decide (c ≤ n))).length ≠ n)),
    (256 * 1 + 4, (map_.drop (16 * nodes)).any (fun w => w != 0)) ]

/-- A CAN register as an image gives it. -/
def State.canItem (s : State) (n j idx : Nat) (reg : Nat) : Word := s.cfgW 8 (11 * n + j) idx (regReset reg)

/-- The breaches of R428 and R435 of one controller. -/
def canBreaches (s : State) (n : Nat) : List (Nat × Bool) :=
  have mode := s.canItem n 0 0 (Reg.CAN_MODE n)
  have nbt := s.canItem n 1 0 (Reg.CAN_NBT n)
  have dbt := s.canItem n 2 0 (Reg.CAN_DBT n)
  have tdc := s.canItem n 3 0 (Reg.CAN_TDC n)
  have nom := (3 + getBits nbt 23 16 + getBits nbt 14 8) * (1 + getBits nbt 31 24)
  have dat := (3 + getBits dbt 20 16 + getBits dbt 11 8) * (1 + getBits dbt 28 24)
  have key := fun j => 256 * 8 + 11 * n + j
  have welt := ((List.range 32).filter (fun c => (s.cfgW 10 (21 + c) 0 0).toNat / 2 ^ 27 % 32 == 20 + n ||
    (s.cfgW 10 (21 + c) 0 0).toNat / 2 ^ 27 % 32 == 28 + n)).length
  have bufs := ((s.cfgVals 8 (11 * n + 8)).getD []).countP (fun w => getBit w 31)
  have flts := ((s.cfgVals 8 (11 * n + 10)).getD []).countP (fun w => getBit w 31)
  have stations := match s.program with
    | none => 0
    | some p => (p.stations.filter (fun (x : Nat × StationDef) => x.2.carrier == n)).length
  [ (key 0, getBit mode 29 && decide (dat < 80) && !getBit tdc 31),
    (key 1, decide (nom < 80) || decide (getBits nbt 14 8 < getBits nbt 6 0) || decide (nom < dat)),
    (key 2, decide (dat < 10) || decide (getBits dbt 11 8 < getBits dbt 3 0)),
    (key 8, decide (8 < welt + bufs)), (key 9, decide (64 < stations + flts)) ]

/-- The breaches of R347, R401 and R467. -/
def netBreaches (s : State) : List (Nat × Bool) :=
  have cmd := s.cfgN 7 15 0 0
  have welt := s.cfgN 7 17 0 38811
  have st := s.cfgN 7 18 0 38812
  have modeA := s.cfgN 7 0 0 0
  have modeB := s.cfgN 7 1 0 0
  have compat := s.cfgN 1 0 0 0 == 1
  [ (256 * 1 + 0, compat && (s.cfgN 1 1 0 0 == 1 || modeA == 0 || modeB == 0)),
    (256 * 7 + 0, modeA == 0 && modeB == 0),
    (256 * 7 + 15, cmd == 38810 || (cmd != 0 && (cmd == welt || cmd == st))),
    (256 * 7 + 17, welt == 38810 || welt == st), (256 * 7 + 18, st == 38810) ]

/-- The first breach in section order. -/
def firstBreach (l : List (Nat × Bool)) : Option Refused :=
  have keys := (l.filter (·.2)).map (·.1)
  (keys.head?).map (fun k =>
    have m := keys.foldl min k
    ⟨m / 256, m % 256, 2⟩)

/-- What a configuration's items and the stored safety set's would be in force together. -/
def State.withItems (s : State) (items : CfgItems) : State :=
  have safe := (s.cfg.safety.map (·.items)).getD []
  { s with cfg := { s.cfg with items := items.filter (fun x => x.1 / 256 != 10) ++ safe } }

/-- Whether the controller refuses a configuration (R500). -/
def State.configRefusal (s : State) (items : CfgItems) : Option Refused :=
  have own := items.filter (fun x => x.1 / 256 != 10)
  match itemsRefusal itemSpecs own with
  | some r => some r
  | none =>
    have t := s.withItems items
    firstBreach (netBreaches t ++ mapBreaches t ++ estBreaches t ++ (List.range 4).flatMap (canBreaches t))

/-! Safety sets (R278). -/

/-- W suits every version a connection enables: whole ms for version 1, whole 100 µs for version 2, in range (R289). -/
def weltWOk (cfg time : Word) : Bool :=
  have us := getBits time 31 16 * (if getBit cfg 4 then 1000 else 100)
  (!getBit cfg 25 || (us % 1000 == 0 && decide (2000 ≤ us) && decide (us ≤ 65535000))) &&
    (!getBit cfg 26 || (decide (500 ≤ us) && decide (us ≤ 6553500)))

/-- A Welt connection's parameters suit its carrier and every version it enables (Table 9.2, R289, R306, R307). -/
def weltItemOk (vs : List Word) : Bool :=
  have cfg := vs.getD 0 0
  have time := vs.getD 1 0
  have len := getBits cfg 15 8
  !getBit cfg 31 ||
    (getBits cfg 26 25 != 0 && decide (len ≤ if getBit cfg 25 then 32 else 64) && (!getBit cfg 29 || decide (len ≤ 53)) &&
      weltWOk cfg time && (!getBit cfg 30 || (decide (16 ≤ len) && decide (1 ≤ getBits time 15 0) &&
        decide (getBits time 15 0 ≤ 4000))))

/-- A virtual input's mapping (R297): to a consumer's byte within LEN, with the demand level in the fail-safe pattern. -/
def State.mapOk (s : State) (i : Nat) : Bool :=
  have m := s.cfgW 10 (53 + i) 0 0
  have w := fun k => s.cfgW 10 (21 + getBits m 28 24) k 0
  have byte := getBits m 21 16
  !getBit m 31 ||
    (!getBit (w 0) 30 && decide (byte < getBits (w 0) 15 8) &&
      getBit (w (8 + byte / 4)) (8 * (byte % 4) + getBits m 2 0) == getBit m 29)

/-- Two Ethernet connections with one remote address and TAG. -/
def weltClash (items : CfgItems) : Bool :=
  have eth := items.filter (fun x => decide (256 * 10 + 21 ≤ x.1) && decide (x.1 < 256 * 10 + 53) &&
    getBit (x.2.getD 0 0) 31 && !getBit (x.2.getD 0 0) 29)
  eth.any (fun a => eth.any (fun b => decide (a.1 < b.1) && slice4 a.2 == slice4 b.2 &&
    getBits (a.2.getD 0 0) 23 16 == getBits (b.2.getD 0 0) 23 16))
where
  slice4 (l : List Word) : List Word := (l.drop 4).take 4

/-- Inputs with a type, function, F and DISC_TICKS that Table 8.6 and R267 allow. -/
def inputsOk (vs : List Word) : Bool :=
  (List.range 16).all (fun n =>
    have g := fun i => (vs.getD (4 * n + i) 0).toNat
    decide (g 0 ≤ 2) && decide (g 1 ≤ 6) && decide (g 2 ≤ 255) && decide (1000 ≤ g 3) && decide (g 3 ≤ 200000))

/-- Whether a safety set is refused (R278): its ranges, its rules, or a difference from the image in force. -/
def State.safetyRefusal (s : State) (items : CfgItems) : Bool :=
  have t : State := { s with cfg := { s.cfg with items := s.cfg.items.filter (fun x => x.1 / 256 != 10) ++ items } }
  have v := fun item idx => t.cfgW 10 item idx 0
  have rated := v 5 0
  have slow := fun idx => t.cfgW 10 8 idx (f32Div (f32Mul rated (f32N 11)) (f32N 10))
  have full := fun (w : Word) => f32Le 0 w && f32Le w (f32Abs (f32Mul (v 6 4) (f32N 8192)))
  (itemsRefusal itemsSafety items).isSome || !f32Lt (v 0 1) (v 0 0) || !f32Lt (v 1 1) (v 1 0) || v 6 0 == v 6 1 ||
    rated != s.iRated || (v 6 0).toNat != s.cfgN 2 4 0 0 ||
    [0, 1].any (fun i => !f32Le 0 (slow i) || f32Lt (f32Mul rated (f32N 2)) (slow i)) ||
    !f32Le 0 (v 11 0) || f32Lt (f32Mul rated (f32N 10)) (v 11 0) || !full (v 7 0) || !full (v 7 1) ||
    (match t.cfgVals 10 17 with
      | none => false
      | some vs => !inputsOk vs) ||
    (List.range 32).any (fun c => !weltItemOk ((t.cfgVals 10 (21 + c)).getD [])) || weltClash items ||
    (List.range 16).any (fun i => !t.mapOk i) ||
    (List.range 4).any (fun n => (canBreaches t n).any (fun x => x.2 && x.1 == 256 * 8 + 11 * n + 8))

end Sys2Proof.Machine
end

