-- ==== Sys2Proof/Machine/Tether.lean ====
section
/-!
DEFINITION. The Tether chain (R47 to R92): heartbeat slots and their loss, the alarm tone, frames and replies,
breaks and routing, enumeration, calibration and the open-wire test. Ports: 0 is A, 1 is B.
-/

namespace Sys2Proof.Machine

/-- A port exists. -/
def isPort (port : Nat) : Bool := decide (port < 2)

/-- Registers of a port. -/
def portStat (port : Nat) : Nat := if port = 0 then Reg.TTH_PORTA_STAT else Reg.TTH_PORTB_STAT
def portCount (port : Nat) : Nat := if port = 0 then Reg.TTH_PORTA_COUNT else Reg.TTH_PORTB_COUNT
def portErr (port : Nat) : Nat := if port = 0 then Reg.TTH_ERR_A else Reg.TTH_ERR_B

/-- A port's receive pair, as the port logic and as the Sole tap see it. -/
def State.rxPair (s : State) (port : Nat) : RxPair := if port = 0 then s.tth.portA else s.tth.portB
def State.tapPair (s : State) (port : Nat) : RxPair := if port = 0 then s.tth.tapA else s.tth.tapB
def State.setRxPair (s : State) (port : Nat) (p : RxPair) : State :=
  { s with tth := if port = 0 then { s.tth with portA := p } else { s.tth with portB := p } }
def State.setTapPair (s : State) (port : Nat) (p : RxPair) : State :=
  { s with tth := if port = 0 then { s.tth with tapA := p } else { s.tth with tapB := p } }

/-- Slot kinds as TTH_PORTx_HB_LOST reports them. -/
def slotCode : SlotKind → Nat
  | .hb => 0
  | .rhb => 1
  | .alarm => 2

/-! Ring state (TTH.RING). -/

/-- TTH.RING.STATE and UNREACHABLE. -/
def State.showRing (s : State) : State :=
  have lost := (s.nodeList.filter (fun n => s.nodeState n == 3)).length
  have st := if s.tth.enumerating then 3 else if lost ≠ 0 then 2 else b2n s.tth.broken
  (s.setFld Reg.TTH_RING 1 0 st).setFld Reg.TTH_RING 29 24 lost

/-- One bit of a node mask held in two registers. -/
def State.setMask (s : State) (r0 r1 n : Nat) (v : Bool) : State :=
  if n = 0 ∨ 48 < n then s else if n ≤ 32 then s.setBit r0 (n - 1) v else s.setBit r1 (n - 33) v

/-- A node's reachability from a port (TTH.REACH_A, TTH.REACH_B). -/
def State.setReach (s : State) (port n : Nat) (v : Bool) : State :=
  if port = 0 then s.setMask Reg.TTH_REACH_A0 Reg.TTH_REACH_A1 n v else s.setMask Reg.TTH_REACH_B0 Reg.TTH_REACH_B1 n v
def State.reaches (s : State) (port n : Nat) : Bool :=
  have lo := if port = 0 then Reg.TTH_REACH_A0 else Reg.TTH_REACH_B0
  have hi := if port = 0 then Reg.TTH_REACH_A1 else Reg.TTH_REACH_B1
  if n = 0 ∨ 48 < n then false else if n ≤ 32 then s.bit lo (n - 1) else s.bit hi (n - 33)

/-! Slots (R54 to R59). -/

/-- RHB slots arrive at a port: the ring is broken now. -/
def State.relayNow (s : State) : Bool := s.bit Reg.TTH_PORTA_STAT 10 || s.bit Reg.TTH_PORTB_STAT 10

/-- The rollcalls that locate a break (R87), unless they are under way or a full enumeration runs. -/
def State.locateBreak (s : State) : State :=
  if s.tth.locating || (s.tth.enumerating && !s.tth.heal) then s
  else ({ s with tth := { s.tth with locating := true } } : State).rollcall

/-- A relay slot arrives (R87): RELAY_SEEN and TTH_BREAK. Where relaying begins at a port, rollcalls locate the break; the
loop times read 0 while the ring is broken. -/
def State.relaySeen (s : State) (port : Nat) (first : Bool) : State :=
  have s1 := (s.flag (portStat port) (portCount port) 1).wr Reg.TTH_LOOP 0
  have s2 := ({ s1 with tth := { s1.tth with broken := true } }).showRing
  have seen := b2n (s2.bit Reg.TTH_PORTA_STAT 10) * 2 ^ 17 + b2n (s2.bit Reg.TTH_PORTB_STAT 10) * 2 ^ 16
  have s3 := s2.strobe Src.TTH_BREAK (seen + s2.fld Reg.TTH_RING 21 16 * 2 ^ 8 + s2.fld Reg.TTH_RING 13 8)
  if first || !s.tth.broken then s3.locateBreak else s3

/-- An alarm pair reaches the port logic: at the second within 12 µs the tone is confirmed (R59). -/
def State.portAlarm (s : State) (port : Nat) (at_ : Option Nat) : State :=
  have p := s.rxPair port
  have near := match at_ with
    | none => false
    | some t => decide (s.monoNs ≤ t + 12000)
  if near && !p.tone then
    have s1 := (s.setRxPair port { p with tone := true }).flag (portStat port) (portCount port) 2
    s1.strobe Src.TTH_ALARM_TONE (b2n s1.tth.portA.tone + 2 * b2n s1.tth.portB.tone)
  else s

/-- A slot at the port logic (R52, R57). -/
def State.portSlot (s : State) (port : Nat) (kind : SlotKind) : State :=
  if !s.chainOn then s
  else
    have p := s.rxPair port
    have run := satInc p.run 3
    have p1 := { p with last := slotCode kind, run := run, lost := p.lost && decide (run < 3),
                        alarmAt := if kind = .alarm then some s.monoNs else p.alarmAt,
                        tone := p.tone && kind == .alarm }
    have relay := s.bit (portStat port) 10
    have s1 := (((s.setRxPair port p1).setBit (portStat port) 9 true).setBit (portStat port) 11 (kind == .alarm)).setBit
      (portStat port) 10 (kind == .rhb)
    have s2 : State := { s1 with tth := { s1.tth with portLoss := s1.tth.portA.lost && s1.tth.portB.lost } }
    have s3 := if kind = .rhb then s2.relaySeen port (!relay) else s2
    if kind = .alarm then s3.portAlarm port p.alarmAt else s3

/-- An alarm pair and the held-open acknowledgement (R61): more than 1 ms after the last CLEAR_LATCH reply it
shows a node still in alarm. Where no active node showed ALARM there is no such reply to count from, and no later pair closes
the acknowledgement (DESIGN CHOICE, assumption 223). -/
def State.toneIn (s : State) : State :=
  have still := s.saf.clearNodes.isEmpty && (match s.saf.clearReplyAt with
    | none => false
    | some t => decide (t + 1000000 < s.saf.soleNs))
  have s1 : State := { s with saf := { s.saf with alarmAt := some s.saf.soleNs } }
  match s1.finding true 2 0 with
  | none => s1
  | some f =>
    if f.ackOpen && still then (s1.mapFinding true 2 0 (fun g => { g with ackOpen := false })).ackPending 1 true 2 else s1

/-- A slot at the Sole tap (R57 to R59): it ends a loss after three, and a second alarm pair within 12 µs is a
TONE demand of channel 2. -/
def State.tapSlot (s : State) (port : Nat) (kind : SlotKind) : State :=
  if s.mode = .off then s
  else
    have p := s.tapPair port
    have run := satInc p.run 3
    have near := kind = .alarm && (match p.alarmAt with
      | none => false
      | some t => decide (s.saf.soleNs ≤ t + 12000))
    have p1 := { p with last := slotCode kind, run := run, lost := p.lost && decide (run < 3),
                        alarmAt := if kind = .alarm then some s.saf.soleNs else p.alarmAt }
    have s1 := s.setTapPair port p1
    have s2 := if s1.tth.chainLost && !(s1.tth.tapA.lost && s1.tth.tapB.lost) then
        have t : State := { s1 with tth := { s1.tth with chainLost := false } }
        ((if t.vampOn then t.strobe Src.SOLE_CHAIN_LOSS 0 else t).unfind 2 true 9 0)
      else s1
    if kind = .alarm then
      have s3 := s2.toneIn
      if near then s3.find 2 true 2 0 0 else s3
    else s2

/-- A slot on a receive pair. -/
def State.slotArrives (s : State) (port : Nat) (kind : SlotKind) : State := (s.portSlot port kind).tapSlot port kind

/-- HEARTBEAT_SLOT_SEND (R54): one slot on both transmit pairs. -/
def execHeartbeatSlotSend (s : State) : Host.Outcome State Fault Refusal := s.whenVamp <|
  .next (if s.chainOn then (s.emit (.tetherSlot 0 .hb)).emit (.tetherSlot 1 .hb) else s)

/-- SLOT_RECEIVE (R57, R87). -/
def execSlotReceive (port : Nat) (kind : SlotKind) (s : State) : Host.Outcome State Fault Refusal :=
  if isPort port then .next (s.slotArrives port kind) else .next s

/-- ALARM_PAIR_RECEIVE (R59, R61). -/
def execAlarmPairReceive (port : Nat) (s : State) : Host.Outcome State Fault Refusal :=
  if isPort port then .next (s.slotArrives port .alarm) else .next s

/-- HB_LOST_TIMEOUT (R57, R58): 24 µs without a slot. It also ends a run of slots that had begun to end the loss. -/
def execHbLostTimeout (port : Nat) (s : State) : Host.Outcome State Fault Refusal := s.whenVamp <|
  have p := s.rxPair port
  if !isPort port || !s.chainOn then .next s
  else
    have s1 := (s.setRxPair port { p with lost := true, run := 0, tone := false }).setFld (portStat port) 11 9 0
    if p.lost then .next s1
    else
      have s2 : State := { s1 with tth := { s1.tth with portLoss := s1.tth.portA.lost && s1.tth.portB.lost } }
      .next ((s2.flag (portStat port) (portCount port) 0).strobe
        (if port = 0 then Src.TTH_PORTA_HB_LOST else Src.TTH_PORTB_HB_LOST) p.last)

/-- SOLE_HB_LOST_TIMEOUT (R57, R58): with both pairs lost, channel 2 demands CHAIN_LOSS. 24 µs without a slot also end a run
of slots that had begun to end the loss. -/
def execSoleHbLostTimeout (port : Nat) (s : State) : Host.Outcome State Fault Refusal :=
  have p := s.tapPair port
  if !isPort port || s.mode = .off then .next s
  else
    have s1 := s.setTapPair port { p with lost := true, run := 0 }
    if s1.tth.tapA.lost && s1.tth.tapB.lost && !s1.tth.chainLost then
      have s2 := (({ s1 with tth := { s1.tth with chainLost := true } }).flag Reg.SOLE_STAT Reg.SOLE_STAT_COUNT 1).soleLog 6 0
      .next ((if s2.vampOn then s2.strobe Src.SOLE_CHAIN_LOSS 1 else s2).find 2 true 9 0 0)
    else .next s1

/-- TONE_CLEAR_TIMEOUT (R61, R270): 100 ms without an alarm pair. Under a held-open acknowledgement TONE clears;
otherwise the condition is absent and waits for one. -/
def execToneClearTimeout (s : State) : Host.Outcome State Fault Refusal := s.whenVamp <|
  match s.finding true 2 0 with
  | none => .next s
  | some f =>
    if !s.toneSilent then .next s
    else if f.ackOpen then
      have s1 := ((s.dropCause true 2).restChan 1).restChan 2
      .next ((s1.act 1).act 2)
    else .next ((s.unfind 1 true 2 0).unfind 2 true 2 0)

/-- TETHER_LINK_CHANGE (R50): LINK_UP. -/
def execTetherLinkChange (port : Nat) (up : Bool) (s : State) : Host.Outcome State Fault Refusal := s.whenVamp <|
  if isPort port && s.chainOn then .next (s.setBit (portStat port) 8 up) else .next s

/-! Node registers (Table 2.11, R79, R263). -/

/-- Input masks of a node from the cell map and TEMP_INPUT (R262). -/
def State.cellMask (s : State) (n : Nat) : Nat :=
  (List.range 16).foldl (fun a i => if s.cellOf n (i + 1) = 0 then a else a + 2 ^ i) 0
def State.tempMask (s : State) (n : Nat) : Nat :=
  have used := ((List.range 16).map (fun i => s.cellOf n (i + 1))).filter (· != 0)
  (List.range 4).foldl (fun a i => if used.any (fun c => s.tempInput c == i + 1) then a + 2 ^ i else a) 0

/-- OVUV and OTUT as channel 1 expects them. -/
def State.ovuv (s : State) : Nat :=
  (f32ToInt .away 0 0xFFFF 10000 (s.cfgW 10 0 1 0)).toNat * 2 ^ 16 + (f32ToInt .away 0 0xFFFF 10000 (s.cfgW 10 0 0 0)).toNat
def State.otut (s : State) : Nat :=
  wrapInt 16 (f32ToInt .away (-0x8000) 0x7FFF 100 (s.cfgW 10 1 1 0)) * 2 ^ 16 +
    wrapInt 16 (f32ToInt .away (-0x8000) 0x7FFF 100 (s.cfgW 10 1 0 0))

/-- A command to a node through a given port joins the queue. -/
def State.ask (s : State) (n port op : Nat) (payload : Bytes) : State :=
  s.enqueue { node := n, port := some port, op := op, payload := payload }

/-- Write a node's thresholds and inputs and its HEARTBEAT_CFG (R79, R263), then ask for the read-back. -/
def State.writeNode (s : State) (n port : Nat) : State :=
  have r := s.node n
  have inputs := (2 ^ r.aux - 1) * 2 ^ 20 + r.tempsUsed * 2 ^ 16 + r.cellsUsed
  have s1 := s.ask n port 9 ([1, 3] ++ bytesLE 4 s.ovuv ++ bytesLE 4 s.otut ++ bytesLE 4 inputs)
  (s1.ask n port 0x0C (s1.heartbeatCfg false)).ask n port 0x0A [1, 2]

/-- What waits for a node, or is out to it, is given up: operations of the command channel end. -/
def State.dropNode (s : State) (n : Nat) : State :=
  have ops := (s.node n).wait.toList.filterMap (fun w => w.cmd) ++
    (s.tth.queue.filter (fun c => c.node == n)).filterMap (fun c => c.cmd)
  have s1 := s.setNode n { s.node n with wait := none }
  ({ s1 with tth := { s1.tth with queue := s1.tth.queue.filter (fun c => c.node != n) } } : State).completeAll ops
    St.ABORTED []

/-- Fields of an IDENTIFY reply (Table 2.10). -/
def identVersion (p : Bytes) : Nat :=
  have v := min (fieldLE p 1 1) 3
  if max (fieldLE p 0 1) 2 ≤ v then v else 0
def identSerial (p : Bytes) : Nat := fieldLE p 4 4

/-- A node found serves its position: negotiated, fast enough to settle, within N, with the inputs that the cell
map needs (R80, R81, R101). -/
def State.nodeFits (s : State) (n : Nat) (p : Bytes) : Bool :=
  have highest := fun (m bits : Nat) => ((List.range bits).filter (fun i => m / 2 ^ i % 2 == 1)).getLastD 0 +
    (if m = 0 then 0 else 1)
  decide (n ≤ s.nodeCount) && decide (highest (s.cellMask n) 16 ≤ fieldLE p 8 1) &&
    decide (highest (s.tempMask n) 4 ≤ fieldLE p 9 1)
def State.nodeServes (s : State) (n : Nat) (p : Bytes) : Bool :=
  s.nodeFits n p && identVersion p != 0 && decide (fieldLE p 11 1 ≤ 50)

/-- Address a node and record what it said: SET_ADDRESS, TTH.NODEn, its registers (R80 to R82). -/
def State.assignNode (s : State) (n port : Nat) (p : Bytes) : State :=
  have ok := s.nodeServes n p
  have v := if ok then identVersion p else 0
  have s0 := s.dropNode n
  have r : NodeRec := { s0.node n with
    serial := identSerial p, cells := fieldLE p 8 1, temps := fieldLE p 9 1, aux := min 2 (fieldLE p 10 1),
    settle := fieldLE p 11 1, tTurn := fieldLE p 12 2, cellsUsed := s.cellMask n, tempsUsed := s.tempMask n,
    readback := [], alarm := false }
  have s1 := (s0.setNode n r).ask n port 2 (bytesLE 1 n ++ bytesLE 1 v ++ slice p 4 2)
  have reg := Reg.TTH_NODE (n - 1)
  have s2 := (((s1.setFld reg 31 16 (r.serial % 0x10000)).setFld reg 11 8 v).setFld reg 5 4 (if ok then 1 else 2)).setFld
    reg 3 2 0
  if ok then s2.writeNode n port else s2

/-! Calibration (R83). -/

/-- The sorted round trips without those more than 8 ns from their median, judged at twice the scale. -/
def goodTrips (l : List Nat) : List Nat :=
  have m := l.mergeSort
  have n := m.length
  have med2 := m.getD ((n - 1) / 2) 0 + m.getD (n / 2) 0
  m.filter (fun x => decide (2 * x ≤ med2 + 16) && decide (med2 ≤ 2 * x + 16))

/-- C of a node for a port: half of the mean round trip less T_TURN, to the nearest ns, halves up. -/
def compOf (tTurn : Nat) (l : List Nat) : Nat :=
  have g := goodTrips l
  have n := g.length
  if n = 0 then 0 else (g.sum + n - n * tTurn) / (2 * n)

/-- Measured compensations of a node: C_A, C_B; a port without round trips keeps its figure. -/
def State.measured (s : State) (n : Nat) : Nat × Nat :=
  have get := fun (port : Nat) =>
    have l := (s.tth.trips.filter (fun t => t.1 == n && t.2.1 == port)).map (fun t => t.2.2)
    if l.isEmpty then s.compFor n port else compOf (s.node n).tTurn l
  (get 0, get 1)

/-- D for some compensations and settle times: up to the next whole µs. -/
def delayOf (comps settles : List Nat) : Nat :=
  (comps.foldl max 0 + 1000 * settles.foldl max 0 + 500 + 999) / 1000 * 1000

/-- The figures of a calibration over every node (R83): pending D and COMP. -/
def State.calibrated (s : State) : State :=
  have cs := s.addressedNodes.map (fun n => (n, s.measured n))
  have settles := s.addressedNodes.map (fun n => (s.node n).settle)
  { s with tth := { s.tth with
    calibrating := false, calAt := some s.tim.mono.sec, pendingComp := cs.map (fun c => (c.1, c.2.1, c.2.2)),
    pendingD := some (delayOf (cs.flatMap (fun c => [c.2.1, c.2.2])) settles, settles.foldl max 0) } }

/-- Eight DIAG ECHO through each port of a node join the queue. The spec does not say what ECHO_DATA they carry: the echo's
index, 0 to 15 (DESIGN CHOICE, assumption 224). -/
def State.sendEchoes (s : State) (n : Nat) : State :=
  (List.range 16).foldl (fun (u : State) i => u.ask n (i / 8) 0x0B ([1] ++ bytesLE 8 i))
    { s with tth := { s.tth with trips := s.tth.trips.filter (fun t => t.1 != n) } }

/-- An echo waits or is out. -/
def State.echoesLeft (s : State) : Bool :=
  s.tth.queue.any ChainCmd.isEcho || s.tth.nodes.any (fun p => p.2.wait.any Outstanding.isEcho)

/-- Start a calibration of every node, unless one runs. -/
def State.calibrate (s : State) : State :=
  if !s.chainOn || s.tth.calibrating || s.tth.enumerating then s
  else (s.addressedNodes.foldl State.sendEchoes { s with tth := { s.tth with calibrating := true, trips := [] } }).pump

/-- Calibrate a node (R82): its echoes join a calibration that runs. -/
def State.calibrateNode (s : State) (n : Nat) : State :=
  if s.tth.calibrating || s.tth.enumerating then (s.sendEchoes n).pump else s.calibrate

/-- CALIBRATION_TIMER (R83): every 60 s. -/
def execCalibrationTimer (s : State) : Host.Outcome State Fault Refusal := s.whenVamp <|
  .next s.calibrate

/-- TTH.CTRL.RECAL_REQ (R83): reads 1 until every figure is measured. -/
def State.recalReq (s : State) : State := if s.chainOn then (s.setBit Reg.TTH_CTRL 1 true).calibrate else s

/-- TTH_RECAL_REQ. -/
def execTthRecalReq (s : State) : Host.Outcome State Fault Refusal := s.whenVamp <|
  .next s.recalReq

/-- CALIBRATION_DONE (R83): every echo has been answered or given up; D and COMP change at the next sweep boundary. -/
def execCalibrationDone (s : State) : Host.Outcome State Fault Refusal := s.whenVamp <|
  .next (if s.tth.calibrating && !s.echoesLeft then s.calibrated.setBit Reg.TTH_CTRL 1 false else s)

/-! Routing (R86, R87). -/

/-- Nodes served through port B with the ring intact. -/
def State.intactRoute (s : State) : List Nat := s.nodeList.filter (fun n => decide ((s.nodeCount + 1) / 2 < n))

/-- LAST_FROM_A and FIRST_FROM_B. -/
def State.setSplit (s : State) (last first : Nat) : State :=
  (s.setFld Reg.TTH_RING 13 8 last).setFld Reg.TTH_RING 21 16 first

/-- How many of 1 to n in order are in a list. -/
def prefixIn (l : List Nat) : Nat → Nat → Nat
  | 0, k => k
  | n + 1, k => if l.contains (k + 1) then prefixIn l n (k + 1) else k

/-- BREAK_LOCATE_DONE (R87): the rollcalls have been answered. -/
def execBreakLocateDone (s : State) : Host.Outcome State Fault Refusal := s.whenVamp <|
  if !s.tth.locating then .next s
  else
    have n := s.nodeCount
    have last := prefixIn s.tth.rollA n 0
    have down := prefixIn (s.tth.rollB.map (fun k => n + 1 - k)) n 0
    have first := n + 1 - down
    have s1 := s.nodeList.foldl (fun (t : State) k =>
      (t.setReach 0 k (s.tth.rollA.contains k)).setReach 1 k (s.tth.rollB.contains k)) s
    have route := s1.nodeList.filter (fun k => if k ≤ last then false else if first ≤ k then true else s1.nodeB k)
    have s2 : State := { s1 with tth := { s1.tth with pendingRoute := some route, locating := false, rollUntil := 0 } }
    .next ((s2.setSplit last first).showRing).pump

/-- REACHABILITY_ROLLCALL (R88): while the sweep period exceeds 1 ms. -/
def execReachabilityRollcall (s : State) : Host.Outcome State Fault Refusal := s.whenVamp <|
  .next (if s.chainOn && !(s.tth.enumerating && !s.tth.heal) && decide (1000000 < s.sweepPeriod) then s.rollcall else s)

/-! Enumeration (R80, R81, R89). -/

/-- Cells of active nodes, in ascending order of node and then of cell (R28): the monitored cells (R141). -/
def State.monitoredNow (s : State) : List Nat :=
  s.activeNodes.flatMap (fun n => (((List.range 16).map (fun i => s.cellOf n (i + 1))).filter (· != 0)).mergeSort)

/-- The monitored cells are those of the nodes that are active now (R80). -/
def State.refreshMonitored (s : State) : State := { s with est := { s.est with monitored := s.monitoredNow } }

/-- Position of a node that answered from address 0x00 (R82): where its serial stands, else the unreachable position nearest
to the port, else the nearest absent one (DESIGN CHOICE, assumption 74). -/
def State.restartPlace (s : State) (port : Nat) (p : Bytes) : Option Nat :=
  have order := if port = 0 then s.nodeList else s.nodeList.reverse
  match s.addressedNodes.find? (fun n => (s.node n).serial == identSerial p) with
  | some n => some n
  | none => (order.find? (fun n => s.nodeState n == 3)).or (order.find? (fun n => s.nodeState n == 0))

/-- A restarted or replaced node (R82): re-addressed, restored, recalibrated and reported. While its position is not known it
is held until a position turns out unreachable. -/
def State.restartNode (s : State) (port : Nat) (p : Bytes) : State :=
  match s.restartPlace port p with
  | none => { s with tth := { s.tth with
      restarts := s.tth.restarts.filter (fun r => identSerial r.2 != identSerial p) ++ [(port, p)] } }
  | some n =>
    have same := (s.node n).serial == identSerial p
    have s1 := s.assignNode n port p
    have s2 := if same then s1.ask n port 9 ([0, 1] ++ bytesLE 4 (s1.rd (Reg.TTH_COMP (n - 1))).toNat) else s1
    have s3 := ((s2.unfind 1 true 10 n).showRing).refreshMonitored
    have s4 := s3.strobe Src.TTH_NODE_CHANGE (b2n (!same) * 2 ^ 8 + n)
    (if s4.nodeState n = 2 then s4.strobe Src.TTH_NODE_CHANGE (2 * 2 ^ 8 + n) else s4).calibrateNode n

/-- Nodes heard at address 0x00 whose position was not known are looked at again. -/
def State.placeRestarts (s : State) : State :=
  s.tth.restarts.foldl (fun (t : State) r => t.restartNode r.1 r.2) { s with tth := { s.tth with restarts := [] } }

/-- NODE_UNREACHABLE_TIMEOUT (R88): channel 1 demands UNREACHABLE. A full enumeration has released every node. -/
def execNodeUnreachableTimeout (node : Nat) (s : State) : Host.Outcome State Fault Refusal := s.whenVamp <|
  if node = 0 ∨ s.nodeCount < node ∨ s.nodeState node ≠ 1 ∨ (s.tth.enumerating && !s.tth.heal) then .next s
  else
    have s1 := (((s.setFld (Reg.TTH_NODE (node - 1)) 5 4 3).setReach 0 node false).setReach 1 node false).showRing
    .next ((s1.strobe Src.TTH_NODE_CHANGE (3 * 2 ^ 8 + node)).find 1 true 10 node node).placeRestarts

/-- Forget every node: RELEASE (Table 2.9). Lines found open stay recorded (R91). -/
def State.releaseNodes (s : State) : State :=
  have s1 := allNodes.foldl (fun (t : State) n =>
    have t1 := t.dropNode n
    have t2 := ((t1.setFld (Reg.TTH_NODE (n - 1)) 31 7 0).setFld (Reg.TTH_NODE (n - 1)) 5 2 0).setNode n
      { t1.node n with alarm := false }
    (((t2.unfind 1 true 10 n).unfind 1 false 9 n).unfind 1 false 9 (64 + n))) s
  ({ s1 with est := { s1.est with bleed := [] } }).sendBoth 1 [1]

/-- IDENTIFY joins the queue: it goes out when what was sent before it has been answered. -/
def State.identify (s : State) (port : Nat) : State :=
  s.enqueue { node := 0, port := some port, op := 1, payload := [2] }

/-- Full enumeration starts; a request while one runs joins it. -/
def State.enumerate (s : State) : State :=
  if !s.chainOn then s
  else
    have s1 := s.setBit Reg.TTH_CTRL 0 true
    if s1.tth.enumerating && !s1.tth.heal then s1
    else
      have s2 := s1.releaseNodes
      have s3 : State := { s2 with tth := { s2.tth with
        enumerating := true, heal := false, calibrating := false, locating := false, queue := [], rollUntil := 0,
        loop := 1, identOut := false, loopA := 0, loopB := s2.nodeCount + 1, beyond := false, short := false, trips := [],
        restarts := [], test := none } }
      (s3.showRing.identify 0).pump

/-- TTH_ENUM_REQ (R81). -/
def execTthEnumReq (s : State) : Host.Outcome State Fault Refusal := s.whenVamp <|
  .next s.enumerate

/-- RING_HEALED (R89): the heal form sends no RELEASE; it confirms nodes by rollcall and looks for one at 0x00. -/
def execRingHealed (s : State) : Host.Outcome State Fault Refusal := s.whenVamp <|
  if !s.chainOn || s.tth.enumerating || !s.tth.broken || s.relayNow then .next s
  else
    have s1 : State := { s with tth := { s.tth with
      enumerating := true, heal := true, loop := 1, trips := [], calibrating := false, beyond := false, short := false,
      queue := s.tth.queue.filter (fun c => !c.isEcho) } }
    .next ((s1.rollcall.identify 0).pump).showRing

/-- A loop of IDENTIFY ends; the one from port B follows the one from port A. After both the heal form calibrates. -/
def State.loopEnd (s : State) : State :=
  have s1 : State := { s with tth := { s.tth with identOut := false, loop := if s.tth.loop = 1 then 2 else 0 } }
  if s.tth.loop = 1 then (s1.identify 1).pump
  else if s.tth.heal then (s1.addressedNodes.foldl State.sendEchoes s1).pump
  else s1.pump

/-- An IDENTIFY reply in a loop (R80, R81): the node found is assigned, and the loop looks for the next one. In the heal form
it is a node that has restarted. -/
def State.identified (s : State) (port : Nat) (p : Bytes) : State :=
  have s1 : State := { s with tth := { s.tth with identOut := false } }
  if s.tth.heal then
    if (s.restartPlace port p).isNone then (s1.restartNode port p).loopEnd else ((s1.restartNode port p).identify port).pump
  else if (if port = 0 then 48 ≤ s.tth.loopA else s.tth.loopB ≤ s.tth.loopA + 1) then
    ({ s1 with tth := { s1.tth with beyond := true } } : State).loopEnd
  else
    have n := if port = 0 then s.tth.loopA + 1 else s.tth.loopB - 1
    have s2 : State := { s1 with tth := { s1.tth with
      loopA := if port = 0 then n else s1.tth.loopA, loopB := if port = 0 then s1.tth.loopB else n,
      short := s1.tth.short || !s1.nodeFits n p } }
    (((s2.assignNode n port p).sendEchoes n).identify port).pump

/-- A node's state is again active: its reply ends its unreachability. -/
def State.nodeBack (s : State) (n : Nat) : State :=
  if s.nodeState n = 3 then ((s.setFld (Reg.TTH_NODE (n - 1)) 5 4 1).showRing).unfind 1 true 10 n else s

/-- The end of an enumeration, common to both forms (R81). A break that stands is located anew. -/
def State.enumEnd (s : State) (mismatch : Bool) (fromA fromB : Nat) : State :=
  have parked := (allNodes.filter (fun n => s.nodeState n == 2)).length
  have detail := b2n mismatch * 2 ^ 23 + parked * 2 ^ 16 + fromB % 64 * 2 ^ 8 + fromA % 64
  have s1 : State := { s with
    tth := { s.tth with
      enumerating := false, broken := s.relayNow, enumWaiting := [], heal := false,
      retest := s.nodeList.flatMap (fun n =>
        (if s.bit (Reg.TTH_NODE (n - 1)) 6 then [64 * n] else []) ++
        ((List.range 16).filter (fun i => s.bit (Reg.TTH_WIRE (n - 1)) (16 + i))).map (fun i => 64 * n + i + 1)) } }
  have s2 := (s1.refreshMonitored.setBit Reg.TTH_CTRL 0 false).showRing.impHeads
  have s3 := (s2.strobe Src.TTH_ENUM_DONE detail).completeAll s.tth.enumWaiting St.OK (bytesLE 4 detail)
  if s3.tth.broken then s3.locateBreak else s3

/-- What an enumeration settled takes effect: at once where no sweep is under way, else at its boundary (R83, R86). -/
def State.settleChain (s : State) : State :=
  if s.swp.opened.isNone && s.swp.launched.isNone then s.chainBoundary else s

/-- ENUMERATION_DONE (R80 to R83, R86, R89): both loops have ended, and every echo has been answered or given up. In the heal
form the counts of TTH_ENUM_DONE are those of the rollcall's replies at each port (DESIGN CHOICE, assumption 225). -/
def execEnumerationDone (s : State) : Host.Outcome State Fault Refusal := s.whenVamp <|
  if !s.tth.enumerating || s.tth.loop != 0 || s.echoesLeft then .next s
  else
    have n := s.nodeCount
    have half := (n + 1) / 2
    have a := s.tth.loopA
    have b := s.tth.loopB
    have cut : Bool := s.relayNow && !s.tth.heal
    have route := if cut then s.nodeList.filter (fun k => decide (b ≤ k)) else s.intactRoute
    have s1 := s.calibrated
    have s2 : State := { s1 with tth := { s1.tth with pendingRoute := some route } }
    have s3 := s2.settleChain.setSplit (if cut then a else half) (if cut then b else half + 1)
    if s.tth.heal then
      have missing := s3.nodeList.any (fun k =>
        s3.nodeState k != 1 || !(s3.tth.rollA.contains k || s3.tth.rollB.contains k))
      .next (s3.enumEnd missing s3.tth.rollA.length s3.tth.rollB.length)
    else .next (s3.enumEnd (decide (a + (n + 1 - b) ≠ n) || s.tth.short || s.tth.beyond) a (n + 1 - b))

/-! Threshold read-back (R263). -/

/-- NODE_THRESHOLD_READBACK (R263): channel 1 asks every active node for OVUV and OTUT. -/
def execNodeThresholdReadback (s : State) : Host.Outcome State Fault Refusal := s.whenVamp <|
  .next (s.activeNodes.foldl (fun (t : State) n => t.sendNode n 0x0A [1, 2]) s)

/-- Registers of a CONFIG_READ reply: OVUV and OTUT are judged by channel 1. -/
def State.configRead (s : State) (n : Nat) (p : Bytes) : State :=
  if fieldLE p 0 1 = 1 ∧ fieldLE p 1 1 = 2 then
    have bad := fieldLE p 2 4 != s.ovuv || fieldLE p 6 4 != s.otut
    s.judge 1 false 9 n n bad
  else s

/-- The node's reply to CLEAR_LATCH is in, or no longer expected (R61). -/
def State.clearReplied (s : State) (n : Nat) : State :=
  if s.saf.clearNodes.contains n then
    { s with saf := { s.saf with
      clearNodes := s.saf.clearNodes.filter (· != n), clearReplyAt := some s.saf.soleNs } }
  else s

/-- A HEARTBEAT_CFG reply: FILTER above NODE_FILTER or TAKEOVER_ENABLE not in force (R263); the reply to one with CLEAR_LATCH
is counted (R61). -/
def State.heartbeatReply (s : State) (n : Nat) (asked p : Bytes) : State :=
  have bad := decide (s.cfgN 10 3 0 10 < fieldLE p 1 1) || fieldLE p 2 1 / 2 % 2 == 0
  have s1 := s.judge 1 false 9 (64 + n) n bad
  if fieldLE asked 2 1 % 2 = 1 then s1.clearReplied n else s1

/-! Frames (R53, R68, R69). -/

/-- A discard at a port (R53): counted, TTH_FRAME_DISCARD, and the train in readback counts as cut (R69). -/
def State.frameDiscard (s : State) (port reason : Nat) (frame : Bytes) : State :=
  have addr := if frame.length < 2 then 0x3F else fieldBE frame 0 2 / 1024
  have s1 := s.incFld (portErr port) 15 0
  have s2 := if reason = 2 then s1.incFld (portErr port) 31 16 else s1
  have s3 : State := { s2 with swp := { s2.swp with
    opened := s2.swp.opened.map (fun r => if port = 0 then { r with cutA := true } else { r with cutB := true }) } }
  s3.strobe Src.TTH_FRAME_DISCARD (addr * 2 ^ 8 + reason % 8 * 2 + port)

/-- An operation of the command channel that a node's reply answers completes. -/
def State.answerCmd (s : State) (w : Outstanding) (status : Nat) (body : Bytes) : State :=
  s.completeAll w.cmd.toList status body

/-- A READ_SAMPLES reply (R103, R106): it fills the open record of its sweep, which closes when full; a late one is discarded
whole and counted. -/
def State.samplesReply (s : State) (n port : Nat) (p : Bytes) : State :=
  match s.swp.opened with
  | none => s.incFld (portErr port) 15 0
  | some r =>
    if r.id ≠ fieldLE p 0 2 then s.incFld (portErr port) 15 0
    else if s.nodeState n ≠ 1 ∨ r.blocks.any (fun b => b.1 == n) then s
    else
      have flags := fieldLE p 4 1
      have reg := Reg.TTH_NODE (n - 1)
      have s1 := ((s.setBit reg 3 (flags % 2 == 1)).setBit reg 2 (flags / 2 % 2 == 1)).setNode n
        { s.node n with alarm := flags % 2 == 1, stack := fieldLE p 38 2 }
      have a := tget 1 r.attempts n
      have r1 := { r with blocks := r.blocks ++ [(n, nodeBlock n port a p)] }
      have s2 : State := { s1 with swp := { s1.swp with opened := some r1 } }
      if s2.recordFull r1 then s2.recordClose r1 else s2

/-- An OPEN_WIRE_TEST reply: the next phase follows. -/
def State.testReply (s : State) (n : Nat) (p : Bytes) : State :=
  match s.tth.test with
  | none => s
  | some (node, got) =>
    have ph := fieldLE p 0 1
    if node ≠ n ∨ ph ≠ got.length then s
    else
      have s1 : State := { s with tth := { s.tth with test := some (node, got ++ [(ph, p)]) } }
      if ph < 2 then s1.sendNode n 6 (bytesLE 1 (ph + 1) ++ [0] ++ bytesLE 2 1000) else s1

/-- The open-wire test of a node cannot go on: it falls due again (R90). -/
def State.testFails (s : State) (n : Nat) : State :=
  match s.tth.test with
  | none => s
  | some (node, _) =>
    if node ≠ n then s
    else { s with tth := { s.tth with
      test := none, testsDue := if s.tth.testsDue.contains n then s.tth.testsDue else s.tth.testsDue ++ [n] } }

/-- A ROLLCALL reply at a port. -/
def State.rollReply (s : State) (n port : Nat) : State :=
  { s with tth := if port = 0 then { s.tth with rollA := if s.tth.rollA.contains n then s.tth.rollA else s.tth.rollA ++ [n] }
    else { s.tth with rollB := if s.tth.rollB.contains n then s.tth.rollB else s.tth.rollB ++ [n] } }

/-- A round trip is measured (R83). -/
def State.tripMeasured (s : State) (n port rt : Nat) : State :=
  { s with tth := { s.tth with trips := s.tth.trips ++ [(n, port, rt)] } }

/-- A DIAG reply by its SUB. -/
def State.diagReply (s : State) (n : Nat) (w : Outstanding) (p : Bytes) (rt : Nat) : State :=
  match fieldLE p 0 1 with
  | 1 => s.tripMeasured n w.port rt
  | 2 => (s.burstStatus n (fieldLE p 13 1)).answerCmd w St.OK p
  | _ => s

/-- A command fails: refused by a NAK, or given up after its last attempt. A port's figure that cannot be measured is not asked
for again, a block of a burst is not read on, and a node that will not answer CLEAR_LATCH is no longer waited for (DESIGN
CHOICE, assumption 223). -/
def State.cmdFails (s : State) (n : Nat) (w : Outstanding) (status : Nat) (body : Bytes) : State :=
  have s1 := s.answerCmd w status body
  if w.op = 6 then s1.testFails n
  else if w.op = 8 then s1.burstSkip n w.port (fieldLE w.payload 2 1)
  else if w.op = 0x0C then (if fieldLE w.payload 2 1 % 2 = 1 then s1.clearReplied n else s1)
  else if w.isEcho then
    { s1 with tth := { s1.tth with
      queue := s1.tth.queue.filter (fun c => !(c.isEcho && c.node == n && c.port == some w.port)) } }
  else if w.op = 0x0B then s1.burstStatus n 0
  else s1

/-- The reply of a node to a command outstanding, by the command's opcode; a NAK refuses it (R71). -/
def State.replyTo (s : State) (n op : Nat) (w : Outstanding) (p : Bytes) (rt : Nat) : State :=
  if op = 0x3E then s.cmdFails n w St.REFUSED p
  else
    match w.op with
    | 0x04 => s.samplesReply n w.port p
    | 0x05 => s.balanceReply n w.payload p
    | 0x06 => s.testReply n p
    | 0x08 => s.burstPoints n w.port p
    | 0x0A => (s.configRead n p).answerCmd w St.OK p
    | 0x0B => s.diagReply n w p rt
    | 0x0C => s.heartbeatReply n w.payload p
    | _ => s

/-- The command outstanding to a node that a reply answers: through the same port, with the same SEQ (R69). -/
def State.matched (s : State) (n port op seq : Nat) (p : Bytes) : Option Outstanding :=
  (s.node n).wait.filter (fun w => w.port == port && w.seq == seq &&
    (w.op + 0x20 == op || (op == 0x3E && fieldLE p 1 1 == w.op)))

/-- A reply frame from an addressed node (R68, R69, R88): any reply shows it reachable; a train's or rollcall's counts as it
stands, any other only for the command that it answers (DEDUCED, assumption 226). -/
def State.replyFrom (s : State) (n port op seq : Nat) (p : Bytes) (rt : Nat) : State :=
  have s1 := (s.nodeBack n).setReach port n true
  match s1.matched n port op seq p with
  | some w => (s1.setNode n { s1.node n with wait := none }).replyTo n op w p rt
  | none =>
    if op = 0x24 then s1.samplesReply n port p
    else if op = 0x2B ∧ fieldLE p 0 1 = 4 then s1.rollReply n port
    else s1

/-- A command that has passed the whole ring (R68): loop measurement, and the end of a loop of IDENTIFY. -/
def State.commandBack (s : State) (port n op rt : Nat) : State :=
  have ns := if s.tth.broken then 0 else min 0xFFFF rt
  have s1 := if port = 1 then s.setFld Reg.TTH_LOOP 15 0 ns else s.setFld Reg.TTH_LOOP 31 16 ns
  if n = 0 ∧ op = 1 ∧ s1.tth.identOut ∧ s1.tth.loop + port = 2 then s1.loopEnd else s1

/-- An accepted frame (R68, R82); rt is the time from the launch of the command it answers, or is, to its reference edge. -/
def State.frameGood (s : State) (port : Nat) (frame : Bytes) (rt : Nat) : State :=
  have h := fieldBE frame 0 2
  have n := h / 1024
  have op := h / 16 % 64
  have p := slice frame 2 (frame.length - 4)
  if op < 0x20 then s.commandBack port n op rt
  else if n = 0 then
    if op ≠ 0x21 then s
    else if s.tth.identOut ∧ s.tth.loop = port + 1 then s.identified port p
    else if s.tth.enumerating then s else s.restartNode port p
  else if 48 < n ∨ s.nodeState n = 0 then s
  else (s.replyFrom n port op (h % 16) p rt).pump

/-- What a receiver takes from a line, frame by frame, with the times of the accepted ones. -/
def State.lineEnds (s : State) (port : Nat) (rts : List Nat) : List FrameEnd → State
  | [] => s
  | .discard reason got :: rest => (s.frameDiscard port reason got).lineEnds port rts rest
  | .good frame :: rest => (s.frameGood port frame (rts.headD 0)).lineEnds port rts.tail rest

/-- TETHER_FRAME_RECEIVE (R50, R52, R53, R68, R82): the code groups of some symbol times on a receive pair, and for each frame
accepted in them the time from the launch of the command it answers, or is, to its reference edge, ns. -/
def execTetherFrameReceive (port : Nat) (groups : List (Option Nat)) (rts : List Nat) (s : State) :
    Host.Outcome State Fault Refusal := s.whenVamp <|
  .next (if isPort port && s.chainOn then s.lineEnds port rts (lineFrames chainLine groups) else s)

/-! Retries (R69). -/

/-- The assigned port's ring is known to be cut in this readback. -/
def State.ringCut (s : State) (r : OpenRecord) (port : Nat) : Bool :=
  s.bit (portStat port) 1 || (if port = 0 then r.cutA else r.cutB)

/-- Re-read a node of the open record. -/
def State.reread (s : State) (r : OpenRecord) (n : Nat) : State :=
  have own := b2n (s.nodeB n)
  have a := tget 1 r.attempts n
  have old := (s.node n).wait.filter (fun w => w.op == 4)
  have other := old.any (fun w => w.port != own)
  have go := if other then none else if a < 3 && !s.ringCut r own then some own
    else if s.reaches (1 - own) n then some (1 - own) else none
  match go with
  | none => s.setNode n { s.node n with wait := none }
  | some port =>
    have s1 : State := { s with swp := { s.swp with
      opened := some { r with attempts := tset 1 r.attempts n (a + 1) } } }
    have body := bytesLE 2 r.id ++ bytesLE 1 n ++ bytesLE 1 n ++ bytesLE 2 (s1.fld Reg.SWP_CONFIG 15 8) ++
      bytesLE 1 trainSlot ++ bytesLE 1 allInputs
    s1.sendVia port { node := n, op := 4, payload := body, again := old.map (fun w => (w.seq, w.attempts)) }

/-- Retry a command: three attempts through its port, then one through the other. A figure of calibration belongs to its
port. -/
def State.retry (s : State) (n : Nat) (w : Outstanding) : State :=
  have again := fun (port : Nat) =>
    have s1 := s.setNode n { s.node n with wait := none }
    have c : ChainCmd :=
      { node := n, port := some port, op := w.op, payload := w.payload, again := some (w.seq, w.attempts), cmd := w.cmd }
    ({ s1 with tth := { s1.tth with queue := c :: s1.tth.queue } } : State)
  if w.attempts < 3 then again w.port
  else if w.attempts = 3 && !w.isEcho && s.reaches (1 - w.port) n then again (1 - w.port)
  else (s.setNode n { s.node n with wait := none }).cmdFails n w St.ABORTED []

/-- TETHER_REPLY_TIMEOUT (R69); of node 0, an IDENTIFY without a reply, which ends its loop. -/
def execTetherReplyTimeout (node : Nat) (s : State) : Host.Outcome State Fault Refusal := s.whenVamp <|
  if 48 < node ∨ !s.chainOn then .next s
  else if node = 0 then .next (if s.tth.identOut then s.loopEnd else s)
  else
    have rec_ := s.swp.opened.filter (fun r => s.nodeState node == 1 && !r.blocks.any (fun b => b.1 == node))
    have t := match rec_, (s.node node).wait with
      | some r, none => s.reread r node
      | some r, some w => if w.op = 4 then s.reread r node else s.retry node w
      | none, some w => if w.op = 4 then s.setNode node { s.node node with wait := none } else s.retry node w
      | none, none => s
    .next t.pump

/-! Open-wire test (R90, R91). -/

/-- WIRE_TEST_START (R77, R90): SINK 0, SETTLE_US 1000, phase 0 first; one node at a time. -/
def execWireTestStart (node : Nat) (s : State) : Host.Outcome State Fault Refusal := s.whenVamp <|
  if node = 0 ∨ s.nodeCount < node ∨ s.nodeState node ≠ 1 ∨ s.tth.test.isSome ∨ !s.chainOn then .next s
  else
    have s1 : State := { s with tth := { s.tth with
      test := some (node, []), testsDue := s.tth.testsDue.filter (· != node) } }
    .next (s1.sendNode node 6 (bytesLE 1 0 ++ [0] ++ bytesLE 2 1000))

/-- Reading of a cell input in a test reply, 100 µV. -/
def testCell (p : Bytes) (m : Nat) : Nat := fieldLE p (2 + 2 * (m - 1)) 2

/-- Line l of a node reads open: a cell beside it moves by 250 mV or more in the phase that sinks it. -/
def State.lineOpen (s : State) (node : Nat) (got : List (Nat × Bytes)) (l : Nat) : Bool :=
  have at_ := fun (ph : Nat) => (got.getD ph (0, [])).2
  have ph := if l % 2 = 1 then 1 else 2
  [l, l + 1].any (fun m => decide (1 ≤ m) && decide (m ≤ 16) && (s.node node).cellsUsed / 2 ^ (m - 1) % 2 == 1 &&
    decide (2500 ≤ ((testCell (at_ ph) m : Int) - testCell (at_ 0) m).natAbs))

/-- Record a line's result: OPEN is set, and clears only when the line was open before the last enumeration. -/
def State.recordLine (s : State) (node l : Nat) (isOpen : Bool) : State :=
  have set := fun (t : State) (v : Bool) => if l = 0 then t.setBit (Reg.TTH_NODE (node - 1)) 6 v
    else t.setBit (Reg.TTH_WIRE (node - 1)) (15 + l) v
  have key := 64 * node + l
  if isOpen then
    set { s with tth := { s.tth with retest := s.tth.retest.filter (· != key) } } true
  else if s.tth.retest.contains key then
    set { s with tth := { s.tth with retest := s.tth.retest.filter (· != key) } } false
  else s

/-- One line of a finished test: an open line marks the cells beside it; on a closed one marks may clear. -/
def State.judgeLine (s : State) (node : Nat) (got : List (Nat × Bytes)) (l : Nat) : State :=
  have o := s.lineOpen node got l
  have s1 := s.recordLine node l o
  if o then
    s1.markWire node ([l, l + 1].filter (fun m => decide (1 ≤ m) && decide (m ≤ 16) && s1.cellOf node m != 0)) l 3
  else
    { s1 with tth := { s1.tth with marks := s1.tth.marks.map (fun m =>
      if m.node == node && m.line == l then
        { m with tested := true, absentAt := if m.cause = 3 then some (m.absentAt.getD s1.monoNs) else m.absentAt }
      else m) } }

/-- OPEN_WIRE_TEST_DONE (R91). A test that was asked for a mark is no longer due. -/
def execOpenWireTestDone (s : State) : Host.Outcome State Fault Refusal := s.whenVamp <|
  match s.tth.test with
  | none => .next s
  | some (node, got) =>
    if got.length < 3 then .next s
    else
      have s1 := (List.range 17).foldl (fun (t : State) l => t.judgeLine node got l) s
      .next { s1 with tth := { s1.tth with test := none, testsDue := s1.tth.testsDue.filter (· != node) } }

/-- WIRE_MARK_CLEAR_TIMEOUT (R91): the finding of a cell's mark has been absent for 60 s and its line tested closed. Marks
of other findings on the cell stand. -/
def execWireMarkClearTimeout (node input line cause : Nat) (s : State) : Host.Outcome State Fault Refusal := s.whenVamp <|
  if node = 0 ∨ 48 < node then .next s
  else
    .next (({ s with tth := { s.tth with marks := s.tth.marks.filter (fun m =>
      !(m.node == node && m.input == input && m.line == line && m.cause == cause && m.tested && m.absentAt.isSome)) } }).showWire
        node)

end Sys2Proof.Machine
end

