-- ==== Sys2Proof/Machine/BavinVerify.lean ====
section
/-!
DEFINITION. Verification of a program image (R317, R378).
-/

namespace Sys2Proof.Machine

/-! Instructions of a function. -/

/-- Read the instructions of a byte range as code offset and instruction; none if one does not decode or the
last one crosses the end. -/
def readAll (code : Bytes) (pc stop : Nat) : Nat → Option (List (Nat × RawOp))
  | 0 => none
  | n + 1 =>
    if pc = stop then some []
    else match readOp (slice code pc (stop - pc)) with
      | none => none
      | some op => (readAll code (pc + op.len) stop n).map (fun l => (pc, op) :: l)

/-- The instructions of a function. -/
def functionOps (p : Program) (f : FuncDef) : Option (List (Nat × RawOp)) :=
  if f.entry + f.length ≤ p.code.length then readAll p.code f.entry (f.entry + f.length) (f.length + 1) else none

/-! What an instruction does to the stack's types, top first. -/

/-- Take types off the stack, the first one from the top, and put others on, the first one to the top. -/
def takePut (take put st : List Nat) : Option (List Nat) :=
  if st.take take.length = take then some (put ++ st.drop take.length) else none

/-- A symbol that a task may write. -/
def writable (y : Symbol) : Bool := 1 ≤ y.cls && y.cls ≤ 4

/-- The symbol operand has the type, class and element count that the operation needs. -/
def symbolFits (p : Program) (op : RawOp) : Bool :=
  match symOf p op.a with
  | none => false
  | some y =>
    match op.key with
    | 0x10 => y.ty == op.t && y.elements == 1 && y.cls != 6
    | 0x18 => y.ty == op.t && y.elements == 1 && writable y
    | 0x20 => y.ty == op.t && y.cls != 6
    | 0x28 => y.ty == op.t && writable y
    | 0x139 => writable y
    | 0x13A => true
    | 0x162 => y.cls != 6 && y.cls != 5
    | 0x138 => match symOf p op.b with
      | none => false
      | some z => y.ty == z.ty && y.cls != 6 && writable z
    | _ => y.cls == 6

/-- The instruction names a symbol in its first operand. -/
def namesSymbol (key : Nat) : Bool :=
  key == 0x10 || key == 0x18 || key == 0x20 || key == 0x28 || (0x128 ≤ key && key ≤ 0x130) || key == 0x138 ||
  key == 0x139 || key == 0x13A || key == 0x162

/-- The type of the symbol in the first operand. -/
def symbolType (p : Program) (op : RawOp) : Nat := ((symOf p op.a).map (·.ty)).getD 7

/-- Stack effect of a page 0 instruction. -/
def effect0 (p : Program) (f : FuncDef) (op : RawOp) (st : List Nat) : Option (List Nat) :=
  have t := op.t
  match op.key with
  | 0x00 => some st
  | 0x01 => match st with
    | a :: r => some (a :: a :: r)
    | _ => none
  | 0x02 => match st with
    | _ :: r => some r
    | _ => none
  | 0x03 => match st with
    | b :: a :: r => some (a :: b :: r)
    | _ => none
  | 0x04 => match st with
    | b :: a :: r => some (a :: b :: a :: r)
    | _ => none
  | 0x05 => match st with
    | z :: y :: x :: r => some (x :: z :: y :: r)
    | _ => none
  | 0x06 => (st[op.a]?).map (fun a => a :: st)
  | 0x08 => some (t :: st)
  | 0x10 => some (t :: st)
  | 0x18 => takePut [t] [] st
  | 0x20 => takePut [3] [t] st
  | 0x28 => takePut [t, 3] [] st
  | 0x58 => takePut [t] [t] st
  | 0x60 => takePut [t] [t] st
  | 0xC0 => takePut [t] [t] st
  | 0x78 => takePut [t, t] [0] st
  | 0x80 => takePut [t, t] [0] st
  | 0x88 => takePut [t, t] [0] st
  | 0x90 => takePut [t, t] [0] st
  | 0x98 => takePut [t, t] [0] st
  | 0xA0 => takePut [t, t] [0] st
  | 0xC8 => takePut [3, t] [t] st
  | 0xD0 => takePut [3, t] [t] st
  | 0xD8 => if convListed (op.a / 16) (op.a % 16) then takePut [op.a / 16] [op.a % 16] st else none
  | 0xD9 => some st
  | 0xDA => takePut [0] [] st
  | 0xDB => takePut [0] [] st
  | 0xDC => (p.functions[op.a]?).bind (fun g => takePut g.args.reverse g.results.reverse st)
  | 0xDD => if st = f.results.reverse then some st else none
  | 0xDE => some st
  | 0xDF => takePut [op.a, op.a, 0] [op.a] st
  | 0xE0 => takePut [op.a, op.a, op.a] [op.a] st
  | 0xE1 => (f.locals[op.a]?).map (fun a => a :: st)
  | 0xE2 => (f.locals[op.a]?).bind (fun a => takePut [a] [] st)
  | _ => takePut [t, t] [t] st

/-- Stack effect of a page 1 or page 2 instruction. -/
def effect12 (p : Program) (op : RawOp) (st : List Nat) : Option (List Nat) :=
  have k := op.key
  if k ≤ 0x109 then takePut [5] [5] st
  else if k ≤ 0x10B then takePut [5, 5] [5] st
  else if k ≤ 0x10F then takePut [5] [2] st
  else if k = 0x110 then takePut [5] [0] st
  else if k = 0x111 then takePut [5, 5, 5] [5] st
  else if k = 0x114 then takePut [3, op.a] [0] st
  else if k ≤ 0x116 then takePut [3, op.a] [op.a] st
  else if k = 0x121 then some (0 :: 6 :: st)
  else if k ≤ 0x123 then some (6 :: st)
  else if k ≤ 0x12A then takePut [6, 0] [6, 0] st
  else if k ≤ 0x12C then takePut [0] [0] st
  else if k ≤ 0x12E then takePut [1, 0, 0] [1, 0] st
  else if k ≤ 0x130 then takePut [0, 0] [0] st
  else match k with
    | 0x138 => some st
    | 0x139 => takePut [symbolType p op] [] st
    | 0x13A => some (3 :: st)
    | 0x140 => some (0 :: st)
    | 0x141 => some (3 :: st)
    | 0x142 => takePut [0] [] st
    | 0x148 => some (0 :: st)
    | 0x149 => if (symOf p op.b).isSome then some st else none
    | 0x150 => takePut [4] [] st
    | 0x158 => takePut [4] [4] st
    | 0x159 => takePut [4, 4] [] st
    | 0x160 => takePut [0] [] st
    | 0x162 => takePut [3] [0] st
    | 0x200 => takePut [3] [5] st
    | 0x201 => takePut [3] [3] st
    | 0x202 => takePut [3] [5] st
    | 0x203 => some (5 :: st)
    | 0x204 => some (4 :: st)
    | 0x205 => some (5 :: st)
    | 0x206 => takePut [5] [] st
    | 0x207 => takePut [3] [] st
    | _ => some st

/-- The types after an instruction, if it meets them. -/
def effectOf (p : Program) (f : FuncDef) (op : RawOp) (st : List Nat) : Option (List Nat) :=
  if namesSymbol op.key && !symbolFits p op then none
  else if op.key < 0x100 then effect0 p f op st else effect12 p op st

/-- The code offsets that follow an instruction. -/
def successors (pc : Nat) (op : RawOp) : List Nat :=
  have next := pc + op.len
  have target := ((next : Int) + signed 16 op.a).toNat
  match op.key with
  | 0xD9 => [target]
  | 0xDA => [next, target]
  | 0xDB => [next, target]
  | 0xDD => []
  | 0xDE => []
  | 0x161 => []
  | _ => [next]

/-! Types along every path. -/

/-- Types known at code offsets. -/
abbrev Typing := List (Nat × List Nat)

/-- Types reach a code offset: an instruction start of the function, with the same types along every path. -/
def reach (ops : List (Nat × RawOp)) (st : List Nat) (ty : Option Typing) (pc : Nat) : Option Typing :=
  ty.bind (fun l =>
    if ops.all (fun x => x.1 != pc) || decide (256 < st.length) then none
    else match l.find? (fun x => x.1 == pc) with
      | none => some (l ++ [(pc, st)])
      | some x => if x.2 = st then some l else none)

/-- One pass over a function's instructions. -/
def typePass (p : Program) (f : FuncDef) (ops : List (Nat × RawOp)) (ty : Option Typing) : Option Typing :=
  ops.foldl (fun (a : Option Typing) x => a.bind (fun l =>
    match l.find? (fun y => y.1 == x.1) with
    | none => some l
    | some y => match effectOf p f x.2 y.2 with
      | none => none
      | some st => (successors x.1 x.2).foldl (reach ops st) (some l))) ty

/-- Passes over a function. -/
def typePasses (p : Program) (f : FuncDef) (ops : List (Nat × RawOp)) : Nat → Option Typing → Option Typing
  | 0, ty => ty
  | n + 1, ty => typePasses p f ops n (typePass p f ops ty)

/-- The typing of a function. -/
def typeFunction (p : Program) (f : FuncDef) : Option (List (Nat × RawOp) × Typing) :=
  (functionOps p f).bind (fun ops => match ops with
    | [] => none
    | _ => (typePasses p f ops (ops.length + 1) (some [(f.entry, f.args.reverse)])).map (fun ty => (ops, ty)))

/-! Calls. -/

/-- The functions that a function calls. -/
def callees (p : Program) (f : FuncDef) : List Nat :=
  ((functionOps p f).getD []).filterMap (fun x => if x.2.key = 0xDC then some x.2.a else none)

/-- No chain of calls from a function is longer than a depth, so none is a cycle. -/
def callsWithin (p : Program) : Nat → Nat → Bool
  | 0, _ => false
  | n + 1, i =>
    match p.functions[i]? with
    | none => false
    | some f => (callees p f).all (callsWithin p n)

/-- Functions reachable from one, to a depth of calls. -/
def reachable (p : Program) : Nat → Nat → Option (List Nat)
  | 0, _ => none
  | n + 1, i =>
    match p.functions[i]? with
    | none => none
    | some f => (callees p f).foldl (fun (a : Option (List Nat)) j =>
        a.bind (fun l => if l.contains j then some l else (reachable p n j).map (fun m => (l ++ m).dedup))) (some [i])

/-- The greatest stack depth of a function with what it calls. -/
def depthOf (p : Program) : Nat → Nat → Nat
  | 0, _ => 0
  | n + 1, i =>
    match (p.functions[i]?).bind (fun f => typeFunction p f) with
    | none => 0
    | some (ops, ty) => (ty.map (fun x =>
        match ops.find? (fun y => y.1 == x.1) with
        | none => x.2.length
        | some y => if y.2.key = 0xDC then
            max x.2.length (x.2.length - ((p.functions[y.2.a]?).map (fun g => g.args.length)).getD 0 + depthOf p n y.2.a)
          else x.2.length)).foldl max 0

/-- The instructions that a task can execute. -/
def taskOps (p : Program) (d : TaskDef) : List RawOp :=
  ((reachable p 17 d.body).getD []).flatMap (fun i =>
    ((p.functions[i]?).bind (fun f => functionOps p f)).getD [] |>.map (·.2))

/-! The rules of R317. -/

/-- Symbols that an instruction writes. -/
def writesSymbol (op : RawOp) : Option Nat :=
  if op.key = 0x138 then some op.b
  else if op.key = 0x18 ∨ op.key = 0x28 ∨ op.key = 0x139 ∨ (0x128 ≤ op.key ∧ op.key ≤ 0x130) then some op.a else none

/-- Every symbol is written only by its owner. -/
def ownersHold (p : Program) : Bool :=
  p.tasks.all (fun (x : Nat × TaskDef) => (taskOps p x.2).all (fun op => match writesSymbol op with
    | none => true
    | some y => ((symOf p y).map (fun m => m.owner == x.1)).getD false))

/-- What at most one task may use: an XIN word, OUTREQ, ACKSAFE, a station's STNENABLE. -/
def singleUse (op : RawOp) : Option (Nat × Nat) :=
  if op.key = 0x206 ∨ op.key = 0x142 then some (op.key, op.a)
  else if op.key = 0x207 ∨ op.key = 0x208 then some (op.key, 0) else none

/-- No such thing is used by two tasks. -/
def singleUses (p : Program) : Bool :=
  have used := p.tasks.flatMap (fun (x : Nat × TaskDef) => (((taskOps p x.2).filterMap singleUse).dedup))
  decide used.Nodup

/-- The byte range that a symbol binds, inside its station's or connection's data. -/
def State.bindingHolds (s : State) (p : Program) (y : Symbol) : Bool :=
  have stop := y.bindOffset + symSize y
  if 1 < y.cls then true
  else match y.bind with
    | 1 => match stationDef p y.bindUnit with
      | none => false
      | some d => decide (stop ≤ if y.cls = 0 then d.inLen else d.outLen)
    | 2 => decide (stop ≤ s.weltLen y.bindUnit) && (y.cls == 0 || decide (16 ≤ y.bindOffset))
    | _ => true

/-- No two OUTPUT symbols bind the same byte. -/
def bindingsApart (p : Program) : Bool :=
  have outs := p.symbols.filter (fun y => y.cls == 1 && y.bind != 0)
  outs.all (fun a => outs.all (fun b => a.identity == b.identity || a.bind != b.bind || a.bindUnit != b.bindUnit ||
    decide (a.bindOffset + symSize a ≤ b.bindOffset) || decide (b.bindOffset + symSize b ≤ a.bindOffset)))

/-- Verification of a program image (R317). -/
def State.verifies (s : State) (p : Program) : Bool :=
  have fns := List.range p.functions.length
  p.codeFormat == 2 &&
  p.functions.all (fun f => (typeFunction p f).isSome && decide (f.locals.length ≤ 255)) &&
  fns.all (fun i => callsWithin p 17 i && decide (depthOf p 17 i ≤ 256)) &&
  ownersHold p && singleUses p &&
  decide (p.code.length ≤ 0x180000) && decide (p.tablesLen ≤ 508 * 1024) &&
  decide (p.retainBytes + p.persistBytes ≤ 0x200000) && decide (p.persistBytes ≤ 960 * 1024) &&
  decide (p.dataBytes ≤ 0x200000) &&
  p.tasks.all (fun (x : Nat × TaskDef) => x.2.event || (decide (1 ≤ x.2.period) && decide (x.2.period ≤ 40000))) &&
  decide (p.majorFrame ≤ 40000) && p.symbols.all (s.bindingHolds p) && bindingsApart p

end Sys2Proof.Machine
end

