-- ==== Sys2Proof/Machine/Update.lean ====
section
/-!
DEFINITION. Fredrifort images: manifest and blocks, the image session, its refusals and the verification that
leads to a pending activation (R457 to R463).
-/

namespace Sys2Proof.Machine

/-! What the UPD registers show. -/

/-- The inactive bank of a target is bank B: target 0 firmware, 1 program. -/
def State.spareIsB (s : State) (target : Nat) : Bool :=
  if target = 0 then !s.cfg.dev.fwB else !s.bit Reg.PRG_STATE 10

/-- Number of the inactive bank of a target: 0 and 1 firmware A and B, 2 and 3 program A and B. -/
def State.spareBank (s : State) (target : Nat) : Nat := 2 * target + b2n (s.spareIsB target)

/-- UPD.BANKS, UPD.FLOOR, UPD.STAT.LOCKED_NOW and the four versions (Table 15.13). -/
def State.showBanks (s : State) : State :=
  have d := s.cfg.dev
  have u := s.update
  have w := b2n d.fwB * 2 ^ 31 + b2n d.fwPending * 2 ^ 30 + d.fwTries % 4 * 2 ^ 28 + b2n d.fwFailed * 2 ^ 27 +
    b2n (s.bit Reg.PRG_STATE 10) * 2 ^ 15 + b2n d.progPending * 2 ^ 14 + d.progTries % 4 * 2 ^ 12 + b2n d.progFailed * 2 ^ 11
  have put := fun (t : State) (r v : Nat) => t.wr r (BitVec.ofNat 32 v)
  have s1 := put (put (put s Reg.UPD_BANKS w) Reg.UPD_FLOOR d.floor) Reg.UPD_FW_A_VER u.ver0
  have s2 := put (put (put s1 Reg.UPD_FW_B_VER u.ver1) Reg.UPD_PROG_A_VER u.ver2) Reg.UPD_PROG_B_VER u.ver3
  s2.setBit Reg.UPD_STAT 8 d.updateLock

/-- UPD.SESSION.STATE. -/
def State.updState (s : State) : Nat := s.fld Reg.UPD_SESSION 31 29

/-- A session is open: erasing, receiving or verifying (R460). -/
def State.updOpen (s : State) : Bool := s.updState == 1 || s.updState == 2 || s.updState == 3

/-- The blocks that a bank holds. -/
def State.bankBlocks (s : State) (k : Nat) : List (Nat × Bytes) :=
  match k with
  | 0 => s.update.bank0
  | 1 => s.update.bank1
  | 2 => s.update.bank2
  | _ => s.update.bank3

/-- The state with a bank's blocks and VERSION set. -/
def State.setBank (s : State) (k version : Nat) (blocks : List (Nat × Bytes)) : State :=
  have u := s.update
  have u1 : Update := match k with
    | 0 => { u with bank0 := blocks, ver0 := version }
    | 1 => { u with bank1 := blocks, ver1 := version }
    | 2 => { u with bank2 := blocks, ver2 := version }
    | _ => { u with bank3 := blocks, ver3 := version }
  { s with update := u1 }

/-- The VERSION in a bank, 0 for none. -/
def State.bankVersion (s : State) (k : Nat) : Nat :=
  match k with
  | 0 => s.update.ver0
  | 1 => s.update.ver1
  | 2 => s.update.ver2
  | _ => s.update.ver3

/-- The VERSION of the firmware that runs. -/
def State.fwVersion (s : State) : Nat := s.bankVersion (b2n s.update.runsB)

/-- A program in the inactive bank, and whether it has been verified. -/
def State.setSpareProgram (s : State) (p : Option Program) (ok : Bool) : State :=
  have prg := s.prg
  have b := s.spareIsB 1
  have prg1 : Prg := if b then { prg with bankB := p, okB := ok } else { prg with bankA := p, okA := ok }
  have s1 : State := { s with prg := prg1 }
  (s1.wr Reg.PRG_INACTIVE_ID ((p.map (fun q => q.progId)).getD 0)).setBit Reg.PRG_STATE 11 (p.isSome && ok)

/-! The manifest (Table 15.6). -/

/-- A manifest from its bytes. -/
def parseManifest (bs : Bytes) : Manifest :=
  have n := fieldLE bs 6 2
  { target := fieldLE bs 5 1, blocks := n, version := fieldLE bs 8 4, compatMin := fieldLE bs 12 4,
    compatMax := fieldLE bs 16 4, imageLen := fieldLE bs 20 4, floor := fieldLE bs 24 4, key := slice bs 64 64,
    hashes := (List.range n).map (fun k => slice bs (128 + 32 * k) 32),
    signature := slice bs (128 + 32 * n) 64, signed := bs.take (128 + 32 * n) }

/-- A manifest that R457 does not allow (refusal 4). -/
def manifestMalformed (target : Nat) (bs : Bytes) : Bool :=
  have m := parseManifest bs
  fieldBE bs 0 4 != 0x46524446 || fieldLE bs 4 1 != 1 || m.target != target + 1 || m.blocks == 0 ||
    decide ((if target = 0 then 128 else 32) < m.blocks) || decide (65536 * m.blocks < m.imageLen) ||
    decide (m.imageLen ≤ 65536 * (m.blocks - 1)) || bs.length != 128 + 32 * m.blocks + 64

/-- The signature verifies under the key of R458. -/
def State.manifestSigned (s : State) (m : Manifest) : Bool :=
  have key := if m.target = 1 then Config.vendorKey else s.cfg.dev.key.getD m.key
  Config.ecdsaVerify key (Config.sha256 m.signed) m.signature

/-- The length of block k of an image. -/
def Manifest.blockLen (m : Manifest) (k : Nat) : Nat := min 65536 (m.imageLen - 65536 * k)

/-! Refusals (R461). -/

/-- The first of conditions 1 to 3 that stands: string moving, supply, owner update lock. -/
def State.updBlocked (s : State) : Option Nat :=
  have moving := s.readsClosed 1 || s.readsClosed 2 || s.readsClosed 3 || (match s.saf.ch1.current with
    | some i => !f32Lt (f32Abs i) (s.ratedPart 20)
    | none => false)
  if moving then some 1
  else if s.fld Reg.PWR_VIN 31 16 < 11000 ∨ s.supply.holdupBad then some 2
  else if s.cfg.dev.updateLock then some 3
  else none

/-- The session ends; the inactive bank holds no image unless it was verified. -/
def State.closeUpdate (s : State) (st : Nat) : State :=
  have s1 := s.setFld Reg.UPD_SESSION 31 29 st
  { s1 with update := { s1.update with
    manifest := none, manifestBytes := [], manifestLen := 0, held := [], programming := none, eraseOp := none, blockOp := none,
    verifyOp := none } }

/-- An update is refused: UPD.REFUSE, UPD_REFUSED and the flag; all but reasons 1 to 3 end the session. -/
def State.refuseUpdate (s : State) (op reason block : Nat) : State :=
  have s1 := ((s.wr Reg.UPD_REFUSE (BitVec.ofNat 32 (reason * 2 ^ 28 + block))).flag Reg.UPD_STAT Reg.UPD_STAT_COUNT 2).strobe
    Src.UPD_REFUSED (reason * 2 ^ 20 + block)
  have waiting := s1.update.eraseOp.toList ++ s1.update.blockOp.toList ++ s1.update.verifyOp.toList
  have s2 := if 1 ≤ reason ∧ reason ≤ 3 then s1
    else (s1.closeUpdate 5).completeAll (waiting.filter (fun o => o != op)) St.ABORTED []
  s2.complete op St.REFUSED (bytesLE 1 reason)

/-! Commands (Table 15.7). -/

/-- The whole inactive bank of the target is erased, and a pending activation of it is cancelled (R460). -/
def State.eraseBank (s : State) (target : Nat) : State :=
  have s1 := (s.setBank (s.spareBank target) 0 []).unspoil (s.spareBank target)
  have d := s1.cfg.dev
  have d1 : DeviceRec := if target = 0 then { d with fwPending := false, fwTries := 0, fwFailed := false }
    else { d with progPending := false, progTries := 0, progFailed := false }
  have s2 : State := { s1 with cfg := { s1.cfg with dev := d1 } }
  have s3 := if target = 0 then s2
    else
      have b := if s2.spareIsB 1 then 2 else 0
      have s4 := if s2.prg.change.isSome then s2.refuseChange 1 none else s2
      have s5 : State := { s4 with prg := { s4.prg with
        persist := s4.prg.persist.filter (fun (x : Nat × PersistRec) => x.1 != b && x.1 != b + 1) } }
      s5.setSpareProgram none false
  s3.storeDevice.showBanks

/-- The checks of a complete manifest in the order of the model (assumption 52): the refusal, or none. -/
def State.beginRefusal (s : State) (target : Nat) (bs : Bytes) : Option Nat :=
  have m := parseManifest bs
  if s.updOpen then some 11
  else if manifestMalformed target bs then some 4
  else match s.updBlocked with
    | some r => some r
    | none =>
      have against := if target = 0 then s.fld Reg.SYS_ID 15 8 else s.fwVersion
      if against < m.compatMin ∨ m.compatMax < against then some 5
      else if target = 0 ∧ m.version < s.cfg.dev.floor then some 6
      else if !s.manifestSigned m then some 7
      else if s.links.readOnly.contains (s.spareBank target) then some 10
      else none

/-- IMAGE_BEGIN: manifest bytes are collected; a complete manifest is checked and the bank's erase starts. -/
def State.imageBegin (s : State) (op : Nat) (ps : Bytes) : State :=
  have target := fieldLE ps 0 1
  have len := fieldLE ps 2 2
  have offset := fieldLE ps 4 2
  have data := ps.drop 6
  have u := s.update
  if s.updOpen then s.refuseUpdate op 11 0xFFFF
  else if 1 < target ∨ len < 192 ∨ data.isEmpty ∨ 1384 < data.length ∨ len < offset + data.length then
    s.complete op St.BAD_PARAM (bytesLE 2 u.manifestBytes.length)
  else
    have had := if offset = 0 then [] else u.manifestBytes
    if offset ≠ had.length ∨ (offset ≠ 0 ∧ (len ≠ u.manifestLen ∨ target ≠ u.target)) then
      s.complete op St.BAD_PARAM (bytesLE 2 u.manifestBytes.length)
    else
      have all := had ++ data
      have s1 : State := { s with update := { u with manifestLen := len, target := target, manifestBytes := all } }
      if all.length < len then s1.complete op St.OK (bytesLE 2 all.length)
      else match s1.beginRefusal target all with
        | some r =>
          have s2 : State := if r ≤ 3 then { s1 with update := { s1.update with manifestBytes := had } } else s1
          s2.refuseUpdate op r 0xFFFF
        | none =>
          have m := parseManifest all
          have s2 := (s1.eraseBank target).insoleStart .imageErase
          have w := 2 ^ 29 + target * 2 ^ 28 + b2n (s2.spareIsB target) * 2 ^ 27 + m.blocks % 256 * 2 ^ 8
          have s3 := s2.wr Reg.UPD_SESSION (BitVec.ofNat 32 w)
          { s3 with update := { s3.update with
            manifest := some m, block := 0, held := [], programming := none, eraseOp := some op } }

/-- IMAGE_ERASE_DONE (R460): the session receives blocks, and IMAGE_BEGIN completes with bank and BLOCKS. -/
def execImageEraseDone (s : State) : Host.Outcome State Fault Refusal := s.whenVamp <|
  match s.update.manifest with
  | none => .next s
  | some m =>
    if s.updState ≠ 1 ∨ !s.insoleTurn .imageErase then .next s
    else
      have ops := s.update.eraseOp.toList
      have s1 := s.setFld Reg.UPD_SESSION 31 29 2
      have s2 : State := { s1 with update := { s1.update with eraseOp := none } }
      .next (s2.completeAll ops St.OK (bytesLE 1 (b2n (s2.spareIsB (m.target - 1))) ++ bytesLE 2 m.blocks))

/-- A block whose last byte has arrived is checked against its CRC-32 and its HASH, and programmed (R459). -/
def State.checkBlock (s : State) (op : Nat) (m : Manifest) (block : Nat) (bytes : Bytes) (crc : Word) : State :=
  have s0 : State := { s with update := { s.update with held := [] } }
  match s0.updBlocked with
  | some r => s0.refuseUpdate op r block
  | none =>
    have crcBad := crc32 bytes != crc
    have shaBad := Config.sha256 bytes != m.hashes.getD block []
    if crcBad || shaBad then
      have s1 := (s0.flag Reg.UPD_STAT Reg.UPD_STAT_COUNT 1).strobe Src.UPD_BLOCK_FAIL
        (b2n crcBad * 2 ^ 23 + b2n (!crcBad) * 2 ^ 22 + block % 256)
      s1.complete op St.OK (bytesLE 4 0 ++ [2])
    else { s0.insoleStart .image with update := { s0.update with programming := some (block, bytes), blockOp := some op } }

/-- IMAGE_BLOCK (R459, R460). -/
def State.imageBlock (s : State) (op : Nat) (ps : Bytes) : State :=
  have block := fieldLE ps 0 2
  have offset := fieldLE ps 2 4
  have crc := BitVec.ofNat 32 (fieldLE ps 6 4)
  have data := ps.drop 10
  match s.update.manifest with
  | none => s.complete op St.STATE []
  | some m =>
    if s.updState ≠ 2 then s.complete op St.STATE []
    else if m.blocks ≤ block ∨ data.isEmpty ∨ 1384 < data.length then s.complete op St.BAD_PARAM (bytesLE 4 s.update.held.length)
    else if (s.bankBlocks (s.spareBank (m.target - 1))).any (fun x => x.1 == block) then
      s.complete op St.OK (bytesLE 4 (m.blockLen block) ++ [1])
    else
      have had := if block = s.update.block then s.update.held else []
      if offset ≠ had.length ∨ m.blockLen block < offset + data.length then
        s.complete op St.BAD_PARAM (bytesLE 4 had.length)
      else if offset + data.length = m.blockLen block ∧ s.update.programming.isSome then s.complete op St.BUSY []
      else
        have all := had ++ data
        have s1 : State := { s with update := { s.update with block := block, held := all, blockCrc := crc } }
        if all.length < m.blockLen block then s1.complete op St.OK (bytesLE 4 all.length ++ [0])
        else s1.checkBlock op m block all crc

/-- IMAGE_BLOCK_STORED (R459): the block stands in the inactive bank. -/
def execImageBlockStored (s : State) : Host.Outcome State Fault Refusal := s.whenVamp <|
  match s.update.programming, s.update.manifest with
  | some (block, bytes), some m =>
    if !s.insoleTurn .image then .next s
    else
      have k := s.spareBank (m.target - 1)
      have blocks := s.bankBlocks k ++ [(block, bytes)]
      have ops := s.update.blockOp.toList
      have s1 := (s.setBank k 0 blocks).setFld Reg.UPD_SESSION 7 0 blocks.length
      have s2 : State := { s1 with update := { s1.update with programming := none, blockOp := none } }
      .next (s2.completeAll ops St.OK (bytesLE 4 bytes.length ++ [1]))
  | _, _ => .next s

/-- IMAGE_VERIFY (R462): the conditions and step 1; the read-back follows. -/
def State.imageVerify (s : State) (op : Nat) (ps : Bytes) : State :=
  match s.update.manifest with
  | none => s.complete op St.STATE []
  | some m =>
    if s.updState ≠ 2 then s.complete op St.STATE []
    else match s.updBlocked with
      | some r => s.refuseUpdate op r 0xFFFF
      | none =>
        have have_ := s.bankBlocks (s.spareBank (m.target - 1))
        match (List.range m.blocks).find? (fun k => !have_.any (fun x => x.1 == k)) with
        | some k => s.refuseUpdate op 12 k
        | none =>
          have s1 := s.setFld Reg.UPD_SESSION 31 29 3
          { s1 with update := { s1.update with activate := fieldLE ps 0 1 % 2 == 1, verifyOp := some op } }

/-- The program header of a program (Table 10.2). -/
def programHeader (p : Program) : Bytes :=
  have events := p.tasks.countP (fun (x : Nat × TaskDef) => x.2.event)
  bytesLE 4 p.progId.toNat ++ bytesLE 1 p.codeFormat ++ zeros 1 ++ bytesLE 2 p.symbols.length ++
    bytesLE 2 p.functions.length ++ bytesLE 1 (p.tasks.length - events) ++ bytesLE 1 events ++
    bytesLE 1 p.stations.length ++ zeros 3 ++ bytesLE 4 p.code.length ++ bytesLE 4 p.tablesLen ++
    bytesLE 4 p.retainBytes ++ bytesLE 4 p.persistBytes ++ bytesLE 4 p.dataBytes ++ bytesLE 4 p.majorFrame ++ zeros 4056

/-- A symbol table entry (Table 10.3). -/
def symbolEntry (y : Symbol) : Bytes :=
  bytesLE 4 y.identity.toNat ++ bytesLE 1 y.ty ++ bytesLE 1 y.cls ++ bytesLE 1 y.owner ++
    bytesLE 1 (b2n (!y.init.isEmpty) + 2 * b2n (!y.safe.isEmpty)) ++ bytesLE 2 y.elements ++ bytesLE 1 y.bind ++
    bytesLE 1 y.bindUnit ++ bytesLE 4 y.bindOffset

/-- A bank's header, code and symbol table are those of a program (Table 10.1). The layouts of the other tables are not
given; what they hold comes with the program. -/
def bankHolds (blocks : List (Nat × Bytes)) (p : Program) : Bool :=
  have image := (List.range 32).flatMap (fun k =>
    have b := (blocks.find? (fun x => x.1 == k)).elim [] (·.2)
    b ++ List.replicate (65536 - b.length) 0xFF)
  slice image 0 4096 == programHeader p && slice image 0x1000 p.code.length == p.code &&
    slice image 0x181000 (16 * p.symbols.length) == p.symbols.flatMap symbolEntry

/-- What the read-back finds (R462 steps 2 and 3): a refusal with its block, or none. -/
def State.verifyRefusal (s : State) (m : Manifest) (readOk : Bool) (program : Option Program) : Option (Nat × Nat) :=
  have have_ := s.bankBlocks (s.spareBank (m.target - 1))
  match have_.find? (fun x => Config.sha256 x.2 != m.hashes.getD x.1 []) with
  | some x => some (12, x.1)
  | none =>
    if !readOk || s.spoilt (s.spareBank (m.target - 1)) then some (12, 0xFFFF)
    else if !s.manifestSigned m then some (7, 0xFFFF)
    else if m.target = 1 then (s.updBlocked).map (fun r => (r, 0xFFFF))
    else match program with
      | none => some (8, 0xFFFF)
      | some p =>
        if !bankHolds have_ p || !s.verifies p then some (8, 0xFFFF)
        else if !s.poolFits p then some (9, 0xFFFF)
        else (s.updBlocked).map (fun r => (r, 0xFFFF))

/-- The verified image: a pending activation with a try count of 0, or a program that awaits CHANGE (R462). -/
def State.acceptImage (s : State) (m : Manifest) (program : Option Program) : State :=
  have target := m.target - 1
  have k := s.spareBank target
  have d := s.cfg.dev
  have pend := target == 0 || s.update.activate
  have d1 : DeviceRec := if target = 0 then { d with fwPending := true, fwTries := 0, fwFailed := false }
    else { d with progPending := pend, progTries := 0, progFailed := false }
  have s1 := s.setBank k m.version (s.bankBlocks k)
  have s2 : State := { s1 with cfg := { s1.cfg with dev := d1 },
                               update := { s1.update with pendingFloor := if target = 0 then m.floor else s1.update.pendingFloor } }
  have s3 := if target = 0 then s2 else s2.setSpareProgram program true
  have s4 := ((if pend then s3.storeDevice else s3).showBanks.flag Reg.UPD_STAT Reg.UPD_STAT_COUNT 0).strobe Src.UPD_VERIFIED
    (target * 2 ^ 23 + b2n (s.spareIsB target) * 2 ^ 22 + m.version % 0x10000)
  have ops := s4.update.verifyOp.toList
  have body := bytesLE 4 m.version
  have s5 := s4.closeUpdate 4
  if pend then
    { s5 with cfg := { s5.cfg with devOps := s5.cfg.devOps ++ ops.map (fun o => (o, body)) } }
  else s5.completeAll ops St.OK body

/-- IMAGE_VERIFY_DONE (R462). -/
def execImageVerifyDone (readOk : Bool) (program : Option Program) (s : State) : Host.Outcome State Fault Refusal := s.whenVamp <|
  match s.update.manifest, s.update.verifyOp with
  | some m, some op =>
    if s.updState ≠ 3 then .next s
    else match s.verifyRefusal m readOk program with
      | some (r, block) =>
        have s1 := if r ≤ 3 then s.setFld Reg.UPD_SESSION 31 29 2 else s
        .next (({ s1 with update := { s1.update with verifyOp := none } } : State).refuseUpdate op r block)
      | none => .next (s.acceptImage m program)
  | _, _ => .next s

/-- The session closes without activation and what waits for it ends (R460). -/
def State.endUpdate (s : State) : State :=
  have waiting := s.update.eraseOp.toList ++ s.update.blockOp.toList ++ s.update.verifyOp.toList
  (s.closeUpdate 0).completeAll waiting St.ABORTED []

/-- IMAGE_ABORT: the session ends and the inactive bank is left invalid. -/
def State.imageAbort (s : State) (op : Nat) : State :=
  if s.updOpen then s.endUpdate.complete op St.OK []
  else s.complete op St.STATE []

/-- IMAGE_SESSION_TIMEOUT (R460): 600 s without an IMAGE command. -/
def execImageSessionTimeout (s : State) : Host.Outcome State Fault Refusal := s.whenVamp <|
  .next (if s.updOpen then s.endUpdate else s)

end Sys2Proof.Machine
end

