-- ==== Sys2Proof/Machine/Boot.lean ====
section
/-!
DEFINITION. Start-up (R1, R451, R454, R463, R481, R496 to R500): what a Boot keeps, what it loads from the Insole and
the configuration, and how it ends.
-/

namespace Sys2Proof.Machine

/-! What outlasts the start of a Boot. -/

/-- Registers, with the bits of each, that a Boot keeps: the spare count of the Insole always; the Sole's flags, log
head, liveness and NRST records and the live pins when the Sole stayed powered; and then also the comparator
with SAFETY set (R284). -/
def State.bootKept (s : State) (off : Bool) : List (Nat × Nat) :=
  have all := 2 ^ 32 - 1
  (Reg.MEM_INSOLE_INFO, 0xFF) ::
  (if off then [] else
    [(Reg.SOLE_STAT, all), (Reg.SOLE_STAT_COUNT, all), (Reg.SOLE_STAT_COUNT1, all), (Reg.SOLE_LIVE, all),
     (Reg.SOLE_RESET, all), (Reg.SOLE_LOG_HEAD, 0x3F), (Reg.PWR_STAT, 0x600), (Reg.CLK_STAT, 0x800),
     (Reg.RED_ROLE, 0x30000000)] ++
    ((List.range 4).filter (fun c => s.bit (Reg.SOLE_CMP_CFG c) 31)).flatMap (fun c =>
      [(Reg.SOLE_CMP_CFG c, all), (Reg.SOLE_CMP_THR c, all)]))

/-- The registers as a Boot finds them: their reset values, but for the bits it keeps. -/
def State.bootRegs (s : State) (off : Bool) : List (Nat × Word) :=
  (s.bootKept off).foldl (fun regs (x : Nat × Nat) =>
    have m := BitVec.ofNat 32 x.2
    Sparse.set regReset regs x.1 ((s.rd x.1 &&& m) ||| (regReset x.1 &&& ~~~m))) []

/-- The stamp in a set header (Table 16.5). -/
def headerStamp (h : Bytes) : Nat := fieldLE h 8 8

/-- The greatest stamp in the valid records that R451 lists. -/
def State.greatestStamp (s : State) : Nat :=
  have l := s.recorder.slotA.toList.map (·.stamp) ++ s.recorder.slotB.toList.map (·.stamp) ++
    s.est.slotA.toList.map (·.stamp) ++ s.est.slotB.toList.map (·.stamp) ++
    s.prg.persist.map (fun (x : Nat × PersistRec) => x.2.stamp) ++
    s.red.copyA.toList.map (fun c => headerStamp c.header) ++ s.red.copyB.toList.map (fun c => headerStamp c.header) ++
    s.saf.log.map (fun (x : Nat × LogEntry) => x.2.stamp)
  l.foldl max 0

/-- Power-cycle count and operating seconds of a Boot (R451): counts lost with VIN are restored from the greatest
stamp; a Boot from Off is one power cycle more. -/
def State.bootCounts (s : State) : Nat × Nat :=
  if s.mode != .off then (s.supply.powerCycles, s.supply.opSeconds)
  else if s.supply.aonLost then ((s.greatestStamp / 2 ^ 40 + 1) % 2 ^ 24, s.greatestStamp % 2 ^ 40)
  else ((s.supply.powerCycles + 1) % 2 ^ 24, s.supply.opSeconds)

/-- The recorder as it is loaded (R454): the newer summary, and the detail entries' sequence. -/
def Recorder.atBoot (r : Recorder) : Recorder :=
  have newest := match r.slotA, r.slotB with
    | some a, some b => some (if a.rseq < b.rseq then b else a)
    | some a, none => some a
    | none, b => b
  have seqs := r.ring.flatMap (fun (x : Nat × List DetailEntry) => x.2.map (·.seq))
  { counters := (newest.map (·.counters)).getD [], blocks := (newest.map (·.blocks)).getD [],
    nextEntry := if seqs.isEmpty then (newest.map (·.nextEntry)).getD 0 else (seqs.foldl max 0 + 1) % 2 ^ 32,
    ringPos := r.ringPos, ring := r.ring, ringErasing := r.ringErasing, slotA := r.slotA, slotB := r.slotB,
    erasing := r.erasing, soleScan := (newest.map (·.soleScan)).getD 0, soleStamp := (newest.map (·.soleStamp)).getD 0 }

/-- RSEQ and slot of the newest summary record. -/
def Recorder.newestSlot (r : Recorder) : Nat × Bool :=
  match r.slotA, r.slotB with
  | some a, some b => if a.rseq < b.rseq then (b.rseq, true) else (a.rseq, false)
  | some a, none => (a.rseq, false)
  | none, some b => (b.rseq, true)
  | none, none => (0, false)

/-- The safety channels at a Boot: nothing outlasts Off or Standby (R469); otherwise channel 2 goes on, and channel 1
starts afresh with the low-side outputs as R274 holds them. -/
def State.safAtBoot (s : State) (takeover : Bool) : Saf :=
  have old := s.saf
  have kept : Saf := { log := old.log, scans := old.scans, soleNs := old.soleNs, live := old.live }
  if s.mode == .off then {}
  else if takeover then kept
  else { kept with
    findings := (old.findings.filter (fun f => f.lat2)).map (fun f =>
      { f with src1 := false, lat1 := false }),
    ch1 := { sw := old.ch1.sw }, ch2 := { old.ch2 with rx := none, rxAt := none, permitted := false, tx := none },
    readback := old.readback }

/-- The Last at takeover (R481): source 0 the committed sets, 1 an Insole copy, 2 neither. -/
def State.lastSource (s : State) : Nat :=
  if s.red.full.isSome then 0 else if s.red.copyA.isSome || s.red.copyB.isSome then 1 else 2

/-- The newer Insole copy of the Last: the greater stamp. -/
def Red.newestCopy (r : Red) : Option LastCopy :=
  match r.copyA, r.copyB with
  | some a, some b => some (if headerStamp a.header < headerStamp b.header then b else a)
  | some a, none => some a
  | none, b => b

/-- A copy of the Last commits into the slot that does not hold the newest copy; the other slot's erase follows
(R183, R478). -/
def Red.copied (r : Red) (c : LastCopy) : Red :=
  have toB := match r.copyA, r.copyB with
    | some a, some b => decide (headerStamp b.header ≤ headerStamp a.header)
    | some _, none => true
    | none, _ => false
  if toB then { r with copyA := none, copyB := some c } else { r with copyA := some c, copyB := none }

/-- The checkpoints of a takeover (R482): what their slot bytes hold, their sweep, their factor, and whether they are younger than
10 s. -/
def State.lastCkpts (s : State) : List (Nat × Ckpt) :=
  have base := s.areaBase 11
  have read := fun (cell : Nat) (fresh factor : Bool) (bs : Bytes) =>
    have c := { Ctx.ofSlot (bs.drop 32) with full := if factor then some 0 else none }
    (cell, { ctx := c, sweep := fieldLE bs 2 2, good := fresh })
  match s.lastSource with
  | 0 =>
    have young := match s.red.fast, s.red.full with
      | some f, _ => decide (s.monoNs < f.commitNs + 10000000000)
      | none, some f => decide (s.monoNs < f.commitNs + 10000000000)
      | none, none => false
    s.cells.map (fun cell =>
      have bs := s.getBytes (base + 6144 * (cell - 1)) 1760
      read cell young (fieldLE bs 5 1 % 2 == 1) bs)
  | 1 =>
    match s.red.newestCopy with
    | none => []
    | some c =>
      have young := decide (s.stamp < headerStamp c.header + 10)
      c.cells.map (fun (x : Nat × Bytes) => read x.1 young false x.2)
  | _ => []

/-- Tries of pending activations (R463): one more try starts the pending bank; a fourth start marks it failed. -/
def DeviceRec.tried (d : DeviceRec) : DeviceRec :=
  have fwGone := d.fwPending && decide (3 ≤ d.fwTries)
  have progGone := d.progPending && decide (3 ≤ d.progTries)
  { d with
    fwPending := d.fwPending && !fwGone, fwFailed := d.fwFailed || fwGone,
    fwTries := if d.fwPending && !fwGone then d.fwTries + 1 else d.fwTries,
    progPending := d.progPending && !progGone, progFailed := d.progFailed || progGone,
    progTries := if d.progPending && !progGone then d.progTries + 1 else d.progTries }

/-- The update unit at a Boot: banks as they stand, the firmware bank that runs, and what has been rolled back. -/
def State.updateAtBoot (s : State) (d : DeviceRec) : Update :=
  have u := s.update
  have old := s.cfg.devStored
  have spare := fun (target : Nat) (b : Bool) => s.bankVersion (2 * target + b2n (!b))
  { bank0 := u.bank0, bank1 := u.bank1, bank2 := u.bank2, bank3 := u.bank3, ver0 := u.ver0, ver1 := u.ver1,
    ver2 := u.ver2, ver3 := u.ver3, pendingFloor := u.pendingFloor,
    runsB := d.fwB != d.fwPending,
    rolledFw := if d.fwFailed && !old.fwFailed then some (spare 0 d.fwB) else none,
    rolledProg := if d.progFailed && !old.progFailed then some (spare 1 d.progB) else none }

/-- The estimator at a Boot: the journal's slots, and at takeover the checkpoints of the Last. A slot that was being
programmed is left undefined and fails its CRC (R24, R184). -/
def State.estAtBoot (s : State) (takeover : Bool) : Est :=
  have cut := s.est.writing.isSome
  { slotA := if cut && !s.journalToB then none else s.est.slotA,
    slotB := if cut && s.journalToB then none else s.est.slotB,
    erasing := s.est.erasing, readOnly := s.est.readOnly, ckpts := if takeover then s.lastCkpts else [] }

/-- GSRAM at a Boot: the memory self-test of step 5 leaves it cleared; a takeover keeps areas 11 and 12 and the
program pool (R481). -/
def State.gsramAtBoot (s : State) (takeover : Bool) : List Host.Cell :=
  if takeover then s.gsram.filter (fun c =>
    (decide (s.areaBase 10 ≤ c.1) && decide (c.1 < s.areaBase 12)) || (decide (s.fixedEnd ≤ c.1) && decide (c.1 < userPool)))
  else []

/-- The state that a Boot starts from: the Vamp's reset values beside what the Insole, the Sole and the AON domain hold
(R5, R491, R496). -/
def State.bootFresh (s : State) (takeover : Bool) : State :=
  have off := s.mode == .off
  have counts := s.bootCounts
  have d := s.cfg.devStored.tried
  { regs := s.bootRegs off, gsram := s.gsramAtBoot takeover, mode := .boot, out := s.out,
    free := s.free, pending := s.pending,
    supply := {
      nrstAt := s.supply.nrstAt, insoleHold := s.supply.insoleHold && !off, powerCycles := counts.1, opSeconds := counts.2,
      takeover := takeover, source := if takeover then s.lastSource else 3 },
    links := { readOnly := s.links.readOnly },
    cfg := {
      slotA := s.cfg.slotA, slotB := s.cfg.slotB, bytesA := s.cfg.bytesA, bytesB := s.cfg.bytesB, dev := d, devStored := d,
      safety := s.cfg.safety, k1 := s.cfg.k1, k2 := s.cfg.k2 },
    recorder := s.recorder.atBoot, update := s.updateAtBoot d,
    prg := { bankA := s.prg.bankA, bankB := s.prg.bankB, okA := s.prg.okA, okB := s.prg.okB, persist := s.prg.persist },
    saf := s.safAtBoot takeover, est := s.estAtBoot takeover,
    tth := if off || takeover then {} else { tapA := s.tth.tapA, tapB := s.tth.tapB, chainLost := s.tth.chainLost },
    red := {
      fast := if takeover then s.red.fast else none, full := if takeover then s.red.full else none,
      learned := if takeover then s.red.learned else none, copyA := s.red.copyA, copyB := s.red.copyB } }

/-- Boot begins: the values it keeps, the cause, the marks that the stored records set. The event controller has reset
too, so the entry into Boot is not strobed (R505). -/
def State.beginBoot (s : State) (cause : Nat) (takeover : Bool) : State :=
  have d := s.cfg.devStored.tried
  have why := if takeover then s.fld Reg.SYS_RESET_CAUSE 3 0 else cause
  have copy := if takeover && s.lastSource == 1 then s.red.newestCopy else none
  have t := s.bootFresh takeover
  have t1 : State := match copy with
    | none => t
    | some c => c.cells.foldl (fun (u : State) (x : Nat × Bytes) => u.putBytes (s.areaBase 11 + 6144 * (x.1 - 1)) x.2) t
  have slot := s.recorder.newestSlot
  have t2 := (((t1.wr Reg.SYS_RESET_CAUSE (BitVec.ofNat 32 why)).setFld Reg.SYS_BOOT 31 28 3).wr Reg.REC_RSEQ
    (BitVec.ofNat 32 slot.1)).setBit Reg.REC_STAT 8 slot.2
  have t3 := (t2.setBit Reg.REC_STAT 10 (decide (t2.spares ≤ 4))).setFld Reg.CLK_STAT 10 8 7
  have t4 := t3.setBit Reg.RED_PERSIST 31 (t3.red.newestCopy.isSome && t3.red.newestCopy == t3.red.copyB)
  (t4.setBit Reg.PRG_STATE 10 (d.progB != d.progPending)).setFld Reg.CLK_AON 15 0 (getBits t4.freeWord 15 0) |>.drawn

/-! Registers from the configuration. -/

/-- A register set from a number. -/
def State.wrN (s : State) (r v : Nat) : State := s.wr r (BitVec.ofNat 32 v)

/-- System, chain, sweep and PCS registers (R1, R112, R119, R226). -/
def State.loadSystem (s : State) : State :=
  have n := s.cfgN
  have s1 := s.wrN Reg.SYS_CONFIG (n 1 0 0 0 * 2 ^ 31 + n 1 1 0 0 * 2 ^ 30 + n 1 3 0 0 * 2 ^ 16 + n 1 4 0 0)
  have s2 := (s1.wrN Reg.SYS_CONFIG_SEQ s.cfg.seq).wrN Reg.TTH_CONFIG (n 2 0 0 0 * 2 ^ 8 + n 1 4 0 0)
  have s3 := s2.wrN Reg.SWP_CONFIG (n 2 2 0 400 * 2 ^ 16 + n 2 3 0 20 * 2 ^ 8 + n 2 1 0 100)
  have s4 := s3.wrN Reg.SWP_CURRENT_CFG (n 2 5 0 0 * 2 ^ 16 + n 2 4 0 0)
  have s5 := (s4.setFld Reg.SWP_RATE 26 24 (n 2 7 0 4)).wr Reg.SWP_LOW_I
    (f32Div (f32Mul (s.cfgW 2 6 0 f32One) s.iRated) (f32OfInteger 100))
  have amp := (f32ToInt .away 0 255 10 (s.cfgW 2 10 0 0x40000000)).toNat
  have s6 := s5.wrN Reg.SWP_BURST_CFG (amp * 2 ^ 24 + n 2 9 0 6 * 2 ^ 16 + n 2 8 0 600)
  s6.wrN Reg.PCS_CONFIG (n 6 0 0 20 * 2 ^ 24 + n 6 1 0 192 / 32 * 2 ^ 20 + n 6 3 0 1 * 2 ^ 18 + n 6 2 0 0)

/-- The control engine: trims, slope, limit, the register image in its order, and the commit (R190, R209, R219). -/
def State.loadControl (s : State) : State :=
  have s1 := (List.range 8).foldl (fun (t : State) i =>
    t.wr (Reg.CTL_ADC_TRIM i) (t.cfgW 5 0 i (regReset (Reg.CTL_ADC_TRIM i)))) s
  have s2 := (s1.wr Reg.CTL_DROGUE_SLOPE (s1.cfgW 5 1 0 0)).wr Reg.CTL_AWL_LIMIT (s1.cfgW 5 2 0 0x66666)
  have image := (s2.cfgVals 5 3).getD []
  have s3 := (List.range (image.length / 2)).foldl (fun (t : State) i =>
    have off := (image.getD (2 * i) 0).toNat
    have a := 0x40090000 + off
    have m := (regRow a).rw ||| (regRow a).rwl
    if off < 0x20000 then t.wr a ((t.rd a &&& ~~~m) ||| (image.getD (2 * i + 1) 0 &&& m)) else t) s2
  { s3 with ctl := { s3.ctl with committed := true } }

/-- Network, time, command, recorder and redundancy registers. -/
def State.loadNetwork (s : State) : State :=
  have n := s.cfgN
  have mac := Config.mac.toNat % 2 ^ 48
  have s1 := (s.wrN Reg.ETH_MAC_HI (mac / 2 ^ 32)).wrN Reg.ETH_MAC_LO (mac % 2 ^ 32)
  have s2 := s1.wrN Reg.ETH_CONFIG (n 7 0 0 0 * 2 ^ 30 + n 7 1 0 0 * 2 ^ 28 + n 7 2 0 0 * 2 ^ 27 + n 7 3 0 0 * 2 ^ 26 +
    n 7 7 0 0 * 2 ^ 23 + n 7 6 0 0)
  have s3 := s2.setFld Reg.ETH_PRP_NODES 31 16 (n 7 8 0 3000)
  have s4 := s3.wrN Reg.TIM_CONFIG (n 7 11 0 0 * 2 ^ 24 + (n 7 13 0 6 - 6) * 2 ^ 23 + n 7 14 0 10000 / 1000)
  have s5 := s4.wrN Reg.CMD_CONFIG (n 7 15 0 0 * 2 ^ 16 + n 7 16 0 300)
  have d := s5.cfg.dev
  have s6 := s5.wrN Reg.CMD_OWNER (b2n d.key.isSome * 2 ^ 31 + b2n d.configLock * 2 + b2n d.updateLock)
  have s7 := s6.wrN Reg.REC_CONFIG (n 9 0 0 15 * 2 ^ 16 + n 9 1 0 6)
  have s8 := s7.wrN Reg.RED_CONFIG (n 1 0 0 0 * 2 ^ 31 + n 9 2 0 15)
  s8.setFld Reg.RED_ROLE 31 30 (if n 1 0 0 0 = 0 then 0 else if s8.bit Reg.RED_ROLE 28 then 1 else 2)

/-- Welt connections and mappings from the stored safety set (R289, R297). -/
def State.loadWelt (s : State) : State :=
  have s1 := (List.range 32).foldl (fun (t : State) c =>
    have w := fun i => t.cfgW 10 (21 + c) i 0
    (((t.wr (Reg.WLT_CONN_CFG c) (w 0)).wr (Reg.WLT_CONN_TIME c) (w 1)).wr (Reg.WLT_CONN_ADDR c) (w 2)).wr
      (Reg.WLT_CONN_ID c) (w 3)) s
  have s2 := (List.range 16).foldl (fun (t : State) i => t.wr (Reg.WLT_VMAP i) (t.cfgW 10 (53 + i) 0 0)) s1
  s2.wrN Reg.WLT_PORT (s2.cfgN 7 17 0 38811)

/-- Dedicated buffers of a controller (R435): each Welt connection's identifier, plus 1 for a producer, then those
of the configuration. -/
def State.canBuffers (s : State) (n : Nat) : List Word :=
  have welt := ((List.range 32).filter (fun c => s.weltEnabled c && s.weltCan c &&
    s.fld (Reg.WLT_CONN_CFG c) 28 27 == n)).map (fun c =>
      BitVec.ofNat 32 (2 ^ 31 + b2n (s.bit (Reg.WLT_CONN_ADDR c) 31) * 2 ^ 29 +
        (s.fld (Reg.WLT_CONN_ADDR c) 28 0 + b2n (s.weltProducer c)) % 2 ^ 29))
  have own := ((List.range 8).map (fun b => s.canItem n 8 b (Reg.CAN_BUF_CFG n b))).filter (fun w => getBit w 31)
  welt ++ own

/-- Filters of a controller (R435): one of TARGET 3 per station input identifier, then those of the configuration. -/
def State.canFilters (s : State) (n : Nat) : List (Word × Word) :=
  have stations := match s.program with
    | none => []
    | some p => (p.stations.filter (fun (x : Nat × StationDef) => x.2.carrier == n)).map (fun (x : Nat × StationDef) =>
        (BitVec.ofNat 32 (3 * 2 ^ 30 + b2n x.2.extended * 2 ^ 29 + (x.2.address + 1) % 2 ^ 29), (0x9FFFFFFF : Word)))
  have own := ((List.range 64).map (fun f =>
    (s.canItem n 9 f (Reg.CAN_FLT_ID n f), s.canItem n 10 f (Reg.CAN_FLT_MASK n f)))).filter (fun (x : Word × Word) => getBit x.2 31)
  stations ++ own

/-- A CAN controller's registers, its buffers and filters, and its commit (R435, R444). -/
def State.loadCan (s : State) (n : Nat) : State :=
  have put := fun (t : State) (j r : Nat) =>
    have m := (regRow r).rwl
    t.wr r ((t.rd r &&& ~~~m) ||| (t.canItem n j 0 r &&& m))
  have s1 := put (put (put (put s 0 (Reg.CAN_MODE n)) 1 (Reg.CAN_NBT n)) 2 (Reg.CAN_DBT n)) 3 (Reg.CAN_TDC n)
  have s2 := put (put (put (put s1 4 (Reg.CAN_WAKE_ID n)) 5 (Reg.CAN_WAKE_MASK n)) 6 (Reg.CAN_TT_CFG n)) 7 (Reg.CAN_TT_PERIOD n)
  have bufs := s.canBuffers n
  have flts := s.canFilters n
  have s3 := (List.range (min 8 bufs.length)).foldl (fun (t : State) b => t.wr (Reg.CAN_BUF_CFG n b) (bufs.getD b 0)) s2
  have s4 := (List.range (min 64 flts.length)).foldl (fun (t : State) f =>
    (t.wr (Reg.CAN_FLT_ID n f) (flts.getD f (0, 0)).1).wr (Reg.CAN_FLT_MASK n f) (flts.getD f (0, 0)).2) s3
  s4.setCanCtl n { s4.canCtl n with committed := true }

/-! The safety set (R264, R280). -/

/-- The code at which the I_B input shows a current, to the nearest code. -/
def State.codeOfB (s : State) (i : Word) : Nat :=
  wrapInt 14 (f32ToInt .away (-0x2000) 0x1FFF 1 (f32Add (s.cfgW 10 6 5 0) (f32Div i (s.cfgW 10 6 4 0))))

/-- Channel 2 loads its comparator from the set (R264, R284). -/
def State.loadComparator (s : State) : State :=
  match s.cfgVals 10 7 with
  | none => s
  | some vs =>
    have c := (vs.getD 2 0).toNat % 4
    have others := (List.range 4).foldl (fun (t : State) k =>
      if k != c && t.bit (Reg.SOLE_CMP_CFG k) 31 then
        (t.wr (Reg.SOLE_CMP_CFG k) (regReset (Reg.SOLE_CMP_CFG k))).wr (Reg.SOLE_CMP_THR k) (regReset (Reg.SOLE_CMP_THR k))
      else t) s
    (others.wrN (Reg.SOLE_CMP_CFG c) (3 * 2 ^ 30 + s.cfgN 10 6 1 0 % 8)).wrN (Reg.SOLE_CMP_THR c)
      (s.codeOfB (vs.getD 0 0) * 2 ^ 16 + s.codeOfB (f32Neg (vs.getD 1 0)))

/-- The stored set goes into both channels, which compute its CRC; I_RATED and I_A are compared with the image
(R280). Without a stored set no close is admitted. -/
def State.loadSafety (s : State) : State :=
  have bytes := (s.cfg.safety.map (·.bytes)).getD []
  have crc := crc32 bytes
  have s1 : State := { s with saf := { s.saf with
    setBytes := bytes, storedCrc := crc, ch1 := { s.saf.ch1 with crc := crc }, ch2 := { s.saf.ch2 with crc := crc },
    crcDiffer := false,
    cfgDiffer := s.cfg.safety.isNone || s.cfgW 10 5 0 0 != s.iRated || s.cfgN 10 6 0 8 != s.cfgN 2 4 0 9 } }
  have s2 := ((s1.wr Reg.SAF_PARAM_CRC crc).wr Reg.SAF_PARAM_SOLE_CRC crc).wr Reg.SOLE_PARAM_CRC crc
  have s3 := s2.loadComparator
  if s3.saf.cfgDiffer && s3.cfg.safety.isSome then s3.safEvent Src.SAF_PARAM_MISMATCH 3 else s3

/-! The hold-up self-test starts (R489). -/

/-- The test starts with the mean input current: HOLD_GATE goes off. -/
def State.startHoldup (s : State) (iinMa : Nat) : State :=
  if s.supply.testIin.isSome then s
  else
    have s1 := ((s.setBit Reg.PWR_CTRL 0 true).setBit Reg.PWR_STAT 8 true).setBit Reg.PWR_STAT 10 false
    { s1 with supply := { s1.supply with testIin := some iinMa, testAt := s1.supply.opSeconds } }

/-! Steps 1 to 11. -/

/-- The valid image with the greater CONFIG_SEQ, and its bytes (R499). -/
def ConfigArea.newest (c : ConfigArea) : Option (CfgImage × Bytes) :=
  match c.slotA, c.slotB with
  | some a, some b => some (if a.seq < b.seq then (b, c.bytesB) else (a, c.bytesA))
  | some a, none => some (a, c.bytesA)
  | none, some b => some (b, c.bytesB)
  | none, none => none

/-- The end of a run of bytes, as a number: the CRC-32 that ends an image. -/
def endCrc (bs : Bytes) : Nat := fieldLE bs (bs.length - 4) 4

/-- A configuration is refused (R500): SYS_CONFIG_REFUSED and its flag. -/
def State.reportRefused (s : State) (r : Refused) : State :=
  (s.flag Reg.SYS_STAT Reg.SYS_STAT_COUNT 0).strobe Src.SYS_CONFIG_REFUSED
    (r.sec % 256 * 2 ^ 16 + min 255 r.item * 2 ^ 8 + r.reason)

/-- The controller is a standby that waits for its grant. -/
def State.standbyBound (s : State) : Bool := s.compat && !s.bit Reg.RED_ROLE 28

/-- Without an image the controller stays in Boot (R499). -/
def State.holdUnconfigured (s : State) (r : Refused) : State :=
  have s1 := (s.reportRefused r).setBit Reg.SYS_STAT 10 true
  have s2 : State := { s1 with supply := { s1.supply with loaded := true, unconfigured := true } }
  s2.showBanks.setFld Reg.SYS_BOOT 31 28 4

/-- The configured functions start (steps 5 to 11 of Table 17.4). -/
def State.bootConfigured (s : State) : State :=
  have s1 := s.loadSystem.loadNetwork.placeAreas.showBanks
  have blocks := s1.recorder.blocks.filter (fun (x : Nat × RecBlock) => decide (x.1 ≤ s1.cellCount))
  have s2 : State := { s1 with recorder := { s1.recorder with blocks := blocks },
                               est := { s1.est with replanAll := true },
                               supply := { s1.supply with loaded := true } }
  have s3 := (List.range 4).foldl State.loadCan s2.loadControl.loadWelt
  have s4 := s3.loadSafety
  have s5 : State := { s4 with saf := { s4.saf with ch1On := true } }
  have s6 := (s5.drive 1).drive 2
  have s7 := ((List.range 32).filter s6.weltEnabled).foldl (fun (t : State) c => t.weltArming c 0) s6
  have s8 := ((s7.startHoldup (getBits s7.freeWord 15 0)).drawn.journalLoad).copySole
  have s9 := if s8.standbyBound then s8 else s8.rewriteReports.enumerate
  s9.setFld Reg.SYS_BOOT 31 28 (if s9.standbyBound then 9 else 11)

/-- Steps 1 to 11 of Table 17.4, once in a Boot. -/
def State.bootLoad (s : State) : State :=
  if !s.supply.booting || s.supply.loaded || !s.vampOn then s
  else
    have serial := Config.serial.toNat
    have s0 := (s.wrN Reg.SYS_SERIAL_HI (serial % 2 ^ 32)).wrN Reg.SYS_SERIAL_LO (serial / 2 ^ 32)
    match s0.cfg.newest with
    | none => s0.holdUnconfigured ⟨0, 0, 4⟩
    | some x =>
      match s0.configRefusal x.1.items with
      | some r => s0.holdUnconfigured r
      | none =>
        have t := s0.withItems x.1.items
        ({ t with cfg := { t.cfg with seq := x.1.seq, crc := endCrc x.2 } } : State).bootConfigured

/-! The end of Boot. -/

/-- Boot is held (R498, R499). -/
def State.holdBoot (s : State) (result ms : Nat) : State :=
  have s1 := s.setBit Reg.SYS_STAT 8 true
  have s2 : State := { s1 with supply := { s1.supply with bootHeld := true, booting := false } }
  (s2.setFld Reg.SYS_BOOT 15 0 (min 0xFFFF ms)).strobe Src.SYS_BOOT_DONE (result * 2 ^ 20 + min 0xFFFF ms)

/-- A failed bank is reported once the bank in its place runs (R463). -/
def State.reportRollback (s : State) (target : Nat) (bank : Bool) (version : Nat) : State :=
  (s.flag Reg.UPD_STAT Reg.UPD_STAT_COUNT 3).strobe Src.UPD_ROLLBACK
    (target * 2 ^ 23 + b2n bank * 2 ^ 22 + version % 0x10000)

/-- The firmware bank that runs after the checks of step 4 (R498), none where Boot is held. bad has bit b for a bank
that fails. A pending bank that fails is marked failed and the previous bank starts. -/
def State.checkFirmware (s : State) (bad : Nat) : Option State :=
  have fails := fun (b : Bool) => bad / 2 ^ b2n b % 2 == 1
  have d := s.cfg.dev
  have run := s.update.runsB
  have other := s.bankVersion (b2n (!run))
  if !fails run then some s
  else if fails (!run) then none
  else if run != d.fwB then
    have d1 : DeviceRec := { d with fwPending := false, fwFailed := true }
    have s1 : State := { s with cfg := { s.cfg with dev := d1 },
                                update := { s.update with runsB := !run, rolledFw := some (s.bankVersion (b2n run)) } }
    some s1.storeDevice
  else if other = 0 ∨ d.fwFailed ∨ other < d.floor then none
  else some { s with update := { s.update with runsB := !run, rolledFw := some (s.bankVersion (b2n run)) } }

/-- Roll-backs are reported once the bank in its place runs. -/
def State.reportRollbacks (s : State) : State :=
  have s1 := match s.update.rolledFw with
    | none => s
    | some v => s.reportRollback 0 s.update.runsB v
  have s2 := match s.update.rolledProg with
    | none => s1
    | some v => s1.reportRollback 1 (s1.bit Reg.PRG_STATE 10) v
  { s2 with update := { s2.update with rolledFw := none, rolledProg := none } }

/-- An image reaches Run (R463): the pending banks become active and a higher firmware FLOOR replaces the stored one. -/
def State.reachRun (s : State) : State :=
  have d := s.cfg.dev
  if !d.fwPending && !d.progPending then s
  else
    have fw := d.fwPending && s.update.runsB != d.fwB
    have d1 : DeviceRec := { d with
      fwB := if fw then s.update.runsB else d.fwB, fwPending := d.fwPending && !fw,
      fwTries := if fw then 0 else d.fwTries, floor := if fw then max d.floor s.update.pendingFloor else d.floor,
      progB := if d.progPending then s.bit Reg.PRG_STATE 10 else d.progB, progPending := false,
      progTries := if d.progPending then 0 else d.progTries }
    ({ s with cfg := { s.cfg with dev := d1 } } : State).storeDevice.showBanks

/-- A start of the tasks on a command: a pending image then reaches Run. -/
def State.hostRun (s : State) : State := if s.mayRun then s.runTasks.reachRun else s

/-- PRG_RUN_REQ (R324). -/
def execPrgRunReq (s : State) : Host.Outcome State Fault Refusal := s.whenVamp <|
  .next s.hostRun

/-- The published values of the Last at takeover (R483): the whole image of a fast set, or the RETAIN and PERSIST
data of an Insole copy, with the PROG_ID they belong to. -/
def State.lastImage (s : State) : Option (Nat × Bool × Bytes) :=
  match s.supply.source with
  | 0 => s.red.fast.map (fun f => (fieldLE f.header 20 4, true, s.getBytes s.fixedEnd (fieldLE f.header 26 4)))
  | 1 => s.red.newestCopy.map (fun c => (fieldLE c.header 20 4, false, c.data))
  | _ => none

/-- VAR, OUTPUT, RETAIN and PERSIST symbols take the Last's values (R483). -/
def State.takeImage (s : State) (p : Program) (last : Nat × Bool × Bytes) : State :=
  if last.1 ≠ p.progId.toNat then s
  else if last.2.1 then
    (elements p (fun y => decide (1 ≤ y.cls) && decide (y.cls ≤ 4))).foldl (fun (t : State) x =>
      t.publishValue p x.1 x.2.2 (valAt x.2.1.ty last.2.2 (symOffset p x.1 + typeSize x.2.1.ty * x.2.2))) s
  else
    ((elements p (fun y => y.cls == 3 || y.cls == 4)).foldl (fun (a : State × Bytes) x =>
      (a.1.publishValue p x.1 x.2.2 (valAt x.2.1.ty a.2 0), a.2.drop (typeSize x.2.1.ty))) (s, last.2.2)).1

/-- The active program runs, or there is none (steps 14 and 15). -/
def State.startProgram (s : State) : State :=
  have last := if s.supply.takeover then s.lastImage else none
  have s1 := s.loadProgram
  match s1.program with
  | none => s1
  | some p =>
    if s1.mode != .boot then s1
    else
      have s2 := s1.startTasks p
      match last with
      | none => s2
      | some x => s2.takeImage p x

/-- Contexts are placed where no plan has placed any (step 11). -/
def State.placeContexts (s : State) : State :=
  if s.est.ctxs.isEmpty && !s.est.monitored.isEmpty then
    ({ s with est := { s.est with replanAll := false } } : State).applyPlan s.makePlan
  else s

/-- The high time of ARB_ALIVE that Table 16.2 gives, µs: 0 with the active role withdrawn. -/
def State.aliveUs (s : State) : Nat :=
  match s.fld Reg.RED_ROLE 31 30 with
  | 3 => 0
  | 2 => if s.bit Reg.RED_STAT 9 || s.red.fast.isNone then 800 else 600
  | _ => if (s.mode == .run || s.mode == .stop) && !s.drogue then 200 else 400

/-- The wave that runs takes the code that now holds (R479, Table 16.2). -/
def State.aliveFollows (s : State) : State :=
  if s.fld Reg.RED_ROLE 7 0 = 0 then s else s.setFld Reg.RED_ROLE 7 0 (s.aliveUs / 10)

/-- The Last becomes stale (R479): the age of the newest fast set in 10 ms, saturating where there is none. -/
def State.lastStale (s : State) : State :=
  if s.bit Reg.RED_STAT 9 then s
  else
    have age := match s.red.fast with
      | none => 0xFFFF
      | some f => min 0xFFFF ((s.monoNs - f.commitNs) / 10000000)
    (s.setBit Reg.RED_STAT 9 true).aliveFollows.strobe Src.RED_LAST_STALE (2 ^ 23 + age)

/-- Boot ends: DMA in service mode, Run or Standby, SYS_BOOT_DONE. In Safe the state stays. -/
def State.endBoot (s : State) (ms : Nat) : State :=
  have standby := s.standbyBound
  have s1 := if standby then s else s.placeContexts.startProgram
  have s2 := (s1.setFld Reg.DMA_MODE 1 0 0).wrN Reg.SYS_BOOT (15 * 2 ^ 28 + min 0xFFFF ms)
  have s3 : State := { s2 with supply := { s2.supply with booting := false, takeover := false } }
  have s4 := if s3.mode != .boot then s3
    else (if standby then (s3.setMode .standby false).lastStale.weltIdle else s3.setMode .run false).reachRun
  s4.reportRollbacks.strobe Src.SYS_BOOT_DONE (b2n standby * 2 ^ 20 + min 0xFFFF ms)

/-- Estimation units that failed their self-test (R129). -/
def State.failUnits (s : State) (failed : List Nat) : State :=
  ({ s with est := { s.est with
    units := (failed.filter (fun u => decide (u < 288))).foldl (fun l u => tset 0 l u 5) s.est.units } } : State).showEst

/-- BOOT_COMPLETE (R129, R496 to R498): the estimation units whose self-test failed, the bank images whose signature does not hold,
and the time that the Boot took. -/
def execBootComplete (failedUnits : List Nat) (badBanks bootMs : Nat) (s : State) : Host.Outcome State Fault Refusal :=
  if !s.supply.booting || !s.vampOn || !(s.mode == .boot || s.mode == .safe) then .next s
  else
    match s.checkFirmware badBanks with
    | none => .next (s.bootLoad.holdBoot 3 bootMs)
    | some s1 =>
      have s2 := s1.bootLoad
      .next (if s2.supply.unconfigured then s2.holdBoot 2 bootMs else (s2.failUnits failedUnits).endBoot bootMs)

/-- What the block does when no command waits: steps 1 to 11 of a Boot that has begun, else one TIME cycle. -/
def State.idle (s : State) : State :=
  if s.supply.booting && !s.supply.loaded && s.vampOn then s.bootLoad else s.timeCycle

end Sys2Proof.Machine
end

