-- ==== Sys2Proof/Machine/Supply.lean ====
section
/-!
DEFINITION. Supply, resets, clocks and temperatures (R274, R486 to R495, R504), and the commits of the configuration
area (R499).
-/

namespace Sys2Proof.Machine

/-! VIN (Table 17.1). -/

/-- VIN_VALID (R486): Off to Boot while NRST is released. -/
def execVinValid (s : State) : Host.Outcome State Fault Refusal :=
  if s.mode != .off then .next s
  else if s.supply.nrstLow then .next { s with supply := { s.supply with vinOk := true } }
  else .next (s.beginBoot 0 false)

/-- What VIN_LOW does to the write that runs (R184, R343, R453). The Last's copy is finished or abandoned as the journal's
write is. -/
def State.cutWrite (s : State) (pagesLeft : Nat) : State :=
  match s.insoleNext with
  | some .journal => s.journalCut pagesLeft
  | some .last =>
    match s.red.copying with
    | none => s
    | some c =>
      if pagesLeft ≤ 3 then { s with red := { s.red.copied c with copying := none, copiedAt := some s.tim.mono.sec } }
      else { s with red := { s.red with copying := none } }
  | some .persist => s.persistCut pagesLeft
  | some .recorder =>
    match s.recorder.writing with
    | none => s
    | some (cause, r) => if pagesLeft ≤ 3 then s.recCommit cause r else s.recAbandon
  | _ => s

/-- PWR.TEMP.VIN_MIN_MV keeps the lowest VIN since Boot. -/
def State.lowestVin (s : State) (mv : Nat) : State :=
  have low := s.fld Reg.PWR_TEMP 31 16
  s.setFld Reg.PWR_TEMP 31 16 (if low = 0 then min 0xFFFF mv else min low mv)

/-- VIN_LOW (R184, R486): PWR_VIN_LOW, and no Insole program or erase starts until VIN_RESTORED. -/
def execVinLow (vinMv pagesLeft : Nat) (s : State) : Host.Outcome State Fault Refusal :=
  if s.mode == .off || s.supply.insoleHold then .next s
  else
    have s1 := ({ s with supply := { s.supply with insoleHold := true } } : State).setBit Reg.PWR_STAT 9 true
    if s1.vampOn then
      have s2 := s1.lowestVin vinMv
      .next (((s2.flag Reg.PWR_STAT Reg.PWR_STAT_COUNT 0).strobe Src.PWR_VIN_LOW (min 0xFFFF vinMv)).cutWrite pagesLeft)
    else .next s1

/-- A trigger of the recorder that merges those held (R453). -/
def State.recTriggerMerged (s : State) (cause : Nat) : State :=
  if s.recorder.held.isEmpty then s.recTrigger cause
  else ({ s with recorder := { s.recorder with held := s.recorder.held ++ [cause] } } : State).recResume

/-- VIN_RESTORED (R182, R453, R486). -/
def execVinRestored (lowestMv : Nat) (s : State) : Host.Outcome State Fault Refusal :=
  if s.mode == .off || !s.supply.insoleHold then .next s
  else
    have s1 := ({ s with supply := { s.supply with insoleHold := false } } : State).setBit Reg.PWR_STAT 9 false
    if s1.vampOn then
      have s2 := ((s1.lowestVin lowestMv).flag Reg.PWR_STAT Reg.PWR_STAT_COUNT 1).strobe Src.PWR_VIN_RESTORED (min 0xFFFF lowestMv)
      .next ((s2.journalTrigger 5).recTriggerMerged 3)
    else .next s1

/-- VIN_UV (R490, R211): every switch off, no slot running, all PWM pins low, kill wires and reset asserted, rails down; the AON counts and the always-on
log are lost. -/
def execVinUv (s : State) : Host.Outcome State Fault Refusal :=
  if s.mode == .off then .next s
  else
    have s1 := ((s.setBit Reg.PWR_STAT 10 false).wr Reg.PWR_RAILS 0).wr Reg.CTL_RUN 0
    .next { s1 with
      ctl := {}, mode := .off, drogue := false, saf := { ch1 := { kill := true }, ch2 := { kill := true } },
      supply := { s1.supply with
        vinOk := false, held := false, thermalHold := false, refclkLost := false, insoleHold := false, testIin := none, aonLost := true } }

/-! Hold-up (R488, R489). -/

/-- VSUP_FALL (R488). -/
def execVsupFall (s : State) : Host.Outcome State Fault Refusal :=
  .next (if s.mode == .off then s else s.setBit Reg.PWR_STAT 10 false)

/-- VSUP_RISE (R488): the gate stays off during the self-test and a thermal shutdown. -/
def execVsupRise (s : State) : Host.Outcome State Fault Refusal :=
  .next (if s.mode == .off || s.supply.testIin.isSome || s.supply.thermalHold then s else s.setBit Reg.PWR_STAT 10 true)

/-- HOLDUP_TEST (R489). -/
def execHoldupTest (iinMa : Nat) (s : State) : Host.Outcome State Fault Refusal :=
  .next (if s.vampOn && s.links.vsUp then s.startHoldup iinMa else s)

/-- HOLDUP_TEST_TIMER (R489). -/
def execHoldupTestTimer (iinMa : Nat) (s : State) : Host.Outcome State Fault Refusal :=
  .next (if s.vampOn then s.startHoldup iinMa else s)

/-- RESULT of a test (Table 17.14): 6.92 mF is IIN × Δt = 1.384 in mA × s; a fall after 20 ms is none. -/
def holdupResult (iinMa : Nat) (fallNs : Option Nat) (vsupMoved : Bool) : Nat :=
  if vsupMoved then 3
  else match fallNs with
    | none => 2
    | some dt => if 20000000 < dt then 2 else if 1384000000 ≤ iinMa * dt then 0 else 1

/-- The effective capacitance IIN × Δt / 0.200 V in 10 µF. -/
def holdupCap (iinMa : Nat) (fallNs : Option Nat) : Nat :=
  match fallNs with
  | none => 0
  | some dt => min 0xFFFF (iinMa * dt / 2000000)

/-- HOLDUP_TEST_END (R489): the gate turns back on and the result stands; any but a pass is reported. -/
def execHoldupTestEnd (fallNs : Option Nat) (vsupMoved : Bool) (s : State) : Host.Outcome State Fault Refusal :=
  match s.supply.testIin with
  | none => .next s
  | some iin =>
    have result := holdupResult iin fallNs vsupMoved
    have cap := if result = 3 then 0 else holdupCap iin fallNs
    have s1 := ((s.setBit Reg.PWR_CTRL 0 false).setBit Reg.PWR_STAT 8 false).setBit Reg.PWR_STAT 10 true
    have s2 := s1.wr Reg.PWR_HOLDUP (BitVec.ofNat 32 (result * 2 ^ 28 + cap))
    have s3 : State := { s2 with supply := { s2.supply with testIin := none, holdupBad := result != 0 } }
    .next (if result = 0 then s3
      else (s3.flag Reg.PWR_STAT Reg.PWR_STAT_COUNT 2).strobe Src.PWR_HOLDUP_FAIL (result * 2 ^ 20 + cap))

/-! Resets (R274, R491 to R493). -/

/-- The Vamp is in reset: channel 1 stops and the low-side outputs keep their state; without
its clock the ADC does not convert (R275). -/
def State.holdVamp (s : State) : State :=
  ({ s with supply := { s.supply with held := true }, saf := { s.saf with ch1On := false } } : State).currentUnknown 2

/-- The NRST supervisor decides on a low pulse (R492): one below 1.00 µs never acts, one of 1.10 µs or more always does, and
one between may, which is free. -/
def State.nrstActs (s : State) (lowNs : Nat) : Bool :=
  decide (1100 ≤ lowNs) || (decide (1000 ≤ lowNs) && getBit s.freeWord 0)

/-- NRST_ASSERTED (R274, R492): NRST has been low for some ns. -/
def execNrstAsserted (lowNs : Nat) (s : State) : Host.Outcome State Fault Refusal :=
  if s.supply.nrstLow then .next s
  else
    have t := if 1000 ≤ lowNs ∧ lowNs < 1100 then s.drawn else s
    if !s.nrstActs lowNs then .next t
    else
      have s1 : State := { t with supply := { t.supply with nrstLow := true, nrstAt := t.safNow 2 } }
      .next (if t.mode == .off then s1 else (s1.setBit Reg.SOLE_RESET 31 true).holdVamp)

/-- NRST_RELEASED (R274, R492): Boot with cause 1, or the Boot that VIN_VALID asked for. -/
def execNrstReleased (s : State) : Host.Outcome State Fault Refusal :=
  if !s.supply.nrstLow then .next s
  else
    have s1 : State := { s with supply := { s.supply with nrstLow := false } }
    if s.mode == .off then .next (if s.supply.vinOk then s1.beginBoot 0 false else s1)
    else
      have ms := min 0xFFFF ((s.safNow 2 - s.supply.nrstAt) / 1000000)
      have s2 := s1.wr Reg.SOLE_RESET (BitVec.ofNat 32 ms)
      have s3 := s2.unfind 2 false 3 0
      .next (if s3.supply.thermalHold then s3 else s3.beginBoot 1 false)

/-- RESET_HELD_TIMEOUT (R274, R285): NRST has been held for 2 s. -/
def execResetHeldTimeout (s : State) : Host.Outcome State Fault Refusal :=
  if s.mode == .off || !s.supply.nrstLow then .next s
  else
    have s1 := (s.find 2 false 3 0 0).soleLog 4 0
    .next ((s1.flag Reg.SOLE_STAT Reg.SOLE_STAT_COUNT 3).strobe Src.SOLE_RESET_HELD 2)

/-- A write of SYS.RESTART (R493). -/
def State.sysRestart (s : State) (value : Word) : State :=
  if !s.vampOn then s
  else if value = 0xA55A ∧ s.allOpen then s.beginBoot 3 false
  else s.flag Reg.SYS_STAT Reg.SYS_STAT_COUNT 2

/-- SYS_RESTART (R493). -/
def execSysRestart (value : Word) (s : State) : Host.Outcome State Fault Refusal := .next (s.sysRestart value)

/-! Clocks (R494, R495). -/

/-- REFCLK_LOSS (R494): firmware strobes while the PLLs hold, then the Vamp domains stop. -/
def execRefclkLoss (s : State) : Host.Outcome State Fault Refusal :=
  if !s.vampOn then .next s
  else
    have s1 := (s.flag Reg.CLK_STAT Reg.CLK_STAT_COUNT 0).strobe Src.CLK_REFCLK_LOSS 1
    have s2 : State := { s1 with supply := { s1.supply with refclkLost := true }, saf := { s1.saf with ch1On := false } }
    .next (s2.currentUnknown 2)

/-- REFCLK_RESTORED (R494): the Sole restarts the Vamp with cause 5, unless something else holds it in reset. -/
def execRefclkRestored (s : State) : Host.Outcome State Fault Refusal :=
  if !s.supply.refclkLost then .next s
  else if s.supply.held then .next { s with supply := { s.supply with refclkLost := false } }
  else .next ((s.beginBoot 5 false).strobe Src.CLK_REFCLK_LOSS 0)

/-- PLL_UNLOCK (R494): firmware restarts the Vamp with cause 2. -/
def execPllUnlock (pll : Nat) (s : State) : Host.Outcome State Fault Refusal :=
  if !s.vampOn || decide (3 ≤ pll) then .next s
  else
    have s1 := (s.setBit Reg.CLK_STAT (8 + pll) false).flag Reg.CLK_STAT Reg.CLK_STAT_COUNT 1
    .next ((s1.strobe Src.CLK_PLL_UNLOCK pll).beginBoot 2 false)

/-- AON runs from the RC or from the crystal (R495). -/
def State.setAonRc (s : State) (rc : Bool) : State :=
  if s.mode == .off || s.bit Reg.CLK_STAT 11 == rc then s
  else
    have s1 := s.setBit Reg.CLK_STAT 11 rc
    if s1.vampOn then (s1.flag Reg.CLK_STAT Reg.CLK_STAT_COUNT 2).strobe Src.CLK_AON_FAULT (b2n rc) else s1

/-- AON_CRYSTAL_FAIL (R495). -/
def execAonCrystalFail (s : State) : Host.Outcome State Fault Refusal := .next (s.setAonRc true)

/-- AON_CRYSTAL_RESTORED (R495). -/
def execAonCrystalRestored (s : State) : Host.Outcome State Fault Refusal := .next (s.setAonRc false)

/-! Temperatures (R504). -/

/-- A temperature in 0.01 °C as a 16-bit field. -/
def tempField (t : Int) : Nat := wrapInt 16 (satInt 16 t)

/-- The temperatures measured: HOT_NOW above 105 °C on either junction, HOT when it is passed. -/
def State.takeTemps (s : State) (vampTj soleTj packageTj : Int) : State :=
  have hot := decide (10500 < vampTj) || decide (10500 < soleTj)
  have s1 := (s.wr Reg.SYS_TEMP (BitVec.ofNat 32 (tempField vampTj * 2 ^ 16 + tempField packageTj))).setFld Reg.PWR_TEMP 15 0
    (tempField soleTj)
  have s2 := if hot && !s.bit Reg.SYS_STAT 9 then s1.flag Reg.SYS_STAT Reg.SYS_STAT_COUNT 1 else s1
  (s2.setBit Reg.SYS_STAT 9 hot).holdTemp packageTj

/-- JUNCTION_HOT (R504). -/
def execJunctionHot (vampTj soleTj packageTj : Int) (s : State) : Host.Outcome State Fault Refusal :=
  .next (if s.vampOn then s.takeTemps vampTj soleTj packageTj else s)

/-- JUNCTION_SHUTDOWN (R504): the switches go off as under R490, and the Vamp is held in reset. -/
def execJunctionShutdown (s : State) : Host.Outcome State Fault Refusal :=
  if s.mode == .off || s.supply.thermalHold then .next s
  else
    have s1 := ((s.setSwitches 2 0).setKill 2 true).setBit Reg.PWR_STAT 10 false
    .next ({ s1 with supply := { s1.supply with thermalHold := true } } : State).holdVamp

/-- JUNCTION_COOLED (R504): Boot with cause 4, unless NRST still holds the Vamp. -/
def execJunctionCooled (s : State) : Host.Outcome State Fault Refusal :=
  if !s.supply.thermalHold then .next s
  else if s.supply.nrstLow then .next { s with supply := { s.supply with thermalHold := false } }
  else .next (s.beginBoot 4 false)

/-- What the registers of SYS, CLK and PWR take each second; the crystal's error is measured over 10 s, a free value. -/
def State.measureSupply (s : State) (vinMv vsupMv iinMa power : Nat) : State :=
  have f := fun (n : Nat) => min 0xFFFF n
  have s1 := (s.wr Reg.PWR_VIN (BitVec.ofNat 32 (f vinMv * 2 ^ 16 + f vsupMv))).wr Reg.PWR_IIN
    (BitVec.ofNat 32 (f iinMa * 2 ^ 16 + f power))
  have s2 := s1.lowestVin vinMv
  have s3 := if s2.fld Reg.PWR_HOLDUP 31 28 = 4 then s2
    else s2.setFld Reg.PWR_HOLDUP 23 16 (min 255 ((s2.supply.opSeconds - s2.supply.testAt) / 3600))
  if s3.supply.opSeconds % 10 = 0 then (s3.setFld Reg.CLK_AON 31 16 (getBits s3.freeWord 15 0)).drawn else s3

/-- OPERATING_SECOND (R451, R501): the count advances while VIN is in its operating range, 10.8 V to 13.2 V. -/
def execOperatingSecond (vinMv vsupMv iinMa power : Nat) (vampTj soleTj packageTj : Int) (s : State) :
    Host.Outcome State Fault Refusal :=
  if s.mode == .off then .next s
  else
    have counts := decide (10800 ≤ vinMv) && decide (vinMv ≤ 13200)
    have s1 : State := { s with supply := { s.supply with
      opSeconds := if counts then (s.supply.opSeconds + 1) % 2 ^ 40 else s.supply.opSeconds } }
    .next (if s1.vampOn then (s1.measureSupply vinMv vsupMv iinMa power).takeTemps vampTj soleTj packageTj else s1)

/-! The configuration area (R499). -/

/-- A new image stands in the slot that did not hold the newest one; the other slot is erased (R183). -/
def State.storeImage (s : State) : State :=
  match s.cfg.writing with
  | none => s
  | some (img, bytes) =>
    have toB := match s.cfg.slotA, s.cfg.slotB with
      | some a, some b => decide (b.seq ≤ a.seq)
      | some _, none => true
      | none, _ => false
    have c := s.cfg
    have c1 : ConfigArea := if toB then { c with slotA := none, bytesA := [], slotB := some img, bytesB := bytes, writing := none }
      else { c with slotA := some img, bytesA := bytes, slotB := none, bytesB := [], writing := none }
    have s1 : State := { s with cfg := c1, cmd := { s.cmd with configOp := none } }
    s1.completeAll s.cmd.configOp.toList St.OK []

/-- The device record stands as it is in force; what waited for it completes. -/
def State.storedDevice (s : State) : State :=
  if !s.cfg.deviceWrite then s
  else
    have s1 : State := { s with cfg := { s.cfg with devStored := s.cfg.dev, deviceWrite := false, devOps := [] } }
    s.cfg.devOps.foldl (fun (t : State) (x : Nat × Bytes) => t.complete x.1 St.OK x.2) s1

/-- The activated safety set stands in its slot (R279). -/
def State.storedSafety (s : State) : State :=
  match s.cfg.safetyWrite with
  | none => s
  | some x =>
    { s with cfg := { s.cfg with safety := some x, safetyWrite := none } }

/-- CONFIG_STORE_DONE (R499): kind 0 an image, 1 the device record, 2 the safety set. VIN_LOW suspends the write; a page
that a cut program operation left undefined is programmed again. -/
def execConfigStoreDone (kind : Nat) (s : State) : Host.Outcome State Fault Refusal := s.whenVamp <|
  if !s.insoleTurn .config then .next s
  else if s.spoilt 7 then .next (s.unspoil 7)
  else match kind with
    | 0 => .next s.storeImage
    | 1 => .next s.storedDevice
    | 2 => .next s.storedSafety
    | _ => .next s

end Sys2Proof.Machine
end

