-- ==== Sys2Proof/Machine/Die.lean ====
section
/-!
DEFINITION. The links between the dies, the event controller's commands and the parity responses that reach beyond
memory (R19 to R24, R39 to R46, R383, R384).
-/

namespace Sys2Proof.Machine

/-! The VS and VI links (R20 to R24). -/

/-- MEM_LINK_ERROR: cause 0 retransmissions exhausted, 1 returned clock absent; link 0 VS, 1 VI. -/
def State.linkError (s : State) (cause link : Nat) : State :=
  (s.flag Reg.MEM_STAT Reg.MEM_STAT_COUNT0 3).strobe Src.MEM_LINK_ERROR (cause * 16 + link)

/-- The VS link is down and retrains (R22); the control engine holds (R212). -/
def State.vsDown (s : State) (cause : Nat) : State :=
  if !s.links.vsUp then s
  else
    have s1 : State := { s with links := { s.links with
      vsUp := false, vsFails := 0, soleFails := 0, downSince := some s.monoNs } }
    have s2 := s1.currentUnknown 1
    ((if cause = 1 then s2.currentUnknown 2 else s2).linkError cause 0).holdLink

/-- The flits of one direction: the sequence number expected, the failures of the flit in hand, the cross-check flits
that wait. -/
def Links.lane (l : Links) (toSole : Bool) : Nat × Nat × Nat :=
  if toSole then (l.soleSeq, l.soleFails, l.crossSole) else (l.vsSeq, l.vsFails, l.crossVamp)

/-- The links with these values of one direction. -/
def Links.setLane (l : Links) (toSole : Bool) (seq fails cross : Nat) : Links :=
  if toSole then { l with soleSeq := seq, soleFails := fails, crossSole := cross }
  else { l with vsSeq := seq, vsFails := fails, crossVamp := cross }

/-- VS_FLIT_RECEIVE (R20, R21): cls 0 the ADC stream, Sole to Vamp, 1 cross-check, 2 register traffic, which no sender
sends while a cross-check flit of its direction waits. A bad flit is discarded and requested again, the fourth failure
of one flit takes the link down; an ADC flit is never sent again, and its loss is counted when its conversion arrives. -/
def execVsFlitReceive (toSole : Bool) (cls seq : Nat) (parityOk : Bool) (s : State) : Host.Outcome State Fault Refusal :=
  have lane := s.links.lane toSole
  have cross := lane.2.2
  if !s.vampOn || !s.links.vsUp || decide (cls = 0 ∧ toSole) || decide (2 ≤ cls ∧ 0 < cross) then .next s
  else if parityOk && seq == lane.1 then
    .next { s with links := s.links.setLane toSole ((seq + 1) % 16) 0 (if cls = 1 then cross - 1 else cross) }
  else if cls = 0 then .next { s with links := s.links.setLane toSole ((lane.1 + 1) % 16) lane.2.1 cross }
  else if lane.2.1 ≥ 3 then .next (s.vsDown 0)
  else .next { s with links := s.links.setLane toSole lane.1 (lane.2.1 + 1) cross }

/-- VS_CLOCK_ABSENT (R22). -/
def execVsClockAbsent (s : State) : Host.Outcome State Fault Refusal := .next (if s.vampOn then s.vsDown 1 else s)

/-- VS_LINK_RETRAINED (R212, R22): HOLD_LINK clears and the power-role slots wait for a START;
SAF.OUT_REQ.CLOSE is forwarded again (R283). -/
def execVsLinkRetrained (s : State) : Host.Outcome State Fault Refusal :=
  if !s.vampOn || s.links.vsUp then .next s
  else
    have s1 : State := { s with links := { s.links with vsUp := true, vsSeq := 0, soleSeq := 0, downSince := none } }
    .next ((s1.setClose (s1.fld Reg.SAF_OUT_REQ 2 0)).endHold 20)

/-- A fourth transmission of a VI transfer has failed (R24): the Insole operation at this window address ends with an
error response and MEM_LINK_ERROR; a program operation leaves its page undefined. -/
def State.viCut (s : State) (addr : Nat) (program : Bool) : State :=
  have s1 := (s.linkError 0 1).emit (.errorResponse addr)
  if program then s1.spoil (insoleArea addr) else s1

/-- VI_TRANSFER (R24, R455): a transfer of the Insole operation at a window address, which may be a program operation;
the fourth failed transmission of one transfer ends the operation. A sector that fails its operation is retired.
badSector counts the areas of Table 1.2 from 0. -/
def execViTransfer (ok : Bool) (addr : Word) (program : Bool) (badSector : Option Nat) (s : State) :
    Host.Outcome State Fault Refusal :=
  if !s.vampOn then .next s
  else
    have s1 : State := { s with links := { s.links with viFails := if ok then 0 else (s.links.viFails + 1) % 4 } }
    have s2 := if !ok && s.links.viFails == 3 then s1.viCut addr.toNat program else s1
    .next (match badSector with
      | none => s2
      | some area => s2.retireSector area)

/-- INSOLE_ECC_ERROR (R19): a single-bit error is corrected and counted in MEM.INSOLE_INFO; an uncorrectable word gives
an error response and MEM_INSOLE_ECC. -/
def execInsoleEccError (who : Requester) (addr : Word) (corrected : Bool) (s : State) : Host.Outcome State Fault Refusal :=
  if s.vampOn ∧ 0x60000000 ≤ addr.toNat ∧ addr.toNat < 0x64000000 then
    if corrected then .next (s.incFld Reg.MEM_INSOLE_INFO 31 8)
    else
    have s1 := s.insoleEcc addr.toNat
    .next (if who = .firmware then s1 else s1.emit (.errorResponse addr.toNat))
  else .next s

/-! The event controller (R39 to R46). -/

/-- EVENT_STROBE (R39 to R43). -/
def execEventStrobe (src detail : Nat) (s : State) : Host.Outcome State Fault Refusal :=
  .next (if s.vampOn && decide (src < 128) then s.strobe src detail else s)

/-- A write of EVT.QUEUE_TAIL (R45). -/
def State.queueTail (s : State) (value : Word) : State :=
  have v := getBits value 8 0
  have head := s.fld Reg.EVT_QUEUE_HEAD 8 0
  have tail := if s.queueFill < (head + 512 - v) % 512 then head else v
  have s1 := s.setFld Reg.EVT_QUEUE_TAIL 8 0 tail
  s1.setFld Reg.EVT_QUEUE_STAT 8 0 s1.queueFill

/-- EVT_QUEUE_TAIL_WRITE (R45). -/
def execEvtQueueTailWrite (value : Word) (s : State) : Host.Outcome State Fault Refusal :=
  .next (if s.vampOn then s.queueTail value else s)

/-- A write of EVT.COUNT_CLEARk (R46). -/
def State.countClear (s : State) (k : Nat) (bits : Word) : State :=
  (List.range 32).foldl (fun (t : State) b =>
    if getBit bits b then t.setFld (Reg.EVT_COUNT (8 * k + b / 4)) (8 * (b % 4) + 7) (8 * (b % 4)) 0 else t) s

/-- A strobe put into a list of strobes by its source number. -/
def insertStrobe (x : Nat × Nat) : List (Nat × Nat) → List (Nat × Nat)
  | [] => [x]
  | y :: rest => if x.1 ≤ y.1 then x :: y :: rest else y :: insertStrobe x rest

/-- Strobes of one CORE cycle, in ascending source number (R42). -/
def bySource (l : List (Nat × Nat)) : List (Nat × Nat) := l.foldr insertStrobe []

/-- EVT_COUNT_CLEAR (R46): strobes of the same cycle, as source and detail, are counted after the clear. -/
def execEvtCountClear (k : Nat) (bits : Word) (strobes : List (Nat × Nat)) (s : State) : Host.Outcome State Fault Refusal :=
  if !s.vampOn || decide (4 ≤ k) then .next s
  else .next ((bySource (strobes.filter (fun (x : Nat × Nat) => decide (x.1 < 128)))).foldl
    (fun (t : State) (x : Nat × Nat) => t.strobe x.1 x.2) (s.countClear k bits))

/-! Parity (R383, R384). -/

/-- An error response to an interpreter core ends its task cycle without publication, as TRAP does (R384). -/
def State.coreError (s : State) (core : Nat) : State :=
  match s.onCore core with
  | none => s
  | some k => if (s.task k).ctx.isSome then s.finishCycle core k else s

/-- GSRAM_PARITY_ERROR (R383, R384): requester as MEM.DATA_INFO codes it; a DMA channel takes a bus error. -/
def execGsramParityError (requester : Nat) (addr : Word) (interconnect : Bool) (channel : Nat) (s : State) :
    Host.Outcome State Fault Refusal :=
  if !s.vampOn || decide (7 < requester) || decide (addr.toNat < 0x20000000) || decide (gsramEnd ≤ addr.toNat) then .next s
  else
    have s1 := s.dataParity requester addr.toNat interconnect
    .next (match requester with
      | 1 => s1.coreError 0
      | 2 => s1.coreError 1
      | 3 => if channel < 16 then s1.dmaBusError channel addr.toNat false false else s1
      | 6 => s1.emit (.errorResponse addr.toNat)
      | _ => s1)

/-- CODE_PARITY_ERROR (R383): core 0 service, 1 and 2 the interpreter cores. The line is discarded and refetched; when
the refetch fails an interpreter core halts, and the service core restarts the Vamp. -/
def execCodeParityError (core : Nat) (addr : Word) (refetchFailed : Bool) (s : State) : Host.Outcome State Fault Refusal :=
  if !s.vampOn || decide (3 ≤ core) then .next s
  else
    have s1 := match core with
      | 0 => s.incFld Reg.MEM_CODE_INFO 15 10
      | 1 => s.incFld Reg.MEM_CODE_INFO 9 5
      | _ => s.incFld Reg.MEM_CODE_INFO 4 0
    have s2 := (s1.flag Reg.MEM_STAT Reg.MEM_STAT_COUNT0 0).strobe Src.MEM_PARITY_CODE
      (core * 2 ^ 20 + b2n refetchFailed * 2 ^ 19 + getBits addr 21 6)
    if !refetchFailed then .next s2
    else if core = 0 then .next (s2.beginBoot 2 false)
    else .next { s2 with prg := { s2.prg with halted := (core - 1) :: s2.prg.halted.filter (· != core - 1) } }

end Sys2Proof.Machine
end

