-- ==== Sys2Proof/Machine/Red.lean ====
section
/-!
DEFINITION. Redundant operation (R466 to R485): the arbiter, ARB_ALIVE, what the active unit streams and what the
standby commits of it, the Insole copy of the Last, and the takeover.
-/

namespace Sys2Proof.Machine

/-- The redundancy block works: compatibility mode, and the Vamp runs (R466). -/
def State.redOn (s : State) : Bool := s.compat && s.vampOn

/-! Arbiter (R470 to R473). -/

/-- A grant is confirmed or withdrawn: the flag and RED_GRANT. -/
def State.grantEvent (s : State) (confirmed : Bool) (source : Nat) : State :=
  (s.flag Reg.RED_STAT Reg.RED_STAT_COUNT 0).strobe Src.RED_GRANT (b2n confirmed * 2 ^ 23 + source * 2 ^ 21)

/-- The grant of the active unit is withdrawn (R3, R472): the tasks stop with safe outputs, SAF.OUT_REQ clears, the
Tether transmitters go high impedance and ARB_ALIVE stops; no further grant is taken until the next Boot. Safe stays
Safe, from which a resume then leads to Stop (assumption 165). -/
def State.withdraw (s : State) : State :=
  have s1 := s.stopRequest.setClose 0
  have s2 := (s1.setFld Reg.RED_ROLE 31 30 3).setFld Reg.RED_ROLE 7 0 0
  ({ s2 with red := { s2.red with withdrawn := true } } : State).grantEvent false 3

/-- ARB_GRANT_CONFIRMED (R470, R472, R481). -/
def execArbGrantConfirmed (level : Bool) (s : State) : Host.Outcome State Fault Refusal :=
  if s.mode == .off then .next s
  else
    have s1 := s.setBit Reg.RED_ROLE 29 level
    if !s1.redOn || s1.red.withdrawn then .next s1
    else
      have s0 := s1.setBit Reg.RED_ROLE 28 level
      have s2 := if s0.supply.booting && s0.supply.loaded then s0.setFld Reg.RED_ROLE 31 30 (if level then 1 else 2) else s0
      .next (if level && s2.mode == .standby then (s2.grantEvent true s2.lastSource).beginBoot 0 true
        else if !level && s2.role == 1 && (s2.mode == .run || s2.mode == .stop || s2.mode == .safe) && !s2.supply.booting then
          s2.withdraw
        else if level && !s.bit Reg.RED_ROLE 28 && s2.supply.booting && s2.supply.loaded && !s2.supply.unconfigured then
          s2.rewriteReports.enumerate
        else s2)

/-- A write of RED.ALIVE by firmware (R471): the wave runs with that high time, unless the active role is withdrawn. -/
def State.refreshAlive (s : State) (value : Word) : State :=
  have s1 := s.wr Reg.RED_ALIVE value
  if s1.redOn && !s1.red.withdrawn then s1.setFld Reg.RED_ROLE 7 0 (min 255 (value.toNat / 10)) else s1

/-- RED_ALIVE_REFRESH (R471): firmware writes the high time of the code that holds. -/
def execRedAliveRefresh (s : State) : Host.Outcome State Fault Refusal :=
  .next (if s.vampOn then s.refreshAlive (BitVec.ofNat 32 s.aliveUs) else s)

/-- ALIVE_REFRESH_TIMEOUT (R471): the pin stops low. -/
def execAliveRefreshTimeout (s : State) : Host.Outcome State Fault Refusal := s.whenVamp <|
  .next (if s.redOn then s.setFld Reg.RED_ROLE 7 0 0 else s)

/-! What the units send (R475, R476). -/

/-- SET_SEQ of a kind as RED.LAST_SEQ and FULL_SEQ show it: last committed by the standby, else last sent. -/
def State.setSeqs (s : State) : List Nat :=
  have seen := fun (o : Option LastSet) => (o.map (·.seq)).getD 0
  if s.role == 2 then [seen s.red.fast, seen s.red.full, seen s.red.learned]
  else [s.red.txFast, s.red.txFull, s.red.txLearned]

/-- BEAT_SEND (R476): role, controller state and the three SET_SEQ. -/
def execBeatSend (s : State) : Host.Outcome State Fault Refusal := s.whenVamp <|
  if !s.redOn then .next s
  else
    have seq := (s.red.txBeat + 1) % 2 ^ 32
    have payload := bytesLE 1 s.role ++ bytesLE 1 s.answerState ++ s.setSeqs.flatMap (bytesLE 4) ++ zeros 2
    .next (({ s with red := { s.red with txBeat := seq } } : State).emit (.partnerFrame (partnerBytes 1 true seq 0 0 payload)))

/-- The active unit streams the Last once its program runs. -/
def State.streams (s : State) : Bool :=
  s.redOn && s.role == 1 && (s.mode == .run || s.mode == .stop || s.mode == .safe)

/-- LAST_FAST_SET_SEND (R475, Table 16.3): per cell context bytes 0x0040 to 0x013F, and the published image. -/
def execLastFastSetSend (s : State) : Host.Outcome State Fault Refusal := s.whenVamp <|
  if !s.streams then .next s
  else
    have size := (s.program.map progImageSize).getD 0
    have image := s.getBytes (s.rd Reg.PRG_IMAGE_BASE).toNat size
    have seq := (s.red.txFast + 1) % 2 ^ 32
    have body := s.fastBytes ++ image
    have s1 := (({ s.drawn with red := { s.red with txFast := seq } } : State)).sendFrames 2 seq (s.setHeader 2 size body ++ body)
    .next (s1.wr Reg.RED_LAST_SEQ (BitVec.ofNat 32 seq))

/-- LAST_FULL_SET_SEND (R144, R475): per cell one checkpoint, taken now. -/
def execLastFullSetSend (s : State) : Host.Outcome State Fault Refusal := s.whenVamp <|
  if !s.streams then .next s
  else
    have s1 := s.cells.foldl State.checkpoint s
    have body := s1.cells.flatMap (fun c => s1.getBytes (s1.areaBase 11 + 6144 * (c - 1)) 6144)
    have seq := (s.red.txFull + 1) % 2 ^ 32
    have s2 := (({ s1 with red := { s1.red with txFull := seq } } : State)).sendFrames 3 seq (s1.setHeader 3 0 body ++ body)
    .next ((s2.wr Reg.RED_FULL_SEQ (BitVec.ofNat 32 seq)).strobe Src.RED_LAST_SENT (3 * 2 ^ 21 + seq % 0x10000))

/-! What the standby commits (R477). -/

/-- A set is discarded. -/
def State.discardSet (s : State) (kind : Nat) : State :=
  have s1 : State := { s with red := { s.red with rx := s.red.rx.filter (fun (x : Nat × RxSet) => x.1 != kind) } }
  (s1.incFld Reg.RED_ERR 15 0).flag Reg.RED_STAT Reg.RED_STAT_COUNT 2

/-- RED_PARTNER_LINK with a cause and the partner's role. -/
def State.partnerEvent (s : State) (cause : Nat) : State :=
  s.strobe Src.RED_PARTNER_LINK (cause * 2 ^ 21 + s.fld Reg.RED_LINK 31 30)

/-- SET_SEQ of the last committed set of a kind. -/
def State.committedSeq (s : State) (kind : Nat) : Option Nat :=
  match kind with
  | 2 => s.red.fast.map (·.seq)
  | 3 => s.red.full.map (·.seq)
  | _ => s.red.learned.map (·.seq)

/-- The bytes of a fast set go into a cell's checkpoint: the context bytes, SWEEP_ID and the CRC (Table 4.4). -/
def State.patchCheckpoint (s : State) (sweep cell : Nat) (bytes : Bytes) : State :=
  have base := s.areaBase 11 + 6144 * (cell - 1)
  have s1 := (s.putBytes (base + 32 + 0x40) bytes).putBytes (base + 2) (bytesLE 2 sweep)
  have crc := crc32 (s1.getBytes base 28 ++ s1.getBytes (base + 32) 6112)
  s1.putBytes (base + 28) (bytesLE 4 crc.toNat)

/-- The Last is fresh again (R479). -/
def State.lastFresh (s : State) : State :=
  if s.bit Reg.RED_STAT 9 then (s.setBit Reg.RED_STAT 9 false).aliveFollows.strobe Src.RED_LAST_STALE 0 else s

/-- A set commits. -/
def State.commitSet (s : State) (kind seq : Nat) (header body : Bytes) : State :=
  have x : LastSet := { seq := seq, header := header, commitNs := s.monoNs }
  match kind with
  | 2 =>
    have n := s.cellCount
    have s1 := s.cells.foldl (fun (t : State) c => t.patchCheckpoint (fieldLE header 24 2) c (slice body (256 * (c - 1)) 256)) s
    have s2 := s1.putBytes s1.fixedEnd (slice body (256 * n) (fieldLE header 26 4))
    (({ s2 with red := { s2.red with fast := some x } } : State).wr Reg.RED_LAST_SEQ (BitVec.ofNat 32 seq)).lastFresh
  | 3 =>
    have s1 := s.putBytes (s.areaBase 11) body
    ({ s1 with red := { s1.red with full := some x } } : State).wr Reg.RED_FULL_SEQ (BitVec.ofNat 32 seq)
  | _ => ({ s with red := { s.red with learned := some x } } : State).journalAdopt (parseJournal body)

/-- The last frame of a set has arrived (R477): length, kind, SET_SEQ, SET_CRC and CONFIG_CRC decide. -/
def State.judgeSet (s : State) (kind seq : Nat) (bytes : Bytes) : State :=
  have header := bytes.take 64
  have body := bytes.drop 64
  have newer := match s.committedSeq kind with
    | none => true
    | some c => decide (c < seq)
  have whole := decide (64 ≤ bytes.length) && fieldLE header 0 1 == 1 && fieldLE header 1 1 == kind &&
    fieldLE header 4 4 == bytes.length && fieldLE header 60 4 == (crc32 body).toNat
  if !whole || !newer then s.discardSet kind
  else if fieldLE header 16 4 ≠ s.cfg.crc then (s.discardSet kind).partnerEvent 2
  else
    have s1 : State := { s with red := { s.red with rx := s.red.rx.filter (fun (x : Nat × RxSet) => x.1 != kind) } }
    s1.commitSet kind seq header body

/-- A frame of a set: the frames of a set arrive in order from frame 0, each at its offset, or the set is discarded. -/
def State.setFrame (s : State) (kind seq frame offset : Nat) (last : Bool) (payload : Bytes) : State :=
  have old := (s.red.rx.find? (fun (x : Nat × RxSet) => x.1 == kind)).map (·.2)
  have fits := match old with
    | some r => r.seq == seq && r.next == frame && r.bytes.length == offset
    | none => false
  have begins := frame == 0 && offset == 0
  if !fits && !begins then (if old.isSome then s.discardSet kind else s)
  else
    have s1 := if old.isSome && !fits then s.discardSet kind else s
    have had := if fits then (old.map (·.bytes)).getD [] else []
    have r : RxSet := { seq := seq, next := frame + 1, bytes := had ++ payload }
    if last then s1.judgeSet kind seq r.bytes
    else { s1 with red := { s1.red with rx := s1.red.rx.filter (fun (x : Nat × RxSet) => x.1 != kind) ++ [(kind, r)] } }

/-- A BEAT of the partner: its role, and a conflict when both claim the active role (R474). -/
def State.beat (s : State) (payload : Bytes) : State :=
  have their := fieldLE payload 0 1 % 4
  have was := s.fld Reg.RED_LINK 31 30
  have s1 := s.setFld Reg.RED_LINK 31 30 their
  if s1.role = 1 ∧ their = 1 ∧ (was ≠ 1 ∨ ¬ s1.bit Reg.RED_STAT 3) then
    (s1.flag Reg.RED_STAT Reg.RED_STAT_COUNT 3).partnerEvent 3
  else s1

/-- The partner link comes up with its first valid frame (R480). -/
def State.partnerUp (s : State) : State :=
  if s.bit Reg.RED_STAT 8 then s else (s.setBit Reg.RED_STAT 8 true).partnerEvent 1

/-- A valid frame of the partner: header, payload and CRC (R474, R476, R477, R479, R480). -/
def State.partnerTake (s : State) (frame : Bytes) : State :=
  have kind := fieldLE frame 0 1
  have payload := slice frame 12 (frame.length - 16)
  have s1 := s.partnerUp
  if kind = 1 then s1.beat payload
  else if 2 ≤ kind ∧ kind ≤ 4 ∧ s1.mode = .standby then
    s1.setFrame kind (fieldLE frame 2 4) (fieldLE frame 6 2) (fieldLE frame 8 4) (fieldLE frame 1 1 % 2 == 1) payload
  else s1

/-- What the partner link's receiver found: a discarded frame is counted in RED.ERR. -/
def State.partnerEnd (s : State) (e : FrameEnd) : State :=
  match e with
  | .good frame => s.partnerTake frame
  | .discard _ _ => s.incFld Reg.RED_ERR 31 16

/-- PARTNER_FRAME_RECEIVE (R476): the code groups of the partner's line, one frame or what came of one. -/
def execPartnerFrameReceive (groups : List (Option Nat)) (s : State) : Host.Outcome State Fault Refusal := s.whenVamp <|
  .next (if s.redOn then (lineFrames partnerLine groups).foldl State.partnerEnd s else s)

/-- LAST_STALE_TIMEOUT (R479). -/
def execLastStaleTimeout (s : State) : Host.Outcome State Fault Refusal := s.whenVamp <|
  .next (if s.redOn && s.mode == .standby then s.lastStale else s)

/-- PARTNER_LINK_TIMEOUT (R480). -/
def execPartnerLinkTimeout (s : State) : Host.Outcome State Fault Refusal := s.whenVamp <|
  if s.redOn && s.bit Reg.RED_STAT 8 then
    .next ((((s.setBit Reg.RED_STAT 8 false).flag Reg.RED_STAT Reg.RED_STAT_COUNT 1).incFld Reg.RED_LINK 15 0).partnerEvent 0)
  else .next s

/-! The Insole copy (R478). -/

/-- RETAIN and PERSIST values of the committed image, in symbol order. -/
def State.lastData (s : State) : Bytes :=
  match s.red.fast, s.program with
  | some f, some p =>
    if fieldLE f.header 20 4 ≠ p.progId.toNat then []
    else (elements p (fun y => y.cls == 3 || y.cls == 4)).flatMap (fun x =>
      s.getBytes (s.fixedEnd + symOffset p x.1 + typeSize x.2.1.ty * x.2.2) (typeSize x.2.1.ty))
  | _, _ => []

/-- Start a copy of the committed Last, or hold it while a copy or VIN_LOW is in the way. -/
def State.copyLast (s : State) : State :=
  match s.red.full with
  | none => s
  | some f =>
    if s.links.readOnly.contains 6 then s
    else if s.red.copying.isSome || s.supply.insoleHold then { s with red := { s.red with copyHeld := true } }
    else
      have c : LastCopy := {
        header := ((s.red.fast.map (·.header)).getD f.header), data := s.lastData,
        cells := s.cells.map (fun cell => (cell, s.getBytes (s.areaBase 11 + 6144 * (cell - 1)) 1760)) }
      { s.insoleStart .last with red := { s.red with copying := some c, copyHeld := false, retried := false } }

/-- LAST_PERSIST_TIMER (R478). -/
def execLastPersistTimer (s : State) : Host.Outcome State Fault Refusal := s.whenVamp <|
  .next (if s.redOn && s.mode == .standby then s.copyLast else s)

/-- A copy that waited starts. -/
def State.copyResume (s : State) : State := if s.red.copyHeld then s.copyLast else s

/-- LAST_COPY_DONE (R183, R478): a failed read-back is retried once. -/
def execLastCopyDone (ok : Bool) (s : State) : Host.Outcome State Fault Refusal := s.whenVamp <|
  match s.red.copying with
  | none => .next s
  | some c =>
    have s0 := s.unspoil 6
    if !s.insoleTurn .last then .next s
    else if ok && !s.spoilt 6 then
      have r := s.red.copied c
      have s1 : State := { s0 with red := { r with copying := none, retried := false, copiedAt := some s.tim.mono.sec } }
      .next ((s1.setBit Reg.RED_PERSIST 31 r.copyB.isSome).copyResume)
    else if s.red.retried then .next ({ s0 with red := { s.red with copying := none, retried := false } } : State).copyResume
    else .next { s0 with red := { s.red with retried := true } }

end Sys2Proof.Machine
end

