-- ==== Sys2Proof/Machine/View.lean ====
section
/-!
DEFINITION. What a read shows: the registers that stand for state held elsewhere (SAF, SOLE, SYS, TTH, RED, REC,
ETH, PCS), the capture registers and windows, and the bytes of the Insole window (Table 1.2).
-/

namespace Sys2Proof.Machine

/-! Registers of the safety channels (Tables 8.9 and 8.11). -/

/-- A sum of 2^i over the indices below n at which a condition holds. -/
def bitSum (n : Nat) (f : Nat → Bool) : Nat := ((List.range n).map (fun i => b2n (f i) * 2 ^ i)).sum

/-- The latched demands or causes of a channel. -/
def State.latchedBits (s : State) (ch n : Nat) (hazard : Bool) : Nat :=
  bitSum n (fun b => s.saf.findings.any (fun f => f.hazard == hazard && f.code == b && f.lat ch))

/-- What remains of a channel's Drogue timer, ms. -/
def State.drogueLeft (s : State) (ch : Nat) : Nat :=
  match (s.safChan ch).drogueAt with
  | none => 0
  | some t => (s.drogueNs - (s.safNow ch - t)) / 1000000

/-- SAF.STATE. -/
def State.safStateWord (s : State) : Nat :=
  have wait := s.saf.findings.any (fun f => (f.lat1 || f.lat2) && f.clearedAt.isSome)
  b2n (s.permits 1) * 256 + b2n s.saf.ch1.shuntAt.isSome * 128 + b2n wait * 64 + b2n s.saf.ch1.drogueAt.isSome * 32 +
    b2n s.allOpen * 16 + bitSum 4 (fun i => s.readsClosed (i + 1))

/-- A test pulse holds a switch, 0 for pair 1 high-side to 7 for pair 4 low-side, against its command (R256). -/
def State.pulsed (s : State) (sw : Nat) : Bool := s.saf.pulse.any (fun p => p.switch == sw)

/-- SAF.OUT_STAT: a byte for each pair. -/
def State.outStatWord (s : State) : Nat :=
  ((List.range 4).map (fun i =>
    have m := 2 ^ i
    (b2n ((s.saf.ch1.sw / m % 2 == 1) != s.pulsed (2 * i + 1)) * 128 +
      b2n ((s.saf.ch2.sw / m % 2 == 1) != s.pulsed (2 * i)) * 64 + s.pairLevels (i + 1) * 4 +
      b2n (s.saf.rbFault / m % 2 == 1) * 2 + b2n (s.saf.mirrorFault / m % 2 == 1)) * 256 ^ i)).sum

/-- SAF.INPUT (R267, R268). -/
def State.inputWord (s : State) : Nat := bitSum 16 (s.discrepant 1) * 2 ^ 16 + bitSum 16 (s.inputDemands 1)

/-- Word i of the always-on log entry that SOLE.LOG_SEL selects (R285). -/
def State.logWord (s : State) (i : Nat) : Nat :=
  match (s.saf.log.find? (fun p => p.1 == s.fld Reg.SOLE_LOG_SEL 5 0)).map (·.2) with
  | none => 0
  | some e =>
    match i with
    | 0 => e.code * 2 ^ 16 + e.detail % 0x10000
    | 1 => e.stamp % 2 ^ 32
    | 2 => e.stamp / 2 ^ 32
    | _ => e.scan % 2 ^ 32

/-- Views of the SAF and SOLE blocks. -/
def State.safView (s : State) (a : Nat) : Option Nat :=
  if a = Reg.SAF_STATE then some s.safStateWord
  else if a = Reg.SAF_DEMAND then some (s.latchedBits 1 13 true)
  else if a = Reg.SAF_FAULT then some (s.latchedBits 1 14 false)
  else if a = Reg.SAF_OUT_STAT then some s.outStatWord
  else if a = Reg.SAF_DROGUE then
    some (s.saf.ch1.endedBy % 16 * 2 ^ 28 + s.saf.ch1.cause % 16 * 2 ^ 24 + s.drogueLeft 1 % 2 ^ 17)
  else if a = Reg.SAF_INPUT then some s.inputWord
  else if a = Reg.SAF_INPUT_RAW then some s.saf.ch1.lines
  else if a = Reg.SAF_PARAM_STAGE_CRC then some (crc32 s.saf.stage.bytes).toNat
  else if a = Reg.SOLE_DEMAND then some (s.latchedBits 2 14 false * 2 ^ 16 + s.latchedBits 2 13 true)
  else if a = Reg.SOLE_DROGUE then some (s.drogueLeft 2 % 2 ^ 17)
  else if Reg.SOLE_LOG_DATA 0 ≤ a ∧ a ≤ Reg.SOLE_LOG_DATA 3 then some (s.logWord ((a - Reg.SOLE_LOG_DATA 0) / 4))
  else none

/-! Other blocks. -/

/-- ETH.LATENCY of a port (R411): the SerDes latencies of its mode, with the PHY figures in SGMII. -/
def State.latencyWord (s : State) (portB : Bool) : Nat :=
  have mode := if portB then s.fld Reg.ETH_CONFIG 29 28 else s.fld Reg.ETH_CONFIG 31 30
  have phy := fun item => if mode = 3 then s.cfgN 7 item 0 0 else 0
  (Config.serdesNs mode false + phy 9) % 0x10000 * 2 ^ 16 + (Config.serdesNs mode true + phy 10) % 0x10000

/-- Seconds, milliseconds or minutes since an event, saturating, or the value that says none. -/
def ageOf (now : Nat) (at_ : Option Nat) (unit_ max_ none_ : Nat) : Nat :=
  match at_ with
  | none => none_
  | some t => min max_ ((now - t) / unit_)

/-- Views of the other blocks. -/
def State.blockView (s : State) (a : Nat) : Option Nat :=
  if a = Reg.SYS_STATE then some (modeCode s.mode * 2 ^ 28 + b2n s.drogue * 2 ^ 27)
  else if a = Reg.PCS_LT_STAT then some (s.fld Reg.PCS_LT_STAT 31 8 * 2 ^ 8 + s.limitAge)
  else if a = Reg.PCS_DISP_STAT then
    some (s.fld Reg.PCS_DISP_STAT 17 16 * 2 ^ 16 + min 0xFFFF (((s.pcs.leaseEnd.getD 0) - s.monoNs) / 1000000))
  else if a = Reg.TTH_CAL_AGE then some (ageOf s.tim.mono.sec s.tth.calAt 1 0xFFFFFFFF 0xFFFFFFFF)
  else if a = Reg.RED_LAST_AGE then
    some (ageOf s.monoNs (s.red.fast.map (·.commitNs)) 1000000 0xFFFFFFFF 0xFFFFFFFF)
  else if a = Reg.RED_PERSIST then
    some (s.fld Reg.RED_PERSIST 31 31 * 2 ^ 31 + ageOf s.tim.mono.sec s.red.copiedAt 60 0xFFFF 0)
  else if a = Reg.REC_STAMP_HI then some (s.stamp / 2 ^ 32)
  else if a = Reg.ETH_LATENCY_A then some (s.latencyWord false)
  else if a = Reg.ETH_LATENCY_B then some (s.latencyWord true)
  else if a = Reg.TIM_HOLD then some s.holdWord
  else if a = Reg.TIM_CAP_S_HI then some (s.capWord 0).toNat
  else if a = Reg.TIM_CAP_S_LO then some (s.capWord 1).toNat
  else if a = Reg.TIM_CAP_NS then some (s.capWord 2).toNat
  else if a = Reg.TIM_CAP_FRAC then some (s.capWord 3).toNat
  else none

/-- WLT.CONNc_STAT of a connection: AGE is a consumer's time since its last acceptance, in 100 µs (Table 9.11). -/
def State.weltStatWord (s : State) (c : Nat) : Nat :=
  have t := (s.weltConn c).acceptedNs
  s.fld (Reg.WLT_CONN_STAT c) 31 16 * 2 ^ 16 +
    (if s.weltProducer c ∨ t = 0 then 0 else min 0xFFFF ((s.monoNs - t) / 100000))

/-- CMD.SESSn_VIOL of a session: WINDOW counts the violations of the last 1 s (Table 11.10). -/
def State.violWord (s : State) (i : Nat) : Nat :=
  have recent := (s.session i).elim [] (fun v => v.viols.filter (fun t => decide (s.monoNs < t + 1000000000)))
  s.fld (Reg.CMD_SESS_VIOL i) 31 24 * 2 ^ 24 + min 255 recent.length * 2 ^ 16 + s.fld (Reg.CMD_SESS_VIOL i) 15 0

/-- Views of the Welt connections and of the sessions. -/
def State.linkView (s : State) (a : Nat) : Option Nat :=
  match (List.range 32).find? (fun c => a == Reg.WLT_CONN_STAT c) with
  | some c => some (s.weltStatWord c)
  | none => ((List.range 5).find? (fun i => a == Reg.CMD_SESS_VIOL i)).map s.violWord

/-- The value of a register, without what a read does besides. -/
def State.view (s : State) (a : Nat) : Word :=
  match s.safView a with
  | some v => BitVec.ofNat 32 v
  | none =>
    match s.blockView a with
    | some v => BitVec.ofNat 32 v
    | none => ((s.linkView a).map (BitVec.ofNat 32)).getD (s.rd a)

/-! Receive windows (R431). -/

/-- The receive window and word that an address of a CAN block shows. -/
def canWin (a : Nat) : Option (Nat × Nat × Nat) :=
  have n := (a - 0x40130000) / 0x10000
  have off := a % 0x10000
  have word := off % 128 / 4
  if a < 0x40130000 ∨ 0x40170000 ≤ a then none
  else if 0x1000 ≤ off ∧ off < 0x2000 then some (n, 0, word)
  else if 0x2000 ≤ off ∧ off < 0x3000 then some (n, 1, word)
  else if 0x4000 ≤ off ∧ off < 0x4400 then some (n, 2 + (off - 0x4000) / 128, word)
  else none

/-- A register read: word 0 of a receive window latches its element and word 31 releases it; a read of REC.STAMP_HI
latches STAMP_LO. -/
def State.regRead (s : State) (a : Nat) : Word × State :=
  match canWin a with
  | some (n, win, i) =>
    have s1 := if i = 0 then s.canLatch n win else s
    have v := s1.canWindow n win i
    (v, if i = 31 ∧ (s1.canCtl n).latch.any (fun p => p.1 == win) then s1.canRelease n win else s1)
  | none =>
    have s1 := if a = Reg.REC_STAMP_HI then s.wr Reg.REC_STAMP_LO (BitVec.ofNat 32 s.stamp) else s
    (s.view a, s1)

/-! The Insole window (Table 1.2). A slot shows the record that stands in it, and 0xFF beyond the record. -/

/-- A block of the recorder (Table 15.2). -/
def RecBlock.bytes (b : RecBlock) : Bytes :=
  have ext := fun (e : Extreme) => bytesLE 4 e.value.toNat ++ zeros 4 ++ bytesLE 8 e.stamp
  (List.range 640).flatMap (fun i => bytesLE 4 (tget ({} : RecBin) b.bins i).seconds) ++ ext b.ext0 ++ ext b.ext1 ++
    ext b.ext2 ++ ext b.ext3

/-- The counter entry of a code (Table 15.3). -/
def RecCounter.bytes (c : RecCounter) : Bytes := bytesLE 4 c.count ++ bytesLE 8 c.first ++ bytesLE 8 c.last ++ zeros 4

/-- The counters of every code. -/
def counterBytes (l : List (Nat × RecCounter)) : Bytes :=
  (List.range 1024).flatMap (fun k => (tget ({} : RecCounter) l k).bytes)

/-- The header of a summary record (Table 15.5). -/
def RecSummary.header (r : RecSummary) : Bytes :=
  bytesLE 4 r.rseq ++ [1, 0] ++ bytesLE 2 r.cellCount ++ bytesLE 8 r.stamp ++ bytesLE 8 r.plantS ++ bytesLE 4 r.plantNs ++
    bytesLE 4 r.vLo.toNat ++ bytesLE 4 r.vHi.toNat ++ bytesLE 4 r.iRated.toNat ++ bytesLE 4 r.soleScan ++
    bytesLE 8 r.soleStamp ++ bytesLE 4 r.nextEntry ++ zeros 8

/-- A summary record (R452). -/
def RecSummary.bytes (r : RecSummary) : Bytes :=
  have body := r.header ++ counterBytes r.counters ++
    (List.range (r.cellCount + 1)).flatMap (fun c => (tget ({} : RecBlock) r.blocks c).bytes)
  body ++ bytesLE 4 (crc32 body).toNat

/-- A detail entry (Table 15.4). -/
def DetailEntry.bytes (e : DetailEntry) : Bytes :=
  bytesLE 4 e.seq ++ bytesLE 2 e.code ++ bytesLE 2 e.suppressed ++ bytesLE 4 e.detail ++ bytesLE 8 e.stamp ++
    bytesLE 8 e.plantS ++ bytesLE 4 e.plantNs

/-- A page of the detail ring: unused entries carry CODE 0xFFFF. -/
def pageBytes (es : List DetailEntry) : Bytes :=
  have unused : Bytes := zeros 4 ++ [0xFF, 0xFF] ++ zeros 26
  have body := padTo 252 ((es.take 7).flatMap DetailEntry.bytes ++ (List.replicate (7 - es.length) unused).flatten)
  body ++ bytesLE 4 (crc32 body).toNat

/-- A copy of the Last (R478). -/
def LastCopy.bytes (c : LastCopy) : Bytes :=
  have body := c.header ++ c.data ++ c.cells.flatMap (·.2)
  body ++ bytesLE 4 (crc32 body).toNat

/-- A block of an image bank at a bank offset, with where the block begins. -/
def State.bankRecord (s : State) (k off : Nat) : Nat × Bytes :=
  have b := off / 65536
  (65536 * b, ((s.bankBlocks k).find? (fun x => x.1 == b)).elim [] (·.2))

/-- The bytes of a program bank at a bank offset: image blocks, then the two persistence slots (Table 10.1). -/
def State.programRecord (s : State) (b off : Nat) : Nat × Bytes :=
  if off < 0x200000 then s.bankRecord (2 + b) off
  else
    have k := (off - 0x200000) / 0x100000
    (0x200000 + 0x100000 * k, (s.persistSlot (2 * b + k)).elim [] PersistRec.bytes)

/-- The bytes of the configuration area at an offset (R499). The stored safety set stands in the slot that its
sequence's parity gives; the device record's layout is open. -/
def State.configRecord (s : State) (off : Nat) : Nat × Bytes :=
  have set := fun (odd : Bool) => match s.cfg.safety with
    | some x => if (x.seq % 2 == 1) == odd then x.bytes else []
    | none => []
  if off < 0x60000 then (0, s.cfg.bytesA)
  else if off < 0xC0000 then (0x60000, s.cfg.bytesB)
  else if off < 0xE0000 then (off, (List.range 4).map (fun i => Config.deviceByte s.free (off + i)))
  else if off < 0xF0000 then (0xE0000, set true)
  else (0xF0000, set false)

/-- The record that stands at an offset of the Insole window, and the offset at which it begins. -/
def State.insoleRecord (s : State) (off : Nat) : Nat × Bytes :=
  have shift := fun (base : Nat) (x : Nat × Bytes) => (base + x.1, x.2)
  if off < 0x800000 then s.bankRecord 0 off
  else if off < 0x1000000 then shift 0x800000 (s.bankRecord 1 (off - 0x800000))
  else if off < 0x1400000 then shift 0x1000000 (s.programRecord 0 (off - 0x1000000))
  else if off < 0x1800000 then shift 0x1400000 (s.programRecord 1 (off - 0x1400000))
  else if off < 0x1900000 then (0x1800000, s.est.slotA.elim [] JournalRec.bytes)
  else if off < 0x1A00000 then (0x1900000, s.est.slotB.elim [] JournalRec.bytes)
  else if off < 0x1E00000 then (0x1A00000, s.recorder.slotA.elim [] RecSummary.bytes)
  else if off < 0x2200000 then (0x1E00000, s.recorder.slotB.elim [] RecSummary.bytes)
  else if off < 0x2A00000 then
    have k := (off - 0x2200000) / 256
    (0x2200000 + 256 * k, (s.recorder.ring.find? (fun x => x.1 == k)).elim [] (fun x => pageBytes x.2))
  else if off < 0x2E00000 then (0x2A00000, s.red.copyA.elim [] LastCopy.bytes)
  else if off < 0x3200000 then (0x2E00000, s.red.copyB.elim [] LastCopy.bytes)
  else if off < 0x3300000 then shift 0x3200000 (s.configRecord (off - 0x3200000))
  else (off, (List.range 4).map (fun i => Config.factoryByte (off + i)))

/-- A word of the Insole window, at an offset that is a multiple of 4. -/
def State.insoleWord (s : State) (off : Nat) : Word :=
  have r := s.insoleRecord off
  have bs := slice r.2 (off - r.1) 4
  BitVec.ofNat 32 (natLE (bs ++ List.replicate (4 - bs.length) 0xFF))

end Sys2Proof.Machine
end

