-- ==== Sys2Proof/Machine/Bus.lean ====
section
/-!
DEFINITION. The bus of the Vamp: which accesses receive an error response (R11, R18, R22, R34, R376, R380, and the
registers that only firmware writes), what a read answers and what a write does, by the access codes of Table 0.3
(R13) and the behaviour of the registers that have one of their own; and the meaning of REGISTER_WRITE.
-/

namespace Sys2Proof.Machine

/-! Errors. -/

/-- Registers that only firmware writes, other writers receiving an error response: the limit table, LT_COMMIT and the
PERT registers (R236), the registers of DMA channels 0 to 7 (chapter 12), RED.ALIVE (R484). -/
def firmwareOnly (a : Nat) : Bool :=
  (decide (Reg.PCS_LT_CHG 0 ≤ a) && decide (a ≤ Reg.PCS_LT_COMMIT)) || a == Reg.PCS_PERT_CTRL ||
    (decide (Reg.PCS_PERT_INC 0 ≤ a) && decide (a ≤ Reg.PCS_PERT_PH 15)) ||
    (decide (Reg.DMA_CH_CTRL 0 ≤ a) && decide (a < Reg.DMA_CH_CTRL 8)) || a == Reg.RED_ALIVE

/-- An aligned word access that receives an error response. -/
def State.accessError (s : State) (who : Requester) (a : Nat) (write : Bool) : Bool :=
  have mapRead := !write && decide (allocPage ≤ a) && decide (a < allocPage + 0x1000)
  a % 4 != 0 || decide (a < 0x20000000) || (decide (gsramEnd ≤ a) && decide (a < 0x40000000)) ||
    (decide (0x401A0000 ≤ a) && decide (a < 0x60000000)) || decide (0x64000000 ≤ a) ||
    (who != .firmware && decide (serviceBank ≤ a) && decide (a < gsramEnd) && !mapRead) ||
    (decide (0x60000000 ≤ a) && write) || (decide (0x63300000 ≤ a) && decide (a < 0x63C00000)) ||
    (!s.links.vsUp && (a / 0x10000 == 0x4002 || a / 0x10000 == 0x400D)) ||
    (write && who != .firmware && firmwareOnly a)

/-- A byte of a GSRAM word that is in parity error (R383). -/
def State.badIn (s : State) (a : Nat) : Option Nat := s.dma.badBytes.find? (fun b => decide (a ≤ b) && decide (b < a + 4))

/-- A read of an aligned word, and what it does besides; none for an error response. A parity error answers none with
MEM_PARITY_DATA raised for the requester (R383, R384). -/
def State.busRead (s : State) (who : Requester) (requester a : Nat) : Option Word × State :=
  if s.accessError who a false then (none, s)
  else if a < gsramEnd then
    match s.badIn a with
    | some b => (none, s.dataParity requester b false)
    | none => (some (s.getWord a), s)
  else if a < 0x60000000 then
    have r := s.regRead a
    (some r.1, r.2)
  else (some (s.insoleWord (a - 0x60000000)), s)

/-! Register writes. -/

/-- The state a meaning leads to. -/
def State.after (s : State) (o : Host.Outcome State Fault Refusal) : State :=
  match o with
  | .next t => t
  | .fault _ => s
  | .refused _ => s

/-- Whether the RWL fields of a block take writes: until its commit (R13, R223, R434). -/
def State.rwlOpen (s : State) (a : Nat) : Bool :=
  if a / 0x10000 = 0x4009 then !s.ctl.committed
  else if 0x40130000 ≤ a ∧ a < 0x40170000 then !(s.canCtl ((a - 0x40130000) / 0x10000)).committed
  else true

/-- A write by access code alone (R13): RW and open RWL fields take the value, W1C flags written 1 clear, all else is
ignored. -/
def State.plainWrite (s : State) (a : Nat) (v : Word) : State :=
  have r := regRow a
  have mask := r.rw ||| (if s.rwlOpen a then r.rwl else 0)
  have old := s.rd a
  s.wr a (((old &&& ~~~mask) ||| (v &&& mask)) &&& ~~~(v &&& r.w1c))

/-- A write is ignored: the Awl registers while an impedance burst holds the Awl, where a START is refused (R219), SLOTn_CFG,
SRC and TRIG while slot n runs (R223), TARGET and SLOPE of a power-role slot that ran at entry to the Drogue overlay, until
that ends (R209), a comparator with SAFETY (R284), and CHn_CFG and BUF_SIZE of a DMA channel that is not OFF (R399). -/
def State.writeIgnored (s : State) (who : Requester) (a : Nat) : Bool :=
  have slotN := (a - Reg.CTL_SLOT_CFG 0) / 0x40
  have inSlot := fun (i : Nat → Nat) => decide (Reg.CTL_SLOT_CFG 0 ≤ a) && decide (slotN < 16) && a == i slotN
  have cmpN := (a - Reg.SOLE_CMP_CFG 0) / 8
  have inCmp := fun (i : Nat → Nat) => decide (Reg.SOLE_CMP_CFG 0 ≤ a) && decide (cmpN < 4) && a == i cmpN
  have ch := (a - Reg.DMA_CH_CTRL 0) / 0x40
  have inCh := fun (i : Nat → Nat) => decide (Reg.DMA_CH_CTRL 0 ≤ a) && decide (ch < 16) && a == i ch
  (s.awlState == 4 && who != .firmware &&
      ((decide (Reg.CTL_AWL_CTRL < a) && decide (a ≤ Reg.CTL_AWL_RUN)) ||
        (decide (Reg.CTL_MS_INC 0 ≤ a) && decide (a ≤ Reg.CTL_MS_PH 15)))) ||
    ((inSlot Reg.CTL_SLOT_CFG || inSlot Reg.CTL_SLOT_SRC || inSlot Reg.CTL_SLOT_TRIG) && s.running slotN) ||
    ((inSlot Reg.CTL_SLOT_TARGET || inSlot Reg.CTL_SLOT_SLOPE) && (s.slot slotN).drogue) ||
    ((inCmp Reg.SOLE_CMP_CFG || inCmp Reg.SOLE_CMP_THR) && s.bit (Reg.SOLE_CMP_CFG cmpN) 31) ||
    ((inCh Reg.DMA_CH_CFG || inCh Reg.DMA_CH_BUF_SIZE) && s.chanState ch != 0)

/-- Apply an operation when a bit of the written value is 1. -/
def State.onBit (s : State) (v : Word) (b : Nat) (f : State → State) : State := if getBit v b then f s else s

/-- CHn_CTRL: bits written together act in the order FREE, ALLOC, START, KICK, ABORT, DISABLE (R399). -/
def State.dmaCtrlWrite (s : State) (n : Nat) (v : Word) : State :=
  ((((((s.onBit v 5 (fun t => t.dmaFree n)).onBit v 4 (fun t => t.dmaAlloc n)).onBit v 0 (fun t => t.dmaStart n)).onBit
    v 1 (fun t => t.dmaKick n)).onBit v 2 (fun t => t.dmaAbort n)).onBit v 3 (fun t => t.dmaDisable n))

/-- Writes of the DMA block with behaviour of their own. -/
def State.dmaWrite (s : State) (a : Nat) (v : Word) : Option State :=
  have n := (a - Reg.DMA_CH_CTRL 0) / 0x40
  if a = Reg.DMA_SWREQ then some (s.dmaSwreq v)
  else if a < Reg.DMA_CH_CTRL 0 ∨ 16 ≤ n then none
  else if a = Reg.DMA_CH_CTRL n then some (s.dmaCtrlWrite n v)
  else if a = Reg.DMA_CH_CQ_TAIL n then some (s.dmaCqTail n (getBits v 11 0))
  else none

/-- Writes of a CAN block with behaviour of their own. Which slot stands on the bus at a TX_CANCEL is open here: a free
pick. -/
def State.canWrite (s : State) (a : Nat) (v : Word) : Option State :=
  have n := (a - 0x40130000) / 0x10000
  if a = Reg.CAN_CTRL n then
    some (((s.onBit v 0 (fun t => t.after (execCanSleepReq n (getBit v 1) t))).onBit v 1 (fun t => t.canWake n 0)).onBit
      v 2 (fun t => t.after (execCanRecover n t)))
  else if a = Reg.CAN_COMMIT n then some (s.after (execCanCommit n v s))
  else if a = Reg.CAN_TX_REQ n then some (s.after (execCanTxReq n v 0 s))
  else if a = Reg.CAN_TX_CANCEL n then
    have k := s.freeWord.toNat % 33
    some (s.after (execCanTxCancel n v (if k < 32 then some k else none) s.drawn))
  else if 0x3000 ≤ a % 0x10000 ∧ a % 0x10000 < 0x4000 then
    have i := a % 128 / 4
    have c := s.canCtl n
    some (if i = 31 then s.after (execCanTxPush n v s) else s.setCanCtl n { c with txWin := tset 0 c.txWin i v })
  else none

/-- Writes of the control engine and PWM blocks with behaviour of their own. Whether a trip source has been quiet for
1 µs is open here: a free value. -/
def State.ctlWrite (s : State) (a : Nat) (v : Word) : Option State :=
  if a = Reg.CTL_START then some (s.forSlots v State.startSlot)
  else if a = Reg.CTL_HALT then some (s.forSlots v State.haltCommand)
  else if a = Reg.CTL_APPLY then some (s.forSlots v State.applySlot)
  else if a = Reg.CTL_COMMIT then some (s.after (execCtlCommit v s))
  else if a = Reg.CTL_AWL_CTRL then
    some ((s.onBit v 0 (fun t => t.after (execAwlStart t))).onBit v 1 (fun t => t.awlAbort 8))
  else if a = Reg.PWM_TRIP_CLEAR then
    some (s.after (execPwmTripClear v (getBit s.freeWord 0) (getBit s.freeWord 1) s.drawn))
  else if a = Reg.PWM_ENABLE then some (s.enableWrite v)
  else if Reg.PWM_TB_PERIOD 0 ≤ a ∧ a ≤ Reg.PWM_TB_PERIOD 3 then some (s.periodWrite ((a - Reg.PWM_TB_PERIOD 0) / 4) v)
  else none

/-- Writes of the PCS and safety blocks with behaviour of their own. -/
def State.safWrite (s : State) (who : Requester) (a : Nat) (v : Word) : Option State :=
  if a = Reg.PCS_LT_COMMIT then some (s.ltCommitWrite v who)
  else if a = Reg.PCS_PERT_CTRL then some (s.pertWrite v who)
  else if a = Reg.PCS_DISP_CTRL then
    some (s.onBit v 0 (fun t => t.after (execPcsDispatchApply t)))
  else if a = Reg.SAF_ACK then some (s.safAckWrite v)
  else if a = Reg.SAF_OUT_REQ then some ((s.outReqClose v).onBit v 3 State.fire)
  else if a = Reg.WLT_REARM then some (s.weltRearm v)
  else none

/-- Writes of the time-base block with behaviour of their own. -/
def State.timWrite (s : State) (a : Nat) (v : Word) : Option State :=
  if a = Reg.TIM_CTRL then some (s.onBit v 0 (fun t => t.after (execTimCapture t)))
  else if a = Reg.TIM_ALARM_CFG 0 then some ((s.alarmArmed 0 v).plainWrite a v)
  else if a = Reg.TIM_ALARM_CFG 1 then some ((s.alarmArmed 1 v).plainWrite a v)
  else none

/-- Writes of the remaining blocks with behaviour of their own. -/
def State.coreWrite (s : State) (a : Nat) (v : Word) : Option State :=
  have k := (a - Reg.EVT_COUNT_CLEAR 0) / 4
  if a = Reg.SYS_RESTART then some (s.sysRestart v)
  else if a = Reg.PWR_CTRL then some (s.onBit v 0 (fun t => t.drawn.startHoldup (t.freeWord.toNat % 0x10000)))
  else if a = Reg.EVT_QUEUE_TAIL then some (s.queueTail v)
  else if Reg.EVT_COUNT_CLEAR 0 ≤ a ∧ a ≤ Reg.EVT_COUNT_CLEAR 3 then some (s.countClear k v)
  else if a = Reg.TTH_CTRL then some ((s.onBit v 0 State.enumerate).onBit v 1 State.recalReq)
  else if a = Reg.SWP_CTRL then
    some (((s.onBit v 0 (fun t => t.after (execSwpBurstReq t))).onBit v 1 (fun t => t.after (execSwpSeqReq t))).onBit
      v 2 (fun t => t.burstAbort 8))
  else if a = Reg.EST_CMD then some (s.estCommand (getBits v 7 0))
  else if a = Reg.PRG_CTRL then
    some ((((s.onBit v 0 State.hostRun).onBit v 1 State.stopRequest).onBit
      v 2 (fun t => t.requestChange (t.bit Reg.PRG_CHANGE_OPT 0))).onBit v 3 State.abortChange)
  else if a = Reg.REC_CTRL then some (s.onBit v 0 (fun t => t.after (execRecPersistReq t)))
  else if a = Reg.RED_ALIVE then some (s.refreshAlive v)
  else none

/-- The behaviour of its own of a written register, where it has one. -/
def State.ownWrite (s : State) (who : Requester) (a : Nat) (v : Word) : Option State :=
  have blk := a / 0x10000
  if blk = 0x4005 then s.dmaWrite a v
  else if 0x4013 ≤ blk ∧ blk ≤ 0x4016 then s.canWrite a v
  else if blk = 0x4009 ∨ blk = 0x400A then s.ctlWrite a v
  else if 0x400B ≤ blk ∧ blk ≤ 0x400E then s.safWrite who a v
  else if blk = 0x4012 then s.timWrite a v
  else s.coreWrite a v

/-- A register write that met no error. -/
def State.regWrite (s : State) (who : Requester) (a : Nat) (v : Word) : State :=
  if s.writeIgnored who a then s
  else (s.ownWrite who a v).getD (s.plainWrite a v)

/-- A write of an aligned word, none for an error response. -/
def State.busWrite (s : State) (who : Requester) (a : Nat) (v : Word) : Option State :=
  if s.accessError who a true then none
  else if a < gsramEnd then some (s.putWord a v)
  else some (s.regWrite who a v)

/-- What of a written value acts when hardware sets these bits of the register in the same cycle: a W1C flag that is set
then is not cleared, the set wins (R14). -/
def setWins (a : Nat) (value sets : Word) : Word := value &&& ~~~(sets &&& (regRow a).w1c)

/-- REGISTER_WRITE (R11 to R14, R37): a write of size bytes at an address, with an error response where one is due. sets
has the flags of the register that hardware sets in the same cycle. -/
def execRegisterWrite (who : Requester) (addr : Word) (size : Nat) (value sets : Word) (s : State) :
    Host.Outcome State Fault Refusal :=
  if !s.vampOn then .next s
  else
    match (if size = 4 then s.busWrite who addr.toNat (setWins addr.toNat value sets) else none) with
    | some t => .next t
    | none => .next (s.emit (.errorResponse addr.toNat))

end Sys2Proof.Machine
end

