-- ==== Sys2Proof/Machine/DmaMove.lean ====
section
/-!
DEFINITION. Accesses over the bus by the DMA engine (R382, R384, R389 to R391, R394, R397) and by the interpreter cores
(R316, R384).
-/

namespace Sys2Proof.Machine

/-! Bursts. -/

/-- The writer that a channel is: channels 0 to 7 are firmware's, the others software's. -/
def chanWho (n : Nat) : Requester := if n < 8 then .firmware else .host

/-- The published image's addresses. -/
def State.overImage (s : State) (a n : Nat) : Bool :=
  match s.program with
  | none => false
  | some p => overlaps a n (s.rd Reg.PRG_IMAGE_BASE).toNat ((s.rd Reg.PRG_IMAGE_BASE).toNat + progImageSize p)

/-- The channel still works on the descriptor. -/
def State.moving (s : State) (n : Nat) (d : List Word) : Bool :=
  (s.chanState n == 1 || s.chanState n == 3) && (s.chan n).desc == some d && !(s.chan n).issued

/-- Read the source word at the channel's position: from the image captured at the first burst (R382) or over the bus. -/
def State.sourceRead (s : State) (n a : Nat) (k : Nat) : Option Word × State :=
  match (s.chan n).image with
  | some im =>
    match s.badIn a with
    | some b => (none, s.dataParity 3 b false)
    | none => (some (BitVec.ofNat 32 (fieldLE im k 4)), s)
  | none => s.busRead (chanWho n) 3 a

/-- Move one word of a descriptor; an error response is a bus error (R397). -/
def State.moveWord (s : State) (n : Nat) (d : List Word) : State :=
  have k := (s.chan n).moved
  have ks := if getBit (descWord d 0) 27 then 0 else k
  have src := descSrc d + ks
  have dst := descDst d + (if getBit (descWord d 0) 26 then 0 else k)
  have r := s.sourceRead n src ks
  match r.1 with
  | none => r.2.dmaBusError n src false false
  | some w =>
    match r.2.busWrite (chanWho n) dst w with
    | none => r.2.dmaBusError n dst true false
    | some t => if t.moving n d then t.setChan n { t.chan n with moved := k + 4 } else t

/-- Move words of a descriptor while the channel goes on. -/
def State.moveWords (s : State) (n : Nat) (d : List Word) : Nat → State
  | 0 => s
  | i + 1 => if s.moving n d then (s.moveWord n d).moveWords n d i else s

/-- The channel after a burst: its last burst leaves it to complete or to wait for arrival (R394), and without a
request it waits (R391). -/
def State.afterBurst (s : State) (n : Nat) (d : List Word) : State :=
  have c := s.chan n
  if !s.moving n d then s
  else if descLength d ≤ c.moved then
    if s.dmaWaits d then s.setChan n { c with issued := true } else s.dmaComplete n
  else if descReq d ≠ 63 ∧ c.requests = 0 then (s.setChan n { c with waitSince := s.monoNs }).setChanState n 3
  else s

/-- One burst of channel n: it consumes one request of a paced line and moves min(burst, bytes remaining). -/
def State.burst (s : State) (n : Nat) (d : List Word) : State :=
  have c := s.chan n
  have span := descSpan (getBit (descWord d 0) 27) d
  have image := if c.moved = 0 ∧ s.overImage (descSrc d) span then some (s.getBytes (descSrc d) span)
    else if c.moved = 0 then none else c.image
  have s1 := s.setChan n { c with image := image, requests := if descReq d = 63 then c.requests else c.requests - 1 }
  (s1.moveWords n d (min (2 ^ descBurst d) ((descLength d - c.moved) / 4))).afterBurst n d

/-- A channel has a burst ready: its descriptor moves, unpaced or with a request. -/
def State.dmaReady (s : State) (n : Nat) : Bool :=
  match (s.chan n).desc with
  | none => false
  | some d => s.moving n d && (descReq d == 63 || decide (0 < (s.chan n).requests))

/-- The channel of a group of eight whose turn it is: the first one ready after the one that moved last. -/
def State.dmaNext (s : State) (base last : Nat) : Option Nat :=
  ((List.range 8).map (fun i => base + (last + 1 + i) % 8)).find? s.dmaReady

/-- The channel that moves the next burst (R390): channels 0 to 7 come before 8 to 15, and take turns among themselves. -/
def State.dmaTurn (s : State) : Option Nat :=
  match s.dmaNext 0 s.dma.lastLow with
  | some n => some n
  | none => s.dmaNext 8 s.dma.lastHigh

/-- A channel has had its turn. -/
def State.dmaTook (s : State) (n : Nat) : State :=
  { s with dma := { s.dma with
    lastLow := if n < 8 then n else s.dma.lastLow, lastHigh := if n < 8 then s.dma.lastHigh else n - 8 } }

/-- DMA_BURST (R389, R390): a channel with a request and its turn moves one burst. -/
def execDmaBurst (n : Nat) (s : State) : Host.Outcome State Fault Refusal :=
  match (s.chan n).desc with
  | some d => if s.vampOn && s.dmaTurn == some n then .next ((s.dmaTook n).burst n d) else .next s
  | none => .next s

/-! Register access by programs. -/

/-- A register access by a program that meets a parity error ends the task cycle (R384). -/
def State.programParity (s : State) (core a : Nat) : Option State :=
  if s.accessError .bavin a false || decide (gsramEnd ≤ a) then none
  else (s.badIn a).map (fun b => (s.dataParity (1 + core) b false).coreError core)

/-- RDREG (R316): the register's value, or 0 with runtime fault 3 on an error response. -/
def execBavinRdreg (core : Nat) (s : State) : Host.Outcome State Fault Refusal :=
  s.bavinDo core (some [0xFE, 0x58]) (fun k pc c =>
    match c.stack with
    | a :: st =>
      have addr := a.toNat % 2 ^ 32
      have v := ((s.busRead .bavin (1 + core) addr).1.getD 0).setWidth 64
      some ({ c with stack := v :: st }, fun t =>
        match t.programParity core addr with
        | some u => u
        | none =>
          have r := t.busRead .bavin (1 + core) addr
          if r.1.isNone then r.2.runtimeFault k 3 0 pc else r.2)
    | [] => none)

/-- WRREG (R316): the write acts when it executes; an error response raises runtime fault 3. -/
def execBavinWrreg (core : Nat) (s : State) : Host.Outcome State Fault Refusal :=
  s.bavinDo core (some [0xFE, 0x59]) (fun k pc c =>
    match c.stack with
    | v :: a :: st =>
      some ({ c with stack := st }, fun t =>
        match t.busWrite .bavin (a.toNat % 2 ^ 32) (v.setWidth 32) with
        | some u => u
        | none => t.runtimeFault k 3 0 pc)
    | _ => none)

end Sys2Proof.Machine
end

