-- ==== Sys2Proof/Machine/CmdSession.lean ====
section
/-!
DEFINITION. Sessions of the command channel (R351 to R354, R373 to R375): their close, the end of an owner session, and
violations with the throttle.
-/

namespace Sys2Proof.Machine

/-- CMD.STAT.THROTTLED_NOW. -/
def State.showThrottle (s : State) : State :=
  s.setBit Reg.CMD_STAT 8 (s.cmd.sessions.any (fun (p : Nat × Session) => p.2.throttled))

/-- A CMD_SESSION event (Table 11.11), with CMD.STAT.SESSION or OWNER. -/
def State.sessionEvent (s : State) (cause version i : Nat) : State :=
  have s1 := if cause = 7 then s
    else s.flag Reg.CMD_STAT Reg.CMD_STAT_COUNT (if 4 ≤ cause then 3 else 2)
  s1.strobe Src.CMD_SESSION (cause * 2 ^ 21 + version % 4 * 2 ^ 16 + i % 8)

/-- The protocol version of a session. -/
def State.sessVersion (s : State) (i : Nat) : Nat := ((s.session i).map (·.version)).getD 0

/-- The owner session ends (R370): closed, cause 5, or failed, cause 6. A staged set is discarded. -/
def State.endOwner (s : State) (cause : Nat) : State :=
  match s.cmd.owner with
  | none => s
  | some o =>
    have s1 : State := { s with cmd := { s.cmd with owner := none }, saf := { s.saf with stage := {} } }
    ((s1.setFld Reg.CMD_OWNER 30 27 0).setBit Reg.CMD_STAT 9 false).sessionEvent cause (s.sessVersion o.sess) o.sess

/-- What a session holds goes (R354): its held results are discarded, its open operations run on unheard, and its owner
session ends. -/
def State.dropSession (s : State) (i : Nat) : State :=
  have s0 := if (s.cmd.owner.map (·.sess)) = some i then s.endOwner 5 else s
  have s1 : State := { s0 with cmd := { s0.cmd with
    sessions := s0.cmd.sessions.filter (fun (p : Nat × Session) => p.1 != i),
    ops := s0.cmd.ops.map (fun o => if o.sess = some i then { o with sess := none } else o),
    nonces := s0.cmd.nonces.filter (fun (p : Nat × Bytes × Nat) => p.1 != i) } }
  have s2 := (((s1.wr (Reg.CMD_SESS_STAT i) 0).wr (Reg.CMD_SESS_HSEQ i) 0).wr (Reg.CMD_SESS_DSEQ i) 0).wr
    (Reg.CMD_SESS_VIOL i) 0
  s2.showInflight.showThrottle

/-- A session closes (R354). -/
def State.closeSession (s : State) (i cause : Nat) : State :=
  match s.session i with
  | none => s
  | some v => (s.dropSession i).sessionEvent cause v.version i

/-- SESSION_HOLD_EXPIRY (R354): SESSION_HOLD_S has passed since the session's last packet. -/
def execSessionHoldExpiry (i : Nat) (s : State) : Host.Outcome State Fault Refusal :=
  .next (if s.vampOn then s.closeSession i 3 else s)

/-! Violations and the throttle. -/

/-- CMD_THROTTLE with the violations of the last 1 s. -/
def State.throttleEvent (s : State) (i : Nat) (began : Bool) (n : Nat) : State :=
  s.strobe Src.CMD_THROTTLE (b2n began * 2 ^ 23 + min 255 n * 2 ^ 8 + i)

/-- A violation is recorded (R373, R374): the session's counts, CMD_VIOLATION, and a throttle from the 64th in 1 s. -/
def State.countViolation (s : State) (i kind tag : Nat) : State :=
  match s.session i with
  | none => s
  | some v =>
    have recent := s.monoNs :: v.viols.filter (fun t => decide (s.monoNs < t + 1000000000))
    have begins := !v.throttled && decide (64 ≤ recent.length)
    have v1 : Session := if begins then
        { v with viols := recent, throttled := true, throttleAt := s.monoNs, taken := some 0 }
      else { v with viols := recent }
    have total := min 0xFFFF (s.fld (Reg.CMD_SESS_VIOL i) 15 0 + 1)
    have s1 := (s.setSession i v1).wrN (Reg.CMD_SESS_VIOL i) (kind * 2 ^ 29 + min 255 recent.length * 2 ^ 16 + total)
    have s2 := (s1.flag Reg.CMD_STAT Reg.CMD_STAT_COUNT 0).strobe Src.CMD_VIOLATION
      (kind * 2 ^ 21 + tag % 512 * 2 ^ 11 + i)
    if begins then
      (s2.flag Reg.CMD_STAT Reg.CMD_STAT_COUNT 1).showThrottle.throttleEvent i true recent.length
    else s2

/-- A violating packet is answered and recorded, and nothing of it is executed (R373). -/
def State.violate (s : State) (i kind status : Nat) (p : CmdPacket) : State :=
  (s.reply i (p.flags / 8 % 2 * 8) (p.tag % 512) p.hseq p.opcode status 0 []).countViolation i kind p.tag

/-- THROTTLE_END (R374): 1 s without a violation has passed. -/
def execThrottleEnd (i : Nat) (s : State) : Host.Outcome State Fault Refusal :=
  match s.session i with
  | none => .next s
  | some v =>
    if v.throttled && s.vampOn then
      have recent := v.viols.filter (fun t => decide (s.monoNs < t + 1000000000))
      have s1 := (s.setSession i { v with throttled := false, taken := none, viols := recent }).setFld
        (Reg.CMD_SESS_VIOL i) 23 16 (min 255 recent.length)
      .next (s1.showThrottle.throttleEvent i false recent.length)
    else .next s

/-- A throttled session takes the first packet of each 10 ms, counted from the throttle's start; every other packet is
discarded and counted (R374). -/
def State.throttles (s : State) (v : Session) : Bool :=
  v.throttled && v.taken == some ((s.monoNs - v.throttleAt) / 10000000)

end Sys2Proof.Machine
end

