-- ==== Sys2Proof/Machine/CmdRead.lean ====
section
/-!
DEFINITION. What the command channel's information, register, memory, state, node, estimator, recorder and
configuration commands do (Table 11.5, Table 15.7). Each completes its operation op or leaves it open.
-/

namespace Sys2Proof.Machine

/-- Complete with OK and a result, or with BAD_PARAM where the parameters do not fit (R366). -/
def State.answer (s : State) (op : Nat) (fits : Bool) (body : Bytes) : State :=
  if fits then s.complete op St.OK body else s.complete op St.BAD_PARAM []

/-- A 32-bit field of a result. -/
def le4 (n : Nat) : Bytes := bytesLE 4 n

/-! Information. -/

/-- DEVICE_INFO. Firmware bank and VERSION share four bytes, the bank in bit 31. -/
def State.deviceInfo (s : State) (op : Nat) (ps : Bytes) : State :=
  s.answer op ps.isEmpty (le4 (s.fld Reg.SYS_ID 31 16) ++ bytesLE 8 Config.serial.toNat ++
    le4 (b2n s.update.runsB * 2 ^ 31 + s.fwVersion % 2 ^ 31) ++ le4 (b2n (s.bit Reg.PRG_STATE 10)) ++
    le4 (s.rd Reg.PRG_PROG_ID).toNat ++ le4 s.cfg.crc ++ bytesLE 1 (b2n s.compat) ++ bytesLE 1 (b2n s.converter))

/-- STATE_READ. -/
def State.stateRead (s : State) (op : Nat) (ps : Bytes) : State :=
  s.answer op ps.isEmpty (bytesLE 1 (modeCode s.mode) ++ bytesLE 1 (b2n s.drogue) ++ bytesLE 2 (s.latchedBits 1 13 true) ++
    bytesLE 2 (s.latchedBits 1 14 false) ++ le4 (s.rd Reg.PRG_STATE).toNat ++ s.getBytes s.cellTable 64)

/-- TABLE_INFO: the areas of Table 12.1 and the published image. -/
def State.tableInfo (s : State) (op : Nat) (ps : Bytes) : State :=
  s.answer op ps.isEmpty (le4 (s.areaBase 2) ++ le4 (s.areaBase 3) ++ le4 (s.areaBase 4) ++ le4 (s.areaBase 1) ++
    le4 (s.areaBase 6) ++ le4 (s.areaBase 0) ++ le4 (s.rd Reg.PRG_IMAGE_BASE).toNat)

/-! Registers and memory (R367). -/

/-- Read n words from an address: the bytes so far and the index of the word that met an error. -/
def State.readWords (s : State) (addr i : Nat) (acc : Bytes) : Nat → State × Bytes × Option Nat
  | 0 => (s, acc, none)
  | n + 1 =>
    have r := s.busRead .host 6 ((addr + 4 * i) % 2 ^ 32)
    match r.1 with
    | none => (r.2, acc, some i)
    | some w => r.2.readWords addr (i + 1) (acc ++ bytesLE 4 w.toNat) n

/-- REG_READ. -/
def State.regReadCmd (s : State) (op : Nat) (ps : Bytes) : State :=
  have n := fieldLE ps 4 2
  if ps.length ≠ 6 ∨ n = 0 ∨ 256 < n then s.complete op St.BAD_PARAM []
  else
    match s.readWords (fieldLE ps 0 4) 0 [] n with
    | (t, bs, none) => t.complete op St.OK bs
    | (t, _, some i) => t.complete op St.REG_ERROR (bytesLE 2 i)

/-- An operation is still open. -/
def State.opOpen (s : State) (op : Nat) : Bool := s.cmd.ops.any (fun o => o.id == op)

/-- Write words in order, up to the first error response; a restart of the Vamp ends the command. -/
def State.writeWordsCmd (s : State) (op addr i : Nat) : List Word → State
  | [] => s.complete op St.OK []
  | w :: ws =>
    match s.busWrite .host ((addr + 4 * i) % 2 ^ 32) w with
    | none => s.complete op St.REG_ERROR (bytesLE 2 i)
    | some t => if t.opOpen op then t.writeWordsCmd op addr (i + 1) ws else t

/-- REG_WRITE. -/
def State.regWriteCmd (s : State) (op : Nat) (ps : Bytes) : State :=
  have n := fieldLE ps 4 2
  if ps.length < 6 ∨ n = 0 ∨ 256 < n ∨ ps.length ≠ 6 + 4 * n then s.complete op St.BAD_PARAM []
  else s.writeWordsCmd op (fieldLE ps 0 4) 0 ((List.range n).map (fun i => BitVec.ofNat 32 (fieldLE ps (6 + 4 * i) 4)))

/-- Bytes of GSRAM or of the Insole window: none for an error response, with what a parity error raises. -/
def State.memBytes (s : State) (addr n : Nat) : Option Bytes × State :=
  have first := addr / 4 * 4
  have count := (addr + n + 3) / 4 - addr / 4
  have words := (List.range count).map (fun i => first + 4 * i)
  if words.any (fun a => s.accessError .host a false) || (decide (0x40000000 ≤ addr + n) && decide (addr < 0x60000000)) then (none, s)
  else if addr < gsramEnd then
    match s.dma.badBytes.find? (fun b => decide (addr ≤ b) && decide (b < addr + n)) with
    | some b => (none, s.dataParity 6 b false)
    | none => (some (s.getBytes addr n), s)
  else (some (slice (words.flatMap (fun a => bytesLE 4 (s.insoleWord (a - 0x60000000)).toNat)) (addr - first) n), s)

/-- MEM_READ. -/
def State.memRead (s : State) (op : Nat) (ps : Bytes) : State :=
  have n := fieldLE ps 4 2
  if ps.length ≠ 6 ∨ n < 4 ∨ 1392 < n ∨ n % 4 ≠ 0 then s.complete op St.BAD_PARAM []
  else
    match s.memBytes (fieldLE ps 0 4) n with
    | (some bs, t) => t.complete op St.OK bs
    | (none, t) => t.complete op St.REG_ERROR []

/-! Controller state. -/

/-- RUN (R324). -/
def State.runCmd (s : State) (op : Nat) (ps : Bytes) : State :=
  if !ps.isEmpty then s.complete op St.BAD_PARAM []
  else if s.mayRun then s.hostRun.complete op St.OK [] else s.complete op St.REFUSED []

/-- STOP (R324). -/
def State.stopCmd (s : State) (op : Nat) (ps : Bytes) : State :=
  if ps.isEmpty then s.stopRequest.complete op St.OK [] else s.complete op St.BAD_PARAM []

/-- No demand and no cause is latched in either channel, and Safe may be left (R5). A unit that no grant has made
active does not leave it (R3): it waits for its next Boot. -/
def State.mayResume (s : State) : Bool :=
  s.mode == .safe && !s.supply.booting && !s.holdsAny 1 && !s.holdsAny 2 && !(s.compat && s.fld Reg.RED_ROLE 31 30 == 2)

/-- Safe is left (R5): to Run if tasks were running on its entry, otherwise to Stop; the power hold ends (R210). -/
def State.resume (s : State) : State :=
  have run := s.saf.tasksOnSafe && s.activeRole
  have t := (s.endHold 21).setMode (if run then .run else .stop) s.drogue
  if run then t.reachRun else t

/-- RESUME. -/
def State.resumeCmd (s : State) (op : Nat) (ps : Bytes) : State :=
  if !ps.isEmpty then s.complete op St.BAD_PARAM []
  else if s.mayResume then
    have t := s.resume
    t.complete op St.OK (bytesLE 1 (modeCode t.mode))
  else s.complete op St.REFUSED []

/-- ACKNOWLEDGE (R270). -/
def State.acknowledgeCmd (s : State) (op : Nat) (ps : Bytes) : State :=
  if !ps.isEmpty then s.complete op St.BAD_PARAM []
  else if s.cfgN 10 20 0 1 % 2 = 0 then s.complete op St.DENIED []
  else
    have t := s.ackFrom 0
    t.complete op St.OK (bytesLE 2 (t.latchedBits 1 13 true) ++ bytesLE 2 (t.latchedBits 1 14 false))

/-- SHUTDOWN (R182, R366): it completes when the journal reports cause 4. -/
def State.shutdownCmd (s : State) (op : Nat) (ps : Bytes) : State :=
  if !ps.isEmpty then s.complete op St.BAD_PARAM []
  else ({ s with cmd := { s.cmd with shutdownOps := s.cmd.shutdownOps ++ [op] } } : State).journalTrigger 4

/-- DISPATCH (R247). -/
def State.dispatchCmd (s : State) (op : Nat) (ps : Bytes) : State :=
  have w := fun off => BitVec.ofNat 32 (fieldLE ps off 4)
  have lease := fieldLE ps 10 2
  if ps.length ≠ 12 then s.complete op St.BAD_PARAM []
  else
    have bar := s.dispatchBar (w 0) (w 4) lease
    have t := s.dispatch (w 0) (w 4) (fieldLE ps 8 2) lease
    if bar = 0 then t.complete op St.OK [] else t.complete op St.REFUSED (bytesLE 1 bar)

/-- BURST (R118): the operation waits for its burst, queued while another request is in hand. -/
def State.burstCmd (s : State) (op : Nat) (ps : Bytes) : State :=
  have seq := fieldLE ps 0 1 == 1
  if ps.length ≠ 1 ∨ 1 < fieldLE ps 0 1 then s.complete op St.BAD_PARAM []
  else
    have queued := !s.swp.bands.isEmpty
    ({ s with swp := { s.swp with waiting := s.swp.waiting ++ [(op, seq, queued)] } } : State).requestBurst seq

/-! Nodes and the estimator. -/

/-- NODE_CONFIG_READ: the node's CONFIG_READ reply. -/
def State.nodeConfigRead (s : State) (op : Nat) (ps : Bytes) : State :=
  have n := fieldLE ps 0 1
  have count := fieldLE ps 2 1
  if ps.length ≠ 3 ∨ count = 0 ∨ 15 < count then s.complete op St.BAD_PARAM []
  else if n = 0 ∨ s.nodeCount < n then s.complete op St.NOT_FOUND []
  else if !s.chainOn then s.complete op St.STATE []
  else
    (s.enqueue { node := n, op := 0x0A, payload := ps.drop 1, cmd := some op }).pump

/-- NODE_STATUS: the node's DIAG STATUS reply. -/
def State.nodeStatus (s : State) (op : Nat) (ps : Bytes) : State :=
  have n := fieldLE ps 0 1
  if ps.length ≠ 1 then s.complete op St.BAD_PARAM []
  else if n = 0 ∨ s.nodeCount < n then s.complete op St.NOT_FOUND []
  else if !s.chainOn then s.complete op St.STATE []
  else
    (s.enqueue { node := n, op := 0x0B, payload := [2] ++ zeros 8, cmd := some op }).pump

/-- ENUMERATE (R81): it completes at TTH_ENUM_DONE. -/
def State.enumerateCmd (s : State) (op : Nat) (ps : Bytes) : State :=
  if !ps.isEmpty then s.complete op St.BAD_PARAM []
  else if !s.chainOn then s.complete op St.STATE []
  else ({ s with tth := { s.tth with enumWaiting := s.tth.enumWaiting ++ [op] } } : State).enumerate

/-- LEARNED_RESET: the cells start from defaults at the next sweep boundary (R163). -/
def State.learnedReset (s : State) (op : Nat) (ps : Bytes) : State :=
  have cells := (List.range (ps.length / 2)).map (fun i => fieldLE ps (2 * i) 2)
  if ps.length % 2 ≠ 0 ∨ cells.isEmpty ∨ 256 < cells.length then s.complete op St.BAD_PARAM []
  else if cells.any (fun c => c == 0 || decide (s.cellCount < c)) then s.complete op St.NOT_FOUND []
  else
    ({ s with est := { s.est with resetDue := s.est.resetDue ++ cells.filter (fun c => !s.est.resetDue.contains c) } } : State).complete
      op St.OK []

/-- EST_CMD (R155): it completes with EST.CMD_STAT when the command is done; a refused one changes nothing but the
status. -/
def State.estCmd (s : State) (op : Nat) (ps : Bytes) : State :=
  have code := fieldLE ps 0 1
  if ps.length ≠ 9 ∨ code = 0 ∨ 5 < code then s.complete op St.BAD_PARAM []
  else
    have busy := s.bit Reg.EST_CMD_STAT 2
    have s1 := if busy then s else (s.wrN Reg.EST_CMD_ARG0 (fieldLE ps 1 4)).wrN Reg.EST_CMD_ARG1 (fieldLE ps 5 4)
    have t := s1.estCommand code
    if !busy && t.bit Reg.EST_CMD_STAT 2 then { t with cmd := { t.cmd with estOp := some op } }
    else t.complete op St.REFUSED (le4 (t.rd Reg.EST_CMD_STAT).toNat)

/-! Recorder and configuration. -/

/-- The bytes of a part of the recorder's live copy. -/
def State.recorderPart (s : State) (part index : Nat) : Bytes :=
  match part with
  | 0 => s.recSnapshot.header
  | 1 => counterBytes s.recorder.counters
  | 2 => (s.recBlock 0).bytes
  | _ => (s.recBlock index).bytes

/-- The detail entries of the Insole ring from an ENTRY_SEQ on. -/
def State.ringFrom (s : State) (index : Nat) : List DetailEntry :=
  have all := s.recorder.ring.flatMap (fun (x : Nat × List DetailEntry) => x.2)
  have n := (all.map (fun e => (e.seq + 2 ^ 32 - index) % 2 ^ 32)).filter (· < 2 ^ 31)
  (List.range (n.foldl max 0 + 1)).filterMap (fun k => all.find? (fun e => e.seq == (index + k) % 2 ^ 32))

/-- RECORDER_READ. -/
def State.recorderRead (s : State) (op : Nat) (ps : Bytes) : State :=
  have part := fieldLE ps 0 1
  have index := fieldLE ps 4 4
  have off := fieldLE ps 8 4
  have n := fieldLE ps 12 2
  if ps.length ≠ 14 ∨ 4 < part ∨ n < 4 ∨ 1392 < n then s.complete op St.BAD_PARAM []
  else if part = 3 ∧ (index = 0 ∨ s.cellCount < index) then s.complete op St.NOT_FOUND []
  else if part = 4 then
    have es := s.ringFrom index
    if (es.head?.map (·.seq)) ≠ some index then s.complete op St.NOT_FOUND []
    else s.complete op St.OK (slice ((es.take (off / 32 + 44)).flatMap DetailEntry.bytes) off n)
  else
    have bs := s.recorderPart part index
    if bs.length < off + n then s.complete op St.BAD_PARAM [] else s.complete op St.OK (slice bs off n)

/-- CONFIG_READ: bytes of the stored image. -/
def State.configReadCmd (s : State) (op : Nat) (ps : Bytes) : State :=
  have off := fieldLE ps 0 4
  have n := fieldLE ps 4 2
  if ps.length ≠ 6 ∨ n < 4 ∨ 1392 < n then s.complete op St.BAD_PARAM []
  else match s.cfg.newest with
    | none => s.complete op St.NOT_FOUND []
    | some x =>
      if x.2.length < off + n then s.complete op St.BAD_PARAM [] else s.complete op St.OK (slice x.2 off n)

/-- The session of an operation holds the owner session. -/
def State.ownerOp (s : State) (op : Nat) : Bool :=
  match s.cmd.owner, s.cmd.ops.find? (fun o => o.id == op) with
  | some w, some o => o.sess == some w.sess
  | _, _ => false

/-- The configuration lock refuses a command (R367). -/
def State.configLocked (s : State) (op : Nat) : Bool := s.cfg.dev.configLock && !s.ownerOp op

/-- CONFIG_WRITE: bytes are staged. -/
def State.configWriteCmd (s : State) (op : Nat) (ps : Bytes) : State :=
  have off := fieldLE ps 0 4
  have data := ps.drop 4
  if ps.length < 5 ∨ 0x60000 < off + data.length then s.complete op St.BAD_PARAM []
  else if s.configLocked op then s.complete op St.DENIED []
  else
    have staged := ((List.range data.length).zip data).foldl (fun (l : List (Nat × Byte)) x => tset 0 l (off + x.1) x.2)
      s.cfg.staged
    ({ s with cfg := { s.cfg with staged := staged } } : State).complete op St.OK []

/-- The staged bytes from offset 0, of the length that the staged header gives. -/
def State.stagedImage (s : State) : Bytes :=
  have at_ := fun i => tget (0 : Byte) s.cfg.staged i
  have len := fieldLE ((List.range 16).map at_) 12 4
  (List.range (min len 0x60000)).map at_

/-- A configuration image is refused (R500), and CONFIG_COMMIT with it. -/
def State.refuseCommit (s : State) (op : Nat) (r : Refused) : State :=
  (s.reportRefused r).complete op St.REFUSED (le4 (r.sec % 256 * 2 ^ 16 + min 255 r.item * 2 ^ 8 + r.reason))

/-- CONFIG_COMMIT (R499, R500): an accepted image is stored for the next start. -/
def State.configCommit (s : State) (op : Nat) (ps : Bytes) : State :=
  have bs := s.stagedImage
  if ps.length ≠ 4 then s.complete op St.BAD_PARAM []
  else if s.configLocked op then s.complete op St.DENIED []
  else if s.cfg.writing.isSome then s.complete op St.BUSY []
  else if !crcHolds bs || endCrc bs != fieldLE ps 0 4 then s.refuseCommit op ⟨0, 0, 3⟩
  else match parseImage bs with
    | none => s.refuseCommit op ⟨0, 0, 3⟩
    | some img =>
      match s.configRefusal img.items with
      | some r => s.refuseCommit op r
      | none =>
        { s.insoleStart .config with cfg := { s.cfg with writing := some (img, bs), staged := [] },
                                     cmd := { s.cmd with configOp := some op } }

end Sys2Proof.Machine
end

