-- ==== Sys2Proof/Machine/CmdProg.lean ====
section
/-!
DEFINITION. What the command channel's program, image update, cancel and close commands do (Table 11.5, Table 15.7, R328,
R329, R338, R364). Each completes its operation op or leaves it open.
-/

namespace Sys2Proof.Machine

/-! Symbols. -/

/-- An entry of SYMBOL_READ or the head of SYMBOL_WRITE: identity, first element, count. -/
def symEntry (ps : Bytes) (off : Nat) : Word × Nat × Nat :=
  (BitVec.ofNat 32 (fieldLE ps off 4), fieldLE ps (off + 4) 2, fieldLE ps (off + 6) 2)

/-- The symbol of an identity in the active program, with its index. -/
def State.symHere (s : State) (ident : Word) : Option (Nat × Symbol) := s.program.bind (fun p => symFind p ident)

/-- The published bytes of an entry: an error status, or the values in order. -/
def State.readEntry (s : State) (e : Word × Nat × Nat) : Nat × Bytes :=
  match s.symHere e.1 with
  | none => (St.NOT_FOUND, [])
  | some (i, y) =>
    if y.elements < e.2.1 + e.2.2 then (St.BAD_PARAM, [])
    else (St.OK, (List.range e.2.2).flatMap (fun k => valBytes y.ty (s.imageVal i (e.2.1 + k))))

/-- SYMBOL_READ (R328): the values of the last publication. -/
def State.symbolRead (s : State) (op : Nat) (ps : Bytes) : State :=
  have n := ps.length / 8
  if ps.length % 8 ≠ 0 ∨ n = 0 ∨ 64 < n then s.complete op St.BAD_PARAM []
  else
    have parts := (List.range n).map (fun i => s.readEntry (symEntry ps (8 * i)))
    match parts.find? (fun x => x.1 != St.OK) with
    | some x => s.complete op x.1 []
    | none =>
      have bs := parts.flatMap (fun x => x.2)
      if 1400 < bs.length then s.complete op St.BAD_PARAM [] else s.complete op St.OK bs

/-- An operation waits for a snapshot: key 2 * symbol that of a task that reads or owns the symbol, 2 * symbol + 1 that of
its owner, 0 that of any task. -/
def State.awaitSnapshot (s : State) (key op : Nat) : State :=
  { s with cmd := { s.cmd with snapshotOps := s.cmd.snapshotOps ++ [(key, op)] } }

/-- SYMBOL_WRITE (R329): VAR, RETAIN and PERSIST symbols, applied at the owning task's next snapshot. -/
def State.symbolWrite (s : State) (op : Nat) (ps : Bytes) : State :=
  have e := symEntry ps 0
  if ps.length < 8 then s.complete op St.BAD_PARAM []
  else match s.symHere e.1 with
    | none => s.complete op St.NOT_FOUND []
    | some (i, y) =>
      if y.cls < 2 ∨ 4 < y.cls ∨ y.elements < e.2.1 + e.2.2 ∨ ps.length ≠ 8 + typeSize y.ty * e.2.2 then
        s.complete op St.BAD_PARAM []
      else
        have writes := (List.range e.2.2).foldl (fun (w : Values) k =>
          valPut w (valKey i (e.2.1 + k)) (valAt y.ty ps (8 + typeSize y.ty * k))) s.prg.hostWrites
        ({ s with prg := { s.prg with hostWrites := writes } } : State).awaitSnapshot (2 * i + 1) op

/-! Forces (R338). -/

/-- The forces, with PRG.STATE.FORCES. -/
def State.setForces (s : State) (fs : List Force) : State :=
  ({ s with prg := { s.prg with forces := fs } } : State).setFld Reg.PRG_STATE 24 16 fs.length

/-- A force has a key. -/
def Force.hasKey (f : Force) (ident : Word) (el : Nat) : Bool := f.identity == ident && f.element == el

/-- FORCE_SET: a force takes effect at the next snapshot of each task that reads or owns the symbol. -/
def State.forceSet (s : State) (op : Nat) (ps : Bytes) : State :=
  have ident := BitVec.ofNat 32 (fieldLE ps 0 4)
  have el := fieldLE ps 4 2
  if ps.length ≠ 14 then s.complete op St.BAD_PARAM []
  else match s.symHere ident with
    | none => s.complete op St.NOT_FOUND []
    | some (i, y) =>
      if y.cls = 5 ∨ y.cls = 6 ∨ y.elements ≤ el then s.complete op St.BAD_PARAM []
      else
        have v := valAt y.ty (ps.drop 6) 0
        if s.prg.forces.any (fun f => f.hasKey ident el) then
          (s.setForces (s.prg.forces.map (fun f => if f.hasKey ident el then { f with value := v } else f))).awaitSnapshot (2 * i) op
        else if 256 ≤ s.prg.forces.length then s.complete op St.BUSY []
        else (s.setForces (s.prg.forces ++ [{ identity := ident, element := el, value := v }])).awaitSnapshot (2 * i) op

/-- FORCE_CLEAR: one force, or all of them. -/
def State.forceClear (s : State) (op : Nat) (ps : Bytes) : State :=
  have ident : Word := BitVec.ofNat 32 (fieldLE ps 0 4)
  have el := fieldLE ps 4 2
  if ps.length ≠ 6 then s.complete op St.BAD_PARAM []
  else if ident = 0xFFFFFFFF then
    if s.prg.forces.isEmpty then s.complete op St.OK [] else (s.setForces []).awaitSnapshot 0 op
  else if s.prg.forces.any (fun f => f.hasKey ident el) then
    (s.setForces (s.prg.forces.filter (fun f => !f.hasKey ident el))).awaitSnapshot
      (match s.symHere ident with
        | some x => 2 * x.1
        | none => 0) op
  else s.complete op St.NOT_FOUND []

/-- FORCE_LIST: entries from an index, in the order in which the forces were set. -/
def State.forceList (s : State) (op : Nat) (ps : Bytes) : State :=
  have ty := fun (f : Force) => ((s.symHere f.identity).map (fun x => x.2.ty)).getD 0
  have entry := fun (f : Force) => le4 f.identity.toNat ++ bytesLE 2 f.element ++ bytesLE 1 (ty f) ++ [0] ++
    padTo 8 (valBytes (ty f) f.value)
  s.answer op (ps.length == 2) (((s.prg.forces.drop (fieldLE ps 0 2)).take 80).flatMap entry)

/-! The on-line change. -/

/-- CHANGE (R339): it completes at PRG_CHANGE_DONE or PRG_CHANGE_REFUSED. -/
def State.changeCmd (s : State) (op : Nat) (ps : Bytes) : State :=
  if ps.length ≠ 1 then s.complete op St.BAD_PARAM []
  else if s.prg.change.isSome then s.complete op St.BUSY []
  else ({ s with cmd := { s.cmd with changeOp := some op } } : State).requestChange (fieldLE ps 0 1 % 2 == 1)

/-! CANCEL (R364). -/

/-- Another request keeps a burst or a full sequence wanted: SWP.CTRL, or an operation that waits for it. -/
def State.burstWanted (s : State) (seq : Bool) : Bool :=
  s.bit Reg.SWP_CTRL (b2n seq) || s.swp.waiting.any (fun (w : Nat × Bool × Bool) => w.2.1 == seq)

/-- A burst operation that waits is taken back: its request goes unless something else wants it (Table 11.5: until
p0). -/
def State.cancelBurst (s : State) (op : Nat) (seq queued : Bool) : State :=
  have s1 := ({ s with swp := { s.swp with
    waiting := s.swp.waiting.filter (fun (w : Nat × Bool × Bool) => w.1 != op) } } : State).complete op St.ABORTED []
  if s1.burstWanted seq then s1
  else if queued then
    { s1 with swp := { s1.swp with reqH := s1.swp.reqH && seq, reqSeq := s1.swp.reqSeq && !seq } }
  else
    have s2 : State := { s1 with swp := { s1.swp with bands := s1.swp.bands.take 1 } }
    if s2.burstState = 1 then s2.nextBand else s2.burstAbort 8

/-- The request in hand has not passed the p0 of its first burst. -/
def State.beforeP0 (s : State) (seq : Bool) : Bool :=
  s.swp.bands.length == (if seq then 3 else 1) && decide (s.burstState ≤ 2)

/-- CANCEL of an open operation: true if it ended with ABORTED. -/
def State.cancelOp (s : State) (op : Nat) : Option State :=
  match s.swp.waiting.find? (fun (w : Nat × Bool × Bool) => w.1 == op) with
  | some (_, seq, queued) => if queued || s.beforeP0 seq then some (s.cancelBurst op seq queued) else none
  | none =>
    if s.cmd.changeOp = some op ∧ s.prg.change.isSome then
      some ((({ s with cmd := { s.cmd with changeOp := none } } : State).complete op St.ABORTED []).abortChange)
    else none

/-- CANCEL names a tag of its own session. -/
def State.cancelCmd (s : State) (i op : Nat) (ps : Bytes) : State :=
  have tag := fieldLE ps 0 2
  if ps.length ≠ 2 ∨ 511 < tag then s.complete op St.BAD_PARAM []
  else match s.cmd.ops.find? (fun o => o.sess == some i && o.tag == tag) with
    | some o =>
      match s.cancelOp o.id with
      | some t => t.complete op St.OK []
      | none => s.complete op St.TOO_LATE []
    | none =>
      have held := match s.session i with
        | some v => v.results.any (fun (r : Nat × HeldResult) => r.1 == tag)
        | none => false
      s.complete op (if held then St.TOO_LATE else St.NOT_FOUND) []

/-- BYE (R354): the session closes when it completes. -/
def State.byeCmd (s : State) (i op : Nat) (ps : Bytes) : State :=
  if ps.isEmpty then (s.complete op St.OK []).closeSession i 2 else s.complete op St.BAD_PARAM []

/-! Image update: lengths that fit no command are refused before anything else. -/

/-- IMAGE_BEGIN, IMAGE_BLOCK, IMAGE_VERIFY and IMAGE_ABORT (Table 15.7). -/
def State.imageBeginCmd (s : State) (op : Nat) (ps : Bytes) : State :=
  if ps.length < 7 then s.complete op St.BAD_PARAM (bytesLE 2 s.update.manifestBytes.length) else s.imageBegin op ps
def State.imageBlockCmd (s : State) (op : Nat) (ps : Bytes) : State :=
  if ps.length < 11 then s.complete op St.BAD_PARAM (bytesLE 4 s.update.held.length) else s.imageBlock op ps
def State.imageVerifyCmd (s : State) (op : Nat) (ps : Bytes) : State :=
  if ps.length ≠ 1 then s.complete op St.BAD_PARAM [] else s.imageVerify op ps
def State.imageAbortCmd (s : State) (op : Nat) (ps : Bytes) : State :=
  if !ps.isEmpty then s.complete op St.BAD_PARAM [] else s.imageAbort op

end Sys2Proof.Machine
end

