-- ==== Sys2Proof/Machine/CmdOwner.lean ====
section
/-!
DEFINITION. The owner-signed session (R279, R368 to R372): enrolment, the nonce and its signature, the Welt pair of the
session, and the owner sub-operations of Table 11.6.
-/

namespace Sys2Proof.Machine

/-! The owner session (R368, R369). -/

/-- OWNER_OPEN: a nonce from the hardware random source, whose value the spec leaves open. -/
def State.ownerOpen (s : State) (i op : Nat) (ps : Bytes) : State :=
  if !ps.isEmpty then s.complete op St.BAD_PARAM []
  else if s.cmd.owner.isSome then s.complete op St.BUSY []
  else
    have x := s.freeBytes 16
    have t := x.2
    ({ t with cmd := { t.cmd with
      nonces := t.cmd.nonces.filter (fun (p : Nat × Bytes × Nat) => p.1 != i) ++ [(i, x.1, t.monoNs)] } } : State).complete
      op St.OK x.1

/-- The nonce of a session's latest OWNER_OPEN while it is valid: 30 s. -/
def State.nonceOf (s : State) (i : Nat) : Option Bytes :=
  match s.cmd.nonces.find? (fun (p : Nat × Bytes × Nat) => p.1 == i) with
  | some (_, nonce, t) => if s.monoNs < t + 30000000000 then some nonce else none
  | none => none

/-- A nonce is used up. -/
def State.dropNonce (s : State) (i : Nat) : State :=
  { s with cmd := { s.cmd with nonces := s.cmd.nonces.filter (fun (p : Nat × Bytes × Nat) => p.1 != i) } }

/-- OWNER_ENROL (R368): the first key by its own signature over the nonce, a further one from the owner session. It
completes when the device record is stored. -/
def State.ownerEnrol (s : State) (i op : Nat) (ps : Bytes) : State :=
  have key := ps.take 64
  if ps.length ≠ 128 then s.complete op St.BAD_PARAM []
  else
    have ok := match s.cfg.dev.key with
      | some _ => (s.cmd.owner.map (fun w => w.sess)) == some i
      | none => match s.nonceOf i with
        | some nonce => Config.ecdsaVerify key (Config.sha256 nonce) (ps.drop 64)
        | none => false
    if !ok then s.complete op St.DENIED []
    else
      have s1 : State := { s with cfg := { s.cfg with
        dev := { s.cfg.dev with key := some key }, devOps := s.cfg.devOps ++ [(op, [])] } }
      s1.storeDevice.setBit Reg.CMD_OWNER 31 true

/-- What OWNER_AUTH signs: nonce, device serial and HOST_ID. -/
def ownerMessage (nonce : Bytes) (hostId : Nat) : Bytes := nonce ++ bytesLE 8 Config.serial.toNat ++ bytesLE 8 hostId

/-- The owner session opens (R370): both Welt connections begin at one START_SEQ. -/
def State.openOwner (s : State) (i op : Nat) (nonce sig : Bytes) : State :=
  have start := s.freeWord.toNat % 2 ^ 24
  have id := BitVec.ofNat 32 (fieldLE (Config.sha256 (nonce ++ sig)) 0 4)
  have t := s.drawn
  have s1 : State := { t with cmd := { t.cmd with owner := some { sess := i, idH := id, lastRx := start, lastTx := start } } }
  have s2 := (s1.setFld Reg.CMD_OWNER 30 27 (8 + i % 8)).setBit Reg.CMD_STAT 9 true
  (s2.sessionEvent 4 (s2.sessVersion i) i).complete op St.OK (le4 start)

/-- OWNER_AUTH (R369): it uses the nonce up. -/
def State.ownerAuth (s : State) (i op : Nat) (ps : Bytes) : State :=
  if ps.length ≠ 64 then s.complete op St.BAD_PARAM []
  else
    have t := s.dropNonce i
    if s.cmd.owner.isSome then t.complete op St.BUSY []
    else match s.nonceOf i, s.session i, s.cfg.dev.key with
      | some nonce, some v, some key =>
        if Config.ecdsaVerify key (Config.sha256 (ownerMessage nonce v.hostId)) ps then t.openOwner i op nonce ps
        else t.complete op St.DENIED []
      | _, _, _ => t.complete op St.DENIED []

/-! Safety parameter sets (R279). -/

/-- The items of a complete staged set, if they parse as section 10. -/
def ParamStage.items (p : ParamStage) : Option CfgItems := sectionItems 10 p.bytes

/-- A staged set is outside the ranges or rules of R278. -/
def State.stageRefused (s : State) : Bool :=
  match s.saf.stage.items with
  | none => true
  | some items => s.safetyRefusal items

/-- A Welt connection whose parameters a set has changed goes to idle, and from there, if enabled, to arming (R292). -/
def State.weltChanged (s : State) (c : Nat) : State :=
  have t := (s.setWeltConn c { s.weltConn c with data := none, checks := [] }).setWeltState c 0
  if t.weltEnabled c && t.weltOn then t.weltArming c 3 else t

/-- A set is activated in both channels, and its storing begins (R279 steps 4 and 5). -/
def State.activateSet (s : State) (items : CfgItems) (bytes : Bytes) : State :=
  have old := s.cfg.safety
  have set_ : SafetySet := { seq := (old.map (fun x => x.seq)).getD 0 + 1, items := items, bytes := bytes }
  have s1 : State := { s with cfg := { s.cfg with
    items := s.cfg.items.filter (fun (x : Nat × List Word) => x.1 / 256 != 10) ++ items, safety := some set_ } }
  have s2 := s1.loadSafety
  have s3 : State := { s2.insoleStart .config with
    cfg := { s2.cfg with safety := old, safetyWrite := some set_ }, saf := { s2.saf with stage := {} } }
  (((List.range 32).filter (fun c => s.cfgVals 10 (21 + c) != s3.cfgVals 10 (21 + c))).foldl State.weltChanged s3.loadWelt)

/-- The state with another staged set. -/
def State.setStage (s : State) (p : ParamStage) : State := { s with saf := { s.saf with stage := p } }

/-- PARAM_BEGIN: a set of 1 byte to 16 KB is announced. -/
def State.paramBegin (s : State) (d : Bytes) : State × Bytes :=
  have n := fieldLE d 1 4
  if n = 0 ∨ 16384 < n then (s, [2, 1]) else (s.setStage { length := n }, [2, 0])

/-- PARAM_CHUNK: bytes at the offset held so far. -/
def State.paramChunk (s : State) (d : Bytes) : State × Bytes :=
  have p := s.saf.stage
  have more := d.drop 4
  have held := bytesLE 3 p.bytes.length
  if p.length = 0 ∨ fieldLE d 1 3 ≠ p.bytes.length then (s, [3, 4] ++ held)
  else if more.isEmpty ∨ p.length < p.bytes.length + more.length then (s, [3, 1] ++ held)
  else
    have q : ParamStage := { p with bytes := p.bytes ++ more, checked := false }
    (s.setStage q, [3, 0] ++ bytesLE 3 q.bytes.length)

/-- PARAM_CHECK: each channel checks the ranges and computes the CRC. Verdict 0 is in range, 1 out of range. -/
def State.paramCheck (s : State) : State × Bytes :=
  have p := s.saf.stage
  if p.length = 0 ∨ p.bytes.length ≠ p.length then (s, [4, 4])
  else
    have crc := le4 (crc32 p.bytes).toNat
    (s.setStage { p with checked := true }, [4, 0, BitVec.ofNat 8 (b2n s.stageRefused)] ++ crc ++ crc)

/-- PARAM_CONFIRM: the set is activated, or its refusal named and nothing changed. -/
def State.paramConfirm (s : State) (d : Bytes) : State × Bytes :=
  have p := s.saf.stage
  if !p.checked then (s, [5, 4, 4])
  else match p.items with
    | none => (s, [5, 1, 1])
    | some items =>
      if s.safetyRefusal items then (s, [5, 1, 1])
      else if fieldLE d 1 4 ≠ (crc32 p.bytes).toNat then (s, [5, 2, 2])
      else if !s.allOpen then (s, [5, 3, 3])
      else (s.activateSet items p.bytes, [5, 0, 0])

/-- LOCK_SET: bit 0 the update lock, bit 1 the configuration lock. -/
def State.lockSet (s : State) (d : Bytes) : State × Bytes :=
  have up := fieldLE d 1 1 % 2 == 1
  have conf := fieldLE d 1 1 / 2 % 2 == 1
  have s1 : State := { s with cfg := { s.cfg with dev := { s.cfg.dev with updateLock := up, configLock := conf } } }
  (((s1.storeDevice.showBanks).setBit Reg.CMD_OWNER 0 up).setBit Reg.CMD_OWNER 1 conf,
    [6, 0, BitVec.ofNat 8 (b2n conf * 2 + b2n up)])

/-- A sub-operation of Table 11.6: the state it leaves and the reply's data. -/
def State.ownerSub (s : State) (d : Bytes) : State × Bytes :=
  match fieldLE d 0 1 with
  | 1 => (s, [1, 0])
  | 2 => if d.length < 5 then (s, [2, 1]) else s.paramBegin d
  | 3 => s.paramChunk d
  | 4 => s.paramCheck
  | 5 => if d.length < 5 then (s, [5, 1, 1]) else s.paramConfirm d
  | 6 => s.lockSet d
  | 7 => (s, [7, 0])
  | _ => (s, d.take 1 ++ [5])

/-! PDUs of the session (R370, R371). -/

/-- The identity of the device-to-host connection. -/
def OwnerSession.idD (w : OwnerSession) : Word := w.idH ^^^ 0xFFFFFFFF

/-- A PDU of the host-to-device connection has the agreed form: version 2, DATA, LEN 4 to 64, WD of 5 s. -/
def ownerForm (p : Bytes) : Bool :=
  pduVersion p == 2 && pduKind p == 0 && decide (4 ≤ pduLen p) && decide (pduLen p ≤ 64) && pduWd p == 50000

/-- The owner session fails (R370), and the command says why by the code of Table 9.7. -/
def State.failOwner (s : State) (op code : Nat) : State :=
  (s.complete op St.REFUSED (bytesLE 1 code)).endOwner 6

/-- A check failure counts; the third within 1 s fails the connection. -/
def State.ownerCheckFail (s : State) (op : Nat) (w : OwnerSession) : State :=
  have recent := s.monoNs :: w.checks.filter (fun t => decide (s.monoNs < t + 1000000000))
  if 3 ≤ recent.length then s.failOwner op 4
  else ({ s with cmd := { s.cmd with owner := some { w with checks := recent } } } : State).complete op St.REFUSED [4]

/-- An accepted PDU is executed, and the completion carries the next PDU of the device-to-host connection. -/
def State.ownerTake (s : State) (op : Nat) (w : OwnerSession) (p : Bytes) : State :=
  have tx := (w.lastTx + 1) % 2 ^ 24
  have s1 : State := { s with cmd := { s.cmd with owner := some { w with lastRx := pduSeq p, lastTx := tx } } }
  have r := s1.ownerSub (pduData p)
  have t := r.1.complete op St.OK (weltPdu w.idD 2 0 tx 50000 (padTo (max 4 r.2.length) r.2))
  if fieldLE (pduData p) 0 1 = 7 then t.endOwner 5 else t

/-- OWNER_CMD: one DATA PDU, under the sequence rules of Table 9.6 with GAP_LIMIT 0 and the reactions of Table 9.7. -/
def State.ownerCmd (s : State) (i op : Nat) (p : Bytes) : State :=
  match s.cmd.owner with
  | none => s.complete op St.DENIED []
  | some w =>
    if w.sess ≠ i then s.complete op St.DENIED []
    else if p.length < 15 ∨ 75 < p.length then s.complete op St.BAD_PARAM []
    else if !pduVerifies w.idH p then
      (if pduVerifies w.idD p then s.failOwner op 5 else s.ownerCheckFail op w)
    else if !ownerForm p then s.ownerCheckFail op w
    else
      have d := (pduSeq p + 2 ^ 24 - w.lastRx) % 2 ^ 24
      if d = 0 ∨ 2 ^ 23 ≤ d then s.complete op St.REFUSED [2]
      else if 1 < d then s.failOwner op 1
      else s.ownerTake op w p

/-- WELT_WATCHDOG_TIMEOUT (R301, R370): a consumer's watchdog reaches W. Connections 0 to 31 are those of the Welt
layer, 32 the owner session's. -/
def execWeltWatchdogTimeout (c : Nat) (s : State) : Host.Outcome State Fault Refusal :=
  .next (if c < 32 then s.weltTimeout c else if s.vampOn then s.endOwner 6 else s)

end Sys2Proof.Machine
end

