-- ==== Sys2Proof/Machine/Command.lean ====
section
/-!
DEFINITION. Packets of the command channel (chapter 11): which session they belong to, what makes them violations, queries,
and the acceptance of commands (R346 to R363, R373). One meaning for each command of Table 11.5.
-/

namespace Sys2Proof.Machine

/-! Opcodes (Table 11.5). -/

/-- Whether an opcode is a query, and the lowest version that offers it; none for an opcode outside the table. -/
def opInfo (op : Nat) : Option (Bool × Nat) :=
  if [0x01, 0x03, 0x05].contains op then some (true, 1)
  else if op = 0x04 then some (true, 2)
  else if [0x02, 0x10, 0x11, 0x13, 0x14, 0x15, 0x20, 0x21, 0x22, 0x23, 0x24, 0x40, 0x41, 0x42, 0x43, 0x60, 0x61, 0x62,
      0x63, 0x80, 0x81, 0x82].contains op then some (false, 1)
  else if [0x06, 0x12, 0x30, 0x31, 0x44, 0x45, 0x50, 0x51, 0x52, 0x58, 0x59, 0x70].contains op then some (false, 2)
  else if [0x90, 0x91, 0x92, 0x93].contains op then some (false, 3)
  else none

/-- An opcode is offered in a version (R352). -/
def opOffered (op version : Nat) : Bool :=
  match opInfo op with
  | none => false
  | some (_, least) => decide (least ≤ version)

/-- The function of a command runs in the controller's state (R355, R498). -/
def State.opRuns (s : State) (op : Nat) : Bool :=
  if s.mode == .standby then [0x10, 0x11, 0x13, 0x15, 0x80].contains op
  else if s.supply.bootHeld then [0x10, 0x11, 0x13, 0x15, 0x60, 0x61, 0x62, 0x63].contains op
  else !(s.supply.booting && [0x20, 0x21, 0x22, 0x40, 0x41, 0x42, 0x43, 0x44, 0x45, 0x52].contains op)

/-- A command of session i executes as operation op. -/
def State.runOp (s : State) (i op : Nat) (p : CmdPacket) : State :=
  have ps := p.params
  if !s.opRuns p.opcode then s.complete op St.STATE []
  else match p.opcode with
    | 0x02 => s.byeCmd i op ps
    | 0x06 => s.cancelCmd i op ps
    | 0x10 => s.deviceInfo op ps
    | 0x11 => s.stateRead op ps
    | 0x12 => s.tableInfo op ps
    | 0x13 => s.regReadCmd op ps
    | 0x14 => s.regWriteCmd op ps
    | 0x15 => s.memRead op ps
    | 0x20 => s.runCmd op ps
    | 0x21 => s.stopCmd op ps
    | 0x22 => s.resumeCmd op ps
    | 0x23 => s.acknowledgeCmd op ps
    | 0x24 => s.shutdownCmd op ps
    | 0x30 => s.dispatchCmd op ps
    | 0x31 => s.burstCmd op ps
    | 0x40 => s.symbolRead op ps
    | 0x41 => s.symbolWrite op ps
    | 0x42 => s.forceSet op ps
    | 0x43 => s.forceClear op ps
    | 0x44 => s.forceList op ps
    | 0x45 => s.changeCmd op ps
    | 0x50 => s.nodeConfigRead op ps
    | 0x51 => s.nodeStatus op ps
    | 0x52 => s.enumerateCmd op ps
    | 0x58 => s.learnedReset op ps
    | 0x59 => s.estCmd op ps
    | 0x60 => s.imageBeginCmd op ps
    | 0x61 => s.imageBlockCmd op ps
    | 0x62 => s.imageVerifyCmd op ps
    | 0x63 => s.imageAbortCmd op ps
    | 0x70 => s.recorderRead op ps
    | 0x80 => s.configReadCmd op ps
    | 0x81 => s.configWriteCmd op ps
    | 0x82 => s.configCommit op ps
    | 0x90 => s.ownerEnrol i op ps
    | 0x91 => s.ownerOpen i op ps
    | 0x92 => s.ownerAuth i op ps
    | 0x93 => s.ownerCmd i op ps
    | _ => s.complete op St.UNKNOWN_OPCODE []

/-! Acceptance (R356 to R361). -/

/-- A command next in sequence: a duplicate tag, BUSY at 512 open operations, or an operation that starts. It is
answered with its completion, or with an acknowledgement while it is open. -/
def State.acceptCmd (s : State) (i : Nat) (p : CmdPacket) : State :=
  match s.session i with
  | none => s
  | some v =>
    if s.cmd.ops.any (fun o => o.sess == some i && o.tag == p.tag) then s.violate i 4 St.DUP_TAG p
    else
      have s1 := s.setSession i { v with lastAccepted := p.hseq }
      if 512 ≤ s1.cmd.ops.length then s1.reply i 2 p.tag p.hseq p.opcode St.BUSY 0 []
      else
        have id := s1.cmd.nextOp
        have owner := p.flags / 16 % 2 == 1
        have o : OpenOp := { id := id, sess := some i, tag := p.tag, hseq := p.hseq, opcode := p.opcode, owner := owner }
        have s2 : State := { s1 with cmd := { s1.cmd with ops := s1.cmd.ops ++ [o], nextOp := id + 1 } }
        have t := (s2.setSession i { v with lastAccepted := p.hseq }).runOp i id p
        if t.opOpen id then t.reply i (2 + 16 * b2n owner) p.tag p.hseq p.opcode St.ACCEPTED 0 [] else t

/-- Held commands that follow in unbroken sequence are accepted in turn (R356). -/
def State.drainHeld (s : State) (i : Nat) : Nat → State
  | 0 => s
  | n + 1 =>
    match s.session i with
    | none => s
    | some v =>
      match v.held.find? (fun q => q.hseq == (v.lastAccepted + 1) % 2 ^ 32) with
      | none => s
      | some q =>
        have s1 := s.setSession i { v with held := v.held.filter (fun r => r.hseq != q.hseq) }
        (s1.acceptCmd i q).drainHeld i n

/-- A duplicate is answered and never executed again (R357). -/
def State.duplicateCmd (s : State) (i : Nat) (v : Session) (p : CmdPacket) : State :=
  if s.cmd.ops.any (fun o => o.sess == some i && o.hseq == p.hseq && o.tag == p.tag) then
    s.reply i 6 p.tag p.hseq p.opcode St.ACCEPTED 0 []
  else match v.results.find? (fun (r : Nat × HeldResult) => r.1 == p.tag && r.2.hseq == p.hseq) with
    | some (_, r) =>
      have rs := v.results.map (fun (x : Nat × HeldResult) => if x.1 == p.tag then (x.1, { x.2 with delivered := true }) else x)
      (s.setSession i { v with results := rs }).reply i (4 + r.flags) p.tag p.hseq p.opcode r.status r.rseq r.bytes
    | none => s.reply i 0 p.tag p.hseq p.opcode St.NOT_FOUND 0 []

/-- A command by its d (Table 11.3), after the burst check of Table 11.8. -/
def State.sequenceCmd (s : State) (i : Nat) (p : CmdPacket) : State :=
  match s.session i with
  | none => s
  | some v0 =>
    have recent := v0.arrivals.filter (fun t => decide (s.monoNs < t + 1000000))
    have v : Session := { v0 with arrivals := s.monoNs :: recent }
    have s1 := s.setSession i v
    have d := (p.hseq + 2 ^ 32 - v.lastAccepted % 2 ^ 32) % 2 ^ 32
    if 64 ≤ recent.length then s1.violate i 5 St.BURST p
    else if d = 1 then
      have t := s1.acceptCmd i p
      t.drainHeld i v.held.length
    else if 2 ≤ d ∧ d ≤ 32 then
      have held := if v.held.any (fun q => q.hseq == p.hseq) then v.held else v.held ++ [p]
      (s1.setSession i { v with held := held }).reply i 2 p.tag p.hseq p.opcode St.HELD 0 []
    else if 0 < d ∧ d < 2 ^ 31 then s1.violate i 3 St.SEQ_SKIP p
    else s1.duplicateCmd i v p

/-! Queries. -/

/-- The reply of HELLO (Table 11.2); NEXT_DSEQ follows the reply itself. -/
def State.helloBytes (s : State) (i : Nat) (v : Session) (resumed : Bool) : Bytes :=
  have tags := (s.cmd.ops.filter (fun o => o.sess == some i)).map (fun o => o.tag)
  have map_ := (List.range 64).map (fun k =>
    BitVec.ofNat 8 (((List.range 8).filter (fun b => tags.contains (8 * k + b))).map (fun b => 2 ^ b)).sum)
  bytesLE 1 v.version ++ bytesLE 1 (b2n resumed) ++ bytesLE 2 i ++ bytesLE 8 Config.serial.toNat ++ le4 v.lastAccepted ++
    le4 v.lastCompleted ++ le4 v.hostAcked ++ le4 ((v.nextDseq + 1) % 2 ^ 32) ++ bytesLE 2 tags.length ++ zeros 2 ++ map_

/-- A reply outside any session: it echoes the packet's VERSION unless another is given. -/
def State.bareReply (s : State) (p : CmdPacket) (version status : Nat) (body : Bytes) : State :=
  have query := p.flags / 8 % 2
  s.transmit p.uart p.peer p.port
    (devicePacket version (8 * query) (p.tag % 512) (if query = 1 then 0 else p.hseq) 0 p.opcode status 0 0 body)

/-- The reply to a query of a session, or outside one. -/
def State.queryReply (s : State) (at_ : Option Nat) (p : CmdPacket) (status : Nat) (body : Bytes) : State :=
  match at_ with
  | some i => s.reply i 8 (p.tag % 512) 0 p.opcode status 0 body
  | none => s.bareReply p p.version status body

/-- The session bound to a packet's address and port, or to the UART (R351). -/
def State.sessionOf (s : State) (p : CmdPacket) : Option (Nat × Session) :=
  s.cmd.sessions.find? (fun (x : Nat × Session) => x.2.bound && x.2.uart == p.uart &&
    (p.uart || (x.2.peer == p.peer && x.2.port == p.port && x.2.ipv6 == p.ipv6)))

/-- The session that a HELLO opens or resumes (R351, R353, R354): its index and, if held, the session; none without
room. The UART has session 4 alone. -/
def State.helloSession (s : State) (p : CmdPacket) (version hostId : Nat) : Option (Nat × Option Session) :=
  have held := if 2 ≤ version then
      s.cmd.sessions.reverse.find? (fun (x : Nat × Session) => x.2.hostId == hostId && x.2.uart == p.uart)
    else none
  match held with
  | some (i, v) => some (i, some v)
  | none =>
    if p.uart then some (4, none)
    else ((List.range 4).find? (fun i => (s.session i).isNone)).map (fun i => (i, none))

/-- A session is bound to the remote end of a packet in a version; the one bound there before is left idle. -/
def State.bindSession (s : State) (p : CmdPacket) (i version : Nat) (v : Session) : State :=
  have s1 := match s.sessionOf p with
    | some (j, w) => if j = i then s else s.setSession j { w with bound := false }
    | none => s
  s1.setSession i { v with bound := true, uart := p.uart, ipv6 := p.ipv6, peer := p.peer, port := p.port, version := version }

/-- HELLO (R351 to R354). -/
def State.hello (s : State) (p : CmdPacket) : State :=
  have here := (s.sessionOf p).map (fun x => x.1)
  have vmin := max 1 (fieldLE p.params 0 1)
  have version := min 3 (fieldLE p.params 1 1)
  have hostId := fieldLE p.params 4 8
  if p.params.length ≠ 12 then s.queryReply here p St.BAD_PARAM []
  else if version < vmin then (s.sessionEvent 7 0 7).bareReply p 0 St.OK (zeros 96)
  else match s.helloSession p version hostId with
    | none => (s.sessionEvent 7 version 7).queryReply here p St.BUSY []
    | some (i, held) =>
      have s0 := if held.isNone && (s.session i).isSome then s.dropSession i else s
      have s1 := s0.bindSession p i version (held.getD { hostId := hostId })
      have s2 := s1.sessionEvent (b2n held.isSome) version i
      match s2.session i with
      | none => s2
      | some v => s2.reply i 8 (p.tag % 512) 0 p.opcode St.OK 0 (s2.helloBytes i v held.isSome)

/-- RESULT_READ (R363): PENDING with the previous result, or the held result. -/
def State.resultRead (s : State) (i : Nat) (v : Session) (p : CmdPacket) : State :=
  have tag := fieldLE p.params 0 2
  if p.params.length ≠ 2 ∨ 511 < tag then s.queryReply (some i) p St.BAD_PARAM []
  else
    have held := (v.results.find? (fun (r : Nat × HeldResult) => r.1 == tag)).map (fun x => x.2)
    if s.cmd.ops.any (fun o => o.sess == some i && o.tag == tag) then
      s.reply i 8 tag 0 p.opcode St.PENDING ((held.map (fun r => r.rseq)).getD 0) ((held.map (fun r => r.bytes)).getD [])
    else match held with
      | none => s.reply i 8 tag 0 p.opcode St.NOT_FOUND 0 []
      | some r =>
        have rs := v.results.map (fun (x : Nat × HeldResult) => if x.1 == tag then (x.1, { x.2 with delivered := true }) else x)
        (s.setSession i { v with results := rs }).reply i (8 + 4 * b2n r.delivered) tag 0 p.opcode r.status r.rseq r.bytes

/-- SEQ_STATE: bytes 12 to 95 of a HELLO reply. -/
def State.seqState (s : State) (i : Nat) (v : Session) (p : CmdPacket) : State :=
  if p.params.isEmpty then s.queryReply (some i) p St.OK ((s.helloBytes i v false).drop 12)
  else s.queryReply (some i) p St.BAD_PARAM []

/-- PING: the same bytes, at most 64. -/
def State.ping (s : State) (i : Nat) (p : CmdPacket) : State :=
  if p.params.length ≤ 64 then s.queryReply (some i) p St.OK p.params else s.queryReply (some i) p St.BAD_PARAM []

/-- A query other than HELLO of session i. -/
def State.query (s : State) (i : Nat) (v : Session) (p : CmdPacket) : State :=
  if s.supply.bootHeld then s.queryReply (some i) p St.STATE []
  else match p.opcode with
    | 0x03 => s.resultRead i v p
    | 0x04 => s.seqState i v p
    | _ => s.ping i p

/-! Reception. -/

/-- A packet breaks the form of Table 11.8 kind 1. badForm: its length or its STATUS, RSEQ or DSEQ is wrong. -/
def malformed (p : CmdPacket) (badForm : Bool) (version : Option Nat) : Bool :=
  have query := p.flags / 8 % 2 == 1
  badForm || decide (1400 < p.params.length) || p.flags % 8 != 0 || decide (32 ≤ p.flags) || decide (512 ≤ p.tag) ||
    (p.opcode != 0x01 && (version.map (fun v => p.version != v)).getD false) ||
    (match opInfo p.opcode with
      | none => false
      | some (q, _) => (p.opcode == 0x01 || opOffered p.opcode (version.getD 0)) && q != query)

/-- The command channel takes packets: from Boot's load on, and while Boot is held on the UART alone (R498). -/
def State.channelOn (s : State) (p : CmdPacket) : Bool :=
  s.vampOn && (s.supply.loaded || s.supply.bootHeld) && (p.uart || !s.supply.bootHeld)

/-- A packet of a session is counted under a throttle, or rejected as a violation of kind 1 or 2 (R373, R374): true if it
goes on. -/
def State.admitBound (s : State) (i : Nat) (v : Session) (p : CmdPacket) (badForm : Bool) : Bool × State :=
  if s.throttles v then (false, s.incFld Reg.CMD_ERR2 31 16)
  else
    have s1 := if v.throttled then
        s.setSession i { v with taken := some ((s.monoNs - v.throttleAt) / 10000000) }
      else s
    if malformed p badForm (some v.version) then (false, s1.violate i 1 St.MALFORMED p)
    else if p.opcode ≠ 0x01 ∧ !opOffered p.opcode v.version then (false, s1.violate i 2 St.UNKNOWN_OPCODE p)
    else (true, s1)

/-- A packet is discarded, counted or rejected before any of it is executed (R350, R351, R373): true if it goes on. -/
def State.letThrough (s : State) (p : CmdPacket) (crcOk badForm : Bool) : Bool × State :=
  if !s.channelOn p then (false, s)
  else if !crcOk then (false, s.incFld Reg.CMD_ERR 31 16)
  else match s.sessionOf p with
    | some (i, v) => s.admitBound i v p badForm
    | none =>
      if p.opcode ≠ 0x01 then (false, (s.incFld Reg.CMD_ERR 15 0).bareReply p p.version St.NO_SESSION [])
      else if malformed p badForm none then
        (false, ((s.bareReply p p.version St.MALFORMED []).flag Reg.CMD_STAT Reg.CMD_STAT_COUNT 0).strobe
          Src.CMD_VIOLATION (2 ^ 21 + p.tag % 512 * 2 ^ 11 + 7))
      else (true, s)

/-- A packet that has been admitted. -/
def State.takePacket (s : State) (p : CmdPacket) : State :=
  if p.opcode = 0x01 then s.hello p
  else match s.sessionOf p with
    | none => s
    | some (i, v) =>
      have w : Session := { v with hostAcked := p.aseq }
      have s1 := s.setSession i w
      if (opInfo p.opcode).map (fun x => x.1) = some true then s1.query i w p else s1.sequenceCmd i p

/-- A packet with a good CRC and form arrives. -/
def State.receive (s : State) (p : CmdPacket) : State :=
  have r := s.letThrough p true false
  if r.1 then r.2.takePacket p else r.2

/-- A packet with one opcode arrives; a packet with another is no event of that command. -/
def State.receiveOp (s : State) (p : CmdPacket) (opcode : Nat) : Host.Outcome State Fault Refusal :=
  .next (if p.opcode = opcode then s.receive p else s)

/-! Packets as they arrive (R349, Table 11.1). -/

/-- The fields of a datagram or frame. -/
def packetOf (uart ipv6 : Bool) (peer port : Nat) (b : Bytes) : CmdPacket :=
  { uart := uart, ipv6 := ipv6, peer := peer, port := port, version := fieldLE b 0 1, flags := fieldLE b 1 1,
    tag := fieldLE b 2 2, hseq := fieldLE b 4 4, aseq := fieldLE b 8 4, opcode := fieldLE b 12 2,
    params := slice b 24 (fieldLE b 14 2) }

/-- The trailer is the CRC-32 of all the bytes before it. -/
def packetCrcOk (b : Bytes) : Bool :=
  decide (4 ≤ b.length) && fieldLE b (b.length - 4) 4 == (crc32 (b.take (b.length - 4))).toNat

/-- A length other than 28 + PLEN, PLEN above 1400, or STATUS, RSEQ or DSEQ other than 0 (Table 11.8). -/
def packetBadForm (b : Bytes) : Bool :=
  b.length != 28 + fieldLE b 14 2 || decide (1400 < fieldLE b 14 2) || fieldLE b 16 8 != 0

/-- CMD_INVALID_PACKET (R350, R351, R373): a packet that letThrough refuses. -/
def execCmdInvalidPacket (uart ipv6 : Bool) (peer port : Nat) (bytes : Bytes) (s : State) :
    Host.Outcome State Fault Refusal :=
  have r := s.letThrough (packetOf uart ipv6 peer port bytes) (packetCrcOk bytes) (packetBadForm bytes)
  .next (if r.1 then s else r.2)

/-- One held command is discarded (R356). -/
def State.skipHeld (s : State) (i : Nat) (q : CmdPacket) : State :=
  (s.reply i 0 q.tag q.hseq q.opcode St.SEQ_SKIP 0 []).incFld Reg.CMD_ERR2 15 0

/-- CMD_HOLD_TIMEOUT (R356): the gap has not filled in 20 ms, and every held command is discarded. -/
def execCmdHoldTimeout (i : Nat) (s : State) : Host.Outcome State Fault Refusal :=
  match s.session i with
  | none => .next s
  | some v =>
    have key := fun (q : CmdPacket) => (q.hseq + 2 ^ 32 - v.lastAccepted % 2 ^ 32) % 2 ^ 32
    match v.held.mergeSort (fun a b => decide (key a ≤ key b)) with
    | [] => .next s
    | q :: qs =>
      have s1 := s.setSession i { v with held := [] }
      .next (if s.vampOn then ((q :: qs).foldl (fun (t : State) r => t.skipHeld i r) s1).countViolation i 3 q.tag else s)

/-! One meaning for each command. -/

/-- HELLO (R351 to R354). -/
def execCmdHello (p : CmdPacket) (s : State) : Host.Outcome State Fault Refusal := s.receiveOp p 0x01
/-- BYE (R354). -/
def execCmdBye (p : CmdPacket) (s : State) : Host.Outcome State Fault Refusal := s.receiveOp p 0x02
/-- RESULT_READ (R363). -/
def execCmdResultRead (p : CmdPacket) (s : State) : Host.Outcome State Fault Refusal := s.receiveOp p 0x03
/-- SEQ_STATE (R366). -/
def execCmdSeqState (p : CmdPacket) (s : State) : Host.Outcome State Fault Refusal := s.receiveOp p 0x04
/-- PING (R366). -/
def execCmdPing (p : CmdPacket) (s : State) : Host.Outcome State Fault Refusal := s.receiveOp p 0x05
/-- CANCEL (R364). -/
def execCmdCancel (p : CmdPacket) (s : State) : Host.Outcome State Fault Refusal := s.receiveOp p 0x06
/-- DEVICE_INFO (R366). -/
def execCmdDeviceInfo (p : CmdPacket) (s : State) : Host.Outcome State Fault Refusal := s.receiveOp p 0x10
/-- STATE_READ (R366). -/
def execCmdStateRead (p : CmdPacket) (s : State) : Host.Outcome State Fault Refusal := s.receiveOp p 0x11
/-- TABLE_INFO (R366). -/
def execCmdTableInfo (p : CmdPacket) (s : State) : Host.Outcome State Fault Refusal := s.receiveOp p 0x12
/-- REG_READ (R367). -/
def execCmdRegRead (p : CmdPacket) (s : State) : Host.Outcome State Fault Refusal := s.receiveOp p 0x13
/-- REG_WRITE (R367). -/
def execCmdRegWrite (p : CmdPacket) (s : State) : Host.Outcome State Fault Refusal := s.receiveOp p 0x14
/-- MEM_READ (R367). -/
def execCmdMemRead (p : CmdPacket) (s : State) : Host.Outcome State Fault Refusal := s.receiveOp p 0x15
/-- RUN (R324). -/
def execCmdRun (p : CmdPacket) (s : State) : Host.Outcome State Fault Refusal := s.receiveOp p 0x20
/-- STOP (R324). -/
def execCmdStop (p : CmdPacket) (s : State) : Host.Outcome State Fault Refusal := s.receiveOp p 0x21
/-- RESUME (R5). -/
def execCmdResume (p : CmdPacket) (s : State) : Host.Outcome State Fault Refusal := s.receiveOp p 0x22
/-- ACKNOWLEDGE (R270). -/
def execCmdAcknowledge (p : CmdPacket) (s : State) : Host.Outcome State Fault Refusal := s.receiveOp p 0x23
/-- SHUTDOWN (R182). -/
def execCmdShutdown (p : CmdPacket) (s : State) : Host.Outcome State Fault Refusal := s.receiveOp p 0x24
/-- DISPATCH (R247). -/
def execCmdDispatch (p : CmdPacket) (s : State) : Host.Outcome State Fault Refusal := s.receiveOp p 0x30
/-- BURST (R118). -/
def execCmdBurst (p : CmdPacket) (s : State) : Host.Outcome State Fault Refusal := s.receiveOp p 0x31
/-- SYMBOL_READ (R328). -/
def execCmdSymbolRead (p : CmdPacket) (s : State) : Host.Outcome State Fault Refusal := s.receiveOp p 0x40
/-- SYMBOL_WRITE (R329). -/
def execCmdSymbolWrite (p : CmdPacket) (s : State) : Host.Outcome State Fault Refusal := s.receiveOp p 0x41
/-- FORCE_SET (R338). -/
def execCmdForceSet (p : CmdPacket) (s : State) : Host.Outcome State Fault Refusal := s.receiveOp p 0x42
/-- FORCE_CLEAR (R338). -/
def execCmdForceClear (p : CmdPacket) (s : State) : Host.Outcome State Fault Refusal := s.receiveOp p 0x43
/-- FORCE_LIST (R338). -/
def execCmdForceList (p : CmdPacket) (s : State) : Host.Outcome State Fault Refusal := s.receiveOp p 0x44
/-- CHANGE (R339). -/
def execCmdChange (p : CmdPacket) (s : State) : Host.Outcome State Fault Refusal := s.receiveOp p 0x45
/-- NODE_CONFIG_READ (R79). -/
def execCmdNodeConfigRead (p : CmdPacket) (s : State) : Host.Outcome State Fault Refusal := s.receiveOp p 0x50
/-- NODE_STATUS (R79). -/
def execCmdNodeStatus (p : CmdPacket) (s : State) : Host.Outcome State Fault Refusal := s.receiveOp p 0x51
/-- ENUMERATE (R81). -/
def execCmdEnumerate (p : CmdPacket) (s : State) : Host.Outcome State Fault Refusal := s.receiveOp p 0x52
/-- LEARNED_RESET (R185). -/
def execCmdLearnedReset (p : CmdPacket) (s : State) : Host.Outcome State Fault Refusal := s.receiveOp p 0x58
/-- EST_CMD (R155). -/
def execCmdEstCmd (p : CmdPacket) (s : State) : Host.Outcome State Fault Refusal := s.receiveOp p 0x59
/-- IMAGE_BEGIN (R460). -/
def execCmdImageBegin (p : CmdPacket) (s : State) : Host.Outcome State Fault Refusal := s.receiveOp p 0x60
/-- IMAGE_BLOCK (R459). -/
def execCmdImageBlock (p : CmdPacket) (s : State) : Host.Outcome State Fault Refusal := s.receiveOp p 0x61
/-- IMAGE_VERIFY (R462). -/
def execCmdImageVerify (p : CmdPacket) (s : State) : Host.Outcome State Fault Refusal := s.receiveOp p 0x62
/-- IMAGE_ABORT (R460). -/
def execCmdImageAbort (p : CmdPacket) (s : State) : Host.Outcome State Fault Refusal := s.receiveOp p 0x63
/-- RECORDER_READ (Table 15.7). -/
def execCmdRecorderRead (p : CmdPacket) (s : State) : Host.Outcome State Fault Refusal := s.receiveOp p 0x70
/-- CONFIG_READ (R366). -/
def execCmdConfigRead (p : CmdPacket) (s : State) : Host.Outcome State Fault Refusal := s.receiveOp p 0x80
/-- CONFIG_WRITE (R367). -/
def execCmdConfigWrite (p : CmdPacket) (s : State) : Host.Outcome State Fault Refusal := s.receiveOp p 0x81
/-- CONFIG_COMMIT (R499, R500). -/
def execCmdConfigCommit (p : CmdPacket) (s : State) : Host.Outcome State Fault Refusal := s.receiveOp p 0x82
/-- OWNER_ENROL (R368). -/
def execCmdOwnerEnrol (p : CmdPacket) (s : State) : Host.Outcome State Fault Refusal := s.receiveOp p 0x90
/-- OWNER_OPEN (R369). -/
def execCmdOwnerOpen (p : CmdPacket) (s : State) : Host.Outcome State Fault Refusal := s.receiveOp p 0x91
/-- OWNER_AUTH (R369, R370). -/
def execCmdOwnerAuth (p : CmdPacket) (s : State) : Host.Outcome State Fault Refusal := s.receiveOp p 0x92
/-- OWNER_CMD (R370). -/
def execCmdOwnerCmd (p : CmdPacket) (s : State) : Host.Outcome State Fault Refusal := s.receiveOp p 0x93

end Sys2Proof.Machine
end

