-- ==== Sys2Proof/Machine/Current.lean ====
section
/-!
DEFINITION. The conversions of the Sole's ADC as they reach the CTRL domain (R189, R190, R196), and what the string-current
channel gives the sweeps: the filtered current at an instant and at the points of a burst, and the current windows (R102, R112,
R121, R125).
-/

namespace Sys2Proof.Machine

/-- The string-current channel (R102). -/
def State.currentChannel (s : State) : Nat := s.fld Reg.SWP_CURRENT_CFG 2 0

/-- A channel that a slot, the Awl capture or the string current uses (R189). -/
def State.adcUsed (s : State) (ch : Nat) : Bool :=
  s.currentChannel == ch ||
  (List.range 16).any (fun n => s.bit (Reg.CTL_SLOT_CFG n) 31 &&
    s.fld (Reg.CTL_SLOT_SRC n) 31 28 == 0 && s.fld (Reg.CTL_SLOT_SRC n) 27 24 == ch) ||
  (List.range 4).any (fun j => s.fld Reg.CTL_AWL_CAP (19 + 4 * j) (16 + 4 * j) == 8 + ch)

/-- A raw code of the string-current channel in A (R102): (c - I_A_OFFSET) * I_A_SCALE, each step rounded to binary32 (DESIGN
CHOICE, assumption 227). -/
def State.codeAmps (s : State) (c : Int) : Word := f32Mul (f32Sub (f32OfInteger c) (s.cfgW 10 6 3 0)) (s.cfgW 10 6 2 0)

/-- A conversion of so many A joins a window. -/
def CurrentWindow.add (w : CurrentWindow) (amps : Word) : CurrentWindow :=
  { count := w.count + 1, sum := w.sum + f32Exact amps, sumAbs := w.sumAbs + f32Exact (f32Abs amps) }

/-- When a conversion that arrives now was sampled, CHAIN ns: its latency, flits and deserialisation take 165 ns (R190), its
wait for a flit slot none (DESIGN CHOICE, assumption 227). -/
def State.sampledAt (s : State) : Nat := s.tim.chain.total - 165

/-- The output of the CURRENT_TAU_NS filter for a new conversion (R102): off at 0 and at the first conversion, else a step of
the free gain towards it (assumption 228). -/
def State.filterCurrent (s : State) (amps : Word) : Word :=
  have tau := s.fld Reg.SWP_CURRENT_CFG 31 16
  match s.swp.conv with
  | none => amps
  | some old =>
    if tau = 0 then amps
    else f32Add old.filtered (f32Mul (Config.currentGain tau) (f32Sub amps old.filtered))

/-- The current at an instant from the conversions before and after it: linear between them, none if one is not good or a
conversion is missing between them (R102). -/
def between (old new : Conversion) (t : Nat) : Option Word :=
  if !(old.good && new.good) || new.at_ ≤ old.at_ || decide (100 ≤ new.at_ - old.at_) || decide (t < old.at_) then none
  else some (f32Add old.filtered (f32Mul (f32Sub new.filtered old.filtered) (f32OfRat (t - old.at_ : Nat) (new.at_ - old.at_))))

/-- The current at an instant that a new conversion has come after. -/
def State.bracket (s : State) (new : Conversion) (t : Nat) : Option Word :=
  match s.swp.conv with
  | none => none
  | some old => between old new t

/-- A launched instant that a new conversion has come after reads its current, once. -/
def State.readInstant (s : State) (new : Conversion) : State :=
  match s.swp.launched, s.swp.reading with
  | some f, none =>
    if f.instant < new.at_ then { s with swp := { s.swp with reading := some (s.bracket new f.instant) } } else s
  | _, _ => s

/-- A burst point that a new conversion has come after: its current stands in the capture area, or the burst is aborted (R121,
R125). -/
def State.readPoint (s : State) (new : Conversion) : State :=
  match s.swp.burst with
  | none => s
  | some b =>
    have t := burstPoint b b.points
    if s.burstState ≠ 3 ∨ 4096 ≤ b.points ∨ new.at_ ≤ t then s
    else
      match s.bracket new t with
      | none => s.burstAbort 5
      | some i =>
        have b1 := { b with points := b.points + 1, sum := b.sum + f32Exact i }
        ({ s with swp := { s.swp with burst := some b1 } } : State).putWord
          ((s.rd Reg.SWP_BURST_BASE).toNat + 64 + 4 * b.points) i

/-- A burst point that lies 300 ns back is judged by R98 (R122): the edges around it have been logged. -/
def State.judgeDue (s : State) (now : Nat) : State :=
  match s.swp.burst with
  | none => s
  | some b =>
    if s.burstState = 3 ∧ b.judged < 4096 ∧ burstPoint b b.judged + 300 ≤ now then s.judgePoint else s

/-- A conversion of the string-current channel reaches the sweeps: windows, instant and burst point in hand. -/
def State.currentConversion (s : State) (code : Int) (good : Bool) : State :=
  have amps := s.codeAmps code
  have new : Conversion := { at_ := s.sampledAt, amps := amps, filtered := s.filterCurrent amps, good := good }
  have s1 := ((s.readInstant new).readPoint new).judgeDue new.at_
  { s1 with swp := { s1.swp with conv := some new, ms := s1.swp.ms.add amps, tenth := s1.swp.tenth.add amps, hundred := s1.swp.hundred.add amps } }

/-- ADC_CONVERSION_RECEIVE (R189, R21, R23, R260): channel 2 takes the conversion before the VS link, and without the link none
arrives. A lost conversion repeats the channel's previous
one; saturated codes are counted, and CTL_ADC_RANGE strobes at most once per 1 ms and channel in use; slots that trigger every
so many conversions count it (R196). -/
def execAdcConversionReceive (codes : List Int) (lost : Nat) (s : State) :
    Host.Outcome State Fault Refusal := s.whenVamp <|
  have s := s.safConversion 2 codes
  if !s.links.vsUp then .next s else
  have isLost := fun (ch : Nat) => lost / 2 ^ ch % 2 == 1
  have raw := (List.range 8).map (fun ch =>
    if isLost ch then s.ctl.adcRaw.getD ch 0 else codes.getD ch 0)
  have sig := (List.range 8).map (fun ch => s.trim ch (raw.getD ch 0))
  have nLost := ((List.range 8).filter isLost).length
  have saturated := fun (ch : Nat) => decide (raw.getD ch 0 ≤ -8192) || decide (8191 ≤ raw.getD ch 0)
  have sat := (List.range 8).filter (fun ch => !(isLost ch) && saturated ch)
  have s0 := s.safConversion 1 raw
  have s1 := { s0 with ctl := { s0.ctl with adcRaw := raw, adc := sig :: s0.ctl.adc.take 1023 } }
  have s2 := s1.setFld Reg.CTL_ADC_ERR 31 16 (min 0xFFFF (s1.fld Reg.CTL_ADC_ERR 31 16 + nLost))
  have s3 := s2.setFld Reg.CTL_ADC_ERR 15 0 (min 0xFFFF (s2.fld Reg.CTL_ADC_ERR 15 0 + sat.length))
  have due := sat.filter (fun ch => s3.adcUsed ch &&
    (match s3.ctl.rangeAt.find? (fun p => p.1 == ch) with
     | some p => decide (1000000 ≤ s3.monoNs - p.2)
     | none => true))
  have s4 := if due.isEmpty then s3
    else
      have mark := due.map (fun ch => (ch, s3.monoNs)) ++ s3.ctl.rangeAt.filter (fun p => !(due.contains p.1))
      (({ s3 with ctl := { s3.ctl with rangeAt := mark } } : State).flag Reg.CTL_STAT Reg.CTL_STAT_COUNT 0).strobe
        Src.CTL_ADC_RANGE (due.foldl (fun a ch => a + 2 ^ ch) 0)
  have ch := s4.currentChannel
  .next (s4.currentConversion (raw.getD ch 0) (!isLost ch && !saturated ch)).raiseConversion

end Sys2Proof.Machine
end

