-- ==== Sys2Proof/Machine/Dispatch.lean ====
section
/-!
DEFINITION. The dispatch: one arm per command of the opcode table, each a direct call of the command's
meaning. A meaning says the effect on everything but the queue of waiting commands.
-/

namespace Sys2Proof.Machine

def exec (i : Instr) (s : State) : Host.Outcome State Fault Refusal :=
  match i with
  | .vinValid => Sys2Proof.Machine.execVinValid s
  | .vinLow vinMv pagesLeft => Sys2Proof.Machine.execVinLow vinMv pagesLeft s
  | .vinRestored lowestMv => Sys2Proof.Machine.execVinRestored lowestMv s
  | .vinUv => Sys2Proof.Machine.execVinUv s
  | .vsupFall => Sys2Proof.Machine.execVsupFall s
  | .vsupRise => Sys2Proof.Machine.execVsupRise s
  | .holdupTest iinMa => Sys2Proof.Machine.execHoldupTest iinMa s
  | .holdupTestTimer iinMa => Sys2Proof.Machine.execHoldupTestTimer iinMa s
  | .holdupTestEnd fallNs vsupMoved => Sys2Proof.Machine.execHoldupTestEnd fallNs vsupMoved s
  | .nrstAsserted lowNs => Sys2Proof.Machine.execNrstAsserted lowNs s
  | .nrstReleased => Sys2Proof.Machine.execNrstReleased s
  | .resetHeldTimeout => Sys2Proof.Machine.execResetHeldTimeout s
  | .sysRestart value => Sys2Proof.Machine.execSysRestart value s
  | .refclkLoss => Sys2Proof.Machine.execRefclkLoss s
  | .refclkRestored => Sys2Proof.Machine.execRefclkRestored s
  | .pllUnlock pll => Sys2Proof.Machine.execPllUnlock pll s
  | .aonCrystalFail => Sys2Proof.Machine.execAonCrystalFail s
  | .aonCrystalRestored => Sys2Proof.Machine.execAonCrystalRestored s
  | .junctionHot vampTj soleTj packageTj => Sys2Proof.Machine.execJunctionHot vampTj soleTj packageTj s
  | .junctionShutdown => Sys2Proof.Machine.execJunctionShutdown s
  | .junctionCooled => Sys2Proof.Machine.execJunctionCooled s
  | .operatingSecond vinMv vsupMv iinMa power vampTj soleTj packageTj => Sys2Proof.Machine.execOperatingSecond vinMv vsupMv iinMa power vampTj soleTj packageTj s
  | .bootComplete failedUnits badBanks bootMs => Sys2Proof.Machine.execBootComplete failedUnits badBanks bootMs s
  | .registerWrite who addr size value sets => Sys2Proof.Machine.execRegisterWrite who addr size value sets s
  | .vsFlitReceive toSole cls seq parityOk => Sys2Proof.Machine.execVsFlitReceive toSole cls seq parityOk s
  | .vsClockAbsent => Sys2Proof.Machine.execVsClockAbsent s
  | .vsLinkRetrained => Sys2Proof.Machine.execVsLinkRetrained s
  | .viTransfer ok addr program badSector => Sys2Proof.Machine.execViTransfer ok addr program badSector s
  | .insoleEccError who addr corrected => Sys2Proof.Machine.execInsoleEccError who addr corrected s
  | .eventStrobe src detail => Sys2Proof.Machine.execEventStrobe src detail s
  | .evtQueueTailWrite value => Sys2Proof.Machine.execEvtQueueTailWrite value s
  | .evtCountClear k bits strobes => Sys2Proof.Machine.execEvtCountClear k bits strobes s
  | .heartbeatSlotSend => Sys2Proof.Machine.execHeartbeatSlotSend s
  | .slotReceive port kind => Sys2Proof.Machine.execSlotReceive port kind s
  | .breakLocateDone => Sys2Proof.Machine.execBreakLocateDone s
  | .alarmPairReceive port => Sys2Proof.Machine.execAlarmPairReceive port s
  | .toneClearTimeout => Sys2Proof.Machine.execToneClearTimeout s
  | .hbLostTimeout port => Sys2Proof.Machine.execHbLostTimeout port s
  | .soleHbLostTimeout port => Sys2Proof.Machine.execSoleHbLostTimeout port s
  | .tetherFrameReceive port groups rts => Sys2Proof.Machine.execTetherFrameReceive port groups rts s
  | .tetherReplyTimeout node => Sys2Proof.Machine.execTetherReplyTimeout node s
  | .nodeUnreachableTimeout node => Sys2Proof.Machine.execNodeUnreachableTimeout node s
  | .reachabilityRollcall => Sys2Proof.Machine.execReachabilityRollcall s
  | .ringHealed => Sys2Proof.Machine.execRingHealed s
  | .tthEnumReq => Sys2Proof.Machine.execTthEnumReq s
  | .enumerationDone => Sys2Proof.Machine.execEnumerationDone s
  | .tthRecalReq => Sys2Proof.Machine.execTthRecalReq s
  | .calibrationTimer => Sys2Proof.Machine.execCalibrationTimer s
  | .calibrationDone => Sys2Proof.Machine.execCalibrationDone s
  | .nodeThresholdReadback => Sys2Proof.Machine.execNodeThresholdReadback s
  | .wireTestStart node => Sys2Proof.Machine.execWireTestStart node s
  | .openWireTestDone => Sys2Proof.Machine.execOpenWireTestDone s
  | .wireMarkClearTimeout node input line cause => Sys2Proof.Machine.execWireMarkClearTimeout node input line cause s
  | .sweepInstantFix => Sys2Proof.Machine.execSweepInstantFix s
  | .sampleAtLaunch => Sys2Proof.Machine.execSampleAtLaunch s
  | .sampleInstant => Sys2Proof.Machine.execSampleInstant s
  | .recordDeadline => Sys2Proof.Machine.execRecordDeadline s
  | .fastLayerComplete fastUs => Sys2Proof.Machine.execFastLayerComplete fastUs s
  | .horizonLayerComplete cell => Sys2Proof.Machine.execHorizonLayerComplete cell s
  | .currentWindow1ms => Sys2Proof.Machine.execCurrentWindow1ms s
  | .rateStepDown => Sys2Proof.Machine.execRateStepDown s
  | .currentWindow100us => Sys2Proof.Machine.execCurrentWindow100us s
  | .burstScheduleTimer => Sys2Proof.Machine.execBurstScheduleTimer s
  | .burstSeqTimer => Sys2Proof.Machine.execBurstSeqTimer s
  | .swpBurstReq => Sys2Proof.Machine.execSwpBurstReq s
  | .swpSeqReq => Sys2Proof.Machine.execSwpSeqReq s
  | .swpBurstAbort => Sys2Proof.Machine.execSwpBurstAbort s
  | .burstStart => Sys2Proof.Machine.execBurstStart s
  | .burstDeferTimeout => Sys2Proof.Machine.execBurstDeferTimeout s
  | .burstCaptureLaunch => Sys2Proof.Machine.execBurstCaptureLaunch s
  | .burstCaptureEnd => Sys2Proof.Machine.execBurstCaptureEnd s
  | .burstReadoutDone => Sys2Proof.Machine.execBurstReadoutDone s
  | .burstBinsDone => Sys2Proof.Machine.execBurstBinsDone s
  | .euLocalParityError unit => Sys2Proof.Machine.execEuLocalParityError unit s
  | .clusterScratchParityError region cluster => Sys2Proof.Machine.execClusterScratchParityError region cluster s
  | .sfuCheckFail region cluster => Sys2Proof.Machine.execSfuCheckFail region cluster s
  | .regionFault region => Sys2Proof.Machine.execRegionFault region s
  | .microcodeCheck unit ok => Sys2Proof.Machine.execMicrocodeCheck unit ok s
  | .placementPlan => Sys2Proof.Machine.execPlacementPlan s
  | .contextRebuildDone cell => Sys2Proof.Machine.execContextRebuildDone cell s
  | .checkpointTimer cell => Sys2Proof.Machine.execCheckpointTimer cell s
  | .criticalityScore => Sys2Proof.Machine.execCriticalityScore s
  | .loadWindow units => Sys2Proof.Machine.execLoadWindow units s
  | .fidelityRaise => Sys2Proof.Machine.execFidelityRaise s
  | .reportRefresh loads => Sys2Proof.Machine.execReportRefresh loads s
  | .estReadContext => Sys2Proof.Machine.execEstReadContext s
  | .estReadLocal => Sys2Proof.Machine.execEstReadLocal s
  | .estReplan => Sys2Proof.Machine.execEstReplan s
  | .estCheckpointNow => Sys2Proof.Machine.execEstCheckpointNow s
  | .estSpareSelftest => Sys2Proof.Machine.execEstSpareSelftest s
  | .estCommandDone ok => Sys2Proof.Machine.execEstCommandDone ok s
  | .restAnchor => Sys2Proof.Machine.execRestAnchor s
  | .noAnchorTimeout => Sys2Proof.Machine.execNoAnchorTimeout s
  | .balanceCompute => Sys2Proof.Machine.execBalanceCompute s
  | .journalPeriodicTimer => Sys2Proof.Machine.execJournalPeriodicTimer s
  | .fullChargeEnd => Sys2Proof.Machine.execFullChargeEnd s
  | .journalWriteDone ok => Sys2Proof.Machine.execJournalWriteDone ok s
  | .journalEraseDone => Sys2Proof.Machine.execJournalEraseDone s
  | .persistWriteDone => Sys2Proof.Machine.execPersistWriteDone s
  | .adcConversionReceive codes lost => Sys2Proof.Machine.execAdcConversionReceive codes lost s
  | .slotTriggerEvent n => Sys2Proof.Machine.execSlotTriggerEvent n s
  | .slotEvaluate n => Sys2Proof.Machine.execSlotEvaluate n s
  | .ctlStart bits => Sys2Proof.Machine.execCtlStart bits s
  | .ctlHalt bits => Sys2Proof.Machine.execCtlHalt bits s
  | .ctlApply bits => Sys2Proof.Machine.execCtlApply bits s
  | .ctlCommit value => Sys2Proof.Machine.execCtlCommit value s
  | .awlStart => Sys2Proof.Machine.execAwlStart s
  | .awlAbort => Sys2Proof.Machine.execAwlAbort s
  | .pwmPeriodStart tb => Sys2Proof.Machine.execPwmPeriodStart tb s
  | .pwmPeriodMid n => Sys2Proof.Machine.execPwmPeriodMid n s
  | .tripPin => Sys2Proof.Machine.execTripPin s
  | .comparatorTrip c upper => Sys2Proof.Machine.execComparatorTrip c upper s
  | .pwmTripClear value pinQuiet compQuiet => Sys2Proof.Machine.execPwmTripClear value pinQuiet compQuiet s
  | .pcsRequestReceive groups => Sys2Proof.Machine.execPcsRequestReceive groups s
  | .pcsRxAlign => Sys2Proof.Machine.execPcsRxAlign s
  | .pcsRxLinkDown => Sys2Proof.Machine.execPcsRxLinkDown s
  | .pcsLtCommit value who => Sys2Proof.Machine.execPcsLtCommit value who s
  | .limitStale => Sys2Proof.Machine.execLimitStale s
  | .pcsRequestMissedTimeout => Sys2Proof.Machine.execPcsRequestMissedTimeout s
  | .pcsLinkLossTimeout => Sys2Proof.Machine.execPcsLinkLossTimeout s
  | .pcsCurrentCompare => Sys2Proof.Machine.execPcsCurrentCompare s
  | .pcsDispatchApply => Sys2Proof.Machine.execPcsDispatchApply s
  | .dispatchLeaseExpiry => Sys2Proof.Machine.execDispatchLeaseExpiry s
  | .pcsPertEnable value who => Sys2Proof.Machine.execPcsPertEnable value who s
  | .safetyCoreCycle readback => Sys2Proof.Machine.execSafetyCoreCycle readback s
  | .ch2Scan readback beyond => Sys2Proof.Machine.execCh2Scan readback beyond s
  | .ch2CrossCheckSend => Sys2Proof.Machine.execCh2CrossCheckSend s
  | .crossCheckReceive channel => Sys2Proof.Machine.execCrossCheckReceive channel s
  | .channelDisagreeTimeout => Sys2Proof.Machine.execChannelDisagreeTimeout s
  | .ch2SilentTimeout => Sys2Proof.Machine.execCh2SilentTimeout s
  | .liveEdgeReceive intervalUs => Sys2Proof.Machine.execLiveEdgeReceive intervalUs s
  | .liveTimeout cause => Sys2Proof.Machine.execLiveTimeout cause s
  | .drogueTimerExpiry channel => Sys2Proof.Machine.execDrogueTimerExpiry channel s
  | .safetyCurrentMean1ms channel => Sys2Proof.Machine.execSafetyCurrentMean1ms channel s
  | .safetyCurrentMean100ms channel => Sys2Proof.Machine.execSafetyCurrentMean100ms channel s
  | .slowOvercurrent channel => Sys2Proof.Machine.execSlowOvercurrent channel s
  | .shuntWaitTimeout channel => Sys2Proof.Machine.execShuntWaitTimeout channel s
  | .readbackMismatchTimeout channel pair => Sys2Proof.Machine.execReadbackMismatchTimeout channel pair s
  | .testPulseStart switch => Sys2Proof.Machine.execTestPulseStart switch s
  | .testPulseEnd during after => Sys2Proof.Machine.execTestPulseEnd during after s
  | .testPulseRetry switch => Sys2Proof.Machine.execTestPulseRetry switch s
  | .mirrorFeedbackTimeout channel pair => Sys2Proof.Machine.execMirrorFeedbackTimeout channel pair s
  | .unmeasuredTimeout cell => Sys2Proof.Machine.execUnmeasuredTimeout cell s
  | .safetyInputLevelChange channel input line high => Sys2Proof.Machine.execSafetyInputLevelChange channel input line high s
  | .discrepancyFault channel input scans => Sys2Proof.Machine.execDiscrepancyFault channel input scans s
  | .ackInputPulse channel input scans => Sys2Proof.Machine.execAckInputPulse channel input scans s
  | .safAckWrite value => Sys2Proof.Machine.execSafAckWrite value s
  | .safOutReqClose value => Sys2Proof.Machine.execSafOutReqClose value s
  | .safOutReqFire => Sys2Proof.Machine.execSafOutReqFire s
  | .paramCrcCheck channel crc => Sys2Proof.Machine.execParamCrcCheck channel crc s
  | .weltPduReceive carrier peer payload fd => Sys2Proof.Machine.execWeltPduReceive carrier peer payload fd s
  | .weltArmSend c => Sys2Proof.Machine.execWeltArmSend c s
  | .weltArmAckReceive c pdu => Sys2Proof.Machine.execWeltArmAckReceive c pdu s
  | .weltArmReceive c pdu => Sys2Proof.Machine.execWeltArmReceive c pdu s
  | .weltDataSend c => Sys2Proof.Machine.execWeltDataSend c s
  | .weltWatchdogTimeout c => Sys2Proof.Machine.execWeltWatchdogTimeout c s
  | .wltRearm bits => Sys2Proof.Machine.execWltRearm bits s
  | .weltAutoRearm c => Sys2Proof.Machine.execWeltAutoRearm c s
  | .weltConditionClear c => Sys2Proof.Machine.execWeltConditionClear c s
  | .taskReleaseCyclic k => Sys2Proof.Machine.execTaskReleaseCyclic k s
  | .taskStart core => Sys2Proof.Machine.execTaskStart core s
  | .taskDeadlineExpiry k => Sys2Proof.Machine.execTaskDeadlineExpiry k s
  | .taskBalance used => Sys2Proof.Machine.execTaskBalance used s
  | .prgRunReq => Sys2Proof.Machine.execPrgRunReq s
  | .prgStopReq => Sys2Proof.Machine.execPrgStopReq s
  | .prgChangeReq => Sys2Proof.Machine.execPrgChangeReq s
  | .prgChangeAbort => Sys2Proof.Machine.execPrgChangeAbort s
  | .onlineChangeSwitch => Sys2Proof.Machine.execOnlineChangeSwitch s
  | .stationExchangeSend u => Sys2Proof.Machine.execStationExchangeSend u s
  | .stationInputReceive u frame => Sys2Proof.Machine.execStationInputReceive u frame s
  | .stationReplyTimeout u => Sys2Proof.Machine.execStationReplyTimeout u s
  | .bavinNop core => Sys2Proof.Machine.execBavinNop core s
  | .bavinDup core => Sys2Proof.Machine.execBavinDup core s
  | .bavinDrop core => Sys2Proof.Machine.execBavinDrop core s
  | .bavinSwap core => Sys2Proof.Machine.execBavinSwap core s
  | .bavinOver core => Sys2Proof.Machine.execBavinOver core s
  | .bavinRot core => Sys2Proof.Machine.execBavinRot core s
  | .bavinPick core n => Sys2Proof.Machine.execBavinPick core n s
  | .bavinLit core t v => Sys2Proof.Machine.execBavinLit core t v s
  | .bavinLoad core t sym => Sys2Proof.Machine.execBavinLoad core t sym s
  | .bavinStore core t sym => Sys2Proof.Machine.execBavinStore core t sym s
  | .bavinLoadx core t sym => Sys2Proof.Machine.execBavinLoadx core t sym s
  | .bavinStorex core t sym => Sys2Proof.Machine.execBavinStorex core t sym s
  | .bavinAdd core t => Sys2Proof.Machine.execBavinAdd core t s
  | .bavinSub core t => Sys2Proof.Machine.execBavinSub core t s
  | .bavinMul core t => Sys2Proof.Machine.execBavinMul core t s
  | .bavinDiv core t => Sys2Proof.Machine.execBavinDiv core t s
  | .bavinMod core t => Sys2Proof.Machine.execBavinMod core t s
  | .bavinNeg core t => Sys2Proof.Machine.execBavinNeg core t s
  | .bavinAbs core t => Sys2Proof.Machine.execBavinAbs core t s
  | .bavinMin core t => Sys2Proof.Machine.execBavinMin core t s
  | .bavinMax core t => Sys2Proof.Machine.execBavinMax core t s
  | .bavinEq core t => Sys2Proof.Machine.execBavinEq core t s
  | .bavinNe core t => Sys2Proof.Machine.execBavinNe core t s
  | .bavinLt core t => Sys2Proof.Machine.execBavinLt core t s
  | .bavinLe core t => Sys2Proof.Machine.execBavinLe core t s
  | .bavinGt core t => Sys2Proof.Machine.execBavinGt core t s
  | .bavinGe core t => Sys2Proof.Machine.execBavinGe core t s
  | .bavinAnd core t => Sys2Proof.Machine.execBavinAnd core t s
  | .bavinOr core t => Sys2Proof.Machine.execBavinOr core t s
  | .bavinXor core t => Sys2Proof.Machine.execBavinXor core t s
  | .bavinNot core t => Sys2Proof.Machine.execBavinNot core t s
  | .bavinShl core t => Sys2Proof.Machine.execBavinShl core t s
  | .bavinShr core t => Sys2Proof.Machine.execBavinShr core t s
  | .bavinConv core src dst => Sys2Proof.Machine.execBavinConv core src dst s
  | .bavinJmp core offset => Sys2Proof.Machine.execBavinJmp core offset s
  | .bavinJmpt core offset => Sys2Proof.Machine.execBavinJmpt core offset s
  | .bavinJmpf core offset => Sys2Proof.Machine.execBavinJmpf core offset s
  | .bavinCall core f => Sys2Proof.Machine.execBavinCall core f s
  | .bavinRet core => Sys2Proof.Machine.execBavinRet core s
  | .bavinEnd core => Sys2Proof.Machine.execBavinEnd core s
  | .bavinSel core t => Sys2Proof.Machine.execBavinSel core t s
  | .bavinLimit core t => Sys2Proof.Machine.execBavinLimit core t s
  | .bavinLdl core slot => Sys2Proof.Machine.execBavinLdl core slot s
  | .bavinStl core slot => Sys2Proof.Machine.execBavinStl core slot s
  | .bavinSqrt core => Sys2Proof.Machine.execBavinSqrt core s
  | .bavinExp core => Sys2Proof.Machine.execBavinExp core s
  | .bavinLn core => Sys2Proof.Machine.execBavinLn core s
  | .bavinLog10 core => Sys2Proof.Machine.execBavinLog10 core s
  | .bavinSin core => Sys2Proof.Machine.execBavinSin core s
  | .bavinCos core => Sys2Proof.Machine.execBavinCos core s
  | .bavinTan core => Sys2Proof.Machine.execBavinTan core s
  | .bavinAsin core => Sys2Proof.Machine.execBavinAsin core s
  | .bavinAcos core => Sys2Proof.Machine.execBavinAcos core s
  | .bavinAtan core => Sys2Proof.Machine.execBavinAtan core s
  | .bavinAtan2 core => Sys2Proof.Machine.execBavinAtan2 core s
  | .bavinPow core => Sys2Proof.Machine.execBavinPow core s
  | .bavinTrunc core => Sys2Proof.Machine.execBavinTrunc core s
  | .bavinRound core => Sys2Proof.Machine.execBavinRound core s
  | .bavinFloor core => Sys2Proof.Machine.execBavinFloor core s
  | .bavinCeil core => Sys2Proof.Machine.execBavinCeil core s
  | .bavinIsnan core => Sys2Proof.Machine.execBavinIsnan core s
  | .bavinFma core => Sys2Proof.Machine.execBavinFma core s
  | .bavinRol core t => Sys2Proof.Machine.execBavinRol core t s
  | .bavinRor core t => Sys2Proof.Machine.execBavinRor core t s
  | .bavinGetbit core t => Sys2Proof.Machine.execBavinGetbit core t s
  | .bavinSetbit core t => Sys2Proof.Machine.execBavinSetbit core t s
  | .bavinClrbit core t => Sys2Proof.Machine.execBavinClrbit core t s
  | .bavinNow core => Sys2Proof.Machine.execBavinNow core s
  | .bavinNowplant core => Sys2Proof.Machine.execBavinNowplant core s
  | .bavinCyclestart core => Sys2Proof.Machine.execBavinCyclestart core s
  | .bavinPeriod core => Sys2Proof.Machine.execBavinPeriod core s
  | .bavinTon core sym => Sys2Proof.Machine.execBavinTon core sym s
  | .bavinTof core sym => Sys2Proof.Machine.execBavinTof core sym s
  | .bavinTp core sym => Sys2Proof.Machine.execBavinTp core sym s
  | .bavinRtrig core sym => Sys2Proof.Machine.execBavinRtrig core sym s
  | .bavinFtrig core sym => Sys2Proof.Machine.execBavinFtrig core sym s
  | .bavinCtu core sym => Sys2Proof.Machine.execBavinCtu core sym s
  | .bavinCtd core sym => Sys2Proof.Machine.execBavinCtd core sym s
  | .bavinSr core sym => Sys2Proof.Machine.execBavinSr core sym s
  | .bavinRs core sym => Sys2Proof.Machine.execBavinRs core sym s
  | .bavinCopy core src dst => Sys2Proof.Machine.execBavinCopy core src dst s
  | .bavinFill core sym => Sys2Proof.Machine.execBavinFill core sym s
  | .bavinLen core sym => Sys2Proof.Machine.execBavinLen core sym s
  | .bavinStnok core station => Sys2Proof.Machine.execBavinStnok core station s
  | .bavinStnstate core station => Sys2Proof.Machine.execBavinStnstate core station s
  | .bavinStnenable core station => Sys2Proof.Machine.execBavinStnenable core station s
  | .bavinWvalid core conn => Sys2Proof.Machine.execBavinWvalid core conn s
  | .bavinWpub core conn sym => Sys2Proof.Machine.execBavinWpub core conn sym s
  | .bavinRaise core n => Sys2Proof.Machine.execBavinRaise core n s
  | .bavinTrigger core task => Sys2Proof.Machine.execBavinTrigger core task s
  | .bavinRdreg core => Sys2Proof.Machine.execBavinRdreg core s
  | .bavinWrreg core => Sys2Proof.Machine.execBavinWrreg core s
  | .bavinAssert core code => Sys2Proof.Machine.execBavinAssert core code s
  | .bavinTrap core code => Sys2Proof.Machine.execBavinTrap core code s
  | .bavinIsforced core sym => Sys2Proof.Machine.execBavinIsforced core sym s
  | .bavinCellget core field => Sys2Proof.Machine.execBavinCellget core field s
  | .bavinCellflags core => Sys2Proof.Machine.execBavinCellflags core s
  | .bavinNodeget core field => Sys2Proof.Machine.execBavinNodeget core field s
  | .bavinStrget core field => Sys2Proof.Machine.execBavinStrget core field s
  | .bavinStrstate core => Sys2Proof.Machine.execBavinStrstate core s
  | .bavinSloty core slot => Sys2Proof.Machine.execBavinSloty core slot s
  | .bavinXinset core n => Sys2Proof.Machine.execBavinXinset core n s
  | .bavinOutreq core => Sys2Proof.Machine.execBavinOutreq core s
  | .bavinAcksafe core => Sys2Proof.Machine.execBavinAcksafe core s
  | .cmdHello p => Sys2Proof.Machine.execCmdHello p s
  | .cmdBye p => Sys2Proof.Machine.execCmdBye p s
  | .cmdResultRead p => Sys2Proof.Machine.execCmdResultRead p s
  | .cmdSeqState p => Sys2Proof.Machine.execCmdSeqState p s
  | .cmdPing p => Sys2Proof.Machine.execCmdPing p s
  | .cmdCancel p => Sys2Proof.Machine.execCmdCancel p s
  | .cmdDeviceInfo p => Sys2Proof.Machine.execCmdDeviceInfo p s
  | .cmdStateRead p => Sys2Proof.Machine.execCmdStateRead p s
  | .cmdTableInfo p => Sys2Proof.Machine.execCmdTableInfo p s
  | .cmdRegRead p => Sys2Proof.Machine.execCmdRegRead p s
  | .cmdRegWrite p => Sys2Proof.Machine.execCmdRegWrite p s
  | .cmdMemRead p => Sys2Proof.Machine.execCmdMemRead p s
  | .cmdRun p => Sys2Proof.Machine.execCmdRun p s
  | .cmdStop p => Sys2Proof.Machine.execCmdStop p s
  | .cmdResume p => Sys2Proof.Machine.execCmdResume p s
  | .cmdAcknowledge p => Sys2Proof.Machine.execCmdAcknowledge p s
  | .cmdShutdown p => Sys2Proof.Machine.execCmdShutdown p s
  | .cmdDispatch p => Sys2Proof.Machine.execCmdDispatch p s
  | .cmdBurst p => Sys2Proof.Machine.execCmdBurst p s
  | .cmdSymbolRead p => Sys2Proof.Machine.execCmdSymbolRead p s
  | .cmdSymbolWrite p => Sys2Proof.Machine.execCmdSymbolWrite p s
  | .cmdForceSet p => Sys2Proof.Machine.execCmdForceSet p s
  | .cmdForceClear p => Sys2Proof.Machine.execCmdForceClear p s
  | .cmdForceList p => Sys2Proof.Machine.execCmdForceList p s
  | .cmdChange p => Sys2Proof.Machine.execCmdChange p s
  | .cmdNodeConfigRead p => Sys2Proof.Machine.execCmdNodeConfigRead p s
  | .cmdNodeStatus p => Sys2Proof.Machine.execCmdNodeStatus p s
  | .cmdEnumerate p => Sys2Proof.Machine.execCmdEnumerate p s
  | .cmdLearnedReset p => Sys2Proof.Machine.execCmdLearnedReset p s
  | .cmdEstCmd p => Sys2Proof.Machine.execCmdEstCmd p s
  | .cmdImageBegin p => Sys2Proof.Machine.execCmdImageBegin p s
  | .cmdImageBlock p => Sys2Proof.Machine.execCmdImageBlock p s
  | .cmdImageVerify p => Sys2Proof.Machine.execCmdImageVerify p s
  | .cmdImageAbort p => Sys2Proof.Machine.execCmdImageAbort p s
  | .cmdRecorderRead p => Sys2Proof.Machine.execCmdRecorderRead p s
  | .cmdConfigRead p => Sys2Proof.Machine.execCmdConfigRead p s
  | .cmdConfigWrite p => Sys2Proof.Machine.execCmdConfigWrite p s
  | .cmdConfigCommit p => Sys2Proof.Machine.execCmdConfigCommit p s
  | .cmdOwnerEnrol p => Sys2Proof.Machine.execCmdOwnerEnrol p s
  | .cmdOwnerOpen p => Sys2Proof.Machine.execCmdOwnerOpen p s
  | .cmdOwnerAuth p => Sys2Proof.Machine.execCmdOwnerAuth p s
  | .cmdOwnerCmd p => Sys2Proof.Machine.execCmdOwnerCmd p s
  | .cmdInvalidPacket uart ipv6 peer port bytes => Sys2Proof.Machine.execCmdInvalidPacket uart ipv6 peer port bytes s
  | .cmdHoldTimeout index => Sys2Proof.Machine.execCmdHoldTimeout index s
  | .sessionHoldExpiry index => Sys2Proof.Machine.execSessionHoldExpiry index s
  | .throttleEnd index => Sys2Proof.Machine.execThrottleEnd index s
  | .dmaAlloc n who => Sys2Proof.Machine.execDmaAlloc n who s
  | .dmaFree n who => Sys2Proof.Machine.execDmaFree n who s
  | .dmaStart n who => Sys2Proof.Machine.execDmaStart n who s
  | .dmaKick n who => Sys2Proof.Machine.execDmaKick n who s
  | .dmaAbort n who => Sys2Proof.Machine.execDmaAbort n who s
  | .dmaDisable n who => Sys2Proof.Machine.execDmaDisable n who s
  | .dmaSwreq bits => Sys2Proof.Machine.execDmaSwreq bits s
  | .dmaRequestStrobe line => Sys2Proof.Machine.execDmaRequestStrobe line s
  | .dmaBurst n => Sys2Proof.Machine.execDmaBurst n s
  | .dmaDescriptorComplete n => Sys2Proof.Machine.execDmaDescriptorComplete n s
  | .dmaCqTailWrite n value who => Sys2Proof.Machine.execDmaCqTailWrite n value who s
  | .dmaStallLimit n => Sys2Proof.Machine.execDmaStallLimit n s
  | .dmaBusError n addr write noResponse => Sys2Proof.Machine.execDmaBusError n addr write noResponse s
  | .dmaFirmwareRestart => Sys2Proof.Machine.execDmaFirmwareRestart s
  | .gsramParityError requester addr interconnect channel => Sys2Proof.Machine.execGsramParityError requester addr interconnect channel s
  | .codeParityError core addr refetchFailed => Sys2Proof.Machine.execCodeParityError core addr refetchFailed s
  | .scrubPass latent => Sys2Proof.Machine.execScrubPass latent s
  | .ethLinkChange port signal sync page => Sys2Proof.Machine.execEthLinkChange port signal sync page s
  | .ethFrameReceive port frame fcs => Sys2Proof.Machine.execEthFrameReceive port frame fcs s
  | .ethTxComplete pair port ts frame user underrun => Sys2Proof.Machine.execEthTxComplete pair port ts frame user underrun s
  | .prpSupervisionSend => Sys2Proof.Machine.execPrpSupervisionSend s
  | .prpNodeAgeOut => Sys2Proof.Machine.execPrpNodeAgeOut s
  | .prpPathLossTimeout port => Sys2Proof.Machine.execPrpPathLossTimeout port s
  | .timCapture => Sys2Proof.Machine.execTimCapture s
  | .timAlarmFire k => Sys2Proof.Machine.execTimAlarmFire k s
  | .plantSecond => Sys2Proof.Machine.execPlantSecond s
  | .ppsPulseEnd => Sys2Proof.Machine.execPpsPulseEnd s
  | .ptpSyncReceive port domain originNs correctionNs rxPlantNs => Sys2Proof.Machine.execPtpSyncReceive port domain originNs correctionNs rxPlantNs s
  | .ptpAnnounceReceive port domain announce => Sys2Proof.Machine.execPtpAnnounceReceive port domain announce s
  | .ptpPdelayReqSend => Sys2Proof.Machine.execPtpPdelayReqSend s
  | .ptpPdelayReqReceive port seq requester => Sys2Proof.Machine.execPtpPdelayReqReceive port seq requester s
  | .ptpPdelayRespReceive port seq t2Ns t3Ns correctionNs t4Ns => Sys2Proof.Machine.execPtpPdelayRespReceive port seq t2Ns t3Ns correctionNs t4Ns s
  | .ptpAnnounceTimeout port => Sys2Proof.Machine.execPtpAnnounceTimeout port s
  | .ptpSyncTimeout => Sys2Proof.Machine.execPtpSyncTimeout s
  | .holdoverBoundExceeded => Sys2Proof.Machine.execHoldoverBoundExceeded s
  | .holdoverTempOutOfRange => Sys2Proof.Machine.execHoldoverTempOutOfRange s
  | .oscModelStore => Sys2Proof.Machine.execOscModelStore s
  | .canFrameReceive n id ide rtr fdf brs esi dlc data ago => Sys2Proof.Machine.execCanFrameReceive n id ide rtr fdf brs esi dlc data ago s
  | .canRxLatch n win => Sys2Proof.Machine.execCanRxLatch n win s
  | .canRxRelease n win => Sys2Proof.Machine.execCanRxRelease n win s
  | .canTxPush n value => Sys2Proof.Machine.execCanTxPush n value s
  | .canTxReq n bits cancel => Sys2Proof.Machine.execCanTxReq n bits cancel s
  | .canTxCancel n bits onBus => Sys2Proof.Machine.execCanTxCancel n bits onBus s
  | .canTxComplete n slot outcome => Sys2Proof.Machine.execCanTxComplete n slot outcome s
  | .canTimedTxDue n slot => Sys2Proof.Machine.execCanTimedTxDue n slot s
  | .canBusError n code dataPhase slot collision exempt more => Sys2Proof.Machine.execCanBusError n code dataPhase slot collision exempt more s
  | .canBusoffRecovered n => Sys2Proof.Machine.execCanBusoffRecovered n s
  | .canRecover n => Sys2Proof.Machine.execCanRecover n s
  | .canSleepReq n wake => Sys2Proof.Machine.execCanSleepReq n wake s
  | .canWakeReq n => Sys2Proof.Machine.execCanWakeReq n s
  | .canWakeDetect n frame dominantUs => Sys2Proof.Machine.execCanWakeDetect n frame dominantUs s
  | .canCommit n value => Sys2Proof.Machine.execCanCommit n value s
  | .canReferenceDue n => Sys2Proof.Machine.execCanReferenceDue n s
  | .canReferenceLost n => Sys2Proof.Machine.execCanReferenceLost n s
  | .recorderTokenRefill code => Sys2Proof.Machine.execRecorderTokenRefill code s
  | .recorderIntervalTimer => Sys2Proof.Machine.execRecorderIntervalTimer s
  | .recPersistReq => Sys2Proof.Machine.execRecPersistReq s
  | .recorderWriteDone ok => Sys2Proof.Machine.execRecorderWriteDone ok s
  | .detailPageTimeout => Sys2Proof.Machine.execDetailPageTimeout s
  | .imageEraseDone => Sys2Proof.Machine.execImageEraseDone s
  | .imageSessionTimeout => Sys2Proof.Machine.execImageSessionTimeout s
  | .arbGrantConfirmed level => Sys2Proof.Machine.execArbGrantConfirmed level s
  | .redAliveRefresh => Sys2Proof.Machine.execRedAliveRefresh s
  | .aliveRefreshTimeout => Sys2Proof.Machine.execAliveRefreshTimeout s
  | .beatSend => Sys2Proof.Machine.execBeatSend s
  | .partnerFrameReceive groups => Sys2Proof.Machine.execPartnerFrameReceive groups s
  | .lastFastSetSend => Sys2Proof.Machine.execLastFastSetSend s
  | .lastFullSetSend => Sys2Proof.Machine.execLastFullSetSend s
  | .lastPersistTimer => Sys2Proof.Machine.execLastPersistTimer s
  | .lastStaleTimeout => Sys2Proof.Machine.execLastStaleTimeout s
  | .partnerLinkTimeout => Sys2Proof.Machine.execPartnerLinkTimeout s
  | .fullLayerComplete cell => Sys2Proof.Machine.execFullLayerComplete cell s
  | .fullSequenceRequestTimer => Sys2Proof.Machine.execFullSequenceRequestTimer s
  | .lastCopyDone ok => Sys2Proof.Machine.execLastCopyDone ok s
  | .configStoreDone kind => Sys2Proof.Machine.execConfigStoreDone kind s
  | .recorderEraseDone ring => Sys2Proof.Machine.execRecorderEraseDone ring s
  | .imageBlockStored => Sys2Proof.Machine.execImageBlockStored s
  | .imageVerifyDone readOk program => Sys2Proof.Machine.execImageVerifyDone readOk program s
  | .canRxBufferHoldoffEnd n => Sys2Proof.Machine.execCanRxBufferHoldoffEnd n s
  | .ethEventHoldoffEnd port transmit => Sys2Proof.Machine.execEthEventHoldoffEnd port transmit s
  | .tetherLinkChange port up => Sys2Proof.Machine.execTetherLinkChange port up s

end Sys2Proof.Machine
end

