-- ==== Sys2Proof/Safety.lean ====
section
/-!
DEFINITION. What counts as a sound state and a sound run, in the terms that the statements use.
-/

namespace Sys2Proof.Machine

/-- Registers and GSRAM stand in their canonical form: equal contents are equal data. -/
def State.wf (s : State) : Prop := Sparse.wf regReset s.regs = true ∧ Memory.wf s.gsram = true

/-- A source's pending flag (R39, Table 1.9). -/
def State.pend (s : State) (src : Nat) : Bool := s.bit (Reg.EVT_PEND (src / 32)) (src % 32)

/-- The registers that a strobed event may write: pending flags, queue head and status, occurrence counters and details
(R39, R42 to R45), the recorder's counts (R450), a bound task's status (R320), a requested DMA channel's status (R389). -/
def eventReg (a : Nat) : Bool :=
  (List.range 4).any (fun i => a == Reg.EVT_PEND i) || a == Reg.EVT_QUEUE_HEAD || a == Reg.EVT_QUEUE_STAT ||
  (decide (Reg.EVT_COUNT 0 ≤ a) && decide (a < Reg.EVT_COUNT 0 + 0x80)) ||
  (decide (Reg.EVT_DETAIL 0 ≤ a) && decide (a < Reg.EVT_DETAIL 0 + 0x200)) ||
  a == Reg.REC_DETAIL || a == Reg.REC_STAT || a == Reg.REC_STAT_COUNT ||
  (List.range 48).any (fun k => a == Reg.PRG_TASK_STAT k) ||
  (List.range 16).any (fun n => a == Reg.DMA_CH_STAT n || a == Reg.DMA_CH_STALL n)

/-- Task k, in context c, runs on a core, no task of the core goes before it, and these bytes of the running program
stand at its position (R309, R313, R322). -/
def State.standsAt (s : State) (core k : Nat) (c : TaskCtx) (bs : Bytes) : Prop :=
  s.inCycle core = some (k, c) ∧ s.vampOn = true ∧ s.tasksRun = true ∧ s.prg.halted.contains core = false ∧
    (s.bestTask core).all (fun j => j == k) = true ∧
    ∃ p, s.program = some p ∧ (slice p.code c.pc bs.length == bs) = true

/-- The state after task k has gone on by n bytes with this stack. -/
def State.went (s : State) (k : Nat) (c : TaskCtx) (n : Nat) (st : List Quad) : State :=
  s.setCtx k { c with pc := c.pc + n, stack := st }

/-- A packet is a command of session i, in form, offered, next in sequence with nothing held, below every bound, and its
function runs in the controller's state: the session executes it at once (R350 to R361). -/
def State.takesNow (s : State) (i : Nat) (v : Session) (p : CmdPacket) : Prop :=
  s.channelOn p = true ∧ s.sessionOf p = some (i, v) ∧ s.throttles v = false ∧ v.throttled = false ∧ v.held = [] ∧
  malformed p false (some v.version) = false ∧ opOffered p.opcode v.version = true ∧
  (opInfo p.opcode).map (fun x => x.1) = some false ∧ p.hseq = (v.lastAccepted + 1) % 2 ^ 32 ∧
  (v.arrivals.filter (fun t => decide (s.monoNs < t + 1000000))).length < 64 ∧
  s.cmd.ops.any (fun o => o.sess == some i && o.tag == p.tag) = false ∧ s.cmd.ops.length < 512 ∧
  s.opRuns p.opcode = true

/-- The state in which such a command executes: its arrival and sequence are noted, and its operation is open. -/
def State.begun (s : State) (i : Nat) (v : Session) (p : CmdPacket) : State :=
  have w1 : Session := { v with hostAcked := p.aseq }
  have w2 : Session := { w1 with arrivals := s.monoNs :: v.arrivals.filter (fun t => decide (s.monoNs < t + 1000000)) }
  have w3 : Session := { w2 with lastAccepted := p.hseq }
  have s1 := ((s.setSession i w1).setSession i w2).setSession i w3
  have o : OpenOp := { id := s.cmd.nextOp, sess := some i, tag := p.tag, hseq := p.hseq, opcode := p.opcode,
                       owner := p.flags / 16 % 2 == 1 }
  ({ s1 with cmd := { s1.cmd with ops := s1.cmd.ops ++ [o], nextOp := s.cmd.nextOp + 1 } } : State).setSession i w3

/-- The state after it: an operation that is still open is acknowledged (R361). -/
def State.acknowledged (t : State) (i id : Nat) (p : CmdPacket) : State :=
  if t.opOpen id then t.reply i (2 + 16 * b2n (p.flags / 16 % 2 == 1)) p.tag p.hseq p.opcode St.ACCEPTED 0 [] else t

/-- A run of n steps that never stops ends in a state. -/
def runs : Nat → State → State → Prop
  | 0, s, t => t = s
  | n + 1, s, t => ∃ u, step s = .next u ∧ runs n u t

end Sys2Proof.Machine
end

