-- ==== Sys2Proof/Certificates/Slice0/Obligations.lean ====
section
/-!
DEFINITION. The statements for the provers: what the block does, rule by rule, and what every step keeps.
-/

open Sys2Proof Sys2Proof.Machine

/-! The machine as a whole. -/

/-- A step runs the command at the front of the queue on the state with the queue's rest. -/
def Obligations.StepRunsFrontCommand : Prop :=
  ∀ (c : Instr) (rest : List Instr) (s : State),
    step { s with pending := c :: rest } = exec c { s with pending := rest }

/-- With no command waiting a step lets one cycle of the block's own time pass, and nothing is queued by it. The
step's form on an empty queue is the model's choice (assumption 60). -/
def Obligations.EmptyQueueStepIsOneCycle : Prop :=
  ∀ s : State, s.pending = [] → step s = .next s.idle ∧ s.idle.pending = []

/-- What reset leaves: the registers at the values of the maps, beside an empty queue, empty GSRAM and the mode Boot.
Where the maps state no value, and for what a byte of memory that nothing has written reads, the value is the model's
choice (assumptions 5, 7 and 16). -/
def Obligations.ResetValues : Prop :=
  State.reset.mode = .boot ∧ State.reset.drogue = false ∧ State.reset.pending = [] ∧ State.reset.gsram = [] ∧
  State.reset.out = [] ∧ State.reset.rd Reg.SYS_ID = 0x12A00101 ∧ State.reset.rd Reg.SYS_STATE = 0x10000000 ∧
  State.reset.rd Reg.CLK_ID = regReset Reg.CLK_ID ∧ (∀ a, State.reset.rd a = regReset a) ∧
  (∀ a, State.reset.getByte a = 0)

/-- The canonical forms of registers and GSRAM hold at reset. -/
def Obligations.CanonicalFormHoldsAtReset : Prop := State.reset.wf

/-- Every step keeps the canonical forms: equal contents stay equal data, whatever command or cycle runs. -/
def Obligations.EveryStepKeepsCanonicalForm : Prop :=
  ∀ s t : State, s.wf → step s = .next t → t.wf

/-- No command touches the queue, takes back an output, or turns back the count of free values: the queue stands, the
outputs so far are the oldest of those after it, and the count of draws does not fall. -/
def Obligations.CommandsKeepQueueAndOutputs : Prop :=
  ∀ (c : Instr) (s t : State), exec c s = .next t → t.pending = s.pending ∧ s.out <:+ t.out ∧ s.free ≤ t.free

/-- Every command is executed: none is refused and none stops the block, in any state and with any operands. -/
def Obligations.EveryCommandAnswersNextState : Prop :=
  ∀ (c : Instr) (s : State), ∃ t : State, exec c s = .next t

/-- The queue is first in, first out and always drains: after as many steps as commands wait it is empty, and after
each step it is the rest of what it was. -/
def Obligations.QueueDrainsFirstInFirstOut : Prop :=
  (∀ (c : Instr) (rest : List Instr) (s t : State), s.pending = c :: rest → step s = .next t → t.pending = rest) ∧
  ∀ s : State, ∃ t, runs s.pending.length s t ∧ t.pending = [] ∧ s.out <:+ t.out

/-- GSRAM (R11, R386): a byte written reads as written and every other byte as before; so it is for a run of bytes,
and a word written reads back, at any address. -/
def Obligations.MemoryReadsWhatWasWritten : Prop :=
  ∀ (s : State) (a : Nat) (bs : Bytes) (w : Word), s.wf →
    (s.putBytes a bs).getBytes a bs.length = bs ∧
    (∀ b, b < a ∨ a + bs.length ≤ b → (s.putBytes a bs).getByte b = s.getByte b) ∧
    (s.putWord a w).getWord a = w ∧ (s.putBytes a bs).wf ∧ (s.putBytes a bs).regs = s.regs

/-- A register field written reads as written, cut to its width; the register's other bits and every other register
read as before. -/
def Obligations.RegisterFieldReadsWhatWasWritten : Prop :=
  ∀ (s : State) (a hi lo v : Nat), s.wf → lo ≤ hi → hi < 32 →
    (s.setFld a hi lo v).fld a hi lo = v % 2 ^ (hi + 1 - lo) ∧
    (∀ b, b < 32 → (b < lo ∨ hi < b) → (s.setFld a hi lo v).bit a b = s.bit a b) ∧
    (∀ r, r ≠ a → (s.setFld a hi lo v).rd r = s.rd r) ∧ (s.setFld a hi lo v).wf

/-- A hardware set of a W1C flag (R14): the flag stands, also where a write of 1 to it falls in the same cycle, its
occurrence counter has gone up by one or stands at 255 (R15), and every other flag of the register and every register
but the two stay. -/
def Obligations.FlagSetCountsItsOccurrence : Prop :=
  ∀ (s : State) (reg cnt b : Nat), s.wf → b < 32 → (∀ k, k < 8 → reg ≠ cnt + 4 * k) →
    (s.flag reg cnt b).bit reg b = true ∧
    (s.flag reg cnt b).fld (cnt + 4 * (b / 4)) (8 * (b % 4) + 7) (8 * (b % 4)) =
      min 255 (s.fld (cnt + 4 * (b / 4)) (8 * (b % 4) + 7) (8 * (b % 4)) + 1) ∧
    (∀ c, c < 32 → c ≠ b → (s.flag reg cnt b).bit reg c = s.bit reg c) ∧
    (∀ r, r ≠ reg → r ≠ cnt + 4 * (b / 4) → (s.flag reg cnt b).rd r = s.rd r) ∧
    ∀ v : Word, ((s.plainWrite reg v).flag reg cnt b).bit reg b = true

/-- A strobe of a source (R39): its pending flag stands, its detail is the low 24 bits strobed, its occurrence counter
has gone up by one or stands at 255; whatever the event brings about, all else but the registers of eventReg, the
queue area, the recorder, tasks and DMA channels is as before. The two sources that a strobe can itself raise,
EVT_QUEUE_OVERFLOW and REC_RATE_LIMIT, keep the frame and the pending flag. -/
def Obligations.StrobeMarksItsSource : Prop :=
  ∀ (s : State) (src d : Nat), s.wf → src < 128 →
    (s.strobe src d).pend src = true ∧
    (src ≠ Src.EVT_QUEUE_OVERFLOW → src ≠ Src.REC_RATE_LIMIT →
      (s.strobe src d).rd (Reg.EVT_DETAIL src) = BitVec.ofNat 32 (d % 2 ^ 24) ∧
      (s.strobe src d).fld (Reg.EVT_COUNT (src / 4)) (8 * (src % 4) + 7) (8 * (src % 4)) =
        min 255 (s.fld (Reg.EVT_COUNT (src / 4)) (8 * (src % 4) + 7) (8 * (src % 4)) + 1)) ∧
    (∀ k, k < 128 → s.pend k = true → (s.strobe src d).pend k = true) ∧
    (∀ a, eventReg a = false → (s.strobe src d).rd a = s.rd a) ∧
    (∀ a, a < (s.rd Reg.EVT_QUEUE_BASE).toNat ∨ (s.rd Reg.EVT_QUEUE_BASE).toNat + 4096 ≤ a →
      (s.strobe src d).getByte a = s.getByte a) ∧
    (s.strobe src d).mode = s.mode ∧ (s.strobe src d).saf = s.saf ∧ (s.strobe src d).est = s.est ∧
    (s.strobe src d).welt = s.welt ∧ (s.strobe src d).can = s.can ∧ (s.strobe src d).cmd = s.cmd


/-! Supply, reset, clocks and Boot. -/

/-- VIN_VALID, VIN_LOW, VIN_RESTORED and VIN_UV (R486, R490). VIN_VALID takes Off to Boot, with cause 0, once NRST is
released; VIN_LOW holds Insole programs and erases until VIN_RESTORED; VIN_UV turns everything off. -/
def Obligations.VinCommands : Prop :=
  (∀ s : State, s.mode = .off → s.supply.nrstLow = false → exec .vinValid s = .next (s.beginBoot 0 false)) ∧
  (∀ s : State, s.mode = .off → s.supply.nrstLow = true →
    exec .vinValid s = .next { s with supply := { s.supply with vinOk := true } }) ∧
  (∀ (s : State) (mv left : Nat), s.wf → s.vampOn = true → s.supply.insoleHold = false →
    ∃ u : State, exec (.vinLow mv left) s = .next (u.cutWrite left) ∧ u.supply = { s.supply with insoleHold := true } ∧
      u.bit Reg.PWR_STAT 9 = true ∧ u.pend Src.PWR_VIN_LOW = true ∧ u.mode = s.mode ∧ u.saf = s.saf ∧ u.est = s.est) ∧
  (∀ (s : State) (mv : Nat), s.wf → s.vampOn = true → s.supply.insoleHold = true →
    ∃ u : State, exec (.vinRestored mv) s = .next ((u.journalTrigger 5).recTriggerMerged 3) ∧
      u.supply = { s.supply with insoleHold := false } ∧ u.bit Reg.PWR_STAT 9 = false ∧
      u.pend Src.PWR_VIN_RESTORED = true ∧ u.mode = s.mode ∧ u.saf = s.saf) ∧
  (∀ s : State, s.wf → s.mode ≠ .off → ∃ t : State, exec .vinUv s = .next t ∧ t.mode = .off ∧ t.drogue = false ∧
    t.bit Reg.PWR_STAT 10 = false ∧ t.rd Reg.PWR_RAILS = 0 ∧ t.saf.ch1.kill = true ∧ t.saf.ch2.kill = true ∧
    t.supply.vinOk = false ∧ t.rd Reg.CTL_RUN = 0 ∧ t.gsram = s.gsram ∧ t.out = s.out ∧
    (∀ a, a ≠ Reg.PWR_STAT → a ≠ Reg.PWR_RAILS → a ≠ Reg.CTL_RUN → t.rd a = s.rd a)) ∧
  ∀ s : State, s.mode = .off → exec .vinUv s = .next s

/-- VSUP_FALL and VSUP_RISE (R488) and the hold-up test (R489): the gate follows VSUP but stays off through a
self-test and a thermal shutdown; a test turns it off, holds START and TESTING, and its end turns the gate on again,
stores the result and reports any but a pass. -/
def Obligations.GateAndHoldupTest : Prop :=
  (∀ s : State, s.wf → s.mode ≠ .off →
    ∃ t : State, exec .vsupFall s = .next t ∧ t.bit Reg.PWR_STAT 10 = false ∧ (∀ a, a ≠ Reg.PWR_STAT → t.rd a =
      s.rd a)) ∧
  (∀ s : State, s.wf → s.mode ≠ .off → s.supply.testIin = none → s.supply.thermalHold = false →
    ∃ t : State, exec .vsupRise s = .next t ∧ t.bit Reg.PWR_STAT 10 = true ∧ (∀ a, a ≠ Reg.PWR_STAT → t.rd a = s.rd a)) ∧
  (∀ s : State, s.supply.testIin.isSome = true ∨ s.supply.thermalHold = true → exec .vsupRise s = .next s) ∧
  (∀ (s : State) (ma : Nat), s.wf → s.vampOn = true → s.supply.testIin = none →
    ∃ t : State, exec (.holdupTestTimer ma) s = .next t ∧ t.supply.testIin = some ma ∧ t.bit Reg.PWR_CTRL 0 = true ∧
      t.bit Reg.PWR_STAT 8 = true ∧ t.bit Reg.PWR_STAT 10 = false ∧
      (∀ a, a ≠ Reg.PWR_CTRL → a ≠ Reg.PWR_STAT → t.rd a = s.rd a) ∧
      (s.links.vsUp = true → exec (.holdupTest ma) s = .next t)) ∧
  ∀ (s : State) (ma : Nat) (fall : Option Nat) (moved : Bool), s.wf → s.supply.testIin = some ma →
    ∃ t : State, exec (.holdupTestEnd fall moved) s = .next t ∧ t.supply.testIin = none ∧ t.bit Reg.PWR_STAT 8 = false ∧
      t.bit Reg.PWR_STAT 10 = true ∧ t.bit Reg.PWR_CTRL 0 = false ∧
      t.rd Reg.PWR_HOLDUP = BitVec.ofNat 32 (holdupResult ma fall moved * 2 ^ 28 +
        (if holdupResult ma fall moved = 3 then 0 else holdupCap ma fall)) ∧
      (holdupResult ma fall moved ≠ 0 → t.pend Src.PWR_HOLDUP_FAIL = true)

/-- NRST (R274, R492): a low of 1.1 us or more asserts it, one shorter than 1 us never, and which of the two a low
between them is stays free (assumption 1). Its assertion holds the Vamp and stops channel 1; its release begins a Boot
of cause 1 unless a
thermal shutdown still holds the Vamp; held for 2 s it is logged with code 4 and strobed. -/
def Obligations.ResetPin : Prop :=
  (∀ (s : State) (ns : Nat), s.wf → s.mode ≠ .off → s.supply.nrstLow = false → 1100 ≤ ns →
    ∃ t : State, exec (.nrstAsserted ns) s = .next t ∧ t.supply.nrstLow = true ∧ t.supply.held = true ∧
      t.saf.ch1On = false ∧
      t.vampOn = false ∧ t.bit Reg.SOLE_RESET 31 = true ∧ t.mode = s.mode ∧ (∀ a, a ≠ Reg.SOLE_RESET → t.rd a =
        s.rd a)) ∧
  (∀ (s : State) (ns : Nat), ns < 1000 ∨ s.supply.nrstLow = true → exec (.nrstAsserted ns) s = .next s) ∧
  (∀ s : State, s.mode = .off → s.supply.nrstLow = true → s.supply.vinOk = true →
    exec .nrstReleased s = .next (({ s with supply := { s.supply with nrstLow := false } } : State).beginBoot 0 false)) ∧
  (∀ s : State, s.mode ≠ .off → s.supply.nrstLow = true →
    ∃ u : State, u.supply.nrstLow = false ∧ exec .nrstReleased s =
      .next (if (u.unfind 2 false 3 0).supply.thermalHold then u.unfind 2 false 3 0
        else (u.unfind 2 false 3 0).beginBoot 1 false)) ∧
  ∀ s : State, s.mode ≠ .off → s.supply.nrstLow = true →
    exec .resetHeldTimeout s = .next ((((s.find 2 false 3 0 0).soleLog 4 0).flag Reg.SOLE_STAT Reg.SOLE_STAT_COUNT 3).strobe
      Src.SOLE_RESET_HELD 2)

/-- SYS_RESTART (R493): the value 0xA55A with every contactor open begins a Boot of cause 3; any other write, and one
with a contactor closed, only sets and counts the flag. -/
def Obligations.RestartNeedsValueAndOpenString : Prop :=
  (∀ s : State, s.vampOn = true → s.allOpen = true → exec (.sysRestart 0xA55A) s = .next (s.beginBoot 3 false)) ∧
  (∀ (s : State) (v : Word), s.wf → s.vampOn = true → v ≠ 0xA55A ∨ s.allOpen = false →
    ∃ t : State, exec (.sysRestart v) s = .next t ∧ t.bit Reg.SYS_STAT 2 = true ∧ t.mode = s.mode ∧ t.saf = s.saf ∧
      (∀ a, a ≠ Reg.SYS_STAT → a ≠ Reg.SYS_STAT_COUNT → t.rd a = s.rd a)) ∧
  ∀ (s : State) (v : Word), s.vampOn = false → exec (.sysRestart v) s = .next s

/-- Clocks (R494, R495): the loss of REFCLK strobes and stops the Vamp and channel 1, its return boots with cause 5;
an unlocked PLL strobes and boots with cause 2; the AON crystal's state follows its failures, each change strobed. -/
def Obligations.ClockCommands : Prop :=
  (∀ s : State, s.wf → s.vampOn = true → ∃ t : State, exec .refclkLoss s = .next t ∧ t.supply.refclkLost = true ∧
    t.saf.ch1On = false ∧ t.vampOn = false ∧ t.pend Src.CLK_REFCLK_LOSS = true ∧ t.mode = s.mode) ∧
  (∀ s : State, s.supply.refclkLost = true → s.supply.held = false →
    exec .refclkRestored s = .next ((s.beginBoot 5 false).strobe Src.CLK_REFCLK_LOSS 0)) ∧
  (∀ s : State, s.supply.refclkLost = true → s.supply.held = true →
    exec .refclkRestored s = .next { s with supply := { s.supply with refclkLost := false } }) ∧
  (∀ (s : State) (n : Nat), s.wf → s.vampOn = true → n < 3 → ∃ u : State, exec (.pllUnlock n) s =
    .next (u.beginBoot 2 false) ∧
    u.pend Src.CLK_PLL_UNLOCK = true ∧ u.bit Reg.CLK_STAT (8 + n) = false) ∧
  (∀ s : State, s.wf → s.mode ≠ .off → s.bit Reg.CLK_STAT 11 = false → ∃ t : State, exec .aonCrystalFail s = .next t ∧
    t.bit Reg.CLK_STAT 11 = true ∧ (s.vampOn = true → t.pend Src.CLK_AON_FAULT = true)) ∧
  ∀ s : State, s.wf → s.mode ≠ .off → s.bit Reg.CLK_STAT 11 = true → ∃ t : State, exec .aonCrystalRestored s = .next t ∧
    t.bit Reg.CLK_STAT 11 = false ∧ (s.vampOn = true → t.pend Src.CLK_AON_FAULT = true)

/-- Junction temperature and the operating second (R451, R501, R504): a shutdown opens every switch of channel 2 with
its kill wire and holds the Vamp until it has cooled, when a Boot of cause 4 begins; the operating seconds advance
while VIN is within 10.8 V to 13.2 V. -/
def Obligations.TemperatureAndOperatingTime : Prop :=
  (∀ (s : State) (v o p : Int), s.vampOn = true → exec (.junctionHot v o p) s = .next (s.takeTemps v o p)) ∧
  (∀ s : State, s.mode ≠ .off → s.supply.thermalHold = false → ∃ t : State, exec .junctionShutdown s = .next t ∧
    t.supply.thermalHold = true ∧ t.supply.held = true ∧ t.vampOn = false ∧ t.saf.ch1On = false ∧ t.saf.ch2.kill =
      true) ∧
  (∀ s : State, s.supply.thermalHold = true → s.supply.nrstLow = false →
    exec .junctionCooled s = .next (s.beginBoot 4 false)) ∧
  (∀ s : State, s.supply.thermalHold = true → s.supply.nrstLow = true →
    exec .junctionCooled s = .next { s with supply := { s.supply with thermalHold := false } }) ∧
  (∀ (s : State) (vin vsup iin pw : Nat) (v o p : Int), s.vampOn = true → 10800 ≤ vin → vin ≤ 13200 →
    exec (.operatingSecond vin vsup iin pw v o p) s = .next ((({ s with supply := { s.supply with
      opSeconds := (s.supply.opSeconds + 1) % 2 ^ 40 } } : State).measureSupply vin vsup iin pw).takeTemps v o p)) ∧
  ∀ (s : State) (vin vsup iin pw : Nat) (v o p : Int), s.vampOn = true → vin < 10800 ∨ 13200 < vin →
    exec (.operatingSecond vin vsup iin pw v o p) s = .next ((s.measureSupply vin vsup iin pw).takeTemps v o p)

/-- What a Boot starts from (R5, R491, R496): mode Boot, no overlay, the cause in SYS.RESET_CAUSE, GSRAM cleared, the
queue and the outputs as they were, the configuration, the stored safety set, the program and the Last of the Insole
kept, and no session and no task on core 0. -/
def Obligations.BootStartsFromItsState : Prop :=
  ∀ (s : State) (cause : Nat), cause < 16 →
    (s.beginBoot cause false).mode = .boot ∧ (s.beginBoot cause false).drogue = false ∧
    (s.beginBoot cause false).rd Reg.SYS_RESET_CAUSE = BitVec.ofNat 32 cause ∧
    (s.beginBoot cause false).gsram = [] ∧ (s.beginBoot cause false).pending = s.pending ∧
    (s.beginBoot cause false).out = s.out ∧ (s.beginBoot cause false).cfg.slotA = s.cfg.slotA ∧
    (s.beginBoot cause false).cfg.safety = s.cfg.safety ∧ (s.beginBoot cause false).prg.bankA = s.prg.bankA ∧
    (s.beginBoot cause false).red.copyA = s.red.copyA ∧ (s.beginBoot cause false).prg.core0 = none ∧
    (s.beginBoot cause false).cmd.sessions = []

/-- BOOT_COMPLETE (R129, R496 to R498): a Boot whose firmware cannot be loaded is held with reason 3, one without a
configuration with reason 2, and any other ends with the units that failed their self-test out of service. A Boot that
ends is over: nothing boots, no takeover stands, SYS_BOOT_DONE is strobed, and the block has left Boot; so is a Boot
that is held, but for its mode, which stays. -/
def Obligations.BootEnds : Prop :=
  (∀ (s : State) (units : List Nat) (bad ms : Nat), s.supply.booting = true → s.vampOn = true → s.mode = .boot →
    s.checkFirmware bad = none → exec (.bootComplete units bad ms) s = .next (s.bootLoad.holdBoot 3 ms)) ∧
  (∀ (s u : State) (units : List Nat) (bad ms : Nat), s.supply.booting = true → s.vampOn = true → s.mode = .boot →
    s.checkFirmware bad = some u → u.bootLoad.supply.unconfigured = true →
    exec (.bootComplete units bad ms) s = .next (u.bootLoad.holdBoot 2 ms)) ∧
  (∀ (s u : State) (units : List Nat) (bad ms : Nat), s.supply.booting = true → s.vampOn = true → s.mode = .boot →
    s.checkFirmware bad = some u → u.bootLoad.supply.unconfigured = false →
    exec (.bootComplete units bad ms) s = .next ((u.bootLoad.failUnits units).endBoot ms)) ∧
  (∀ (s : State) (units : List Nat) (ms : Nat), s.wf → s.supply.booting = true → s.supply.loaded = true →
    s.vampOn = true → s.mode = .boot → ∃ t : State, exec (.bootComplete units 0 ms) s = .next t ∧
    t.supply.booting = false ∧ t.pend Src.SYS_BOOT_DONE = true ∧
    (s.supply.unconfigured = false → t.supply.takeover = false ∧ t.mode ≠ .boot) ∧
    (s.supply.unconfigured = true → t.supply.bootHeld = true ∧ t.mode = .boot)) ∧
  ∀ (s : State) (units : List Nat) (bad ms : Nat), s.supply.booting = false →
    exec (.bootComplete units bad ms) s = .next s


/-! Buses, links, events. -/

/-- REGISTER_WRITE (R11 to R14, R37): a word write that the bus takes is carried out by the write rules, with the bits
that the hardware sets in the same cycle left standing; every other size, and a write that the bus refuses, ends with an
error response and changes nothing else. So does every write to the Insole window, of which the spare sectors do not
read and the factory area reads the same in every state (R18), and every write of RED.ALIVE that is not the firmware's,
whoever sends it (R484). -/
def Obligations.RegisterWriteOrErrorResponse : Prop :=
  (∀ (s t : State) (who : Requester) (a v h : Word), s.vampOn = true →
    s.busWrite who a.toNat (setWins a.toNat v h) = some t → exec (.registerWrite who a 4 v h) s = .next t) ∧
  (∀ (s : State) (who : Requester) (a v h : Word), s.vampOn = true →
    s.busWrite who a.toNat (setWins a.toNat v h) = none →
    exec (.registerWrite who a 4 v h) s = .next (s.emit (.errorResponse a.toNat))) ∧
  (∀ (s : State) (who : Requester) (a v h : Word) (n : Nat), s.vampOn = true → n ≠ 4 →
    exec (.registerWrite who a n v h) s = .next (s.emit (.errorResponse a.toNat))) ∧
  (∀ (s : State) (who : Requester) (a v h : Word) (n : Nat), s.vampOn = false →
    exec (.registerWrite who a n v h) s = .next s) ∧
  (∀ (s : State) (who : Requester) (a v h : Word) (n : Nat), s.vampOn = true → 0x60000000 ≤ a.toNat →
    a.toNat < 0x64000000 → exec (.registerWrite who a n v h) s = .next (s.emit (.errorResponse a.toNat))) ∧
  (∀ (s : State) (who : Requester) (n a : Nat), 0x63300000 ≤ a → a < 0x63C00000 → s.busRead who n a = (none, s)) ∧
  (∀ (s t : State) (off : Nat), 0x3C00000 ≤ off → s.insoleWord off = t.insoleWord off) ∧
  ∀ (s : State) (who : Requester) (v h : Word), who ≠ .firmware → s.busWrite who Reg.RED_ALIVE v = none ∧
    (s.vampOn = true → exec (.registerWrite who (BitVec.ofNat 32 Reg.RED_ALIVE) 4 v h) s =
      .next (s.emit (.errorResponse Reg.RED_ALIVE)))

/-- A plain write (R13): a write-1-to-clear bit written 1 clears, a writable bit takes the value written, a bit of
neither kind stays, and no other register changes; a write-1-to-clear bit that the hardware sets in the same cycle
stays, whatever is written (R14). -/
def Obligations.PlainWriteFollowsAccessCodes : Prop :=
  ∀ (s : State) (a : Nat) (v : Word) (b : Nat), s.wf → b < 32 →
    (getBit (regRow a).w1c b = true → getBit (regRow a).rw b = false → getBit (regRow a).rwl b = false →
      getBit v b = true → (s.plainWrite a v).bit a b = false) ∧
    (getBit (regRow a).w1c b = true → getBit (regRow a).rw b = false → getBit (regRow a).rwl b = false →
      getBit v b = false → (s.plainWrite a v).bit a b = s.bit a b) ∧
    (getBit (regRow a).rw b = true → getBit (regRow a).w1c b = false →
      (s.plainWrite a v).bit a b = getBit v b) ∧
    (getBit (regRow a).rw b = false → getBit (regRow a).rwl b = false → getBit (regRow a).w1c b = false →
      getBit (regRow a).w1s b = false → (s.plainWrite a v).bit a b = s.bit a b) ∧
    (∀ r, r ≠ a → (s.plainWrite a v).rd r = s.rd r) ∧ (s.plainWrite a v).gsram = s.gsram ∧
    ∀ h : Word, getBit h b = true → getBit (regRow a).w1c b = true → getBit (regRow a).rw b = false →
      getBit (regRow a).rwl b = false → (s.plainWrite a (setWins a v h)).bit a b = s.bit a b

/-- The VampSole link (R20 to R22, R212): each direction carries its flits by their order, the cross-check before
register traffic and the conversion stream towards the Vamp only. A good flit is taken and the sequence number counts
modulo 16; a bad flit of the stream is passed over; any other bad flit counts, the fourth takes the link down; a
retrained link starts both directions at sequence 0 and sends the CLOSE bits again. -/
def Obligations.VampSoleLink : Prop :=
  (∀ (s : State) (sole : Bool) (cls seq fails cross : Nat), s.vampOn = true → s.links.vsUp = true →
    s.links.lane sole = (seq, fails, cross) → (cls ≠ 0 ∨ sole = false) → (cls < 2 ∨ cross = 0) →
    exec (.vsFlitReceive sole cls seq true) s =
      .next { s with links := s.links.setLane sole ((seq + 1) % 16) 0 (if cls = 1 then cross - 1 else cross) } ∧
    ∀ (n : Nat) (ok : Bool), ok = false ∨ n ≠ seq →
      (cls = 0 → exec (.vsFlitReceive sole cls n ok) s =
        .next { s with links := s.links.setLane sole ((seq + 1) % 16) fails cross }) ∧
      (cls ≠ 0 → fails < 3 → exec (.vsFlitReceive sole cls n ok) s =
        .next { s with links := s.links.setLane sole seq (fails + 1) cross }) ∧
      (cls ≠ 0 → 3 ≤ fails → exec (.vsFlitReceive sole cls n ok) s = .next (s.vsDown 0))) ∧
  (∀ (s : State) (sole : Bool) (cls n : Nat) (ok : Bool), s.vampOn = false ∨ s.links.vsUp = false →
    exec (.vsFlitReceive sole cls n ok) s = .next s) ∧
  (∀ s : State, s.vampOn = true → exec .vsClockAbsent s = .next (s.vsDown 1)) ∧
  ∀ s : State, s.vampOn = true → s.links.vsUp = false → ∃ u : State,
    u = { s with links := { s.links with vsUp := true, vsSeq := 0, soleSeq := 0, downSince := none } } ∧
    exec .vsLinkRetrained s = .next ((u.setClose (u.fld Reg.SAF_OUT_REQ 2 0)).endHold 20)

/-- The VampInsole link and the Insole's error correction (R19, R24, R455): a good transfer clears the count of
failures; the fourth failure in a row is a link error that ends the operation with an error response and, in a program,
leaves its area's content undefined; a corrected Insole read is counted, an uncorrectable one is reported, and answered
with an error response to every requester but firmware. -/
def Obligations.VampInsoleLink : Prop :=
  (∀ (s : State) (a : Word) (g : Bool), s.vampOn = true →
    exec (.viTransfer true a g none) s = .next { s with links := { s.links with viFails := 0 } }) ∧
  (∀ (s : State) (a : Word) (g : Bool), s.vampOn = true → s.links.viFails < 3 →
    exec (.viTransfer false a g none) s = .next { s with links := { s.links with viFails := s.links.viFails + 1 } }) ∧
  (∀ (s : State) (a : Word), s.vampOn = true → s.links.viFails = 3 → ∃ u : State,
    u = (({ s with links := { s.links with viFails := 0 } } : State).linkError 0 1).emit (.errorResponse a.toNat) ∧
    exec (.viTransfer false a false none) s = .next u ∧
    exec (.viTransfer false a true none) s = .next (u.spoil (insoleArea a.toNat))) ∧
  (∀ (s : State) (a : Word) (g : Bool) (k : Nat), s.vampOn = true → exec (.viTransfer true a g (some k)) s =
    .next (({ s with links := { s.links with viFails := 0 } } : State).retireSector k)) ∧
  (∀ (s : State) (a : Word), s.vampOn = true → 0x60000000 ≤ a.toNat → a.toNat < 0x64000000 →
    exec (.insoleEccError .firmware a false) s = .next (s.insoleEcc a.toNat) ∧
    (∀ who : Requester, exec (.insoleEccError who a true) s = .next (s.incFld Reg.MEM_INSOLE_INFO 31 8)) ∧
    ∀ who : Requester, who ≠ .firmware →
      exec (.insoleEccError who a false) s = .next ((s.insoleEcc a.toNat).emit (.errorResponse a.toNat))) ∧
  ∀ (s : State) (who : Requester) (a : Word) (b : Bool), a.toNat < 0x60000000 ∨ 0x64000000 ≤ a.toNat →
    exec (.insoleEccError who a b) s = .next s

/-- Events by command (R39, R45, R46): an event strobes; a write of EVT.COUNT_CLEAR clears the counters asked for, and
strobes of the same cycle count after it, in ascending source number (R42). -/
def Obligations.EventCommands : Prop :=
  (∀ (s : State) (src d : Nat), s.vampOn = true → src < 128 → exec (.eventStrobe src d) s = .next (s.strobe src d)) ∧
  (∀ (s : State) (src d : Nat), s.vampOn = false ∨ 128 ≤ src → exec (.eventStrobe src d) s = .next s) ∧
  (∀ (s : State) (v : Word), s.vampOn = true → exec (.evtQueueTailWrite v) s = .next (s.queueTail v)) ∧
  (∀ (s : State) (k : Nat) (bits : Word), s.vampOn = true → k < 4 →
    exec (.evtCountClear k bits []) s = .next (s.countClear k bits)) ∧
  ∀ (s : State) (k src d : Nat) (bits : Word), s.vampOn = true → k < 4 → src < 128 →
    exec (.evtCountClear k bits [(src, d)]) s = .next ((s.countClear k bits).strobe src d) ∧
    ∀ src2 d2 : Nat, src < src2 → src2 < 128 → ∃ t : State, t = ((s.countClear k bits).strobe src d).strobe src2 d2 ∧
      exec (.evtCountClear k bits [(src, d), (src2, d2)]) s = .next t ∧
      exec (.evtCountClear k bits [(src2, d2), (src, d)]) s = .next t

/-- EVT.COUNT_CLEAR (R46): the counters of the sources asked for read 0 and every other counter of the 128 stays. -/
def Obligations.CountClearClearsWhatIsAsked : Prop :=
  ∀ (s : State) (k : Nat) (bits : Word) (src : Nat), s.wf → k < 4 → src < 128 →
    (s.countClear k bits).fld (Reg.EVT_COUNT (src / 4)) (8 * (src % 4) + 7) (8 * (src % 4)) =
      if src / 32 = k ∧ getBit bits (src % 32) = true then 0
      else s.fld (Reg.EVT_COUNT (src / 4)) (8 * (src % 4) + 7) (8 * (src % 4))

/-! Tether. -/

/-- The slots of the chain (R54, R57, R61, R87): a slot leaves on both ports; what arrives is taken by the port it
arrives on, an alarm pair as an alarm slot; a break that has been located leaves its route for the next boundary. -/
def Obligations.TetherSlots : Prop :=
  (∀ s : State, s.chainOn = true →
    exec .heartbeatSlotSend s = .next ((s.emit (.tetherSlot 0 .hb)).emit (.tetherSlot 1 .hb))) ∧
  (∀ s : State, s.chainOn = false → exec .heartbeatSlotSend s = .next s) ∧
  (∀ (s : State) (p : Nat) (k : SlotKind), p < 2 → exec (.slotReceive p k) s = .next (s.slotArrives p k)) ∧
  (∀ (s : State) (p : Nat), p < 2 → exec (.alarmPairReceive p) s = .next (s.slotArrives p .alarm)) ∧
  (∀ s : State, s.vampOn = true → s.tth.locating = true →
    ∃ t : State, exec .breakLocateDone s = .next t ∧ t.tth.pendingRoute.isSome = true ∧ t.tth.locating = false) ∧
  ∀ s : State, s.tth.locating = false → exec .breakLocateDone s = .next s

/-- Lost heartbeats (R57, R58) and the end of an alarm tone (R61, R270): a port whose slots stop is lost, with its
flag and its event, and shows no slot while it is; with both receive taps lost channel 2 demands CHAIN_LOSS. -/
def Obligations.HeartbeatLoss : Prop :=
  (∀ (s : State) (p : Nat), s.wf → p < 2 → s.chainOn = true → (s.rxPair p).lost = false →
    ∃ t : State, exec (.hbLostTimeout p) s = .next t ∧ (t.rxPair p).lost = true ∧ t.bit (portStat p) 0 = true ∧
      t.fld (portStat p) 11 9 = 0 ∧ t.pend (if p = 0 then Src.TTH_PORTA_HB_LOST else Src.TTH_PORTB_HB_LOST) = true) ∧
  (∀ (s : State) (p : Nat), p < 2 → s.chainOn = true → (s.rxPair p).lost = true → exec (.hbLostTimeout p) s =
    .next ((s.setRxPair p { s.rxPair p with run := 0, tone := false }).setFld (portStat p) 11 9 0)) ∧
  (∀ (s : State) (p : Nat), s.chainOn = false → exec (.hbLostTimeout p) s = .next s) ∧
  (∀ (s : State) (p : Nat), p < 2 → s.mode ≠ .off → (s.tapPair (1 - p)).lost = false →
    exec (.soleHbLostTimeout p) s = .next (s.setTapPair p { s.tapPair p with lost := true, run := 0 })) ∧
  (∀ (s : State) (p : Nat), p < 2 → s.mode ≠ .off → (s.tapPair (1 - p)).lost = true →
    s.tth.chainLost = false → ∃ u : State, u.tth.chainLost = true ∧
      exec (.soleHbLostTimeout p) s = .next (u.find 2 true 9 0 0)) ∧
  (∀ (s : State) (f : Finding), s.vampOn = true → s.finding true 2 0 = some f → s.toneSilent = true → f.ackOpen = true →
    exec .toneClearTimeout s = .next (((((s.dropCause true 2).restChan 1).restChan 2).act 1).act 2)) ∧
  ∀ (s : State) (f : Finding), s.vampOn = true → s.finding true 2 0 = some f → s.toneSilent = true → f.ackOpen = false →
    exec .toneClearTimeout s = .next ((s.unfind 1 true 2 0).unfind 2 true 2 0)

/-- Tether frames (R50, R52, R53, R68, R82): what comes in is a line of code groups, from which the receiver takes its
frames. The code groups of a frame, from either disparity, are that frame again where it has at most 68 bytes and a
right CRC; with a wrong one it is discarded with reason 2, and a longer one with reason 4 at its 69th byte. A command
that has passed the ring is taken as its return; a reply is taken from the node it names. -/
def Obligations.TetherFrames : Prop :=
  (∀ (s : State) (p : Nat) (l : List (Option Nat)) (r : List Nat), p < 2 → s.chainOn = true →
    exec (.tetherFrameReceive p l r) s = .next (s.lineEnds p r (lineFrames chainLine l))) ∧
  (∀ (s : State) (p : Nat) (l : List (Option Nat)) (r : List Nat), s.chainOn = false ∨ 2 ≤ p →
    exec (.tetherFrameReceive p l r) s = .next s) ∧
  (∀ (rd : Bool) (f : Bytes), f.length ≤ 68 → lineFrames chainLine (frameGroups rd f) =
    if crcRight f = true then [.good f] else [.discard 2 f]) ∧
  (∀ (rd : Bool) (f : Bytes), 68 < f.length → lineFrames chainLine (frameGroups rd f) = [.discard 4 (f.take 69)]) ∧
  ∀ (s : State) (p rt : Nat) (rd : Bool) (f : Bytes) (n op q : Nat), p < 2 → s.chainOn = true → f.length ≤ 68 →
    crcRight f = true → n = fieldBE f 0 2 / 1024 → op = fieldBE f 0 2 / 16 % 64 → q = fieldBE f 0 2 % 16 →
    (op < 0x20 → exec (.tetherFrameReceive p (frameGroups rd f) [rt]) s = .next (s.commandBack p n op rt)) ∧
    (0x20 ≤ op → n ≠ 0 → n ≤ 48 → s.nodeState n ≠ 0 → exec (.tetherFrameReceive p (frameGroups rd f) [rt]) s =
      .next (s.replyFrom n p op q (slice f 2 (f.length - 4)) rt).pump) ∧
    (0x20 ≤ op → 48 < n → exec (.tetherFrameReceive p (frameGroups rd f) [rt]) s = .next s)

/-- Nodes that do not answer (R69, R88): a reply that stays away is asked for again, and the chain's waiting commands
follow; a node that no port reaches is marked 3, strobed and demanded UNREACHABLE by channel 1; slow sweeps are made up
for by rollcalls. -/
def Obligations.SilentNodes : Prop :=
  (∀ (s : State) (n : Nat) (r : OpenRecord), n ≠ 0 → n ≤ 48 → s.chainOn = true → s.swp.opened = some r →
    s.nodeState n = 1 → r.blocks.any (fun b => b.1 == n) = false → (s.node n).wait = none →
    exec (.tetherReplyTimeout n) s = .next (s.reread r n).pump) ∧
  (∀ (s : State) (n : Nat) (w : Outstanding), n ≠ 0 → n ≤ 48 → s.chainOn = true → s.swp.opened = none →
    (s.node n).wait = some w → w.op ≠ 4 → exec (.tetherReplyTimeout n) s = .next (s.retry n w).pump) ∧
  (∀ s : State, s.chainOn = true → s.tth.identOut = true → exec (.tetherReplyTimeout 0) s = .next s.loopEnd) ∧
  (∀ (s : State) (n : Nat), n ≠ 0 → n ≤ s.nodeCount → s.vampOn = true → s.nodeState n = 1 → s.tth.enumerating = false →
    ∃ u : State, exec (.nodeUnreachableTimeout n) s =
      .next ((u.strobe Src.TTH_NODE_CHANGE (3 * 2 ^ 8 + n)).find 1 true 10 n n).placeRestarts) ∧
  (∀ (s : State) (n : Nat), s.nodeState n ≠ 1 → exec (.nodeUnreachableTimeout n) s = .next s) ∧
  (∀ s : State, s.chainOn = true → s.tth.enumerating = false ∨ s.tth.heal = true → 1000000 < s.sweepPeriod →
    exec .reachabilityRollcall s = .next s.rollcall) ∧
  ∀ s : State, s.sweepPeriod ≤ 1000000 → exec .reachabilityRollcall s = .next s

/-- Enumeration, healing and calibration (R80 to R83, R89). ENUM_REQ on a chain that runs starts the full form: the
nodes are released, the first loop goes out, and ENUM stands until the end. RECAL and the calibration timer start a
calibration, where no other runs and no enumeration does. The healing of a ring that was broken starts the heal form. An
enumeration whose loops are done ends: it is over, TTH_ENUM_DONE is strobed and ENUM falls. A calibration whose echoes
are all back ends with the delays it measured, the delay D of the next boundary among them. -/
def Obligations.EnumerationAndCalibration : Prop :=
  (∀ s : State, s.wf → s.chainOn = true → s.tth.enumerating = false ∨ s.tth.heal = true → ∃ t : State,
    exec .tthEnumReq s = .next t ∧ t.tth.enumerating = true ∧ t.tth.heal = false ∧ t.tth.calibrating = false ∧
    t.tth.loop = 1 ∧ t.tth.loopA = 0 ∧ t.tth.trips = []) ∧
  (∀ s : State, s.chainOn = true → s.tth.enumerating = true → s.tth.heal = false →
    exec .tthEnumReq s = .next (s.setBit Reg.TTH_CTRL 0 true)) ∧
  (∀ s : State, s.chainOn = false → exec .tthEnumReq s = .next s ∧ exec .tthRecalReq s = .next s ∧
    exec .calibrationTimer s = .next s) ∧
  (∀ s : State, s.wf → s.chainOn = true → s.tth.calibrating = false → s.tth.enumerating = false → ∃ t u : State,
    exec .tthRecalReq s = .next t ∧ t.tth.calibrating = true ∧ t.bit Reg.TTH_CTRL 1 = true ∧
    exec .calibrationTimer s = .next u ∧ u.tth.calibrating = true ∧ u.tth.enumerating = false ∧ u.regs = s.regs) ∧
  (∀ s : State, s.chainOn = true → s.tth.enumerating = false → s.tth.broken = true → s.relayNow = false →
    ∃ t : State, exec .ringHealed s = .next t ∧ t.tth.enumerating = true ∧ t.tth.heal = true ∧ t.tth.loop = 1 ∧
      t.tth.calibrating = false) ∧
  (∀ s : State, s.tth.broken = false → exec .ringHealed s = .next s) ∧
  (∀ s : State, s.wf → s.vampOn = true → s.tth.enumerating = true → s.tth.loop = 0 → s.echoesLeft = false →
    ∃ t : State, exec .enumerationDone s = .next t ∧ t.tth.enumerating = false ∧ t.tth.heal = false ∧
      t.tth.calibrating = false ∧ t.tth.enumWaiting = [] ∧ t.pend Src.TTH_ENUM_DONE = true ∧
      t.bit Reg.TTH_CTRL 0 = false) ∧
  (∀ s : State, s.tth.enumerating = false ∨ s.tth.loop ≠ 0 ∨ s.echoesLeft = true →
    exec .enumerationDone s = .next s) ∧
  (∀ s : State, s.wf → s.vampOn = true → s.tth.calibrating = true → s.echoesLeft = false → ∃ t : State,
    exec .calibrationDone s = .next t ∧ t = { s.setBit Reg.TTH_CTRL 1 false with tth := t.tth } ∧
    t.tth.calibrating = false ∧ t.tth.calAt = some s.tim.mono.sec ∧
    t.tth.pendingComp = s.addressedNodes.map (fun n => (n, s.measured n)) ∧
    t.tth.pendingD = some (delayOf ((s.addressedNodes.map s.measured).flatMap (fun c => [c.1, c.2]))
      (s.addressedNodes.map (fun n => (s.node n).settle)), (s.addressedNodes.map (fun n => (s.node n).settle)).foldl max 0)) ∧
  ∀ s : State, s.tth.calibrating = false ∨ s.echoesLeft = true → exec .calibrationDone s = .next s

/-- Node thresholds and wire tests (R77, R90, R91, R263): one node is tested at a time, with sinks off and 1 ms to
settle; with its three readings the lines are judged and the test is no longer due; a mark clears after its finding is
gone. -/
def Obligations.WireTests : Prop :=
  (∀ s : State, s.vampOn = true → exec .nodeThresholdReadback s =
    .next (s.activeNodes.foldl (fun (t : State) n => t.sendNode n 0x0A [1, 2]) s)) ∧
  (∀ (s : State) (n : Nat), n ≠ 0 → n ≤ s.nodeCount → s.nodeState n = 1 → s.tth.test = none → s.chainOn = true →
    exec (.wireTestStart n) s = .next (({ s with tth := { s.tth with
      test := some (n, []), testsDue := s.tth.testsDue.filter (· != n) } } : State).sendNode n 6
        (bytesLE 1 0 ++ [0] ++ bytesLE 2 1000))) ∧
  (∀ (s : State) (n : Nat) (x : Nat × List (Nat × Bytes)), s.tth.test = some x → exec (.wireTestStart n) s = .next s) ∧
  (∀ (s : State) (n : Nat) (got : List (Nat × Bytes)), s.vampOn = true → s.tth.test = some (n, got) → 3 ≤ got.length →
    ∃ t : State, exec .openWireTestDone s = .next t ∧ t.tth.test = none ∧ n ∉ t.tth.testsDue) ∧
  (∀ (s : State) (n : Nat) (got : List (Nat × Bytes)), s.tth.test = some (n, got) → got.length < 3 →
    exec .openWireTestDone s = .next s) ∧
  ∀ (s : State) (n i l c : Nat), s.vampOn = true → n ≠ 0 → n ≤ 48 → exec (.wireMarkClearTimeout n i l c) s =
    .next (({ s with tth := { s.tth with marks := s.tth.marks.filter (fun m => !(m.node == n && m.input == i &&
      m.line == l && m.cause == c && m.tested && m.absentAt.isSome)) } } : State).showWire n)



/-! Sweep and bursts. -/

/-- The sweep (R67, R94 to R103): the next instant is fixed once, at the points of a capture on those points; SAMPLE_AT
leaves both ports with the delay D + F of the fix, once no reply is due; the instant opens its record with the current
read for it, or with the last one, marked invalid, which ends a burst; and the deadline closes it with what it holds. -/
def Obligations.SweepCommands : Prop :=
  (∀ s : State, s.chainOn = true → s.tth.enumerating = false → s.swp.rebase = false → s.swp.fix = none →
    (s.burstState ≠ 3 → exec .sweepInstantFix s = .next { s with swp := { s.swp with
      fix := some (s.fixAt (s.chooseInstant s.nextNominal (s.nextNominal + s.fld Reg.SWP_CONFIG 7 0 * 1000)).1
        (s.chooseInstant s.nextNominal (s.nextNominal + s.fld Reg.SWP_CONFIG 7 0 * 1000)).2),
      nominal := s.nextNominal } }) ∧
    ∀ b : Burst, s.burstState = 3 → s.swp.burst = some b → ∃ i : Nat,
      i = nextBurstPoint b (s.swp.lastInstant.getD (b.p0.getD 0)) ∧ exec .sweepInstantFix s =
        .next { s with swp := { s.swp with fix := some (s.fixAt i (s.blindCause i)), nominal := i } }) ∧
  (∀ (s : State) (f : Fix), s.swp.fix = some f → s.tim.chain.total < f.instant → exec .sweepInstantFix s = .next s) ∧
  (∀ (s : State) (f : Fix), s.vampOn = true → s.swp.fix = some f →
    (s.replyDue = true → exec .sampleAtLaunch s = .next s) ∧
    (s.replyDue = false → ∃ u : State,
      u = s.sendBoth 3 (bytesLE 2 s.swp.nextId ++ bytesLE 2 (f.d + f.f) ++ bytesLE 1 allInputs ++ [0]) ∧
      exec .sampleAtLaunch s = .next { (u.sendTrain 0 s.swp.nextId).sendTrain 1 s.swp.nextId with
        swp := { s.swp with fix := none, launched := some f, reading := none } })) ∧
  (∀ s : State, s.swp.fix = none → exec .sampleAtLaunch s = .next s) ∧
  (∀ (s : State) (f : Fix) (i : Word), s.wf → s.vampOn = true → s.swp.launched = some f →
    s.swp.reading = some (some i) →
    ∃ t : State, exec .sampleInstant s = .next t ∧ t.swp.launched = none ∧ t.swp.reading = none ∧ t.swp.current = i ∧
      t.swp.opened = some { id := s.swp.nextId, instant := f.instant, cause := f.cause, current := i, invalid := false,
                            burst := s.burstState == 3, step := s.rateStep, changed := s.swp.rateChanged } ∧
      t.swp.nextId = (s.swp.nextId + 1) % 0x10000 ∧ t.rd Reg.SWP_LAST_CURRENT = i ∧
      t.rd Reg.SWP_LAST_S = BitVec.ofNat 32 (f.instant / 1000000000) ∧
      t.rd Reg.SWP_LAST_NS = BitVec.ofNat 32 (f.instant % 1000000000)) ∧
  (∀ (s : State) (f : Fix), s.vampOn = true → s.swp.launched = some f → s.swp.reading.bind id = none →
    ∃ u : State, exec .sampleInstant s = .next (u.burstAbort 5) ∧ u.swp.launched = none ∧
      u.swp.opened = some { id := s.swp.nextId, instant := f.instant, cause := f.cause, current := s.swp.current,
                            invalid := true, burst := s.burstState == 3, step := s.rateStep,
                            changed := s.swp.rateChanged }) ∧
  (∀ s : State, s.swp.launched = none → exec .sampleInstant s = .next s) ∧
  (∀ (s : State) (r : OpenRecord), s.vampOn = true → s.swp.opened = some r →
    exec .recordDeadline s = .next (s.recordClose r)) ∧
  ∀ s : State, s.swp.opened = none → exec .recordDeadline s = .next s

/-- Sweep rate (R112 to R114): 5 s below the threshold step the rate down and re-base the grid on the last instant; a
100 us window whose mean magnitude is at or above the threshold, or that holds no conversion, returns it to step 0 where
no burst runs. The 1 ms window counts its low milliseconds and joins the 1 s window. -/
def Obligations.SweepRate : Prop :=
  (∀ s : State, s.vampOn = true → 5000 ≤ s.swp.lowMs → s.burstRuns = false →
    s.rateStep < s.fld Reg.SWP_RATE 26 24 → s.rateStep < 4 →
    ∃ u : State, u = s.setRate (s.rateStep + 1) 0 ∧ exec .rateStepDown s = .next { u with swp := { u.swp with
      nominal := (u.swp.launched.map (fun f => f.instant)).getD (u.latestInstant + u.sweepPeriod),
      fix := none, rebase := false } }) ∧
  (∀ s : State, s.swp.lowMs < 5000 ∨ s.burstRuns = true ∨ s.fld Reg.SWP_RATE 26 24 ≤ s.rateStep ∨ 4 ≤ s.rateStep →
    exec .rateStepDown s = .next s) ∧
  (∀ s : State, s.vampOn = true → ∃ w : State, w = { s with swp := { s.swp with hundred := {} } } ∧
    (w.burstRuns = true ∨ s.lowCurrent (s.swp.hundred.means 2000) = true → exec .currentWindow100us s = .next w) ∧
    (w.burstRuns = false → s.lowCurrent (s.swp.hundred.means 2000) = false →
      (w.rateStep = 0 → exec .currentWindow100us s = .next w) ∧
      (w.rateStep ≠ 0 → ∃ u : State, u = w.setRate 0 1 ∧ exec .currentWindow100us s =
        .next { u with swp := { u.swp with
          nominal := (u.tim.chain.total + u.sampleDelay + 40000 + 999) / 1000 * 1000, fix := none,
          rebase := u.swp.opened.isSome || u.swp.launched.isSome } }))) ∧
  ∀ s : State, s.vampOn = true → ∃ (low : Bool) (u : State), low = s.lowCurrent (s.swp.ms.means 20000) ∧
    exec .currentWindow1ms s = .next (u.secondStep s.swp.ms).burstCurrents ∧
    u = { s with swp := u.swp, est := { s.est with anchorArmed := s.est.anchorArmed || !low } } ∧ u.swp.ms = {} ∧
    u.swp.restSince = (if low = true then some (s.swp.restSince.getD s.monoNs) else none) ∧
    u.swp.lowMs = (if s.burstRuns = true then s.swp.lowMs else if low = true then s.swp.lowMs + 1 else 0)

/-- Bursts (R118 to R126): the timers ask unless their interval is 0, START and START_SEQ ask at once, ABORT aborts
with reason 8; a burst starts when its conditions hold and takes the next BURST_ID, is refused after its deferral,
captures from state 2 after its lead-in, reads out from state 3 with all 4096 points unless more than 41 of them are
noisy, and computes its bins from state 5. -/
def Obligations.BurstCommands : Prop :=
  (∀ s : State, s.vampOn = true →
    exec .swpBurstReq s = .next ((s.setBit Reg.SWP_CTRL 0 true).requestBurst false) ∧
    exec .swpSeqReq s = .next ((s.setBit Reg.SWP_CTRL 1 true).requestBurst true) ∧
    exec .swpBurstAbort s = .next (s.burstAbort 8) ∧
    (s.fld Reg.SWP_BURST_CFG 15 0 ≠ 0 → exec .burstScheduleTimer s = .next (s.requestBurst false)) ∧
    (s.fld Reg.SWP_BURST_CFG 23 16 ≠ 0 → exec .burstSeqTimer s = .next (s.requestBurst true)) ∧
    (s.burstState = 1 → exec .burstDeferTimeout s = .next (s.burstEnd 2 (if s.v3Nodes.isEmpty then 9 else 6))) ∧
    (s.burstState = 4 → exec .burstReadoutDone s = .next (s.setBurstState 5))) ∧
  (∀ s : State, (s.fld Reg.SWP_BURST_CFG 15 0 = 0 → exec .burstScheduleTimer s = .next s) ∧
    (s.fld Reg.SWP_BURST_CFG 23 16 = 0 → exec .burstSeqTimer s = .next s) ∧
    (s.burstState ≠ 1 → exec .burstStart s = .next s ∧ exec .burstDeferTimeout s = .next s) ∧
    (s.burstState ≠ 4 → exec .burstReadoutDone s = .next s)) ∧
  (∀ (s : State) (band : Nat) (rest : List Nat), s.vampOn = true → s.swp.bands = band :: rest → s.burstState = 1 →
    s.burstReady band = true → ∃ (u : State) (b : Burst), exec .burstStart s = .next ((u.setBurstState 2).pertOn band) ∧
      u.swp.burst = some b ∧ b.band = band ∧ b.id = (s.fld Reg.SWP_BURST_ID 15 0 + 1) % 0x10000 ∧ u.swp.lowMs = 0) ∧
  (∀ (s : State) (b : Burst) (i gap : Nat), s.vampOn = true → s.swp.burst = some b → s.swp.lastInstant = some i →
    s.burstState = 2 → gap = (s.deadlineNs + s.sampleDelay + 4000 + 99999) / 100000 * 100000 →
    (s.replyDue = true ∨ i + gap < b.start + 4096 * bandPeriod b.band * 1000 →
      exec .burstCaptureLaunch s = .next s) ∧
    (s.replyDue = false → b.start + 4096 * bandPeriod b.band * 1000 ≤ i + gap → ∃ u : State,
      exec .burstCaptureLaunch s = .next (u.setBurstState 3) ∧ u.swp.fix = none ∧
      u.swp.burst = some { b with
        p0 := some (s.chooseInstant (i + gap) (i + gap + s.fld Reg.SWP_CONFIG 7 0 * 1000)).1,
        startMean := s.mean100ms })) ∧
  (∀ (s : State) (b : Burst), s.vampOn = true → s.swp.burst = some b → s.burstState = 3 →
    (b.points < 4096 → exec .burstCaptureEnd s = .next (s.burstAbort 5)) ∧
    (4096 ≤ b.points → ∃ (u v : State) (n : Nat),
      n = ((((s.judgePoints (4096 - b.judged)).setRate 0 3).swp.burst).getD b).noisy ∧
      (41 < n → exec .burstCaptureEnd s = .next (u.burstEnd 3 7)) ∧
      (n ≤ 41 → exec .burstCaptureEnd s = .next ((v.setBurstState 4).v3Nodes.foldl
        (fun t n => t.sendNode n 0x0B [2, 0, 0, 0, 0, 0, 0, 0, 0]) (v.setBurstState 4))))) ∧
  ∀ (s : State) (b : Burst), s.vampOn = true → s.swp.burst = some b → s.burstState = 5 →
    ∃ u : State, exec .burstBinsDone s = .next (u.burstEnd 0 0)

/-! Estimation. -/

/-- The layers (R133, R136, R160, R173, R174): a delivered record is followed by its results, limits, words and record
entries; a cell due for it runs its horizon layer on a unit that no higher layer needs, and is then no longer due; a
context that has been replayed up to the last sweep waits for the next boundary to join. -/
def Obligations.EstimationLayers : Prop :=
  (∀ (s : State) (us : List Nat), s.est.delivered = false → exec (.fastLayerComplete us) s = .next s) ∧
  (∀ (s : State) (us : List Nat) (head : Bytes) (blocks : List Bytes), s.vampOn = true → s.est.delivered = true →
    s.swp.record = some (head, blocks) → ∃ u : State, exec (.fastLayerComplete us) s =
      .next (((((u.writeResults (recId head)).writeLimits).writeWords blocks).recRecord head blocks).askBurst)) ∧
  (∀ (s : State) (cell : Nat), s.ctx cell = none → exec (.horizonLayerComplete cell) s = .next s ∧
    exec (.contextRebuildDone cell) s = .next s) ∧
  (∀ (s : State) (cell : Nat) (c : Ctx), s.vampOn = true → s.ctx cell = some c → c.horizonDue = true →
    c.replaying = false → c.started = true → s.unitLives c.unit = true → s.fastBusy c.unit = false →
    s.fullBusy c.unit = false → c.rebuilding = false ∨ c.fullDue = false → ∃ (u : State) (d : Ctx),
      exec (.horizonLayerComplete cell) s = .next ((u.putChecked cell d).showEst) ∧ d.horizonDue = false ∧
      d.rebuilding = false ∧ d.z = c.z ∧ u.regs = s.regs) ∧
  (∀ (s : State) (cell : Nat) (c : Ctx), s.ctx cell = some c → c.horizonDue = false ∨ s.fastBusy c.unit = true →
    exec (.horizonLayerComplete cell) s = .next s) ∧
  ∀ (s : State) (cell : Nat) (c : Ctx), s.vampOn = true → s.ctx cell = some c → c.replaying = true →
    c.joining = false → s.unitLives c.unit = true →
    (s.est.delivered = true → exec (.contextRebuildDone cell) s = .next s) ∧
    (s.est.delivered = false → exec (.contextRebuildDone cell) s =
      .next (((s.drawnBy (fastDraws * 1250)).putChecked cell { s.replayed cell c with joining := true }).showEst))

/-- Faults of the array (R131, R135, R383): an error in a unit's local memory makes the unit suspect; one in a
cluster's scratch memory is refilled, a second within 1 s makes the cluster's units suspect; a failed check of a
cluster's function unit, a region's fault and a microcode mismatch make their units suspect. -/
def Obligations.ArrayFaults : Prop :=
  (∀ (s : State) (u : Nat), s.vampOn = true → u < 288 → exec (.euLocalParityError u) s =
    .next ((s.arrayParity 0 u).suspectUnits [u] 2 0 0)) ∧
  (∀ (s : State) (r c : Nat), s.vampOn = true → clusterExists r c = true →
    s.est.scratchAt.find? (fun p => p.1 == (clusterUnits r c).headD 0) = none →
    ∃ v : State, exec (.clusterScratchParityError r c) s = .next (v.arrayParity 1 ((clusterUnits r c).headD 0)) ∧
      v = { s with est := v.est }) ∧
  (∀ (s : State) (r c : Nat) (p : Nat × Nat), s.vampOn = true → clusterExists r c = true →
    s.est.scratchAt.find? (fun p => p.1 == (clusterUnits r c).headD 0) = some p → s.monoNs ≤ p.2 + 1000000000 →
    ∃ v : State, exec (.clusterScratchParityError r c) s =
      .next ((v.arrayParity 2 ((clusterUnits r c).headD 0)).suspectUnits (clusterUnits r c) 3 2 1)) ∧
  (∀ (s : State) (r c : Nat), s.vampOn = true → clusterExists r c = true →
    exec (.sfuCheckFail r c) s = .next (s.suspectUnits (clusterUnits r c) 3 3 1)) ∧
  (∀ (s : State) (r : Nat), s.vampOn = true → clusterExists r 1 = true →
    exec (.regionFault r) s = .next (s.suspectUnits (regionUnits r) 4 4 2)) ∧
  (∀ (s : State) (u : Nat), s.vampOn = true → u < 288 → exec (.microcodeCheck u false) s =
    .next (s.suspectUnits [u] 2 1 0)) ∧
  ∀ (s : State) (u : Nat), exec (.microcodeCheck u true) s = .next s

/-- Placement and fidelity (R142 to R154): a plan that is due stands for the next sweep boundary, scores are kept for
every monitored cell, an overloaded unit is noted once, a raise plans one cell that was not raised in the last 10 s,
and a refresh rewrites both reports. -/
def Obligations.PlacementCommands : Prop :=
  (∀ s : State, s.vampOn = true → s.planDue = true → exec .placementPlan s = .next { s with est := { s.est with
    plan := some ({ s with est := { s.est with
      ctxs := s.est.ctxs.filter (fun p => s.est.monitored.contains p.1) } } : State).makePlan, replanAll := false } }) ∧
  (∀ s : State, s.planDue = false → exec .placementPlan s = .next s) ∧
  (∀ (s : State) (c : Nat), s.vampOn = true → exec (.checkpointTimer c) s = .next (s.checkpoint c)) ∧
  (∀ s : State, s.vampOn = true → ∃ t : State, exec .criticalityScore s = .next t ∧ t = { s with est := t.est } ∧
      t.est.crit = (s.est.monitored.map (fun c => (c, s.score c))).foldl (fun l p => tset 0 l p.1 p.2) []) ∧
  (∀ (s : State) (us : List Nat), s.vampOn = true → ∃ u : State, exec (.loadWindow us) s = .next u.showEst ∧ u =
    { s with est := u.est } ∧
    ∀ k, k ∈ u.est.overloaded ↔ k ∈ s.est.overloaded ∨ k ∈ us ∧ s.unitLives k = true ∧ (s.hostedBy k).isEmpty = false) ∧
  (∀ s : State, s.est.plan.isSome = true → exec .fidelityRaise s = .next s) ∧
  (∀ (s : State) (c : Nat), s.vampOn = true → s.est.plan = none → s.est.replanAll = false → s.est.leaving = [] →
    s.est.overloaded = [] →
    s.highest (s.est.monitored.filter (fun c =>
      !s.est.raised.any (fun p => p.1 == c && decide (s.tim.mono.sec < p.2 + 10)) && (s.raiseUnit c).isSome)) = some c →
    ∃ (t : State) (p : Plan), exec .fidelityRaise s = .next t ∧ t = { s with est := t.est } ∧ t.est.plan = some p ∧
      t.est.raised = s.est.raised.filter (fun q => q.1 != c) ++ [(c, s.tim.mono.sec)]) ∧
  ∀ (s : State) (l : List Nat), s.vampOn = true → ∃ u : State, exec (.reportRefresh l) s = .next u.rewriteReports ∧
    u.est = s.est

/-- Commands of EST.CMD (R155, R366): each starts as its opcode; the command in hand is done once, sets DONE, and
completes the operation of the command channel that asked for it with EST.CMD_STAT. -/
def Obligations.EstimationCommands : Prop :=
  (∀ s : State, s.vampOn = true → exec .estReadContext s = .next (s.estCommand 1) ∧ exec .estReadLocal s =
    .next (s.estCommand 2) ∧
    exec .estReplan s = .next (s.estCommand 3) ∧ exec .estCheckpointNow s = .next (s.estCommand 4) ∧
    exec .estSpareSelftest s = .next (s.estCommand 5)) ∧
  (∀ (s : State) (ok : Bool), s.est.running = none → exec (.estCommandDone ok) s = .next s) ∧
  ∀ (s : State) (op : Nat) (ok : Bool), s.vampOn = true → s.est.running = some op → op ≠ 5 → ∃ u : State,
    u = ((({ s with est := { s.est with running := none } } : State).estEffect op ok).setBit Reg.EST_CMD_STAT 2
      false).flag Reg.EST_CMD_STAT Reg.EST_CMD_COUNT 0 ∧
    (u.cmd.estOp = none → exec (.estCommandDone ok) s = .next u) ∧
    ∀ o, u.cmd.estOp = some o → exec (.estCommandDone ok) s =
      .next (({ u with cmd := { u.cmd with estOp := none } } : State).complete o St.OK
        (bytesLE 4 (u.rd Reg.EST_CMD_STAT).toNat))

/-- Anchors, balancing and the journal (R171, R172, R178, R182 to R186, R343, R453): an armed anchor at rest is used, ends
NO_ANCHOR and triggers a journal write; 24 h without one strobes; every active node is sent its sixteen duties; a
trigger waits for the next sweep boundary to copy its values, joins the held ones while a write is in hand, and a write
is committed, retried once and then abandoned; nothing goes on while VIN_LOW holds the Insole or another operation
runs, and a journal write goes before a recorder write begun earlier, not before a persistence write. -/
def Obligations.AnchorsAndJournal : Prop :=
  (∀ (s : State) (h : Bytes) (blocks : List Bytes), s.vampOn = true → s.est.anchorArmed = true →
    s.swp.restSince.isSome = true → s.swp.record = some (h, blocks) → ∃ u : State,
      exec .restAnchor s = .next (u.journalTrigger 2) ∧ u.est.anchorArmed = false ∧ u.est.noAnchor = false ∧
      u.est.noAnchorH = 0 ∧ u.est.lastAnchor = u.supply.opSeconds) ∧
  (∀ s : State, s.est.anchorArmed = false → exec .restAnchor s = .next s) ∧
  (∀ s : State, s.anchorHours < 24 → exec .noAnchorTimeout s = .next s) ∧
  (∀ s : State, s.wf → s.vampOn = true → 24 ≤ s.anchorHours → ∃ t : State, exec .noAnchorTimeout s = .next t ∧
    t.pend Src.EST_NO_ANCHOR = true ∧ t.est = { s.est with noAnchor := true, noAnchorH := s.anchorHours }) ∧
  (∀ s : State, s.vampOn = true → ∃ (top : Bool) (edge : Option (Nat × Ctx)), top = (s.cfgN 4 12 0 1 == 1) ∧
    edge = balanceEdge top (s.est.ctxs.filter (fun (p : Nat × Ctx) => s.mayBleed p.1)) ∧
    exec .balanceCompute s = .next (s.activeNodes.foldl (fun (t : State) n =>
      t.sendNode n 5 ((s.nodeDuties top edge n).map (fun d => BitVec.ofNat 8 d) ++ [30, 0])) s)) ∧
  (∀ s : State, s.vampOn = true → s.program = none → s.est.readOnly = false →
    (s.journalBusy = false → s.boundaryAhead = true →
      exec .journalPeriodicTimer s = .next { s with est := { s.est with copyDue := some 0, held := [] } } ∧
      exec .fullChargeEnd s = .next { s with est := { s.est with copyDue := some 1, held := [] } }) ∧
    (s.journalBusy = false → s.boundaryAhead = false → ∃ u v : State,
      u = { s with est := { s.est with copyDue := some 0, held := [] } } ∧
      v = { s with est := { s.est with copyDue := some 1, held := [] } } ∧
      exec .journalPeriodicTimer s = .next (u.journalCopy 0).persistTrigger ∧
      exec .fullChargeEnd s = .next (v.journalCopy 1).persistTrigger) ∧
    (s.journalBusy = true → s.est.held = [] →
      exec .journalPeriodicTimer s = .next { s with est := { s.est with held := [0] } } ∧
      exec .fullChargeEnd s = .next { s with est := { s.est with held := [1] } })) ∧
  (∀ s : State, s.vampOn = true → exec .journalPeriodicTimer s = .next (s.journalTrigger 0) ∧
    exec .fullChargeEnd s = .next (s.journalTrigger 1)) ∧
  (∀ (s : State) (r : JournalRec), s.vampOn = true → s.est.writing = some r → s.insoleTurn .journal = true →
    (s.spoilt 4 = false → exec (.journalWriteDone true) s = .next ((s.unspoil 4).journalCommit r)) ∧
    (s.est.retried = true →
      exec (.journalWriteDone false) s = .next ((s.unspoil 4).journalAbandon).journalResume) ∧
    (s.est.retried = false → ∃ u : State, u = s.unspoil 4 ∧
      exec (.journalWriteDone false) s = .next { u with est := { u.est with retried := true } })) ∧
  (∀ s : State, s.vampOn = true → s.insoleTurn .journalErase = true → ∃ u : State,
    exec .journalEraseDone s = .next u.journalResume ∧ u.est.erasing = false ∧
      (u.est.slotA = none ∨ u.est.slotB = none)) ∧
  (∀ s : State, (s.insoleTurn .journalErase = false → exec .journalEraseDone s = .next s) ∧
    (s.insoleTurn .persist = false → exec .persistWriteDone s = .next s) ∧
    ∀ ok, s.insoleTurn .journal = false → exec (.journalWriteDone ok) s = .next s) ∧
  (∀ (s : State) (cause : Nat), s.supply.insoleHold = false → s.est.writing = none →
    (s.links.insole = [.recorder] → s.recorder.writing.isSome = true →
      (s.journalCopy cause).insoleTurn .journal = true ∧ (s.journalCopy cause).insoleTurn .recorder = false) ∧
    (s.links.insole = [.persist] → s.prg.persistWriting.isSome = true →
      (s.journalCopy cause).insoleTurn .journal = false ∧ (s.journalCopy cause).insoleTurn .persist = true)) ∧
  ∀ s : State, s.vampOn = true → s.insoleTurn .persist = true → s.spoilt (2 + b2n (s.bit Reg.PRG_STATE 10)) = false →
    exec .persistWriteDone s = .next s.persistCommit.persistResume ∧
    ∀ (slot : Nat) (r : PersistRec), s.prg.persistWriting = some (slot, r) → s.prg.persistHeld = false →
      exec .persistWriteDone s = .next { s with prg := { s.prg with
        persist := s.prg.persist.filter (fun (x : Nat × PersistRec) => x.1 != slot) ++ [(slot, r)],
          persistWriting := none } }



/-! Control slots, pulse-width outputs and the PCS. -/

/-- The controller (R23, R192 to R197, R205, R207, R212, R219 to R223): a conversion's trimmed means enter the history
while the link is up, a lost channel keeping its raw value; triggers count events or are accepted, one within 1 us of
the last accepted is an overrun; accepted triggers wait in the order they came, and the oldest evaluates its slot first;
START, HALT and APPLY act on the slots of the bits written and COMMIT commits; a tuning run starts at the next run
number, or is refused with its reason. -/
def Obligations.ControllerCommands : Prop :=
  (∀ (s : State) (codes : List Int) (lost : Nat), s.vampOn = true → s.links.vsUp = true → ∃ t : State,
    exec (.adcConversionReceive codes lost) s = .next t ∧
    t.ctl.adcRaw = (List.range 8).map (fun ch =>
      if lost / 2 ^ ch % 2 = 1 then s.ctl.adcRaw.getD ch 0 else codes.getD ch 0) ∧
    t.ctl.adc = (List.range 8).map (fun ch => s.trim ch (t.ctl.adcRaw.getD ch 0)) :: s.ctl.adc.take 1023) ∧
  (∀ (s : State) (codes : List Int) (lost : Nat), s.vampOn = true → s.links.vsUp = false →
    exec (.adcConversionReceive codes lost) s = .next (s.safConversion 2 codes)) ∧
  (∀ (s : State) (n : Nat), s.running n = false ∨ s.trigSource n = 0 →
    exec (.slotTriggerEvent n) s = .next s) ∧
  (∀ (s : State) (n : Nat), s.vampOn = true → n < 16 → s.running n = true → s.trigSource n = 5 ∨ s.trigSource n = 6 →
    (s.tooEarly n = true → exec (.slotTriggerEvent n) s = .next (s.slotOverrun n)) ∧
    (s.tooEarly n = false → exec (.slotTriggerEvent n) s =
      .next ((s.setSlot n { s.slot n with lastTrig := some s.monoNs }).addTrig n 0))) ∧
  (∀ (s : State) (n : Nat), s.vampOn = true → n < 16 → s.running n = true → s.trigSource n ≠ 0 → s.trigSource n ≠ 5 →
    s.trigSource n ≠ 6 →
    ((s.slot n).events < s.fld (Reg.CTL_SLOT_TRIG n) 24 17 → exec (.slotTriggerEvent n) s =
      .next (s.setSlot n { s.slot n with events := (s.slot n).events + 1 })) ∧
    (s.fld (Reg.CTL_SLOT_TRIG n) 24 17 ≤ (s.slot n).events → exec (.slotTriggerEvent n) s =
      .next ((s.setSlot n { s.slot n with events := 0 }).addTrig n (s.fld (Reg.CTL_SLOT_TRIG n) 11 0)))) ∧
  (∀ (s : State) (n : Nat), s.waiting n = 0 → exec (.slotEvaluate n) s = .next s) ∧
  (∀ (s : State) (n : Nat) (p : Nat × Nat) (rest : List (Nat × Nat)), s.vampOn = true → n < 16 →
    s.ctl.trigs = p :: rest → ∃ u : State, u = { s with ctl := { s.ctl with trigs := rest } } ∧
    (p.2 = n → exec (.slotEvaluate n) s = .next (u.takeTrig n) ∧
      (u.slotRuns n = false → exec (.slotEvaluate n) s = .next u) ∧
      (u.slotRuns n = true → u.trigSource n ≠ 5 → u.trigSource n ≠ 6 → u.tooEarly n = true →
        exec (.slotEvaluate n) s = .next (u.slotOverrun n)) ∧
      (u.slotRuns n = true → u.links.vsUp = true → u.trigSource n = 5 ∨ u.trigSource n = 6 →
        exec (.slotEvaluate n) s = .next (u.evaluate n)) ∧
      (u.slotRuns n = true → u.links.vsUp = true → u.trigSource n ≠ 5 → u.trigSource n ≠ 6 → u.tooEarly n = false →
        exec (.slotEvaluate n) s =
          .next ((u.setSlot n { u.slot n with lastTrig := some u.monoNs }).evaluate n))) ∧
    (p.2 ≠ n → s.waiting n ≠ 0 → exec (.slotEvaluate n) s = .next ((u.takeTrig p.2).evaluateTo n rest))) ∧
  (∀ (s : State) (bits : Word), s.vampOn = true → exec (.ctlStart bits) s = .next (s.forSlots bits State.startSlot) ∧
    exec (.ctlHalt bits) s = .next (s.forSlots bits State.haltCommand) ∧
    exec (.ctlApply bits) s = .next (s.forSlots bits State.applySlot)) ∧
  (∀ (s : State) (v : Word), s.vampOn = true → getBit v 0 = true →
    exec (.ctlCommit v) s = .next { s with ctl := { s.ctl with committed := true } }) ∧
  (∀ (s : State) (v : Word), getBit v 0 = false → exec (.ctlCommit v) s = .next s) ∧
  (∀ s : State, s.bit Reg.CTL_AWL_CTRL 0 = true → exec .awlStart s = .next s) ∧
  (∀ s : State, s.wf → s.vampOn = true → s.bit Reg.CTL_AWL_CTRL 0 = false → s.awlBar = 0 → ∃ t : State,
    exec .awlStart s = .next t ∧
    t.bit Reg.CTL_AWL_CTRL 0 = true ∧ t.fld Reg.CTL_AWL_RUN 15 0 = (s.fld Reg.CTL_AWL_RUN 15 0 + 1) % 0x10000 ∧
    t.fld Reg.CTL_AWL_STAT 10 8 = if s.fld Reg.CTL_AWL_CFG 15 0 = 0 then 2 else 1) ∧
  (∀ s : State, s.wf → s.vampOn = true → s.bit Reg.CTL_AWL_CTRL 0 = false → s.awlBar ≠ 0 → ∃ t : State,
    exec .awlStart s = .next t ∧ t.pend Src.CTL_AWL_DONE = true ∧ t.bit Reg.CTL_AWL_CTRL 0 = false) ∧
  ∀ s : State, s.vampOn = true → exec .awlAbort s = .next (s.awlAbort 8)

/-- Pulse-width outputs and trips (R199 to R204, R213 to R215, R264): a running timebase takes its written period,
counts it, and sets the starts of its channels after their phases; mid-period reloads only a channel with UPDATE 1; the
trip pin and an armed comparator drive the pins low and latch; a quiet source releases its latch. -/
def Obligations.PulseWidthAndTrips : Prop :=
  (∀ (s : State) (tb : Nat), s.bit (Reg.PWM_TB_CFG tb) 31 = false → exec (.pwmPeriodStart tb) s = .next s) ∧
  (∀ (s : State) (tb : Nat), s.vampOn = true → tb < 4 → s.bit (Reg.PWM_TB_CFG tb) 31 = true →
    s.ctl.tbHold.find? (fun p => p.1 == tb) = none → ∃ (mine : Nat → Bool) (u t : State),
    mine = (fun c => s.tbOf c == tb && !s.complement c) ∧
    u = { s with ctl := { s.ctl with
      tbPeriod := tset 0x13880 s.ctl.tbPeriod tb (s.fld (Reg.PWM_TB_PERIOD tb) 23 0),
      tbHold := s.ctl.tbHold.filter (fun p => p.1 != tb),
      tbCount := tset 0 s.ctl.tbCount tb (tget 0 s.ctl.tbCount tb + 1),
      tbStart := tset 0 s.ctl.tbStart tb s.tim.chain.total,
      timed := s.ctl.timed.filter (fun (e : PwmEvent) => !(e.move == PwmMove.start && mine e.chan)) } } ∧
    t = ((u.schedule (((List.range 16).filter mine).map (fun c =>
      ({ tick := s.tickNow + s.fld (Reg.PWM_CH_PHASE c) 23 0 * s.prescale tb, chan := c, move := .start } :
        PwmEvent)))).raiseTrig 3 tb).pwmFire fireLimit ∧
    (s.bit (Reg.PWM_TB_CFG tb) 15 = false → exec (.pwmPeriodStart tb) s = .next t) ∧
    (s.bit (Reg.PWM_TB_CFG tb) 15 = true → s.fld (Reg.PWM_TB_CFG tb) 7 0 = 0 → exec (.pwmPeriodStart tb) s =
      .next (t.strobe Src.PWM_PERIOD (tb * 2 ^ 16 + (tget 0 s.ctl.tbCount tb + 1) % 0x10000)))) ∧
  (∀ (s : State) (n : Nat), s.vampOn = true → n < 16 → s.fld (Reg.PWM_CH_CFG n) 21 20 ≠ 1 ∨ s.complement n = true →
    exec (.pwmPeriodMid n) s = .next (s.raiseTrig 2 n)) ∧
  (∀ (s : State) (n : Nat), s.vampOn = true → n < 16 → s.fld (Reg.PWM_CH_CFG n) 21 20 = 1 → s.complement n = false →
    ((s.loadCmp n).pwmChan n).live = false → exec (.pwmPeriodMid n) s = .next ((s.loadCmp n).raiseTrig 2 n)) ∧
  (∀ s : State, s.vampOn = true → exec .tripPin s = .next ((s.pwmTrip 22 0).strobe Src.PWM_TRIP_PIN 0)) ∧
  (∀ (s : State) (c : Nat) (up : Bool), s.bit (Reg.SOLE_CMP_CFG c) 30 = false → s.bit (Reg.SOLE_CMP_CFG c) 31 = false →
    exec (.comparatorTrip c up) s = .next s) ∧
  (∀ (s : State) (c : Nat) (up : Bool), c < 4 → s.vampOn = true →
    s.bit (Reg.SOLE_CMP_CFG c) 30 = true ∨ s.bit (Reg.SOLE_CMP_CFG c) 31 = true →
    ∃ u : State, u = ((((s.flag Reg.SOLE_STAT Reg.SOLE_STAT_COUNT 2).soleLog 7 c).strobe Src.SOLE_COMPARATOR
        ((if up then 1 else 2) * 4 + c)).compTrip) ∧
      (u.bit (Reg.SOLE_CMP_CFG c) 31 = false → exec (.comparatorTrip c up) s = .next u) ∧
      (u.bit (Reg.SOLE_CMP_CFG c) 31 = true → exec (.comparatorTrip c up) s = .next (u.find 2 true 0 c c))) ∧
  (∀ s : State, s.wf → s.vampOn = true → ∀ v : Word, getBit v 0 = true → ∃ t : State,
    exec (.pwmTripClear v true false) s = .next t ∧ t.bit Reg.PWM_TRIP 22 = false ∧
      t.bit Reg.PWM_TRIP 23 = s.bit Reg.PWM_TRIP 23) ∧
  ∀ (s : State) (v : Word), s.vampOn = true → exec (.pwmTripClear v false false) s = .next s.syncHold

/-- The PCS link (R227 to R247): what comes in is a line of code groups. A frame of 32 bytes with a right CRC and
FORMAT 1 is a request, counted and discarded where it comes too early, else taken and answered by its SEQ; any other
frame is counted and discarded with its reason. Alignment shows in the status; LT_COMMIT and PERT_CTRL are the
firmware's; a missed request and a lost link are counted and strobe, the loss with main pairs closed a Drogue cause; the
mean current of each 100 ms window is compared with the requests' mean at 5 % of rated current; a dispatch is applied
with its lease, and its expiry acts as DISP_EXPIRY says. -/
def Obligations.PcsExchange : Prop :=
  (∀ (s : State) (l : List (Option Nat)), (s.vampOn = true → s.mode ≠ .standby → exec (.pcsRequestReceive l) s =
      .next ((lineFrames pcsLine l).foldl State.pcsFrameEnd s)) ∧
    (s.mode = .standby → exec (.pcsRequestReceive l) s = .next s)) ∧
  (∀ (s : State) (rd : Bool) (f : Bytes), s.vampOn = true → s.mode ≠ .standby → ∃ u : State,
    u = (s.flag Reg.PCS_STAT Reg.PCS_STAT_COUNT0 0).incFld Reg.PCS_ERR 15 0 ∧
    (32 < f.length → exec (.pcsRequestReceive (frameGroups rd f)) s = .next (u.pcsDiscard (f.take 33) 4)) ∧
    (f.length < 32 → exec (.pcsRequestReceive (frameGroups rd f)) s = .next (u.pcsDiscard f 4)) ∧
    (f.length = 32 → crcRight f = false → exec (.pcsRequestReceive (frameGroups rd f)) s = .next (u.pcsDiscard f 2)) ∧
    (f.length = 32 → crcRight f = true → fieldLE f 0 1 ≠ 1 →
      exec (.pcsRequestReceive (frameGroups rd f)) s = .next (u.pcsDiscard f 7)) ∧
    (f.length = 32 → crcRight f = true → fieldLE f 0 1 = 1 → s.pcsEarly = true →
      exec (.pcsRequestReceive (frameGroups rd f)) s =
        .next (((s.flag Reg.PCS_STAT Reg.PCS_STAT_COUNT0 3).incFld Reg.PCS_ERR2 15 0).pcsDiscard f 0)) ∧
    (f.length = 32 → crcRight f = true → fieldLE f 0 1 = 1 → s.pcsEarly = false →
      exec (.pcsRequestReceive (frameGroups rd f)) s = .next ((s.pcsTake f).pcsAnswer (fieldLE f 1 1)))) ∧
  (∀ s : State, s.wf → s.vampOn = true → ∃ t u : State, exec .pcsRxAlign s = .next t ∧ t.bit Reg.PCS_STAT 8 = true ∧
    exec .pcsRxLinkDown s = .next u ∧ u.bit Reg.PCS_STAT 8 = false) ∧
  (∀ (s : State) (v : Word) (who : Requester), s.vampOn = true → who ≠ .firmware →
    exec (.pcsLtCommit v who) s = .next (s.emit (.errorResponse Reg.PCS_LT_COMMIT)) ∧
    exec (.pcsPertEnable v who) s = .next (s.emit (.errorResponse Reg.PCS_PERT_CTRL))) ∧
  (∀ (s : State) (v : Word), (s.vampOn = true → getBit v 0 = true → exec (.pcsLtCommit v .firmware) s =
    .next s.ltCommit) ∧
    (getBit v 0 = false → exec (.pcsLtCommit v .firmware) s = .next s)) ∧
  (∀ (s : State) (v : Word), s.wf → s.vampOn = true → ∃ t : State, exec (.pcsPertEnable v .firmware) s = .next t ∧
    t.bit Reg.PCS_PERT_CTRL 0 = getBit v 0 ∧ (getBit v 0 = true → t.pcs.pertStart = s.tim.chain.total)) ∧
  (∀ s : State, s.wf → s.vampOn = true → ∃ t : State, exec .limitStale s = .next t ∧ t.bit Reg.PCS_STAT 11 = true ∧
    t.bit Reg.PCS_STAT 4 = true) ∧
  (∀ s : State, s.pcs.lossStands = true ∨ s.rd Reg.PCS_CYCLE = 0 → exec .pcsRequestMissedTimeout s = .next s) ∧
  (∀ s : State, s.wf → s.vampOn = true → s.pcs.lossStands = false → s.rd Reg.PCS_CYCLE ≠ 0 → ∃ t : State,
    exec .pcsRequestMissedTimeout s = .next t ∧ t.pend Src.PCS_REQUEST_MISSED = true ∧
    t.pcs.missedRun = satInc s.pcs.missedRun 0xFFFF ∧
    t.fld Reg.PCS_ERR 31 16 = min 0xFFFF (s.fld Reg.PCS_ERR 31 16 + 1)) ∧
  (∀ s : State, s.pcs.lossStands = true ∨ s.pcs.readyAt = none → exec .pcsLinkLossTimeout s = .next s) ∧
  (∀ s : State, s.wf → s.vampOn = true → s.pcs.lossStands = false → s.pcs.readyAt.isSome = true → ∃ u : State,
    u.pend Src.PCS_LINK_LOSS = true ∧ u.rd Reg.PCS_CYCLE = 0 ∧ u.bit Reg.PCS_STAT 9 = false ∧
    u.pcs = { s.pcs with lossStands := true, lossClosed := s.mainClosed, valid := 0, missedRun := 0 } ∧
    exec .pcsLinkLossTimeout s = .next (if s.mainClosed = true then u.find 1 false 1 0 0 else u)) ∧
  (∀ s : State, s.vampOn = true → ∃ u : State,
    u = { s with pcs := { s.pcs with measSum := 0, measCount := 0 }, swp := { s.swp with tenth := {} } } ∧
    (s.swp.tenth.means 2000000 = none ∨ s.pcs.measCount = 0 → exec .pcsCurrentCompare s = .next u) ∧
    ∀ m : Word × Word, s.swp.tenth.means 2000000 = some m → s.pcs.measCount ≠ 0 → ∃ far : Bool,
      far = f32Lt (s.ratedPart 50) (f32Abs (f32Sub m.1 (f32Div s.pcs.measSum (f32OfInteger s.pcs.measCount)))) ∧
      (far = false → exec .pcsCurrentCompare s = .next u) ∧
      (far = true → s.wf → ∃ t : State, exec .pcsCurrentCompare s = .next t ∧ t.pend Src.PCS_REQUEST = true ∧
        t.bit Reg.PCS_STAT 5 = true ∧ t.pcs.measCount = 0)) ∧
  (∀ s : State, s.wf → s.vampOn = true → s.dispatchBar (s.rd Reg.PCS_DISP_CHG) (s.rd Reg.PCS_DISP_DIS) (s.fld Reg.PCS_DISP_LEASE 15 0) = 0 →
    ∃ t : State, exec .pcsDispatchApply s = .next t ∧ t.pcs.capChg = some (s.rd Reg.PCS_DISP_CHG) ∧
      t.pcs.capDis = some (s.rd Reg.PCS_DISP_DIS) ∧ t.pcs.leaseMs = s.fld Reg.PCS_DISP_LEASE 15 0 ∧
      t.bit Reg.PCS_DISP_CTRL 0 = false ∧ t.pend Src.PCS_DISPATCH = true) ∧
  (∀ s : State, s.pcs.leaseEnd = none → exec .dispatchLeaseExpiry s = .next s) ∧
  ∀ s : State, s.wf → s.vampOn = true → s.pcs.leaseEnd.isSome = true → ∃ t : State, exec .dispatchLeaseExpiry s =
    .next t ∧
    t.pcs.setpoint = none ∧ t.pcs.leaseEnd = none ∧ t.pend Src.PCS_DISPATCH = true ∧
    (s.fld Reg.PCS_CONFIG 19 18 = 0 → t.pcs.capChg = none ∧ t.pcs.capDis = none) ∧
    (s.fld Reg.PCS_CONFIG 19 18 = 2 → t.pcs.capChg = some f32Zero ∧ t.pcs.capDis = some f32Zero)


/-! Safety channels and the Welt layer. -/

/-- Cycles, cross-check and currents of the two safety channels (R25, R252, R253, R259 to R262, R264, R265, R267,
R272): a cycle takes the read-back, adopts, judges, acts, sends and toggles LIVE; the other channel's last record
arrives while the VS link is up; a cause latched in one channel only for 4 ms, a silent channel 2, late or early LIVE
edges, the end of the Drogue, an unknown or slow mean and the shunt wait have the effects stated. A channel that is off
does nothing. -/
def Obligations.SafetyCycles : Prop :=
  (∀ (s : State) (rb : Nat), s.safOn 1 = true → ∃ u : State,
    u = (((((s.takeReadback 1 rb).adopt 1).judgeInputs 1).checkRecords.weltCycle).act 1).sendCross 1 ∧
    exec (.safetyCoreCycle rb) s = .next { u with
      welt := { u.welt with image := u.weltImage }, saf := { u.saf with live := !u.saf.live } }) ∧
  (∀ (s : State) (rb by2 : Nat), s.safOn 2 = true → ∃ u v : State,
    u = ((({ s with saf := { s.saf with scans := s.saf.scans + 1 } } : State).takeReadback 2 rb).adopt 2).judgeInputs 2 ∧
    v = (List.range 4).foldl (fun t c => if by2 / 2 ^ c % 2 = 1 then t else t.unfind 2 true 0 c) u ∧
    exec (.ch2Scan rb by2) s = .next (v.act 2)) ∧
  (∀ s : State, s.safOn 2 = true → exec .ch2CrossCheckSend s = .next (s.sendCross 2)) ∧
  (∀ (s : State) (rb by2 i : Nat), s.safOn 1 = false → exec (.safetyCoreCycle rb) s = .next s ∧
    (s.safOn 2 = false → exec (.ch2Scan rb by2) s = .next s ∧ exec .ch2CrossCheckSend s = .next s ∧
      exec (.liveEdgeReceive i) s = .next s ∧ exec (.liveTimeout i) s = .next s)) ∧
  (∀ (s : State) (r : Cross), s.saf.ch1.tx = some r → s.safOn 2 = true → s.links.vsUp = true →
    exec (.crossCheckReceive 2) s =
      .next (({ s with links := { s.links with crossSole := 0 } } : State).setSafChan 2 { s.safChan 2 with
        rx := some r, rxAt := some s.saf.soleNs, permitted := r.permit })) ∧
  (∀ (s : State) (r : Cross), s.saf.ch2.tx = some r → s.safOn 1 = true → s.links.vsUp = true → ∃ u : State,
    u = ({ s with links := { s.links with crossVamp := 0 } } : State).setSafChan 1 { s.safChan 1 with
      rx := some r, rxAt := some s.saf.soleNs, permitted := r.permit } ∧
    (r.crc = none → exec (.crossCheckReceive 1) s = .next (u.unfind 1 false 6 0)) ∧
    ∀ w : Word, r.crc = some w →
      exec (.crossCheckReceive 1) s = .next ((u.wr Reg.SAF_PARAM_SOLE_CRC w).unfind 1 false 6 0)) ∧
  (∀ (s : State) (ch : Nat), s.links.vsUp = false → exec (.crossCheckReceive ch) s = .next s) ∧
  (∀ s : State, (∃ f ∈ s.saf.findings, f.exempt = false ∧ f.lat1 ≠ f.lat2) → exec .channelDisagreeTimeout s =
    .next ((((s.find 1 false 5 0 0).find 2 false 5 0 0).unfind 1 false 5 0).unfind 2 false 5 0)) ∧
  (∀ s : State, (∀ f ∈ s.saf.findings, f.exempt = false → f.lat1 = f.lat2) →
    exec .channelDisagreeTimeout s = .next s) ∧
  (∀ s : State, s.vampOn = true → exec .ch2SilentTimeout s = .next (s.find 1 false 6 0 0)) ∧
  (∀ (s : State) (i : Nat), s.safOn 2 = true → ∃ u : State,
    u = ({ s with saf := { s.saf with liveAt := some s.saf.soleNs } } : State).setFld Reg.SOLE_LIVE 10 0 (min 0x7FF i) ∧
    (i < 125 → exec (.liveEdgeReceive i) s = .next (u.loseLiveness 1)) ∧
    (125 ≤ i → i ≤ 1000 → s.links.vsUp = true → u.fresh (u.safChan 2) = true →
      exec (.liveEdgeReceive i) s = .next (u.unfind 2 false 2 0)) ∧
    (125 ≤ i → 1000 < i ∨ s.links.vsUp = false → exec (.liveEdgeReceive i) s = .next u)) ∧
  (∀ (s : State) (cause : Nat), s.safOn 2 = true → exec (.liveTimeout cause) s = .next (s.loseLiveness cause)) ∧
  (∀ (s : State) (ch : Nat), isChannel ch = true → s.safOn ch = true →
    exec (.drogueTimerExpiry ch) s = .next ((s.endDrogue ch 1).act ch)) ∧
  (∀ (s : State) (ch : Nat), isChannel ch = true → s.safOn ch = false → exec (.drogueTimerExpiry ch) s = .next s ∧
    exec (.safetyCurrentMean1ms ch) s = .next s ∧ exec (.safetyCurrentMean100ms ch) s = .next s) ∧
  (∀ (s : State) (ch : Nat), isChannel ch = true → s.safOn ch = true →
    ∃ (a b : Option Word) (c : SafChan) (u x w : State) (slow : Bool),
    a = (if (s.safChan ch).ms.count = 20000 then some (s.sensorMean 0 20000 (s.safChan ch).ms.sumA) else none) ∧
    b = (if (s.safChan ch).ms.count = 20000 then some (s.sensorMean 1 20000 (s.safChan ch).ms.sumB) else none) ∧
    slow = s.slowOver ({ s.safChan ch with meanA := a, meanB := b, ms := {} } : SafChan).current ∧
    c = { s.safChan ch with meanA := a, meanB := b, ms := {},
                            slowMs := if slow = true then (s.safChan ch).slowMs + 1 else 0 } ∧
    u = s.setSafChan ch c ∧
    x = (if ch = 1 then (u.wr Reg.SAF_CURRENT_A (a.getD (u.rd Reg.SAF_CURRENT_A))).wr Reg.SAF_CURRENT_B
      (b.getD (u.rd Reg.SAF_CURRENT_B)) else u) ∧
    w = (if slow = true then x else x.unfind ch true 1 0) ∧
    (c.drogueAt = none → (w.safChan ch).shuntAt = none → exec (.safetyCurrentMean1ms ch) s = .next w) ∧
    (c.drogueAt.isSome = true → w.nearZero c.current = true →
      ∃ v : State, v = (w.endDrogue ch 2).act ch ∧ ((v.safChan ch).shuntAt = none →
        exec (.safetyCurrentMean1ms ch) s = .next v))) ∧
  (∀ (s : State) (ch : Nat), isChannel ch = true → s.safOn ch = true → ∃ (u : State) (d : Word),
    u = s.setSafChan ch { s.safChan ch with hundred := {} } ∧
    d = f32Abs (f32Sub (u.sensorMean 0 2000000 (s.safChan ch).hundred.sumA)
      (u.sensorMean 1 2000000 (s.safChan ch).hundred.sumB)) ∧
    ((s.safChan ch).hundred.count ≠ 2000000 → exec (.safetyCurrentMean100ms ch) s = .next u) ∧
    ((s.safChan ch).hundred.count = 2000000 → exec (.safetyCurrentMean100ms ch) s = .next (u.judge ch false 4 0 0
      (f32Lt (f32Div (f32Mul (u.cfgW 10 10 0 0x40A00000) (u.cfgW 10 5 0 0)) (f32OfInteger 100)) d)))) ∧
  (∀ (s : State) (ch : Nat), isChannel ch = true → s.slowOver (s.safChan ch).current = true →
    s.cfgN 10 9 0 100 ≤ (s.safChan ch).slowMs → exec (.slowOvercurrent ch) s = .next (s.find ch true 1 0 0)) ∧
  (∀ (s : State) (ch : Nat), s.slowOver (s.safChan ch).current = false ∨ (s.safChan ch).slowMs < s.cfgN 10 9 0 100 →
    exec (.slowOvercurrent ch) s = .next s) ∧
  ∀ (s : State) (ch : Nat), isChannel ch = true → exec (.shuntWaitTimeout ch) s = .next (s.endShunt ch)

/-- Tests, inputs and requests of the safety function (R255 to R259, R262, R267, R268, R270, R280, R283): a read-back
that does not match latches its pair, as a weld when all is open and the pair conducts; a test pulse is recorded as
passed where the patterns of Table 8.2 appeared during and after it, as failed or as skipped; mirror contacts, unmeasured cells, input levels and discrepancies, acknowledgements, CLOSE
and FIRE, and the parameter CRC of each channel have the effects stated. -/
def Obligations.SafetyTests : Prop :=
  (∀ (s : State) (ch n : Nat), s.pairMatches n = true → exec (.readbackMismatchTimeout ch n) s = .next s) ∧
  (∀ (s : State) (ch n : Nat), isChannel ch = true → 1 ≤ n → n ≤ 4 → s.pulseOff n = true → s.pairMatches n = false →
    ∃ u : State, u = s.setRbFault n true ∧
      (s.highOn n = false → s.lowOn n = false → s.pairLevels n = 8 → exec (.readbackMismatchTimeout ch n) s =
        .next ((u.safEvent Src.SAF_WELD (n * 2 ^ 16)).find ch true 12 n 0)) ∧
      (s.highOn n = false → s.lowOn n = false → s.pairLevels n = 1 → exec (.readbackMismatchTimeout ch n) s = .next u) ∧
      (s.pairLevels n ≠ 8 → s.pairLevels n ≠ 1 → exec (.readbackMismatchTimeout ch n) s =
        .next (u.find ch false 10 n 0))) ∧
  (∀ (s : State) (sw : Nat), exec (.testPulseStart sw) s = .next (s.tpStart sw)) ∧
  (∀ (s : State) (sw : Nat), s.fld Reg.SAF_TP_STAT (2 * sw + 1) (2 * sw) = 3 →
    exec (.testPulseRetry sw) s = .next (s.tpStart sw)) ∧
  (∀ (s : State) (sw : Nat), s.fld Reg.SAF_TP_STAT (2 * sw + 1) (2 * sw) ≠ 3 →
    exec (.testPulseRetry sw) s = .next s) ∧
  (∀ (s : State) (a b : Nat), s.saf.pulse = none → exec (.testPulseEnd a b) s = .next s) ∧
  (∀ (s : State) (p : Pulse) (a b : Nat), s.saf.pulse = some p → p.broken = true →
    exec (.testPulseEnd a b) s = .next (({ s with saf := { s.saf with pulse := none } } : State).tpSkip p.switch)) ∧
  (∀ (s : State) (p : Pulse), s.wf → s.saf.pulse = some p → p.broken = false → s.holdsHazard 1 = false →
    s.holdsHazard 2 = false → s.drogue = false → p.switch < 8 → ∃ (during after : Nat) (u v : State),
    during = (if decide (p.switch % 2 = 0) == p.closed then 0 else 10) ∧ after = (if p.closed then 8 else 5) ∧
    exec (.testPulseEnd during after) s = .next (u.unfind (if p.switch % 2 = 0 then 2 else 1) false 10 (16 + p.switch)) ∧
    u.fld Reg.SAF_TP_STAT (2 * p.switch + 1) (2 * p.switch) = 1 ∧ u.saf.pulse = none ∧
    (∀ a b : Nat, a ≠ during ∨ b ≠ after → exec (.testPulseEnd a b) s =
      .next (v.find (if p.switch % 2 = 0 then 2 else 1) false 10 (16 + p.switch) 0)) ∧
    v.fld Reg.SAF_TP_STAT (2 * p.switch + 1) (2 * p.switch) = 2 ∧ v.bit Reg.SAF_STAT 3 = true ∧ v.saf.pulse = none) ∧
  (∀ (s : State) (ch n : Nat), s.mirrorInput n = none → exec (.mirrorFeedbackTimeout ch n) s = .next s) ∧
  (∀ (s : State) (ch n i : Nat), isChannel ch = true → 1 ≤ n → n ≤ 3 → s.mirrorInput n = some i → ∃ u : State,
    u = { s with saf := { s.saf with mirrorFault := Nat.lor s.saf.mirrorFault (2 ^ (n - 1)) } } ∧
    (s.mirrorAgrees ch n = true → exec (.mirrorFeedbackTimeout ch n) s = .next s) ∧
    (s.mirrorAgrees ch n = false → n = 3 ∨ s.commandedClosed n = true →
      exec (.mirrorFeedbackTimeout ch n) s = .next (u.safEvent Src.SAF_WELD (n * 2 ^ 16 + 1))) ∧
    (s.mirrorAgrees ch n = false → n < 3 → s.commandedClosed n = false → s.mirrorInput (3 - n) = none →
      exec (.mirrorFeedbackTimeout ch n) s =
        .next ((u.safEvent Src.SAF_WELD (n * 2 ^ 16 + 2)).find ch true 12 (8 + n) 0))) ∧
  (∀ (s : State) (i : Nat), s.mirrorInput 3 = some i → s.saf.ch1.sw / 4 % 2 = 1 → s.saf.ch2.sw / 4 % 2 = 1 →
    ∀ ch, s.mirrorAgrees ch 3 = s.mirrorClosed ch i) ∧
  (∀ (s : State) (cell : Nat), s.vampOn = true → 1 ≤ cell → cell ≤ s.cellCount →
    (∀ n ∈ s.nodeList, s.nodeState n = 3 → ∀ i < 16, s.cellOf n (i + 1) ≠ cell) →
    exec (.unmeasuredTimeout cell) s = .next (s.find 1 false 8 cell 0)) ∧
  (∀ (s : State) (cell : Nat), s.cellCount < cell → exec (.unmeasuredTimeout cell) s = .next s) ∧
  (∀ (s : State) (ch i l : Nat) (high : Bool), isChannel ch = true → i < 16 → l < 2 → ∃ m v : Nat,
    m = 2 ^ (2 * i + l) ∧
    v = (if high = true then Nat.lor (s.safChan ch).lines m else (s.safChan ch).lines - (s.safChan ch).lines / m % 2 * m) ∧
    exec (.safetyInputLevelChange ch i l high) s =
      .next (((s.setSafChan ch { s.safChan ch with lines := v }).judgeInput ch i).act ch)) ∧
  (∀ (s : State) (ch i n : Nat), n ≤ s.discTicks i → exec (.discrepancyFault ch i n) s = .next s) ∧
  (∀ (s : State) (ch i n : Nat), isChannel ch = true → i < 16 → (s.inputCause i).isSome = true → s.discTicks i < n →
    s.lineDemands ch i 0 ≠ s.lineDemands ch i 1 → ∃ u : State, exec (.discrepancyFault ch i n) s =
      .next ((((u.flag Reg.SAF_STAT Reg.SAF_STAT_COUNT 2).safEvent Src.SAF_DISCREPANCY
        (i * 2 ^ 16 + min 0xFFFF n)).judgeInput ch i).act ch) ∧ (u.safChan ch).disc =
        Nat.lor (s.safChan ch).disc (2 ^ i)) ∧
  (∀ (s : State) (ch i n : Nat), n < 5000 ∨ 200000 < n → exec (.ackInputPulse ch i n) s = .next s) ∧
  (∀ (s : State) (ch i n : Nat), isChannel ch = true → i < 16 → s.inputType i ≠ 0 → s.inputFunction i = 6 → 5000 ≤ n →
    n ≤ 200000 → exec (.ackInputPulse ch i n) s = .next (s.ackFrom 2)) ∧
  (∀ s : State, s.vampOn = true → exec (.safAckWrite 0x5AC3) s = .next (s.ackFrom 1) ∧
    (s.cfgN 10 20 0 1 / 2 % 2 = 1 → s.links.vsUp = true → exec (.safAckWrite 0x5AC3) s = .next s.acknowledge)) ∧
  (∀ (s : State) (v : Word), v ≠ 0x5AC3 → exec (.safAckWrite v) s = .next s) ∧
  (∀ (s : State) (v : Word), s.wf → s.vampOn = true → ∃ t : State, exec (.safOutReqClose v) s = .next t ∧
    t.fld Reg.SAF_OUT_REQ 2 0 = getBits v 2 0 ∧ (s.links.vsUp = true → t.saf.req2 = getBits v 2 0) ∧
    (s.links.vsUp = false → t.saf = s.saf)) ∧
  (∀ s : State, s.vampOn = true → exec .safOutReqFire s =
    .next ((((s.find 1 true 7 fireKey fireKey).find 2 true 7 fireKey fireKey).unfind 1 true 7 fireKey).unfind
      2 true 7 fireKey)) ∧
  (∀ (s : State) (crc : Word), s.safOn 1 = true → ∃ u : State,
    u = (s.setSafChan 1 { s.safChan 1 with crc := crc }).wr Reg.SAF_PARAM_CRC crc ∧
    (crc = s.saf.ch2.crc → exec (.paramCrcCheck 1 crc) s = .next (u.unfind 1 false 7 0)) ∧
    (crc ≠ s.saf.ch2.crc →
      exec (.paramCrcCheck 1 crc) s = .next ((u.safEvent Src.SAF_PARAM_MISMATCH 1).find 1 false 7 0 0))) ∧
  ∀ (s : State) (crc : Word), s.safOn 2 = true → ∃ u : State,
    u = (s.setSafChan 2 { s.safChan 2 with crc := crc }).wr Reg.SOLE_PARAM_CRC crc ∧
    (crc = s.saf.ch1.crc → exec (.paramCrcCheck 2 crc) s = .next (u.unfind 2 false 7 0)) ∧
    (crc ≠ s.saf.ch1.crc → exec (.paramCrcCheck 2 crc) s =
      .next (((u.safEvent Src.SAF_PARAM_MISMATCH 1).soleLog 8 0).find 2 false 7 0 0))

/-- The Welt layer (R290 to R295, R300 to R307): with channel 1 off nothing is received or sent; a PDU is taken by its
carrier; a consumer in arming sends ARM, a running producer its image with the next SEQ; the watchdog fails a running
consumer, and ends an owner session; a failed connection re-arms on request or by itself, and 100 ms of running clear
its finding. -/
def Obligations.WeltCommands : Prop :=
  (∀ (s : State) (c p : Nat) (d : Bytes) (fd : Bool), s.weltOn = false → exec (.weltPduReceive c p d fd) s = .next s ∧
    exec (.weltArmSend c) s = .next s ∧ exec (.weltDataSend c) s = .next s) ∧
  (∀ (s : State) (c p : Nat) (d : Bytes) (fd : Bool), s.vampOn = true → s.weltOn = true →
    (c < 4 → exec (.weltPduReceive c p d fd) s =
      .next (s.weltCanFrame c (p % 2 ^ 29) (p / 2 ^ 29 % 2 == 1) fd d)) ∧
    (4 ≤ c → exec (.weltPduReceive c p d fd) s = .next (s.weltUdp p d))) ∧
  (∀ (s : State) (c : Nat), s.vampOn = true → s.weltOn = true → s.weltEnabled c = true → s.weltProducer c = false →
    s.weltState c = 1 →
    ∃ d : Bytes, d.take 4 = bytesLE 1 (s.weltVmin c) ++ bytesLE 1 (s.weltVmax c) ++ bytesLE 1 (s.weltLen c) ++
        bytesLE 1 (s.weltGap c) ∧
      exec (.weltArmSend c) s = .next (s.weltSend c (weltPdu (s.weltId c) (s.weltVmax c) 1 0 0 d) false)) ∧
  (∀ (s : State) (c : Nat) (pdu : Bytes), s.vampOn = true → ∃ h : WeltPdu,
    h = { conn := c, pdu := pdu, form := pduLen pdu == 16, rxNs := s.monoNs } ∧
    exec (.weltArmAckReceive c pdu) s = .next ((s.weltAccept h).act 1) ∧
    exec (.weltArmReceive c pdu) s = .next ((s.weltAccept h).act 1)) ∧
  (∀ (s : State) (c : Nat), s.vampOn = true → s.weltOn = true → s.weltEnabled c = true → s.weltProducer c = true →
    s.weltState c = 2 →
    ∃ n d, n = (s.fld (Reg.WLT_CONN_SEQ c) 23 0 + 1) % 2 ^ 24 ∧
      exec (.weltDataSend c) s = .next ((s.setFld (Reg.WLT_CONN_SEQ c) 23 0 n).weltSend c (weltPdu (s.weltId c)
        (s.fld (Reg.WLT_CONN_STAT c) 29 28) 0 n (s.weltWd c (s.fld (Reg.WLT_CONN_STAT c) 29 28)) d) true)) ∧
  (∀ (s : State) (c : Nat), c < 32 → s.weltEnabled c = true → s.weltProducer c = false → s.weltState c = 2 →
    exec (.weltWatchdogTimeout c) s = .next ((s.weltFail c 3 0).act 1)) ∧
  (∀ (s : State) (c : Nat), c < 32 → s.weltState c ≠ 2 → exec (.weltWatchdogTimeout c) s = .next s) ∧
  (∀ s : State, s.vampOn = true → exec (.weltWatchdogTimeout 32) s = .next (s.endOwner 6)) ∧
  (∀ (s : State) (c : Nat), s.weltState c ≠ 3 → exec (.weltAutoRearm c) s = .next s) ∧
  (∀ (s : State) (c : Nat), s.vampOn = true → s.weltEnabled c = true → s.bit (Reg.WLT_CONN_CFG c) 24 = true →
    s.weltState c = 3 →
    exec (.weltAutoRearm c) s = .next (s.weltArming c 1)) ∧
  (∀ s : State, exec (.wltRearm 0) s = .next s) ∧
  (∀ s : State, s.vampOn = true → s.weltEnabled 0 = true → s.weltState 0 = 3 →
    exec (.wltRearm 1) s = .next (s.weltArming 0 1)) ∧
  (∀ (s : State) (c : Nat), s.vampOn = true → s.weltState c = 2 →
    exec (.weltConditionClear c) s = .next ((s.unfind 1 true 11 c).unfind 1 false 13 c)) ∧
  ∀ (s : State) (c : Nat), s.weltState c ≠ 2 → exec (.weltConditionClear c) s = .next s


/-! Programs. -/

/-- Tasks (R320 to R323, R327): a release readies an idle task, or is counted as an overrun; the best task of a core
takes over, a ready one with its snapshot; an expired deadline stops every task, latches the fault and hands over to
the safety function; a balance without running tasks changes registers only. -/
def Obligations.TaskScheduling : Prop :=
  (∀ (s : State) (k : Nat), s.tasksRun = false ∨ 16 ≤ k ∨ s.bit (Reg.PRG_TASK_CFG k) 31 = false →
    exec (.taskReleaseCyclic k) s = .next s) ∧
  (∀ (s : State) (k : Nat), s.vampOn = true → s.tasksRun = true → k < 16 → s.bit (Reg.PRG_TASK_CFG k) 31 = true →
    s.taskState k = 0 → exec (.taskReleaseCyclic k) s = .next ((s.setTaskState k
      (if (s.task k).waits.isSome = true then 4 else 1)).setTask k { s.task k with timer := some s.monoNs })) ∧
  (∀ (s : State) (k : Nat), s.taskState k = 5 → exec (.taskReleaseCyclic k) s = .next s) ∧
  (∀ (s : State) (k : Nat), s.wf → s.vampOn = true → s.tasksRun = true → k < 16 →
    s.bit (Reg.PRG_TASK_CFG k) 31 = true → s.taskState k ≠ 0 → s.taskState k ≠ 5 →
    s.fld (Reg.PRG_TASK_CFG k) 23 20 ≠ 1 → ∃ t : State,
      exec (.taskReleaseCyclic k) s = .next t ∧ t.bit Reg.PRG_STAT 5 = true ∧ t = { s with regs := t.regs } ∧
      t.fld (Reg.PRG_TASK_STAT k) 23 16 = min 0xFF (s.fld (Reg.PRG_TASK_STAT k) 23 16 + 1)) ∧
  (∀ (s : State) (core : Nat), s.tasksRun = false ∨ s.program = none ∨ s.bestTask core = none →
    exec (.taskStart core) s = .next s) ∧
  (∀ (s : State) (core k : Nat) (p : Program), s.vampOn = true → s.program = some p → s.bestTask core = some k →
    s.tasksRun = true → core < 2 → s.onCore core ≠ some k → s.prg.halted.contains core = false → ∃ u : State,
    u = (match s.onCore core with
         | some j => s.setTaskState j 3
         | none => s) ∧
    (u.taskState k = 1 → exec (.taskStart core) s =
      .next (((u.takeSnapshot p k).setTaskState k 2).setCore core (some k))) ∧
    (u.taskState k ≠ 1 → exec (.taskStart core) s = .next ((u.setTaskState k 2).setCore core (some k)))) ∧
  (∀ (s : State) (k : Nat), s.program = none ∨ s.tasksRun = false ∨ (s.task k).timer = none →
    exec (.taskDeadlineExpiry k) s = .next s) ∧
  (∀ (s : State) (k : Nat) (p : Program), s.vampOn = true → s.program = some p → s.tasksRun = true →
    (s.task k).timer.isSome = true →
    ∃ u v : State, u = ((((s.stopTasks p).flag Reg.PRG_STAT Reg.PRG_STAT_COUNT0 0).strobe Src.PRG_DEADLINE
        (k % 64 * 2 ^ 16 + min 0xFFFF (s.task k).runCycles)).setBit Reg.PRG_STATE 3 true) ∧
      (u.mode = .run → v = (u.setMode .stop u.drogue).burstAbort 1) ∧
      (u.mode ≠ .run → v = { u with saf := { u.saf with tasksOnSafe := false } }) ∧
      exec (.taskDeadlineExpiry k) s = .next ((v.find 1 false 0 0 0).unfind 1 false 0 0).changeBoundary) ∧
  (∀ (s : State) (l : List Nat), s.program = none → exec (.taskBalance l) s = .next s) ∧
  ∀ (s : State) (l : List Nat) (p : Program), s.wf → s.vampOn = true → s.program = some p → s.tasksRun = false →
    ∃ t : State, exec (.taskBalance l) s = .next t ∧ t = { s with regs := t.regs }

/-- Start, stop and change of the program, and station exchanges (R324, R332, R333, R336, R339 to R342): RUN enters Run
with the program's tasks running; STOP enters Stop with them stopped; a change without conflict waits for a cycle's
boundary as change in progress, and every refused or aborted one is over; the switch takes place where no cycle is
open; an enabled station gets its frame with the next SEQ; a good reply and a missed one count, and MISS_LIMIT misses
make it absent. -/
def Obligations.ProgramAndStations : Prop :=
  (∀ s : State, s.vampOn = true → s.mayRun = true → ∃ t : State, exec .prgRunReq s = .next t ∧ t = s.runTasks.reachRun ∧
    t.mode = .run ∧ t.drogue = s.drogue) ∧
  (∀ s : State, s.mayRun = false → exec .prgRunReq s = .next s) ∧
  (∀ s : State, s.vampOn = true → exec .prgStopReq s = .next s.haltTasks.changeBoundary) ∧
  (∀ s : State, s.wf → s.vampOn = true → s.mode = .run → s.prg.change = none → ∃ t : State,
    exec .prgStopReq s = .next t ∧ t.mode = .stop ∧ t.drogue = s.drogue ∧
      (∀ p : Program, s.program = some p → t.tasksRun = false)) ∧
  (∀ s : State, s.prg.change.isSome = true → exec .prgChangeReq s = .next s) ∧
  (∀ s : State, s.vampOn = true → s.prg.change = none → s.mode ≠ .run → s.mode ≠ .stop →
    exec .prgChangeReq s = .next (s.refuseChange 6 none)) ∧
  (∀ (s : State) (old new : Program) (drop : Bool), s.wf → s.vampOn = true → s.prg.change = none → s.mode = .run →
    s.program = some old → s.inactive = some new → s.bit Reg.PRG_STATE 11 = true →
    drop = s.bit Reg.PRG_CHANGE_OPT 0 → s.changeConflict old new drop = none → changeCost old new ≤ 1500 →
    s.tasksRun = true → ∃ t : State, exec .prgChangeReq s = .next t ∧
      t.prg = { s.prg with change := some { x := changeCost old new, dropForces := drop } } ∧
      t.fld Reg.PRG_STATE 9 8 = 2 ∧ t.bit Reg.PRG_CTRL 2 = true ∧ t.tasksRun = true) ∧
  (∀ s : State, s.wf → s.vampOn = true → s.prg.change.isSome = true → ∃ t : State, exec .prgChangeAbort s = .next t ∧
    t = s.refuseChange 7 none ∧ t.prg.change = none ∧ (s.cmd.changeOp = none → t.bit Reg.PRG_STAT 2 = true)) ∧
  (∀ s : State, s.prg.change = none → exec .prgChangeAbort s = .next s ∧ exec .onlineChangeSwitch s = .next s) ∧
  (∀ (s : State) (c : Change) (old new : Program), s.vampOn = true → s.prg.change = some c → s.program = some old →
    s.inactive = some new → s.tasksRun = false ∨ (∀ k < 48, (s.task k).ctx = none) → ∃ t : State,
      exec .onlineChangeSwitch s = .next t ∧ t = s.switchProgram old new c ∧ t.prg.change = none) ∧
  (∀ (s : State) (c : Change) (old new : Program) (k : Nat), s.vampOn = true → s.prg.change = some c →
    s.program = some old → s.inactive = some new → s.tasksRun = true → k < 48 → (s.task k).ctx.isSome = true →
    ∃ u : State, u = { s with prg := { s.prg with change := some { c with deferrals := c.deferrals + 1 } } } ∧
      (c.deferrals < 9 → exec .onlineChangeSwitch s = .next u) ∧
      (9 ≤ c.deferrals → exec .onlineChangeSwitch s = .next (u.refuseChange 5 none))) ∧
  (∀ (s : State) (u : Nat) (f : Bytes), s.program = none → exec (.stationExchangeSend u) s = .next s ∧
    exec (.stationReplyTimeout u) s = .next s ∧ exec (.stationInputReceive u f) s = .next s) ∧
  (∀ (s : State) (u : Nat) (p : Program) (d : StationDef), s.program = some p → stationDef p u = some d →
    (s.stationsRun = false ∨ (s.station u).disabled = true → exec (.stationExchangeSend u) s = .next s) ∧
    (s.vampOn = true → s.stationsRun = true → (s.station u).disabled = false → ∃ (n f : Nat) (data : Bytes) (t : State),
      n = ((s.station u).seq + 1) % 256 ∧
      f = (if (s.station u).present = true then 1 else 2) + (if s.tasksRun = true then 0 else 4) ∧
      data = bytesLE 1 n ++ bytesLE 1 f ++ (if (s.station u).present = true then s.stationOutputs p u d else []) ∧
      t = s.setStation u { s.station u with seq := n, awaiting := true, probing := !(s.station u).present } ∧
      exec (.stationExchangeSend u) s = .next (t.stationSend d data) ∧
      (3 < d.carrier → exec (.stationExchangeSend u) s =
        .next { t with out := .udp d.address (s.cfgN 7 18 0 38812) data :: s.out }))) ∧
  (∀ (s : State) (u : Nat) (p : Program) (d : StationDef) (f : Bytes), s.program = some p → stationDef p u = some d →
    (s.vampOn = true → s.stationFrameGood u d f = true → ∃ t : State, exec (.stationInputReceive u f) s = .next t ∧
      t = s.stationGood p u f d.inLen ∧ (t.station u).awaiting = false ∧ (t.station u).misses = 0 ∧
      ((s.station u).present = true → (t.station u).inputs = slice f 2 d.inLen)) ∧
    (s.stationFrameGood u d f = false → exec (.stationInputReceive u f) s = .next s)) ∧
  ∀ (s : State) (u : Nat) (p : Program) (d : StationDef), s.program = some p → stationDef p u = some d →
    ((s.station u).awaiting = false → exec (.stationReplyTimeout u) s = .next s) ∧
    (s.vampOn = true → (s.station u).awaiting = true → (s.station u).present = true →
      (d.missLimit ≤ (s.station u).misses + 1 → ∃ t : State, exec (.stationReplyTimeout u) s = .next t ∧
        t = s.stationAbsent p u d 0 ∧ (t.station u).present = false) ∧
      ((s.station u).misses + 1 < d.missLimit → exec (.stationReplyTimeout u) s = .next (s.setStation u
        { s.station u with awaiting := false, misses := (s.station u).misses + 1 }))) ∧
    (s.vampOn = true → (s.station u).awaiting = true → (s.station u).present = false →
      exec (.stationReplyTimeout u) s = .next (s.setStation u { s.station u with awaiting := false, good := 0 }))

/-- Stack, data and control instructions of Bavin (R310, R313, R325, R327, Tables 10.5 to 10.7): what each leaves on
the stack, where the position goes, and what it writes, where its code stands at the position of the task on the core.
A local slot that nothing has written reads a free value (assumption 1). -/
def Obligations.BavinStackAndControl : Prop :=
  ∀ (s : State) (core k : Nat) (c : TaskCtx),
  (∀ t n slot : Nat, s.inCycle core = none → exec (.bavinNop core) s = .next s ∧ exec (.bavinLit core t n) s = .next s ∧
    exec (.bavinLdl core slot) s = .next s ∧ exec (.bavinEnd core) s = .next s) ∧
  (s.standsAt core k c [0x00] → exec (.bavinNop core) s = .next (s.went k c 1 c.stack)) ∧
  (∀ (a : Quad) (st : List Quad), c.stack = a :: st →
    (s.standsAt core k c [0x01] → exec (.bavinDup core) s = .next (s.went k c 1 (a :: a :: st))) ∧
    (s.standsAt core k c [0x02] → exec (.bavinDrop core) s = .next (s.went k c 1 st)) ∧
    (∀ t y, t ≤ 6 → s.standsAt core k c (bytesLE 1 (0x18 + t) ++ bytesLE 2 y) → exec (.bavinStore core t y) s =
      .next (s.setCtx k (({ c with pc := c.pc + 3, stack := st } : TaskCtx).write y 0 a))) ∧
    (∀ n, n ≤ 255 → s.standsAt core k c ([0xE2] ++ bytesLE 1 n) → exec (.bavinStl core n) s = .next (s.setCtx k
      { c with pc := c.pc + 2, stack := st, locals := (n, a) :: c.locals.filter (fun x => x.1 != n) })) ∧
    (∀ j : Int, -0x8000 ≤ j → j < 0x8000 →
      (s.standsAt core k c (0xDA :: bytesLE 2 (wrapInt 16 j)) → exec (.bavinJmpt core j) s = .next (s.setCtx k
        (if isTrue a = true then ({ c with pc := c.pc + 3, stack := st } : TaskCtx).jump j
         else { c with pc := c.pc + 3, stack := st }))) ∧
      (s.standsAt core k c (0xDB :: bytesLE 2 (wrapInt 16 j)) → exec (.bavinJmpf core j) s = .next (s.setCtx k
        (if isTrue a = true then { c with pc := c.pc + 3, stack := st }
         else ({ c with pc := c.pc + 3, stack := st } : TaskCtx).jump j))))) ∧
  (∀ (a b : Quad) (st : List Quad), c.stack = b :: a :: st →
    (s.standsAt core k c [0x03] → exec (.bavinSwap core) s = .next (s.went k c 1 (a :: b :: st))) ∧
    (s.standsAt core k c [0x04] → exec (.bavinOver core) s = .next (s.went k c 1 (a :: b :: a :: st)))) ∧
  (∀ (x y z : Quad) (st : List Quad), c.stack = z :: y :: x :: st →
    (s.standsAt core k c [0x05] → exec (.bavinRot core) s = .next (s.went k c 1 (x :: z :: y :: st))) ∧
    (∀ t, t ≤ 6 → s.standsAt core k c ([0xDF] ++ bytesLE 1 t) → exec (.bavinSel core t) s =
      .next (s.went k c 2 ((if isTrue x = true then z else y) :: st)))) ∧
  (∀ n v, n ≤ 255 → c.stack[n]? = some v → s.standsAt core k c ([0x06] ++ bytesLE 1 n) →
    exec (.bavinPick core n) s = .next (s.went k c 2 (v :: c.stack))) ∧
  (∀ t v, t ≤ 6 → s.standsAt core k c (bytesLE 1 (0x08 + t) ++ bytesLE (typeSize t) v) → exec (.bavinLit core t v) s =
    .next (s.went k c (1 + typeSize t) (extend t (v % 2 ^ (8 * typeSize t)) :: c.stack))) ∧
  (∀ t y, t ≤ 6 → s.standsAt core k c (bytesLE 1 (0x10 + t) ++ bytesLE 2 y) → exec (.bavinLoad core t y) s =
    .next (s.went k c 3 (c.read y 0 :: c.stack))) ∧
  (∀ t y (m : Symbol) (i : Quad) (st : List Quad), t ≤ 6 → s.sym y = some m → c.stack = i :: st →
    s.standsAt core k c (bytesLE 1 (0x20 + t) ++ bytesLE 2 y) →
    (i.toNat < m.elements → exec (.bavinLoadx core t y) s = .next (s.went k c 3 (c.read y i.toNat :: st))) ∧
    (m.elements ≤ i.toNat → exec (.bavinLoadx core t y) s =
      .next ((s.went k c 3 (0 :: st)).runtimeFault k 2 0 c.pc))) ∧
  (∀ t y (m : Symbol) (i v : Quad) (st : List Quad), t ≤ 6 → s.sym y = some m → c.stack = v :: i :: st →
    s.standsAt core k c (bytesLE 1 (0x28 + t) ++ bytesLE 2 y) →
    (i.toNat < m.elements → exec (.bavinStorex core t y) s =
      .next (s.setCtx k (({ c with pc := c.pc + 3, stack := st } : TaskCtx).write y i.toNat v))) ∧
    (m.elements ≤ i.toNat → exec (.bavinStorex core t y) s = .next ((s.went k c 3 st).runtimeFault k 2 0 c.pc))) ∧
  (∀ j : Int, -0x8000 ≤ j → j < 0x8000 → s.standsAt core k c (0xD9 :: bytesLE 2 (wrapInt 16 j)) →
    exec (.bavinJmp core j) s = .next (s.setCtx k (({ c with pc := c.pc + 3 } : TaskCtx).jump j))) ∧
  (∀ f d, f < 0x10000 → s.program.bind (fun p => p.functions[f]?) = some d →
    s.standsAt core k c ([0xDC] ++ bytesLE 2 f) → exec (.bavinCall core f) s = .next (s.setCtx k { c with
      frames := (c.pc + 3, c.locals) :: c.frames, locals := [], pc := d.entry })) ∧
  (∀ back slots rest, c.frames = (back, slots) :: rest → s.standsAt core k c [0xDD] →
    exec (.bavinRet core) s = .next (s.setCtx k { c with pc := back, locals := slots, frames := rest })) ∧
  (∀ p, s.program = some p → s.standsAt core k c [0xDE] →
    (s.imageInUse p = true → exec (.bavinEnd core) s = .next s) ∧
    (s.imageInUse p = false → exec (.bavinEnd core) s =
      .next ((s.publish p k { c with pc := c.pc + 1 }).finishCycle core k))) ∧
  (∀ n, n ≤ 255 → c.locals.find? (fun y => y.1 == n) = none → s.standsAt core k c ([0xE1] ++ bytesLE 1 n) →
    exec (.bavinLdl core n) s = .next (s.went k c 2 (extend ((s.program.map (fun p => localType p c.pc n)).getD 2)
      s.freeQuad.toNat :: c.stack)).drawnQuad) ∧
  ∀ n x, n ≤ 255 → c.locals.find? (fun y => y.1 == n) = some x → s.standsAt core k c ([0xE1] ++ bytesLE 1 n) →
    exec (.bavinLdl core n) s = .next (s.went k c 2 (x.2 :: c.stack))

/-- Arithmetic, comparison and bit instructions of Bavin (R310 to R312, R325, Table 10.6): the value that each leaves
in the place of its operands; a division by zero leaves 0 with runtime fault 1. A quotient outside the type and a bit
beyond the width leave a free value (assumption 1). -/
def Obligations.BavinArithmetic : Prop :=
  ∀ (s : State) (core k : Nat) (c : TaskCtx) (t : Nat),
  (∀ (a b : Quad) (st : List Quad), c.stack = b :: a :: st → 1 ≤ t → t ≤ 6 →
    (s.standsAt core k c (bytesLE 1 (0x30 + t)) → exec (.bavinAdd core t) s =
      .next (s.went k c 1 (valAdd t a b :: st))) ∧
    (s.standsAt core k c (bytesLE 1 (0x38 + t)) → exec (.bavinSub core t) s =
      .next (s.went k c 1 (valSub t a b :: st))) ∧
    (t ≤ 5 → s.standsAt core k c (bytesLE 1 (0x40 + t)) →
      exec (.bavinMul core t) s = .next (s.went k c 1 (valMul t a b :: st))) ∧
    (t ≤ 4 → s.standsAt core k c (bytesLE 1 (0x48 + t)) →
      (b = 0 → exec (.bavinDiv core t) s = .next ((s.went k c 1 (0 :: st)).runtimeFault k 1 0 c.pc)) ∧
      (b ≠ 0 → typeMin t ≤ (valInt a).tdiv (valInt b) → (valInt a).tdiv (valInt b) ≤ typeMax t →
        exec (.bavinDiv core t) s = .next (s.went k c 1 (wrapVal t ((valInt a).tdiv (valInt b)) :: st))) ∧
      (b ≠ 0 → (valInt a).tdiv (valInt b) < typeMin t ∨ typeMax t < (valInt a).tdiv (valInt b) →
        exec (.bavinDiv core t) s = .next (s.went k c 1 (extend t s.freeWord.toNat :: st)).drawn)) ∧
    (t = 5 → s.standsAt core k c (bytesLE 1 (0x48 + t)) → exec (.bavinDiv core t) s =
      .next (s.went k c 1 (ofReal (f32Div (valReal a) (valReal b)) :: st))) ∧
    (t ≤ 4 → s.standsAt core k c (bytesLE 1 (0x50 + t)) →
      (b = 0 → exec (.bavinMod core t) s = .next ((s.went k c 1 (0 :: st)).runtimeFault k 1 0 c.pc)) ∧
      (b ≠ 0 → typeMin t ≤ (valInt a).tmod (valInt b) → (valInt a).tmod (valInt b) ≤ typeMax t →
        exec (.bavinMod core t) s = .next (s.went k c 1 (wrapVal t ((valInt a).tmod (valInt b)) :: st)))) ∧
    (s.standsAt core k c (bytesLE 1 (0x68 + t)) → exec (.bavinMin core t) s =
      .next (s.went k c 1 (valMin t a b :: st))) ∧
    (s.standsAt core k c (bytesLE 1 (0x70 + t)) → exec (.bavinMax core t) s =
      .next (s.went k c 1 (valMax t a b :: st))) ∧
    (s.standsAt core k c (bytesLE 1 (0x88 + t)) →
      exec (.bavinLt core t) s = .next (s.went k c 1 (ofBool (valLt t a b) :: st))) ∧
    (s.standsAt core k c (bytesLE 1 (0x90 + t)) →
      exec (.bavinLe core t) s = .next (s.went k c 1 (ofBool (valLe t a b) :: st))) ∧
    (s.standsAt core k c (bytesLE 1 (0x98 + t)) →
      exec (.bavinGt core t) s = .next (s.went k c 1 (ofBool (valLt t b a) :: st))) ∧
    (s.standsAt core k c (bytesLE 1 (0xA0 + t)) →
      exec (.bavinGe core t) s = .next (s.went k c 1 (ofBool (valLe t b a) :: st))) ∧
    (t ≤ 4 → s.standsAt core k c (bytesLE 1 (0xC8 + t)) →
      exec (.bavinShl core t) s = .next (s.went k c 1 (valShl t a b :: st))) ∧
    (t ≤ 4 → s.standsAt core k c (bytesLE 1 (0xD0 + t)) →
      exec (.bavinShr core t) s = .next (s.went k c 1 (valShr t a b :: st))) ∧
    (t ≤ 4 → s.standsAt core k c ([0xFE, 0x12] ++ bytesLE 1 t) →
      exec (.bavinRol core t) s = .next (s.went k c 3 (valRol t a b :: st))) ∧
    (t ≤ 4 → s.standsAt core k c ([0xFE, 0x13] ++ bytesLE 1 t) →
      exec (.bavinRor core t) s = .next (s.went k c 3 (valRor t a b :: st))) ∧
    (t ≤ 4 → b.toNat < typeBits t →
      (s.standsAt core k c ([0xFE, 0x14] ++ bytesLE 1 t) → exec (.bavinGetbit core t) s =
        .next (s.went k c 3 (ofBool ((valBits t a).testBit b.toNat) :: st))) ∧
      (s.standsAt core k c ([0xFE, 0x15] ++ bytesLE 1 t) → exec (.bavinSetbit core t) s =
        .next (s.went k c 3 (valSetBit t a b true :: st))) ∧
      (s.standsAt core k c ([0xFE, 0x16] ++ bytesLE 1 t) → exec (.bavinClrbit core t) s =
        .next (s.went k c 3 (valSetBit t a b false :: st)))) ∧
    (t ≤ 4 → typeBits t ≤ b.toNat →
      (s.standsAt core k c ([0xFE, 0x14] ++ bytesLE 1 t) → exec (.bavinGetbit core t) s =
        .next (s.went k c 3 (extend 0 (s.freeWord.toNat % 2) :: st)).drawn) ∧
      (s.standsAt core k c ([0xFE, 0x15] ++ bytesLE 1 t) → exec (.bavinSetbit core t) s =
        .next (s.went k c 3 (extend t s.freeWord.toNat :: st)).drawn) ∧
      (s.standsAt core k c ([0xFE, 0x16] ++ bytesLE 1 t) → exec (.bavinClrbit core t) s =
        .next (s.went k c 3 (extend t s.freeWord.toNat :: st)).drawn))) ∧
  (∀ (a b : Quad) (st : List Quad), c.stack = b :: a :: st → t ≤ 4 →
    (s.standsAt core k c (bytesLE 1 (0xA8 + t)) → exec (.bavinAnd core t) s =
      .next (s.went k c 1 (valAnd t a b :: st))) ∧
    (s.standsAt core k c (bytesLE 1 (0xB0 + t)) → exec (.bavinOr core t) s = .next (s.went k c 1 (valOr t a b :: st))) ∧
    (s.standsAt core k c (bytesLE 1 (0xB8 + t)) → exec (.bavinXor core t) s =
      .next (s.went k c 1 (valXor t a b :: st)))) ∧
  (∀ (a b : Quad) (st : List Quad), c.stack = b :: a :: st → t ≤ 6 →
    (s.standsAt core k c (bytesLE 1 (0x78 + t)) →
      exec (.bavinEq core t) s = .next (s.went k c 1 (ofBool (valEq t a b) :: st))) ∧
    (s.standsAt core k c (bytesLE 1 (0x80 + t)) →
      exec (.bavinNe core t) s = .next (s.went k c 1 (ofBool (!valEq t a b) :: st)))) ∧
  (∀ (a : Quad) (st : List Quad), c.stack = a :: st →
    (t = 1 ∨ t = 2 ∨ t = 5 ∨ t = 6 → s.standsAt core k c (bytesLE 1 (0x58 + t)) →
      exec (.bavinNeg core t) s = .next (s.went k c 1 (valNeg t a :: st))) ∧
    (t = 1 ∨ t = 2 ∨ t = 5 ∨ t = 6 → s.standsAt core k c (bytesLE 1 (0x60 + t)) →
      exec (.bavinAbs core t) s = .next (s.went k c 1 (valAbs t a :: st))) ∧
    (t ≤ 4 → s.standsAt core k c (bytesLE 1 (0xC0 + t)) →
      exec (.bavinNot core t) s = .next (s.went k c 1 (valNot t a :: st))) ∧
    (∀ d, t ≤ 6 → d ≤ 6 → convListed t d = true → s.standsAt core k c (0xD8 :: bytesLE 1 (16 * t + d)) →
      exec (.bavinConv core t d) s = .next (s.went k c 2 (valConv t d a :: st)))) ∧
  ∀ (x lo hi : Quad) (st : List Quad), c.stack = hi :: lo :: x :: st → 1 ≤ t → t ≤ 6 →
    s.standsAt core k c ([0xE0] ++ bytesLE 1 t) →
    exec (.bavinLimit core t) s = .next (s.went k c 2 (valMin t (valMax t x lo) hi :: st))

/-- Integers of Bavin wrap modulo two to the width of their type (R311): sums, differences, products and negations of
INT16, INT32, UINT16 and UINT32 differ from the exact number by a multiple of it and lie in the type's range. -/
def Obligations.BavinIntegersWrap : Prop :=
  ∀ (t : Nat) (a b : Quad), 1 ≤ t → t ≤ 4 →
    (∀ r i, (r, i) ∈ [(valAdd t a b, valInt a + valInt b), (valSub t a b, valInt a - valInt b),
        (valMul t a b, valInt a * valInt b), (valNeg t a, -valInt a)] →
      typeMin t ≤ valInt r ∧ valInt r ≤ typeMax t ∧ (valInt r - i) % (2 ^ typeBits t : Nat) = 0)

/-- Functions of a real, and time (R311, Table 10.7): what each instruction leaves in the place of its operands. -/
def Obligations.BavinFunctions : Prop :=
  ∀ (s : State) (core k : Nat) (c : TaskCtx),
  (∀ (a : Quad) (st : List Quad), c.stack = a :: st → ∃ x : Word, x = valReal a ∧
    (s.standsAt core k c [0xFE, 0x00] → exec (.bavinSqrt core) s = .next (s.went k c 2 (ofReal (f32Sqrt x) :: st))) ∧
    (s.standsAt core k c [0xFE, 0x01] →
      exec (.bavinExp core) s = .next (s.went k c 2 (ofReal (Config.realFn .exp x) :: st))) ∧
    (s.standsAt core k c [0xFE, 0x02] →
      exec (.bavinLn core) s = .next (s.went k c 2 (ofReal (Config.realFn .ln x) :: st))) ∧
    (s.standsAt core k c [0xFE, 0x03] →
      exec (.bavinLog10 core) s = .next (s.went k c 2 (ofReal (Config.realFn .log10 x) :: st))) ∧
    (s.standsAt core k c [0xFE, 0x04] →
      exec (.bavinSin core) s = .next (s.went k c 2 (ofReal (Config.realFn .sin x) :: st))) ∧
    (s.standsAt core k c [0xFE, 0x05] →
      exec (.bavinCos core) s = .next (s.went k c 2 (ofReal (Config.realFn .cos x) :: st))) ∧
    (s.standsAt core k c [0xFE, 0x06] →
      exec (.bavinTan core) s = .next (s.went k c 2 (ofReal (Config.realFn .tan x) :: st))) ∧
    (s.standsAt core k c [0xFE, 0x07] →
      exec (.bavinAsin core) s = .next (s.went k c 2 (ofReal (Config.realFn .asin x) :: st))) ∧
    (s.standsAt core k c [0xFE, 0x08] →
      exec (.bavinAcos core) s = .next (s.went k c 2 (ofReal (Config.realFn .acos x) :: st))) ∧
    (s.standsAt core k c [0xFE, 0x09] →
      exec (.bavinAtan core) s = .next (s.went k c 2 (ofReal (Config.realFn .atan x) :: st))) ∧
    (s.standsAt core k c [0xFE, 0x0C] → exec (.bavinTrunc core) s = .next (s.went k c 2 (valRound .trunc a :: st))) ∧
    (s.standsAt core k c [0xFE, 0x0D] → exec (.bavinRound core) s = .next (s.went k c 2 (valRound .away a :: st))) ∧
    (s.standsAt core k c [0xFE, 0x0E] → exec (.bavinFloor core) s = .next (s.went k c 2 (valRound .floor a :: st))) ∧
    (s.standsAt core k c [0xFE, 0x0F] → exec (.bavinCeil core) s = .next (s.went k c 2 (valRound .ceil a :: st))) ∧
    (s.standsAt core k c [0xFE, 0x10] → exec (.bavinIsnan core) s = .next (s.went k c 2 (ofBool (f32IsNaN x) :: st)))) ∧
  (∀ (a b : Quad) (st : List Quad), c.stack = b :: a :: st →
    (s.standsAt core k c [0xFE, 0x0A] → exec (.bavinAtan2 core) s =
      .next (s.went k c 2 (ofReal (Config.realFn2 .atan2 (valReal a) (valReal b)) :: st))) ∧
    (s.standsAt core k c [0xFE, 0x0B] → exec (.bavinPow core) s =
      .next (s.went k c 2 (ofReal (Config.realFn2 .pow (valReal a) (valReal b)) :: st)))) ∧
  (∀ (x y z : Quad) (st : List Quad), c.stack = z :: y :: x :: st → s.standsAt core k c [0xFE, 0x11] →
    exec (.bavinFma core) s = .next (s.went k c 2 (ofReal (f32Fma (valReal x) (valReal y) (valReal z)) :: st))) ∧
  (s.standsAt core k c [0xFE, 0x20] →
    exec (.bavinNow core) s = .next (s.went k c 2 (BitVec.ofNat 64 s.monoNs :: c.stack))) ∧
  (s.standsAt core k c [0xFE, 0x21] → exec (.bavinNowplant core) s =
    .next (s.went k c 2 (ofBool s.plantValid :: BitVec.ofNat 64 s.tim.plant.total :: c.stack))) ∧
  (s.standsAt core k c [0xFE, 0x22] →
    exec (.bavinCyclestart core) s = .next (s.went k c 2 (BitVec.ofNat 64 c.snapNs :: c.stack))) ∧
  (∀ (p : Program) (d : TaskDef), s.program = some p → taskDef p k = some d → s.standsAt core k c [0xFE, 0x23] →
    exec (.bavinPeriod core) s = .next (s.went k c 2
      (BitVec.ofNat 64 (if d.event = true then 0 else 250000 * d.period) :: c.stack)))

/-- Function blocks and arrays (Tables 10.7 and 10.8, R330): what each instruction leaves on the stack and writes. The
blocks' internal state follows IEC 61131-3 as assumption 40 says; only their outputs' form is stated here. -/
def Obligations.BavinBlocks : Prop :=
  ∀ (s : State) (core k : Nat) (c : TaskCtx) (y : Nat), y < 0x10000 →
  (∀ (pt i : Quad) (st : List Quad), c.stack = pt :: i :: st → ∃ d1 d2 d3 d4 d5 : TaskCtx,
    (s.standsAt core k c ([0xFE, 0x28] ++ bytesLE 2 y) → exec (.bavinTon core y) s = .next (s.setCtx k d1) ∧
      d1.stack.drop 2 = st ∧ (isTrue i = false → d1.stack.take 2 = [0, 0])) ∧
    (s.standsAt core k c ([0xFE, 0x29] ++ bytesLE 2 y) → exec (.bavinTof core y) s = .next (s.setCtx k d2) ∧
      d2.stack.drop 2 = st ∧ (isTrue i = true → d2.stack.take 2 = [0, 1])) ∧
    (s.standsAt core k c ([0xFE, 0x2A] ++ bytesLE 2 y) → exec (.bavinTp core y) s = .next (s.setCtx k d3) ∧
      d3.stack.drop 2 = st) ∧
    (s.standsAt core k c ([0xFE, 0x2F] ++ bytesLE 2 y) → exec (.bavinSr core y) s = .next (s.setCtx k d4) ∧
      d4.stack = ofBool (isTrue i || (!isTrue pt && isTrue (c.read y 1))) :: st) ∧
    (s.standsAt core k c ([0xFE, 0x30] ++ bytesLE 2 y) → exec (.bavinRs core y) s = .next (s.setCtx k d5) ∧
      d5.stack = ofBool (!isTrue pt && (isTrue i || isTrue (c.read y 1))) :: st)) ∧
  (∀ (v : Quad) (st : List Quad), c.stack = v :: st →
    (s.standsAt core k c ([0xFE, 0x2B] ++ bytesLE 2 y) → ∃ d : TaskCtx, exec (.bavinRtrig core y) s =
      .next (s.setCtx k d) ∧ d.stack = ofBool (isTrue v && !isTrue (c.read y 0)) :: st) ∧
    (s.standsAt core k c ([0xFE, 0x2C] ++ bytesLE 2 y) → ∃ d : TaskCtx, exec (.bavinFtrig core y) s =
      .next (s.setCtx k d) ∧ d.stack = ofBool (!isTrue v && !isTrue (c.read y 0)) :: st) ∧
    (∀ m : Symbol, s.sym y = some m → s.standsAt core k c ([0xFE, 0x39] ++ bytesLE 2 y) → exec (.bavinFill core y) s =
      .next (s.setCtx k ((List.range m.elements).foldl (fun (u : TaskCtx) el => u.write y el v)
        { c with pc := c.pc + 4, stack := st }))) ∧
    (s.standsAt core k c ([0xFE, 0x62] ++ bytesLE 2 y) → exec (.bavinIsforced core y) s =
      .next (s.went k c 4 (ofBool (valFind c.forced (valKey y v.toNat)).isSome :: st))) ∧
    (s.standsAt core k c ([0xFE, 0x60] ++ bytesLE 2 y) → exec (.bavinAssert core y) s =
      .next (if isTrue v = true then s.went k c 4 st else (s.went k c 4 st).runtimeFault k 4 y c.pc))) ∧
  (∀ (pv r u : Quad) (st : List Quad), c.stack = pv :: r :: u :: st → ∃ d e : TaskCtx,
    (s.standsAt core k c ([0xFE, 0x2D] ++ bytesLE 2 y) → exec (.bavinCtu core y) s = .next (s.setCtx k d) ∧
      d.stack.drop 2 = st ∧ (isTrue r = true → d.stack.head? = some 0)) ∧
    (s.standsAt core k c ([0xFE, 0x2E] ++ bytesLE 2 y) → exec (.bavinCtd core y) s = .next (s.setCtx k e) ∧
      e.stack.drop 2 = st ∧ (isTrue r = true → e.stack.head? = some (wrapVal 1 (valInt pv))))) ∧
  (∀ (z : Nat) (a b : Symbol), z < 0x10000 → s.sym y = some a → s.sym z = some b →
    s.standsAt core k c ([0xFE, 0x38] ++ bytesLE 2 y ++ bytesLE 2 z) → exec (.bavinCopy core y z) s =
      .next (s.setCtx k ((List.range (min a.elements b.elements)).foldl
        (fun (u : TaskCtx) el => u.write z el (({ c with pc := c.pc + 6 } : TaskCtx).read y el))
        { c with pc := c.pc + 6 }))) ∧
  (∀ m : Symbol, s.sym y = some m → s.standsAt core k c ([0xFE, 0x3A] ++ bytesLE 2 y) →
    exec (.bavinLen core y) s = .next (s.went k c 4 (BitVec.ofNat 64 m.elements :: c.stack))) ∧
  (s.standsAt core k c ([0xFE, 0x61] ++ bytesLE 2 y) →
    exec (.bavinTrap core y) s = .next ((s.runtimeFault k 5 y c.pc).finishCycle core k)) ∧
  (∀ n, n < 32 → s.standsAt core k c ([0xFE, 0x49] ++ bytesLE 1 n ++ bytesLE 2 y) → exec (.bavinWpub core n y) s =
    .next (s.setCtx k (({ c with pc := c.pc + 5 } : TaskCtx).defer (.wpub n y))))

/-- Instructions on the block's other units (R315, R316, R320, R330, R332, R334, R336, Table 10.9): stations, Welt
validity, deferred effects, register accesses and readings of the string. -/
def Obligations.BavinUnits : Prop :=
  ∀ (s : State) (core k : Nat) (c : TaskCtx),
  (∀ n, n ≤ 63 →
    (s.standsAt core k c ([0xFE, 0x40] ++ bytesLE 1 n) →
      exec (.bavinStnok core n) s = .next (s.went k c 3 (ofBool (s.station n).present :: c.stack))) ∧
    (s.standsAt core k c ([0xFE, 0x41] ++ bytesLE 1 n) → exec (.bavinStnstate core n) s =
      .next (s.went k c 3 (BitVec.ofNat 64 ((s.station n).status % 256 * 256 + 4 * b2n (s.station n).disabled +
        2 * b2n (s.station n).probing + b2n (s.station n).present) :: c.stack)))) ∧
  (∀ n, n ≤ 31 → s.standsAt core k c ([0xFE, 0x48] ++ bytesLE 1 n) → exec (.bavinWvalid core n) s =
    .next (s.went k c 3 (ofBool (s.weltEnabled n && !s.weltProducer n && s.weltState n == 2) :: c.stack))) ∧
  (∀ (v : Quad) (st : List Quad), c.stack = v :: st →
    (∀ n (p : Program) (d : StationDef), n ≤ 63 → s.program = some p → stationDef p n = some d →
      s.standsAt core k c ([0xFE, 0x42] ++ bytesLE 1 n) →
      exec (.bavinStnenable core n) s = .next ((s.went k c 3 st).stationEnable p n (isTrue v))) ∧
    (∀ n, n ≤ 3 → s.standsAt core k c ([0xFE, 0x50] ++ bytesLE 1 n) → exec (.bavinRaise core n) s =
      .next (s.setCtx k (({ c with pc := c.pc + 3, stack := st } : TaskCtx).defer (.raiseUser n v.toNat)))) ∧
    (∀ n, n ≤ 7 → s.standsAt core k c ([0xFF, 0x06] ++ bytesLE 1 n) → exec (.bavinXinset core n) s =
      .next (s.setCtx k (({ c with pc := c.pc + 3, stack := st } : TaskCtx).defer (.xin n (realQ23 (valReal v)))))) ∧
    (s.standsAt core k c [0xFF, 0x07] → exec (.bavinOutreq core) s =
      .next (s.setCtx k (({ c with pc := c.pc + 2, stack := st } : TaskCtx).defer (.outReq (v.toNat % 16))))) ∧
    (∀ f, f ≤ 8 → s.standsAt core k c ([0xFF, 0x00] ++ bytesLE 1 f) → exec (.bavinCellget core f) s =
      .next (s.went k c 3 (ofReal (s.cellGet c.record v.toNat f) :: st))) ∧
    (∀ x, s.cellFlags c.record v.toNat = some x → s.standsAt core k c [0xFF, 0x01] → exec (.bavinCellflags core) s =
      .next (s.went k c 2 (BitVec.ofNat 64 x :: st))) ∧
    (s.cellFlags c.record v.toNat = none → s.standsAt core k c [0xFF, 0x01] → exec (.bavinCellflags core) s =
      .next (s.went k c 2 (extend 3 s.freeWord.toNat :: st)).drawn) ∧
    (∀ f, f ≤ 6 → s.standsAt core k c ([0xFF, 0x02] ++ bytesLE 1 f) → exec (.bavinNodeget core f) s =
      .next (s.went k c 3 (ofReal (s.nodeGet c.record v.toNat f) :: st))) ∧
    (∀ w : Word, (s.busRead .bavin (1 + core) (v.toNat % 2 ^ 32)).1 = some w → s.standsAt core k c [0xFE, 0x58] →
      (s.went k c 2 (w.setWidth 64 :: st)).programParity core (v.toNat % 2 ^ 32) = none →
      (((s.went k c 2 (w.setWidth 64 :: st)).busRead .bavin (1 + core) (v.toNat % 2 ^ 32)).1).isSome = true →
      exec (.bavinRdreg core) s =
        .next ((s.went k c 2 (w.setWidth 64 :: st)).busRead .bavin (1 + core) (v.toNat % 2 ^ 32)).2)) ∧
  (∀ (v a : Quad) (st : List Quad), c.stack = v :: a :: st → s.standsAt core k c [0xFE, 0x59] →
    (∀ u, (s.went k c 2 st).busWrite .bavin (a.toNat % 2 ^ 32) (v.setWidth 32) = some u →
      exec (.bavinWrreg core) s = .next u) ∧
    ((s.went k c 2 st).busWrite .bavin (a.toNat % 2 ^ 32) (v.setWidth 32) = none →
      exec (.bavinWrreg core) s = .next ((s.went k c 2 st).runtimeFault k 3 0 c.pc))) ∧
  (∀ n, 16 ≤ n → n ≤ 47 → s.standsAt core k c ([0xFE, 0x51] ++ bytesLE 1 n) → exec (.bavinTrigger core n) s =
    .next (s.setCtx k (({ c with pc := c.pc + 3 } : TaskCtx).defer (.trigger n)))) ∧
  (∀ f, f ≤ 14 → s.standsAt core k c ([0xFF, 0x03] ++ bytesLE 1 f) → exec (.bavinStrget core f) s =
    .next (s.went k c 3 (ofReal (s.stringGet c.record f) :: c.stack))) ∧
  (s.standsAt core k c [0xFF, 0x04] →
    exec (.bavinStrstate core) s = .next (s.went k c 2 (BitVec.ofNat 64 s.stringState :: c.stack))) ∧
  (∀ n, n ≤ 15 → s.standsAt core k c ([0xFF, 0x05] ++ bytesLE 1 n) → exec (.bavinSloty core n) s =
    .next (s.went k c 3 (ofReal (f32OfRat (s.q23 (Reg.CTL_SLOT_Y n)) 0x800000) :: c.stack))) ∧
  (s.standsAt core k c [0xFF, 0x08] → exec (.bavinAcksafe core) s =
    .next (s.setCtx k (({ c with pc := c.pc + 2 } : TaskCtx).defer .ackSafe)))


/-! The command channel. -/

/-- Commands of a session (R355 to R370, Table 11.5): a command that a session takes executes at once as its
operation's number, by the function of its opcode, and is acknowledged while its operation stays open. -/
def Obligations.CommandsExecute : Prop :=
  ∀ (s : State) (i : Nat) (v : Session) (p : CmdPacket), s.takesNow i v p → ∃ (b : State) (d : Nat), b = s.begun i v p ∧
  d = s.cmd.nextOp ∧
  (p.opcode = 0x02 → exec (.cmdBye p) s = .next ((b.byeCmd i d p.params).acknowledged i d p)) ∧
  (p.opcode = 0x06 → exec (.cmdCancel p) s = .next ((b.cancelCmd i d p.params).acknowledged i d p)) ∧
  (p.opcode = 0x10 → exec (.cmdDeviceInfo p) s = .next ((b.deviceInfo d p.params).acknowledged i d p)) ∧
  (p.opcode = 0x11 → exec (.cmdStateRead p) s = .next ((b.stateRead d p.params).acknowledged i d p)) ∧
  (p.opcode = 0x12 → exec (.cmdTableInfo p) s = .next ((b.tableInfo d p.params).acknowledged i d p)) ∧
  (p.opcode = 0x13 → exec (.cmdRegRead p) s = .next ((b.regReadCmd d p.params).acknowledged i d p)) ∧
  (p.opcode = 0x14 → exec (.cmdRegWrite p) s = .next ((b.regWriteCmd d p.params).acknowledged i d p)) ∧
  (p.opcode = 0x15 → exec (.cmdMemRead p) s = .next ((b.memRead d p.params).acknowledged i d p)) ∧
  (p.opcode = 0x20 → exec (.cmdRun p) s = .next ((b.runCmd d p.params).acknowledged i d p)) ∧
  (p.opcode = 0x21 → exec (.cmdStop p) s = .next ((b.stopCmd d p.params).acknowledged i d p)) ∧
  (p.opcode = 0x22 → exec (.cmdResume p) s = .next ((b.resumeCmd d p.params).acknowledged i d p)) ∧
  (p.opcode = 0x23 → exec (.cmdAcknowledge p) s = .next ((b.acknowledgeCmd d p.params).acknowledged i d p)) ∧
  (p.opcode = 0x24 → exec (.cmdShutdown p) s = .next ((b.shutdownCmd d p.params).acknowledged i d p)) ∧
  (p.opcode = 0x30 → exec (.cmdDispatch p) s = .next ((b.dispatchCmd d p.params).acknowledged i d p)) ∧
  (p.opcode = 0x31 → exec (.cmdBurst p) s = .next ((b.burstCmd d p.params).acknowledged i d p)) ∧
  (p.opcode = 0x40 → exec (.cmdSymbolRead p) s = .next ((b.symbolRead d p.params).acknowledged i d p)) ∧
  (p.opcode = 0x41 → exec (.cmdSymbolWrite p) s = .next ((b.symbolWrite d p.params).acknowledged i d p)) ∧
  (p.opcode = 0x42 → exec (.cmdForceSet p) s = .next ((b.forceSet d p.params).acknowledged i d p)) ∧
  (p.opcode = 0x43 → exec (.cmdForceClear p) s = .next ((b.forceClear d p.params).acknowledged i d p)) ∧
  (p.opcode = 0x44 → exec (.cmdForceList p) s = .next ((b.forceList d p.params).acknowledged i d p)) ∧
  (p.opcode = 0x45 → exec (.cmdChange p) s = .next ((b.changeCmd d p.params).acknowledged i d p)) ∧
  (p.opcode = 0x50 → exec (.cmdNodeConfigRead p) s = .next ((b.nodeConfigRead d p.params).acknowledged i d p)) ∧
  (p.opcode = 0x51 → exec (.cmdNodeStatus p) s = .next ((b.nodeStatus d p.params).acknowledged i d p)) ∧
  (p.opcode = 0x52 → exec (.cmdEnumerate p) s = .next ((b.enumerateCmd d p.params).acknowledged i d p)) ∧
  (p.opcode = 0x58 → exec (.cmdLearnedReset p) s = .next ((b.learnedReset d p.params).acknowledged i d p)) ∧
  (p.opcode = 0x59 → exec (.cmdEstCmd p) s = .next ((b.estCmd d p.params).acknowledged i d p)) ∧
  (p.opcode = 0x60 → exec (.cmdImageBegin p) s = .next ((b.imageBeginCmd d p.params).acknowledged i d p)) ∧
  (p.opcode = 0x61 → exec (.cmdImageBlock p) s = .next ((b.imageBlockCmd d p.params).acknowledged i d p)) ∧
  (p.opcode = 0x62 → exec (.cmdImageVerify p) s = .next ((b.imageVerifyCmd d p.params).acknowledged i d p)) ∧
  (p.opcode = 0x63 → exec (.cmdImageAbort p) s = .next ((b.imageAbortCmd d p.params).acknowledged i d p)) ∧
  (p.opcode = 0x70 → exec (.cmdRecorderRead p) s = .next ((b.recorderRead d p.params).acknowledged i d p)) ∧
  (p.opcode = 0x80 → exec (.cmdConfigRead p) s = .next ((b.configReadCmd d p.params).acknowledged i d p)) ∧
  (p.opcode = 0x81 → exec (.cmdConfigWrite p) s = .next ((b.configWriteCmd d p.params).acknowledged i d p)) ∧
  (p.opcode = 0x82 → exec (.cmdConfigCommit p) s = .next ((b.configCommit d p.params).acknowledged i d p)) ∧
  (p.opcode = 0x90 → exec (.cmdOwnerEnrol p) s = .next ((b.ownerEnrol i d p.params).acknowledged i d p)) ∧
  (p.opcode = 0x91 → exec (.cmdOwnerOpen p) s = .next ((b.ownerOpen i d p.params).acknowledged i d p)) ∧
  (p.opcode = 0x92 → exec (.cmdOwnerAuth p) s = .next ((b.ownerAuth i d p.params).acknowledged i d p)) ∧
  (p.opcode = 0x93 → exec (.cmdOwnerCmd p) s = .next ((b.ownerCmd i d p.params).acknowledged i d p))

/-- Packets and queries (R346 to R357, R363, R366, R373, R374): while the channel is closed nothing is taken; a bad
CRC and a missing session are counted; HELLO binds a session in the version agreed, PING and the other queries answer at
once, each reply one further in the device's sequence; RUN and STOP complete with what they did; held commands, an idle
session and a throttle end by their timers. -/
def Obligations.PacketsAndQueries : Prop :=
  (∀ (s : State) (p : CmdPacket), s.channelOn p = false → exec (.cmdHello p) s = .next s ∧ exec (.cmdPing p) s =
    .next s ∧
    exec (.cmdRun p) s = .next s) ∧
  (∀ (s : State) (uart ipv6 : Bool) (peer port : Nat) (b : Bytes),
    s.channelOn (packetOf uart ipv6 peer port b) = false → exec (.cmdInvalidPacket uart ipv6 peer port b) s = .next s) ∧
  (∀ (s : State) (p : CmdPacket), p.opcode ≠ 0x01 → exec (.cmdHello p) s = .next s) ∧
  (∀ (s : State) (uart ipv6 : Bool) (peer port : Nat) (b : Bytes), s.wf →
    s.channelOn (packetOf uart ipv6 peer port b) = true → packetCrcOk b = false → ∃ t : State,
    exec (.cmdInvalidPacket uart ipv6 peer port b) s = .next t ∧ t = { s with regs := t.regs } ∧
    t.fld Reg.CMD_ERR 31 16 = min 0xFFFF (s.fld Reg.CMD_ERR 31 16 + 1)) ∧
  (∀ (s : State) (uart ipv6 : Bool) (peer port : Nat) (b : Bytes) (p : CmdPacket), p = packetOf uart ipv6 peer port b →
    s.channelOn p = true → packetCrcOk b = true → s.sessionOf p = none → p.opcode ≠ 0x01 →
    exec (.cmdInvalidPacket uart ipv6 peer port b) s =
      .next ((s.incFld Reg.CMD_ERR 15 0).bareReply p p.version St.NO_SESSION [])) ∧
  (∀ (s : State) (uart ipv6 : Bool) (peer port : Nat) (b : Bytes) (p : CmdPacket) (i : Nat) (v : Session),
    p = packetOf uart ipv6 peer port b → s.channelOn p = true → packetCrcOk b = true → s.sessionOf p = some (i, v) →
    v.throttled = false → packetBadForm b = true →
    exec (.cmdInvalidPacket uart ipv6 peer port b) s = .next (s.violate i 1 St.MALFORMED p)) ∧
  (∀ (s : State) (p : CmdPacket), p.opcode = 0x01 → s.channelOn p = true → s.sessionOf p = none →
    malformed p false none = false → exec (.cmdHello p) s = .next (s.hello p)) ∧
  (∀ (s : State) (p : CmdPacket) (lo version host i : Nat) (held : Option Session), p.opcode = 0x01 →
    s.channelOn p = true → s.sessionOf p = none → malformed p false none = false → p.params.length = 12 →
    lo = max 1 (fieldLE p.params 0 1) → version = min 3 (fieldLE p.params 1 1) → lo ≤ version →
    host = fieldLE p.params 4 8 → s.helloSession p version host = some (i, held) →
    ∃ (t : State) (w : Session), exec (.cmdHello p) s = .next t ∧ t.session i = some w ∧ w.bound = true ∧
      w.version = version ∧ w.hostId = host ∧ w.uart = p.uart ∧ w.peer = p.peer ∧ w.port = p.port) ∧
  (∀ (s : State) (p : CmdPacket) (i : Nat) (v : Session), s.channelOn p = true → s.sessionOf p = some (i, v) →
    s.throttles v = false → v.throttled = false → malformed p false (some v.version) = false →
    opOffered p.opcode v.version = true → s.supply.bootHeld = false → ∃ (u : State) (w : Session),
      w = { v with hostAcked := p.aseq } ∧ u = s.setSession i w ∧
      (p.opcode = 0x05 → p.params.length ≤ 64 → exec (.cmdPing p) s = .next (u.queryReply (some i) p St.OK p.params)) ∧
      (p.opcode = 0x05 → 64 < p.params.length → exec (.cmdPing p) s = .next (u.queryReply (some i) p St.BAD_PARAM [])) ∧
      (p.opcode = 0x04 → p.params = [] → exec (.cmdSeqState p) s =
        .next (u.queryReply (some i) p St.OK ((u.helloBytes i w false).drop 12))) ∧
      (p.opcode = 0x03 → exec (.cmdResultRead p) s = .next (u.resultRead i w p)) ∧
      (∀ status body, ∃ (t : State) (x : Session), t = u.queryReply (some i) p status body ∧ t.session i = some x ∧
        x.nextDseq = (v.nextDseq + 1) % 2 ^ 32 ∧ ∃ bytes, bytes = devicePacket v.version 8 (p.tag % 512) 0 v.lastAccepted
          p.opcode status 0 v.nextDseq body ∧
          t.out = (if v.uart = true then .uart (slip bytes) else .udp v.peer v.port bytes) :: s.out) ∧
      (∀ tag r, p.opcode = 0x03 → p.params.length = 2 → tag = fieldLE p.params 0 2 → tag ≤ 511 →
        (∀ o ∈ s.cmd.ops, o.sess = some i → o.tag ≠ tag) → w.results.find? (fun x => x.1 == tag) = some (tag, r) →
        ∃ (t : State) (bytes : Bytes), exec (.cmdResultRead p) s = .next t ∧ bytes = devicePacket v.version
          (8 + 4 * b2n r.delivered) tag 0 v.lastAccepted p.opcode r.status r.rseq v.nextDseq r.bytes ∧
          t.out = (if v.uart = true then .uart (slip bytes) else .udp v.peer v.port bytes) :: s.out)) ∧
  (∀ (s : State) (d : Nat), s.mayRun = true → s.runCmd d [] = s.hostRun.complete d St.OK []) ∧
  (∀ (s : State) (d : Nat), s.mayRun = false → s.runCmd d [] = s.complete d St.REFUSED []) ∧
  (∀ (s : State) (d : Nat), s.stopCmd d [] = s.stopRequest.complete d St.OK []) ∧
  (∀ (s : State) (i : Nat), s.session i = none → exec (.cmdHoldTimeout i) s = .next s ∧
    exec (.throttleEnd i) s = .next s) ∧
  (∀ (s : State) (i : Nat) (v : Session), s.session i = some v →
    (v.held = [] → exec (.cmdHoldTimeout i) s = .next s) ∧
    (∀ q, v.held = [q] → s.vampOn = true → exec (.cmdHoldTimeout i) s =
      .next (((s.setSession i { v with held := [] }).skipHeld i q).countViolation i 3 q.tag)) ∧
    (v.held ≠ [] → s.vampOn = true → ∃ (t : State) (w : Session), exec (.cmdHoldTimeout i) s = .next t ∧
      t.session i = some w ∧ w.held = [] ∧ w.lastAccepted = v.lastAccepted) ∧
    (v.throttled = false → exec (.throttleEnd i) s = .next s) ∧
    (v.throttled = true → s.vampOn = true → ∃ (t u : State) (w : Session) (l : List Nat),
      l = v.viols.filter (fun t => decide (s.monoNs < t + 1000000000)) ∧
      w = { v with throttled := false, taken := none, viols := l } ∧
      u = (s.setSession i w).setFld (Reg.CMD_SESS_VIOL i) 23 16 (min 255 l.length) ∧
      t = u.showThrottle.throttleEvent i false l.length ∧ exec (.throttleEnd i) s = .next t ∧
      t.session i = some w)) ∧
  (∀ (s : State) (i : Nat), s.vampOn = false → exec (.sessionHoldExpiry i) s = .next s) ∧
  ∀ (s : State) (i : Nat) (v : Session), s.vampOn = true → s.session i = some v → ∃ t : State,
    exec (.sessionHoldExpiry i) s = .next t ∧ t = (s.dropSession i).sessionEvent 3 v.version i ∧ t.session i = none


/-! DMA, memory, network, time, CAN, storage and redundancy. -/

/-- DMA and memory (R379, R383 to R399): a channel's control is refused to whoever may not write it and acts
otherwise; requests reach the bound channel; bursts go to the ready channels 0 to 7 before 8 to 15 and in turns within
each group; a completion, a stall and a bus error act on the descriptor in hand; parity errors are recorded and answered
by requester. Where the turns begin after reset is assumption 243. -/
def Obligations.DmaAndMemory : Prop :=
  (∀ (s : State) (n : Nat) (who : Requester) (v : Word), s.vampOn = true →
    (16 ≤ n → exec (.dmaAlloc n who) s = .next s) ∧
    (n < 16 → chanDenied n who = true → ∃ u : State, u = s.emit (.errorResponse (Reg.DMA_CH_CTRL n)) ∧
      exec (.dmaAlloc n who) s = .next u ∧ exec (.dmaFree n who) s = .next u ∧ exec (.dmaStart n who) s = .next u ∧
      exec (.dmaKick n who) s = .next u ∧ exec (.dmaAbort n who) s = .next u ∧ exec (.dmaDisable n who) s = .next u) ∧
    (n < 16 → chanDenied n who = false → exec (.dmaAlloc n who) s = .next (s.dmaAlloc n) ∧
      exec (.dmaFree n who) s = .next (s.dmaFree n) ∧ exec (.dmaStart n who) s = .next (s.dmaStart n) ∧
      exec (.dmaCqTailWrite n v who) s = .next (s.dmaCqTail n (getBits v 11 0)) ∧
      exec (.dmaDisable n who) s = .next (s.dmaDisable n) ∧
      (s.chanState n = 2 → exec (.dmaKick n who) s = .next (s.dmaFetchNext n)) ∧
      (s.chanState n ≠ 2 → exec (.dmaKick n who) s = .next (s.setChan n { s.chan n with kick := true })) ∧
      (s.chanState n = 0 ∨ s.chanState n = 5 → exec (.dmaAbort n who) s = .next s) ∧
      (s.chanState n ≠ 0 → s.chanState n ≠ 5 → (s.chan n).issued = false →
        exec (.dmaAbort n who) s = .next (s.dmaStop n 6)) ∧
      (s.chanState n ≠ 0 → s.chanState n ≠ 5 → (s.chan n).issued = true →
        exec (.dmaAbort n who) s = .next (s.setChan n { s.chan n with abort := true })))) ∧
  (∀ s : State, s.vampOn = true → exec (.dmaSwreq 0) s = .next s ∧ exec (.dmaSwreq 1) s = .next (s.dmaRequest 45) ∧
    exec (.dmaSwreq 2) s = .next (s.dmaRequest 46) ∧ exec (.dmaSwreq 4) s = .next (s.dmaRequest 47)) ∧
  (∀ (s : State) (l : Nat), (s.vampOn = true → l < 48 → exec (.dmaRequestStrobe l) s = .next (s.dmaRequest l)) ∧
    (48 ≤ l → exec (.dmaRequestStrobe l) s = .next s)) ∧
  (∀ (s : State) (n : Nat) (d : List Word), (s.chan n).desc = some d → s.vampOn = true →
    (s.dmaTurn = some n → exec (.dmaBurst n) s = .next ((s.dmaTook n).burst n d)) ∧
    (s.dmaTurn ≠ some n → exec (.dmaBurst n) s = .next s)) ∧
  (∀ (s : State) (m : Nat), s.dmaTurn = some m → s.dmaReady m = true ∧ m < 16 ∧ ∀ n, s.dmaReady n = true →
    (n < 8 → m < 8) ∧
    (n < 8 → m < 8 → s.dma.lastLow < 8 → (m + 7 - s.dma.lastLow) % 8 ≤ (n + 7 - s.dma.lastLow) % 8) ∧
    (8 ≤ n → n < 16 → 8 ≤ m → s.dma.lastHigh < 8 →
      (m + 7 - s.dma.lastHigh) % 8 ≤ (n + 7 - s.dma.lastHigh) % 8)) ∧
  (∀ (s : State) (n : Nat), (s.chan n).desc = none → exec (.dmaBurst n) s = .next s) ∧
  (∀ (s : State) (n : Nat), ((s.chan n).issued = false → exec (.dmaDescriptorComplete n) s = .next s) ∧
    (s.vampOn = true → n < 16 → (s.chan n).issued = true → exec (.dmaDescriptorComplete n) s =
      .next (s.dmaComplete n))) ∧
  (∀ (s : State) (n : Nat), s.chanState n ≠ 3 → exec (.dmaStallLimit n) s = .next s) ∧
  (∀ (s : State) (n : Nat), s.wf → s.vampOn = true → n < 16 → s.chanState n = 3 → (s.chan n).stalled = false →
    ∃ t : State, exec (.dmaStallLimit n) s = .next t ∧ t.pend Src.DMA_STALL = true ∧ t.bit Reg.DMA_STAT 1 = true) ∧
  (∀ (s : State) (n : Nat) (a : Word) (w r : Bool), s.vampOn = true → n < 16 →
    exec (.dmaBusError n a w r) s = .next (s.dmaBusError n a.toNat w r)) ∧
  (∀ s : State, s.vampOn = true → exec .dmaFirmwareRestart s =
    .next ((s.dma.recovering.filter (· < 8)).foldl (fun t n => t.dmaStart n) s)) ∧
  (∀ (s : State) (q : Nat) (a : Word) (ic : Bool) (ch : Nat), s.vampOn = true → q < 8 → 0x20000000 ≤ a.toNat →
    a.toNat < gsramEnd → ∃ u : State, u = s.dataParity q a.toNat ic ∧
      (q = 1 → exec (.gsramParityError q a ic ch) s = .next (u.coreError 0)) ∧
      (q = 2 → exec (.gsramParityError q a ic ch) s = .next (u.coreError 1)) ∧
      (q = 3 → ch < 16 → exec (.gsramParityError q a ic ch) s = .next (u.dmaBusError ch a.toNat false false)) ∧
      (q = 6 → exec (.gsramParityError q a ic ch) s = .next (u.emit (.errorResponse a.toNat))) ∧
      (q = 0 ∨ q = 4 ∨ q = 5 ∨ q = 7 → exec (.gsramParityError q a ic ch) s = .next u)) ∧
  (∀ (s : State) (a : Word), s.wf → s.vampOn = true → ∃ t : State, exec (.codeParityError 1 a false) s = .next t ∧
    t.pend Src.MEM_PARITY_CODE = true ∧ t.bit Reg.MEM_STAT 0 = true ∧
    t.fld Reg.MEM_CODE_INFO 9 5 = min 31 (s.fld Reg.MEM_CODE_INFO 9 5 + 1)) ∧
  (∀ (s : State) (a : Word), s.vampOn = true → ∃ u : State,
    exec (.codeParityError 0 a true) s = .next (u.beginBoot 2 false) ∧
    ∃ t : State, exec (.codeParityError 2 a true) s = .next t ∧ t.prg.halted.contains 1 = true) ∧
  ∀ s : State, s.wf → s.vampOn = true → ∃ t : State, exec (.scrubPass []) s = .next t ∧
    t.fld Reg.MEM_SCRUB 31 16 = (s.fld Reg.MEM_SCRUB 31 16 + 1) % 0x10000 ∧
    t.fld Reg.MEM_SCRUB 15 0 = s.fld Reg.MEM_SCRUB 15 0

/-- Network and time (R402 to R425, R50): a changed link is shown and strobes; frames with a bad FCS or size are
counted, and a good one stands in its ring; sent descriptors are written back; captures, alarms, the PLANT second, the
servo's inputs and its losses, the
peer delay and the hold-offs have the effects stated. -/
def Obligations.NetworkAndTime : Prop :=
  (∀ (s : State) (p m : Nat) (sig sync : Bool) (v : Option Nat), p < 2 →
    m = (if p = 0 then s.fld Reg.ETH_CONFIG 31 30 else s.fld Reg.ETH_CONFIG 29 28) →
    (m = 0 → exec (.ethLinkChange p sig sync v) s = .next s) ∧
    (s.wf → s.vampOn = true → m ≠ 0 → s.linkUp p = false → s.linkCause p sig sync v = none → ∃ t : State,
      exec (.ethLinkChange p sig sync v) s = .next t ∧ t.linkUp p = true ∧ t.pend (Src.ETH_LINK_A + p) = true ∧
      t.bit Reg.ETH_STAT p = true) ∧
    (∀ c, s.wf → s.vampOn = true → m ≠ 0 → s.linkUp p = true → s.linkCause p sig sync v = some c → ∃ t : State,
      exec (.ethLinkChange p sig sync v) s = .next t ∧ t.linkUp p = false ∧ t.pend (Src.ETH_LINK_A + p) = true ∧
      t.bit Reg.ETH_STAT p = true)) ∧
  (∀ (s : State) (p : Nat) (sync : Bool) (v : Option Nat), s.linkCause p false sync v = some 4 ∧
    s.linkCause p true false v = some 1 ∧ (s.negotiates p = false → s.linkCause p true true v = none) ∧
    (s.negotiates p = true → s.linkCause p true true none = some 2)) ∧
  (∀ (s : State) (p : Nat) (f : Bytes) (w : Word), s.vampOn = true → p < 2 → s.linkUp p = true → ∃ r : Nat,
    r = (if p = 0 then Reg.ETH_RXA_ERR else Reg.ETH_RXB_ERR) ∧
    (crc32 f ≠ w → exec (.ethFrameReceive p f w) s = .next (s.incFld r 31 16)) ∧
    (crc32 f = w → f.length < 60 ∨ 1536 < f.length → exec (.ethFrameReceive p f w) s = .next (s.incFld r 15 0))) ∧
  (∀ (s : State) (f : Bytes), s.vampOn = true → s.linkUp 0 = true → 60 ≤ f.length → f.length ≤ 1536 →
    s.accepts (f.take 6) = true → fieldBE f 12 2 ≠ 0x8100 → fieldBE f 12 2 ≠ 0x8808 → fieldBE f 12 2 ≠ 0x88F7 →
    fieldBE f (f.length - 2) 2 ≠ 0x88FB → 0 < s.eth.rxOwnA → ∃ (t : State) (x : EthRx),
      exec (.ethFrameReceive 0 f (crc32 f)) s = .next t ∧ t.eth.rxDone = s.eth.rxDone ++ [x] ∧ x.frame = f ∧
      x.rct = false ∧ x.ptp = false ∧ x.vlan = 0 ∧ x.mono = s.tim.mono ∧ x.plant = s.tim.plant ∧
      t.eth.rxOwnA = s.eth.rxOwnA - 1) ∧
  (∀ (s : State) (p : Nat) (f : Bytes) (w : Word), s.linkUp p = false → exec (.ethFrameReceive p f w) s = .next s) ∧
  (∀ (s : State) (p : Nat) (ts : Bool) (f : Bytes) (w : Word) (un : Bool), s.vampOn = true → p < 2 →
    ∃ (u : State) (d : EthTxDone),
    exec (.ethTxComplete false p ts f w un) s = .next ((u.ethCount p true).dmaRequest (34 + p)) ∧
    u.eth.txDone = s.eth.txDone ++ [d] ∧ d.user = w ∧
    d.status = if s.linkUp p = true then (if un = true then 2 else 0) else 1) ∧
  (∀ s : State, s.vampOn = true → ∃ b : Bytes, exec .prpSupervisionSend s =
    .next (s.sendPair (s.ethFrame [0x01, 0x15, 0x4E, 0x00, 0x01, 0x00] 0x88FB true b))) ∧
  (∀ s : State, s.vampOn = true → ∃ t : State, exec .prpNodeAgeOut s = .next t ∧
    t.eth.nodes = s.eth.nodes.filter (fun n => decide (s.monoNs - n.2 < 60000000000))) ∧
  (∀ (s : State) (p : Nat), (s.vampOn = true → p < 2 → s.linkUp p = true → s.lanAt p < s.lanAt (1 - p) →
    exec (.prpPathLossTimeout p) s = .next (s.setLan p true)) ∧
    (s.linkUp p = false → exec (.prpPathLossTimeout p) s = .next s)) ∧
  (∀ s : State, s.vampOn = true → exec .timCapture s = .next { s with tim := { s.tim with capture := s.bases } }) ∧
  (∀ (s : State) (k past : Nat), s.vampOn = true → k < 2 → s.bit (Reg.TIM_ALARM_CFG k) 31 = true →
    (s.alarmPast k = some past → exec (.timAlarmFire k) s = .next (s.alarmFire k false)) ∧
    (s.alarmPast k = none → exec (.timAlarmFire k) s = .next s)) ∧
  (∀ (s : State) (k : Nat), s.bit (Reg.TIM_ALARM_CFG k) 31 = false → exec (.timAlarmFire k) s = .next s) ∧
  (∀ s : State, s.vampOn = true → ∃ u : State,
    u = (s.strobe Src.TIM_PPS (b2n s.plantValid * 2 ^ 23 + s.tim.plant.sec % 2 ^ 23)).dmaRequest 38 ∧
    (s.bit Reg.TIM_PPS_CFG 31 = false → exec .plantSecond s = .next u) ∧
    (s.bit Reg.TIM_PPS_CFG 31 = true → s.plantValid = true →
      exec .plantSecond s = .next { u with tim := { u.tim with ppsOut := true } })) ∧
  (∀ s : State, s.vampOn = true → exec .ppsPulseEnd s = .next { s with tim := { s.tim with ppsOut := false } }) ∧
  (∀ (s : State) (p d o r : Nat) (c : Int), (d ≠ s.cfgN 7 11 0 0 ∨ s.acceptable p = false →
      exec (.ptpSyncReceive p d o c r) s = .next s) ∧
    (s.vampOn = true → d = s.cfgN 7 11 0 0 → p < 2 → s.acceptable p = true →
      p = s.slavePort ∨ s.announceOf s.slavePort = none → ∃ u : State,
      u = (s.setFld Reg.TIM_SERVO 29 29 p).wr Reg.TIM_PATH_DELAY (BitVec.ofNat 32 (s.peerDelay p)) ∧
      exec (.ptpSyncReceive p d o c r) s = .next (u.servoOffset
        ((r : Int) - (o + c + s.peerDelay p + signed 32 (s.cfgN 7 12 p 0)))))) ∧
  (∀ (s : State) (p d : Nat) (a : Announce), (d ≠ s.cfgN 7 11 0 0 → exec (.ptpAnnounceReceive p d a) s = .next s) ∧
    (s.vampOn = true → d = s.cfgN 7 11 0 0 → s.tim.announceB = none → s.tim.gm = none → a.clockClass ≤ s.syncClassMax →
      ∃ t : State, exec (.ptpAnnounceReceive 0 d a) s = .next t ∧ t.tim.gm = some a.gmId ∧
        t.tim.announceA = some a)) ∧
  (∀ s : State, s.vampOn = true → ∃ t : State, exec .ptpPdelayReqSend s = .next t ∧
    t.tim.pdelayT1A = s.tim.plant.total ∧
    t.tim.pdelayT1B = s.tim.plant.total ∧ t.tim.pdelaySeqA = (s.tim.pdelaySeqA + 1) % 0x10000 ∧
    t.tim.pdelaySeqB = (s.tim.pdelaySeqB + 1) % 0x10000) ∧
  (∀ (s : State) (p q : Nat) (b : Bytes), s.vampOn = true → ∃ (u : State) (f g : Bytes), u = s.sendOn p f ∧
    exec (.ptpPdelayReqReceive p q b) s = .next (u.sendOn p g)) ∧
  (∀ (s : State) (q t2 t3 t4 : Nat) (c : Int), s.vampOn = true → s.tim.pdelaySeqA = (q + 1) % 0x10000 → ∃ t : State,
    exec (.ptpPdelayRespReceive 0 q t2 t3 c t4) s = .next t ∧
    t.tim.peerDelayA = (((t4 : Int) - s.tim.pdelayT1A - ((t3 : Int) - t2) - c) / 2).toNat) ∧
  (∀ (s : State) (p : Nat), s.vampOn = true → ∃ u : State,
    u = (if p = 0 then { s with tim := { s.tim with announceA := none } }
         else { s with tim := { s.tim with announceB := none } }) ∧
    (u.acceptable 0 = true ∨ u.acceptable 1 = true → exec (.ptpAnnounceTimeout p) s = .next u.selectMaster) ∧
    (u.acceptable 0 = false → u.acceptable 1 = false → exec (.ptpAnnounceTimeout p) s = .next (u.loseSource 2))) ∧
  (∀ s : State, s.vampOn = true → exec .ptpSyncTimeout s = .next (s.loseSource 0)) ∧
  (∀ s : State, s.servo ≠ 3 → exec .holdoverBoundExceeded s = .next s ∧ exec .holdoverTempOutOfRange s = .next s) ∧
  (∀ s : State, s.vampOn = true → s.servo = 3 → s.plantValid = true → ∃ (h : Holdover) (u : State),
    h = { s.tim.hold with passed := s.validLimit + 1 } ∧ u = { s with tim := { s.tim with hold := h } } ∧
    exec .holdoverBoundExceeded s = .next ((u.setValid false).strobeHoldover 4)) ∧
  (∀ s : State, s.wf → s.vampOn = true → s.servo = 3 → s.tim.sigmaDoubled = false → ∃ t : State,
    exec .holdoverTempOutOfRange s = .next t ∧ t.bit Reg.TIM_STAT 8 = true ∧ t.pend Src.TIM_HOLDOVER = true ∧
    t.tim.sigmaDoubled = true ∧ t.tim.hold.doubledNs = s.monoNs) ∧
  (∀ s : State, s.servo ≠ 2 → exec .oscModelStore s = .next s) ∧
  (∀ s : State, s.wf → s.vampOn = true → s.servo = 2 → ∃ t : State, exec .oscModelStore s = .next t ∧
    t.cfg.deviceWrite = true ∧
    t.free = s.free + 2 ∧ t.fld Reg.TIM_MODEL 15 0 = min 0xFFFF (s.fld Reg.TIM_MODEL 15 0 + 1)) ∧
  (∀ s : State, s.vampOn = true → (s.eth.rxCountA = 0 →
      exec (.ethEventHoldoffEnd 0 false) s = .next { s with eth := { s.eth with rxHoldA := false } }) ∧
    (s.eth.rxCountA ≠ 0 → exec (.ethEventHoldoffEnd 0 false) s =
      .next (({ s with eth := { s.eth with rxCountA := 0 } } : State).strobe Src.ETH_RX s.eth.rxCountA)) ∧
    (s.eth.txCountB = 0 →
      exec (.ethEventHoldoffEnd 1 true) s = .next { s with eth := { s.eth with txHoldB := false } }) ∧
    (s.eth.txCountB ≠ 0 → exec (.ethEventHoldoffEnd 1 true) s = .next (({ s with eth := { s.eth with
      txCountB := 0 } } : State).strobe Src.ETH_TX_DONE (0x10000 + s.eth.txCountB)))) ∧
  ∀ (s : State) (p : Nat) (up : Bool), s.wf → isPort p = true → (s.chainOn = false →
      exec (.tetherLinkChange p up) s = .next s) ∧
    (s.chainOn = true → ∃ t : State, exec (.tetherLinkChange p up) s = .next t ∧ t.bit (portStat p) 8 = up)

/-- The CAN controllers (R427, R430 to R432, R436 to R445): a frame reaches an awake controller that runs, or wakes a
sleeping one; windows latch and release; a push takes the lowest free slot; requests, cancellations, completions,
errors, bus-off, sleep, waking and the reference of TTCAN have the effects stated. -/
def Obligations.CanCommands : Prop :=
  (∀ (s : State) (n id dlc ago : Nat) (ide rtr fdf brs esi : Bool) (data : Bytes),
    (s.canRuns n = false → exec (.canFrameReceive n id ide rtr fdf brs esi dlc data ago) s = .next s) ∧
    (2 ≤ s.fld (Reg.CAN_ERR n) 31 30 → exec (.canFrameReceive n id ide rtr fdf brs esi dlc data ago) s = .next s) ∧
    (s.vampOn = true → s.canRuns n = true → s.fld (Reg.CAN_ERR n) 31 30 < 2 →
      fdf = false ∨ s.bit (Reg.CAN_MODE n) 29 = true →
      ((s.canCtl n).sleeping = false → exec (.canFrameReceive n id ide rtr fdf brs esi dlc data ago) s =
        .next (s.canReceive n id ide rtr fdf brs esi dlc ago data)) ∧
      ((s.canCtl n).sleeping = true → s.bit (Reg.CAN_MODE n) 26 = true → s.isWakeFrame n id ide rtr = true →
        exec (.canFrameReceive n id ide rtr fdf brs esi dlc data ago) s =
          .next ((s.canWake n 1).canReceive n id ide rtr fdf brs esi dlc ago data)) ∧
      ((s.canCtl n).sleeping = true → s.bit (Reg.CAN_MODE n) 26 = false →
        exec (.canFrameReceive n id ide rtr fdf brs esi dlc data ago) s = .next s))) ∧
  (∀ (s : State) (n w : Nat), s.vampOn = true → n < 4 → w < 10 → exec (.canRxLatch n w) s = .next (s.canLatch n w) ∧
    ((s.canCtl n).latch.any (fun p => p.1 == w) = true → exec (.canRxRelease n w) s = .next (s.canRelease n w)) ∧
    ((s.canCtl n).latch.any (fun p => p.1 == w) = false → exec (.canRxRelease n w) s = .next s)) ∧
  (∀ (s : State) (n : Nat) (v : Word), s.vampOn = true → n < 4 → ∃ e : Bytes, e.length = 128 ∧
    e.drop 124 = bytesLE 4 v.toNat ∧
    exec (.canTxPush n v) s = .next ((s.setCanCtl n { s.canCtl n with txWin := [] }).canPush n e)) ∧
  (∀ (s : State) (n : Nat) (c : Word), exec (.canTxReq n 0 c) s = .next s ∧ exec (.canTxCancel n 0 none) s = .next s) ∧
  (∀ (s : State) (n : Nat) (c : Word) (sl : CanSlot), s.vampOn = true →
    (s.canCtl n).slots.find? (fun p => p.1 == 0) = some (0, sl) → 3 ≤ s.slotStatus n 0 →
    (getBit c 0 = false → exec (.canTxReq n 1 c) s = .next (s.requestSlot n 0 sl.element)) ∧
    (getBit c 0 = true → exec (.canTxReq n 1 c) s = .next (s.slotDone n 0 4))) ∧
  (∀ (s : State) (n : Nat), s.vampOn = true → s.slotBusy n 0 = true →
    exec (.canTxCancel n 1 none) s = .next (s.slotDone n 0 4) ∧
    exec (.canTxCancel n 1 (some 0)) s =
      .next ((s.setSlotStatus n 0 2).mapSlot n 0 (fun sl => { sl with cancel := true }))) ∧
  (∀ (s : State) (n k o : Nat), (s.canCtl n).slots.find? (fun p => p.1 == k) = none →
    exec (.canTxComplete n k o) s = .next s) ∧
  (∀ (s : State) (n k o : Nat) (p : Nat × CanSlot), s.vampOn = true →
    (s.canCtl n).slots.find? (fun p => p.1 == k) = some p → s.canSends n = true →
    s.mayArbitrate n k = true ∨ s.slotStatus n k = 2 →
      exec (.canTxComplete n k 3) s = .next (s.canSent n k p.2) ∧
      (o ≠ 3 → exec (.canTxComplete n k o) s = .next (s.canUnsent n k p.2))) ∧
  (∀ (s : State) (n k : Nat), s.vampOn = true → exec (.canTimedTxDue n k) s =
    .next (s.mapSlot n k (fun sl => { sl with due := sl.due || s.txAtPassed n sl.element }))) ∧
  (∀ (s : State) (n c m : Nat) (ph col ex : Bool) (k : Option Nat),
    s.canRuns n = false ∨ 2 ≤ s.fld (Reg.CAN_ERR n) 31 30 → exec (.canBusError n c ph k col ex m) s = .next s) ∧
  (∀ (s : State) (n c m : Nat) (ph col ex : Bool) (k : Option Nat), s.vampOn = true → s.canRuns n = true →
    s.fld (Reg.CAN_ERR n) 31 30 < 2 → ∃ u w v : State,
      u = (((s.setFld (Reg.CAN_ERR_LAST n) 31 28 c).setBit (Reg.CAN_ERR_LAST n) 27 ph).setBit
        (Reg.CAN_ERR_LAST n) 26 k.isSome).incFld (Reg.CAN_ERR_LAST n) 15 0 ∧
      (k = none → w = u) ∧
      (∀ j p, k = some j → (s.canCtl n).slots.find? (fun p => p.1 == j && s.slotBusy n j) = some p →
        w = (if col = true then u.canCollide n p.2.element else u).canUnsent n p.1 p.2) ∧
      v = w.canCharge n c k.isSome ex m ∧
      (v.fld (Reg.CAN_ERR n) 31 30 ≠ 2 → exec (.canBusError n c ph k col ex m) s = .next v) ∧
      (v.fld (Reg.CAN_ERR n) 31 30 = 2 → exec (.canBusError n c ph k col ex m) s = .next (v.canBusOff n))) ∧
  (∀ (s : State) (n : Nat), s.fld (Reg.CAN_ERR n) 31 30 = 0 → exec (.canRecover n) s = .next s ∧
    exec (.canBusoffRecovered n) s = .next s) ∧
  (∀ (s : State) (n : Nat), s.wf → s.vampOn = true → n < 4 → s.fld (Reg.CAN_ERR n) 31 30 = 2 → ∃ t : State,
    exec (.canRecover n) s = .next t ∧ t.fld (Reg.CAN_ERR n) 31 30 = 3 ∧ t.fld (Reg.CAN_ERR n) 7 0 = 0) ∧
  (∀ (s : State) (n : Nat), s.wf → s.vampOn = true → n < 4 → s.fld (Reg.CAN_ERR n) 31 30 = 3 → ∃ t : State,
    exec (.canBusoffRecovered n) s = .next t ∧ t.rd (Reg.CAN_ERR n) = 128 ∧ t.bit (Reg.CAN_STAT n) 8 = false ∧
    t.pend (Src.CAN_STATUS n) = true) ∧
  (∀ (s : State) (n : Nat), s.wf → s.vampOn = true → s.canRuns n = true → (s.canCtl n).sleeping = false →
    ∃ t : State, exec (.canSleepReq n false) s = .next t ∧ (t.canCtl n).sleeping = true ∧
      t.bit (Reg.CAN_STAT n) 9 = true ∧ exec (.canSleepReq n true) s = .next s) ∧
  (∀ (s : State) (n : Nat), (s.canCtl n).sleeping = false → exec (.canWakeReq n) s = .next s) ∧
  (∀ (s : State) (n : Nat), s.wf → s.vampOn = true → n < 4 → (s.canCtl n).sleeping = true → ∃ t : State,
    exec (.canWakeReq n) s = .next t ∧ (t.canCtl n).sleeping = false ∧ t.bit (Reg.CAN_STAT n) 9 = false) ∧
  (∀ (s : State) (n us : Nat), s.vampOn = true →
    (s.bit (Reg.CAN_MODE n) 26 = true → exec (.canWakeDetect n true us) s = .next (s.canWake n 1) ∧
      exec (.canWakeDetect n false us) s = .next s) ∧
    (s.bit (Reg.CAN_MODE n) 26 = false → exec (.canWakeDetect n true us) s = .next s ∧
      (s.fld (Reg.CAN_MODE n) 15 8 ≤ us → exec (.canWakeDetect n false us) s = .next (s.canWake n 0)) ∧
      (us < s.fld (Reg.CAN_MODE n) 15 8 → exec (.canWakeDetect n false us) s = .next s))) ∧
  (∀ (s : State) (n : Nat), s.vampOn = true → n < 4 → exec (.canCommit n 1) s =
    .next (s.setCanCtl n { s.canCtl n with committed := true }) ∧ exec (.canCommit n 0) s = .next s) ∧
  (∀ (s : State) (n : Nat), s.canSends n = false ∨ s.ttRole n ≠ 2 ∨
    (s.cant n).total < ((s.canCtl n).cycle + 1) * s.ttPeriod n → exec (.canReferenceDue n) s = .next s) ∧
  (∀ (s : State) (n : Nat), s.wf → s.vampOn = true → s.canSends n = true → s.ttRole n = 2 →
    ((s.canCtl n).cycle + 1) * s.ttPeriod n ≤ (s.cant n).total → ∃ t : State,
    exec (.canReferenceDue n) s = .next t ∧ (t.canCtl n).cycle = (s.canCtl n).cycle + 1 ∧
    t.bit (Reg.CAN_TT_STAT n) 31 = true ∧ t.fld (Reg.CAN_TT_STAT n) 5 0 = ((s.canCtl n).cycle + 1) % 64) ∧
  (∀ (s : State) (n : Nat), (s.canCtl n).refLost = true → exec (.canReferenceLost n) s = .next s) ∧
  (∀ (s : State) (n : Nat), s.wf → s.vampOn = true → s.canRuns n = true → s.ttRole n = 1 →
    (s.canCtl n).refLost = false → ∃ t : State, exec (.canReferenceLost n) s = .next t ∧
      t.bit (Reg.CAN_TT_STAT n) 31 = false ∧ (t.canCtl n).refLost = true ∧
      t.bit (Reg.CAN_STAT n) 5 = true ∧ t.pend (Src.CAN_STATUS n) = true) ∧
  ∀ (s : State) (n : Nat), s.vampOn = true → ((s.canCtl n).filled = 0 → exec (.canRxBufferHoldoffEnd n) s =
      .next (s.setCanCtl n { s.canCtl n with holdOff := false })) ∧
    ((s.canCtl n).filled ≠ 0 → exec (.canRxBufferHoldoffEnd n) s = .next ((s.setCanCtl n { s.canCtl n with
      filled := 0, overwritten := 0 }).strobe (Src.CAN_RX_BUFFER n)
        ((s.canCtl n).overwritten * 2 ^ 8 + (s.canCtl n).filled)))

/-- Recorder, image sessions and redundancy (R144, R159, R170, R183, R184, R450, R453, R458 to R462, R470 to R481,
R499): writes commit, are retried once and given up; writes, erases and stores end in their turn, while VIN_LOW does not hold the Insole; the
grant starts or withdraws the active role; frames of the partner, the copy of the Last and its timers have the effects
stated. -/
def Obligations.StorageAndRedundancy : Prop :=
  (∀ (s : State) (c : Nat), s.vampOn = true → c < 1024 → ∃ t : State, exec (.recorderTokenRefill c) s = .next t ∧
    t = { s with recorder := { s.recorder with spent := t.recorder.spent } } ∧
    tget 0 t.recorder.spent c = tget 0 s.recorder.spent c - 1) ∧
  (∀ s : State, s.vampOn = true → exec .recorderIntervalTimer s = .next (s.recTrigger 0) ∧
    exec .recPersistReq s = .next ((s.setBit Reg.REC_CTRL 0 true).recTrigger 1) ∧
    exec .detailPageTimeout s = .next s.recProgramPage) ∧
  (∀ (s : State) (ok : Bool), s.recorder.writing = none → exec (.recorderWriteDone ok) s = .next s) ∧
  (∀ (s : State) (c : Nat) (r : RecSummary), s.vampOn = true → s.recorder.writing = some (c, r) →
    s.insoleTurn .recorder = true → ∃ u : State, u = s.unspoil 5 ∧ (s.spoilt 5 = false → exec (.recorderWriteDone true) s = .next (u.recCommit c r)) ∧
    ∀ ok, ok = false ∨ s.spoilt 5 = true →
      (s.recorder.retried = true → exec (.recorderWriteDone ok) s = .next u.recAbandon) ∧
      (s.recorder.retried = false → exec (.recorderWriteDone ok) s =
        .next { u with recorder := { u.recorder with retried := true } })) ∧
  (∀ (s : State) (k : Nat) (b : Bool),
    (s.insoleTurn .recorder = false → exec (.recorderWriteDone b) s = .next s) ∧
    (s.insoleTurn .recorderErase = false → exec (.recorderEraseDone b) s = .next s) ∧
    (s.insoleTurn .config = false → exec (.configStoreDone k) s = .next s) ∧
    (s.insoleTurn .imageErase = false → exec .imageEraseDone s = .next s) ∧
    (s.insoleTurn .image = false → exec .imageBlockStored s = .next s) ∧
    (s.insoleTurn .last = false → exec (.lastCopyDone b) s = .next s)) ∧
  (∀ s : State, s.vampOn = true → s.insoleTurn .recorderErase = true →
    exec (.recorderEraseDone false) s =
      .next (({ s with recorder := { s.recorder with erasing := false } } : State).recResume) ∧
    (∃ u : State, u = { s with recorder := { s.recorder with ringErasing := false } } ∧
      (s.recorder.page.length < 7 → exec (.recorderEraseDone true) s = .next u) ∧
      (7 ≤ s.recorder.page.length → exec (.recorderEraseDone true) s = .next u.recProgramPage))) ∧
  (∀ s : State, s.vampOn = true → s.insoleTurn .config = true →
    (s.spoilt 7 = false → exec (.configStoreDone 0) s = .next s.storeImage ∧
      exec (.configStoreDone 1) s = .next s.storedDevice ∧ exec (.configStoreDone 2) s = .next s.storedSafety) ∧
    (∀ k, s.spoilt 7 = true → exec (.configStoreDone k) s = .next (s.unspoil 7))) ∧
  (∀ (s : State) (m : Manifest), s.vampOn = true → s.update.manifest = some m → s.updState = 1 →
    s.insoleTurn .imageErase = true → ∃ u : State,
    u = { s.setFld Reg.UPD_SESSION 31 29 2 with update := { s.update with eraseOp := none } } ∧
    exec .imageEraseDone s = .next (u.completeAll s.update.eraseOp.toList St.OK
      (bytesLE 1 (b2n (u.spareIsB (m.target - 1))) ++ bytesLE 2 m.blocks))) ∧
  (∀ (s : State) (m : Manifest) (k : Nat) (b : Bytes), s.vampOn = true → s.update.programming = some (k, b) →
    s.update.manifest = some m → s.insoleTurn .image = true → s.update.blockOp = none → ∃ t : State,
      exec .imageBlockStored s = .next t ∧
      t.update.programming = none ∧ t.bankBlocks (s.spareBank (m.target - 1)) =
        s.bankBlocks (s.spareBank (m.target - 1)) ++ [(k, b)]) ∧
  (∀ (s : State) (ok : Bool) (p : Option Program), s.update.verifyOp = none → exec (.imageVerifyDone ok p) s = .next s) ∧
  (∀ (s : State) (m : Manifest) (op : Nat) (ok : Bool) (p : Option Program), s.vampOn = true →
    s.update.manifest = some m →
    s.update.verifyOp = some op → s.updState = 3 → ∃ u : State, u.update = { s.update with verifyOp := none } ∧
      exec (.imageVerifyDone ok p) s = .next ((s.verifyRefusal m ok p).elim (s.acceptImage m p)
        (fun x => u.refuseUpdate op x.1 x.2))) ∧
  (∀ s : State, (s.vampOn = true → s.updOpen = true → exec .imageSessionTimeout s = .next s.endUpdate) ∧
    (s.updOpen = false → exec .imageSessionTimeout s = .next s)) ∧
  (∀ (s : State) (g : Bool), s.mode = .off → exec (.arbGrantConfirmed g) s = .next s) ∧
  (∀ (s : State) (g : Bool), s.wf → s.mode ≠ .off → ∃ t : State, t = s.setBit Reg.RED_ROLE 29 g ∧
    t.bit Reg.RED_ROLE 29 = g ∧ (s.redOn = false ∨ s.red.withdrawn = true → exec (.arbGrantConfirmed g) s = .next t) ∧
    (s.redOn = true → s.red.withdrawn = false → ∃ u w : State, u = t.setBit Reg.RED_ROLE 28 g ∧
      w = u.setFld Reg.RED_ROLE 31 30 1 ∧
      (g = true → s.mode = .standby → s.supply.booting = false → exec (.arbGrantConfirmed g) s =
        .next ((u.grantEvent true u.lastSource).beginBoot 0 true)) ∧
      (g = false → s.mode = .run ∨ s.mode = .stop ∨ s.mode = .safe → s.role = 1 → s.supply.booting = false →
        exec (.arbGrantConfirmed g) s = .next u.withdraw) ∧
      (g = true → s.bit Reg.RED_ROLE 28 = false → s.mode ≠ .standby → s.supply.booting = true →
        s.supply.loaded = true → s.supply.unconfigured = false →
        exec (.arbGrantConfirmed g) s = .next w.rewriteReports.enumerate))) ∧
  (∀ s : State, (s.vampOn = true → exec .redAliveRefresh s = .next (s.refreshAlive (BitVec.ofNat 32 s.aliveUs))) ∧
    (s.vampOn = false → exec .redAliveRefresh s = .next s)) ∧
  (∀ (s : State) (l : List (Option Nat)), s.redOn = false → exec .aliveRefreshTimeout s = .next s ∧
    exec .beatSend s = .next s ∧ exec (.partnerFrameReceive l) s = .next s ∧ exec .lastFastSetSend s = .next s ∧
    exec .lastFullSetSend s = .next s ∧ exec .lastPersistTimer s = .next s ∧ exec .lastStaleTimeout s = .next s ∧
    exec .partnerLinkTimeout s = .next s) ∧
  (∀ s : State, s.vampOn = true → s.redOn = true → exec .aliveRefreshTimeout s = .next (s.setFld Reg.RED_ROLE 7 0 0)) ∧
  (∀ s : State, s.vampOn = true → s.redOn = true → ∃ (u : State) (b : Bytes), exec .beatSend s =
    .next (u.emit (.partnerFrame b)) ∧ u.red.txBeat = (s.red.txBeat + 1) % 2 ^ 32) ∧
  (∀ (s : State) (rd : Bool) (f : Bytes), s.vampOn = true → s.redOn = true →
    (f.length < 16 ∨ 4112 < f.length ∨ crcHolds f = false →
      exec (.partnerFrameReceive (frameGroups rd f)) s = .next (s.incFld Reg.RED_ERR 31 16)) ∧
    (16 ≤ f.length → f.length ≤ 4112 → crcHolds f = true →
      exec (.partnerFrameReceive (frameGroups rd f)) s = .next (s.partnerTake f) ∧
      (fieldLE f 0 1 = 1 → s.partnerTake f = s.partnerUp.beat (slice f 12 (f.length - 16))))) ∧
  (∀ s : State, s.wf → s.vampOn = true → s.streams = true → ∃ t u : State, exec .lastFastSetSend s = .next t ∧
    t.rd Reg.RED_LAST_SEQ = BitVec.ofNat 32 ((s.red.txFast + 1) % 2 ^ 32) ∧
    exec .lastFullSetSend s = .next u ∧ u.pend Src.RED_LAST_SENT = true) ∧
  (∀ s : State, s.vampOn = true → s.redOn = true → s.mode = .standby → exec .lastPersistTimer s = .next s.copyLast ∧
    exec .lastStaleTimeout s = .next s.lastStale) ∧
  (∀ s : State, s.wf → s.vampOn = true → s.redOn = true → s.bit Reg.RED_STAT 8 = true → ∃ t : State,
    exec .partnerLinkTimeout s = .next t ∧
    t.bit Reg.RED_STAT 8 = false ∧ t.bit Reg.RED_STAT 1 = true ∧ t.pend Src.RED_PARTNER_LINK = true) ∧
  (∀ (s : State) (ok : Bool), s.red.copying = none → exec (.lastCopyDone ok) s = .next s) ∧
  (∀ (s : State) (c : LastCopy), s.vampOn = true → s.red.copying = some c → s.insoleTurn .last = true →
    (s.spoilt 6 = false → ∃ u : State, exec (.lastCopyDone true) s = .next u.copyResume ∧ u.red.copying = none ∧
      u.red.copiedAt = some s.tim.mono.sec) ∧
    (s.red.retried = false → exec (.lastCopyDone false) s =
      .next { s.unspoil 6 with red := { s.red with retried := true } }) ∧
    (s.red.retried = true → ∃ u : State, exec (.lastCopyDone false) s = .next u.copyResume ∧ u.red.copying = none ∧
      u.red.copiedAt = s.red.copiedAt)) ∧
  (∀ (s : State) (n : Nat), s.ctx n = none → exec (.fullLayerComplete n) s = .next s) ∧
  (∀ (s : State) (n : Nat) (c : Ctx), s.vampOn = true → s.ctx n = some c → c.fullDue = true → c.replaying = false →
    c.started = true → c.level ≤ 2 → s.unitLives c.unit = true →
    (s.fastBusy c.unit = true → exec (.fullLayerComplete n) s = .next s) ∧
    (s.fastBusy c.unit = false → c.rebuilding = false → ∃ (u : State) (d : Ctx), exec (.fullLayerComplete n) s =
      .next (u.putChecked n d) ∧ d.fullDue = false ∧ d.stale = false ∧ d.z = d.fullSoc ∧ d.cov.take 3 = [0, 0, 0] ∧
      u.free = s.free + 2215)) ∧
  (∀ s : State, s.supply.opSeconds < s.est.lastAnchor + 7200 → exec .fullSequenceRequestTimer s = .next s) ∧
  ∀ s : State, s.vampOn = true → s.est.lastAnchor + 7200 ≤ s.supply.opSeconds →
    s.est.lastSequence + 7200 ≤ s.supply.opSeconds →
    s.mayAsk s.est.askedSeq = true → exec .fullSequenceRequestTimer s = .next (({ s with est := { s.est with
      askedSeq := some s.tim.mono.sec } } : State).requestBurst true)
end

