-- ==== Sys2Proof/Laws/Fields.lean ====
section
/-!
SUPPORT. What reading and replacing a bit field does, once: the field written reads as written, every field that does not
meet it reads as before.
-/

namespace Sys2Proof.Machine

theorem getBits_testBit (w : Word) (hi lo j : Nat) :
    (getBits w hi lo).testBit j = (decide (j < hi + 1 - lo) && w.toNat.testBit (j + lo)) := by
  simp [getBits, Nat.testBit_mod_two_pow, Nat.testBit_div_two_pow]

theorem putBits_toNat (w : Word) {hi lo : Nat} (v : Nat) (h : lo ≤ hi) (hw : hi < 32) :
    (putBits w hi lo v).toNat =
      2 ^ (hi + 1) * (w.toNat / 2 ^ (hi + 1)) + (2 ^ lo * (v % 2 ^ (hi + 1 - lo)) + w.toNat % 2 ^ lo) := by
  have e : 2 ^ (hi + 1) = 2 ^ lo * 2 ^ (hi + 1 - lo) := by rw [← Nat.pow_add]; congr 1; omega
  have d1 := Nat.div_add_mod w.toNat (2 ^ (hi + 1))
  have d2 := Nat.div_add_mod (w.toNat % 2 ^ (hi + 1)) (2 ^ lo)
  have m1 : w.toNat % 2 ^ (hi + 1) % 2 ^ lo = w.toNat % 2 ^ lo :=
    Nat.mod_mod_of_dvd _ (by rw [e]; exact Nat.dvd_mul_right _ _)
  have m2 : w.toNat % 2 ^ (hi + 1) / 2 ^ lo = w.toNat / 2 ^ lo % 2 ^ (hi + 1 - lo) := by
    rw [e, Nat.mod_mul_right_div_self]
  have hl : w.toNat < 2 ^ 32 := w.isLt
  have hv : v % 2 ^ (hi + 1 - lo) < 2 ^ (hi + 1 - lo) := Nat.mod_lt _ (Nat.two_pow_pos _)
  have hr : w.toNat % 2 ^ lo < 2 ^ lo := Nat.mod_lt _ (Nat.two_pow_pos _)
  have top : 2 ^ (hi + 1) * (w.toNat / 2 ^ (hi + 1)) + 2 ^ (hi + 1) ≤ 2 ^ 32 := by
    have : w.toNat / 2 ^ (hi + 1) < 2 ^ (32 - (hi + 1)) := by
      apply Nat.div_lt_of_lt_mul; rw [← Nat.pow_add]; convert hl using 2; omega
    calc _ = 2 ^ (hi + 1) * (w.toNat / 2 ^ (hi + 1) + 1) := by ring
      _ ≤ 2 ^ (hi + 1) * 2 ^ (32 - (hi + 1)) := Nat.mul_le_mul_left _ this
      _ = 2 ^ 32 := by rw [← Nat.pow_add]; congr 1; omega
  have low : 2 ^ lo * (v % 2 ^ (hi + 1 - lo)) + w.toNat % 2 ^ lo < 2 ^ (hi + 1) := by
    rw [e]
    calc _ < 2 ^ lo * (v % 2 ^ (hi + 1 - lo)) + 2 ^ lo := by omega
      _ = 2 ^ lo * (v % 2 ^ (hi + 1 - lo) + 1) := by ring
      _ ≤ _ := Nat.mul_le_mul_left _ hv
  unfold putBits getBits
  rw [BitVec.toNat_ofNat, Nat.mod_eq_of_lt]
  · rw [m1] at d2; rw [m2] at d2
    rw [Nat.mul_comm (w.toNat / 2 ^ lo % 2 ^ (hi + 1 - lo)), Nat.mul_comm (v % _)]
    omega
  · rw [m1] at d2; rw [m2] at d2
    rw [Nat.mul_comm (w.toNat / 2 ^ lo % 2 ^ (hi + 1 - lo)), Nat.mul_comm (v % _)]
    omega

theorem putBits_testBit (w : Word) {hi lo : Nat} (v j : Nat) (h : lo ≤ hi) (hw : hi < 32) :
    (putBits w hi lo v).toNat.testBit j = if lo ≤ j ∧ j ≤ hi then v.testBit (j - lo) else w.toNat.testBit j := by
  have hr : w.toNat % 2 ^ lo < 2 ^ lo := Nat.mod_lt _ (Nat.two_pow_pos _)
  have hv : v % 2 ^ (hi + 1 - lo) < 2 ^ (hi + 1 - lo) := Nat.mod_lt _ (Nat.two_pow_pos _)
  have low : 2 ^ lo * (v % 2 ^ (hi + 1 - lo)) + w.toNat % 2 ^ lo < 2 ^ (hi + 1) := by
    have e : 2 ^ (hi + 1) = 2 ^ lo * 2 ^ (hi + 1 - lo) := by rw [← Nat.pow_add]; congr 1; omega
    rw [e]
    calc _ < 2 ^ lo * (v % 2 ^ (hi + 1 - lo)) + 2 ^ lo := by omega
      _ = 2 ^ lo * (v % 2 ^ (hi + 1 - lo) + 1) := by ring
      _ ≤ _ := Nat.mul_le_mul_left _ hv
  rw [putBits_toNat w v h hw, Nat.testBit_two_pow_mul_add _ low]
  split
  · rename_i hj
    rw [Nat.testBit_two_pow_mul_add _ hr]
    split
    · rw [if_neg (by omega), Nat.testBit_mod_two_pow]; simp [*]
    · rw [if_pos (by omega), Nat.testBit_mod_two_pow]; simp; omega
  · rw [if_neg (by omega), Nat.testBit_div_two_pow]; congr 1; omega

/-- A field written reads as written, cut to its width. -/
theorem getBits_putBits (w : Word) {hi lo : Nat} (v : Nat) (h : lo ≤ hi) (hw : hi < 32) :
    getBits (putBits w hi lo v) hi lo = v % 2 ^ (hi + 1 - lo) := by
  apply Nat.eq_of_testBit_eq; intro j
  rw [getBits_testBit, putBits_testBit w v _ h hw, Nat.testBit_mod_two_pow]
  by_cases hj : j < hi + 1 - lo
  · rw [if_pos (by omega)]; simp [hj]
  · simp [hj]

/-- A field that does not meet the one written reads as before. -/
theorem getBits_putBits_ne (w : Word) {hi lo a b : Nat} (v : Nat) (h : lo ≤ hi) (hw : hi < 32) (d : a < lo ∨ hi < b) :
    getBits (putBits w hi lo v) a b = getBits w a b := by
  apply Nat.eq_of_testBit_eq; intro j
  rw [getBits_testBit, getBits_testBit, putBits_testBit w v _ h hw]
  by_cases hj : j < a + 1 - b
  · rw [if_neg (by omega)]
  · simp [hj]

theorem getBit_putBit (w : Word) {b : Nat} (v : Bool) (hw : b < 32) : getBit (putBit w b v) b = v := by
  have e : b + 1 - b = 1 := by omega
  simp only [getBit, putBit, getBits_putBits w _ (Nat.le_refl b) hw, e]
  cases v <;> rfl

theorem getBit_putBit_ne (w : Word) {b c : Nat} (v : Bool) (hw : b < 32) (d : c ≠ b) :
    getBit (putBit w b v) c = getBit w c := by
  have e := getBits_putBits_ne w (hi := b) (lo := b) (a := c) (b := c) (b2n v) (Nat.le_refl b) hw (by omega)
  simp only [getBit, putBit, e]

theorem getBits_putBit (w : Word) {b hi lo : Nat} (v : Bool) (hw : b < 32) (d : hi < b ∨ b < lo) :
    getBits (putBit w b v) hi lo = getBits w hi lo := by
  simp only [putBit, getBits_putBits_ne w _ (Nat.le_refl b) hw d]

theorem getBit_putBits (w : Word) {b hi lo : Nat} (v : Nat) (h : lo ≤ hi) (hw : hi < 32) (d : hi < b ∨ b < lo) :
    getBit (putBits w hi lo v) b = getBit w b := by
  have e := getBits_putBits_ne w (a := b) (b := b) v h hw (by omega)
  simp only [getBit, e]

theorem getBits_lt (w : Word) (hi lo : Nat) : getBits w hi lo < 2 ^ (hi + 1 - lo) := Nat.mod_lt _ (Nat.two_pow_pos _)

end Sys2Proof.Machine
end

