-- ==== Sys2Proof/Laws/Sparse.lean ====
section
/-!
SUPPORT. What a sparse table does, once: a read after a write of the same key gives the value
written, every other key reads as before, and the canonical form is kept.
-/

namespace Sys2Proof.Machine

variable {α : Type} {dflt : Nat → α}

theorem Sparse.get_of_above : ∀ {l : List (Nat × α)} {b k : Nat},
    Sparse.above b l = true → k ≤ b → Sparse.get dflt l k = dflt k
  | [], _, _, _, _ => rfl
  | (j, v) :: rest, b, k, h, hk => by
    simp only [Sparse.above, Bool.and_eq_true, decide_eq_true_eq] at h
    have hne : j ≠ k := by omega
    simp only [Sparse.get, if_neg hne]
    exact Sparse.get_of_above h.2 hk

theorem Sparse.above_mono : ∀ {l : List (Nat × α)} {b c : Nat},
    Sparse.above b l = true → c ≤ b → Sparse.above c l = true
  | [], _, _, _, _ => rfl
  | (j, v) :: rest, b, c, h, hc => by
    simp only [Sparse.above, Bool.and_eq_true, decide_eq_true_eq] at h ⊢
    exact ⟨by omega, Sparse.above_mono h.2 hc⟩

variable [DecidableEq α]

theorem Sparse.above_set : ∀ {l : List (Nat × α)} {b k : Nat} {v : α},
    Sparse.above b l = true → b < k → Sparse.above b (Sparse.set dflt l k v) = true
  | [], b, k, v, _, hk => by
    by_cases hv : v = dflt k <;> simp [Sparse.set, Sparse.above, hv, hk]
  | (j, w) :: rest, b, k, v, h, hk => by
    simp only [Sparse.above, Bool.and_eq_true, decide_eq_true_eq] at h
    simp only [Sparse.set]
    split
    · split <;> simp [Sparse.above, h.1, h.2, hk]
    · split
      · split <;> simp [Sparse.above, h.2, hk]
      · simp [Sparse.above, h.1, Sparse.above_set h.2 hk]

/-- A write keeps the canonical form. -/
theorem Sparse.wf_set : ∀ {l : List (Nat × α)} {k : Nat} {v : α},
    Sparse.wf dflt l = true → Sparse.wf dflt (Sparse.set dflt l k v) = true
  | [], k, v, _ => by
    by_cases hv : v = dflt k <;> simp [Sparse.set, Sparse.wf, Sparse.above, hv]
  | (j, w) :: rest, k, v, h => by
    have h0 := h
    simp only [Sparse.wf, Bool.and_eq_true, decide_eq_true_eq] at h
    obtain ⟨⟨hw, ha⟩, hr⟩ := h
    simp only [Sparse.set]
    split
    · rename_i hlt
      split
      · exact h0
      · rename_i hv
        simp only [Sparse.wf, Bool.and_eq_true, decide_eq_true_eq, Sparse.above]
        exact ⟨⟨hv, hlt, Sparse.above_mono ha (Nat.le_of_lt hlt)⟩, ⟨hw, ha⟩, hr⟩
    · split
      · rename_i heq
        split
        · exact hr
        · rename_i hv
          subst heq
          simp only [Sparse.wf, Bool.and_eq_true, decide_eq_true_eq]
          exact ⟨⟨hv, ha⟩, hr⟩
      · rename_i h1 h2
        simp only [Sparse.wf, Bool.and_eq_true, decide_eq_true_eq]
        exact ⟨⟨hw, Sparse.above_set ha (by omega)⟩, Sparse.wf_set hr⟩

theorem Sparse.above_filter {p : Nat × α → Bool} : ∀ {l : List (Nat × α)} {b : Nat},
    Sparse.above b l = true → Sparse.wf dflt l = true → Sparse.above b (l.filter p) = true
  | [], _, _, _ => rfl
  | (j, w) :: rest, b, h, k => by
    simp only [Sparse.above, Bool.and_eq_true, decide_eq_true_eq] at h
    simp only [Sparse.wf, Bool.and_eq_true, decide_eq_true_eq] at k
    simp only [List.filter_cons]
    split
    · simp only [Sparse.above, Bool.and_eq_true, decide_eq_true_eq]
      exact ⟨h.1, Sparse.above_filter h.2 k.2⟩
    · exact Sparse.above_filter (Sparse.above_mono k.1.2 (Nat.le_of_lt h.1)) k.2

/-- Entries left out of a table keep its canonical form. -/
theorem Sparse.wf_filter {p : Nat × α → Bool} : ∀ {l : List (Nat × α)},
    Sparse.wf dflt l = true → Sparse.wf dflt (l.filter p) = true
  | [], _ => rfl
  | (j, w) :: rest, h => by
    simp only [Sparse.wf, Bool.and_eq_true, decide_eq_true_eq] at h
    simp only [List.filter_cons]
    split
    · simp only [Sparse.wf, Bool.and_eq_true, decide_eq_true_eq]
      exact ⟨⟨h.1.1, Sparse.above_filter h.1.2 h.2⟩, Sparse.wf_filter h.2⟩
    · exact Sparse.wf_filter h.2

/-- A read of another key is unchanged by a write. -/
theorem Sparse.get_set_other : ∀ {l : List (Nat × α)} {k a : Nat} {v : α}, a ≠ k →
    Sparse.get dflt (Sparse.set dflt l k v) a = Sparse.get dflt l a
  | [], k, a, v, h => by
    by_cases hv : v = dflt k
    · simp [Sparse.set, hv]
    · simp [Sparse.set, hv, Sparse.get, Ne.symm h]
  | (j, w) :: rest, k, a, v, h => by
    simp only [Sparse.set]
    split
    · split
      · rfl
      · simp [Sparse.get, Ne.symm h]
    · split
      · rename_i heq
        subst heq
        split <;> simp [Sparse.get, Ne.symm h]
      · simp only [Sparse.get]
        split
        · rfl
        · exact Sparse.get_set_other h

/-- A read of the key written gives the value written, in a table of canonical form. -/
theorem Sparse.get_set_same : ∀ {l : List (Nat × α)} {k : Nat} {v : α},
    Sparse.wf dflt l = true → Sparse.get dflt (Sparse.set dflt l k v) k = v
  | [], k, v, _ => by
    by_cases hv : v = dflt k <;> simp [Sparse.set, Sparse.get, hv]
  | (j, w) :: rest, k, v, h => by
    simp only [Sparse.wf, Bool.and_eq_true, decide_eq_true_eq] at h
    obtain ⟨⟨hw, ha⟩, hr⟩ := h
    simp only [Sparse.set]
    split
    · rename_i hlt
      split
      · rename_i hv
        have hne : j ≠ k := by omega
        simp only [Sparse.get, if_neg hne]
        rw [hv]
        exact Sparse.get_of_above ha (Nat.le_of_lt hlt)
      · simp [Sparse.get]
    · split
      · rename_i heq
        subst heq
        split
        · rename_i hv
          rw [hv]
          exact Sparse.get_of_above ha (Nat.le_refl _)
        · simp [Sparse.get]
      · rename_i h1 h2
        have hne : j ≠ k := by omega
        simp only [Sparse.get, if_neg hne]
        exact Sparse.get_set_same hr

end Sys2Proof.Machine
end

