-- ==== Sys2Proof/Laws/State.lean ====
section
/-!
SUPPORT. What each plain update of the state leaves alone: one lemma per field per update, so that no later proof unfolds a
record update.
-/

namespace Sys2Proof.Machine

@[simp] theorem State.wr_gsram (s : State) (a : Nat) (v : Word) : (s.wr a v).gsram = s.gsram := rfl
@[simp] theorem State.wr_mode (s : State) (a : Nat) (v : Word) : (s.wr a v).mode = s.mode := rfl
@[simp] theorem State.wr_drogue (s : State) (a : Nat) (v : Word) : (s.wr a v).drogue = s.drogue := rfl
@[simp] theorem State.wr_out (s : State) (a : Nat) (v : Word) : (s.wr a v).out = s.out := rfl
@[simp] theorem State.wr_free (s : State) (a : Nat) (v : Word) : (s.wr a v).free = s.free := rfl
@[simp] theorem State.wr_supply (s : State) (a : Nat) (v : Word) : (s.wr a v).supply = s.supply := rfl
@[simp] theorem State.wr_links (s : State) (a : Nat) (v : Word) : (s.wr a v).links = s.links := rfl
@[simp] theorem State.wr_evt (s : State) (a : Nat) (v : Word) : (s.wr a v).evt = s.evt := rfl
@[simp] theorem State.wr_cfg (s : State) (a : Nat) (v : Word) : (s.wr a v).cfg = s.cfg := rfl
@[simp] theorem State.wr_recorder (s : State) (a : Nat) (v : Word) : (s.wr a v).recorder = s.recorder := rfl
@[simp] theorem State.wr_update (s : State) (a : Nat) (v : Word) : (s.wr a v).update = s.update := rfl
@[simp] theorem State.wr_tim (s : State) (a : Nat) (v : Word) : (s.wr a v).tim = s.tim := rfl
@[simp] theorem State.wr_eth (s : State) (a : Nat) (v : Word) : (s.wr a v).eth = s.eth := rfl
@[simp] theorem State.wr_prg (s : State) (a : Nat) (v : Word) : (s.wr a v).prg = s.prg := rfl
@[simp] theorem State.wr_dma (s : State) (a : Nat) (v : Word) : (s.wr a v).dma = s.dma := rfl
@[simp] theorem State.wr_ctl (s : State) (a : Nat) (v : Word) : (s.wr a v).ctl = s.ctl := rfl
@[simp] theorem State.wr_saf (s : State) (a : Nat) (v : Word) : (s.wr a v).saf = s.saf := rfl
@[simp] theorem State.wr_pcs (s : State) (a : Nat) (v : Word) : (s.wr a v).pcs = s.pcs := rfl
@[simp] theorem State.wr_swp (s : State) (a : Nat) (v : Word) : (s.wr a v).swp = s.swp := rfl
@[simp] theorem State.wr_tth (s : State) (a : Nat) (v : Word) : (s.wr a v).tth = s.tth := rfl
@[simp] theorem State.wr_cmd (s : State) (a : Nat) (v : Word) : (s.wr a v).cmd = s.cmd := rfl
@[simp] theorem State.wr_welt (s : State) (a : Nat) (v : Word) : (s.wr a v).welt = s.welt := rfl
@[simp] theorem State.wr_can (s : State) (a : Nat) (v : Word) : (s.wr a v).can = s.can := rfl
@[simp] theorem State.wr_est (s : State) (a : Nat) (v : Word) : (s.wr a v).est = s.est := rfl
@[simp] theorem State.wr_red (s : State) (a : Nat) (v : Word) : (s.wr a v).red = s.red := rfl
@[simp] theorem State.wr_pending (s : State) (a : Nat) (v : Word) : (s.wr a v).pending = s.pending := rfl

@[simp] theorem State.setFld_gsram (s : State) (a hi lo v : Nat) : (s.setFld a hi lo v).gsram = s.gsram := rfl
@[simp] theorem State.setFld_mode (s : State) (a hi lo v : Nat) : (s.setFld a hi lo v).mode = s.mode := rfl
@[simp] theorem State.setFld_drogue (s : State) (a hi lo v : Nat) : (s.setFld a hi lo v).drogue = s.drogue := rfl
@[simp] theorem State.setFld_out (s : State) (a hi lo v : Nat) : (s.setFld a hi lo v).out = s.out := rfl
@[simp] theorem State.setFld_free (s : State) (a hi lo v : Nat) : (s.setFld a hi lo v).free = s.free := rfl
@[simp] theorem State.setFld_supply (s : State) (a hi lo v : Nat) : (s.setFld a hi lo v).supply = s.supply := rfl
@[simp] theorem State.setFld_links (s : State) (a hi lo v : Nat) : (s.setFld a hi lo v).links = s.links := rfl
@[simp] theorem State.setFld_evt (s : State) (a hi lo v : Nat) : (s.setFld a hi lo v).evt = s.evt := rfl
@[simp] theorem State.setFld_cfg (s : State) (a hi lo v : Nat) : (s.setFld a hi lo v).cfg = s.cfg := rfl
@[simp] theorem State.setFld_recorder (s : State) (a hi lo v : Nat) : (s.setFld a hi lo v).recorder = s.recorder := rfl
@[simp] theorem State.setFld_update (s : State) (a hi lo v : Nat) : (s.setFld a hi lo v).update = s.update := rfl
@[simp] theorem State.setFld_tim (s : State) (a hi lo v : Nat) : (s.setFld a hi lo v).tim = s.tim := rfl
@[simp] theorem State.setFld_eth (s : State) (a hi lo v : Nat) : (s.setFld a hi lo v).eth = s.eth := rfl
@[simp] theorem State.setFld_prg (s : State) (a hi lo v : Nat) : (s.setFld a hi lo v).prg = s.prg := rfl
@[simp] theorem State.setFld_dma (s : State) (a hi lo v : Nat) : (s.setFld a hi lo v).dma = s.dma := rfl
@[simp] theorem State.setFld_ctl (s : State) (a hi lo v : Nat) : (s.setFld a hi lo v).ctl = s.ctl := rfl
@[simp] theorem State.setFld_saf (s : State) (a hi lo v : Nat) : (s.setFld a hi lo v).saf = s.saf := rfl
@[simp] theorem State.setFld_pcs (s : State) (a hi lo v : Nat) : (s.setFld a hi lo v).pcs = s.pcs := rfl
@[simp] theorem State.setFld_swp (s : State) (a hi lo v : Nat) : (s.setFld a hi lo v).swp = s.swp := rfl
@[simp] theorem State.setFld_tth (s : State) (a hi lo v : Nat) : (s.setFld a hi lo v).tth = s.tth := rfl
@[simp] theorem State.setFld_cmd (s : State) (a hi lo v : Nat) : (s.setFld a hi lo v).cmd = s.cmd := rfl
@[simp] theorem State.setFld_welt (s : State) (a hi lo v : Nat) : (s.setFld a hi lo v).welt = s.welt := rfl
@[simp] theorem State.setFld_can (s : State) (a hi lo v : Nat) : (s.setFld a hi lo v).can = s.can := rfl
@[simp] theorem State.setFld_est (s : State) (a hi lo v : Nat) : (s.setFld a hi lo v).est = s.est := rfl
@[simp] theorem State.setFld_red (s : State) (a hi lo v : Nat) : (s.setFld a hi lo v).red = s.red := rfl
@[simp] theorem State.setFld_pending (s : State) (a hi lo v : Nat) : (s.setFld a hi lo v).pending = s.pending := rfl

@[simp] theorem State.setBit_gsram (s : State) (a b : Nat) (v : Bool) : (s.setBit a b v).gsram = s.gsram := rfl
@[simp] theorem State.setBit_mode (s : State) (a b : Nat) (v : Bool) : (s.setBit a b v).mode = s.mode := rfl
@[simp] theorem State.setBit_drogue (s : State) (a b : Nat) (v : Bool) : (s.setBit a b v).drogue = s.drogue := rfl
@[simp] theorem State.setBit_out (s : State) (a b : Nat) (v : Bool) : (s.setBit a b v).out = s.out := rfl
@[simp] theorem State.setBit_free (s : State) (a b : Nat) (v : Bool) : (s.setBit a b v).free = s.free := rfl
@[simp] theorem State.setBit_supply (s : State) (a b : Nat) (v : Bool) : (s.setBit a b v).supply = s.supply := rfl
@[simp] theorem State.setBit_links (s : State) (a b : Nat) (v : Bool) : (s.setBit a b v).links = s.links := rfl
@[simp] theorem State.setBit_evt (s : State) (a b : Nat) (v : Bool) : (s.setBit a b v).evt = s.evt := rfl
@[simp] theorem State.setBit_cfg (s : State) (a b : Nat) (v : Bool) : (s.setBit a b v).cfg = s.cfg := rfl
@[simp] theorem State.setBit_recorder (s : State) (a b : Nat) (v : Bool) : (s.setBit a b v).recorder = s.recorder := rfl
@[simp] theorem State.setBit_update (s : State) (a b : Nat) (v : Bool) : (s.setBit a b v).update = s.update := rfl
@[simp] theorem State.setBit_tim (s : State) (a b : Nat) (v : Bool) : (s.setBit a b v).tim = s.tim := rfl
@[simp] theorem State.setBit_eth (s : State) (a b : Nat) (v : Bool) : (s.setBit a b v).eth = s.eth := rfl
@[simp] theorem State.setBit_prg (s : State) (a b : Nat) (v : Bool) : (s.setBit a b v).prg = s.prg := rfl
@[simp] theorem State.setBit_dma (s : State) (a b : Nat) (v : Bool) : (s.setBit a b v).dma = s.dma := rfl
@[simp] theorem State.setBit_ctl (s : State) (a b : Nat) (v : Bool) : (s.setBit a b v).ctl = s.ctl := rfl
@[simp] theorem State.setBit_saf (s : State) (a b : Nat) (v : Bool) : (s.setBit a b v).saf = s.saf := rfl
@[simp] theorem State.setBit_pcs (s : State) (a b : Nat) (v : Bool) : (s.setBit a b v).pcs = s.pcs := rfl
@[simp] theorem State.setBit_swp (s : State) (a b : Nat) (v : Bool) : (s.setBit a b v).swp = s.swp := rfl
@[simp] theorem State.setBit_tth (s : State) (a b : Nat) (v : Bool) : (s.setBit a b v).tth = s.tth := rfl
@[simp] theorem State.setBit_cmd (s : State) (a b : Nat) (v : Bool) : (s.setBit a b v).cmd = s.cmd := rfl
@[simp] theorem State.setBit_welt (s : State) (a b : Nat) (v : Bool) : (s.setBit a b v).welt = s.welt := rfl
@[simp] theorem State.setBit_can (s : State) (a b : Nat) (v : Bool) : (s.setBit a b v).can = s.can := rfl
@[simp] theorem State.setBit_est (s : State) (a b : Nat) (v : Bool) : (s.setBit a b v).est = s.est := rfl
@[simp] theorem State.setBit_red (s : State) (a b : Nat) (v : Bool) : (s.setBit a b v).red = s.red := rfl
@[simp] theorem State.setBit_pending (s : State) (a b : Nat) (v : Bool) : (s.setBit a b v).pending = s.pending := rfl

@[simp] theorem State.incFld_gsram (s : State) (a hi lo : Nat) : (s.incFld a hi lo).gsram = s.gsram := rfl
@[simp] theorem State.incFld_mode (s : State) (a hi lo : Nat) : (s.incFld a hi lo).mode = s.mode := rfl
@[simp] theorem State.incFld_drogue (s : State) (a hi lo : Nat) : (s.incFld a hi lo).drogue = s.drogue := rfl
@[simp] theorem State.incFld_out (s : State) (a hi lo : Nat) : (s.incFld a hi lo).out = s.out := rfl
@[simp] theorem State.incFld_free (s : State) (a hi lo : Nat) : (s.incFld a hi lo).free = s.free := rfl
@[simp] theorem State.incFld_supply (s : State) (a hi lo : Nat) : (s.incFld a hi lo).supply = s.supply := rfl
@[simp] theorem State.incFld_links (s : State) (a hi lo : Nat) : (s.incFld a hi lo).links = s.links := rfl
@[simp] theorem State.incFld_evt (s : State) (a hi lo : Nat) : (s.incFld a hi lo).evt = s.evt := rfl
@[simp] theorem State.incFld_cfg (s : State) (a hi lo : Nat) : (s.incFld a hi lo).cfg = s.cfg := rfl
@[simp] theorem State.incFld_recorder (s : State) (a hi lo : Nat) : (s.incFld a hi lo).recorder = s.recorder := rfl
@[simp] theorem State.incFld_update (s : State) (a hi lo : Nat) : (s.incFld a hi lo).update = s.update := rfl
@[simp] theorem State.incFld_tim (s : State) (a hi lo : Nat) : (s.incFld a hi lo).tim = s.tim := rfl
@[simp] theorem State.incFld_eth (s : State) (a hi lo : Nat) : (s.incFld a hi lo).eth = s.eth := rfl
@[simp] theorem State.incFld_prg (s : State) (a hi lo : Nat) : (s.incFld a hi lo).prg = s.prg := rfl
@[simp] theorem State.incFld_dma (s : State) (a hi lo : Nat) : (s.incFld a hi lo).dma = s.dma := rfl
@[simp] theorem State.incFld_ctl (s : State) (a hi lo : Nat) : (s.incFld a hi lo).ctl = s.ctl := rfl
@[simp] theorem State.incFld_saf (s : State) (a hi lo : Nat) : (s.incFld a hi lo).saf = s.saf := rfl
@[simp] theorem State.incFld_pcs (s : State) (a hi lo : Nat) : (s.incFld a hi lo).pcs = s.pcs := rfl
@[simp] theorem State.incFld_swp (s : State) (a hi lo : Nat) : (s.incFld a hi lo).swp = s.swp := rfl
@[simp] theorem State.incFld_tth (s : State) (a hi lo : Nat) : (s.incFld a hi lo).tth = s.tth := rfl
@[simp] theorem State.incFld_cmd (s : State) (a hi lo : Nat) : (s.incFld a hi lo).cmd = s.cmd := rfl
@[simp] theorem State.incFld_welt (s : State) (a hi lo : Nat) : (s.incFld a hi lo).welt = s.welt := rfl
@[simp] theorem State.incFld_can (s : State) (a hi lo : Nat) : (s.incFld a hi lo).can = s.can := rfl
@[simp] theorem State.incFld_est (s : State) (a hi lo : Nat) : (s.incFld a hi lo).est = s.est := rfl
@[simp] theorem State.incFld_red (s : State) (a hi lo : Nat) : (s.incFld a hi lo).red = s.red := rfl
@[simp] theorem State.incFld_pending (s : State) (a hi lo : Nat) : (s.incFld a hi lo).pending = s.pending := rfl

@[simp] theorem State.incWrap_gsram (s : State) (a : Nat) : (s.incWrap a).gsram = s.gsram := rfl
@[simp] theorem State.incWrap_mode (s : State) (a : Nat) : (s.incWrap a).mode = s.mode := rfl
@[simp] theorem State.incWrap_drogue (s : State) (a : Nat) : (s.incWrap a).drogue = s.drogue := rfl
@[simp] theorem State.incWrap_out (s : State) (a : Nat) : (s.incWrap a).out = s.out := rfl
@[simp] theorem State.incWrap_free (s : State) (a : Nat) : (s.incWrap a).free = s.free := rfl
@[simp] theorem State.incWrap_supply (s : State) (a : Nat) : (s.incWrap a).supply = s.supply := rfl
@[simp] theorem State.incWrap_links (s : State) (a : Nat) : (s.incWrap a).links = s.links := rfl
@[simp] theorem State.incWrap_evt (s : State) (a : Nat) : (s.incWrap a).evt = s.evt := rfl
@[simp] theorem State.incWrap_cfg (s : State) (a : Nat) : (s.incWrap a).cfg = s.cfg := rfl
@[simp] theorem State.incWrap_recorder (s : State) (a : Nat) : (s.incWrap a).recorder = s.recorder := rfl
@[simp] theorem State.incWrap_update (s : State) (a : Nat) : (s.incWrap a).update = s.update := rfl
@[simp] theorem State.incWrap_tim (s : State) (a : Nat) : (s.incWrap a).tim = s.tim := rfl
@[simp] theorem State.incWrap_eth (s : State) (a : Nat) : (s.incWrap a).eth = s.eth := rfl
@[simp] theorem State.incWrap_prg (s : State) (a : Nat) : (s.incWrap a).prg = s.prg := rfl
@[simp] theorem State.incWrap_dma (s : State) (a : Nat) : (s.incWrap a).dma = s.dma := rfl
@[simp] theorem State.incWrap_ctl (s : State) (a : Nat) : (s.incWrap a).ctl = s.ctl := rfl
@[simp] theorem State.incWrap_saf (s : State) (a : Nat) : (s.incWrap a).saf = s.saf := rfl
@[simp] theorem State.incWrap_pcs (s : State) (a : Nat) : (s.incWrap a).pcs = s.pcs := rfl
@[simp] theorem State.incWrap_swp (s : State) (a : Nat) : (s.incWrap a).swp = s.swp := rfl
@[simp] theorem State.incWrap_tth (s : State) (a : Nat) : (s.incWrap a).tth = s.tth := rfl
@[simp] theorem State.incWrap_cmd (s : State) (a : Nat) : (s.incWrap a).cmd = s.cmd := rfl
@[simp] theorem State.incWrap_welt (s : State) (a : Nat) : (s.incWrap a).welt = s.welt := rfl
@[simp] theorem State.incWrap_can (s : State) (a : Nat) : (s.incWrap a).can = s.can := rfl
@[simp] theorem State.incWrap_est (s : State) (a : Nat) : (s.incWrap a).est = s.est := rfl
@[simp] theorem State.incWrap_red (s : State) (a : Nat) : (s.incWrap a).red = s.red := rfl
@[simp] theorem State.incWrap_pending (s : State) (a : Nat) : (s.incWrap a).pending = s.pending := rfl

@[simp] theorem State.flag_gsram (s : State) (r c b : Nat) : (s.flag r c b).gsram = s.gsram := rfl
@[simp] theorem State.flag_mode (s : State) (r c b : Nat) : (s.flag r c b).mode = s.mode := rfl
@[simp] theorem State.flag_drogue (s : State) (r c b : Nat) : (s.flag r c b).drogue = s.drogue := rfl
@[simp] theorem State.flag_out (s : State) (r c b : Nat) : (s.flag r c b).out = s.out := rfl
@[simp] theorem State.flag_free (s : State) (r c b : Nat) : (s.flag r c b).free = s.free := rfl
@[simp] theorem State.flag_supply (s : State) (r c b : Nat) : (s.flag r c b).supply = s.supply := rfl
@[simp] theorem State.flag_links (s : State) (r c b : Nat) : (s.flag r c b).links = s.links := rfl
@[simp] theorem State.flag_evt (s : State) (r c b : Nat) : (s.flag r c b).evt = s.evt := rfl
@[simp] theorem State.flag_cfg (s : State) (r c b : Nat) : (s.flag r c b).cfg = s.cfg := rfl
@[simp] theorem State.flag_recorder (s : State) (r c b : Nat) : (s.flag r c b).recorder = s.recorder := rfl
@[simp] theorem State.flag_update (s : State) (r c b : Nat) : (s.flag r c b).update = s.update := rfl
@[simp] theorem State.flag_tim (s : State) (r c b : Nat) : (s.flag r c b).tim = s.tim := rfl
@[simp] theorem State.flag_eth (s : State) (r c b : Nat) : (s.flag r c b).eth = s.eth := rfl
@[simp] theorem State.flag_prg (s : State) (r c b : Nat) : (s.flag r c b).prg = s.prg := rfl
@[simp] theorem State.flag_dma (s : State) (r c b : Nat) : (s.flag r c b).dma = s.dma := rfl
@[simp] theorem State.flag_ctl (s : State) (r c b : Nat) : (s.flag r c b).ctl = s.ctl := rfl
@[simp] theorem State.flag_saf (s : State) (r c b : Nat) : (s.flag r c b).saf = s.saf := rfl
@[simp] theorem State.flag_pcs (s : State) (r c b : Nat) : (s.flag r c b).pcs = s.pcs := rfl
@[simp] theorem State.flag_swp (s : State) (r c b : Nat) : (s.flag r c b).swp = s.swp := rfl
@[simp] theorem State.flag_tth (s : State) (r c b : Nat) : (s.flag r c b).tth = s.tth := rfl
@[simp] theorem State.flag_cmd (s : State) (r c b : Nat) : (s.flag r c b).cmd = s.cmd := rfl
@[simp] theorem State.flag_welt (s : State) (r c b : Nat) : (s.flag r c b).welt = s.welt := rfl
@[simp] theorem State.flag_can (s : State) (r c b : Nat) : (s.flag r c b).can = s.can := rfl
@[simp] theorem State.flag_est (s : State) (r c b : Nat) : (s.flag r c b).est = s.est := rfl
@[simp] theorem State.flag_red (s : State) (r c b : Nat) : (s.flag r c b).red = s.red := rfl
@[simp] theorem State.flag_pending (s : State) (r c b : Nat) : (s.flag r c b).pending = s.pending := rfl

@[simp] theorem State.putByte_regs (s : State) (a : Nat) (v : Byte) : (s.putByte a v).regs = s.regs := rfl
@[simp] theorem State.putByte_mode (s : State) (a : Nat) (v : Byte) : (s.putByte a v).mode = s.mode := rfl
@[simp] theorem State.putByte_drogue (s : State) (a : Nat) (v : Byte) : (s.putByte a v).drogue = s.drogue := rfl
@[simp] theorem State.putByte_out (s : State) (a : Nat) (v : Byte) : (s.putByte a v).out = s.out := rfl
@[simp] theorem State.putByte_free (s : State) (a : Nat) (v : Byte) : (s.putByte a v).free = s.free := rfl
@[simp] theorem State.putByte_supply (s : State) (a : Nat) (v : Byte) : (s.putByte a v).supply = s.supply := rfl
@[simp] theorem State.putByte_links (s : State) (a : Nat) (v : Byte) : (s.putByte a v).links = s.links := rfl
@[simp] theorem State.putByte_evt (s : State) (a : Nat) (v : Byte) : (s.putByte a v).evt = s.evt := rfl
@[simp] theorem State.putByte_cfg (s : State) (a : Nat) (v : Byte) : (s.putByte a v).cfg = s.cfg := rfl
@[simp] theorem State.putByte_recorder (s : State) (a : Nat) (v : Byte) : (s.putByte a v).recorder = s.recorder := rfl
@[simp] theorem State.putByte_update (s : State) (a : Nat) (v : Byte) : (s.putByte a v).update = s.update := rfl
@[simp] theorem State.putByte_tim (s : State) (a : Nat) (v : Byte) : (s.putByte a v).tim = s.tim := rfl
@[simp] theorem State.putByte_eth (s : State) (a : Nat) (v : Byte) : (s.putByte a v).eth = s.eth := rfl
@[simp] theorem State.putByte_prg (s : State) (a : Nat) (v : Byte) : (s.putByte a v).prg = s.prg := rfl
@[simp] theorem State.putByte_ctl (s : State) (a : Nat) (v : Byte) : (s.putByte a v).ctl = s.ctl := rfl
@[simp] theorem State.putByte_saf (s : State) (a : Nat) (v : Byte) : (s.putByte a v).saf = s.saf := rfl
@[simp] theorem State.putByte_pcs (s : State) (a : Nat) (v : Byte) : (s.putByte a v).pcs = s.pcs := rfl
@[simp] theorem State.putByte_swp (s : State) (a : Nat) (v : Byte) : (s.putByte a v).swp = s.swp := rfl
@[simp] theorem State.putByte_tth (s : State) (a : Nat) (v : Byte) : (s.putByte a v).tth = s.tth := rfl
@[simp] theorem State.putByte_cmd (s : State) (a : Nat) (v : Byte) : (s.putByte a v).cmd = s.cmd := rfl
@[simp] theorem State.putByte_welt (s : State) (a : Nat) (v : Byte) : (s.putByte a v).welt = s.welt := rfl
@[simp] theorem State.putByte_can (s : State) (a : Nat) (v : Byte) : (s.putByte a v).can = s.can := rfl
@[simp] theorem State.putByte_est (s : State) (a : Nat) (v : Byte) : (s.putByte a v).est = s.est := rfl
@[simp] theorem State.putByte_red (s : State) (a : Nat) (v : Byte) : (s.putByte a v).red = s.red := rfl
@[simp] theorem State.putByte_pending (s : State) (a : Nat) (v : Byte) : (s.putByte a v).pending = s.pending := rfl

@[simp] theorem State.emit_regs (s : State) (o : Output) : (s.emit o).regs = s.regs := rfl
@[simp] theorem State.emit_gsram (s : State) (o : Output) : (s.emit o).gsram = s.gsram := rfl
@[simp] theorem State.emit_mode (s : State) (o : Output) : (s.emit o).mode = s.mode := rfl
@[simp] theorem State.emit_drogue (s : State) (o : Output) : (s.emit o).drogue = s.drogue := rfl
@[simp] theorem State.emit_free (s : State) (o : Output) : (s.emit o).free = s.free := rfl
@[simp] theorem State.emit_supply (s : State) (o : Output) : (s.emit o).supply = s.supply := rfl
@[simp] theorem State.emit_links (s : State) (o : Output) : (s.emit o).links = s.links := rfl
@[simp] theorem State.emit_evt (s : State) (o : Output) : (s.emit o).evt = s.evt := rfl
@[simp] theorem State.emit_cfg (s : State) (o : Output) : (s.emit o).cfg = s.cfg := rfl
@[simp] theorem State.emit_recorder (s : State) (o : Output) : (s.emit o).recorder = s.recorder := rfl
@[simp] theorem State.emit_update (s : State) (o : Output) : (s.emit o).update = s.update := rfl
@[simp] theorem State.emit_tim (s : State) (o : Output) : (s.emit o).tim = s.tim := rfl
@[simp] theorem State.emit_eth (s : State) (o : Output) : (s.emit o).eth = s.eth := rfl
@[simp] theorem State.emit_prg (s : State) (o : Output) : (s.emit o).prg = s.prg := rfl
@[simp] theorem State.emit_dma (s : State) (o : Output) : (s.emit o).dma = s.dma := rfl
@[simp] theorem State.emit_ctl (s : State) (o : Output) : (s.emit o).ctl = s.ctl := rfl
@[simp] theorem State.emit_saf (s : State) (o : Output) : (s.emit o).saf = s.saf := rfl
@[simp] theorem State.emit_pcs (s : State) (o : Output) : (s.emit o).pcs = s.pcs := rfl
@[simp] theorem State.emit_swp (s : State) (o : Output) : (s.emit o).swp = s.swp := rfl
@[simp] theorem State.emit_tth (s : State) (o : Output) : (s.emit o).tth = s.tth := rfl
@[simp] theorem State.emit_cmd (s : State) (o : Output) : (s.emit o).cmd = s.cmd := rfl
@[simp] theorem State.emit_welt (s : State) (o : Output) : (s.emit o).welt = s.welt := rfl
@[simp] theorem State.emit_can (s : State) (o : Output) : (s.emit o).can = s.can := rfl
@[simp] theorem State.emit_est (s : State) (o : Output) : (s.emit o).est = s.est := rfl
@[simp] theorem State.emit_red (s : State) (o : Output) : (s.emit o).red = s.red := rfl
@[simp] theorem State.emit_pending (s : State) (o : Output) : (s.emit o).pending = s.pending := rfl

@[simp] theorem State.drawn_regs (s : State) : (s.drawn).regs = s.regs := rfl
@[simp] theorem State.drawn_gsram (s : State) : (s.drawn).gsram = s.gsram := rfl
@[simp] theorem State.drawn_mode (s : State) : (s.drawn).mode = s.mode := rfl
@[simp] theorem State.drawn_drogue (s : State) : (s.drawn).drogue = s.drogue := rfl
@[simp] theorem State.drawn_out (s : State) : (s.drawn).out = s.out := rfl
@[simp] theorem State.drawn_supply (s : State) : (s.drawn).supply = s.supply := rfl
@[simp] theorem State.drawn_links (s : State) : (s.drawn).links = s.links := rfl
@[simp] theorem State.drawn_evt (s : State) : (s.drawn).evt = s.evt := rfl
@[simp] theorem State.drawn_cfg (s : State) : (s.drawn).cfg = s.cfg := rfl
@[simp] theorem State.drawn_recorder (s : State) : (s.drawn).recorder = s.recorder := rfl
@[simp] theorem State.drawn_update (s : State) : (s.drawn).update = s.update := rfl
@[simp] theorem State.drawn_tim (s : State) : (s.drawn).tim = s.tim := rfl
@[simp] theorem State.drawn_eth (s : State) : (s.drawn).eth = s.eth := rfl
@[simp] theorem State.drawn_prg (s : State) : (s.drawn).prg = s.prg := rfl
@[simp] theorem State.drawn_dma (s : State) : (s.drawn).dma = s.dma := rfl
@[simp] theorem State.drawn_ctl (s : State) : (s.drawn).ctl = s.ctl := rfl
@[simp] theorem State.drawn_saf (s : State) : (s.drawn).saf = s.saf := rfl
@[simp] theorem State.drawn_pcs (s : State) : (s.drawn).pcs = s.pcs := rfl
@[simp] theorem State.drawn_swp (s : State) : (s.drawn).swp = s.swp := rfl
@[simp] theorem State.drawn_tth (s : State) : (s.drawn).tth = s.tth := rfl
@[simp] theorem State.drawn_cmd (s : State) : (s.drawn).cmd = s.cmd := rfl
@[simp] theorem State.drawn_welt (s : State) : (s.drawn).welt = s.welt := rfl
@[simp] theorem State.drawn_can (s : State) : (s.drawn).can = s.can := rfl
@[simp] theorem State.drawn_est (s : State) : (s.drawn).est = s.est := rfl
@[simp] theorem State.drawn_red (s : State) : (s.drawn).red = s.red := rfl
@[simp] theorem State.drawn_pending (s : State) : (s.drawn).pending = s.pending := rfl

@[simp] theorem State.drawnBy_regs (s : State) (n : Nat) : (s.drawnBy n).regs = s.regs := rfl
@[simp] theorem State.drawnBy_gsram (s : State) (n : Nat) : (s.drawnBy n).gsram = s.gsram := rfl
@[simp] theorem State.drawnBy_mode (s : State) (n : Nat) : (s.drawnBy n).mode = s.mode := rfl
@[simp] theorem State.drawnBy_drogue (s : State) (n : Nat) : (s.drawnBy n).drogue = s.drogue := rfl
@[simp] theorem State.drawnBy_out (s : State) (n : Nat) : (s.drawnBy n).out = s.out := rfl
@[simp] theorem State.drawnBy_supply (s : State) (n : Nat) : (s.drawnBy n).supply = s.supply := rfl
@[simp] theorem State.drawnBy_links (s : State) (n : Nat) : (s.drawnBy n).links = s.links := rfl
@[simp] theorem State.drawnBy_evt (s : State) (n : Nat) : (s.drawnBy n).evt = s.evt := rfl
@[simp] theorem State.drawnBy_cfg (s : State) (n : Nat) : (s.drawnBy n).cfg = s.cfg := rfl
@[simp] theorem State.drawnBy_recorder (s : State) (n : Nat) : (s.drawnBy n).recorder = s.recorder := rfl
@[simp] theorem State.drawnBy_update (s : State) (n : Nat) : (s.drawnBy n).update = s.update := rfl
@[simp] theorem State.drawnBy_tim (s : State) (n : Nat) : (s.drawnBy n).tim = s.tim := rfl
@[simp] theorem State.drawnBy_eth (s : State) (n : Nat) : (s.drawnBy n).eth = s.eth := rfl
@[simp] theorem State.drawnBy_prg (s : State) (n : Nat) : (s.drawnBy n).prg = s.prg := rfl
@[simp] theorem State.drawnBy_dma (s : State) (n : Nat) : (s.drawnBy n).dma = s.dma := rfl
@[simp] theorem State.drawnBy_ctl (s : State) (n : Nat) : (s.drawnBy n).ctl = s.ctl := rfl
@[simp] theorem State.drawnBy_saf (s : State) (n : Nat) : (s.drawnBy n).saf = s.saf := rfl
@[simp] theorem State.drawnBy_pcs (s : State) (n : Nat) : (s.drawnBy n).pcs = s.pcs := rfl
@[simp] theorem State.drawnBy_swp (s : State) (n : Nat) : (s.drawnBy n).swp = s.swp := rfl
@[simp] theorem State.drawnBy_tth (s : State) (n : Nat) : (s.drawnBy n).tth = s.tth := rfl
@[simp] theorem State.drawnBy_cmd (s : State) (n : Nat) : (s.drawnBy n).cmd = s.cmd := rfl
@[simp] theorem State.drawnBy_welt (s : State) (n : Nat) : (s.drawnBy n).welt = s.welt := rfl
@[simp] theorem State.drawnBy_can (s : State) (n : Nat) : (s.drawnBy n).can = s.can := rfl
@[simp] theorem State.drawnBy_est (s : State) (n : Nat) : (s.drawnBy n).est = s.est := rfl
@[simp] theorem State.drawnBy_red (s : State) (n : Nat) : (s.drawnBy n).red = s.red := rfl
@[simp] theorem State.drawnBy_pending (s : State) (n : Nat) : (s.drawnBy n).pending = s.pending := rfl
@[simp] theorem State.emit_out (s : State) (o : Output) : (s.emit o).out = o :: s.out := rfl
@[simp] theorem State.drawn_free (s : State) : s.drawn.free = s.free + 1 := rfl
@[simp] theorem State.drawnBy_free (s : State) (n : Nat) : (s.drawnBy n).free = s.free + n := rfl
@[simp] theorem State.putByte_rd (s : State) (a b : Nat) (v : Byte) : (s.putByte a v).rd b = s.rd b := rfl
@[simp] theorem State.emit_rd (s : State) (o : Output) (b : Nat) : (s.emit o).rd b = s.rd b := rfl
@[simp] theorem State.drawn_rd (s : State) (b : Nat) : s.drawn.rd b = s.rd b := rfl
@[simp] theorem State.wr_getByte (s : State) (a b : Nat) (v : Word) : (s.wr a v).getByte b = s.getByte b := rfl
@[simp] theorem State.emit_getByte (s : State) (o : Output) (b : Nat) : (s.emit o).getByte b = s.getByte b := rfl

end Sys2Proof.Machine
end

