-- ==== Sys2Proof/Laws/Ops.lean ====
section
/-!
SUPPORT. The register and memory operations, each with what it can do: a register, a field, a bit or a byte written reads
as written, and every other one reads as before. Insole operations run one at a time, and none in hand waits for good.
-/

namespace Sys2Proof.Machine

/-! Registers. The premise of a read of the register written is the canonical form, which every operation keeps. -/

theorem State.rd_wr (s : State) {a : Nat} (v : Word) (w : Sparse.wf regReset s.regs = true) : (s.wr a v).rd a = v :=
  Sparse.get_set_same w

@[simp] theorem State.rd_wr_ne (s : State) {a b : Nat} (v : Word) (h : b ≠ a) : (s.wr a v).rd b = s.rd b :=
  Sparse.get_set_other h

@[simp] theorem State.rd_setFld_ne (s : State) {a b : Nat} (hi lo v : Nat) (h : b ≠ a) :
    (s.setFld a hi lo v).rd b = s.rd b := s.rd_wr_ne _ h

@[simp] theorem State.rd_setBit_ne (s : State) {a b : Nat} (i : Nat) (v : Bool) (h : b ≠ a) :
    (s.setBit a i v).rd b = s.rd b := s.rd_wr_ne _ h

@[simp] theorem State.rd_incFld_ne (s : State) {a b : Nat} (hi lo : Nat) (h : b ≠ a) :
    (s.incFld a hi lo).rd b = s.rd b := s.rd_wr_ne _ h

@[simp] theorem State.rd_flag_ne (s : State) {r c b : Nat} (i : Nat) (h : b ≠ r) (k : b ≠ c + 4 * (i / 4)) :
    (s.flag r c i).rd b = s.rd b := by
  unfold State.flag
  rw [State.rd_incFld_ne _ _ _ k, State.rd_setBit_ne _ _ _ h]

theorem State.wr_wf {s : State} {a : Nat} {v : Word} (w : Sparse.wf regReset s.regs = true) :
    Sparse.wf regReset (s.wr a v).regs = true := Sparse.wf_set w

theorem State.setFld_wf {s : State} {a hi lo v : Nat} (w : Sparse.wf regReset s.regs = true) :
    Sparse.wf regReset (s.setFld a hi lo v).regs = true := Sparse.wf_set w

theorem State.setBit_wf {s : State} {a b : Nat} {v : Bool} (w : Sparse.wf regReset s.regs = true) :
    Sparse.wf regReset (s.setBit a b v).regs = true := Sparse.wf_set w

theorem State.incFld_wf {s : State} {a hi lo : Nat} (w : Sparse.wf regReset s.regs = true) :
    Sparse.wf regReset (s.incFld a hi lo).regs = true := Sparse.wf_set w

theorem State.flag_wf {s : State} {r c b : Nat} (w : Sparse.wf regReset s.regs = true) :
    Sparse.wf regReset (s.flag r c b).regs = true := State.incFld_wf (State.setBit_wf w)

/-- A field written reads as written. -/
theorem State.fld_setFld {s : State} {a hi lo : Nat} (v : Nat) (w : Sparse.wf regReset s.regs = true) (h : lo ≤ hi)
    (hw : hi < 32) : (s.setFld a hi lo v).fld a hi lo = v % 2 ^ (hi + 1 - lo) := by
  unfold State.fld State.setFld
  rw [State.rd_wr _ _ w, getBits_putBits _ _ h hw]

/-- A field of the same register that does not meet the one written reads as before. -/
theorem State.fld_setFld_ne {s : State} {a hi lo x y : Nat} (v : Nat) (w : Sparse.wf regReset s.regs = true) (h : lo ≤ hi)
    (hw : hi < 32) (d : x < lo ∨ hi < y) : (s.setFld a hi lo v).fld a x y = s.fld a x y := by
  unfold State.fld State.setFld
  rw [State.rd_wr _ _ w, getBits_putBits_ne _ _ h hw d]

theorem State.bit_setFld_ne {s : State} {a hi lo b : Nat} (v : Nat) (w : Sparse.wf regReset s.regs = true) (h : lo ≤ hi)
    (hw : hi < 32) (d : hi < b ∨ b < lo) : (s.setFld a hi lo v).bit a b = s.bit a b := by
  unfold State.bit State.setFld
  rw [State.rd_wr _ _ w, getBit_putBits _ _ h hw d]

/-- A bit written reads as written. -/
theorem State.bit_setBit {s : State} {a b : Nat} (v : Bool) (w : Sparse.wf regReset s.regs = true) (hw : b < 32) :
    (s.setBit a b v).bit a b = v := by
  unfold State.bit State.setBit
  rw [State.rd_wr _ _ w, getBit_putBit _ _ hw]

theorem State.bit_setBit_ne {s : State} {a b c : Nat} (v : Bool) (w : Sparse.wf regReset s.regs = true) (hw : b < 32)
    (d : c ≠ b) : (s.setBit a b v).bit a c = s.bit a c := by
  unfold State.bit State.setBit
  rw [State.rd_wr _ _ w, getBit_putBit_ne _ _ hw d]

theorem State.fld_setBit_ne {s : State} {a b hi lo : Nat} (v : Bool) (w : Sparse.wf regReset s.regs = true) (hw : b < 32)
    (d : hi < b ∨ b < lo) : (s.setBit a b v).fld a hi lo = s.fld a hi lo := by
  unfold State.fld State.setBit
  rw [State.rd_wr _ _ w, getBits_putBit _ _ hw d]

/-! The register written, as a word: the form in which a chain of updates is read. -/

theorem State.rd_setFld (s : State) {a : Nat} (hi lo v : Nat) (w : Sparse.wf regReset s.regs = true) :
    (s.setFld a hi lo v).rd a = putBits (s.rd a) hi lo v := s.rd_wr _ w

theorem State.rd_setBit (s : State) {a : Nat} (b : Nat) (v : Bool) (w : Sparse.wf regReset s.regs = true) :
    (s.setBit a b v).rd a = putBit (s.rd a) b v := s.rd_wr _ w

theorem State.rd_incFld (s : State) {a : Nat} (hi lo : Nat) (w : Sparse.wf regReset s.regs = true) :
    (s.incFld a hi lo).rd a = putBits (s.rd a) hi lo (satInc (s.fld a hi lo) (2 ^ (hi + 1 - lo) - 1)) := s.rd_wr _ w

theorem State.rd_flag (s : State) {r c : Nat} (b : Nat) (w : Sparse.wf regReset s.regs = true) (h : r ≠ c + 4 * (b / 4)) :
    (s.flag r c b).rd r = putBit (s.rd r) b true := by
  unfold State.flag
  rw [State.rd_incFld_ne _ _ _ h, State.rd_setBit _ _ _ w]

theorem State.rd_mk {r g m d o f a b c e h i j k l n p q t u v w x y z aa bb} (adr : Nat) :
    State.rd ⟨r, g, m, d, o, f, a, b, c, e, h, i, j, k, l, n, p, q, t, u, v, w, x, y, z, aa, bb⟩ adr =
      Sparse.get regReset r adr := rfl

theorem State.rd_fold (s : State) (a : Nat) : Sparse.get regReset s.regs a = s.rd a := rfl

/-! GSRAM. -/

theorem State.getByte_putByte {s : State} {a : Nat} {v : Byte} (w : Memory.wf s.gsram = true) :
    (s.putByte a v).getByte a = v := Sparse.get_set_same w

theorem State.getByte_putByte_ne {s : State} {a b : Nat} {v : Byte} (h : b ≠ a) :
    (s.putByte a v).getByte b = s.getByte b := Sparse.get_set_other h

theorem State.putByte_wf {s : State} {a : Nat} {v : Byte} (w : Memory.wf s.gsram = true) :
    Memory.wf (s.putByte a v).gsram = true := Sparse.wf_set w

/-- Every memory operation keeps the canonical form. -/
theorem State.putBytes_wf : ∀ {bs : Bytes} {s : State} {a : Nat}, Memory.wf s.gsram = true →
    Memory.wf (s.putBytes a bs).gsram = true
  | [], _, _, w => w
  | _ :: bs, _, _, w => State.putBytes_wf (bs := bs) (State.putByte_wf w)

theorem State.putWord_wf {s : State} {a : Nat} {v : Word} (w : Memory.wf s.gsram = true) :
    Memory.wf (s.putWord a v).gsram = true := State.putBytes_wf w

/-- Bytes outside those written read as before. -/
theorem State.getByte_putBytes_ne : ∀ {bs : Bytes} {s : State} {a b : Nat}, b < a ∨ a + bs.length ≤ b →
    (s.putBytes a bs).getByte b = s.getByte b
  | [], _, _, _, _ => rfl
  | v :: bs, s, a, b, h => by
    simp only [List.length_cons] at h
    rw [State.putBytes, State.getByte_putBytes_ne (bs := bs) (by omega), State.getByte_putByte_ne (by omega)]

@[simp] theorem State.putBytes_rd : ∀ {bs : Bytes} {s : State} {a : Nat} (r : Nat), (s.putBytes a bs).rd r = s.rd r
  | [], _, _, _ => rfl
  | _ :: bs, s, a, r => by rw [State.putBytes, State.putBytes_rd (bs := bs)]; rfl

/-! The Insole's order. -/

/-- An operation in whose turn it is is in hand, and VIN_LOW holds nothing. -/
theorem State.insoleTurn_inHand {s : State} {op : InsoleOp} (h : s.insoleTurn op = true) :
    s.insoleInHand op = true ∧ s.supply.insoleHold = false := by
  simp only [State.insoleTurn, Bool.and_eq_true, Bool.not_eq_true', beq_iff_eq] at h
  exact ⟨List.find?_some h.2, h.1⟩

/-- Insole operations run one at a time. -/
theorem State.insoleTurn_unique {s : State} {a b : InsoleOp} (h : s.insoleTurn a = true) (k : s.insoleTurn b = true) :
    a = b := by
  simp only [State.insoleTurn, Bool.and_eq_true, Bool.not_eq_true', beq_iff_eq] at h k
  exact Option.some.inj (h.2.symm.trans k.2)

/-- No operation in hand waits for good: while one is, one runs. -/
theorem State.insoleTurn_exists {s : State} {op : InsoleOp} (h : s.insoleInHand op = true)
    (k : s.supply.insoleHold = false) : ∃ a, s.insoleTurn a = true := by
  have m : op ∈ s.links.insole ++ insoleOps := List.mem_append_right _ (by cases op <;> decide)
  obtain ⟨a, ha⟩ : ∃ a, s.insoleNext = some a :=
    Option.isSome_iff_exists.mp (List.find?_isSome.mpr ⟨op, m, h⟩)
  exact ⟨a, by simp [State.insoleTurn, k, ha]⟩

/-- Taking a place loses none of those begun. -/
theorem mem_insolePlace {op x : InsoleOp} {l : List InsoleOp} : x ∈ insolePlace op l ↔ x = op ∨ x ∈ l := by
  cases l with
  | nil => simp [insolePlace]
  | cons h rest =>
    rw [insolePlace]
    split
    · simp
    · have c := Nat.lt_or_ge op.rank x.rank
      simp only [List.cons_append, List.mem_cons, List.mem_append, List.mem_filter, decide_eq_true_eq]
      have d : ¬ op.rank < x.rank ↔ x.rank ≤ op.rank := Nat.not_lt
      tauto

end Sys2Proof.Machine
end

