-- ==== Sys2Proof/Laws/Event.lean ====
section
/-!
SUPPORT. Everything that a strobed event can do, once: it writes the registers of eventReg, the queue area of GSRAM, the
recorder, bound tasks and requested DMA channels, and leaves all else; pending flags are only set.
-/

namespace Sys2Proof.Machine

/-- From s to t only what an event may write has changed. -/
structure Eventful (s t : State) : Prop where
  mode : t.mode = s.mode
  drogue : t.drogue = s.drogue
  free : t.free = s.free
  supply : t.supply = s.supply
  links : t.links = { s.links with insole := t.links.insole }
  cfg : t.cfg = s.cfg
  update : t.update = s.update
  tim : t.tim = s.tim
  eth : t.eth = s.eth
  prg : t.prg = { s.prg with tasks := t.prg.tasks }
  ctl : t.ctl = s.ctl
  saf : t.saf = s.saf
  pcs : t.pcs = s.pcs
  swp : t.swp = s.swp
  tth : t.tth = s.tth
  cmd : t.cmd = s.cmd
  welt : t.welt = s.welt
  can : t.can = s.can
  est : t.est = s.est
  red : t.red = s.red
  pending : t.pending = s.pending
  out : s.out <:+ t.out
  rd : ∀ a, eventReg a = false → t.rd a = s.rd a
  regs : Sparse.wf regReset s.regs = true → Sparse.wf regReset t.regs = true
  gsram : Memory.wf s.gsram = true → Memory.wf t.gsram = true
  mem : ∀ a, a < (s.rd Reg.EVT_QUEUE_BASE).toNat ∨ (s.rd Reg.EVT_QUEUE_BASE).toNat + 4096 ≤ a →
    t.getByte a = s.getByte a
  pend : Sparse.wf regReset s.regs = true → ∀ k, k < 128 → s.pend k = true → t.pend k = true

theorem Eventful.refl (s : State) : Eventful s s := by
  constructor <;> first | rfl | exact List.suffix_refl _ | exact fun _ _ => rfl | exact id | exact fun _ _ _ h => h

theorem eventReg_base : eventReg Reg.EVT_QUEUE_BASE = false := by decide

theorem Eventful.trans {s t u : State} (h : Eventful s t) (k : Eventful t u) : Eventful s u where
  mode := k.mode.trans h.mode
  drogue := k.drogue.trans h.drogue
  free := k.free.trans h.free
  supply := k.supply.trans h.supply
  links := by rw [k.links, h.links]
  cfg := k.cfg.trans h.cfg
  update := k.update.trans h.update
  tim := k.tim.trans h.tim
  eth := k.eth.trans h.eth
  prg := by rw [k.prg, h.prg]
  ctl := k.ctl.trans h.ctl
  saf := k.saf.trans h.saf
  pcs := k.pcs.trans h.pcs
  swp := k.swp.trans h.swp
  tth := k.tth.trans h.tth
  cmd := k.cmd.trans h.cmd
  welt := k.welt.trans h.welt
  can := k.can.trans h.can
  est := k.est.trans h.est
  red := k.red.trans h.red
  pending := k.pending.trans h.pending
  out := h.out.trans k.out
  rd := fun a e => (k.rd a e).trans (h.rd a e)
  regs := k.regs ∘ h.regs
  gsram := k.gsram ∘ h.gsram
  mem := fun a e => by
    have b := h.rd _ eventReg_base
    exact (k.mem a (by rw [b]; exact e)).trans (h.mem a e)
  pend := fun w n hn e => k.pend (h.regs w) n hn (h.pend w n hn e)

/-- A write of one event register that clears no pending flag. -/
theorem Eventful.wr {s : State} {a : Nat} {v : Word} (h : eventReg a = true)
    (p : ∀ i, i < 4 → a = Reg.EVT_PEND i → ∀ b, b < 32 → getBit (s.rd a) b = true → getBit v b = true) :
    Eventful s (s.wr a v) := by
  constructor <;> try rfl
  · exact fun b hb => State.rd_wr_ne _ _ (fun e => by rw [e, h] at hb; cases hb)
  · exact State.wr_wf
  · exact id
  · exact fun _ _ => rfl
  · intro w k hk e
    unfold State.pend State.bit at e ⊢
    by_cases c : Reg.EVT_PEND (k / 32) = a
    · rw [c, State.rd_wr _ _ w]
      exact p (k / 32) (by omega) c.symm (k % 32) (by omega) (by rw [← c]; exact e)
    · rw [State.rd_wr_ne _ _ c]; exact e

theorem eventReg_not_pend {a i : Nat} (h : ¬ (Reg.EVT_PEND 0 ≤ a ∧ a < Reg.EVT_PEND 4)) (hi : i < 4) : a ≠ Reg.EVT_PEND i := by
  intro e; apply h; subst e; unfold Reg.EVT_PEND; omega

/-- A write of an event register other than the pending flags. -/
theorem Eventful.other {s : State} {a : Nat} {v : Word} (h : eventReg a = true)
    (n : ¬ (Reg.EVT_PEND 0 ≤ a ∧ a < Reg.EVT_PEND 4)) : Eventful s (s.wr a v) :=
  Eventful.wr h (fun _ hi e => absurd e (eventReg_not_pend n hi))

theorem eventReg_count {i : Nat} (h : i < 32) : eventReg (Reg.EVT_COUNT i) = true := by
  have : ∀ i < 32, eventReg (Reg.EVT_COUNT i) = true := by decide
  exact this i h

theorem eventReg_detail {i : Nat} (h : i < 128) : eventReg (Reg.EVT_DETAIL i) = true := by
  have : ∀ i < 128, eventReg (Reg.EVT_DETAIL i) = true := by decide
  exact this i h

theorem eventReg_task {k : Nat} (h : k < 48) : eventReg (Reg.PRG_TASK_STAT k) = true := by
  have : ∀ i < 48, eventReg (Reg.PRG_TASK_STAT i) = true := by decide
  exact this k h

theorem eventReg_chStat {n : Nat} (h : n < 16) : eventReg (Reg.DMA_CH_STAT n) = true := by
  have : ∀ i < 16, eventReg (Reg.DMA_CH_STAT i) = true := by decide
  exact this n h

theorem eventReg_chStall {n : Nat} (h : n < 16) : eventReg (Reg.DMA_CH_STALL n) = true := by
  have : ∀ i < 16, eventReg (Reg.DMA_CH_STALL i) = true := by decide
  exact this n h

theorem State.setFld_eventful {s : State} {a hi lo v : Nat} (h : eventReg a = true)
    (n : ¬ (Reg.EVT_PEND 0 ≤ a ∧ a < Reg.EVT_PEND 4)) : Eventful s (s.setFld a hi lo v) := Eventful.other h n

/-- Updates of the recorder, of tasks, of channels and of the queue's record count. -/
theorem Eventful.recorder (s : State) (x : Recorder) : Eventful s { s with recorder := x } := by
  constructor <;> first | rfl | exact List.suffix_refl _ | exact fun _ _ => rfl | exact id | exact fun _ _ _ h => h

theorem Eventful.evt (s : State) (x : Evt) : Eventful s { s with evt := x } := by
  constructor <;> first | rfl | exact List.suffix_refl _ | exact fun _ _ => rfl | exact id | exact fun _ _ _ h => h

theorem State.insole_eventful (s : State) (l : List InsoleOp) :
    Eventful s { s with links := { s.links with insole := l } } := by
  constructor <;> first | rfl | exact List.suffix_refl _ | exact fun _ _ => rfl | exact id | exact fun _ _ _ h => h

theorem Eventful.dma (s : State) (x : Dma) : Eventful s { s with dma := x } := by
  constructor <;> first | rfl | exact List.suffix_refl _ | exact fun _ _ => rfl | exact id | exact fun _ _ _ h => h

theorem State.setTask_eventful (s : State) (k : Nat) (t : TaskRt) : Eventful s (s.setTask k t) := by
  constructor <;> first | rfl | exact List.suffix_refl _ | exact fun _ _ => rfl | exact id | exact fun _ _ _ h => h

theorem State.emit_eventful (s : State) (o : Output) : Eventful s (s.emit o) := by
  constructor <;> first | rfl | exact List.suffix_cons _ _ | exact fun _ _ => rfl | exact id | exact fun _ _ _ h => h

theorem State.dmaRequest_eventful (s : State) (line : Nat) : Eventful s (s.dmaRequest line) := by
  unfold State.dmaRequest
  split
  · exact Eventful.refl s
  · rename_i n e
    have hn : n < 16 := by simpa using List.mem_of_find?_eq_some e
    have k (x : Dma) := Eventful.dma s x
    dsimp only
    split
    · refine ((k _).trans (State.setFld_eventful (eventReg_chStat hn) ?_)).trans
        (State.setFld_eventful (eventReg_chStall hn) ?_) <;>
      simp only [Reg.EVT_PEND, Reg.DMA_CH_STAT, Reg.DMA_CH_STALL] <;> omega
    · exact k _

theorem State.insoleStart_eventful (s : State) (op : InsoleOp) : Eventful s (s.insoleStart op) := by
  unfold State.insoleStart
  split
  · exact Eventful.refl s
  · exact State.insole_eventful s _

theorem State.recProgramPage_eventful (s : State) : Eventful s s.recProgramPage := by
  unfold State.recProgramPage
  split
  · exact Eventful.refl s
  · dsimp only
    split
    · exact (State.insoleStart_eventful s _).trans (Eventful.recorder _ _)
    · exact Eventful.recorder s _

theorem State.flagRec_eventful (s : State) : Eventful s (s.flag Reg.REC_STAT Reg.REC_STAT_COUNT 1) :=
  Eventful.trans (Eventful.other (by decide) (by decide)) (Eventful.other (by decide) (by decide))

theorem State.recOccur_eventful (s : State) (code detail : Nat) : Eventful s (s.recOccur code detail).1 := by
  have i (u : State) (hi lo : Nat) : Eventful u (u.incFld Reg.REC_DETAIL hi lo) := Eventful.other (by decide) (by decide)
  unfold State.recOccur
  lift_lets -underBinder
  intro c c1 r1 s1 spent supp e r2 s2 s3 s4 s5
  have h1 : Eventful s s1 := Eventful.recorder s _
  have h3 : Eventful s s3 := (h1.trans (Eventful.recorder s1 _)).trans (i _ _ _)
  have h5 : Eventful s s5 := ((h1.trans (Eventful.recorder s1 _)).trans (i _ _ _)).trans (State.flagRec_eventful _)
  clear_value s5 s3 s1
  split
  · dsimp only
    split
    · exact h3.trans (State.recProgramPage_eventful _)
    · exact h3
  · exact h5

theorem State.releaseEvent_eventful (s : State) {k : Nat} (h : k < 48) : Eventful s (s.releaseEvent k) := by
  have f (u : State) (hi lo v : Nat) : Eventful u (u.setFld (Reg.PRG_TASK_STAT k) hi lo v) :=
    Eventful.other (eventReg_task h) (by simp only [Reg.EVT_PEND, Reg.PRG_TASK_STAT]; omega)
  have i (u : State) (hi lo : Nat) : Eventful u (u.incFld (Reg.PRG_TASK_STAT k) hi lo) := f u _ _ _
  unfold State.releaseEvent
  dsimp only
  split
  · exact (f _ _ _ _).trans (State.setTask_eventful _ _ _)
  · split
    · exact i _ _ _
    · exact State.setTask_eventful _ _ _
  · split
    · exact i _ _ _
    · exact State.setTask_eventful _ _ _
  · exact Eventful.refl s
  · exact i _ _ _

theorem State.deliver_eventful (s : State) (src detail : Nat) : Eventful s (s.deliver src detail) := by
  have fold : ∀ (l : List Nat) (t : State), (∀ k ∈ l, k < 48) →
      Eventful t (l.foldl (fun t k => if s.boundTo src k then t.releaseEvent k else t) t) := by
    intro l
    induction l with
    | nil => exact fun t _ => Eventful.refl t
    | cons k l ih =>
      intro t h
      refine Eventful.trans ?_ (ih _ (fun x hx => h x (List.mem_cons_of_mem _ hx)))
      dsimp only
      split
      · exact State.releaseEvent_eventful _ (h k List.mem_cons_self)
      · exact Eventful.refl t
  unfold State.deliver
  dsimp only
  split
  · exact (State.emit_eventful _ _).trans (fold _ _ (fun k hk => by simpa using hk))
  · exact State.emit_eventful _ _

theorem bytesLE_length : ∀ (n v : Nat), (bytesLE n v).length = n
  | 0, _ => rfl
  | n + 1, v => by simp [bytesLE, bytesLE_length n]

theorem State.putBytes_eventful (s : State) {a : Nat} {bs : Bytes}
    (h : (s.rd Reg.EVT_QUEUE_BASE).toNat ≤ a ∧ a + bs.length ≤ (s.rd Reg.EVT_QUEUE_BASE).toNat + 4096) :
    Eventful s (s.putBytes a bs) := by
  have key : ∀ (bs : Bytes) (s : State) (a : Nat), (s.putBytes a bs).mode = s.mode ∧ (s.putBytes a bs).drogue = s.drogue ∧
      (s.putBytes a bs).free = s.free ∧ (s.putBytes a bs).supply = s.supply ∧ (s.putBytes a bs).links = s.links ∧
      (s.putBytes a bs).cfg = s.cfg ∧ (s.putBytes a bs).update = s.update ∧ (s.putBytes a bs).tim = s.tim ∧
      (s.putBytes a bs).eth = s.eth ∧ (s.putBytes a bs).prg = s.prg ∧ (s.putBytes a bs).ctl = s.ctl ∧
      (s.putBytes a bs).saf = s.saf ∧ (s.putBytes a bs).pcs = s.pcs ∧ (s.putBytes a bs).swp = s.swp ∧
      (s.putBytes a bs).tth = s.tth ∧ (s.putBytes a bs).cmd = s.cmd ∧ (s.putBytes a bs).welt = s.welt ∧
      (s.putBytes a bs).can = s.can ∧ (s.putBytes a bs).est = s.est ∧ (s.putBytes a bs).red = s.red ∧
      (s.putBytes a bs).pending = s.pending ∧ (s.putBytes a bs).out = s.out ∧ (s.putBytes a bs).regs = s.regs := by
    intro bs
    induction bs with
    | nil => intro s a; refine ⟨?_, ?_, ?_, ?_, ?_, ?_, ?_, ?_, ?_, ?_, ?_, ?_, ?_, ?_, ?_, ?_, ?_, ?_, ?_, ?_, ?_, ?_, ?_⟩ <;> rfl
    | cons b bs ih => intro s a; exact ih (s.putByte a b) (a + 1)
  obtain ⟨h1, h2, h3, h4, h5, h6, h7, h8, h9, h10, h11, h12, h13, h14, h15, h16, h17, h18, h19, h20, h21, h22, h23⟩ :=
    key bs s a
  constructor
  case prg => rw [h10]
  case links => rw [h5]
  case out => rw [h22]
  case rd => exact fun b _ => State.putBytes_rd b
  case regs => rw [h23]; exact id
  case gsram => exact State.putBytes_wf
  case mem => exact fun b hb => State.getByte_putBytes_ne (by omega)
  case pend => intro _ k _ e; unfold State.pend State.bit at e ⊢; rw [State.putBytes_rd]; exact e
  all_goals assumption

theorem State.queueRecord_length (s : State) (src detail : Nat) : (s.queueRecord src detail).length = 16 := by
  simp [State.queueRecord, bytesLE_length]

theorem State.queuePush_eventful (s : State) (src detail : Nat) : Eventful s (s.queuePush src detail) := by
  unfold State.queuePush
  dsimp only
  refine Eventful.trans (State.putBytes_eventful s ?_) (Eventful.trans (Eventful.evt _ _) (Eventful.trans
    (State.setFld_eventful (by decide) (by decide)) (Eventful.trans (State.setFld_eventful (by decide) (by decide))
      (State.dmaRequest_eventful _ _))))
  rw [State.queueRecord_length]; omega

theorem State.queueDrop_eventful (s : State) : Eventful s s.queueDrop := State.setFld_eventful (by decide) (by decide)

theorem State.evtMark_eventful (s : State) {src : Nat} (detail : Nat) (h : src < 128) : Eventful s (s.evtMark src detail) := by
  unfold State.evtMark
  refine Eventful.trans (Eventful.trans ?_ (State.setFld_eventful (eventReg_count (by omega)) ?_))
    (Eventful.other (eventReg_detail h) ?_)
  · refine Eventful.wr ?_ ?_
    · have : ∀ i < 4, eventReg (Reg.EVT_PEND i) = true := by decide
      exact this _ (by omega)
    · intro _ _ _ b hb e
      by_cases c : b = src % 32
      · subst c; exact getBit_putBit _ _ (by omega)
      · rw [getBit_putBit_ne _ _ (by omega) c]; exact e
  · simp only [Reg.EVT_PEND, Reg.EVT_COUNT]; omega
  · simp only [Reg.EVT_PEND, Reg.EVT_DETAIL]; omega

theorem State.strobeTo_eventful : ∀ (n : Nat) (s : State) {src : Nat} (detail : Nat), src < 128 →
    Eventful s (State.strobeTo n s src detail)
  | 0, s, _, _, _ => Eventful.refl s
  | n + 1, s, src, detail, h => by
    have again (u : State) (d : Nat) := State.strobeTo_eventful n u (src := Src.REC_RATE_LIMIT) d (by decide)
    have over_ (u : State) (d : Nat) := State.strobeTo_eventful n u (src := Src.EVT_QUEUE_OVERFLOW) d (by decide)
    have occ (u : State) (c d : Nat) : Eventful u (if (u.recOccur c d).2 then
        State.strobeTo n (u.recOccur c d).1 Src.REC_RATE_LIMIT c else (u.recOccur c d).1) := by
      split
      · exact (State.recOccur_eventful _ _ _).trans (again _ _)
      · exact State.recOccur_eventful _ _ _
    have e1 := State.evtMark_eventful s detail h
    have e2 (u : State) (b : Bool) : Eventful u (if b then u.deliver src detail else u) := by
      split
      · exact State.deliver_eventful _ _ _
      · exact Eventful.refl u
    have e3 (u : State) (b : Bool) : Eventful u (if b then
        if u.queueFill ≥ 256 then State.strobeTo n u.queueDrop Src.EVT_QUEUE_OVERFLOW
          (u.queueDrop.fld Reg.EVT_QUEUE_STAT 31 16 * 256 + src) else u.queuePush src detail else u) := by
      split
      · split
        · exact (State.queueDrop_eventful _).trans (over_ _ _)
        · exact State.queuePush_eventful _ _ _
      · exact Eventful.refl u
    unfold State.strobeTo
    dsimp only
    split
    · exact (((e1.trans (e2 _ _)).trans (e3 _ _)).trans (occ _ _ _)).trans (occ _ _ _)
    · exact ((e1.trans (e2 _ _)).trans (e3 _ _)).trans (occ _ _ _)

/-- Everything that a strobe can do. -/
theorem State.strobe_eventful (s : State) {src : Nat} (detail : Nat) (h : src < 128) : Eventful s (s.strobe src detail) :=
  State.strobeTo_eventful 8 s detail h

/-- A strobe leaves its source pending. -/
theorem State.strobe_pend (s : State) {src : Nat} (detail : Nat) (h : src < 128) (w : Sparse.wf regReset s.regs = true) :
    (s.strobe src detail).pend src = true := by
  have h1 : (s.evtMark src detail).pend src = true := by
    unfold State.pend State.bit State.evtMark
    rw [State.rd_wr_ne _ _ (by simp only [Reg.EVT_PEND, Reg.EVT_DETAIL]; omega),
      State.rd_incFld_ne _ _ _ (by simp only [Reg.EVT_PEND, Reg.EVT_COUNT]; omega)]
    exact State.bit_setBit true w (by omega)
  have w1 := (State.evtMark_eventful s detail h).regs w
  have again (n : Nat) (u : State) (d : Nat) := State.strobeTo_eventful n u (src := Src.REC_RATE_LIMIT) d (by decide)
  have over_ (n : Nat) (u : State) (d : Nat) := State.strobeTo_eventful n u (src := Src.EVT_QUEUE_OVERFLOW) d (by decide)
  have occ (u : State) (c d : Nat) : Eventful u (if (u.recOccur c d).2 then
      State.strobeTo 7 (u.recOccur c d).1 Src.REC_RATE_LIMIT c else (u.recOccur c d).1) := by
    split
    · exact (State.recOccur_eventful _ _ _).trans (again _ _ _)
    · exact State.recOccur_eventful _ _ _
  have e2 (u : State) (b : Bool) : Eventful u (if b then u.deliver src detail else u) := by
    split
    · exact State.deliver_eventful _ _ _
    · exact Eventful.refl u
  have e3 (u : State) (b : Bool) : Eventful u (if b then
      if u.queueFill ≥ 256 then State.strobeTo 7 u.queueDrop Src.EVT_QUEUE_OVERFLOW
        (u.queueDrop.fld Reg.EVT_QUEUE_STAT 31 16 * 256 + src) else u.queuePush src detail else u) := by
    split
    · split
      · exact (State.queueDrop_eventful _).trans (over_ _ _ _)
      · exact State.queuePush_eventful _ _ _
    · exact Eventful.refl u
  unfold State.strobe State.strobeTo
  dsimp only
  split
  · exact ((((e2 _ _).trans (e3 _ _)).trans (occ _ _ _)).trans (occ _ _ _)).pend w1 src h h1
  · exact (((e2 _ _).trans (e3 _ _)).trans (occ _ _ _)).pend w1 src h h1

/-! What a strobe leaves, field by field. The premise on the source is decided where it is a numeral. -/

@[simp] theorem State.strobe_mode (s : State) {src : Nat} (d : Nat) (h : src < 128) : (s.strobe src d).mode = s.mode :=
  (s.strobe_eventful d h).mode
@[simp] theorem State.strobe_drogue (s : State) {src : Nat} (d : Nat) (h : src < 128) : (s.strobe src d).drogue = s.drogue :=
  (s.strobe_eventful d h).drogue
@[simp] theorem State.strobe_free (s : State) {src : Nat} (d : Nat) (h : src < 128) : (s.strobe src d).free = s.free :=
  (s.strobe_eventful d h).free
@[simp] theorem State.strobe_supply (s : State) {src : Nat} (d : Nat) (h : src < 128) : (s.strobe src d).supply = s.supply :=
  (s.strobe_eventful d h).supply
theorem State.strobe_links (s : State) {src : Nat} (d : Nat) (h : src < 128) :
    (s.strobe src d).links = { s.links with insole := (s.strobe src d).links.insole } := (s.strobe_eventful d h).links
@[simp] theorem State.strobe_links_vsUp (s : State) {src : Nat} (d : Nat) (h : src < 128) :
    (s.strobe src d).links.vsUp = s.links.vsUp := by rw [(s.strobe_eventful d h).links]
@[simp] theorem State.strobe_links_vsFails (s : State) {src : Nat} (d : Nat) (h : src < 128) :
    (s.strobe src d).links.vsFails = s.links.vsFails := by rw [(s.strobe_eventful d h).links]
@[simp] theorem State.strobe_links_vsSeq (s : State) {src : Nat} (d : Nat) (h : src < 128) :
    (s.strobe src d).links.vsSeq = s.links.vsSeq := by rw [(s.strobe_eventful d h).links]
@[simp] theorem State.strobe_links_soleFails (s : State) {src : Nat} (d : Nat) (h : src < 128) :
    (s.strobe src d).links.soleFails = s.links.soleFails := by rw [(s.strobe_eventful d h).links]
@[simp] theorem State.strobe_links_soleSeq (s : State) {src : Nat} (d : Nat) (h : src < 128) :
    (s.strobe src d).links.soleSeq = s.links.soleSeq := by rw [(s.strobe_eventful d h).links]
@[simp] theorem State.strobe_links_crossVamp (s : State) {src : Nat} (d : Nat) (h : src < 128) :
    (s.strobe src d).links.crossVamp = s.links.crossVamp := by rw [(s.strobe_eventful d h).links]
@[simp] theorem State.strobe_links_crossSole (s : State) {src : Nat} (d : Nat) (h : src < 128) :
    (s.strobe src d).links.crossSole = s.links.crossSole := by rw [(s.strobe_eventful d h).links]
@[simp] theorem State.strobe_links_viFails (s : State) {src : Nat} (d : Nat) (h : src < 128) :
    (s.strobe src d).links.viFails = s.links.viFails := by rw [(s.strobe_eventful d h).links]
@[simp] theorem State.strobe_links_spoilt (s : State) {src : Nat} (d : Nat) (h : src < 128) :
    (s.strobe src d).links.spoilt = s.links.spoilt := by rw [(s.strobe_eventful d h).links]
@[simp] theorem State.strobe_links_downSince (s : State) {src : Nat} (d : Nat) (h : src < 128) :
    (s.strobe src d).links.downSince = s.links.downSince := by rw [(s.strobe_eventful d h).links]
@[simp] theorem State.strobe_links_readOnly (s : State) {src : Nat} (d : Nat) (h : src < 128) :
    (s.strobe src d).links.readOnly = s.links.readOnly := by rw [(s.strobe_eventful d h).links]
@[simp] theorem State.strobe_cfg (s : State) {src : Nat} (d : Nat) (h : src < 128) : (s.strobe src d).cfg = s.cfg :=
  (s.strobe_eventful d h).cfg
@[simp] theorem State.strobe_update (s : State) {src : Nat} (d : Nat) (h : src < 128) : (s.strobe src d).update = s.update :=
  (s.strobe_eventful d h).update
@[simp] theorem State.strobe_tim (s : State) {src : Nat} (d : Nat) (h : src < 128) : (s.strobe src d).tim = s.tim :=
  (s.strobe_eventful d h).tim
@[simp] theorem State.strobe_eth (s : State) {src : Nat} (d : Nat) (h : src < 128) : (s.strobe src d).eth = s.eth :=
  (s.strobe_eventful d h).eth
@[simp] theorem State.strobe_ctl (s : State) {src : Nat} (d : Nat) (h : src < 128) : (s.strobe src d).ctl = s.ctl :=
  (s.strobe_eventful d h).ctl
@[simp] theorem State.strobe_saf (s : State) {src : Nat} (d : Nat) (h : src < 128) : (s.strobe src d).saf = s.saf :=
  (s.strobe_eventful d h).saf
@[simp] theorem State.strobe_pcs (s : State) {src : Nat} (d : Nat) (h : src < 128) : (s.strobe src d).pcs = s.pcs :=
  (s.strobe_eventful d h).pcs
@[simp] theorem State.strobe_swp (s : State) {src : Nat} (d : Nat) (h : src < 128) : (s.strobe src d).swp = s.swp :=
  (s.strobe_eventful d h).swp
@[simp] theorem State.strobe_tth (s : State) {src : Nat} (d : Nat) (h : src < 128) : (s.strobe src d).tth = s.tth :=
  (s.strobe_eventful d h).tth
@[simp] theorem State.strobe_cmd (s : State) {src : Nat} (d : Nat) (h : src < 128) : (s.strobe src d).cmd = s.cmd :=
  (s.strobe_eventful d h).cmd
@[simp] theorem State.strobe_welt (s : State) {src : Nat} (d : Nat) (h : src < 128) : (s.strobe src d).welt = s.welt :=
  (s.strobe_eventful d h).welt
@[simp] theorem State.strobe_can (s : State) {src : Nat} (d : Nat) (h : src < 128) : (s.strobe src d).can = s.can :=
  (s.strobe_eventful d h).can
@[simp] theorem State.strobe_est (s : State) {src : Nat} (d : Nat) (h : src < 128) : (s.strobe src d).est = s.est :=
  (s.strobe_eventful d h).est
@[simp] theorem State.strobe_red (s : State) {src : Nat} (d : Nat) (h : src < 128) : (s.strobe src d).red = s.red :=
  (s.strobe_eventful d h).red
@[simp] theorem State.strobe_pending (s : State) {src : Nat} (d : Nat) (h : src < 128) : (s.strobe src d).pending = s.pending :=
  (s.strobe_eventful d h).pending
@[simp] theorem State.strobe_rd (s : State) {src a : Nat} (d : Nat) (h : src < 128) (n : eventReg a = false) :
    (s.strobe src d).rd a = s.rd a := (s.strobe_eventful d h).rd a n

@[simp] theorem State.strobe_fld (s : State) {src a : Nat} (d hi lo : Nat) (h : src < 128) (n : eventReg a = false) :
    (s.strobe src d).fld a hi lo = s.fld a hi lo := by unfold State.fld; rw [s.strobe_rd d h n]

@[simp] theorem State.strobe_bit (s : State) {src a : Nat} (d b : Nat) (h : src < 128) (n : eventReg a = false) :
    (s.strobe src d).bit a b = s.bit a b := by unfold State.bit; rw [s.strobe_rd d h n]

theorem State.strobe_wf {s : State} {src : Nat} {d : Nat} (h : src < 128) (w : Sparse.wf regReset s.regs = true) :
    Sparse.wf regReset (s.strobe src d).regs = true := (s.strobe_eventful d h).regs w

end Sys2Proof.Machine
end

