-- ==== Sys2Proof/Laws/Keeps.lean ====
section
/-!
SUPPORT. What no command undoes: the queue stands as it was, registers and GSRAM keep their canonical form, what has left
the controller is never taken back, and draws of free values only go up. Each operation has one lemma that says so.
-/

namespace Sys2Proof.Machine

/-- From s to t the queue stands, the canonical forms are kept, outputs only join and draws only count up. -/
structure Keeps (s t : State) : Prop where
  queue : t.pending = s.pending
  regs : Sparse.wf regReset s.regs = true → Sparse.wf regReset t.regs = true
  gsram : Memory.wf s.gsram = true → Memory.wf t.gsram = true
  out : s.out <:+ t.out
  free : s.free ≤ t.free

/-- The state that an optional state holds, if any, is kept. -/
def KeepsO (s : State) (o : Option State) : Prop := ∀ u, o = some u → Keeps s u

/-- The next state of an outcome, if any, is kept. -/
def KeepsE (s : State) (o : Host.Outcome State Fault Refusal) : Prop := ∀ u, o = .next u → Keeps s u

/-- The change that an optional pair carries, if any, keeps. -/
def KeepsP {α : Type} (s : State) (o : Option (α × (State → State))) : Prop :=
  ∀ d g, o = some (d, g) → ∀ t, Keeps s t → Keeps s (g t)

/-- The state of a pair is kept. -/
abbrev KeepsF {α : Type} (s : State) (p : State × α) : Prop := Keeps s p.1
abbrev KeepsS {α : Type} (s : State) (p : α × State) : Prop := Keeps s p.2

abbrev KeepsT {α β : Type} (s : State) (p : α × β × State) : Prop := Keeps s p.2.2

theorem KeepsF.mk {α : Type} {s t : State} {a : α} (h : Keeps s t) : KeepsF s (t, a) := h

theorem KeepsS.mk {α : Type} {s t : State} {a : α} (h : Keeps s t) : KeepsS s (a, t) := h

theorem KeepsF.get {α : Type} {s t : State} {p : State × α} {a : α} (h : KeepsF s p) (e : p = (t, a)) : Keeps s t := by
  subst e; exact h

theorem KeepsS.get {α : Type} {s t : State} {p : α × State} {a : α} (h : KeepsS s p) (e : p = (a, t)) : Keeps s t := by
  subst e; exact h

theorem Keeps.refl (s : State) : Keeps s s := ⟨rfl, id, id, List.suffix_refl _, Nat.le_refl _⟩

theorem Keeps.trans {s t u : State} (h : Keeps s t) (k : Keeps t u) : Keeps s u :=
  ⟨k.queue.trans h.queue, k.regs ∘ h.regs, k.gsram ∘ h.gsram, h.out.trans k.out, Nat.le_trans h.free k.free⟩

/-- An update of other fields keeps. -/
theorem Keeps.upd {s x : State} {a b c d e f g i j k l m n o p q r u v w y z}
    (h : Keeps s x) :
    Keeps s ⟨x.regs, x.gsram, a, b, x.out, x.free, c, d, e, f, g, i, j, k, l, m, n, o, p, q, r, u, v, w, y, z, x.pending⟩ :=
  ⟨h.queue, h.regs, h.gsram, h.out, h.free⟩

theorem Keeps.cut {p q : Prop} (hp : p) (hpq : p → q) : q := hpq hp

theorem Keeps.ite {s a b : State} {c : Prop} {_ : Decidable c} (h : c → Keeps s a) (k : ¬ c → Keeps s b) :
    Keeps s (if c then a else b) := by
  split
  · exact h ‹_›
  · exact k ‹_›

theorem Keeps.foldl {s : State} {α : Type} {f : State → α → State} (hf : ∀ t x, Keeps s t → Keeps s (f t x)) :
    ∀ {l : List α} {a : State}, Keeps s a → Keeps s (l.foldl f a)
  | [], _, h => h
  | x :: l, _, h => Keeps.foldl (l := l) hf (hf _ x h)

theorem Keeps.foldl1 {s : State} {α β : Type} {f : State × β → α → State × β}
    (hf : ∀ t x, Keeps s t.1 → Keeps s (f t x).1) :
    ∀ {l : List α} {a : State × β}, Keeps s a.1 → Keeps s (l.foldl f a).1
  | [], _, h => h
  | x :: l, _, h => Keeps.foldl1 (l := l) hf (hf _ x h)

theorem KeepsO.none {s : State} : KeepsO s none := fun _ h => by cases h

theorem KeepsO.some {s t : State} (h : Keeps s t) : KeepsO s (some t) := fun _ e => by cases e; exact h

theorem KeepsO.map {α : Type} {s : State} {o : Option α} {f : α → State} (h : ∀ a, Keeps s (f a)) :
    KeepsO s (o.map f) := by
  cases o with
  | none => exact KeepsO.none
  | some a => exact KeepsO.some (h a)

theorem KeepsO.get {s u : State} {o : Option State} (h : KeepsO s o) (e : o = Option.some u) : Keeps s u := h u e

theorem Keeps.getD {s t : State} {o : Option State} (h : KeepsO s o) (k : Keeps s t) : Keeps s (o.getD t) := by
  cases o with
  | none => exact k
  | some u => exact h u rfl

theorem KeepsP.none {α : Type} {s : State} : KeepsP s (none : Option (α × (State → State))) := fun _ _ h => by cases h

theorem KeepsP.some {α : Type} {s : State} {a : α} {g : State → State} (h : ∀ t, Keeps s t → Keeps s (g t)) :
    KeepsP s (Option.some (a, g)) := fun _ _ e => by cases e; exact h

theorem KeepsP.same {α : Type} {s : State} {a : α} : KeepsP s (Option.some (a, id)) := KeepsP.some (fun _ h => h)

theorem KeepsE.next {s t : State} (h : Keeps s t) : KeepsE s (.next t) := fun _ e => by cases e; exact h

theorem KeepsE.get {s t : State} (h : KeepsE s (.next t)) : Keeps s t := h t rfl

/-! The four operations that touch registers, GSRAM, outputs or draws. -/

theorem State.wr_keeps {s t : State} {a : Nat} {v : Word} (h : Keeps s t) : Keeps s (t.wr a v) :=
  ⟨h.queue, fun w => Sparse.wf_set (h.regs w), h.gsram, h.out, h.free⟩

theorem State.putByte_keeps {s t : State} {a : Nat} {v : Byte} (h : Keeps s t) : Keeps s (t.putByte a v) :=
  ⟨h.queue, h.regs, fun w => Sparse.wf_set (h.gsram w), h.out, h.free⟩

theorem State.emit_keeps {s t : State} {o : Output} (h : Keeps s t) : Keeps s (t.emit o) :=
  ⟨h.queue, h.regs, h.gsram, h.out.trans (List.suffix_cons _ _), h.free⟩

theorem State.drawn_keeps {s t : State} (h : Keeps s t) : Keeps s t.drawn :=
  ⟨h.queue, h.regs, h.gsram, h.out, Nat.le_succ_of_le h.free⟩

theorem State.drawnBy_keeps {s t : State} {n : Nat} (h : Keeps s t) : Keeps s (t.drawnBy n) :=
  ⟨h.queue, h.regs, h.gsram, h.out, Nat.le_trans h.free (Nat.le_add_right _ _)⟩

theorem State.putBytes_keeps {s : State} : ∀ {bs : Bytes} {t : State} {a : Nat}, Keeps s t → Keeps s (t.putBytes a bs)
  | [], _, _, h => h
  | _ :: bs, _, _, h => State.putBytes_keeps (bs := bs) (State.putByte_keeps h)

end Sys2Proof.Machine
end

