-- ==== Sys2Proof/Laws/KeepsEvent.lean ====
section
/-!
SUPPORT. What no operation undoes (Laws/Keeps.lean), operation by operation: events, the recorder and the links.
-/

namespace Sys2Proof.Machine

theorem State.whenVamp_keeps {b0 : State} (s : State) (o : Host.Outcome State Fault Refusal) (hf : KeepsE b0 o) (hk : Keeps b0 s) : KeepsE b0 (State.whenVamp s o) := by
  unfold State.whenVamp
  repeat' first
    | with_reducible assumption
    | with_reducible first
        | apply KeepsE.next | apply hf | exact KeepsE.get hf | (refine Keeps.ite (fun _ => ?_) (fun _ => ?_))
    | split

theorem State.setFld_keeps {b0 : State} (s : State) (a hi lo v : Nat) (hk : Keeps b0 s) : Keeps b0 (State.setFld s a hi lo v) := by
  unfold State.setFld
  repeat' first
    | with_reducible assumption
    | with_reducible first
        | apply State.wr_keeps

theorem State.setBit_keeps {b0 : State} (s : State) (a b : Nat) (v : Bool) (hk : Keeps b0 s) : Keeps b0 (State.setBit s a b v) := by
  unfold State.setBit
  repeat' first
    | with_reducible assumption
    | with_reducible first
        | apply State.wr_keeps

theorem State.incFld_keeps {b0 : State} (s : State) (a hi lo : Nat) (hk : Keeps b0 s) : Keeps b0 (State.incFld s a hi lo) := by
  unfold State.incFld
  repeat' first
    | with_reducible assumption
    | with_reducible first
        | apply State.setFld_keeps

theorem State.incWrap_keeps {b0 : State} (s : State) (a : Nat) (hk : Keeps b0 s) : Keeps b0 (State.incWrap s a) := by
  unfold State.incWrap
  repeat' first
    | with_reducible assumption
    | with_reducible first
        | apply State.wr_keeps

theorem State.flag_keeps {b0 : State} (s : State) (reg cnt b : Nat) (hk : Keeps b0 s) : Keeps b0 (State.flag s reg cnt b) := by
  unfold State.flag
  repeat' first
    | with_reducible assumption
    | with_reducible first
        | apply State.setBit_keeps | apply State.incFld_keeps

theorem State.putWord_keeps {b0 : State} (s : State) (a : Nat) (w : Word) (hk : Keeps b0 s) : Keeps b0 (State.putWord s a w) := by
  unfold State.putWord
  repeat' first
    | with_reducible assumption
    | with_reducible first
        | apply State.putBytes_keeps

theorem State.spoil_keeps {b0 : State} (s : State) (area : Nat) (hk : Keeps b0 s) : Keeps b0 (State.spoil s area) := by
  unfold State.spoil
  repeat' first
    | with_reducible assumption | (intro x; clear_value x) | lift_lets -underBinder
    | with_reducible first
        | (refine Keeps.ite (fun _ => ?_) (fun _ => ?_)) | (refine Keeps.upd ?_; assumption)

theorem State.unspoil_keeps {b0 : State} (s : State) (area : Nat) (hk : Keeps b0 s) : Keeps b0 (State.unspoil s area) := by
  unfold State.unspoil
  repeat' first
    | with_reducible assumption | (intro x; clear_value x) | lift_lets -underBinder
    | with_reducible first
        | (refine Keeps.upd ?_; assumption)

theorem State.insoleStart_keeps {b0 : State} (s : State) (op : InsoleOp) (hk : Keeps b0 s) : Keeps b0 (State.insoleStart s op) := by
  unfold State.insoleStart
  repeat' first
    | with_reducible assumption
    | (intro x; refine @Keeps.cut (Keeps b0 x) _ ?_ ?_ <;> [subst x; (intro _; clear_value x)])
    | (intro x; clear_value x) | lift_lets -underBinder
    | with_reducible first
        | (refine Keeps.ite (fun _ => ?_) (fun _ => ?_)) | (refine Keeps.upd ?_; assumption)
    | split

theorem State.dmaRequest_keeps {b0 : State} (s : State) (line : Nat) (hk : Keeps b0 s) : Keeps b0 (State.dmaRequest s line) := by
  unfold State.dmaRequest
  repeat' first
    | with_reducible assumption
    | (intro x; refine @Keeps.cut (Keeps b0 x) _ ?_ ?_ <;> [subst x; (intro _; clear_value x)])
    | (intro x; clear_value x) | lift_lets -underBinder
    | with_reducible first
        | apply State.setFld_keeps | (refine Keeps.ite (fun _ => ?_) (fun _ => ?_))
        | (refine Keeps.upd ?_; assumption)
    | split

theorem State.recProgramPage_keeps {b0 : State} (s : State) (hk : Keeps b0 s) : Keeps b0 (State.recProgramPage s) := by
  unfold State.recProgramPage
  repeat' first
    | with_reducible assumption
    | (intro x; refine @Keeps.cut (Keeps b0 x) _ ?_ ?_ <;> [subst x; (intro _; clear_value x)])
    | (intro x; clear_value x) | lift_lets -underBinder
    | with_reducible first
        | apply State.insoleStart_keeps | (refine Keeps.ite (fun _ => ?_) (fun _ => ?_))
        | (refine Keeps.upd ?_; assumption)
    | split

theorem State.recOccur_keeps {b0 : State} (s : State) (code detail : Nat) (hk : Keeps b0 s) : KeepsF b0 (State.recOccur s code detail) := by
  unfold State.recOccur
  repeat' first
    | with_reducible assumption
    | (intro x; refine @Keeps.cut (Keeps b0 x) _ ?_ ?_ <;> [subst x; (intro _; clear_value x)])
    | (intro x; clear_value x) | lift_lets -underBinder
    | with_reducible first
        | apply State.incFld_keeps | apply State.recProgramPage_keeps | apply State.flag_keeps
        | (refine Keeps.ite (fun _ => ?_) (fun _ => ?_)) | (refine Keeps.upd ?_; assumption)
    | split

theorem State.setTask_keeps {b0 : State} (s : State) (k : Nat) (t : TaskRt) (hk : Keeps b0 s) : Keeps b0 (State.setTask s k t) := by
  unfold State.setTask
  repeat' first
    | with_reducible assumption | (intro x; clear_value x) | lift_lets -underBinder
    | with_reducible first
        | (refine Keeps.upd ?_; assumption)

theorem State.releaseEvent_keeps {b0 : State} (s : State) (k : Nat) (hk : Keeps b0 s) : Keeps b0 (State.releaseEvent s k) := by
  unfold State.releaseEvent
  repeat' first
    | with_reducible assumption | (intro x; clear_value x) | lift_lets -underBinder
    | with_reducible first
        | apply State.setFld_keeps | apply State.setTask_keeps | apply State.incFld_keeps
        | (refine Keeps.ite (fun _ => ?_) (fun _ => ?_))
    | split

theorem State.deliver_keeps {b0 : State} (s : State) (src detail : Nat) (hk : Keeps b0 s) : Keeps b0 (State.deliver s src detail) := by
  unfold State.deliver
  repeat' first
    | with_reducible assumption
    | (intro x; refine @Keeps.cut (Keeps b0 x) _ ?_ ?_ <;> [subst x; (intro _; clear_value x)])
    | lift_lets -underBinder
    | with_reducible first
        | apply State.emit_keeps | apply State.releaseEvent_keeps | refine Keeps.foldl (fun _ _ _ => ?_) ?_
        | refine Keeps.foldl1 (fun _ _ _ => ?_) ?_ | (refine Keeps.ite (fun _ => ?_) (fun _ => ?_))

theorem State.queuePush_keeps {b0 : State} (s : State) (src detail : Nat) (hk : Keeps b0 s) : Keeps b0 (State.queuePush s src detail) := by
  unfold State.queuePush
  repeat' first
    | with_reducible assumption
    | (intro x; refine @Keeps.cut (Keeps b0 x) _ ?_ ?_ <;> [subst x; (intro _; clear_value x)])
    | (intro x; clear_value x) | lift_lets -underBinder
    | with_reducible first
        | apply State.putBytes_keeps | apply State.setFld_keeps | apply State.dmaRequest_keeps
        | (refine Keeps.upd ?_; assumption)

theorem State.queueDrop_keeps {b0 : State} (s : State) (hk : Keeps b0 s) : Keeps b0 (State.queueDrop s) := by
  unfold State.queueDrop
  repeat' first
    | with_reducible assumption
    | with_reducible first
        | apply State.incFld_keeps

theorem State.evtMark_keeps {b0 : State} (s : State) (src detail : Nat) (hk : Keeps b0 s) : Keeps b0 (State.evtMark s src detail) := by
  unfold State.evtMark
  repeat' first
    | with_reducible assumption
    | with_reducible first
        | apply State.setBit_keeps | apply State.incFld_keeps | apply State.wr_keeps

theorem State.strobeTo_keeps {b0 : State} : ∀ {n : Nat} {s : State} {src detail : Nat}, Keeps b0 s →
    Keeps b0 (State.strobeTo n s src detail)
  | 0, _, _, _, h => h
  | n + 1, s, src, detail, h => by
    unfold State.strobeTo
    repeat' with_reducible first
        | assumption | apply State.strobeTo_keeps (n := n) | apply State.queueDrop_keeps | apply State.queuePush_keeps
        | apply State.deliver_keeps | apply State.evtMark_keeps | apply State.recOccur_keeps 
        | (intro x; refine @Keeps.cut (Keeps b0 x) _ ?_ ?_ <;> [subst x; (intro _; clear_value x)]) 
        | (intro x; refine @Keeps.cut (Keeps b0 x.1) _ ?_ ?_ <;> [subst x; (intro _; clear_value x)]) 
        | (intro x; clear_value x) | lift_lets | split

theorem State.strobe_keeps {b0 : State} (s : State) (src detail : Nat) (hk : Keeps b0 s) : Keeps b0 (State.strobe s src detail) := by
  unfold State.strobe
  repeat' first
    | with_reducible assumption
    | with_reducible first
        | apply State.strobeTo_keeps

theorem State.persistDone_keeps {b0 : State} (s : State) (cause result : Nat) (hk : Keeps b0 s) : Keeps b0 (State.persistDone s cause result) := by
  unfold State.persistDone
  repeat' first
    | with_reducible assumption
    | (intro x; refine @Keeps.cut (Keeps b0 x) _ ?_ ?_ <;> [subst x; (intro _; clear_value x)])
    | lift_lets -underBinder
    | with_reducible first
        | apply State.setBit_keeps | apply State.flag_keeps | apply State.strobe_keeps

theorem State.recCopy_keeps {b0 : State} (s : State) (cause : Nat) (hk : Keeps b0 s) : Keeps b0 (State.recCopy s cause) := by
  unfold State.recCopy
  repeat' first
    | with_reducible assumption
    | (intro x; refine @Keeps.cut (Keeps b0 x) _ ?_ ?_ <;> [subst x; (intro _; clear_value x)])
    | (intro x; clear_value x) | lift_lets -underBinder
    | with_reducible first
        | apply State.insoleStart_keeps | (refine Keeps.upd ?_; assumption)

theorem State.recStart_keeps {b0 : State} (s : State) (cause : Nat) (hk : Keeps b0 s) : Keeps b0 (State.recStart s cause) := by
  unfold State.recStart
  repeat' first
    | with_reducible assumption
    | (intro x; refine @Keeps.cut (Keeps b0 x) _ ?_ ?_ <;> [subst x; (intro _; clear_value x)])
    | (intro x; clear_value x) | lift_lets -underBinder
    | with_reducible first
        | apply State.setBit_keeps | apply State.recProgramPage_keeps | apply State.recCopy_keeps
        | (refine Keeps.ite (fun _ => ?_) (fun _ => ?_)) | (refine Keeps.upd ?_; assumption)

theorem State.recBoundary_keeps {b0 : State} (s : State) (hk : Keeps b0 s) : Keeps b0 (State.recBoundary s) := by
  unfold State.recBoundary
  repeat' first
    | with_reducible assumption | lift_lets -underBinder
    | with_reducible first
        | apply State.recCopy_keeps | (refine Keeps.ite (fun _ => ?_) (fun _ => ?_))
    | split

theorem State.recTrigger_keeps {b0 : State} (s : State) (cause : Nat) (hk : Keeps b0 s) : Keeps b0 (State.recTrigger s cause) := by
  unfold State.recTrigger
  repeat' first
    | with_reducible assumption | (intro x; clear_value x) | lift_lets -underBinder
    | with_reducible first
        | apply State.persistDone_keeps | apply State.recStart_keeps
        | (refine Keeps.ite (fun _ => ?_) (fun _ => ?_)) | (refine Keeps.upd ?_; assumption)

theorem State.recResume_keeps {b0 : State} (s : State) (hk : Keeps b0 s) : Keeps b0 (State.recResume s) := by
  unfold State.recResume
  repeat' first
    | with_reducible assumption
    | with_reducible first
        | apply State.recStart_keeps | (refine Keeps.ite (fun _ => ?_) (fun _ => ?_))

theorem State.recSafety_keeps {b0 : State} (s : State) (hk : Keeps b0 s) : Keeps b0 (State.recSafety s) := by
  unfold State.recSafety
  repeat' first
    | with_reducible assumption | (intro x; clear_value x) | lift_lets -underBinder
    | with_reducible first
        | apply State.recTrigger_keeps | (refine Keeps.ite (fun _ => ?_) (fun _ => ?_))
        | (refine Keeps.upd ?_; assumption)

theorem State.recAbandon_keeps {b0 : State} (s : State) (hk : Keeps b0 s) : Keeps b0 (State.recAbandon s) := by
  unfold State.recAbandon
  repeat' first
    | with_reducible assumption
    | (intro x; refine @Keeps.cut (Keeps b0 x) _ ?_ ?_ <;> [subst x; (intro _; clear_value x)])
    | (intro x; clear_value x) | lift_lets -underBinder
    | with_reducible first
        | apply State.setBit_keeps | apply State.persistDone_keeps | (refine Keeps.ite (fun _ => ?_) (fun _ => ?_))
        | (refine Keeps.upd ?_; assumption)
    | split

theorem State.recCommit_keeps {b0 : State} (s : State) (cause : Nat) (r : RecSummary) (hk : Keeps b0 s) : Keeps b0 (State.recCommit s cause r) := by
  unfold State.recCommit
  repeat' first
    | with_reducible assumption
    | (intro x; refine @Keeps.cut (Keeps b0 x) _ ?_ ?_ <;> [subst x; (intro _; clear_value x)])
    | (intro x; clear_value x) | lift_lets -underBinder
    | with_reducible first
        | apply State.insoleStart_keeps | apply State.setBit_keeps | apply State.wr_keeps
        | apply State.persistDone_keeps | (refine Keeps.ite (fun _ => ?_) (fun _ => ?_))
        | (refine Keeps.upd ?_; assumption)

theorem execRecorderWriteDone_keeps {b0 : State} (ok : Bool) (s : State) (hk : Keeps b0 s) : KeepsE b0 (execRecorderWriteDone ok s) := by
  unfold execRecorderWriteDone
  repeat' first
    | with_reducible assumption
    | (intro x; refine @Keeps.cut (Keeps b0 x) _ ?_ ?_ <;> [subst x; (intro _; clear_value x)])
    | (intro x; clear_value x) | lift_lets -underBinder
    | with_reducible first
        | apply KeepsE.next | refine State.whenVamp_keeps _ _ ?_ ?_ | apply State.unspoil_keeps
        | apply State.recCommit_keeps | apply State.recAbandon_keeps
        | (refine Keeps.ite (fun _ => ?_) (fun _ => ?_)) | (refine Keeps.upd ?_; assumption)
    | split

theorem execRecorderEraseDone_keeps {b0 : State} (ring : Bool) (s : State) (hk : Keeps b0 s) : KeepsE b0 (execRecorderEraseDone ring s) := by
  unfold execRecorderEraseDone
  repeat' first
    | with_reducible assumption
    | (intro x; refine @Keeps.cut (Keeps b0 x) _ ?_ ?_ <;> [subst x; (intro _; clear_value x)])
    | (intro x; clear_value x) | lift_lets -underBinder
    | with_reducible first
        | apply KeepsE.next | refine State.whenVamp_keeps _ _ ?_ ?_ | apply State.recProgramPage_keeps
        | apply State.recResume_keeps | (refine Keeps.ite (fun _ => ?_) (fun _ => ?_))
        | (refine Keeps.upd ?_; assumption)
    | split

theorem execRecorderIntervalTimer_keeps {b0 : State} (s : State) (hk : Keeps b0 s) : KeepsE b0 (execRecorderIntervalTimer s) := by
  unfold execRecorderIntervalTimer
  repeat' first
    | with_reducible assumption
    | with_reducible first
        | apply KeepsE.next | refine State.whenVamp_keeps _ _ ?_ ?_ | apply State.recTrigger_keeps

theorem execRecPersistReq_keeps {b0 : State} (s : State) (hk : Keeps b0 s) : KeepsE b0 (execRecPersistReq s) := by
  unfold execRecPersistReq
  repeat' first
    | with_reducible assumption
    | with_reducible first
        | apply KeepsE.next | refine State.whenVamp_keeps _ _ ?_ ?_ | apply State.setBit_keeps
        | apply State.recTrigger_keeps

theorem execRecorderTokenRefill_keeps {b0 : State} (code : Nat) (s : State) (hk : Keeps b0 s) : KeepsE b0 (execRecorderTokenRefill code s) := by
  unfold execRecorderTokenRefill
  repeat' first
    | with_reducible assumption | (intro x; clear_value x) | lift_lets -underBinder
    | with_reducible first
        | apply KeepsE.next | refine State.whenVamp_keeps _ _ ?_ ?_ | (refine Keeps.ite (fun _ => ?_) (fun _ => ?_))
        | (refine Keeps.upd ?_; assumption)
    | split

theorem execDetailPageTimeout_keeps {b0 : State} (s : State) (hk : Keeps b0 s) : KeepsE b0 (execDetailPageTimeout s) := by
  unfold execDetailPageTimeout
  repeat' first
    | with_reducible assumption
    | with_reducible first
        | apply KeepsE.next | refine State.whenVamp_keeps _ _ ?_ ?_ | apply State.recProgramPage_keeps

theorem State.safStrobe_keeps {b0 : State} (s : State) (src detail : Nat) (hk : Keeps b0 s) : Keeps b0 (State.safStrobe s src detail) := by
  unfold State.safStrobe
  repeat' first
    | with_reducible assumption
    | with_reducible first
        | apply State.strobe_keeps | apply State.recSafety_keeps

theorem State.setNode_keeps {b0 : State} (s : State) (n : Nat) (r : NodeRec) (hk : Keeps b0 s) : Keeps b0 (State.setNode s n r) := by
  unfold State.setNode
  repeat' first
    | with_reducible assumption | (intro x; clear_value x) | lift_lets -underBinder
    | with_reducible first
        | (refine Keeps.upd ?_; assumption)

theorem State.tetherOut_keeps {b0 : State} (s : State) (port : Nat) (frame : Bytes) (hk : Keeps b0 s) : Keeps b0 (State.tetherOut s port frame) := by
  unfold State.tetherOut
  repeat' first
    | with_reducible assumption
    | with_reducible first
        | apply State.emit_keeps | (refine Keeps.ite (fun _ => ?_) (fun _ => ?_))

theorem State.sendFrom_keeps {b0 : State} (s : State) (port addr op : Nat) (payload : Bytes) (hk : Keeps b0 s) : Keeps b0 (State.sendFrom s port addr op payload) := by
  unfold State.sendFrom
  repeat' first
    | with_reducible assumption | (intro x; clear_value x) | lift_lets -underBinder
    | with_reducible first
        | apply State.tetherOut_keeps | (refine Keeps.ite (fun _ => ?_) (fun _ => ?_))
        | (refine Keeps.upd ?_; assumption)

theorem State.sendBoth_keeps {b0 : State} (s : State) (op : Nat) (payload : Bytes) (hk : Keeps b0 s) : Keeps b0 (State.sendBoth s op payload) := by
  unfold State.sendBoth
  repeat' first
    | with_reducible assumption
    | with_reducible first
        | apply State.sendFrom_keeps

theorem State.sendVia_keeps {b0 : State} (s : State) (port : Nat) (c : ChainCmd) (hk : Keeps b0 s) : Keeps b0 (State.sendVia s port c) := by
  unfold State.sendVia
  repeat' first
    | with_reducible assumption | (intro x; clear_value x) | lift_lets -underBinder
    | with_reducible first
        | apply State.setNode_keeps | apply State.tetherOut_keeps

theorem State.launch_keeps {b0 : State} (s : State) (c : ChainCmd) (hk : Keeps b0 s) : Keeps b0 (State.launch s c) := by
  unfold State.launch
  repeat' first
    | with_reducible assumption | (intro x; clear_value x) | lift_lets -underBinder
    | with_reducible first
        | apply State.sendFrom_keeps | apply State.sendBoth_keeps | apply State.sendVia_keeps
        | (refine Keeps.ite (fun _ => ?_) (fun _ => ?_)) | (refine Keeps.upd ?_; assumption)

theorem State.drain_keeps {b0 : State} : ∀ {l : List ChainCmd} {s : State} {kept : List ChainCmd}, Keeps b0 s →
    Keeps b0 (s.drain kept l)
  | [], _, _, h => Keeps.upd h
  | c :: rest, s, kept, h => by
    unfold State.drain
    split
    · exact State.drain_keeps (l := rest) (State.launch_keeps _ _ h)
    · split
      · exact Keeps.upd h
      · exact State.drain_keeps (l := rest) h

theorem State.pump_keeps {b0 : State} (s : State) (hk : Keeps b0 s) : Keeps b0 (State.pump s) := by
  unfold State.pump
  repeat' first
    | with_reducible assumption
    | with_reducible first
        | apply State.drain_keeps

theorem State.enqueue_keeps {b0 : State} (s : State) (c : ChainCmd) (hk : Keeps b0 s) : Keeps b0 (State.enqueue s c) := by
  unfold State.enqueue
  repeat' first
    | with_reducible assumption | (intro x; clear_value x) | lift_lets -underBinder
    | with_reducible first
        | (refine Keeps.ite (fun _ => ?_) (fun _ => ?_)) | (refine Keeps.upd ?_; assumption)

theorem State.sendNode_keeps {b0 : State} (s : State) (n op : Nat) (payload : Bytes) (hk : Keeps b0 s) : Keeps b0 (State.sendNode s n op payload) := by
  unfold State.sendNode
  repeat' first
    | with_reducible assumption
    | with_reducible first
        | apply State.enqueue_keeps | apply State.pump_keeps

theorem State.rollcall_keeps {b0 : State} (s : State) (hk : Keeps b0 s) : Keeps b0 (State.rollcall s) := by
  unfold State.rollcall
  repeat' first
    | with_reducible assumption
    | with_reducible first
        | apply State.enqueue_keeps | apply State.pump_keeps | (refine Keeps.ite (fun _ => ?_) (fun _ => ?_))

theorem State.pcsDrogue_keeps {b0 : State} (s : State) (hk : Keeps b0 s) : Keeps b0 (State.pcsDrogue s) := by
  unfold State.pcsDrogue
  repeat' first
    | with_reducible assumption | (intro x; clear_value x) | lift_lets -underBinder
    | with_reducible first
        | apply State.setBit_keeps | (refine Keeps.upd ?_; assumption)

theorem State.pcsDrogueEnd_keeps {b0 : State} (s : State) (hk : Keeps b0 s) : Keeps b0 (State.pcsDrogueEnd s) := by
  unfold State.pcsDrogueEnd
  repeat' first
    | with_reducible assumption | (intro x; clear_value x) | lift_lets -underBinder
    | with_reducible first
        | apply State.setBit_keeps | (refine Keeps.upd ?_; assumption)

theorem State.showSession_keeps {b0 : State} (s : State) (i : Nat) (v : Session) (state : Nat) (hk : Keeps b0 s) : Keeps b0 (State.showSession s i v state) := by
  unfold State.showSession
  repeat' first
    | with_reducible assumption | (intro x; clear_value x) | lift_lets -underBinder
    | with_reducible first
        | apply State.wr_keeps

theorem State.showInflight_keeps {b0 : State} (s : State) (hk : Keeps b0 s) : Keeps b0 (State.showInflight s) := by
  unfold State.showInflight
  repeat' first
    | with_reducible assumption | (intro x; clear_value x) | lift_lets -underBinder
    | with_reducible first
        | apply State.setFld_keeps

theorem State.setSession_keeps {b0 : State} (s : State) (i : Nat) (v : Session) (hk : Keeps b0 s) : Keeps b0 (State.setSession s i v) := by
  unfold State.setSession
  repeat' first
    | with_reducible assumption
    | (intro x; refine @Keeps.cut (Keeps b0 x) _ ?_ ?_ <;> [subst x; (intro _; clear_value x)])
    | (intro x; clear_value x) | lift_lets -underBinder
    | with_reducible first
        | apply State.showSession_keeps | apply State.showInflight_keeps
        | (refine Keeps.ite (fun _ => ?_) (fun _ => ?_)) | (refine Keeps.upd ?_; assumption)

theorem State.transmit_keeps {b0 : State} (s : State) (uart : Bool) (peer port : Nat) (bytes : Bytes) (hk : Keeps b0 s) : Keeps b0 (State.transmit s uart peer port bytes) := by
  unfold State.transmit
  repeat' first
    | with_reducible assumption
    | with_reducible first
        | apply State.emit_keeps

theorem State.reply_keeps {b0 : State} (s : State) (i flags tag hseq opcode status rseq : Nat) (body : Bytes) (hk : Keeps b0 s) : Keeps b0 (State.reply s i flags tag hseq opcode status rseq body) := by
  unfold State.reply
  repeat' first
    | with_reducible assumption | (intro x; clear_value x) | lift_lets -underBinder
    | with_reducible first
        | apply State.transmit_keeps | apply State.setSession_keeps | (refine Keeps.ite (fun _ => ?_) (fun _ => ?_))
    | split

theorem State.complete_keeps {b0 : State} (s : State) (op status : Nat) (body : Bytes) (hk : Keeps b0 s) : Keeps b0 (State.complete s op status body) := by
  unfold State.complete
  repeat' first
    | with_reducible assumption
    | (intro x; refine @Keeps.cut (Keeps b0 x) _ ?_ ?_ <;> [subst x; (intro _; clear_value x)])
    | (intro x; clear_value x) | lift_lets -underBinder
    | with_reducible first
        | apply State.showInflight_keeps | apply State.setSession_keeps | apply State.reply_keeps
        | (refine Keeps.ite (fun _ => ?_) (fun _ => ?_)) | (refine Keeps.upd ?_; assumption)
    | split

theorem State.completeAll_keeps {b0 : State} (s : State) (ops : List Nat) (status : Nat) (body : Bytes) (hk : Keeps b0 s) : Keeps b0 (State.completeAll s ops status body) := by
  unfold State.completeAll
  repeat' first
    | with_reducible assumption
    | with_reducible first
        | apply State.complete_keeps | refine Keeps.foldl (fun _ _ _ => ?_) ?_

end Sys2Proof.Machine
end

