-- ==== Sys2Proof/Laws/KeepsControl.lean ====
section
/-!
SUPPORT. What no operation undoes (Laws/Keeps.lean), operation by operation: the control loops, the burst engine, the safety channels, CAN and Welt.
-/

namespace Sys2Proof.Machine

theorem State.setSlot_keeps {b0 : State} (s : State) (n : Nat) (v : Slot) (hk : Keeps b0 s) : Keeps b0 (State.setSlot s n v) := by
  unfold State.setSlot
  repeat' first
    | with_reducible assumption | (intro x; clear_value x) | lift_lets -underBinder
    | with_reducible first
        | (refine Keeps.upd ?_; assumption)

theorem State.setPwmChan_keeps {b0 : State} (s : State) (n : Nat) (v : PwmChan) (hk : Keeps b0 s) : Keeps b0 (State.setPwmChan s n v) := by
  unfold State.setPwmChan
  repeat' first
    | with_reducible assumption | (intro x; clear_value x) | lift_lets -underBinder
    | with_reducible first
        | (refine Keeps.upd ?_; assumption)

theorem State.syncHold_keeps {b0 : State} (s : State) (hk : Keeps b0 s) : Keeps b0 (State.syncHold s) := by
  unfold State.syncHold
  repeat' first
    | with_reducible assumption
    | with_reducible first
        | apply State.setBit_keeps

theorem State.logEdge_keeps {b0 : State} (s : State) (c tick : Nat) (level commutation : Bool) (hk : Keeps b0 s) : Keeps b0 (State.logEdge s c tick level commutation) := by
  unfold State.logEdge
  repeat' first
    | with_reducible assumption | (intro x; clear_value x) | lift_lets -underBinder
    | with_reducible first
        | apply State.putBytes_keeps | apply State.setFld_keeps

theorem State.setPin_keeps {b0 : State} (s : State) (c tick : Nat) (level counts : Bool) (hk : Keeps b0 s) : Keeps b0 (State.setPin s c tick level counts) := by
  unfold State.setPin
  repeat' first
    | with_reducible assumption
    | (intro x; refine @Keeps.cut (Keeps b0 x) _ ?_ ?_ <;> [subst x; (intro _; clear_value x)])
    | (intro x; clear_value x) | lift_lets -underBinder
    | with_reducible first
        | apply State.setPwmChan_keeps | apply State.logEdge_keeps | (refine Keeps.ite (fun _ => ?_) (fun _ => ?_))

theorem State.driveLow_keeps {b0 : State} (s : State) (pick : Nat → Bool) (hk : Keeps b0 s) : Keeps b0 (State.driveLow s pick) := by
  unfold State.driveLow
  repeat' first
    | with_reducible assumption
    | (intro x; refine @Keeps.cut (Keeps b0 x) _ ?_ ?_ <;> [subst x; (intro _; clear_value x)])
    | (intro x; clear_value x) | lift_lets -underBinder
    | with_reducible first
        | apply State.setPin_keeps | apply State.setPwmChan_keeps | refine Keeps.foldl (fun _ _ _ => ?_) ?_
        | refine Keeps.foldl1 (fun _ _ _ => ?_) ?_ | (refine Keeps.ite (fun _ => ?_) (fun _ => ?_))
        | (refine Keeps.upd ?_; assumption)

theorem State.loadCmp_keeps {b0 : State} (s : State) (c : Nat) (hk : Keeps b0 s) : Keeps b0 (State.loadCmp s c) := by
  unfold State.loadCmp
  repeat' first
    | with_reducible assumption
    | with_reducible first
        | apply State.setFld_keeps

theorem State.schedule_keeps {b0 : State} (s : State) (l : List PwmEvent) (hk : Keeps b0 s) : Keeps b0 (State.schedule s l) := by
  unfold State.schedule
  repeat' first
    | with_reducible assumption | (intro x; clear_value x) | lift_lets -underBinder
    | with_reducible first
        | refine Keeps.foldl (fun _ _ _ => ?_) ?_ | refine Keeps.foldl1 (fun _ _ _ => ?_) ?_
        | (refine Keeps.upd ?_; assumption)

theorem State.unschedule_keeps {b0 : State} (s : State) (c : Nat) (pick : PwmEvent → Bool) (hk : Keeps b0 s) : Keeps b0 (State.unschedule s c pick) := by
  unfold State.unschedule
  repeat' first
    | with_reducible assumption | (intro x; clear_value x) | lift_lets -underBinder
    | with_reducible first
        | (refine Keeps.upd ?_; assumption)

theorem State.replan_keeps {b0 : State} (s : State) (c from_ : Nat) (hk : Keeps b0 s) : Keeps b0 (State.replan s c from_) := by
  unfold State.replan
  repeat' first
    | with_reducible assumption | (intro x; clear_value x) | lift_lets -underBinder
    | with_reducible first
        | apply State.unschedule_keeps | apply State.schedule_keeps | (refine Keeps.ite (fun _ => ?_) (fun _ => ?_))

theorem State.putDuty_keeps {b0 : State} (s : State) (c : Nat) (y : Int) (hk : Keeps b0 s) : Keeps b0 (State.putDuty s c y) := by
  unfold State.putDuty
  repeat' first
    | with_reducible assumption
    | (intro x; refine @Keeps.cut (Keeps b0 x) _ ?_ ?_ <;> [subst x; (intro _; clear_value x)])
    | (intro x; clear_value x) | lift_lets -underBinder
    | with_reducible first
        | apply State.setPwmChan_keeps | apply State.setBit_keeps | apply State.loadCmp_keeps
        | apply State.replan_keeps | (refine Keeps.ite (fun _ => ?_) (fun _ => ?_))

theorem State.abortRamp_keeps {b0 : State} (s : State) (n reason : Nat) (hk : Keeps b0 s) : Keeps b0 (State.abortRamp s n reason) := by
  unfold State.abortRamp
  repeat' first
    | with_reducible assumption | (intro x; clear_value x) | lift_lets -underBinder
    | with_reducible first
        | apply State.setSlot_keeps | apply State.flag_keeps | apply State.strobe_keeps
        | (refine Keeps.ite (fun _ => ?_) (fun _ => ?_))

theorem State.haltSlot_keeps {b0 : State} (s : State) (n reason : Nat) (hk : Keeps b0 s) : Keeps b0 (State.haltSlot s n reason) := by
  unfold State.haltSlot
  repeat' first
    | with_reducible assumption
    | (intro x; refine @Keeps.cut (Keeps b0 x) _ ?_ ?_ <;> [subst x; (intro _; clear_value x)])
    | (intro x; clear_value x) | lift_lets -underBinder
    | with_reducible first
        | apply State.abortRamp_keeps | apply State.setBit_keeps | apply State.driveLow_keeps
        | (refine Keeps.ite (fun _ => ?_) (fun _ => ?_)) | (refine Keeps.upd ?_; assumption)

theorem State.haltPower_keeps {b0 : State} (s : State) (reason : Nat) (hk : Keeps b0 s) : Keeps b0 (State.haltPower s reason) := by
  unfold State.haltPower
  repeat' first
    | with_reducible assumption
    | with_reducible first
        | apply State.haltSlot_keeps | refine Keeps.foldl (fun _ _ _ => ?_) ?_
        | refine Keeps.foldl1 (fun _ _ _ => ?_) ?_ | (refine Keeps.ite (fun _ => ?_) (fun _ => ?_))

theorem State.awlHeader_keeps {b0 : State} (s : State) (result reason : Nat) (hk : Keeps b0 s) : Keeps b0 (State.awlHeader s result reason) := by
  unfold State.awlHeader
  repeat' first
    | with_reducible assumption | (intro x; clear_value x) | lift_lets -underBinder
    | with_reducible first
        | apply State.putBytes_keeps

theorem State.awlEnd_keeps {b0 : State} (s : State) (result reason : Nat) (hk : Keeps b0 s) : Keeps b0 (State.awlEnd s result reason) := by
  unfold State.awlEnd
  repeat' first
    | with_reducible assumption
    | (intro x; refine @Keeps.cut (Keeps b0 x) _ ?_ ?_ <;> [subst x; (intro _; clear_value x)])
    | lift_lets -underBinder
    | with_reducible first
        | apply State.awlHeader_keeps | apply State.setFld_keeps | apply State.setBit_keeps | apply State.flag_keeps
        | apply State.strobe_keeps

theorem State.awlAbort_keeps {b0 : State} (s : State) (reason : Nat) (hk : Keeps b0 s) : Keeps b0 (State.awlAbort s reason) := by
  unfold State.awlAbort
  repeat' first
    | with_reducible assumption
    | with_reducible first
        | apply State.awlEnd_keeps | (refine Keeps.ite (fun _ => ?_) (fun _ => ?_))

theorem State.pwmTrip_keeps {b0 : State} (s : State) (latch flagBit : Nat) (hk : Keeps b0 s) : Keeps b0 (State.pwmTrip s latch flagBit) := by
  unfold State.pwmTrip
  repeat' first
    | with_reducible assumption
    | (intro x; refine @Keeps.cut (Keeps b0 x) _ ?_ ?_ <;> [subst x; (intro _; clear_value x)])
    | lift_lets -underBinder
    | with_reducible first
        | apply State.driveLow_keeps | apply State.setBit_keeps | apply State.flag_keeps
        | apply State.haltPower_keeps | apply State.awlAbort_keeps | apply State.syncHold_keeps

theorem execTripPin_keeps {b0 : State} (s : State) (hk : Keeps b0 s) : KeepsE b0 (execTripPin s) := by
  unfold execTripPin
  repeat' first
    | with_reducible assumption
    | with_reducible first
        | apply KeepsE.next | refine State.whenVamp_keeps _ _ ?_ ?_ | apply State.pwmTrip_keeps
        | apply State.strobe_keeps

theorem State.compTrip_keeps {b0 : State} (s : State) (hk : Keeps b0 s) : Keeps b0 (State.compTrip s) := by
  unfold State.compTrip
  repeat' first
    | with_reducible assumption
    | (intro x; refine @Keeps.cut (Keeps b0 x) _ ?_ ?_ <;> [subst x; (intro _; clear_value x)])
    | (intro x; clear_value x) | lift_lets -underBinder
    | with_reducible first
        | apply State.pwmTrip_keeps | apply State.strobe_keeps | (refine Keeps.upd ?_; assumption)

theorem State.beginHold_keeps {b0 : State} (s : State) (hold flagBit reason detail : Nat) (hk : Keeps b0 s) : Keeps b0 (State.beginHold s hold flagBit reason detail) := by
  unfold State.beginHold
  repeat' first
    | with_reducible assumption
    | (intro x; refine @Keeps.cut (Keeps b0 x) _ ?_ ?_ <;> [subst x; (intro _; clear_value x)])
    | lift_lets -underBinder
    | with_reducible first
        | apply State.driveLow_keeps | apply State.setBit_keeps | apply State.flag_keeps
        | apply State.haltPower_keeps | apply State.syncHold_keeps | apply State.strobe_keeps
        | (refine Keeps.ite (fun _ => ?_) (fun _ => ?_))

theorem State.holdSaf_keeps {b0 : State} (s : State) (hk : Keeps b0 s) : Keeps b0 (State.holdSaf s) := by
  unfold State.holdSaf
  repeat' first
    | with_reducible assumption
    | with_reducible first
        | apply State.beginHold_keeps | apply State.awlAbort_keeps

theorem State.holdLink_keeps {b0 : State} (s : State) (hk : Keeps b0 s) : Keeps b0 (State.holdLink s) := by
  unfold State.holdLink
  repeat' first
    | with_reducible assumption
    | with_reducible first
        | apply State.beginHold_keeps

theorem State.endHold_keeps {b0 : State} (s : State) (hold : Nat) (hk : Keeps b0 s) : Keeps b0 (State.endHold s hold) := by
  unfold State.endHold
  repeat' first
    | with_reducible assumption
    | with_reducible first
        | apply State.setBit_keeps | apply State.syncHold_keeps

theorem State.ctlDrogue_keeps {b0 : State} (s : State) (hk : Keeps b0 s) : Keeps b0 (State.ctlDrogue s) := by
  unfold State.ctlDrogue
  repeat' first
    | with_reducible assumption
    | (intro x; refine @Keeps.cut (Keeps b0 x) _ ?_ ?_ <;> [subst x; (intro _; clear_value x)])
    | (intro x; clear_value x) | lift_lets -underBinder
    | with_reducible first
        | apply State.abortRamp_keeps | apply State.setSlot_keeps | apply State.setBit_keeps
        | apply State.awlAbort_keeps | refine Keeps.foldl (fun _ _ _ => ?_) ?_
        | refine Keeps.foldl1 (fun _ _ _ => ?_) ?_ | (refine Keeps.ite (fun _ => ?_) (fun _ => ?_))
        | (refine Keeps.upd ?_; assumption)

theorem State.ctlDrogueEnd_keeps {b0 : State} (s : State) (hk : Keeps b0 s) : Keeps b0 (State.ctlDrogueEnd s) := by
  unfold State.ctlDrogueEnd
  repeat' first
    | with_reducible assumption
    | (intro x; refine @Keeps.cut (Keeps b0 x) _ ?_ ?_ <;> [subst x; (intro _; clear_value x)])
    | (intro x; clear_value x) | lift_lets -underBinder
    | with_reducible first
        | apply State.setSlot_keeps | apply State.setBit_keeps | refine Keeps.foldl (fun _ _ _ => ?_) ?_
        | refine Keeps.foldl1 (fun _ _ _ => ?_) ?_ | (refine Keeps.ite (fun _ => ?_) (fun _ => ?_))
        | (refine Keeps.upd ?_; assumption)

theorem execPwmTripClear_keeps {b0 : State} (value : Word) (pinQuiet compQuiet : Bool) (s : State) (hk : Keeps b0 s) : KeepsE b0 (execPwmTripClear value pinQuiet compQuiet s) := by
  unfold execPwmTripClear
  repeat' first
    | with_reducible assumption
    | (intro x; refine @Keeps.cut (Keeps b0 x) _ ?_ ?_ <;> [subst x; (intro _; clear_value x)])
    | lift_lets -underBinder
    | with_reducible first
        | apply KeepsE.next | refine State.whenVamp_keeps _ _ ?_ ?_ | apply State.setBit_keeps
        | apply State.syncHold_keeps | (refine Keeps.ite (fun _ => ?_) (fun _ => ?_))

theorem State.refuseStart_keeps {b0 : State} (s : State) (n reason : Nat) (hk : Keeps b0 s) : Keeps b0 (State.refuseStart s n reason) := by
  unfold State.refuseStart
  repeat' first
    | with_reducible assumption
    | with_reducible first
        | apply State.flag_keeps | apply State.strobe_keeps

theorem State.startSlot_keeps {b0 : State} (s : State) (n : Nat) (hk : Keeps b0 s) : Keeps b0 (State.startSlot s n) := by
  unfold State.startSlot
  repeat' first
    | with_reducible assumption | (intro x; clear_value x) | lift_lets -underBinder
    | with_reducible first
        | apply State.setSlot_keeps | apply State.setBit_keeps | apply State.refuseStart_keeps
        | (refine Keeps.ite (fun _ => ?_) (fun _ => ?_))
    | split

theorem State.forSlots_keeps {b0 : State} (s : State) (bits : Word) (f : State → Nat → State) (hf : ∀ t i, Keeps b0 t → Keeps b0 (f t i)) (hk : Keeps b0 s) : Keeps b0 (State.forSlots s bits f) := by
  unfold State.forSlots
  repeat' first
    | with_reducible assumption
    | with_reducible first
        | apply hf | refine Keeps.foldl (fun _ _ _ => ?_) ?_ | refine Keeps.foldl1 (fun _ _ _ => ?_) ?_
        | (refine Keeps.ite (fun _ => ?_) (fun _ => ?_))

theorem execCtlStart_keeps {b0 : State} (bits : Word) (s : State) (hk : Keeps b0 s) : KeepsE b0 (execCtlStart bits s) := by
  unfold execCtlStart
  repeat' first
    | with_reducible assumption
    | with_reducible first
        | apply KeepsE.next | refine State.whenVamp_keeps _ _ ?_ ?_
        | refine State.forSlots_keeps _ _ _ (fun _ _ _ => ?_) ?_ | apply State.startSlot_keeps

theorem State.haltCommand_keeps {b0 : State} (s : State) (n : Nat) (hk : Keeps b0 s) : Keeps b0 (State.haltCommand s n) := by
  unfold State.haltCommand
  repeat' first
    | with_reducible assumption
    | (intro x; refine @Keeps.cut (Keeps b0 x) _ ?_ ?_ <;> [subst x; (intro _; clear_value x)])
    | (intro x; clear_value x) | lift_lets -underBinder
    | with_reducible first
        | apply State.haltSlot_keeps | apply State.setSlot_keeps | apply State.awlAbort_keeps
        | (refine Keeps.ite (fun _ => ?_) (fun _ => ?_))

theorem execCtlHalt_keeps {b0 : State} (bits : Word) (s : State) (hk : Keeps b0 s) : KeepsE b0 (execCtlHalt bits s) := by
  unfold execCtlHalt
  repeat' first
    | with_reducible assumption
    | with_reducible first
        | apply KeepsE.next | refine State.whenVamp_keeps _ _ ?_ ?_
        | refine State.forSlots_keeps _ _ _ (fun _ _ _ => ?_) ?_ | apply State.haltCommand_keeps

theorem State.applySlot_keeps {b0 : State} (s : State) (n : Nat) (hk : Keeps b0 s) : Keeps b0 (State.applySlot s n) := by
  unfold State.applySlot
  repeat' first
    | with_reducible assumption | (intro x; clear_value x) | lift_lets -underBinder
    | with_reducible first
        | apply State.setSlot_keeps

theorem execCtlApply_keeps {b0 : State} (bits : Word) (s : State) (hk : Keeps b0 s) : KeepsE b0 (execCtlApply bits s) := by
  unfold execCtlApply
  repeat' first
    | with_reducible assumption
    | with_reducible first
        | apply KeepsE.next | refine State.whenVamp_keeps _ _ ?_ ?_
        | refine State.forSlots_keeps _ _ _ (fun _ _ _ => ?_) ?_ | apply State.applySlot_keeps

theorem execCtlCommit_keeps {b0 : State} (value : Word) (s : State) (hk : Keeps b0 s) : KeepsE b0 (execCtlCommit value s) := by
  unfold execCtlCommit
  repeat' first
    | with_reducible assumption | (intro x; clear_value x) | lift_lets -underBinder
    | with_reducible first
        | apply KeepsE.next | refine State.whenVamp_keeps _ _ ?_ ?_ | (refine Keeps.ite (fun _ => ?_) (fun _ => ?_))
        | (refine Keeps.upd ?_; assumption)

theorem execAwlStart_keeps {b0 : State} (s : State) (hk : Keeps b0 s) : KeepsE b0 (execAwlStart s) := by
  unfold execAwlStart
  repeat' first
    | with_reducible assumption
    | (intro x; refine @Keeps.cut (Keeps b0 x) _ ?_ ?_ <;> [subst x; (intro _; clear_value x)])
    | (intro x; clear_value x) | lift_lets -underBinder
    | with_reducible first
        | apply KeepsE.next | refine State.whenVamp_keeps _ _ ?_ ?_ | apply State.setBit_keeps
        | apply State.setFld_keeps | apply State.flag_keeps | apply State.strobe_keeps
        | (refine Keeps.ite (fun _ => ?_) (fun _ => ?_)) | (refine Keeps.upd ?_; assumption)
    | split

theorem execAwlAbort_keeps {b0 : State} (s : State) (hk : Keeps b0 s) : KeepsE b0 (execAwlAbort s) := by
  unfold execAwlAbort
  repeat' first
    | with_reducible assumption
    | with_reducible first
        | apply KeepsE.next | refine State.whenVamp_keeps _ _ ?_ ?_ | apply State.awlAbort_keeps

theorem State.multisine_keeps {b0 : State} {k : Nat} : ∀ {n m : Nat} {s : State}, Keeps b0 s →
    Keeps b0 (s.multisine k m n).2
  | 0, _, _, h => h
  | n + 1, m, s, h => by
    unfold State.multisine
    dsimp only
    split
    · exact State.multisine_keeps (n := n) h
    · exact State.multisine_keeps (n := n) (State.drawn_keeps h)

theorem State.injection_keeps {b0 : State} (s : State) (hk : Keeps b0 s) : KeepsS b0 (State.injection s) := by
  unfold State.injection
  repeat' first
    | with_reducible assumption
    | (intro x; refine @Keeps.cut (Keeps b0 x.2) _ ?_ ?_ <;> [subst x; (intro _; clear_value x)])
    | (intro x; clear_value x) | lift_lets -underBinder
    | with_reducible first
        | apply State.multisine_keeps | apply State.drawn_keeps
        | exact KeepsS.get (State.multisine_keeps (by assumption)) (by assumption)
        | (refine Keeps.ite (fun _ => ?_) (fun _ => ?_)) | (refine Keeps.upd ?_; assumption)
    | split

theorem State.awlStep_keeps {b0 : State} (s : State) (r x e y inj : Int) (hk : Keeps b0 s) : Keeps b0 (State.awlStep s r x e y inj) := by
  unfold State.awlStep
  repeat' first
    | with_reducible assumption
    | (intro x; refine @Keeps.cut (Keeps b0 x) _ ?_ ?_ <;> [subst x; (intro _; clear_value x)])
    | (intro x; clear_value x) | lift_lets -underBinder
    | with_reducible first
        | apply hx | apply State.putBytes_keeps | apply State.awlEnd_keeps | apply State.setFld_keeps
        | (refine Keeps.ite (fun _ => ?_) (fun _ => ?_)) | (refine Keeps.upd ?_; assumption)

theorem State.overflow_keeps {b0 : State} (s : State) (n cause : Nat) (hk : Keeps b0 s) : Keeps b0 (State.overflow s n cause) := by
  unfold State.overflow
  repeat' first
    | with_reducible assumption
    | with_reducible first
        | apply State.flag_keeps | apply State.setFld_keeps | apply State.strobe_keeps

theorem State.slotOverrun_keeps {b0 : State} (s : State) (n : Nat) (hk : Keeps b0 s) : Keeps b0 (State.slotOverrun s n) := by
  unfold State.slotOverrun
  repeat' first
    | with_reducible assumption
    | with_reducible first
        | apply State.flag_keeps | apply State.strobe_keeps

theorem State.addTrig_keeps {b0 : State} (s : State) (n delay : Nat) (hk : Keeps b0 s) : Keeps b0 (State.addTrig s n delay) := by
  unfold State.addTrig
  repeat' first
    | with_reducible assumption | (intro x; clear_value x) | lift_lets -underBinder
    | with_reducible first
        | (refine Keeps.upd ?_; assumption)

theorem State.slotEvent_keeps {b0 : State} (s : State) (n : Nat) (hk : Keeps b0 s) : Keeps b0 (State.slotEvent s n) := by
  unfold State.slotEvent
  repeat' first
    | with_reducible assumption | (intro x; clear_value x) | lift_lets -underBinder
    | with_reducible first
        | apply State.slotOverrun_keeps | apply State.setSlot_keeps | apply State.addTrig_keeps
        | (refine Keeps.ite (fun _ => ?_) (fun _ => ?_))

theorem State.raiseTrig_keeps {b0 : State} (s : State) (source sel : Nat) (hk : Keeps b0 s) : Keeps b0 (State.raiseTrig s source sel) := by
  unfold State.raiseTrig
  repeat' first
    | with_reducible assumption
    | with_reducible first
        | apply State.slotEvent_keeps | refine Keeps.foldl (fun _ _ _ => ?_) ?_
        | refine Keeps.foldl1 (fun _ _ _ => ?_) ?_ | (refine Keeps.ite (fun _ => ?_) (fun _ => ?_))

theorem State.raiseRecord_keeps {b0 : State} (s : State) (hk : Keeps b0 s) : Keeps b0 (State.raiseRecord s) := by
  unfold State.raiseRecord
  repeat' first
    | with_reducible assumption
    | with_reducible first
        | apply State.slotEvent_keeps | refine Keeps.foldl (fun _ _ _ => ?_) ?_
        | refine Keeps.foldl1 (fun _ _ _ => ?_) ?_ | (refine Keeps.ite (fun _ => ?_) (fun _ => ?_))

theorem State.raiseConversion_keeps {b0 : State} (s : State) (hk : Keeps b0 s) : Keeps b0 (State.raiseConversion s) := by
  unfold State.raiseConversion
  repeat' first
    | with_reducible assumption | (intro x; clear_value x) | lift_lets -underBinder
    | with_reducible first
        | apply State.setSlot_keeps | apply State.slotEvent_keeps | refine Keeps.foldl (fun _ _ _ => ?_) ?_
        | refine Keeps.foldl1 (fun _ _ _ => ?_) ?_ | (refine Keeps.ite (fun _ => ?_) (fun _ => ?_))

theorem State.evaluate_keeps {b0 : State} (s : State) (n : Nat) (hk : Keeps b0 s) : Keeps b0 (State.evaluate s n) := by
  unfold State.evaluate
  repeat' first
    | with_reducible assumption
    | (intro x; refine @Keeps.cut (Keeps b0 x) _ ?_ ?_ <;> [subst x; (intro _; clear_value x)])
    | (intro x; refine @Keeps.cut (Keeps b0 x.2) _ ?_ ?_ <;> [subst x; (intro _; clear_value x)])
    | (intro x; clear_value x) | lift_lets -underBinder
    | with_reducible first
        | apply State.injection_keeps | apply State.setSlot_keeps | apply State.setFld_keeps
        | apply State.overflow_keeps | apply State.flag_keeps | apply State.strobe_keeps | apply State.putDuty_keeps
        | apply State.raiseTrig_keeps | apply State.awlStep_keeps
        | exact KeepsS.get (State.injection_keeps _ (by assumption)) (by assumption)
        | refine Keeps.foldl (fun _ _ _ => ?_) ?_ | refine Keeps.foldl1 (fun _ _ _ => ?_) ?_
        | (refine Keeps.ite (fun _ => ?_) (fun _ => ?_)) | (refine Keeps.upd ?_; assumption)
    | split

theorem execSlotTriggerEvent_keeps {b0 : State} (n : Nat) (s : State) (hk : Keeps b0 s) : KeepsE b0 (execSlotTriggerEvent n s) := by
  unfold execSlotTriggerEvent
  repeat' first
    | with_reducible assumption
    | with_reducible first
        | apply KeepsE.next | refine State.whenVamp_keeps _ _ ?_ ?_ | apply State.slotEvent_keeps

theorem State.takeTrig_keeps {b0 : State} (s : State) (n : Nat) (hk : Keeps b0 s) : Keeps b0 (State.takeTrig s n) := by
  unfold State.takeTrig
  repeat' first
    | with_reducible assumption
    | (intro x; refine @Keeps.cut (Keeps b0 x) _ ?_ ?_ <;> [subst x; (intro _; clear_value x)])
    | (intro x; clear_value x) | lift_lets -underBinder
    | with_reducible first
        | apply State.slotOverrun_keeps | apply State.setSlot_keeps | apply State.evaluate_keeps
        | (refine Keeps.ite (fun _ => ?_) (fun _ => ?_))

theorem State.evaluateTo_keeps {b0 : State} {n : Nat} : ∀ {l : List (Nat × Nat)} {s : State}, Keeps b0 s →
    Keeps b0 (s.evaluateTo n l)
  | [], _, h => h
  | p :: rest, s, h => by
    unfold State.evaluateTo
    dsimp only
    split
    · exact State.takeTrig_keeps _ _ (Keeps.upd h)
    · exact State.evaluateTo_keeps (l := rest) (State.takeTrig_keeps _ _ (Keeps.upd h))

theorem execSlotEvaluate_keeps {b0 : State} (n : Nat) (s : State) (hk : Keeps b0 s) : KeepsE b0 (execSlotEvaluate n s) := by
  unfold execSlotEvaluate
  repeat' first
    | with_reducible assumption
    | with_reducible first
        | apply KeepsE.next | refine State.whenVamp_keeps _ _ ?_ ?_ | apply State.evaluateTo_keeps
        | (refine Keeps.ite (fun _ => ?_) (fun _ => ?_))

theorem State.localStart_keeps {b0 : State} (s : State) (c tick : Nat) (hk : Keeps b0 s) : Keeps b0 (State.localStart s c tick) := by
  unfold State.localStart
  repeat' first
    | with_reducible assumption
    | (intro x; refine @Keeps.cut (Keeps b0 x) _ ?_ ?_ <;> [subst x; (intro _; clear_value x)])
    | (intro x; clear_value x) | lift_lets -underBinder
    | with_reducible first
        | apply hx | apply State.putDuty_keeps | apply State.loadCmp_keeps | apply State.unschedule_keeps
        | apply State.driveLow_keeps | apply State.setPwmChan_keeps | apply State.setPin_keeps
        | apply State.replan_keeps | apply State.schedule_keeps | (refine Keeps.ite (fun _ => ?_) (fun _ => ?_))

theorem State.pwmEvent_keeps {b0 : State} (s : State) (e : PwmEvent) (hk : Keeps b0 s) : Keeps b0 (State.pwmEvent s e) := by
  unfold State.pwmEvent
  repeat' first
    | with_reducible assumption
    | (intro x; refine @Keeps.cut (∀ t, Keeps b0 t → Keeps b0 (x t)) _ ?_ ?_ <;> [(subst x; intro _ _; dsimp -zeta only); (intro hx; clear_value x)])
    | (intro x; clear_value x) | lift_lets -underBinder
    | with_reducible first
        | apply hx | apply State.setPwmChan_keeps | apply State.localStart_keeps | apply State.raiseTrig_keeps
        | apply State.setPin_keeps | apply State.logEdge_keeps | (refine Keeps.ite (fun _ => ?_) (fun _ => ?_))
    | split

theorem State.pwmFire_keeps {b0 : State} : ∀ {n : Nat} {s : State}, Keeps b0 s → Keeps b0 (s.pwmFire n)
  | 0, _, h => h
  | n + 1, s, h => by
    unfold State.pwmFire
    split
    · exact h
    · split
      · exact State.pwmFire_keeps (n := n) (State.pwmEvent_keeps _ _ (Keeps.upd h))
      · exact h

theorem execPwmPeriodStart_keeps {b0 : State} (tb : Nat) (s : State) (hk : Keeps b0 s) : KeepsE b0 (execPwmPeriodStart tb s) := by
  unfold execPwmPeriodStart
  repeat' first
    | with_reducible assumption
    | (intro x; refine @Keeps.cut (Keeps b0 x) _ ?_ ?_ <;> [subst x; (intro _; clear_value x)])
    | (intro x; clear_value x) | lift_lets -underBinder
    | with_reducible first
        | apply KeepsE.next | apply hx | refine State.whenVamp_keeps _ _ ?_ ?_ | apply State.schedule_keeps
        | apply State.raiseTrig_keeps | apply State.pwmFire_keeps | apply State.strobe_keeps
        | (refine Keeps.ite (fun _ => ?_) (fun _ => ?_)) | (refine Keeps.upd ?_; assumption)
    | split

theorem execPwmPeriodMid_keeps {b0 : State} (n : Nat) (s : State) (hk : Keeps b0 s) : KeepsE b0 (execPwmPeriodMid n s) := by
  unfold execPwmPeriodMid
  repeat' first
    | with_reducible assumption
    | (intro x; refine @Keeps.cut (Keeps b0 x) _ ?_ ?_ <;> [subst x; (intro _; clear_value x)])
    | (intro x; clear_value x) | lift_lets -underBinder
    | with_reducible first
        | apply KeepsE.next | refine State.whenVamp_keeps _ _ ?_ ?_ | apply State.loadCmp_keeps
        | apply State.unschedule_keeps | apply State.schedule_keeps | apply State.pwmFire_keeps
        | apply State.raiseTrig_keeps | (refine Keeps.ite (fun _ => ?_) (fun _ => ?_))
    | split

theorem State.enableWrite_keeps {b0 : State} (s : State) (v : Word) (hk : Keeps b0 s) : Keeps b0 (State.enableWrite s v) := by
  unfold State.enableWrite
  repeat' first
    | with_reducible assumption
    | with_reducible first
        | apply State.setFld_keeps | apply State.driveLow_keeps

theorem State.periodWrite_keeps {b0 : State} (s : State) (tb : Nat) (v : Word) (hk : Keeps b0 s) : Keeps b0 (State.periodWrite s tb v) := by
  unfold State.periodWrite
  repeat' first
    | with_reducible assumption
    | (intro x; refine @Keeps.cut (Keeps b0 x) _ ?_ ?_ <;> [subst x; (intro _; clear_value x)])
    | (intro x; clear_value x) | lift_lets -underBinder
    | with_reducible first
        | apply State.setFld_keeps | (refine Keeps.ite (fun _ => ?_) (fun _ => ?_))
        | (refine Keeps.upd ?_; assumption)

theorem State.setRate_keeps {b0 : State} (s : State) (step cause : Nat) (hk : Keeps b0 s) : Keeps b0 (State.setRate s step cause) := by
  unfold State.setRate
  repeat' first
    | with_reducible assumption
    | (intro x; refine @Keeps.cut (Keeps b0 x) _ ?_ ?_ <;> [subst x; (intro _; clear_value x)])
    | (intro x; clear_value x) | lift_lets -underBinder
    | with_reducible first
        | apply State.setFld_keeps | apply State.setBit_keeps | apply State.strobe_keeps
        | (refine Keeps.ite (fun _ => ?_) (fun _ => ?_)) | (refine Keeps.upd ?_; assumption)

theorem State.rebaseGrid_keeps {b0 : State} (s : State) (hk : Keeps b0 s) : Keeps b0 (State.rebaseGrid s) := by
  unfold State.rebaseGrid
  repeat' first
    | with_reducible assumption | (intro x; clear_value x) | lift_lets -underBinder
    | with_reducible first
        | (refine Keeps.upd ?_; assumption)

theorem State.fullRateFor_keeps {b0 : State} (s : State) (cause : Nat) (hk : Keeps b0 s) : Keeps b0 (State.fullRateFor s cause) := by
  unfold State.fullRateFor
  repeat' first
    | with_reducible assumption
    | with_reducible first
        | apply State.setRate_keeps | apply State.rebaseGrid_keeps | (refine Keeps.ite (fun _ => ?_) (fun _ => ?_))

theorem State.setBurstState_keeps {b0 : State} (s : State) (st : Nat) (hk : Keeps b0 s) : Keeps b0 (State.setBurstState s st) := by
  unfold State.setBurstState
  repeat' first
    | with_reducible assumption
    | with_reducible first
        | apply State.setFld_keeps | apply State.setBit_keeps

theorem State.deferBand_keeps {b0 : State} (s : State) (hk : Keeps b0 s) : Keeps b0 (State.deferBand s) := by
  unfold State.deferBand
  repeat' first
    | with_reducible assumption | lift_lets -underBinder
    | with_reducible first
        | apply State.setBurstState_keeps | apply State.setFld_keeps
        | (refine Keeps.ite (fun _ => ?_) (fun _ => ?_))
    | split

theorem State.takeRequest_keeps {b0 : State} (s : State) (seq : Bool) (hk : Keeps b0 s) : Keeps b0 (State.takeRequest s seq) := by
  unfold State.takeRequest
  repeat' first
    | with_reducible assumption | (intro x; clear_value x) | lift_lets -underBinder
    | with_reducible first
        | apply State.deferBand_keeps | (refine Keeps.ite (fun _ => ?_) (fun _ => ?_))
        | (refine Keeps.upd ?_; assumption)

theorem State.requestBurst_keeps {b0 : State} (s : State) (seq : Bool) (hk : Keeps b0 s) : Keeps b0 (State.requestBurst s seq) := by
  unfold State.requestBurst
  repeat' first
    | with_reducible assumption | (intro x; clear_value x) | lift_lets -underBinder
    | with_reducible first
        | apply State.takeRequest_keeps | (refine Keeps.ite (fun _ => ?_) (fun _ => ?_))
        | (refine Keeps.upd ?_; assumption)

theorem execBurstScheduleTimer_keeps {b0 : State} (s : State) (hk : Keeps b0 s) : KeepsE b0 (execBurstScheduleTimer s) := by
  unfold execBurstScheduleTimer
  repeat' first
    | with_reducible assumption
    | with_reducible first
        | apply KeepsE.next | refine State.whenVamp_keeps _ _ ?_ ?_ | apply State.requestBurst_keeps
        | (refine Keeps.ite (fun _ => ?_) (fun _ => ?_))

theorem execBurstSeqTimer_keeps {b0 : State} (s : State) (hk : Keeps b0 s) : KeepsE b0 (execBurstSeqTimer s) := by
  unfold execBurstSeqTimer
  repeat' first
    | with_reducible assumption
    | with_reducible first
        | apply KeepsE.next | refine State.whenVamp_keeps _ _ ?_ ?_ | apply State.requestBurst_keeps
        | (refine Keeps.ite (fun _ => ?_) (fun _ => ?_))

theorem execSwpBurstReq_keeps {b0 : State} (s : State) (hk : Keeps b0 s) : KeepsE b0 (execSwpBurstReq s) := by
  unfold execSwpBurstReq
  repeat' first
    | with_reducible assumption
    | with_reducible first
        | apply KeepsE.next | refine State.whenVamp_keeps _ _ ?_ ?_ | apply State.setBit_keeps
        | apply State.requestBurst_keeps

theorem execSwpSeqReq_keeps {b0 : State} (s : State) (hk : Keeps b0 s) : KeepsE b0 (execSwpSeqReq s) := by
  unfold execSwpSeqReq
  repeat' first
    | with_reducible assumption
    | with_reducible first
        | apply KeepsE.next | refine State.whenVamp_keeps _ _ ?_ ?_ | apply State.setBit_keeps
        | apply State.requestBurst_keeps

theorem State.pertOff_keeps {b0 : State} (s : State) (hk : Keeps b0 s) : Keeps b0 (State.pertOff s) := by
  unfold State.pertOff
  repeat' first
    | with_reducible assumption
    | (intro x; refine @Keeps.cut (Keeps b0 x) _ ?_ ?_ <;> [subst x; (intro _; clear_value x)])
    | lift_lets -underBinder
    | with_reducible first
        | apply State.setBit_keeps | apply State.setFld_keeps | (refine Keeps.ite (fun _ => ?_) (fun _ => ?_))

theorem State.burstHeader_keeps {b0 : State} (s : State) (b : Burst) (result : Nat) (dc : Word) (hk : Keeps b0 s) : Keeps b0 (State.burstHeader s b result dc) := by
  unfold State.burstHeader
  repeat' first
    | with_reducible assumption | (intro x; clear_value x) | lift_lets -underBinder
    | with_reducible first
        | apply State.putBytes_keeps

theorem State.nextBand_keeps {b0 : State} (s : State) (hk : Keeps b0 s) : Keeps b0 (State.nextBand s) := by
  unfold State.nextBand
  repeat' first
    | with_reducible assumption
    | (intro x; refine @Keeps.cut (Keeps b0 x) _ ?_ ?_ <;> [subst x; (intro _; clear_value x)])
    | (intro x; clear_value x) | lift_lets -underBinder
    | with_reducible first
        | apply State.deferBand_keeps | apply State.takeRequest_keeps | apply State.setBurstState_keeps
        | (refine Keeps.ite (fun _ => ?_) (fun _ => ?_)) | (refine Keeps.upd ?_; assumption)

theorem State.burstEnd_keeps {b0 : State} (s : State) (result reason : Nat) (hk : Keeps b0 s) : Keeps b0 (State.burstEnd s result reason) := by
  unfold State.burstEnd
  repeat' first
    | with_reducible assumption
    | (intro x; refine @Keeps.cut (Keeps b0 x) _ ?_ ?_ <;> [subst x; (intro _; clear_value x)])
    | (intro x; clear_value x) | lift_lets -underBinder
    | with_reducible first
        | apply State.fullRateFor_keeps | apply State.pertOff_keeps | apply State.burstHeader_keeps
        | apply State.flag_keeps | apply State.setBit_keeps | apply State.strobe_keeps
        | apply State.completeAll_keeps | apply State.nextBand_keeps
        | (refine Keeps.ite (fun _ => ?_) (fun _ => ?_)) | (refine Keeps.upd ?_; assumption)
    | split

theorem State.burstAbort_keeps {b0 : State} (s : State) (reason : Nat) (hk : Keeps b0 s) : Keeps b0 (State.burstAbort s reason) := by
  unfold State.burstAbort
  repeat' first
    | with_reducible assumption
    | with_reducible first
        | apply State.burstEnd_keeps | (refine Keeps.ite (fun _ => ?_) (fun _ => ?_))

theorem execSwpBurstAbort_keeps {b0 : State} (s : State) (hk : Keeps b0 s) : KeepsE b0 (execSwpBurstAbort s) := by
  unfold execSwpBurstAbort
  repeat' first
    | with_reducible assumption
    | with_reducible first
        | apply KeepsE.next | refine State.whenVamp_keeps _ _ ?_ ?_ | apply State.burstAbort_keeps

theorem State.loadComponent_keeps {b0 : State} (s : State) (band i k n : Nat) (hk : Keeps b0 s) : Keeps b0 (State.loadComponent s band i k n) := by
  unfold State.loadComponent
  repeat' first
    | with_reducible assumption
    | with_reducible first
        | apply State.wr_keeps | (refine Keeps.ite (fun _ => ?_) (fun _ => ?_))

theorem State.pertOn_keeps {b0 : State} (s : State) (band : Nat) (hk : Keeps b0 s) : Keeps b0 (State.pertOn s band) := by
  unfold State.pertOn
  repeat' first
    | with_reducible assumption
    | (intro x; refine @Keeps.cut (Keeps b0 x) _ ?_ ?_ <;> [subst x; (intro _; clear_value x)])
    | (intro x; clear_value x) | lift_lets -underBinder
    | with_reducible first
        | apply State.wr_keeps | apply State.loadComponent_keeps | apply State.setFld_keeps
        | apply State.setBit_keeps | refine Keeps.foldl (fun _ _ _ => ?_) ?_
        | refine Keeps.foldl1 (fun _ _ _ => ?_) ?_ | (refine Keeps.ite (fun _ => ?_) (fun _ => ?_))
        | (refine Keeps.upd ?_; assumption)

theorem execBurstStart_keeps {b0 : State} (s : State) (hk : Keeps b0 s) : KeepsE b0 (execBurstStart s) := by
  unfold execBurstStart
  repeat' first
    | with_reducible assumption
    | (intro x; refine @Keeps.cut (Keeps b0 x) _ ?_ ?_ <;> [subst x; (intro _; clear_value x)])
    | (intro x; clear_value x) | lift_lets -underBinder
    | with_reducible first
        | apply KeepsE.next | refine State.whenVamp_keeps _ _ ?_ ?_ | apply State.wr_keeps
        | apply State.fullRateFor_keeps | apply State.setBurstState_keeps | apply State.pertOn_keeps
        | (refine Keeps.ite (fun _ => ?_) (fun _ => ?_)) | (refine Keeps.upd ?_; assumption)
    | split

theorem execBurstDeferTimeout_keeps {b0 : State} (s : State) (hk : Keeps b0 s) : KeepsE b0 (execBurstDeferTimeout s) := by
  unfold execBurstDeferTimeout
  repeat' first
    | with_reducible assumption
    | with_reducible first
        | apply KeepsE.next | refine State.whenVamp_keeps _ _ ?_ ?_ | apply State.burstEnd_keeps
        | (refine Keeps.ite (fun _ => ?_) (fun _ => ?_))

theorem State.setMode_keeps {b0 : State} (s : State) (m : Mode) (drogue : Bool) (hk : Keeps b0 s) : Keeps b0 (State.setMode s m drogue) := by
  unfold State.setMode
  repeat' first
    | with_reducible assumption
    | (intro x; refine @Keeps.cut (Keeps b0 x) _ ?_ ?_ <;> [subst x; (intro _; clear_value x)])
    | lift_lets -underBinder
    | with_reducible first
        | apply State.strobe_keeps | (refine Keeps.upd ?_; assumption)

theorem State.setSafChan_keeps {b0 : State} (s : State) (ch : Nat) (c : SafChan) (hk : Keeps b0 s) : Keeps b0 (State.setSafChan s ch c) := by
  unfold State.setSafChan
  repeat' first
    | with_reducible assumption | (intro x; clear_value x) | lift_lets -underBinder
    | with_reducible first
        | (refine Keeps.ite (fun _ => ?_) (fun _ => ?_)) | (refine Keeps.upd ?_; assumption)

theorem State.safEvent_keeps {b0 : State} (s : State) (src detail : Nat) (hk : Keeps b0 s) : Keeps b0 (State.safEvent s src detail) := by
  unfold State.safEvent
  repeat' first
    | with_reducible assumption
    | with_reducible first
        | apply State.safStrobe_keeps | (refine Keeps.ite (fun _ => ?_) (fun _ => ?_))

theorem State.copySole_keeps {b0 : State} (s : State) (hk : Keeps b0 s) : Keeps b0 (State.copySole s) := by
  unfold State.copySole
  repeat' first
    | with_reducible assumption
    | (intro x; refine @Keeps.cut (Keeps b0 x) _ ?_ ?_ <;> [subst x; (intro _; clear_value x)])
    | (intro x; refine @Keeps.cut (Keeps b0 x.1) _ ?_ ?_ <;> [subst x; (intro _; clear_value x)])
    | (intro x; clear_value x) | lift_lets -underBinder
    | with_reducible first
        | apply State.recOccur_keeps | apply State.strobe_keeps | refine Keeps.foldl (fun _ _ _ => ?_) ?_
        | refine Keeps.foldl1 (fun _ _ _ => ?_) ?_ | (refine Keeps.ite (fun _ => ?_) (fun _ => ?_))
        | (refine Keeps.upd ?_; assumption)

theorem State.soleLog_keeps {b0 : State} (s : State) (code detail : Nat) (hk : Keeps b0 s) : Keeps b0 (State.soleLog s code detail) := by
  unfold State.soleLog
  repeat' first
    | with_reducible assumption
    | (intro x; refine @Keeps.cut (Keeps b0 x) _ ?_ ?_ <;> [subst x; (intro _; clear_value x)])
    | (intro x; clear_value x) | lift_lets -underBinder
    | with_reducible first
        | apply State.setFld_keeps | apply State.setBit_keeps | apply State.incFld_keeps | apply State.strobe_keeps
        | apply State.copySole_keeps | (refine Keeps.ite (fun _ => ?_) (fun _ => ?_))
        | (refine Keeps.upd ?_; assumption)

theorem State.mapFinding_keeps {b0 : State} (s : State) (h : Bool) (c k : Nat) (g : Finding → Finding) (hk : Keeps b0 s) : Keeps b0 (State.mapFinding s h c k g) := by
  unfold State.mapFinding
  repeat' first
    | with_reducible assumption | (intro x; clear_value x) | lift_lets -underBinder
    | with_reducible first
        | (refine Keeps.ite (fun _ => ?_) (fun _ => ?_)) | (refine Keeps.upd ?_; assumption)

theorem State.safConversion_keeps {b0 : State} (s : State) (ch : Nat) (codes : List Int) (hk : Keeps b0 s) : Keeps b0 (State.safConversion s ch codes) := by
  unfold State.safConversion
  repeat' first
    | with_reducible assumption | (intro x; clear_value x) | lift_lets -underBinder
    | with_reducible first
        | apply State.setSafChan_keeps

theorem State.currentUnknown_keeps {b0 : State} (s : State) (ch : Nat) (hk : Keeps b0 s) : Keeps b0 (State.currentUnknown s ch) := by
  unfold State.currentUnknown
  repeat' first
    | with_reducible assumption | (intro x; clear_value x) | lift_lets -underBinder
    | with_reducible first
        | apply State.setSafChan_keeps

theorem State.setSwitches_keeps {b0 : State} (s : State) (ch want : Nat) (hk : Keeps b0 s) : Keeps b0 (State.setSwitches s ch want) := by
  unfold State.setSwitches
  repeat' first
    | with_reducible assumption
    | (intro x; refine @Keeps.cut (Keeps b0 x) _ ?_ ?_ <;> [subst x; (intro _; clear_value x)])
    | (intro x; clear_value x) | lift_lets -underBinder
    | with_reducible first
        | apply State.setSafChan_keeps | (refine Keeps.ite (fun _ => ?_) (fun _ => ?_))
        | (refine Keeps.upd ?_; assumption)

theorem State.setKill_keeps {b0 : State} (s : State) (ch : Nat) (kill : Bool) (hk : Keeps b0 s) : Keeps b0 (State.setKill s ch kill) := by
  unfold State.setKill
  repeat' first
    | with_reducible assumption
    | (intro x; refine @Keeps.cut (Keeps b0 x) _ ?_ ?_ <;> [subst x; (intro _; clear_value x)])
    | (intro x; clear_value x) | lift_lets -underBinder
    | with_reducible first
        | apply State.setSafChan_keeps | apply State.setSwitches_keeps
        | (refine Keeps.ite (fun _ => ?_) (fun _ => ?_))

theorem State.setClose_keeps {b0 : State} (s : State) (v : Nat) (hk : Keeps b0 s) : Keeps b0 (State.setClose s v) := by
  unfold State.setClose
  repeat' first
    | with_reducible assumption
    | (intro x; refine @Keeps.cut (Keeps b0 x) _ ?_ ?_ <;> [subst x; (intro _; clear_value x)])
    | (intro x; clear_value x) | lift_lets -underBinder
    | with_reducible first
        | apply State.setFld_keeps | (refine Keeps.ite (fun _ => ?_) (fun _ => ?_))
        | (refine Keeps.upd ?_; assumption)

theorem State.drive_keeps {b0 : State} (s : State) (ch : Nat) (hk : Keeps b0 s) : Keeps b0 (State.drive s ch) := by
  unfold State.drive
  repeat' first
    | with_reducible assumption | (intro x; clear_value x) | lift_lets -underBinder
    | with_reducible first
        | apply State.setSwitches_keeps | apply State.setKill_keeps | (refine Keeps.ite (fun _ => ?_) (fun _ => ?_))

theorem State.balanceStop_keeps {b0 : State} (s : State) (hk : Keeps b0 s) : Keeps b0 (State.balanceStop s) := by
  unfold State.balanceStop
  repeat' first
    | with_reducible assumption
    | with_reducible first
        | apply State.sendNode_keeps | refine Keeps.foldl (fun _ _ _ => ?_) ?_

theorem State.safeHalt_keeps {b0 : State} (s : State) (hk : Keeps b0 s) : Keeps b0 (State.safeHalt s) := by
  unfold State.safeHalt
  repeat' first
    | with_reducible assumption
    | with_reducible first
        | apply State.haltPower_keeps | apply State.driveLow_keeps | apply State.awlAbort_keeps

theorem State.enterSafe_keeps {b0 : State} (s : State) (hk : Keeps b0 s) : Keeps b0 (State.enterSafe s) := by
  unfold State.enterSafe
  repeat' first
    | with_reducible assumption
    | (intro x; refine @Keeps.cut (Keeps b0 x) _ ?_ ?_ <;> [subst x; (intro _; clear_value x)])
    | (intro x; clear_value x) | lift_lets -underBinder
    | with_reducible first
        | apply State.setMode_keeps | apply State.ctlDrogueEnd_keeps | apply State.pcsDrogueEnd_keeps
        | apply State.safeHalt_keeps | apply State.burstAbort_keeps | (refine Keeps.ite (fun _ => ?_) (fun _ => ?_))
        | (refine Keeps.upd ?_; assumption)

theorem State.endDrogue_keeps {b0 : State} (s : State) (ch how : Nat) (hk : Keeps b0 s) : Keeps b0 (State.endDrogue s ch how) := by
  unfold State.endDrogue
  repeat' first
    | with_reducible assumption
    | (intro x; refine @Keeps.cut (Keeps b0 x) _ ?_ ?_ <;> [subst x; (intro _; clear_value x)])
    | (intro x; clear_value x) | lift_lets -underBinder
    | with_reducible first
        | apply State.setSafChan_keeps | apply State.safEvent_keeps | apply State.soleLog_keeps
        | apply State.enterSafe_keeps | (refine Keeps.ite (fun _ => ?_) (fun _ => ?_))
    | split

theorem State.startDrogue_keeps {b0 : State} (s : State) (ch : Nat) (hk : Keeps b0 s) : Keeps b0 (State.startDrogue s ch) := by
  unfold State.startDrogue
  repeat' first
    | with_reducible assumption
    | (intro x; refine @Keeps.cut (Keeps b0 x) _ ?_ ?_ <;> [subst x; (intro _; clear_value x)])
    | (intro x; clear_value x) | lift_lets -underBinder
    | with_reducible first
        | apply State.setSafChan_keeps | apply State.flag_keeps | apply State.safEvent_keeps
        | apply State.soleLog_keeps | apply State.setMode_keeps | apply State.burstAbort_keeps
        | apply State.pcsDrogue_keeps | apply State.ctlDrogue_keeps | apply State.balanceStop_keeps
        | (refine Keeps.ite (fun _ => ?_) (fun _ => ?_))

theorem State.act_keeps {b0 : State} (s : State) (ch : Nat) (hk : Keeps b0 s) : Keeps b0 (State.act s ch) := by
  unfold State.act
  repeat' first
    | with_reducible assumption
    | (intro x; refine @Keeps.cut (Keeps b0 x) _ ?_ ?_ <;> [subst x; (intro _; clear_value x)])
    | (intro x; clear_value x) | lift_lets -underBinder
    | with_reducible first
        | apply State.endDrogue_keeps | apply State.enterSafe_keeps | apply State.holdSaf_keeps
        | apply State.startDrogue_keeps | apply State.setSafChan_keeps | apply State.drive_keeps
        | (refine Keeps.ite (fun _ => ?_) (fun _ => ?_))

theorem State.endShunt_keeps {b0 : State} (s : State) (ch : Nat) (hk : Keeps b0 s) : Keeps b0 (State.endShunt s ch) := by
  unfold State.endShunt
  repeat' first
    | with_reducible assumption
    | (intro x; refine @Keeps.cut (Keeps b0 x) _ ?_ ?_ <;> [subst x; (intro _; clear_value x)])
    | (intro x; clear_value x) | lift_lets -underBinder
    | with_reducible first
        | apply State.setSafChan_keeps | apply State.setSwitches_keeps | apply State.setKill_keeps
        | (refine Keeps.ite (fun _ => ?_) (fun _ => ?_))
    | split

theorem State.joinShunt_keeps {b0 : State} (s : State) (ch how : Nat) (hk : Keeps b0 s) : Keeps b0 (State.joinShunt s ch how) := by
  unfold State.joinShunt
  repeat' first
    | with_reducible assumption
    | (intro x; refine @Keeps.cut (Keeps b0 x) _ ?_ ?_ <;> [subst x; (intro _; clear_value x)])
    | (intro x; clear_value x) | lift_lets -underBinder
    | with_reducible first
        | apply State.endDrogue_keeps | apply State.setSafChan_keeps | apply State.drive_keeps
        | (refine Keeps.ite (fun _ => ?_) (fun _ => ?_))

theorem State.latchOnly_keeps {b0 : State} (s : State) (ch : Nat) (h : Bool) (c k : Nat) (hk : Keeps b0 s) : Keeps b0 (State.latchOnly s ch h c k) := by
  unfold State.latchOnly
  repeat' first
    | with_reducible assumption
    | (intro x; refine @Keeps.cut (Keeps b0 x) _ ?_ ?_ <;> [subst x; (intro _; clear_value x)])
    | (intro x; clear_value x) | lift_lets -underBinder
    | with_reducible first
        | apply State.mapFinding_keeps | apply State.flag_keeps | apply State.safEvent_keeps
        | apply State.soleLog_keeps | (refine Keeps.ite (fun _ => ?_) (fun _ => ?_))
    | split

theorem State.noteFinding_keeps {b0 : State} (s : State) (ch : Nat) (h : Bool) (c k detail : Nat) (hk : Keeps b0 s) : Keeps b0 (State.noteFinding s ch h c k detail) := by
  unfold State.noteFinding
  repeat' first
    | with_reducible assumption | (intro x; clear_value x) | lift_lets -underBinder
    | with_reducible first
        | apply State.mapFinding_keeps | (refine Keeps.ite (fun _ => ?_) (fun _ => ?_))
        | (refine Keeps.upd ?_; assumption)
    | split

theorem State.findOnly_keeps {b0 : State} (s : State) (ch : Nat) (h : Bool) (c k detail : Nat) (hk : Keeps b0 s) : Keeps b0 (State.findOnly s ch h c k detail) := by
  unfold State.findOnly
  repeat' first
    | with_reducible assumption
    | with_reducible first
        | apply State.noteFinding_keeps | apply State.latchOnly_keeps
        | (refine Keeps.ite (fun _ => ?_) (fun _ => ?_))

theorem State.find_keeps {b0 : State} (s : State) (ch : Nat) (h : Bool) (c k detail : Nat) (hk : Keeps b0 s) : Keeps b0 (State.find s ch h c k detail) := by
  unfold State.find
  repeat' first
    | with_reducible assumption
    | with_reducible first
        | apply State.findOnly_keeps | apply State.act_keeps

theorem State.ackPending_keeps {b0 : State} (s : State) (found : Nat) (h : Bool) (c : Nat) (hk : Keeps b0 s) : Keeps b0 (State.ackPending s found h c) := by
  unfold State.ackPending
  repeat' first
    | with_reducible assumption
    | with_reducible first
        | apply State.safEvent_keeps

theorem State.unfind_keeps {b0 : State} (s : State) (ch : Nat) (h : Bool) (c k : Nat) (hk : Keeps b0 s) : Keeps b0 (State.unfind s ch h c k) := by
  unfold State.unfind
  repeat' first
    | with_reducible assumption
    | (intro x; refine @Keeps.cut (Keeps b0 x) _ ?_ ?_ <;> [subst x; (intro _; clear_value x)])
    | lift_lets -underBinder
    | with_reducible first
        | apply State.mapFinding_keeps | apply State.ackPending_keeps
        | (refine Keeps.ite (fun _ => ?_) (fun _ => ?_))
    | split

theorem State.judgeOnly_keeps {b0 : State} (s : State) (ch : Nat) (h : Bool) (c k detail : Nat) (holds : Bool) (hk : Keeps b0 s) : Keeps b0 (State.judgeOnly s ch h c k detail holds) := by
  unfold State.judgeOnly
  repeat' first
    | with_reducible assumption
    | with_reducible first
        | apply State.findOnly_keeps | apply State.unfind_keeps | (refine Keeps.ite (fun _ => ?_) (fun _ => ?_))

theorem State.judge_keeps {b0 : State} (s : State) (ch : Nat) (h : Bool) (c k detail : Nat) (holds : Bool) (hk : Keeps b0 s) : Keeps b0 (State.judge s ch h c k detail holds) := by
  unfold State.judge
  repeat' first
    | with_reducible assumption
    | with_reducible first
        | apply State.find_keeps | apply State.unfind_keeps | (refine Keeps.ite (fun _ => ?_) (fun _ => ?_))

theorem State.adoptDisc_keeps {b0 : State} (s : State) (ch disc : Nat) (hk : Keeps b0 s) : Keeps b0 (State.adoptDisc s ch disc) := by
  unfold State.adoptDisc
  repeat' first
    | with_reducible assumption | (intro x; clear_value x) | lift_lets -underBinder
    | with_reducible first
        | apply State.setSafChan_keeps

theorem State.adopt_keeps {b0 : State} (s : State) (ch : Nat) (hk : Keeps b0 s) : Keeps b0 (State.adopt s ch) := by
  unfold State.adopt
  repeat' first
    | with_reducible assumption
    | (intro x; refine @Keeps.cut (Keeps b0 x) _ ?_ ?_ <;> [subst x; (intro _; clear_value x)])
    | lift_lets -underBinder
    | with_reducible first
        | apply State.adoptDisc_keeps | apply State.latchOnly_keeps | apply State.joinShunt_keeps
        | refine Keeps.foldl (fun _ _ _ => ?_) ?_ | refine Keeps.foldl1 (fun _ _ _ => ?_) ?_
        | (refine Keeps.ite (fun _ => ?_) (fun _ => ?_))
    | split

theorem State.sendCross_keeps {b0 : State} (s : State) (ch : Nat) (hk : Keeps b0 s) : Keeps b0 (State.sendCross s ch) := by
  unfold State.sendCross
  repeat' first
    | with_reducible assumption
    | (intro x; refine @Keeps.cut (Keeps b0 x) _ ?_ ?_ <;> [subst x; (intro _; clear_value x)])
    | (intro x; clear_value x) | lift_lets -underBinder
    | with_reducible first
        | apply State.setSafChan_keeps | apply State.emit_keeps | (refine Keeps.ite (fun _ => ?_) (fun _ => ?_))
        | (refine Keeps.upd ?_; assumption)

theorem State.judgeMirror_keeps {b0 : State} (s : State) (ch n : Nat) (hk : Keeps b0 s) : Keeps b0 (State.judgeMirror s ch n) := by
  unfold State.judgeMirror
  repeat' first
    | with_reducible assumption | (intro x; clear_value x) | lift_lets -underBinder
    | with_reducible first
        | apply State.unfind_keeps | (refine Keeps.ite (fun _ => ?_) (fun _ => ?_))

theorem State.judgeInput_keeps {b0 : State} (s : State) (ch n : Nat) (hk : Keeps b0 s) : Keeps b0 (State.judgeInput s ch n) := by
  unfold State.judgeInput
  repeat' first
    | with_reducible assumption
    | (intro x; refine @Keeps.cut (Keeps b0 x) _ ?_ ?_ <;> [subst x; (intro _; clear_value x)])
    | (intro x; clear_value x) | lift_lets -underBinder
    | with_reducible first
        | apply State.judgeMirror_keeps | apply State.setSafChan_keeps | apply State.judgeOnly_keeps
        | (refine Keeps.ite (fun _ => ?_) (fun _ => ?_))
    | split

theorem State.judgeInputs_keeps {b0 : State} (s : State) (ch : Nat) (hk : Keeps b0 s) : Keeps b0 (State.judgeInputs s ch) := by
  unfold State.judgeInputs
  repeat' first
    | with_reducible assumption
    | with_reducible first
        | apply State.judgeInput_keeps | refine Keeps.foldl (fun _ _ _ => ?_) ?_

theorem State.ackDiscrepancy_keeps {b0 : State} (s : State) (ch : Nat) (hk : Keeps b0 s) : Keeps b0 (State.ackDiscrepancy s ch) := by
  unfold State.ackDiscrepancy
  repeat' first
    | with_reducible assumption | (intro x; clear_value x) | lift_lets -underBinder
    | with_reducible first
        | apply State.setSafChan_keeps

theorem State.dropCause_keeps {b0 : State} (s : State) (h : Bool) (c : Nat) (hk : Keeps b0 s) : Keeps b0 (State.dropCause s h c) := by
  unfold State.dropCause
  repeat' first
    | with_reducible assumption
    | (intro x; refine @Keeps.cut (Keeps b0 x) _ ?_ ?_ <;> [subst x; (intro _; clear_value x)])
    | (intro x; clear_value x) | lift_lets -underBinder
    | with_reducible first
        | apply State.setBit_keeps | (refine Keeps.ite (fun _ => ?_) (fun _ => ?_))
        | (refine Keeps.upd ?_; assumption)

theorem State.restChan_keeps {b0 : State} (s : State) (ch : Nat) (hk : Keeps b0 s) : Keeps b0 (State.restChan s ch) := by
  unfold State.restChan
  repeat' first
    | with_reducible assumption | (intro x; clear_value x) | lift_lets -underBinder
    | with_reducible first
        | apply State.setSafChan_keeps

theorem State.ackTone_keeps {b0 : State} (s : State) (hk : Keeps b0 s) : Keeps b0 (State.ackTone s) := by
  unfold State.ackTone
  repeat' first
    | with_reducible assumption
    | (intro x; refine @Keeps.cut (Keeps b0 x) _ ?_ ?_ <;> [subst x; (intro _; clear_value x)])
    | (intro x; clear_value x) | lift_lets -underBinder
    | with_reducible first
        | apply State.mapFinding_keeps | apply State.sendNode_keeps | apply State.dropCause_keeps
        | refine Keeps.foldl (fun _ _ _ => ?_) ?_ | refine Keeps.foldl1 (fun _ _ _ => ?_) ?_
        | (refine Keeps.ite (fun _ => ?_) (fun _ => ?_)) | (refine Keeps.upd ?_; assumption)

theorem State.ackCause_keeps {b0 : State} (s : State) (p : Bool × Nat) (hk : Keeps b0 s) : Keeps b0 (State.ackCause s p) := by
  unfold State.ackCause
  repeat' first
    | with_reducible assumption
    | with_reducible first
        | apply State.ackTone_keeps | apply State.dropCause_keeps | apply State.ackPending_keeps
        | (refine Keeps.ite (fun _ => ?_) (fun _ => ?_))

theorem State.ackMirror_keeps {b0 : State} (s : State) (hk : Keeps b0 s) : Keeps b0 (State.ackMirror s) := by
  unfold State.ackMirror
  repeat' first
    | with_reducible assumption | (intro x; clear_value x) | lift_lets -underBinder
    | with_reducible first
        | apply hx | (refine Keeps.upd ?_; assumption)

theorem State.acknowledge_keeps {b0 : State} (s : State) (hk : Keeps b0 s) : Keeps b0 (State.acknowledge s) := by
  unfold State.acknowledge
  repeat' first
    | with_reducible assumption
    | (intro x; refine @Keeps.cut (Keeps b0 x) _ ?_ ?_ <;> [subst x; (intro _; clear_value x)])
    | (intro x; clear_value x) | lift_lets -underBinder
    | with_reducible first
        | apply State.ackDiscrepancy_keeps | apply State.ackCause_keeps | apply State.restChan_keeps
        | apply State.ackMirror_keeps | apply State.setBit_keeps | apply State.act_keeps
        | refine Keeps.foldl (fun _ _ _ => ?_) ?_

theorem State.ackFrom_keeps {b0 : State} (s : State) (src : Nat) (hk : Keeps b0 s) : Keeps b0 (State.ackFrom s src) := by
  unfold State.ackFrom
  repeat' first
    | with_reducible assumption
    | with_reducible first
        | apply State.acknowledge_keeps | (refine Keeps.ite (fun _ => ?_) (fun _ => ?_))

theorem State.setCanCtl_keeps {b0 : State} (s : State) (n : Nat) (c : CanCtl) (hk : Keeps b0 s) : Keeps b0 (State.setCanCtl s n c) := by
  unfold State.setCanCtl
  repeat' first
    | with_reducible assumption | lift_lets -underBinder
    | with_reducible first
        | (refine Keeps.upd ?_; assumption)

theorem State.setCant_keeps {b0 : State} (s : State) (n ns : Nat) (hk : Keeps b0 s) : Keeps b0 (State.setCant s n ns) := by
  unfold State.setCant
  repeat' first
    | with_reducible assumption | (intro x; clear_value x) | lift_lets -underBinder
    | with_reducible first
        | (refine Keeps.ite (fun _ => ?_) (fun _ => ?_)) | (refine Keeps.upd ?_; assumption)
    | split

theorem State.canStatus_keeps {b0 : State} (s : State) (n cause low : Nat) (hk : Keeps b0 s) : Keeps b0 (State.canStatus s n cause low) := by
  unfold State.canStatus
  repeat' first
    | with_reducible assumption
    | with_reducible first
        | apply State.strobe_keeps

theorem State.canFlag_keeps {b0 : State} (s : State) (n b : Nat) (hk : Keeps b0 s) : Keeps b0 (State.canFlag s n b) := by
  unfold State.canFlag
  repeat' first
    | with_reducible assumption
    | with_reducible first
        | apply State.flag_keeps

theorem State.setSlotStatus_keeps {b0 : State} (s : State) (n k v : Nat) (hk : Keeps b0 s) : Keeps b0 (State.setSlotStatus s n k v) := by
  unfold State.setSlotStatus
  repeat' first
    | with_reducible assumption
    | (intro x; refine @Keeps.cut (Keeps b0 x) _ ?_ ?_ <;> [subst x; (intro _; clear_value x)])
    | (intro x; clear_value x) | lift_lets -underBinder
    | with_reducible first
        | apply State.setFld_keeps | apply State.wr_keeps

theorem State.slotDone_keeps {b0 : State} (s : State) (n k v : Nat) (hk : Keeps b0 s) : Keeps b0 (State.slotDone s n k v) := by
  unfold State.slotDone
  repeat' first
    | with_reducible assumption
    | (intro x; refine @Keeps.cut (Keeps b0 x) _ ?_ ?_ <;> [subst x; (intro _; clear_value x)])
    | (intro x; clear_value x) | lift_lets -underBinder
    | with_reducible first
        | apply State.setSlotStatus_keeps | apply State.strobe_keeps | apply State.dmaRequest_keeps
        | (refine Keeps.ite (fun _ => ?_) (fun _ => ?_))
    | split

theorem State.requestSlot_keeps {b0 : State} (s : State) (n k : Nat) (e : Bytes) (hk : Keeps b0 s) : Keeps b0 (State.requestSlot s n k e) := by
  unfold State.requestSlot
  repeat' first
    | with_reducible assumption
    | (intro x; refine @Keeps.cut (Keeps b0 x) _ ?_ ?_ <;> [subst x; (intro _; clear_value x)])
    | (intro x; clear_value x) | lift_lets -underBinder
    | with_reducible first
        | apply State.setCanCtl_keeps | apply State.slotDone_keeps | apply State.setSlotStatus_keeps
        | (refine Keeps.ite (fun _ => ?_) (fun _ => ?_))

theorem State.canPush_keeps {b0 : State} (s : State) (n : Nat) (e : Bytes) (hk : Keeps b0 s) : Keeps b0 (State.canPush s n e) := by
  unfold State.canPush
  repeat' first
    | with_reducible assumption | lift_lets -underBinder
    | with_reducible first
        | apply State.canFlag_keeps | apply State.requestSlot_keeps | apply State.setFld_keeps
        | (refine Keeps.ite (fun _ => ?_) (fun _ => ?_))
    | split

theorem execCanTxPush_keeps {b0 : State} (n : Nat) (value : Word) (s : State) (hk : Keeps b0 s) : KeepsE b0 (execCanTxPush n value s) := by
  unfold execCanTxPush
  repeat' first
    | with_reducible assumption | (intro x; clear_value x) | lift_lets -underBinder
    | with_reducible first
        | apply KeepsE.next | apply hx | refine State.whenVamp_keeps _ _ ?_ ?_ | apply State.setCanCtl_keeps
        | apply State.canPush_keeps | (refine Keeps.ite (fun _ => ?_) (fun _ => ?_))

theorem execCanTxReq_keeps {b0 : State} (n : Nat) (bits cancel : Word) (s : State) (hk : Keeps b0 s) : KeepsE b0 (execCanTxReq n bits cancel s) := by
  unfold execCanTxReq
  repeat' first
    | with_reducible assumption | lift_lets -underBinder
    | with_reducible first
        | apply KeepsE.next | refine State.whenVamp_keeps _ _ ?_ ?_ | apply State.slotDone_keeps
        | apply State.requestSlot_keeps | refine Keeps.foldl (fun _ _ _ => ?_) ?_
        | refine Keeps.foldl1 (fun _ _ _ => ?_) ?_ | (refine Keeps.ite (fun _ => ?_) (fun _ => ?_))
    | split

theorem State.mapSlot_keeps {b0 : State} (s : State) (n k : Nat) (f : CanSlot → CanSlot) (hk : Keeps b0 s) : Keeps b0 (State.mapSlot s n k f) := by
  unfold State.mapSlot
  repeat' first
    | with_reducible assumption | (intro x; clear_value x) | lift_lets -underBinder
    | with_reducible first
        | apply State.setCanCtl_keeps

theorem execCanTxCancel_keeps {b0 : State} (n : Nat) (bits : Word) (onBus : Option Nat) (s : State) (hk : Keeps b0 s) : KeepsE b0 (execCanTxCancel n bits onBus s) := by
  unfold execCanTxCancel
  repeat' first
    | with_reducible assumption | lift_lets -underBinder
    | with_reducible first
        | apply KeepsE.next | refine State.whenVamp_keeps _ _ ?_ ?_ | apply State.setSlotStatus_keeps
        | apply State.mapSlot_keeps | apply State.slotDone_keeps | refine Keeps.foldl (fun _ _ _ => ?_) ?_
        | refine Keeps.foldl1 (fun _ _ _ => ?_) ?_ | (refine Keeps.ite (fun _ => ?_) (fun _ => ?_))

theorem State.canCounters_keeps {b0 : State} (s : State) (n tec rcv : Nat) (hk : Keeps b0 s) : Keeps b0 (State.canCounters s n tec rcv) := by
  unfold State.canCounters
  repeat' first
    | with_reducible assumption
    | (intro x; refine @Keeps.cut (Keeps b0 x) _ ?_ ?_ <;> [subst x; (intro _; clear_value x)])
    | (intro x; clear_value x) | lift_lets -underBinder
    | with_reducible first
        | apply State.setFld_keeps | apply State.setBit_keeps | apply State.canFlag_keeps
        | apply State.canStatus_keeps | (refine Keeps.ite (fun _ => ?_) (fun _ => ?_))

theorem State.canGood_keeps {b0 : State} (s : State) (n : Nat) (transmit : Bool) (hk : Keeps b0 s) : Keeps b0 (State.canGood s n transmit) := by
  unfold State.canGood
  repeat' first
    | with_reducible assumption | (intro x; clear_value x) | lift_lets -underBinder
    | with_reducible first
        | apply State.transmit_keeps | apply State.canCounters_keeps | apply State.drawn_keeps
        | (refine Keeps.ite (fun _ => ?_) (fun _ => ?_))

theorem State.showFill_keeps {b0 : State} (s : State) (n : Nat) (hk : Keeps b0 s) : Keeps b0 (State.showFill s n) := by
  unfold State.showFill
  repeat' first
    | with_reducible assumption | (intro x; clear_value x) | lift_lets -underBinder
    | with_reducible first
        | apply State.setFld_keeps

theorem State.canLatch_keeps {b0 : State} (s : State) (n win : Nat) (hk : Keeps b0 s) : Keeps b0 (State.canLatch s n win) := by
  unfold State.canLatch
  repeat' first
    | with_reducible assumption | (intro x; clear_value x) | lift_lets -underBinder
    | with_reducible first
        | apply State.setCanCtl_keeps | (refine Keeps.ite (fun _ => ?_) (fun _ => ?_))
    | split

theorem execCanRxLatch_keeps {b0 : State} (n win : Nat) (s : State) (hk : Keeps b0 s) : KeepsE b0 (execCanRxLatch n win s) := by
  unfold execCanRxLatch
  repeat' first
    | with_reducible assumption
    | with_reducible first
        | apply KeepsE.next | refine State.whenVamp_keeps _ _ ?_ ?_ | apply State.canLatch_keeps
        | (refine Keeps.ite (fun _ => ?_) (fun _ => ?_))

theorem State.canRelease_keeps {b0 : State} (s : State) (n win : Nat) (hk : Keeps b0 s) : Keeps b0 (State.canRelease s n win) := by
  unfold State.canRelease
  repeat' first
    | with_reducible assumption | (intro x; clear_value x) | lift_lets -underBinder
    | with_reducible first
        | apply State.setCanCtl_keeps | apply State.showFill_keeps | apply State.setBit_keeps
        | (refine Keeps.ite (fun _ => ?_) (fun _ => ?_))
    | split

theorem execCanRxRelease_keeps {b0 : State} (n win : Nat) (s : State) (hk : Keeps b0 s) : KeepsE b0 (execCanRxRelease n win s) := by
  unfold execCanRxRelease
  repeat' first
    | with_reducible assumption
    | with_reducible first
        | apply KeepsE.next | refine State.whenVamp_keeps _ _ ?_ ?_ | apply State.canRelease_keeps
        | (refine Keeps.ite (fun _ => ?_) (fun _ => ?_))

theorem State.canFifo_keeps {b0 : State} (s : State) (n k : Nat) (e : Bytes) (hk : Keeps b0 s) : Keeps b0 (State.canFifo s n k e) := by
  unfold State.canFifo
  repeat' first
    | with_reducible assumption
    | (intro x; refine @Keeps.cut (Keeps b0 x) _ ?_ ?_ <;> [subst x; (intro _; clear_value x)])
    | (intro x; clear_value x) | lift_lets -underBinder
    | with_reducible first
        | apply hx | apply State.overflow_keeps | apply State.incFld_keeps | apply State.canFlag_keeps
        | apply State.strobe_keeps | apply State.setCanCtl_keeps | apply State.showFill_keeps
        | apply State.dmaRequest_keeps | (refine Keeps.ite (fun _ => ?_) (fun _ => ?_))

theorem State.canBufferEvent_keeps {b0 : State} (s : State) (n b : Nat) (overwrote : Bool) (hk : Keeps b0 s) : Keeps b0 (State.canBufferEvent s n b overwrote) := by
  unfold State.canBufferEvent
  repeat' first
    | with_reducible assumption | (intro x; clear_value x) | lift_lets -underBinder
    | with_reducible first
        | apply State.setCanCtl_keeps | apply State.strobe_keeps | (refine Keeps.ite (fun _ => ?_) (fun _ => ?_))

theorem execCanRxBufferHoldoffEnd_keeps {b0 : State} (n : Nat) (s : State) (hk : Keeps b0 s) : KeepsE b0 (execCanRxBufferHoldoffEnd n s) := by
  unfold execCanRxBufferHoldoffEnd
  repeat' first
    | with_reducible assumption | (intro x; clear_value x) | lift_lets -underBinder
    | with_reducible first
        | apply KeepsE.next | refine State.whenVamp_keeps _ _ ?_ ?_ | apply State.setCanCtl_keeps
        | apply State.strobe_keeps | (refine Keeps.ite (fun _ => ?_) (fun _ => ?_))
    | split

theorem State.canBuffer_keeps {b0 : State} (s : State) (n b : Nat) (e : Bytes) (hk : Keeps b0 s) : Keeps b0 (State.canBuffer s n b e) := by
  unfold State.canBuffer
  repeat' first
    | with_reducible assumption
    | (intro x; refine @Keeps.cut (Keeps b0 x) _ ?_ ?_ <;> [subst x; (intro _; clear_value x)])
    | (intro x; clear_value x) | lift_lets -underBinder
    | with_reducible first
        | apply State.setCanCtl_keeps | apply State.incFld_keeps | apply State.setBit_keeps | apply State.flag_keeps
        | apply State.dmaRequest_keeps | apply State.canBufferEvent_keeps
        | (refine Keeps.ite (fun _ => ?_) (fun _ => ?_))

theorem execCanReferenceDue_keeps {b0 : State} (n : Nat) (s : State) (hk : Keeps b0 s) : KeepsE b0 (execCanReferenceDue n s) := by
  unfold execCanReferenceDue
  repeat' first
    | with_reducible assumption
    | (intro x; refine @Keeps.cut (Keeps b0 x) _ ?_ ?_ <;> [subst x; (intro _; clear_value x)])
    | (intro x; clear_value x) | lift_lets -underBinder
    | with_reducible first
        | apply KeepsE.next | refine State.whenVamp_keeps _ _ ?_ ?_ | apply State.setCanCtl_keeps
        | apply State.emit_keeps | apply State.setCant_keeps | apply State.setFld_keeps | apply State.setBit_keeps
        | (refine Keeps.ite (fun _ => ?_) (fun _ => ?_))
    | split

theorem execCanReferenceLost_keeps {b0 : State} (n : Nat) (s : State) (hk : Keeps b0 s) : KeepsE b0 (execCanReferenceLost n s) := by
  unfold execCanReferenceLost
  repeat' first
    | with_reducible assumption
    | (intro x; refine @Keeps.cut (Keeps b0 x) _ ?_ ?_ <;> [subst x; (intro _; clear_value x)])
    | (intro x; clear_value x) | lift_lets -underBinder
    | with_reducible first
        | apply KeepsE.next | refine State.whenVamp_keeps _ _ ?_ ?_ | apply State.setCanCtl_keeps
        | apply State.setBit_keeps | apply State.canFlag_keeps | apply State.canStatus_keeps
        | (refine Keeps.ite (fun _ => ?_) (fun _ => ?_))
    | split

theorem State.canReference_keeps {b0 : State} (s : State) (n count ago : Nat) (hk : Keeps b0 s) : Keeps b0 (State.canReference s n count ago) := by
  unfold State.canReference
  repeat' first
    | with_reducible assumption
    | (intro x; refine @Keeps.cut (Keeps b0 x) _ ?_ ?_ <;> [subst x; (intro _; clear_value x)])
    | (intro x; clear_value x) | lift_lets -underBinder
    | with_reducible first
        | apply State.setFld_keeps | apply State.setBit_keeps | apply State.canFlag_keeps
        | apply State.canStatus_keeps | apply State.setCanCtl_keeps | apply State.setCant_keeps
        | (refine Keeps.ite (fun _ => ?_) (fun _ => ?_))

theorem execCanTimedTxDue_keeps {b0 : State} (n slot : Nat) (s : State) (hk : Keeps b0 s) : KeepsE b0 (execCanTimedTxDue n slot s) := by
  unfold execCanTimedTxDue
  repeat' first
    | with_reducible assumption | lift_lets -underBinder
    | with_reducible first
        | apply KeepsE.next | refine State.whenVamp_keeps _ _ ?_ ?_ | apply State.mapSlot_keeps

theorem execCanRecover_keeps {b0 : State} (n : Nat) (s : State) (hk : Keeps b0 s) : KeepsE b0 (execCanRecover n s) := by
  unfold execCanRecover
  repeat' first
    | with_reducible assumption
    | with_reducible first
        | apply KeepsE.next | refine State.whenVamp_keeps _ _ ?_ ?_ | apply State.setFld_keeps
        | (refine Keeps.ite (fun _ => ?_) (fun _ => ?_))
    | split

theorem execCanBusoffRecovered_keeps {b0 : State} (n : Nat) (s : State) (hk : Keeps b0 s) : KeepsE b0 (execCanBusoffRecovered n s) := by
  unfold execCanBusoffRecovered
  repeat' first
    | with_reducible assumption
    | with_reducible first
        | apply KeepsE.next | refine State.whenVamp_keeps _ _ ?_ ?_ | apply State.setFld_keeps
        | apply State.setBit_keeps | apply State.canStatus_keeps | (refine Keeps.ite (fun _ => ?_) (fun _ => ?_))
    | split

theorem execCanSleepReq_keeps {b0 : State} (n : Nat) (wake : Bool) (s : State) (hk : Keeps b0 s) : KeepsE b0 (execCanSleepReq n wake s) := by
  unfold execCanSleepReq
  repeat' first
    | with_reducible assumption | (intro x; clear_value x) | lift_lets -underBinder
    | with_reducible first
        | apply KeepsE.next | refine State.whenVamp_keeps _ _ ?_ ?_ | apply State.setCanCtl_keeps
        | apply State.setBit_keeps | apply State.canStatus_keeps | (refine Keeps.ite (fun _ => ?_) (fun _ => ?_))
    | split

theorem State.canWake_keeps {b0 : State} (s : State) (n how : Nat) (hk : Keeps b0 s) : Keeps b0 (State.canWake s n how) := by
  unfold State.canWake
  repeat' first
    | with_reducible assumption | (intro x; clear_value x) | lift_lets -underBinder
    | with_reducible first
        | apply State.setCanCtl_keeps | apply State.setBit_keeps | apply State.canFlag_keeps
        | apply State.canStatus_keeps | (refine Keeps.ite (fun _ => ?_) (fun _ => ?_))

theorem execCanWakeReq_keeps {b0 : State} (n : Nat) (s : State) (hk : Keeps b0 s) : KeepsE b0 (execCanWakeReq n s) := by
  unfold execCanWakeReq
  repeat' first
    | with_reducible assumption
    | with_reducible first
        | apply KeepsE.next | refine State.whenVamp_keeps _ _ ?_ ?_ | apply State.canWake_keeps

theorem execCanWakeDetect_keeps {b0 : State} (n : Nat) (frame : Bool) (dominantUs : Nat) (s : State) (hk : Keeps b0 s) : KeepsE b0 (execCanWakeDetect n frame dominantUs s) := by
  unfold execCanWakeDetect
  repeat' first
    | with_reducible assumption | (intro x; clear_value x) | lift_lets -underBinder
    | with_reducible first
        | apply KeepsE.next | refine State.whenVamp_keeps _ _ ?_ ?_ | apply State.canWake_keeps
        | (refine Keeps.ite (fun _ => ?_) (fun _ => ?_))

theorem execCanCommit_keeps {b0 : State} (n : Nat) (value : Word) (s : State) (hk : Keeps b0 s) : KeepsE b0 (execCanCommit n value s) := by
  unfold execCanCommit
  repeat' first
    | with_reducible assumption | (intro x; clear_value x) | lift_lets -underBinder
    | with_reducible first
        | apply KeepsE.next | refine State.whenVamp_keeps _ _ ?_ ?_ | apply State.setCanCtl_keeps
        | (refine Keeps.ite (fun _ => ?_) (fun _ => ?_))

theorem State.setWeltConn_keeps {b0 : State} (s : State) (c : Nat) (v : WeltConn) (hk : Keeps b0 s) : Keeps b0 (State.setWeltConn s c v) := by
  unfold State.setWeltConn
  repeat' first
    | with_reducible assumption | (intro x; clear_value x) | lift_lets -underBinder
    | with_reducible first
        | (refine Keeps.upd ?_; assumption)

theorem State.setWeltState_keeps {b0 : State} (s : State) (c st : Nat) (hk : Keeps b0 s) : Keeps b0 (State.setWeltState s c st) := by
  unfold State.setWeltState
  repeat' first
    | with_reducible assumption
    | (intro x; refine @Keeps.cut (Keeps b0 x) _ ?_ ?_ <;> [subst x; (intro _; clear_value x)])
    | lift_lets -underBinder
    | with_reducible first
        | apply State.setFld_keeps | apply State.setBit_keeps

theorem State.weltSend_keeps {b0 : State} (s : State) (c : Nat) (pdu : Bytes) (toConsumer : Bool) (hk : Keeps b0 s) : Keeps b0 (State.weltSend s c pdu toConsumer) := by
  unfold State.weltSend
  repeat' first
    | with_reducible assumption | (intro x; clear_value x) | lift_lets -underBinder
    | with_reducible first
        | apply State.canPush_keeps | apply State.emit_keeps | (refine Keeps.ite (fun _ => ?_) (fun _ => ?_))

theorem State.judgeVirtual_keeps {b0 : State} (s : State) (hk : Keeps b0 s) : Keeps b0 (State.judgeVirtual s) := by
  unfold State.judgeVirtual
  repeat' first
    | with_reducible assumption | (intro x; clear_value x) | lift_lets -underBinder
    | with_reducible first
        | apply State.judgeOnly_keeps | refine Keeps.foldl (fun _ _ _ => ?_) ?_
        | refine Keeps.foldl1 (fun _ _ _ => ?_) ?_ | (refine Keeps.ite (fun _ => ?_) (fun _ => ?_))

theorem State.weltArming_keeps {b0 : State} (s : State) (c cause : Nat) (hk : Keeps b0 s) : Keeps b0 (State.weltArming s c cause) := by
  unfold State.weltArming
  repeat' first
    | with_reducible assumption
    | (intro x; refine @Keeps.cut (Keeps b0 x) _ ?_ ?_ <;> [subst x; (intro _; clear_value x)])
    | (intro x; clear_value x) | lift_lets -underBinder
    | with_reducible first
        | apply State.setWeltConn_keeps | apply State.setWeltState_keeps | apply State.setFld_keeps
        | apply State.strobe_keeps

theorem State.weltRunning_keeps {b0 : State} (s : State) (c version seq : Nat) (hk : Keeps b0 s) : Keeps b0 (State.weltRunning s c version seq) := by
  unfold State.weltRunning
  repeat' first
    | with_reducible assumption
    | (intro x; refine @Keeps.cut (Keeps b0 x) _ ?_ ?_ <;> [subst x; (intro _; clear_value x)])
    | (intro x; clear_value x) | lift_lets -underBinder
    | with_reducible first
        | apply State.setWeltConn_keeps | apply State.setWeltState_keeps | apply State.setFld_keeps
        | apply State.flag_keeps | apply State.strobe_keeps

theorem State.weltError_keeps {b0 : State} (s : State) (c code missing : Nat) (hk : Keeps b0 s) : Keeps b0 (State.weltError s c code missing) := by
  unfold State.weltError
  repeat' first
    | with_reducible assumption
    | with_reducible first
        | apply State.setFld_keeps | apply State.flag_keeps | apply State.strobe_keeps

theorem State.weltFail_keeps {b0 : State} (s : State) (c code other : Nat) (hk : Keeps b0 s) : Keeps b0 (State.weltFail s c code other) := by
  unfold State.weltFail
  repeat' first
    | with_reducible assumption
    | (intro x; refine @Keeps.cut (Keeps b0 x) _ ?_ ?_ <;> [subst x; (intro _; clear_value x)])
    | (intro x; clear_value x) | lift_lets -underBinder
    | with_reducible first
        | apply State.setFld_keeps | apply State.incFld_keeps | apply State.setWeltConn_keeps
        | apply State.setWeltState_keeps | apply State.flag_keeps | apply State.strobe_keeps
        | apply State.findOnly_keeps | apply State.judgeVirtual_keeps
        | (refine Keeps.ite (fun _ => ?_) (fun _ => ?_))
    | split

theorem State.weltCheckFail_keeps {b0 : State} (s : State) (c : Nat) (hk : Keeps b0 s) : Keeps b0 (State.weltCheckFail s c) := by
  unfold State.weltCheckFail
  repeat' first
    | with_reducible assumption
    | (intro x; refine @Keeps.cut (Keeps b0 x) _ ?_ ?_ <;> [subst x; (intro _; clear_value x)])
    | (intro x; clear_value x) | lift_lets -underBinder
    | with_reducible first
        | apply State.incFld_keeps | apply State.setWeltConn_keeps | apply State.weltFail_keeps
        | apply State.weltError_keeps | (refine Keeps.ite (fun _ => ?_) (fun _ => ?_))

theorem execWeltArmSend_keeps {b0 : State} (c : Nat) (s : State) (hk : Keeps b0 s) : KeepsE b0 (execWeltArmSend c s) := by
  unfold execWeltArmSend
  repeat' first
    | with_reducible assumption | (intro x; clear_value x) | lift_lets -underBinder
    | with_reducible first
        | apply KeepsE.next | refine State.whenVamp_keeps _ _ ?_ ?_ | apply State.weltSend_keeps
        | (refine Keeps.ite (fun _ => ?_) (fun _ => ?_))
    | split

theorem State.weltTakeAck_keeps {b0 : State} (s : State) (c : Nat) (p : Bytes) (rxNs : Nat) (hk : Keeps b0 s) : Keeps b0 (State.weltTakeAck s c p rxNs) := by
  unfold State.weltTakeAck
  repeat' first
    | with_reducible assumption
    | (intro x; refine @Keeps.cut (Keeps b0 x) _ ?_ ?_ <;> [subst x; (intro _; clear_value x)])
    | (intro x; clear_value x) | lift_lets -underBinder
    | with_reducible first
        | apply State.weltRunning_keeps | apply State.setWeltConn_keeps | apply State.weltFail_keeps
        | (refine Keeps.ite (fun _ => ?_) (fun _ => ?_))

theorem State.weltTakeArm_keeps {b0 : State} (s : State) (c : Nat) (p : Bytes) (hk : Keeps b0 s) : Keeps b0 (State.weltTakeArm s c p) := by
  unfold State.weltTakeArm
  repeat' first
    | with_reducible assumption
    | (intro x; refine @Keeps.cut (Keeps b0 x) _ ?_ ?_ <;> [subst x; (intro _; clear_value x)])
    | (intro x; clear_value x) | lift_lets -underBinder
    | with_reducible first
        | apply State.weltArming_keeps | apply State.weltSend_keeps | apply State.weltRunning_keeps
        | (refine Keeps.ite (fun _ => ?_) (fun _ => ?_))

theorem State.weltTakeData_keeps {b0 : State} (s : State) (c : Nat) (p : Bytes) (rxNs : Nat) (hk : Keeps b0 s) : Keeps b0 (State.weltTakeData s c p rxNs) := by
  unfold State.weltTakeData
  repeat' first
    | with_reducible assumption
    | (intro x; refine @Keeps.cut (Keeps b0 x) _ ?_ ?_ <;> [subst x; (intro _; clear_value x)])
    | (intro x; clear_value x) | lift_lets -underBinder
    | with_reducible first
        | apply State.incFld_keeps | apply State.weltError_keeps | apply State.weltFail_keeps
        | apply State.setWeltConn_keeps | apply State.setFld_keeps | apply State.strobe_keeps
        | apply State.judgeVirtual_keeps | (refine Keeps.ite (fun _ => ?_) (fun _ => ?_))

theorem State.weltAccept_keeps {b0 : State} (s : State) (h : WeltPdu) (hk : Keeps b0 s) : Keeps b0 (State.weltAccept s h) := by
  unfold State.weltAccept
  repeat' first
    | with_reducible assumption | (intro x; clear_value x) | lift_lets -underBinder
    | with_reducible first
        | apply State.weltCheckFail_keeps | apply State.weltTakeArm_keeps | apply State.weltFail_keeps
        | apply State.incFld_keeps | apply State.weltError_keeps | apply State.weltTakeAck_keeps
        | apply State.weltTakeData_keeps | (refine Keeps.ite (fun _ => ?_) (fun _ => ?_))
    | split

theorem State.weltCycle_keeps {b0 : State} (s : State) (hk : Keeps b0 s) : Keeps b0 (State.weltCycle s) := by
  unfold State.weltCycle
  repeat' first
    | with_reducible assumption | (intro x; clear_value x) | lift_lets -underBinder
    | with_reducible first
        | apply State.weltAccept_keeps | refine Keeps.foldl (fun _ _ _ => ?_) ?_
        | refine Keeps.foldl1 (fun _ _ _ => ?_) ?_ | (refine Keeps.upd ?_; assumption)

theorem State.weltHold_keeps {b0 : State} (s : State) (c : Nat) (pdu : Bytes) (form : Bool) (hk : Keeps b0 s) : Keeps b0 (State.weltHold s c pdu form) := by
  unfold State.weltHold
  repeat' first
    | with_reducible assumption | (intro x; clear_value x) | lift_lets -underBinder
    | with_reducible first
        | (refine Keeps.upd ?_; assumption)

theorem State.weltUdp_keeps {b0 : State} (s : State) (peer : Nat) (payload : Bytes) (hk : Keeps b0 s) : Keeps b0 (State.weltUdp s peer payload) := by
  unfold State.weltUdp
  repeat' first
    | with_reducible assumption | (intro x; clear_value x) | lift_lets -underBinder
    | with_reducible first
        | apply State.weltHold_keeps | (refine Keeps.ite (fun _ => ?_) (fun _ => ?_))
    | split

theorem State.weltCanFrame_keeps {b0 : State} (s : State) (n id : Nat) (ide fd : Bool) (data : Bytes) (hk : Keeps b0 s) : Keeps b0 (State.weltCanFrame s n id ide fd data) := by
  unfold State.weltCanFrame
  repeat' first
    | with_reducible assumption | (intro x; clear_value x) | lift_lets -underBinder
    | with_reducible first
        | apply State.weltHold_keeps | (refine Keeps.ite (fun _ => ?_) (fun _ => ?_))
    | split

theorem execWeltPduReceive_keeps {b0 : State} (carrier peer : Nat) (payload : Bytes) (fd : Bool) (s : State) (hk : Keeps b0 s) : KeepsE b0 (execWeltPduReceive carrier peer payload fd s) := by
  unfold execWeltPduReceive
  repeat' first
    | with_reducible assumption
    | with_reducible first
        | apply KeepsE.next | refine State.whenVamp_keeps _ _ ?_ ?_ | apply State.weltCanFrame_keeps
        | apply State.weltUdp_keeps | (refine Keeps.ite (fun _ => ?_) (fun _ => ?_))
    | split

theorem execWeltArmAckReceive_keeps {b0 : State} (c : Nat) (pdu : Bytes) (s : State) (hk : Keeps b0 s) : KeepsE b0 (execWeltArmAckReceive c pdu s) := by
  unfold execWeltArmAckReceive
  repeat' first
    | with_reducible assumption
    | with_reducible first
        | apply KeepsE.next | refine State.whenVamp_keeps _ _ ?_ ?_ | apply State.weltAccept_keeps
        | apply State.act_keeps

theorem execWeltArmReceive_keeps {b0 : State} (c : Nat) (pdu : Bytes) (s : State) (hk : Keeps b0 s) : KeepsE b0 (execWeltArmReceive c pdu s) := by
  unfold execWeltArmReceive
  repeat' first
    | with_reducible assumption
    | with_reducible first
        | apply KeepsE.next | refine State.whenVamp_keeps _ _ ?_ ?_ | apply State.weltAccept_keeps
        | apply State.act_keeps

theorem execWeltDataSend_keeps {b0 : State} (c : Nat) (s : State) (hk : Keeps b0 s) : KeepsE b0 (execWeltDataSend c s) := by
  unfold execWeltDataSend
  repeat' first
    | with_reducible assumption | (intro x; clear_value x) | lift_lets -underBinder
    | with_reducible first
        | apply KeepsE.next | refine State.whenVamp_keeps _ _ ?_ ?_ | apply State.setFld_keeps
        | apply State.weltSend_keeps | (refine Keeps.ite (fun _ => ?_) (fun _ => ?_))
    | split

theorem State.weltTimeout_keeps {b0 : State} (s : State) (c : Nat) (hk : Keeps b0 s) : Keeps b0 (State.weltTimeout s c) := by
  unfold State.weltTimeout
  repeat' first
    | with_reducible assumption
    | with_reducible first
        | apply State.weltFail_keeps | apply State.act_keeps | (refine Keeps.ite (fun _ => ?_) (fun _ => ?_))

theorem State.weltRearm_keeps {b0 : State} (s : State) (bits : Word) (hk : Keeps b0 s) : Keeps b0 (State.weltRearm s bits) := by
  unfold State.weltRearm
  repeat' first
    | with_reducible assumption
    | with_reducible first
        | apply State.weltArming_keeps | refine Keeps.foldl (fun _ _ _ => ?_) ?_
        | refine Keeps.foldl1 (fun _ _ _ => ?_) ?_ | (refine Keeps.ite (fun _ => ?_) (fun _ => ?_))

theorem execWltRearm_keeps {b0 : State} (bits : Word) (s : State) (hk : Keeps b0 s) : KeepsE b0 (execWltRearm bits s) := by
  unfold execWltRearm
  repeat' first
    | with_reducible assumption
    | with_reducible first
        | apply KeepsE.next | refine State.whenVamp_keeps _ _ ?_ ?_ | apply State.weltRearm_keeps

theorem execWeltAutoRearm_keeps {b0 : State} (c : Nat) (s : State) (hk : Keeps b0 s) : KeepsE b0 (execWeltAutoRearm c s) := by
  unfold execWeltAutoRearm
  repeat' first
    | with_reducible assumption
    | with_reducible first
        | apply KeepsE.next | refine State.whenVamp_keeps _ _ ?_ ?_ | apply State.weltArming_keeps
        | (refine Keeps.ite (fun _ => ?_) (fun _ => ?_))

theorem execWeltConditionClear_keeps {b0 : State} (c : Nat) (s : State) (hk : Keeps b0 s) : KeepsE b0 (execWeltConditionClear c s) := by
  unfold execWeltConditionClear
  repeat' first
    | with_reducible assumption
    | with_reducible first
        | apply KeepsE.next | refine State.whenVamp_keeps _ _ ?_ ?_ | apply State.unfind_keeps
        | (refine Keeps.ite (fun _ => ?_) (fun _ => ?_))

theorem State.weltIdle_keeps {b0 : State} (s : State) (hk : Keeps b0 s) : Keeps b0 (State.weltIdle s) := by
  unfold State.weltIdle
  repeat' first
    | with_reducible assumption
    | with_reducible first
        | apply State.setWeltState_keeps | refine Keeps.foldl (fun _ _ _ => ?_) ?_

theorem execComparatorTrip_keeps {b0 : State} (c : Nat) (upper : Bool) (s : State) (hk : Keeps b0 s) : KeepsE b0 (execComparatorTrip c upper s) := by
  unfold execComparatorTrip
  repeat' first
    | with_reducible assumption
    | (intro x; refine @Keeps.cut (Keeps b0 x) _ ?_ ?_ <;> [subst x; (intro _; clear_value x)])
    | lift_lets -underBinder
    | with_reducible first
        | apply KeepsE.next | apply State.flag_keeps | apply State.soleLog_keeps | apply State.strobe_keeps
        | apply State.compTrip_keeps | apply State.find_keeps | (refine Keeps.ite (fun _ => ?_) (fun _ => ?_))
    | split

theorem State.setRbFault_keeps {b0 : State} (s : State) (n : Nat) (v : Bool) (hk : Keeps b0 s) : Keeps b0 (State.setRbFault s n v) := by
  unfold State.setRbFault
  repeat' first
    | with_reducible assumption | (intro x; clear_value x) | lift_lets -underBinder
    | with_reducible first
        | (refine Keeps.ite (fun _ => ?_) (fun _ => ?_)) | (refine Keeps.upd ?_; assumption)

theorem State.takeReadback_keeps {b0 : State} (s : State) (ch levels : Nat) (hk : Keeps b0 s) : Keeps b0 (State.takeReadback s ch levels) := by
  unfold State.takeReadback
  repeat' first
    | with_reducible assumption
    | (intro x; refine @Keeps.cut (Keeps b0 x) _ ?_ ?_ <;> [subst x; (intro _; clear_value x)])
    | (intro x; clear_value x) | lift_lets -underBinder
    | with_reducible first
        | apply State.setRbFault_keeps | apply State.unfind_keeps | refine Keeps.foldl (fun _ _ _ => ?_) ?_
        | refine Keeps.foldl1 (fun _ _ _ => ?_) ?_ | (refine Keeps.ite (fun _ => ?_) (fun _ => ?_))
        | (refine Keeps.upd ?_; assumption)

theorem execReadbackMismatchTimeout_keeps {b0 : State} (channel pair : Nat) (s : State) (hk : Keeps b0 s) : KeepsE b0 (execReadbackMismatchTimeout channel pair s) := by
  unfold execReadbackMismatchTimeout
  repeat' first
    | with_reducible assumption
    | (intro x; refine @Keeps.cut (Keeps b0 x) _ ?_ ?_ <;> [subst x; (intro _; clear_value x)])
    | (intro x; clear_value x) | lift_lets -underBinder
    | with_reducible first
        | apply KeepsE.next | apply State.setRbFault_keeps | apply State.safEvent_keeps | apply State.find_keeps
        | (refine Keeps.ite (fun _ => ?_) (fun _ => ?_))
    | split

theorem State.countBeyond_keeps {b0 : State} (s : State) (limit unit detail : Nat) (beyond : Bool) (hk : Keeps b0 s) : Keeps b0 (State.countBeyond s limit unit detail beyond) := by
  unfold State.countBeyond
  repeat' first
    | with_reducible assumption
    | (intro x; refine @Keeps.cut (Keeps b0 x) _ ?_ ?_ <;> [subst x; (intro _; clear_value x)])
    | (intro x; clear_value x) | lift_lets -underBinder
    | with_reducible first
        | apply State.findOnly_keeps | apply State.unfind_keeps | (refine Keeps.ite (fun _ => ?_) (fun _ => ?_))
        | (refine Keeps.upd ?_; assumption)

theorem State.suspectBeyond_keeps {b0 : State} (s : State) (node : Nat) (block : Bytes) (hk : Keeps b0 s) : KeepsT b0 (State.suspectBeyond s node block) := by
  unfold State.suspectBeyond
  repeat' first
    | with_reducible assumption | (intro x; clear_value x) | lift_lets -underBinder
    | with_reducible first
        | apply State.drawn_keeps | refine Keeps.foldl (fun _ _ _ => ?_) ?_
        | refine Keeps.foldl1 (fun _ _ _ => ?_) ?_ | (refine Keeps.ite (fun _ => ?_) (fun _ => ?_))
    | split

theorem State.checkCell_keeps {b0 : State} (s : State) (node : Nat) (block : Bytes) (i : Nat) (hk : Keeps b0 s) : Keeps b0 (State.checkCell s node block i) := by
  unfold State.checkCell
  repeat' first
    | with_reducible assumption
    | (intro x; refine @Keeps.cut (Keeps b0 x) _ ?_ ?_ <;> [subst x; (intro _; clear_value x)])
    | (intro x; refine @Keeps.cut (Keeps b0 x.2.2) _ ?_ ?_ <;> [subst x; (intro _; clear_value x)])
    | (intro x; clear_value x) | lift_lets -underBinder
    | with_reducible first
        | apply State.unfind_keeps | apply State.suspectBeyond_keeps | apply State.countBeyond_keeps
        | (refine Keeps.ite (fun _ => ?_) (fun _ => ?_)) | (refine Keeps.upd ?_; assumption)
    | split

theorem State.checkTemp_keeps {b0 : State} (s : State) (node : Nat) (block : Bytes) (j : Nat) (hk : Keeps b0 s) : Keeps b0 (State.checkTemp s node block j) := by
  unfold State.checkTemp
  repeat' first
    | with_reducible assumption | (intro x; clear_value x) | lift_lets -underBinder
    | with_reducible first
        | apply State.countBeyond_keeps | (refine Keeps.ite (fun _ => ?_) (fun _ => ?_))

theorem State.checkRecord_keeps {b0 : State} (s : State) (blocks : List Bytes) (hk : Keeps b0 s) : Keeps b0 (State.checkRecord s blocks) := by
  unfold State.checkRecord
  repeat' first
    | with_reducible assumption
    | (intro x; refine @Keeps.cut (Keeps b0 x) _ ?_ ?_ <;> [subst x; (intro _; clear_value x)])
    | (intro x; clear_value x) | lift_lets -underBinder
    | with_reducible first
        | apply State.checkCell_keeps | apply State.checkTemp_keeps | apply State.wr_keeps
        | refine Keeps.foldl (fun _ _ _ => ?_) ?_ | refine Keeps.foldl1 (fun _ _ _ => ?_) ?_
        | (refine Keeps.ite (fun _ => ?_) (fun _ => ?_))

theorem State.checkRecords_keeps {b0 : State} (s : State) (hk : Keeps b0 s) : Keeps b0 (State.checkRecords s) := by
  unfold State.checkRecords
  repeat' first
    | with_reducible assumption | (intro x; clear_value x) | lift_lets -underBinder
    | with_reducible first
        | apply State.checkRecord_keeps | refine Keeps.foldl (fun _ _ _ => ?_) ?_
        | refine Keeps.foldl1 (fun _ _ _ => ?_) ?_ | (refine Keeps.upd ?_; assumption)

theorem execSafetyCoreCycle_keeps {b0 : State} (readback : Nat) (s : State) (hk : Keeps b0 s) : KeepsE b0 (execSafetyCoreCycle readback s) := by
  unfold execSafetyCoreCycle
  repeat' first
    | with_reducible assumption
    | (intro x; refine @Keeps.cut (Keeps b0 x) _ ?_ ?_ <;> [subst x; (intro _; clear_value x)])
    | (intro x; clear_value x) | lift_lets -underBinder
    | with_reducible first
        | apply KeepsE.next | apply State.takeReadback_keeps | apply State.adopt_keeps
        | apply State.judgeInputs_keeps | apply State.checkRecords_keeps | apply State.weltCycle_keeps
        | apply State.act_keeps | apply State.sendCross_keeps | (refine Keeps.ite (fun _ => ?_) (fun _ => ?_))
        | (refine Keeps.upd ?_; assumption)
    | split

theorem execCh2Scan_keeps {b0 : State} (readback beyond : Nat) (s : State) (hk : Keeps b0 s) : KeepsE b0 (execCh2Scan readback beyond s) := by
  unfold execCh2Scan
  repeat' first
    | with_reducible assumption
    | (intro x; refine @Keeps.cut (Keeps b0 x) _ ?_ ?_ <;> [subst x; (intro _; clear_value x)])
    | (intro x; clear_value x) | lift_lets -underBinder
    | with_reducible first
        | apply KeepsE.next | apply State.takeReadback_keeps | apply State.adopt_keeps
        | apply State.judgeInputs_keeps | apply State.unfind_keeps | apply State.act_keeps
        | refine Keeps.foldl (fun _ _ _ => ?_) ?_ | refine Keeps.foldl1 (fun _ _ _ => ?_) ?_
        | (refine Keeps.ite (fun _ => ?_) (fun _ => ?_)) | (refine Keeps.upd ?_; assumption)
    | split

theorem execCh2CrossCheckSend_keeps {b0 : State} (s : State) (hk : Keeps b0 s) : KeepsE b0 (execCh2CrossCheckSend s) := by
  unfold execCh2CrossCheckSend
  repeat' first
    | with_reducible assumption
    | with_reducible first
        | apply KeepsE.next | apply State.sendCross_keeps | (refine Keeps.ite (fun _ => ?_) (fun _ => ?_))

theorem execCrossCheckReceive_keeps {b0 : State} (channel : Nat) (s : State) (hk : Keeps b0 s) : KeepsE b0 (execCrossCheckReceive channel s) := by
  unfold execCrossCheckReceive
  repeat' first
    | with_reducible assumption
    | (intro x; refine @Keeps.cut (Keeps b0 x) _ ?_ ?_ <;> [subst x; (intro _; clear_value x)])
    | (intro x; clear_value x) | lift_lets -underBinder
    | with_reducible first
        | apply KeepsE.next | apply State.setSafChan_keeps | apply State.wr_keeps | apply State.unfind_keeps
        | (refine Keeps.ite (fun _ => ?_) (fun _ => ?_)) | (refine Keeps.upd ?_; assumption)
    | split

theorem execChannelDisagreeTimeout_keeps {b0 : State} (s : State) (hk : Keeps b0 s) : KeepsE b0 (execChannelDisagreeTimeout s) := by
  unfold execChannelDisagreeTimeout
  repeat' first
    | with_reducible assumption
    | (intro x; refine @Keeps.cut (Keeps b0 x) _ ?_ ?_ <;> [subst x; (intro _; clear_value x)])
    | lift_lets -underBinder
    | with_reducible first
        | apply KeepsE.next | apply State.find_keeps | apply State.unfind_keeps
        | (refine Keeps.ite (fun _ => ?_) (fun _ => ?_))
    | split

theorem execCh2SilentTimeout_keeps {b0 : State} (s : State) (hk : Keeps b0 s) : KeepsE b0 (execCh2SilentTimeout s) := by
  unfold execCh2SilentTimeout
  repeat' first
    | with_reducible assumption
    | with_reducible first
        | apply KeepsE.next | refine State.whenVamp_keeps _ _ ?_ ?_ | apply State.find_keeps

theorem State.loseLiveness_keeps {b0 : State} (s : State) (cause : Nat) (hk : Keeps b0 s) : Keeps b0 (State.loseLiveness s cause) := by
  unfold State.loseLiveness
  repeat' first
    | with_reducible assumption
    | (intro x; refine @Keeps.cut (Keeps b0 x) _ ?_ ?_ <;> [subst x; (intro _; clear_value x)])
    | lift_lets -underBinder
    | with_reducible first
        | apply State.flag_keeps | apply State.setBit_keeps | apply State.soleLog_keeps | apply State.strobe_keeps
        | apply State.find_keeps | (refine Keeps.ite (fun _ => ?_) (fun _ => ?_))

theorem execLiveEdgeReceive_keeps {b0 : State} (intervalUs : Nat) (s : State) (hk : Keeps b0 s) : KeepsE b0 (execLiveEdgeReceive intervalUs s) := by
  unfold execLiveEdgeReceive
  repeat' first
    | with_reducible assumption
    | (intro x; refine @Keeps.cut (Keeps b0 x) _ ?_ ?_ <;> [subst x; (intro _; clear_value x)])
    | (intro x; clear_value x) | lift_lets -underBinder
    | with_reducible first
        | apply KeepsE.next | apply State.setFld_keeps | apply State.loseLiveness_keeps | apply State.unfind_keeps
        | (refine Keeps.ite (fun _ => ?_) (fun _ => ?_)) | (refine Keeps.upd ?_; assumption)
    | split

theorem execLiveTimeout_keeps {b0 : State} (cause : Nat) (s : State) (hk : Keeps b0 s) : KeepsE b0 (execLiveTimeout cause s) := by
  unfold execLiveTimeout
  repeat' first
    | with_reducible assumption
    | with_reducible first
        | apply KeepsE.next | apply State.loseLiveness_keeps | (refine Keeps.ite (fun _ => ?_) (fun _ => ?_))

theorem execDrogueTimerExpiry_keeps {b0 : State} (channel : Nat) (s : State) (hk : Keeps b0 s) : KeepsE b0 (execDrogueTimerExpiry channel s) := by
  unfold execDrogueTimerExpiry
  repeat' first
    | with_reducible assumption
    | with_reducible first
        | apply KeepsE.next | apply State.endDrogue_keeps | apply State.act_keeps
        | (refine Keeps.ite (fun _ => ?_) (fun _ => ?_))

theorem execSafetyCurrentMean1ms_keeps {b0 : State} (channel : Nat) (s : State) (hk : Keeps b0 s) : KeepsE b0 (execSafetyCurrentMean1ms channel s) := by
  unfold execSafetyCurrentMean1ms
  repeat' first
    | with_reducible assumption
    | (intro x; refine @Keeps.cut (Keeps b0 x) _ ?_ ?_ <;> [subst x; (intro _; clear_value x)])
    | (intro x; clear_value x) | lift_lets -underBinder
    | with_reducible first
        | apply KeepsE.next | apply State.setSafChan_keeps | apply State.wr_keeps | apply State.unfind_keeps
        | apply State.endDrogue_keeps | apply State.act_keeps | apply State.endShunt_keeps
        | (refine Keeps.ite (fun _ => ?_) (fun _ => ?_))
    | split

theorem execSafetyCurrentMean100ms_keeps {b0 : State} (channel : Nat) (s : State) (hk : Keeps b0 s) : KeepsE b0 (execSafetyCurrentMean100ms channel s) := by
  unfold execSafetyCurrentMean100ms
  repeat' first
    | with_reducible assumption
    | (intro x; refine @Keeps.cut (Keeps b0 x) _ ?_ ?_ <;> [subst x; (intro _; clear_value x)])
    | (intro x; clear_value x) | lift_lets -underBinder
    | with_reducible first
        | apply KeepsE.next | apply State.setSafChan_keeps | apply State.judge_keeps
        | (refine Keeps.ite (fun _ => ?_) (fun _ => ?_))
    | split

theorem execSlowOvercurrent_keeps {b0 : State} (channel : Nat) (s : State) (hk : Keeps b0 s) : KeepsE b0 (execSlowOvercurrent channel s) := by
  unfold execSlowOvercurrent
  repeat' first
    | with_reducible assumption | (intro x; clear_value x) | lift_lets -underBinder
    | with_reducible first
        | apply KeepsE.next | apply State.find_keeps | (refine Keeps.ite (fun _ => ?_) (fun _ => ?_))

theorem execShuntWaitTimeout_keeps {b0 : State} (channel : Nat) (s : State) (hk : Keeps b0 s) : KeepsE b0 (execShuntWaitTimeout channel s) := by
  unfold execShuntWaitTimeout
  repeat' first
    | with_reducible assumption
    | with_reducible first
        | apply KeepsE.next | apply State.endShunt_keeps | (refine Keeps.ite (fun _ => ?_) (fun _ => ?_))

theorem State.tpResult_keeps {b0 : State} (s : State) (sw v : Nat) (hk : Keeps b0 s) : Keeps b0 (State.tpResult s sw v) := by
  unfold State.tpResult
  repeat' first
    | with_reducible assumption
    | with_reducible first
        | apply State.setFld_keeps

theorem State.tpSkip_keeps {b0 : State} (s : State) (sw : Nat) (hk : Keeps b0 s) : Keeps b0 (State.tpSkip s sw) := by
  unfold State.tpSkip
  repeat' first
    | with_reducible assumption
    | with_reducible first
        | apply State.tpResult_keeps | apply State.safEvent_keeps

theorem State.tpStart_keeps {b0 : State} (s : State) (sw : Nat) (hk : Keeps b0 s) : Keeps b0 (State.tpStart s sw) := by
  unfold State.tpStart
  repeat' first
    | with_reducible assumption | (intro x; clear_value x) | lift_lets -underBinder
    | with_reducible first
        | apply State.tpSkip_keeps | (refine Keeps.ite (fun _ => ?_) (fun _ => ?_))
        | (refine Keeps.upd ?_; assumption)

theorem execTestPulseStart_keeps {b0 : State} (switch : Nat) (s : State) (hk : Keeps b0 s) : KeepsE b0 (execTestPulseStart switch s) := by
  unfold execTestPulseStart
  repeat' first
    | with_reducible assumption
    | with_reducible first
        | apply KeepsE.next | apply State.tpStart_keeps

theorem execTestPulseRetry_keeps {b0 : State} (switch : Nat) (s : State) (hk : Keeps b0 s) : KeepsE b0 (execTestPulseRetry switch s) := by
  unfold execTestPulseRetry
  repeat' first
    | with_reducible assumption
    | with_reducible first
        | apply KeepsE.next | apply State.tpStart_keeps | (refine Keeps.ite (fun _ => ?_) (fun _ => ?_))

theorem execTestPulseEnd_keeps {b0 : State} (during after : Nat) (s : State) (hk : Keeps b0 s) : KeepsE b0 (execTestPulseEnd during after s) := by
  unfold execTestPulseEnd
  repeat' first
    | with_reducible assumption
    | (intro x; refine @Keeps.cut (Keeps b0 x) _ ?_ ?_ <;> [subst x; (intro _; clear_value x)])
    | (intro x; clear_value x) | lift_lets -underBinder
    | with_reducible first
        | apply KeepsE.next | apply State.tpSkip_keeps | apply State.tpResult_keeps | apply State.unfind_keeps
        | apply State.flag_keeps | apply State.safEvent_keeps | apply State.find_keeps
        | (refine Keeps.ite (fun _ => ?_) (fun _ => ?_)) | (refine Keeps.upd ?_; assumption)
    | split

theorem execMirrorFeedbackTimeout_keeps {b0 : State} (channel pair : Nat) (s : State) (hk : Keeps b0 s) : KeepsE b0 (execMirrorFeedbackTimeout channel pair s) := by
  unfold execMirrorFeedbackTimeout
  repeat' first
    | with_reducible assumption
    | (intro x; refine @Keeps.cut (Keeps b0 x) _ ?_ ?_ <;> [subst x; (intro _; clear_value x)])
    | (intro x; clear_value x) | lift_lets -underBinder
    | with_reducible first
        | apply KeepsE.next | apply State.safEvent_keeps | apply State.find_keeps
        | (refine Keeps.ite (fun _ => ?_) (fun _ => ?_)) | (refine Keeps.upd ?_; assumption)
    | split

theorem execUnmeasuredTimeout_keeps {b0 : State} (cell : Nat) (s : State) (hk : Keeps b0 s) : KeepsE b0 (execUnmeasuredTimeout cell s) := by
  unfold execUnmeasuredTimeout
  repeat' first
    | with_reducible assumption | (intro x; clear_value x) | lift_lets -underBinder
    | with_reducible first
        | apply KeepsE.next | refine State.whenVamp_keeps _ _ ?_ ?_ | apply State.find_keeps
        | (refine Keeps.ite (fun _ => ?_) (fun _ => ?_))

theorem execSafetyInputLevelChange_keeps {b0 : State} (channel input line : Nat) (high : Bool) (s : State) (hk : Keeps b0 s) : KeepsE b0 (execSafetyInputLevelChange channel input line high s) := by
  unfold execSafetyInputLevelChange
  repeat' first
    | with_reducible assumption | (intro x; clear_value x) | lift_lets -underBinder
    | with_reducible first
        | apply KeepsE.next | apply State.setSafChan_keeps | apply State.judgeInput_keeps | apply State.act_keeps
        | (refine Keeps.ite (fun _ => ?_) (fun _ => ?_))
    | split

theorem execDiscrepancyFault_keeps {b0 : State} (channel input scans : Nat) (s : State) (hk : Keeps b0 s) : KeepsE b0 (execDiscrepancyFault channel input scans s) := by
  unfold execDiscrepancyFault
  repeat' first
    | with_reducible assumption
    | (intro x; refine @Keeps.cut (Keeps b0 x) _ ?_ ?_ <;> [subst x; (intro _; clear_value x)])
    | (intro x; clear_value x) | lift_lets -underBinder
    | with_reducible first
        | apply KeepsE.next | apply State.setSafChan_keeps | apply State.flag_keeps | apply State.safEvent_keeps
        | apply State.judgeInput_keeps | apply State.act_keeps | (refine Keeps.ite (fun _ => ?_) (fun _ => ?_))
    | split

theorem execAckInputPulse_keeps {b0 : State} (channel input scans : Nat) (s : State) (hk : Keeps b0 s) : KeepsE b0 (execAckInputPulse channel input scans s) := by
  unfold execAckInputPulse
  repeat' first
    | with_reducible assumption
    | with_reducible first
        | apply KeepsE.next | apply State.ackFrom_keeps | (refine Keeps.ite (fun _ => ?_) (fun _ => ?_))
    | split

theorem State.safAckWrite_keeps {b0 : State} (s : State) (value : Word) (hk : Keeps b0 s) : Keeps b0 (State.safAckWrite s value) := by
  unfold State.safAckWrite
  repeat' first
    | with_reducible assumption
    | with_reducible first
        | apply State.ackFrom_keeps | (refine Keeps.ite (fun _ => ?_) (fun _ => ?_))

theorem execSafAckWrite_keeps {b0 : State} (value : Word) (s : State) (hk : Keeps b0 s) : KeepsE b0 (execSafAckWrite value s) := by
  unfold execSafAckWrite
  repeat' first
    | with_reducible assumption
    | with_reducible first
        | apply KeepsE.next | refine State.whenVamp_keeps _ _ ?_ ?_ | apply State.safAckWrite_keeps

theorem State.fire_keeps {b0 : State} (s : State) (hk : Keeps b0 s) : Keeps b0 (State.fire s) := by
  unfold State.fire
  repeat' first
    | with_reducible assumption
    | (intro x; refine @Keeps.cut (Keeps b0 x) _ ?_ ?_ <;> [subst x; (intro _; clear_value x)])
    | lift_lets -underBinder
    | with_reducible first
        | apply State.find_keeps | apply State.unfind_keeps

theorem execSafOutReqFire_keeps {b0 : State} (s : State) (hk : Keeps b0 s) : KeepsE b0 (execSafOutReqFire s) := by
  unfold execSafOutReqFire
  repeat' first
    | with_reducible assumption
    | with_reducible first
        | apply KeepsE.next | refine State.whenVamp_keeps _ _ ?_ ?_ | apply State.fire_keeps

theorem State.outReqClose_keeps {b0 : State} (s : State) (value : Word) (hk : Keeps b0 s) : Keeps b0 (State.outReqClose s value) := by
  unfold State.outReqClose
  repeat' first
    | with_reducible assumption
    | with_reducible first
        | apply State.setClose_keeps

theorem execSafOutReqClose_keeps {b0 : State} (value : Word) (s : State) (hk : Keeps b0 s) : KeepsE b0 (execSafOutReqClose value s) := by
  unfold execSafOutReqClose
  repeat' first
    | with_reducible assumption
    | with_reducible first
        | apply KeepsE.next | refine State.whenVamp_keeps _ _ ?_ ?_ | apply State.outReqClose_keeps

theorem execParamCrcCheck_keeps {b0 : State} (channel : Nat) (crc : Word) (s : State) (hk : Keeps b0 s) : KeepsE b0 (execParamCrcCheck channel crc s) := by
  unfold execParamCrcCheck
  repeat' first
    | with_reducible assumption
    | (intro x; refine @Keeps.cut (Keeps b0 x) _ ?_ ?_ <;> [subst x; (intro _; clear_value x)])
    | (intro x; clear_value x) | lift_lets -underBinder
    | with_reducible first
        | apply KeepsE.next | apply State.setSafChan_keeps | apply State.wr_keeps | apply State.unfind_keeps
        | apply State.safEvent_keeps | apply State.soleLog_keeps | apply State.find_keeps
        | (refine Keeps.ite (fun _ => ?_) (fun _ => ?_))
    | split

end Sys2Proof.Machine
end

