-- ==== Sys2Proof/Laws/KeepsEst.lean ====
section
/-!
SUPPORT. What no operation undoes (Laws/Keeps.lean), operation by operation: memory, stations, DMA, the sweep, the estimator and the PCS.
-/

namespace Sys2Proof.Machine

theorem State.rewriteAllocMap_keeps {b0 : State} (s : State) (hk : Keeps b0 s) : Keeps b0 (State.rewriteAllocMap s) := by
  unfold State.rewriteAllocMap
  repeat' first
    | with_reducible assumption
    | (intro x; refine @Keeps.cut (Keeps b0 x) _ ?_ ?_ <;> [subst x; (intro _; clear_value x)])
    | (intro x; clear_value x) | lift_lets -underBinder
    | with_reducible first
        | apply State.incWrap_keeps | apply State.putBytes_keeps | apply State.setFld_keeps

theorem State.placeAreas_keeps {b0 : State} (s : State) (hk : Keeps b0 s) : Keeps b0 (State.placeAreas s) := by
  unfold State.placeAreas
  repeat' first
    | with_reducible assumption
    | (intro x; refine @Keeps.cut (Keeps b0 x) _ ?_ ?_ <;> [subst x; (intro _; clear_value x)])
    | (intro x; refine @Keeps.cut (∀ t a0 a1, Keeps b0 t → Keeps b0 (x t a0 a1)) _ ?_ ?_ <;> [(subst x; intro _ _ _ _; dsimp -zeta only); (intro hx; clear_value x)])
    | lift_lets -underBinder
    | with_reducible first
        | apply hx | apply State.wr_keeps | apply State.rewriteAllocMap_keeps

theorem State.retireSector_keeps {b0 : State} (s : State) (area : Nat) (hk : Keeps b0 s) : Keeps b0 (State.retireSector s area) := by
  unfold State.retireSector
  repeat' first
    | with_reducible assumption
    | (intro x; refine @Keeps.cut (Keeps b0 x) _ ?_ ?_ <;> [subst x; (intro _; clear_value x)])
    | (intro x; clear_value x) | lift_lets -underBinder
    | with_reducible first
        | apply State.setFld_keeps | apply State.flag_keeps | apply State.strobe_keeps | apply State.setBit_keeps
        | (refine Keeps.ite (fun _ => ?_) (fun _ => ?_)) | (refine Keeps.upd ?_; assumption)

theorem State.dataParity_keeps {b0 : State} (s : State) (requester addr : Nat) (interconnect : Bool) (hk : Keeps b0 s) : Keeps b0 (State.dataParity s requester addr interconnect) := by
  unfold State.dataParity
  repeat' first
    | with_reducible assumption
    | (intro x; refine @Keeps.cut (Keeps b0 x) _ ?_ ?_ <;> [subst x; (intro _; clear_value x)])
    | (intro x; clear_value x) | lift_lets -underBinder
    | with_reducible first
        | apply State.wr_keeps | apply State.setFld_keeps | apply State.incFld_keeps | apply State.flag_keeps
        | apply State.strobe_keeps | (refine Keeps.ite (fun _ => ?_) (fun _ => ?_))
        | (refine Keeps.upd ?_; assumption)

theorem execScrubPass_keeps {b0 : State} (latent : List Word) (s : State) (hk : Keeps b0 s) : KeepsE b0 (execScrubPass latent s) := by
  unfold execScrubPass
  repeat' first
    | with_reducible assumption
    | (intro x; refine @Keeps.cut (Keeps b0 x) _ ?_ ?_ <;> [subst x; (intro _; clear_value x)])
    | lift_lets -underBinder
    | with_reducible first
        | apply KeepsE.next | refine State.whenVamp_keeps _ _ ?_ ?_ | apply State.dataParity_keeps
        | apply State.incFld_keeps | apply State.setFld_keeps | refine Keeps.foldl (fun _ _ _ => ?_) ?_

theorem State.insoleEcc_keeps {b0 : State} (s : State) (addr : Nat) (hk : Keeps b0 s) : Keeps b0 (State.insoleEcc s addr) := by
  unfold State.insoleEcc
  repeat' first
    | with_reducible assumption
    | with_reducible first
        | apply State.flag_keeps | apply State.strobe_keeps

theorem State.setImage_keeps {b0 : State} (s : State) (p : Program) (sym el : Nat) (v : Quad) (hk : Keeps b0 s) : Keeps b0 (State.setImage s p sym el v) := by
  unfold State.setImage
  repeat' first
    | with_reducible assumption
    | (intro x; refine @Keeps.cut (Keeps b0 x) _ ?_ ?_ <;> [subst x; (intro _; clear_value x)])
    | (intro x; clear_value x) | lift_lets -underBinder
    | with_reducible first
        | apply State.putBytes_keeps | (refine Keeps.ite (fun _ => ?_) (fun _ => ?_))
        | (refine Keeps.upd ?_; assumption)
    | split

theorem State.setSymbol_keeps {b0 : State} (s : State) (p : Program) (sym : Nat) (y : Symbol) (f : Nat → Quad) (hk : Keeps b0 s) : Keeps b0 (State.setSymbol s p sym y f) := by
  unfold State.setSymbol
  repeat' first
    | with_reducible assumption
    | with_reducible first
        | apply State.setImage_keeps | refine Keeps.foldl (fun _ _ _ => ?_) ?_

theorem State.persistStart_keeps {b0 : State} (s : State) (p : Program) (hk : Keeps b0 s) : Keeps b0 (State.persistStart s p) := by
  unfold State.persistStart
  repeat' first
    | with_reducible assumption
    | (intro x; refine @Keeps.cut (Keeps b0 x) _ ?_ ?_ <;> [subst x; (intro _; clear_value x)])
    | (intro x; clear_value x) | lift_lets -underBinder
    | with_reducible first
        | apply State.insoleStart_keeps | apply State.putBytes_keeps
        | (refine Keeps.ite (fun _ => ?_) (fun _ => ?_)) | (refine Keeps.upd ?_; assumption)

theorem State.persistTrigger_keeps {b0 : State} (s : State) (hk : Keeps b0 s) : Keeps b0 (State.persistTrigger s) := by
  unfold State.persistTrigger
  repeat' first
    | with_reducible assumption | (intro x; clear_value x) | lift_lets -underBinder
    | with_reducible first
        | apply State.persistStart_keeps | (refine Keeps.ite (fun _ => ?_) (fun _ => ?_))
        | (refine Keeps.upd ?_; assumption)
    | split

theorem State.persistResume_keeps {b0 : State} (s : State) (hk : Keeps b0 s) : Keeps b0 (State.persistResume s) := by
  unfold State.persistResume
  repeat' first
    | with_reducible assumption
    | with_reducible first
        | apply State.persistTrigger_keeps | (refine Keeps.ite (fun _ => ?_) (fun _ => ?_))

theorem State.persistCommit_keeps {b0 : State} (s : State) (hk : Keeps b0 s) : Keeps b0 (State.persistCommit s) := by
  unfold State.persistCommit
  repeat' first
    | with_reducible assumption | (intro x; clear_value x) | lift_lets -underBinder
    | with_reducible first
        | (refine Keeps.ite (fun _ => ?_) (fun _ => ?_)) | (refine Keeps.upd ?_; assumption)
    | split

theorem State.persistCut_keeps {b0 : State} (s : State) (pagesLeft : Nat) (hk : Keeps b0 s) : Keeps b0 (State.persistCut s pagesLeft) := by
  unfold State.persistCut
  repeat' first
    | with_reducible assumption | (intro x; clear_value x) | lift_lets -underBinder
    | with_reducible first
        | apply State.persistCommit_keeps | (refine Keeps.ite (fun _ => ?_) (fun _ => ?_))
        | (refine Keeps.upd ?_; assumption)

theorem execPersistWriteDone_keeps {b0 : State} (s : State) (hk : Keeps b0 s) : KeepsE b0 (execPersistWriteDone s) := by
  unfold execPersistWriteDone
  repeat' first
    | with_reducible assumption | (intro x; clear_value x) | lift_lets -underBinder
    | with_reducible first
        | apply KeepsE.next | refine State.whenVamp_keeps _ _ ?_ ?_ | apply State.unspoil_keeps
        | apply State.persistCommit_keeps | apply State.persistResume_keeps
        | (refine Keeps.ite (fun _ => ?_) (fun _ => ?_))

theorem State.setStation_keeps {b0 : State} (s : State) (u : Nat) (v : Station) (hk : Keeps b0 s) : Keeps b0 (State.setStation s u v) := by
  unfold State.setStation
  repeat' first
    | with_reducible assumption | (intro x; clear_value x) | lift_lets -underBinder
    | with_reducible first
        | (refine Keeps.upd ?_; assumption)

theorem State.showAbsent_keeps {b0 : State} (s : State) (u : Nat) (v : Bool) (hk : Keeps b0 s) : Keeps b0 (State.showAbsent s u v) := by
  unfold State.showAbsent
  repeat' first
    | with_reducible assumption
    | with_reducible first
        | apply State.setBit_keeps

theorem State.refreshInputs_keeps {b0 : State} (s : State) (p : Program) (hk : Keeps b0 s) : Keeps b0 (State.refreshInputs s p) := by
  unfold State.refreshInputs
  repeat' first
    | with_reducible assumption
    | with_reducible first
        | apply State.setSymbol_keeps | refine Keeps.foldl (fun _ _ _ => ?_) ?_

theorem State.stationSend_keeps {b0 : State} (s : State) (d : StationDef) (frame : Bytes) (hk : Keeps b0 s) : Keeps b0 (State.stationSend s d frame) := by
  unfold State.stationSend
  repeat' first
    | with_reducible assumption | (intro x; clear_value x) | lift_lets -underBinder
    | with_reducible first
        | apply State.canPush_keeps | apply State.emit_keeps | (refine Keeps.ite (fun _ => ?_) (fun _ => ?_))

theorem execStationExchangeSend_keeps {b0 : State} (u : Nat) (s : State) (hk : Keeps b0 s) : KeepsE b0 (execStationExchangeSend u s) := by
  unfold execStationExchangeSend
  repeat' first
    | with_reducible assumption | (intro x; clear_value x) | lift_lets -underBinder
    | with_reducible first
        | apply KeepsE.next | refine State.whenVamp_keeps _ _ ?_ ?_ | apply State.setStation_keeps
        | apply State.stationSend_keeps | (refine Keeps.ite (fun _ => ?_) (fun _ => ?_))
    | split

theorem State.stationGood_keeps {b0 : State} (s : State) (p : Program) (u : Nat) (frame : Bytes) (inLen : Nat) (hk : Keeps b0 s) : Keeps b0 (State.stationGood s p u frame inLen) := by
  unfold State.stationGood
  repeat' first
    | with_reducible assumption
    | (intro x; refine @Keeps.cut (Keeps b0 x) _ ?_ ?_ <;> [subst x; (intro _; clear_value x)])
    | (intro x; clear_value x) | lift_lets -underBinder
    | with_reducible first
        | apply State.setStation_keeps | apply State.refreshInputs_keeps | apply State.showAbsent_keeps
        | apply State.strobe_keeps | (refine Keeps.ite (fun _ => ?_) (fun _ => ?_))

theorem State.stationInput_keeps {b0 : State} (s : State) (u : Nat) (frame : Bytes) (hk : Keeps b0 s) : Keeps b0 (State.stationInput s u frame) := by
  unfold State.stationInput
  repeat' first
    | with_reducible assumption | lift_lets -underBinder
    | with_reducible first
        | apply State.stationGood_keeps | (refine Keeps.ite (fun _ => ?_) (fun _ => ?_))
    | split

theorem execStationInputReceive_keeps {b0 : State} (u : Nat) (frame : Bytes) (s : State) (hk : Keeps b0 s) : KeepsE b0 (execStationInputReceive u frame s) := by
  unfold execStationInputReceive
  repeat' first
    | with_reducible assumption
    | with_reducible first
        | apply KeepsE.next | refine State.whenVamp_keeps _ _ ?_ ?_ | apply State.stationInput_keeps

theorem State.errorRelease_keeps {b0 : State} (s : State) (p : Program) (owner : Nat) (hk : Keeps b0 s) : Keeps b0 (State.errorRelease s p owner) := by
  unfold State.errorRelease
  repeat' first
    | with_reducible assumption
    | (intro x; refine @Keeps.cut (Keeps b0 x) _ ?_ ?_ <;> [subst x; (intro _; clear_value x)])
    | (intro x; clear_value x) | lift_lets -underBinder
    | with_reducible first
        | apply State.releaseEvent_keeps | apply State.setTask_keeps | apply State.setFld_keeps
        | (refine Keeps.ite (fun _ => ?_) (fun _ => ?_))
    | split

theorem State.stationAbsent_keeps {b0 : State} (s : State) (p : Program) (u : Nat) (d : StationDef) (cause : Nat) (hk : Keeps b0 s) : Keeps b0 (State.stationAbsent s p u d cause) := by
  unfold State.stationAbsent
  repeat' first
    | with_reducible assumption
    | (intro x; refine @Keeps.cut (Keeps b0 x) _ ?_ ?_ <;> [subst x; (intro _; clear_value x)])
    | (intro x; clear_value x) | lift_lets -underBinder
    | with_reducible first
        | apply State.setStation_keeps | apply State.showAbsent_keeps | apply State.flag_keeps
        | apply State.strobe_keeps | apply State.refreshInputs_keeps | apply State.errorRelease_keeps
        | (refine Keeps.ite (fun _ => ?_) (fun _ => ?_))

theorem execStationReplyTimeout_keeps {b0 : State} (u : Nat) (s : State) (hk : Keeps b0 s) : KeepsE b0 (execStationReplyTimeout u s) := by
  unfold execStationReplyTimeout
  repeat' first
    | with_reducible assumption | (intro x; clear_value x) | lift_lets -underBinder
    | with_reducible first
        | apply KeepsE.next | refine State.whenVamp_keeps _ _ ?_ ?_ | apply State.setStation_keeps
        | apply State.stationAbsent_keeps | (refine Keeps.ite (fun _ => ?_) (fun _ => ?_))
    | split

theorem State.stationsOff_keeps {b0 : State} (s : State) (n : Nat) (hk : Keeps b0 s) : Keeps b0 (State.stationsOff s n) := by
  unfold State.stationsOff
  repeat' first
    | with_reducible assumption | lift_lets -underBinder
    | with_reducible first
        | apply State.stationAbsent_keeps | refine Keeps.foldl (fun _ _ _ => ?_) ?_
        | refine Keeps.foldl1 (fun _ _ _ => ?_) ?_ | (refine Keeps.ite (fun _ => ?_) (fun _ => ?_))
    | split

theorem State.stationEnable_keeps {b0 : State} (s : State) (p : Program) (u : Nat) (on : Bool) (hk : Keeps b0 s) : Keeps b0 (State.stationEnable s p u on) := by
  unfold State.stationEnable
  repeat' first
    | with_reducible assumption | (intro x; clear_value x) | lift_lets -underBinder
    | with_reducible first
        | apply State.setStation_keeps | apply State.showAbsent_keeps | apply State.refreshInputs_keeps
        | (refine Keeps.ite (fun _ => ?_) (fun _ => ?_))

theorem State.startStations_keeps {b0 : State} (s : State) (p : Program) (old : Nat → StationDef → Option Station) (hk : Keeps b0 s) : Keeps b0 (State.startStations s p old) := by
  unfold State.startStations
  repeat' first
    | with_reducible assumption
    | (intro x; refine @Keeps.cut (Keeps b0 x) _ ?_ ?_ <;> [subst x; (intro _; clear_value x)])
    | (intro x; clear_value x) | lift_lets -underBinder
    | with_reducible first
        | apply State.wr_keeps | apply State.setStation_keeps | apply State.showAbsent_keeps
        | refine Keeps.foldl (fun _ _ _ => ?_) ?_ | refine Keeps.foldl1 (fun _ _ _ => ?_) ?_
        | (refine Keeps.upd ?_; assumption)

theorem State.setChan_keeps {b0 : State} (s : State) (n : Nat) (c : DmaChan) (hk : Keeps b0 s) : Keeps b0 (State.setChan s n c) := by
  unfold State.setChan
  repeat' first
    | with_reducible assumption | (intro x; clear_value x) | lift_lets -underBinder
    | with_reducible first
        | (refine Keeps.upd ?_; assumption)

theorem State.setChanState_keeps {b0 : State} (s : State) (n st : Nat) (hk : Keeps b0 s) : Keeps b0 (State.setChanState s n st) := by
  unfold State.setChanState
  repeat' first
    | with_reducible assumption
    | with_reducible first
        | apply State.setFld_keeps | apply State.setBit_keeps

theorem State.dmaRecord_keeps {b0 : State} (s : State) (n status : Nat) (d : List Word) (arrived irq : Bool) (hk : Keeps b0 s) : Keeps b0 (State.dmaRecord s n status d arrived irq) := by
  unfold State.dmaRecord
  repeat' first
    | with_reducible assumption
    | (intro x; refine @Keeps.cut (Keeps b0 x) _ ?_ ?_ <;> [subst x; (intro _; clear_value x)])
    | (intro x; clear_value x) | lift_lets -underBinder
    | with_reducible first
        | apply State.putBytes_keeps | apply State.setFld_keeps | apply State.setChan_keeps
        | apply State.setBit_keeps | apply State.strobe_keeps | (refine Keeps.ite (fun _ => ?_) (fun _ => ?_))

theorem State.dmaRecovered_keeps {b0 : State} (s : State) (n : Nat) (hk : Keeps b0 s) : Keeps b0 (State.dmaRecovered s n) := by
  unfold State.dmaRecovered
  repeat' first
    | with_reducible assumption
    | (intro x; refine @Keeps.cut (Keeps b0 x) _ ?_ ?_ <;> [subst x; (intro _; clear_value x)])
    | (intro x; clear_value x) | lift_lets -underBinder
    | with_reducible first
        | apply State.setFld_keeps | (refine Keeps.ite (fun _ => ?_) (fun _ => ?_))
        | (refine Keeps.upd ?_; assumption)

theorem State.dmaStop_keeps {b0 : State} (s : State) (n status : Nat) (hk : Keeps b0 s) : Keeps b0 (State.dmaStop s n status) := by
  unfold State.dmaStop
  repeat' first
    | with_reducible assumption
    | (intro x; refine @Keeps.cut (Keeps b0 x) _ ?_ ?_ <;> [subst x; (intro _; clear_value x)])
    | (intro x; clear_value x) | lift_lets -underBinder
    | with_reducible first
        | apply State.dmaRecord_keeps | apply State.setFld_keeps | apply State.setChan_keeps
        | apply State.setChanState_keeps | (refine Keeps.ite (fun _ => ?_) (fun _ => ?_))
    | split

theorem State.dmaBusError_keeps {b0 : State} (s : State) (n addr : Nat) (write noResponse : Bool) (hk : Keeps b0 s) : Keeps b0 (State.dmaBusError s n addr write noResponse) := by
  unfold State.dmaBusError
  repeat' first
    | with_reducible assumption
    | (intro x; refine @Keeps.cut (Keeps b0 x) _ ?_ ?_ <;> [subst x; (intro _; clear_value x)])
    | (intro x; clear_value x) | lift_lets -underBinder
    | with_reducible first
        | apply State.dmaStop_keeps | apply State.wr_keeps | apply State.flag_keeps | apply State.setFld_keeps
        | apply State.strobe_keeps | refine Keeps.foldl (fun _ _ _ => ?_) ?_
        | refine Keeps.foldl1 (fun _ _ _ => ?_) ?_ | (refine Keeps.ite (fun _ => ?_) (fun _ => ?_))
        | (refine Keeps.upd ?_; assumption)

theorem State.dmaFetch_keeps {b0 : State} {n : Nat} : ∀ {fuel : Nat} {s : State}, Keeps b0 s → Keeps b0 (s.dmaFetch n fuel)
  | 0, _, h => h
  | fuel + 1, s, h => by
    unfold State.dmaFetch
    repeat' with_reducible first
        | assumption | apply State.dmaFetch_keeps (fuel := fuel) | apply State.setChan_keeps | apply State.dmaBusError_keeps
        | apply State.dmaStop_keeps | apply State.setChanState_keeps | apply State.setFld_keeps | apply State.flag_keeps
        | apply State.strobe_keeps  | (intro x; refine @Keeps.cut (Keeps b0 x) _ ?_ ?_ <;> [subst x; (intro _; clear_value x)])
        
        | (intro x; clear_value x) | lift_lets | split

theorem State.dmaFetchNext_keeps {b0 : State} (s : State) (n : Nat) (hk : Keeps b0 s) : Keeps b0 (State.dmaFetchNext s n) := by
  unfold State.dmaFetchNext
  repeat' first
    | with_reducible assumption
    | with_reducible first
        | apply State.dmaFetch_keeps

theorem State.dmaAlloc_keeps {b0 : State} (s : State) (n : Nat) (hk : Keeps b0 s) : Keeps b0 (State.dmaAlloc s n) := by
  unfold State.dmaAlloc
  repeat' first
    | with_reducible assumption
    | (intro x; refine @Keeps.cut (Keeps b0 x) _ ?_ ?_ <;> [subst x; (intro _; clear_value x)])
    | (intro x; clear_value x) | lift_lets -underBinder
    | with_reducible first
        | apply hx | apply State.setBit_keeps | apply State.wr_keeps | apply State.rewriteAllocMap_keeps
        | (refine Keeps.ite (fun _ => ?_) (fun _ => ?_)) | (refine Keeps.upd ?_; assumption)
    | split

theorem State.dmaFree_keeps {b0 : State} (s : State) (n : Nat) (hk : Keeps b0 s) : Keeps b0 (State.dmaFree s n) := by
  unfold State.dmaFree
  repeat' first
    | with_reducible assumption
    | (intro x; refine @Keeps.cut (Keeps b0 x) _ ?_ ?_ <;> [subst x; (intro _; clear_value x)])
    | (intro x; clear_value x) | lift_lets -underBinder
    | with_reducible first
        | apply State.wr_keeps | apply State.setBit_keeps | apply State.rewriteAllocMap_keeps
        | (refine Keeps.ite (fun _ => ?_) (fun _ => ?_)) | (refine Keeps.upd ?_; assumption)

theorem State.dmaStart_keeps {b0 : State} (s : State) (n : Nat) (hk : Keeps b0 s) : Keeps b0 (State.dmaStart s n) := by
  unfold State.dmaStart
  repeat' first
    | with_reducible assumption
    | (intro x; refine @Keeps.cut (Keeps b0 x) _ ?_ ?_ <;> [subst x; (intro _; clear_value x)])
    | (intro x; clear_value x) | lift_lets -underBinder
    | with_reducible first
        | apply State.setFld_keeps | apply State.setChanState_keeps | apply State.setChan_keeps
        | apply State.dmaRecovered_keeps | apply State.dmaFetchNext_keeps
        | (refine Keeps.ite (fun _ => ?_) (fun _ => ?_))

theorem State.dmaKick_keeps {b0 : State} (s : State) (n : Nat) (hk : Keeps b0 s) : Keeps b0 (State.dmaKick s n) := by
  unfold State.dmaKick
  repeat' first
    | with_reducible assumption | (intro x; clear_value x) | lift_lets -underBinder
    | with_reducible first
        | apply State.dmaFetchNext_keeps | apply State.setChan_keeps
        | (refine Keeps.ite (fun _ => ?_) (fun _ => ?_))

theorem State.dmaAbort_keeps {b0 : State} (s : State) (n : Nat) (hk : Keeps b0 s) : Keeps b0 (State.dmaAbort s n) := by
  unfold State.dmaAbort
  repeat' first
    | with_reducible assumption | (intro x; clear_value x) | lift_lets -underBinder
    | with_reducible first
        | apply State.setChan_keeps | apply State.dmaStop_keeps | (refine Keeps.ite (fun _ => ?_) (fun _ => ?_))

theorem State.dmaDisable_keeps {b0 : State} (s : State) (n : Nat) (hk : Keeps b0 s) : Keeps b0 (State.dmaDisable s n) := by
  unfold State.dmaDisable
  repeat' first
    | with_reducible assumption
    | (intro x; refine @Keeps.cut (Keeps b0 x) _ ?_ ?_ <;> [subst x; (intro _; clear_value x)])
    | lift_lets -underBinder
    | with_reducible first
        | apply State.setFld_keeps | apply State.setChanState_keeps | apply State.setChan_keeps
        | apply State.dmaRecovered_keeps

theorem State.dmaControl_keeps {b0 : State} (s : State) (n : Nat) (who : Requester) (f : State → State) (hf : ∀ t, Keeps b0 t → Keeps b0 (f t)) (hk : Keeps b0 s) : Keeps b0 (State.dmaControl s n who f) := by
  unfold State.dmaControl
  repeat' first
    | with_reducible assumption
    | with_reducible first
        | apply hf | apply State.emit_keeps | (refine Keeps.ite (fun _ => ?_) (fun _ => ?_))

theorem execDmaAlloc_keeps {b0 : State} (n : Nat) (who : Requester) (s : State) (hk : Keeps b0 s) : KeepsE b0 (execDmaAlloc n who s) := by
  unfold execDmaAlloc
  repeat' first
    | with_reducible assumption
    | with_reducible first
        | apply KeepsE.next | refine State.whenVamp_keeps _ _ ?_ ?_
        | refine State.dmaControl_keeps _ _ _ _ (fun _ _ => ?_) ?_ | apply State.dmaAlloc_keeps

theorem execDmaFree_keeps {b0 : State} (n : Nat) (who : Requester) (s : State) (hk : Keeps b0 s) : KeepsE b0 (execDmaFree n who s) := by
  unfold execDmaFree
  repeat' first
    | with_reducible assumption
    | with_reducible first
        | apply KeepsE.next | refine State.whenVamp_keeps _ _ ?_ ?_
        | refine State.dmaControl_keeps _ _ _ _ (fun _ _ => ?_) ?_ | apply State.dmaFree_keeps

theorem execDmaStart_keeps {b0 : State} (n : Nat) (who : Requester) (s : State) (hk : Keeps b0 s) : KeepsE b0 (execDmaStart n who s) := by
  unfold execDmaStart
  repeat' first
    | with_reducible assumption
    | with_reducible first
        | apply KeepsE.next | refine State.whenVamp_keeps _ _ ?_ ?_
        | refine State.dmaControl_keeps _ _ _ _ (fun _ _ => ?_) ?_ | apply State.dmaStart_keeps

theorem execDmaKick_keeps {b0 : State} (n : Nat) (who : Requester) (s : State) (hk : Keeps b0 s) : KeepsE b0 (execDmaKick n who s) := by
  unfold execDmaKick
  repeat' first
    | with_reducible assumption
    | with_reducible first
        | apply KeepsE.next | refine State.whenVamp_keeps _ _ ?_ ?_
        | refine State.dmaControl_keeps _ _ _ _ (fun _ _ => ?_) ?_ | apply State.dmaKick_keeps

theorem execDmaAbort_keeps {b0 : State} (n : Nat) (who : Requester) (s : State) (hk : Keeps b0 s) : KeepsE b0 (execDmaAbort n who s) := by
  unfold execDmaAbort
  repeat' first
    | with_reducible assumption
    | with_reducible first
        | apply KeepsE.next | refine State.whenVamp_keeps _ _ ?_ ?_
        | refine State.dmaControl_keeps _ _ _ _ (fun _ _ => ?_) ?_ | apply State.dmaAbort_keeps

theorem execDmaDisable_keeps {b0 : State} (n : Nat) (who : Requester) (s : State) (hk : Keeps b0 s) : KeepsE b0 (execDmaDisable n who s) := by
  unfold execDmaDisable
  repeat' first
    | with_reducible assumption
    | with_reducible first
        | apply KeepsE.next | refine State.whenVamp_keeps _ _ ?_ ?_
        | refine State.dmaControl_keeps _ _ _ _ (fun _ _ => ?_) ?_ | apply State.dmaDisable_keeps

theorem State.dmaSwreq_keeps {b0 : State} (s : State) (bits : Word) (hk : Keeps b0 s) : Keeps b0 (State.dmaSwreq s bits) := by
  unfold State.dmaSwreq
  repeat' first
    | with_reducible assumption
    | with_reducible first
        | apply State.dmaRequest_keeps | refine Keeps.foldl (fun _ _ _ => ?_) ?_
        | refine Keeps.foldl1 (fun _ _ _ => ?_) ?_ | (refine Keeps.ite (fun _ => ?_) (fun _ => ?_))

theorem execDmaSwreq_keeps {b0 : State} (bits : Word) (s : State) (hk : Keeps b0 s) : KeepsE b0 (execDmaSwreq bits s) := by
  unfold execDmaSwreq
  repeat' first
    | with_reducible assumption
    | with_reducible first
        | apply KeepsE.next | refine State.whenVamp_keeps _ _ ?_ ?_ | apply State.dmaSwreq_keeps

theorem execDmaRequestStrobe_keeps {b0 : State} (line : Nat) (s : State) (hk : Keeps b0 s) : KeepsE b0 (execDmaRequestStrobe line s) := by
  unfold execDmaRequestStrobe
  repeat' first
    | with_reducible assumption
    | with_reducible first
        | apply KeepsE.next | refine State.whenVamp_keeps _ _ ?_ ?_ | apply State.dmaRequest_keeps
        | (refine Keeps.ite (fun _ => ?_) (fun _ => ?_))

theorem State.dmaComplete_keeps {b0 : State} (s : State) (n : Nat) (hk : Keeps b0 s) : Keeps b0 (State.dmaComplete s n) := by
  unfold State.dmaComplete
  repeat' first
    | with_reducible assumption
    | (intro x; refine @Keeps.cut (Keeps b0 x) _ ?_ ?_ <;> [subst x; (intro _; clear_value x)])
    | (intro x; clear_value x) | lift_lets -underBinder
    | with_reducible first
        | apply State.setChanState_keeps | apply State.dmaRecord_keeps | apply State.putWord_keeps
        | apply State.strobe_keeps | apply State.setChan_keeps | apply State.dmaFetchNext_keeps
        | (refine Keeps.ite (fun _ => ?_) (fun _ => ?_))
    | split

theorem execDmaDescriptorComplete_keeps {b0 : State} (n : Nat) (s : State) (hk : Keeps b0 s) : KeepsE b0 (execDmaDescriptorComplete n s) := by
  unfold execDmaDescriptorComplete
  repeat' first
    | with_reducible assumption
    | with_reducible first
        | apply KeepsE.next | refine State.whenVamp_keeps _ _ ?_ ?_ | apply State.dmaComplete_keeps
        | (refine Keeps.ite (fun _ => ?_) (fun _ => ?_))

theorem State.dmaCqTail_keeps {b0 : State} (s : State) (n v : Nat) (hk : Keeps b0 s) : Keeps b0 (State.dmaCqTail s n v) := by
  unfold State.dmaCqTail
  repeat' first
    | with_reducible assumption
    | (intro x; refine @Keeps.cut (Keeps b0 x) _ ?_ ?_ <;> [subst x; (intro _; clear_value x)])
    | (intro x; clear_value x) | lift_lets -underBinder
    | with_reducible first
        | apply State.setFld_keeps | apply State.setChan_keeps | apply State.dmaComplete_keeps
        | (refine Keeps.ite (fun _ => ?_) (fun _ => ?_))

theorem execDmaCqTailWrite_keeps {b0 : State} (n : Nat) (value : Word) (who : Requester) (s : State) (hk : Keeps b0 s) : KeepsE b0 (execDmaCqTailWrite n value who s) := by
  unfold execDmaCqTailWrite
  repeat' first
    | with_reducible assumption
    | with_reducible first
        | apply KeepsE.next | refine State.whenVamp_keeps _ _ ?_ ?_
        | refine State.dmaControl_keeps _ _ _ _ (fun _ _ => ?_) ?_ | apply State.dmaCqTail_keeps

theorem execDmaStallLimit_keeps {b0 : State} (n : Nat) (s : State) (hk : Keeps b0 s) : KeepsE b0 (execDmaStallLimit n s) := by
  unfold execDmaStallLimit
  repeat' first
    | with_reducible assumption
    | (intro x; refine @Keeps.cut (Keeps b0 x) _ ?_ ?_ <;> [subst x; (intro _; clear_value x)])
    | (intro x; clear_value x) | lift_lets -underBinder
    | with_reducible first
        | apply KeepsE.next | refine State.whenVamp_keeps _ _ ?_ ?_ | apply State.setChan_keeps
        | apply State.flag_keeps | apply State.strobe_keeps | (refine Keeps.ite (fun _ => ?_) (fun _ => ?_))
    | split

theorem execDmaBusError_keeps {b0 : State} (n : Nat) (addr : Word) (write noResponse : Bool) (s : State) (hk : Keeps b0 s) : KeepsE b0 (execDmaBusError n addr write noResponse s) := by
  unfold execDmaBusError
  repeat' first
    | with_reducible assumption
    | with_reducible first
        | apply KeepsE.next | refine State.whenVamp_keeps _ _ ?_ ?_ | apply State.dmaBusError_keeps
        | (refine Keeps.ite (fun _ => ?_) (fun _ => ?_))

theorem execDmaFirmwareRestart_keeps {b0 : State} (s : State) (hk : Keeps b0 s) : KeepsE b0 (execDmaFirmwareRestart s) := by
  unfold execDmaFirmwareRestart
  repeat' first
    | with_reducible assumption
    | with_reducible first
        | apply KeepsE.next | refine State.whenVamp_keeps _ _ ?_ ?_ | apply State.dmaStart_keeps
        | refine Keeps.foldl (fun _ _ _ => ?_) ?_

theorem execSweepInstantFix_keeps {b0 : State} (s : State) (hk : Keeps b0 s) : KeepsE b0 (execSweepInstantFix s) := by
  unfold execSweepInstantFix
  repeat' first
    | with_reducible assumption | (intro x; clear_value x) | lift_lets -underBinder
    | with_reducible first
        | apply KeepsE.next | refine State.whenVamp_keeps _ _ ?_ ?_ | (refine Keeps.ite (fun _ => ?_) (fun _ => ?_))
        | (refine Keeps.upd ?_; assumption)
    | split

theorem State.sendTrain_keeps {b0 : State} (s : State) (port id : Nat) (hk : Keeps b0 s) : Keeps b0 (State.sendTrain s port id) := by
  unfold State.sendTrain
  repeat' first
    | with_reducible assumption | lift_lets -underBinder
    | with_reducible first
        | apply State.sendFrom_keeps | (refine Keeps.ite (fun _ => ?_) (fun _ => ?_))
    | split

theorem execSampleAtLaunch_keeps {b0 : State} (s : State) (hk : Keeps b0 s) : KeepsE b0 (execSampleAtLaunch s) := by
  unfold execSampleAtLaunch
  repeat' first
    | with_reducible assumption
    | (intro x; refine @Keeps.cut (Keeps b0 x) _ ?_ ?_ <;> [subst x; (intro _; clear_value x)])
    | (intro x; clear_value x) | lift_lets -underBinder
    | with_reducible first
        | apply KeepsE.next | refine State.whenVamp_keeps _ _ ?_ ?_ | apply State.sendBoth_keeps
        | apply State.sendTrain_keeps | (refine Keeps.ite (fun _ => ?_) (fun _ => ?_))
        | (refine Keeps.upd ?_; assumption)
    | split

theorem execSampleInstant_keeps {b0 : State} (s : State) (hk : Keeps b0 s) : KeepsE b0 (execSampleInstant s) := by
  unfold execSampleInstant
  repeat' first
    | with_reducible assumption
    | (intro x; refine @Keeps.cut (Keeps b0 x) _ ?_ ?_ <;> [subst x; (intro _; clear_value x)])
    | (intro x; clear_value x) | lift_lets -underBinder
    | with_reducible first
        | apply KeepsE.next | refine State.whenVamp_keeps _ _ ?_ ?_ | apply State.wr_keeps
        | apply State.setFld_keeps | apply State.burstAbort_keeps | (refine Keeps.ite (fun _ => ?_) (fun _ => ?_))
        | (refine Keeps.upd ?_; assumption)
    | split

theorem State.recordEvents_keeps {b0 : State} (s : State) (r : OpenRecord) (c : Closing) (hk : Keeps b0 s) : Keeps b0 (State.recordEvents s r c) := by
  unfold State.recordEvents
  repeat' first
    | with_reducible assumption
    | (intro x; refine @Keeps.cut (Keeps b0 x) _ ?_ ?_ <;> [subst x; (intro _; clear_value x)])
    | (intro x; clear_value x) | lift_lets -underBinder
    | with_reducible first
        | apply State.flag_keeps | apply State.incFld_keeps | apply State.strobe_keeps
        | (refine Keeps.ite (fun _ => ?_) (fun _ => ?_))
    | split

theorem State.writeRecord_keeps {b0 : State} (s : State) (r : OpenRecord) (hk : Keeps b0 s) : Keeps b0 (State.writeRecord s r) := by
  unfold State.writeRecord
  repeat' first
    | with_reducible assumption
    | (intro x; refine @Keeps.cut (Keeps b0 x) _ ?_ ?_ <;> [subst x; (intro _; clear_value x)])
    | (intro x; clear_value x) | lift_lets -underBinder
    | with_reducible first
        | apply State.putBytes_keeps | apply State.setFld_keeps | apply State.wr_keeps
        | apply State.recordEvents_keeps | (refine Keeps.ite (fun _ => ?_) (fun _ => ?_))
        | (refine Keeps.upd ?_; assumption)

theorem State.applyRoute_keeps {b0 : State} (s : State) (viaB : List Nat) (hk : Keeps b0 s) : Keeps b0 (State.applyRoute s viaB) := by
  unfold State.applyRoute
  repeat' first
    | with_reducible assumption
    | (intro x; refine @Keeps.cut (Keeps b0 x) _ ?_ ?_ <;> [subst x; (intro _; clear_value x)])
    | (intro x; clear_value x) | lift_lets -underBinder
    | with_reducible first
        | apply State.setBit_keeps | apply State.wr_keeps | apply State.strobe_keeps
        | refine Keeps.foldl (fun _ _ _ => ?_) ?_ | refine Keeps.foldl1 (fun _ _ _ => ?_) ?_
        | (refine Keeps.ite (fun _ => ?_) (fun _ => ?_))

theorem State.applyComp_keeps {b0 : State} (s : State) (n ca cb : Nat) (hk : Keeps b0 s) : Keeps b0 (State.applyComp s n ca cb) := by
  unfold State.applyComp
  repeat' first
    | with_reducible assumption
    | with_reducible first
        | apply State.wr_keeps | apply State.sendNode_keeps

theorem State.chainBoundary_keeps {b0 : State} (s : State) (hk : Keeps b0 s) : Keeps b0 (State.chainBoundary s) := by
  unfold State.chainBoundary
  repeat' first
    | with_reducible assumption
    | (intro x; refine @Keeps.cut (Keeps b0 x) _ ?_ ?_ <;> [subst x; (intro _; clear_value x)])
    | (intro x; clear_value x) | lift_lets -underBinder
    | with_reducible first
        | apply State.setFld_keeps | apply State.applyComp_keeps | apply State.applyRoute_keeps
        | refine Keeps.foldl (fun _ _ _ => ?_) ?_ | refine Keeps.foldl1 (fun _ _ _ => ?_) ?_
        | (refine Keeps.ite (fun _ => ?_) (fun _ => ?_)) | (refine Keeps.upd ?_; assumption)
    | split

theorem State.burstCurrents_keeps {b0 : State} (s : State) (hk : Keeps b0 s) : Keeps b0 (State.burstCurrents s) := by
  unfold State.burstCurrents
  repeat' first
    | with_reducible assumption | lift_lets -underBinder
    | with_reducible first
        | apply State.burstAbort_keeps | (refine Keeps.ite (fun _ => ?_) (fun _ => ?_))
    | split

theorem State.secondStep_keeps {b0 : State} (s : State) (w : CurrentWindow) (hk : Keeps b0 s) : Keeps b0 (State.secondStep s w) := by
  unfold State.secondStep
  repeat' first
    | with_reducible assumption | (intro x; clear_value x) | lift_lets -underBinder
    | with_reducible first
        | (refine Keeps.ite (fun _ => ?_) (fun _ => ?_)) | (refine Keeps.upd ?_; assumption)

theorem execCurrentWindow1ms_keeps {b0 : State} (s : State) (hk : Keeps b0 s) : KeepsE b0 (execCurrentWindow1ms s) := by
  unfold execCurrentWindow1ms
  repeat' first
    | with_reducible assumption
    | (intro x; refine @Keeps.cut (Keeps b0 x) _ ?_ ?_ <;> [subst x; (intro _; clear_value x)])
    | (intro x; clear_value x) | lift_lets -underBinder
    | with_reducible first
        | apply KeepsE.next | refine State.whenVamp_keeps _ _ ?_ ?_ | apply State.secondStep_keeps
        | apply State.burstCurrents_keeps | (refine Keeps.ite (fun _ => ?_) (fun _ => ?_))
        | (refine Keeps.upd ?_; assumption)

theorem execRateStepDown_keeps {b0 : State} (s : State) (hk : Keeps b0 s) : KeepsE b0 (execRateStepDown s) := by
  unfold execRateStepDown
  repeat' first
    | with_reducible assumption
    | (intro x; refine @Keeps.cut (Keeps b0 x) _ ?_ ?_ <;> [subst x; (intro _; clear_value x)])
    | (intro x; clear_value x) | lift_lets -underBinder
    | with_reducible first
        | apply KeepsE.next | refine State.whenVamp_keeps _ _ ?_ ?_ | apply State.setRate_keeps
        | (refine Keeps.ite (fun _ => ?_) (fun _ => ?_)) | (refine Keeps.upd ?_; assumption)
    | split

theorem execCurrentWindow100us_keeps {b0 : State} (s : State) (hk : Keeps b0 s) : KeepsE b0 (execCurrentWindow100us s) := by
  unfold execCurrentWindow100us
  repeat' first
    | with_reducible assumption
    | (intro x; refine @Keeps.cut (Keeps b0 x) _ ?_ ?_ <;> [subst x; (intro _; clear_value x)])
    | (intro x; clear_value x) | lift_lets -underBinder
    | with_reducible first
        | apply KeepsE.next | refine State.whenVamp_keeps _ _ ?_ ?_ | apply State.fullRateFor_keeps
        | (refine Keeps.ite (fun _ => ?_) (fun _ => ?_)) | (refine Keeps.upd ?_; assumption)

theorem execBurstCaptureLaunch_keeps {b0 : State} (s : State) (hk : Keeps b0 s) : KeepsE b0 (execBurstCaptureLaunch s) := by
  unfold execBurstCaptureLaunch
  repeat' first
    | with_reducible assumption
    | (intro x; refine @Keeps.cut (Keeps b0 x) _ ?_ ?_ <;> [subst x; (intro _; clear_value x)])
    | (intro x; clear_value x) | lift_lets -underBinder
    | with_reducible first
        | apply KeepsE.next | refine State.whenVamp_keeps _ _ ?_ ?_ | apply State.sendBoth_keeps
        | apply State.setRate_keeps | apply State.setBurstState_keeps
        | (refine Keeps.ite (fun _ => ?_) (fun _ => ?_)) | (refine Keeps.upd ?_; assumption)
    | split

theorem State.judgePoint_keeps {b0 : State} (s : State) (hk : Keeps b0 s) : Keeps b0 (State.judgePoint s) := by
  unfold State.judgePoint
  repeat' first
    | with_reducible assumption
    | (intro x; refine @Keeps.cut (Keeps b0 x) _ ?_ ?_ <;> [subst x; (intro _; clear_value x)])
    | (intro x; clear_value x) | lift_lets -underBinder
    | with_reducible first
        | apply State.setFld_keeps | (refine Keeps.ite (fun _ => ?_) (fun _ => ?_))
        | (refine Keeps.upd ?_; assumption)
    | split

theorem State.judgePoints_keeps {b0 : State} : ∀ {n : Nat} {s : State}, Keeps b0 s → Keeps b0 (s.judgePoints n)
  | 0, _, h => h
  | n + 1, s, h => by
    unfold State.judgePoints
    exact State.judgePoints_keeps (n := n) (State.judgePoint_keeps _ h)

theorem State.readNext_keeps {b0 : State} (s : State) (port : Nat) (hk : Keeps b0 s) : Keeps b0 (State.readNext s port) := by
  unfold State.readNext
  repeat' first
    | with_reducible assumption | lift_lets -underBinder
    | with_reducible first
        | apply State.complete_keeps | apply State.sendNode_keeps | (refine Keeps.ite (fun _ => ?_) (fun _ => ?_))
    | split

theorem State.burstSkip_keeps {b0 : State} (s : State) (n port input : Nat) (hk : Keeps b0 s) : Keeps b0 (State.burstSkip s n port input) := by
  unfold State.burstSkip
  repeat' first
    | with_reducible assumption | (intro x; clear_value x) | lift_lets -underBinder
    | with_reducible first
        | apply State.readNext_keeps | (refine Keeps.ite (fun _ => ?_) (fun _ => ?_))
        | (refine Keeps.upd ?_; assumption)
    | split

theorem State.openBlocks_keeps {b0 : State} (s : State) (blocks : List BurstInput) (hk : Keeps b0 s) : Keeps b0 (State.openBlocks s blocks) := by
  unfold State.openBlocks
  repeat' first
    | with_reducible assumption
    | with_reducible first
        | apply State.putBytes_keeps | refine Keeps.foldl (fun _ _ _ => ?_) ?_

theorem execBurstCaptureEnd_keeps {b0 : State} (s : State) (hk : Keeps b0 s) : KeepsE b0 (execBurstCaptureEnd s) := by
  unfold execBurstCaptureEnd
  repeat' first
    | with_reducible assumption
    | (intro x; refine @Keeps.cut (Keeps b0 x) _ ?_ ?_ <;> [subst x; (intro _; clear_value x)])
    | (intro x; clear_value x) | lift_lets -underBinder
    | with_reducible first
        | apply KeepsE.next | refine State.whenVamp_keeps _ _ ?_ ?_ | apply State.burstAbort_keeps
        | apply State.judgePoints_keeps | apply State.setRate_keeps | apply State.burstEnd_keeps
        | apply State.pertOff_keeps | apply State.openBlocks_keeps | apply State.burstHeader_keeps
        | apply State.setBurstState_keeps | apply State.sendNode_keeps | refine Keeps.foldl (fun _ _ _ => ?_) ?_
        | refine Keeps.foldl1 (fun _ _ _ => ?_) ?_ | (refine Keeps.ite (fun _ => ?_) (fun _ => ?_))
        | (refine Keeps.upd ?_; assumption)
    | split

theorem State.burstStatus_keeps {b0 : State} (s : State) (n st : Nat) (hk : Keeps b0 s) : Keeps b0 (State.burstStatus s n st) := by
  unfold State.burstStatus
  repeat' first
    | with_reducible assumption
    | (intro x; refine @Keeps.cut (Keeps b0 x) _ ?_ ?_ <;> [subst x; (intro _; clear_value x)])
    | (intro x; clear_value x) | lift_lets -underBinder
    | with_reducible first
        | apply State.complete_keeps | apply State.strobe_keeps | apply State.readNext_keeps
        | (refine Keeps.ite (fun _ => ?_) (fun _ => ?_)) | (refine Keeps.upd ?_; assumption)
    | split

theorem State.burstPoints_keeps {b0 : State} (s : State) (n port : Nat) (p : Bytes) (hk : Keeps b0 s) : Keeps b0 (State.burstPoints s n port p) := by
  unfold State.burstPoints
  repeat' first
    | with_reducible assumption
    | (intro x; refine @Keeps.cut (Keeps b0 x) _ ?_ ?_ <;> [subst x; (intro _; clear_value x)])
    | (intro x; clear_value x) | lift_lets -underBinder
    | with_reducible first
        | apply State.putBytes_keeps | apply State.readNext_keeps | (refine Keeps.ite (fun _ => ?_) (fun _ => ?_))
        | (refine Keeps.upd ?_; assumption)
    | split

theorem execBurstReadoutDone_keeps {b0 : State} (s : State) (hk : Keeps b0 s) : KeepsE b0 (execBurstReadoutDone s) := by
  unfold execBurstReadoutDone
  repeat' first
    | with_reducible assumption
    | with_reducible first
        | apply KeepsE.next | refine State.whenVamp_keeps _ _ ?_ ?_ | apply State.setBurstState_keeps
        | (refine Keeps.ite (fun _ => ?_) (fun _ => ?_))

theorem State.formLimits_keeps {b0 : State} (s : State) (blocks : List Bytes) (hk : Keeps b0 s) : Keeps b0 (State.formLimits s blocks) := by
  unfold State.formLimits
  repeat' first
    | with_reducible assumption | (intro x; clear_value x) | lift_lets -underBinder
    | with_reducible first
        | (refine Keeps.upd ?_; assumption)

theorem State.sendFrames_keeps {b0 : State} (s : State) (kind seq : Nat) (bytes : Bytes) (hk : Keeps b0 s) : Keeps b0 (State.sendFrames s kind seq bytes) := by
  unfold State.sendFrames
  repeat' first
    | with_reducible assumption | (intro x; clear_value x) | lift_lets -underBinder
    | with_reducible first
        | apply State.emit_keeps | refine Keeps.foldl (fun _ _ _ => ?_) ?_

theorem State.sendLearned_keeps {b0 : State} (s : State) (record : Bytes) (hk : Keeps b0 s) : Keeps b0 (State.sendLearned s record) := by
  unfold State.sendLearned
  repeat' first
    | with_reducible assumption
    | (intro x; refine @Keeps.cut (Keeps b0 x) _ ?_ ?_ <;> [subst x; (intro _; clear_value x)])
    | (intro x; clear_value x) | lift_lets -underBinder
    | with_reducible first
        | apply State.sendFrames_keeps | apply State.strobe_keeps | (refine Keeps.ite (fun _ => ?_) (fun _ => ?_))
        | (refine Keeps.upd ?_; assumption)

theorem State.journalReport_keeps {b0 : State} (s : State) (cause result seq : Nat) (hk : Keeps b0 s) : Keeps b0 (State.journalReport s cause result seq) := by
  unfold State.journalReport
  repeat' first
    | with_reducible assumption
    | (intro x; refine @Keeps.cut (Keeps b0 x) _ ?_ ?_ <;> [subst x; (intro _; clear_value x)])
    | (intro x; clear_value x) | lift_lets -underBinder
    | with_reducible first
        | apply State.strobe_keeps | apply State.completeAll_keeps | apply State.recTrigger_keeps
        | (refine Keeps.ite (fun _ => ?_) (fun _ => ?_)) | (refine Keeps.upd ?_; assumption)

theorem State.journalCopy_keeps {b0 : State} (s : State) (cause : Nat) (hk : Keeps b0 s) : Keeps b0 (State.journalCopy s cause) := by
  unfold State.journalCopy
  repeat' first
    | with_reducible assumption
    | (intro x; refine @Keeps.cut (Keeps b0 x) _ ?_ ?_ <;> [subst x; (intro _; clear_value x)])
    | (intro x; clear_value x) | lift_lets -underBinder
    | with_reducible first
        | apply State.insoleStart_keeps | apply State.putBytes_keeps | (refine Keeps.upd ?_; assumption)

theorem State.journalStart_keeps {b0 : State} (s : State) (cause : Nat) (hk : Keeps b0 s) : Keeps b0 (State.journalStart s cause) := by
  unfold State.journalStart
  repeat' first
    | with_reducible assumption
    | (intro x; refine @Keeps.cut (Keeps b0 x) _ ?_ ?_ <;> [subst x; (intro _; clear_value x)])
    | (intro x; clear_value x) | lift_lets -underBinder
    | with_reducible first
        | apply State.journalCopy_keeps | (refine Keeps.ite (fun _ => ?_) (fun _ => ?_))
        | (refine Keeps.upd ?_; assumption)

theorem State.journalBoundary_keeps {b0 : State} (s : State) (hk : Keeps b0 s) : Keeps b0 (State.journalBoundary s) := by
  unfold State.journalBoundary
  repeat' first
    | with_reducible assumption | lift_lets -underBinder
    | with_reducible first
        | apply State.journalCopy_keeps | (refine Keeps.ite (fun _ => ?_) (fun _ => ?_))
    | split

theorem State.journalAsk_keeps {b0 : State} (s : State) (cause : Nat) (hk : Keeps b0 s) : Keeps b0 (State.journalAsk s cause) := by
  unfold State.journalAsk
  repeat' first
    | with_reducible assumption | (intro x; clear_value x) | lift_lets -underBinder
    | with_reducible first
        | apply State.journalReport_keeps | apply State.journalStart_keeps
        | (refine Keeps.ite (fun _ => ?_) (fun _ => ?_)) | (refine Keeps.upd ?_; assumption)

theorem State.journalTrigger_keeps {b0 : State} (s : State) (cause : Nat) (hk : Keeps b0 s) : Keeps b0 (State.journalTrigger s cause) := by
  unfold State.journalTrigger
  repeat' first
    | with_reducible assumption
    | with_reducible first
        | apply State.journalAsk_keeps | apply State.persistTrigger_keeps

theorem State.journalAdopt_keeps {b0 : State} (s : State) (r : JournalRec) (hk : Keeps b0 s) : Keeps b0 (State.journalAdopt s r) := by
  unfold State.journalAdopt
  repeat' first
    | with_reducible assumption
    | (intro x; refine @Keeps.cut (Keeps b0 x) _ ?_ ?_ <;> [subst x; (intro _; clear_value x)])
    | (intro x; clear_value x) | lift_lets -underBinder
    | with_reducible first
        | apply State.insoleStart_keeps | apply State.putBytes_keeps
        | (refine Keeps.ite (fun _ => ?_) (fun _ => ?_)) | (refine Keeps.upd ?_; assumption)

theorem State.journalResume_keeps {b0 : State} (s : State) (hk : Keeps b0 s) : Keeps b0 (State.journalResume s) := by
  unfold State.journalResume
  repeat' first
    | with_reducible assumption | (intro x; clear_value x) | lift_lets -underBinder
    | with_reducible first
        | apply State.journalReport_keeps | apply State.journalStart_keeps | apply State.journalAdopt_keeps
        | refine Keeps.foldl (fun _ _ _ => ?_) ?_ | refine Keeps.foldl1 (fun _ _ _ => ?_) ?_
        | (refine Keeps.ite (fun _ => ?_) (fun _ => ?_)) | (refine Keeps.upd ?_; assumption)
    | split

theorem State.journalCommit_keeps {b0 : State} (s : State) (r : JournalRec) (hk : Keeps b0 s) : Keeps b0 (State.journalCommit s r) := by
  unfold State.journalCommit
  repeat' first
    | with_reducible assumption
    | (intro x; refine @Keeps.cut (Keeps b0 x) _ ?_ ?_ <;> [subst x; (intro _; clear_value x)])
    | (intro x; clear_value x) | lift_lets -underBinder
    | with_reducible first
        | apply State.insoleStart_keeps | apply State.sendLearned_keeps | apply State.journalReport_keeps
        | (refine Keeps.ite (fun _ => ?_) (fun _ => ?_)) | (refine Keeps.upd ?_; assumption)

theorem State.journalAbandon_keeps {b0 : State} (s : State) (hk : Keeps b0 s) : Keeps b0 (State.journalAbandon s) := by
  unfold State.journalAbandon
  repeat' first
    | with_reducible assumption
    | (intro x; refine @Keeps.cut (Keeps b0 x) _ ?_ ?_ <;> [subst x; (intro _; clear_value x)])
    | (intro x; clear_value x) | lift_lets -underBinder
    | with_reducible first
        | apply State.journalReport_keeps | (refine Keeps.ite (fun _ => ?_) (fun _ => ?_))
        | (refine Keeps.upd ?_; assumption)
    | split

theorem State.journalCut_keeps {b0 : State} (s : State) (pagesLeft : Nat) (hk : Keeps b0 s) : Keeps b0 (State.journalCut s pagesLeft) := by
  unfold State.journalCut
  repeat' first
    | with_reducible assumption | lift_lets -underBinder
    | with_reducible first
        | apply State.journalCommit_keeps | apply State.journalAbandon_keeps
        | (refine Keeps.ite (fun _ => ?_) (fun _ => ?_))
    | split

theorem execJournalWriteDone_keeps {b0 : State} (ok : Bool) (s : State) (hk : Keeps b0 s) : KeepsE b0 (execJournalWriteDone ok s) := by
  unfold execJournalWriteDone
  repeat' first
    | with_reducible assumption
    | (intro x; refine @Keeps.cut (Keeps b0 x) _ ?_ ?_ <;> [subst x; (intro _; clear_value x)])
    | (intro x; clear_value x) | lift_lets -underBinder
    | with_reducible first
        | apply KeepsE.next | refine State.whenVamp_keeps _ _ ?_ ?_ | apply State.unspoil_keeps
        | apply State.journalCommit_keeps | apply State.journalAbandon_keeps | apply State.journalResume_keeps
        | (refine Keeps.ite (fun _ => ?_) (fun _ => ?_)) | (refine Keeps.upd ?_; assumption)
    | split

theorem execJournalEraseDone_keeps {b0 : State} (s : State) (hk : Keeps b0 s) : KeepsE b0 (execJournalEraseDone s) := by
  unfold execJournalEraseDone
  repeat' first
    | with_reducible assumption
    | (intro x; refine @Keeps.cut (Keeps b0 x) _ ?_ ?_ <;> [subst x; (intro _; clear_value x)])
    | (intro x; clear_value x) | lift_lets -underBinder
    | with_reducible first
        | apply KeepsE.next | refine State.whenVamp_keeps _ _ ?_ ?_ | apply State.journalResume_keeps
        | (refine Keeps.ite (fun _ => ?_) (fun _ => ?_)) | (refine Keeps.upd ?_; assumption)
    | split

theorem execJournalPeriodicTimer_keeps {b0 : State} (s : State) (hk : Keeps b0 s) : KeepsE b0 (execJournalPeriodicTimer s) := by
  unfold execJournalPeriodicTimer
  repeat' first
    | with_reducible assumption
    | with_reducible first
        | apply KeepsE.next | refine State.whenVamp_keeps _ _ ?_ ?_ | apply State.journalTrigger_keeps

theorem execFullChargeEnd_keeps {b0 : State} (s : State) (hk : Keeps b0 s) : KeepsE b0 (execFullChargeEnd s) := by
  unfold execFullChargeEnd
  repeat' first
    | with_reducible assumption
    | with_reducible first
        | apply KeepsE.next | refine State.whenVamp_keeps _ _ ?_ ?_ | apply State.journalTrigger_keeps

theorem State.anchorAtBoot_keeps {b0 : State} (s : State) (hk : Keeps b0 s) : Keeps b0 (State.anchorAtBoot s) := by
  unfold State.anchorAtBoot
  repeat' first
    | with_reducible assumption | (intro x; clear_value x) | lift_lets -underBinder
    | with_reducible first
        | (refine Keeps.upd ?_; assumption)

theorem State.journalLoad_keeps {b0 : State} (s : State) (hk : Keeps b0 s) : Keeps b0 (State.journalLoad s) := by
  unfold State.journalLoad
  repeat' first
    | with_reducible assumption | (intro x; clear_value x) | lift_lets -underBinder
    | with_reducible first
        | apply State.anchorAtBoot_keeps | (refine Keeps.ite (fun _ => ?_) (fun _ => ?_))
        | (refine Keeps.upd ?_; assumption)
    | split

theorem State.draws_keeps {b0 : State} : ∀ {n : Nat} {s : State}, Keeps b0 s → Keeps b0 (State.draws n s).2
  | 0, _, h => h
  | n + 1, _, h => State.draws_keeps (n := n) (State.drawn_keeps h)

theorem State.putCtx_keeps {b0 : State} (s : State) (cell : Nat) (c : Ctx) (hk : Keeps b0 s) : Keeps b0 (State.putCtx s cell c) := by
  unfold State.putCtx
  repeat' first
    | with_reducible assumption | (intro x; clear_value x) | lift_lets -underBinder
    | with_reducible first
        | (refine Keeps.ite (fun _ => ?_) (fun _ => ?_)) | (refine Keeps.upd ?_; assumption)

theorem State.numericFail_keeps {b0 : State} (s : State) (cell : Nat) (c : Ctx) (hk : Keeps b0 s) : Keeps b0 (State.numericFail s cell c) := by
  unfold State.numericFail
  repeat' first
    | with_reducible assumption | (intro x; clear_value x) | lift_lets -underBinder
    | with_reducible first
        | apply State.putCtx_keeps | apply State.flag_keeps

theorem State.putChecked_keeps {b0 : State} (s : State) (cell : Nat) (c : Ctx) (hk : Keeps b0 s) : Keeps b0 (State.putChecked s cell c) := by
  unfold State.putChecked
  repeat' first
    | with_reducible assumption
    | with_reducible first
        | apply State.putCtx_keeps | apply State.numericFail_keeps | (refine Keeps.ite (fun _ => ?_) (fun _ => ?_))

theorem State.fastStep_keeps {b0 : State} (s : State) (r : RecordIn) (cell : Nat) (c : Ctx) (p : Sample) (hk : Keeps b0 s) : Keeps b0 (State.fastStep s r cell c p) := by
  unfold State.fastStep
  repeat' first
    | with_reducible assumption | (intro x; clear_value x) | lift_lets -underBinder
    | with_reducible first
        | apply State.drawnBy_keeps | apply State.putChecked_keeps

theorem State.fastCell_keeps {b0 : State} (s : State) (r : RecordIn) (blocks : List Bytes) (cell : Nat) (hk : Keeps b0 s) : Keeps b0 (State.fastCell s r blocks cell) := by
  unfold State.fastCell
  repeat' first
    | with_reducible assumption | (intro x; clear_value x) | lift_lets -underBinder
    | with_reducible first
        | apply State.putCtx_keeps | apply State.fastStep_keeps | (refine Keeps.ite (fun _ => ?_) (fun _ => ?_))
    | split

theorem State.showWire_keeps {b0 : State} (s : State) (node : Nat) (hk : Keeps b0 s) : Keeps b0 (State.showWire s node) := by
  unfold State.showWire
  repeat' first
    | with_reducible assumption | (intro x; clear_value x) | lift_lets -underBinder
    | with_reducible first
        | apply State.setFld_keeps | apply State.setBit_keeps

theorem State.markWire_keeps {b0 : State} (s : State) (node : Nat) (inputs : List Nat) (line cause : Nat) (hk : Keeps b0 s) : Keeps b0 (State.markWire s node inputs line cause) := by
  unfold State.markWire
  repeat' first
    | with_reducible assumption
    | (intro x; refine @Keeps.cut (Keeps b0 x) _ ?_ ?_ <;> [subst x; (intro _; clear_value x)])
    | (intro x; clear_value x) | lift_lets -underBinder
    | with_reducible first
        | apply State.showWire_keeps | apply State.strobe_keeps | (refine Keeps.ite (fun _ => ?_) (fun _ => ?_))
        | (refine Keeps.upd ?_; assumption)

theorem State.countSig_keeps {b0 : State} (s : State) (node key : Nat) (found : Bool) (inputs : List Nat) (line cause : Nat) (hk : Keeps b0 s) : Keeps b0 (State.countSig s node key found inputs line cause) := by
  unfold State.countSig
  repeat' first
    | with_reducible assumption
    | (intro x; refine @Keeps.cut (Keeps b0 x) _ ?_ ?_ <;> [subst x; (intro _; clear_value x)])
    | (intro x; clear_value x) | lift_lets -underBinder
    | with_reducible first
        | apply State.markWire_keeps | (refine Keeps.ite (fun _ => ?_) (fun _ => ?_))
        | (refine Keeps.upd ?_; assumption)

theorem State.wireNode_keeps {b0 : State} (s : State) (s0 : State) (r : RecordIn) (blocks : List Bytes) (b : Bytes) (hk : Keeps b0 s) : Keeps b0 (State.wireNode s s0 r blocks b) := by
  unfold State.wireNode
  repeat' first
    | with_reducible assumption
    | (intro x; refine @Keeps.cut (Keeps b0 x) _ ?_ ?_ <;> [subst x; (intro _; clear_value x)])
    | (intro x; clear_value x) | lift_lets -underBinder
    | with_reducible first
        | apply State.countSig_keeps | refine Keeps.foldl (fun _ _ _ => ?_) ?_
        | refine Keeps.foldl1 (fun _ _ _ => ?_) ?_ | (refine Keeps.ite (fun _ => ?_) (fun _ => ?_))
        | (refine Keeps.upd ?_; assumption)

theorem State.wireFindings_keeps {b0 : State} (s s0 : State) (r : RecordIn) (blocks : List Bytes) (hk : Keeps b0 s) : Keeps b0 (State.wireFindings s s0 r blocks) := by
  unfold State.wireFindings
  repeat' first
    | with_reducible assumption
    | with_reducible first
        | apply State.wireNode_keeps | refine Keeps.foldl (fun _ _ _ => ?_) ?_

theorem State.binOf_keeps {b0 : State} (s : State) (b : Burst) (cell bin : Nat) (hk : Keeps b0 s) : Keeps b0 (State.binOf s b cell bin) := by
  unfold State.binOf
  repeat' first
    | with_reducible assumption
    | (intro x; refine @Keeps.cut (Keeps b0 x) _ ?_ ?_ <;> [subst x; (intro _; clear_value x)])
    | (intro x; clear_value x) | lift_lets -underBinder
    | with_reducible first
        | apply hx | apply State.drawn_keeps | apply State.drawnBy_keeps | apply State.putBytes_keeps

theorem State.impHead_keeps {b0 : State} (s : State) (cell : Nat) (hk : Keeps b0 s) : Keeps b0 (State.impHead s cell) := by
  unfold State.impHead
  repeat' first
    | with_reducible assumption | (intro x; clear_value x) | lift_lets -underBinder
    | with_reducible first
        | apply State.putBytes_keeps

theorem State.impHeads_keeps {b0 : State} (s : State) (hk : Keeps b0 s) : Keeps b0 (State.impHeads s) := by
  unfold State.impHeads
  repeat' first
    | with_reducible assumption
    | with_reducible first
        | apply State.impHead_keeps | refine Keeps.foldl (fun _ _ _ => ?_) ?_

theorem State.binsCell_keeps {b0 : State} (s : State) (b : Burst) (cell : Nat) (hk : Keeps b0 s) : Keeps b0 (State.binsCell s b cell) := by
  unfold State.binsCell
  repeat' first
    | with_reducible assumption
    | (intro x; refine @Keeps.cut (Keeps b0 x) _ ?_ ?_ <;> [subst x; (intro _; clear_value x)])
    | (intro x; clear_value x) | lift_lets -underBinder
    | with_reducible first
        | apply State.binOf_keeps | apply State.putBytes_keeps | apply State.impHead_keeps
        | refine Keeps.foldl (fun _ _ _ => ?_) ?_ | refine Keeps.foldl1 (fun _ _ _ => ?_) ?_
        | (refine Keeps.ite (fun _ => ?_) (fun _ => ?_))

theorem State.impedanceMark_keeps {b0 : State} (s : State) (cell : Nat) (hk : Keeps b0 s) : Keeps b0 (State.impedanceMark s cell) := by
  unfold State.impedanceMark
  repeat' first
    | with_reducible assumption | (intro x; clear_value x) | lift_lets -underBinder
    | with_reducible first
        | apply State.markWire_keeps | (refine Keeps.ite (fun _ => ?_) (fun _ => ?_))
        | (refine Keeps.upd ?_; assumption)
    | split

theorem State.fitCell_keeps {b0 : State} (s : State) (cell : Nat) (hk : Keeps b0 s) : Keeps b0 (State.fitCell s cell) := by
  unfold State.fitCell
  repeat' first
    | with_reducible assumption
    | (intro x; refine @Keeps.cut (Keeps b0 x) _ ?_ ?_ <;> [subst x; (intro _; clear_value x)])
    | (intro x; refine @Keeps.cut (Keeps b0 x.2) _ ?_ ?_ <;> [subst x; (intro _; clear_value x)])
    | (intro x; clear_value x) | lift_lets -underBinder
    | with_reducible first
        | apply hx | apply State.draws_keeps | apply State.drawn_keeps | apply State.putChecked_keeps
        | exact KeepsS.get (State.draws_keeps (by assumption)) (by assumption)
        | (refine Keeps.ite (fun _ => ?_) (fun _ => ?_))
    | split

theorem State.checkpoint_keeps {b0 : State} (s : State) (cell : Nat) (hk : Keeps b0 s) : Keeps b0 (State.checkpoint s cell) := by
  unfold State.checkpoint
  repeat' first
    | with_reducible assumption
    | (intro x; refine @Keeps.cut (Keeps b0 x) _ ?_ ?_ <;> [subst x; (intro _; clear_value x)])
    | (intro x; clear_value x) | lift_lets -underBinder
    | with_reducible first
        | apply State.putCtx_keeps | apply State.putBytes_keeps | (refine Keeps.ite (fun _ => ?_) (fun _ => ?_))
        | (refine Keeps.upd ?_; assumption)
    | split

theorem execCheckpointTimer_keeps {b0 : State} (cell : Nat) (s : State) (hk : Keeps b0 s) : KeepsE b0 (execCheckpointTimer cell s) := by
  unfold execCheckpointTimer
  repeat' first
    | with_reducible assumption
    | with_reducible first
        | apply KeepsE.next | refine State.whenVamp_keeps _ _ ?_ ?_ | apply State.checkpoint_keeps

theorem State.showEst_keeps {b0 : State} (s : State) (hk : Keeps b0 s) : Keeps b0 (State.showEst s) := by
  unfold State.showEst
  repeat' first
    | with_reducible assumption
    | (intro x; refine @Keeps.cut (Keeps b0 x) _ ?_ ?_ <;> [subst x; (intro _; clear_value x)])
    | (intro x; clear_value x) | lift_lets -underBinder
    | with_reducible first
        | apply State.wr_keeps | apply State.setBit_keeps | apply State.setFld_keeps
        | refine Keeps.foldl (fun _ _ _ => ?_) ?_

theorem State.rewriteReports_keeps {b0 : State} (s : State) (hk : Keeps b0 s) : Keeps b0 (State.rewriteReports s) := by
  unfold State.rewriteReports
  repeat' first
    | with_reducible assumption
    | (intro x; refine @Keeps.cut (Keeps b0 x) _ ?_ ?_ <;> [subst x; (intro _; clear_value x)])
    | (intro x; clear_value x) | lift_lets -underBinder
    | with_reducible first
        | apply State.incWrap_keeps | apply State.showEst_keeps | apply State.putBytes_keeps

theorem execReportRefresh_keeps {b0 : State} (loads : List Nat) (s : State) (hk : Keeps b0 s) : KeepsE b0 (execReportRefresh loads s) := by
  unfold execReportRefresh
  repeat' first
    | with_reducible assumption
    | (intro x; refine @Keeps.cut (Keeps b0 x) _ ?_ ?_ <;> [subst x; (intro _; clear_value x)])
    | lift_lets -underBinder
    | with_reducible first
        | apply KeepsE.next | refine State.whenVamp_keeps _ _ ?_ ?_ | apply State.setFld_keeps
        | apply State.rewriteReports_keeps | refine Keeps.foldl (fun _ _ _ => ?_) ?_

theorem State.suspectUnits_keeps {b0 : State} (s : State) (units : List Nat) (st cause scope : Nat) (hk : Keeps b0 s) : Keeps b0 (State.suspectUnits s units st cause scope) := by
  unfold State.suspectUnits
  repeat' first
    | with_reducible assumption
    | (intro x; refine @Keeps.cut (Keeps b0 x) _ ?_ ?_ <;> [subst x; (intro _; clear_value x)])
    | (intro x; clear_value x) | lift_lets -underBinder
    | with_reducible first
        | apply State.showEst_keeps | apply State.flag_keeps | apply State.strobe_keeps
        | refine Keeps.foldl (fun _ _ _ => ?_) ?_ | refine Keeps.foldl1 (fun _ _ _ => ?_) ?_
        | (refine Keeps.ite (fun _ => ?_) (fun _ => ?_)) | (refine Keeps.upd ?_; assumption)

theorem State.arrayParity_keeps {b0 : State} (s : State) (kind unit : Nat) (hk : Keeps b0 s) : Keeps b0 (State.arrayParity s kind unit) := by
  unfold State.arrayParity
  repeat' first
    | with_reducible assumption
    | with_reducible first
        | apply State.flag_keeps | apply State.strobe_keeps

theorem execEuLocalParityError_keeps {b0 : State} (unit : Nat) (s : State) (hk : Keeps b0 s) : KeepsE b0 (execEuLocalParityError unit s) := by
  unfold execEuLocalParityError
  repeat' first
    | with_reducible assumption
    | with_reducible first
        | apply KeepsE.next | refine State.whenVamp_keeps _ _ ?_ ?_ | apply State.arrayParity_keeps
        | apply State.suspectUnits_keeps | (refine Keeps.ite (fun _ => ?_) (fun _ => ?_))
    | split

theorem execMicrocodeCheck_keeps {b0 : State} (unit : Nat) (ok : Bool) (s : State) (hk : Keeps b0 s) : KeepsE b0 (execMicrocodeCheck unit ok s) := by
  unfold execMicrocodeCheck
  repeat' first
    | with_reducible assumption
    | with_reducible first
        | apply KeepsE.next | refine State.whenVamp_keeps _ _ ?_ ?_ | apply State.suspectUnits_keeps
        | (refine Keeps.ite (fun _ => ?_) (fun _ => ?_))
    | split

theorem execClusterScratchParityError_keeps {b0 : State} (region cluster : Nat) (s : State) (hk : Keeps b0 s) : KeepsE b0 (execClusterScratchParityError region cluster s) := by
  unfold execClusterScratchParityError
  repeat' first
    | with_reducible assumption
    | (intro x; refine @Keeps.cut (Keeps b0 x) _ ?_ ?_ <;> [subst x; (intro _; clear_value x)])
    | (intro x; clear_value x) | lift_lets -underBinder
    | with_reducible first
        | apply KeepsE.next | refine State.whenVamp_keeps _ _ ?_ ?_ | apply State.arrayParity_keeps
        | apply State.suspectUnits_keeps | (refine Keeps.ite (fun _ => ?_) (fun _ => ?_))
        | (refine Keeps.upd ?_; assumption)
    | split

theorem execSfuCheckFail_keeps {b0 : State} (region cluster : Nat) (s : State) (hk : Keeps b0 s) : KeepsE b0 (execSfuCheckFail region cluster s) := by
  unfold execSfuCheckFail
  repeat' first
    | with_reducible assumption
    | with_reducible first
        | apply KeepsE.next | refine State.whenVamp_keeps _ _ ?_ ?_ | apply State.suspectUnits_keeps
        | (refine Keeps.ite (fun _ => ?_) (fun _ => ?_))
    | split

theorem execRegionFault_keeps {b0 : State} (region : Nat) (s : State) (hk : Keeps b0 s) : KeepsE b0 (execRegionFault region s) := by
  unfold execRegionFault
  repeat' first
    | with_reducible assumption
    | with_reducible first
        | apply KeepsE.next | refine State.whenVamp_keeps _ _ ?_ ?_ | apply State.suspectUnits_keeps
        | (refine Keeps.ite (fun _ => ?_) (fun _ => ?_))
    | split

theorem execPlacementPlan_keeps {b0 : State} (s : State) (hk : Keeps b0 s) : KeepsE b0 (execPlacementPlan s) := by
  unfold execPlacementPlan
  repeat' first
    | with_reducible assumption
    | (intro x; refine @Keeps.cut (Keeps b0 x) _ ?_ ?_ <;> [subst x; (intro _; clear_value x)])
    | (intro x; clear_value x) | lift_lets -underBinder
    | with_reducible first
        | apply KeepsE.next | refine State.whenVamp_keeps _ _ ?_ ?_ | (refine Keeps.ite (fun _ => ?_) (fun _ => ?_))
        | (refine Keeps.upd ?_; assumption)
    | split

theorem State.moveCtx_keeps {b0 : State} (s : State) (m : Move) (rebuild : Bool) (hk : Keeps b0 s) : Keeps b0 (State.moveCtx s m rebuild) := by
  unfold State.moveCtx
  repeat' first
    | with_reducible assumption | (intro x; clear_value x) | lift_lets -underBinder
    | with_reducible first
        | apply State.putCtx_keeps | (refine Keeps.ite (fun _ => ?_) (fun _ => ?_))
    | split

theorem State.applyMoves_keeps {b0 : State} {planned : List Nat} : ∀ {l : List Move} {n : Nat} {s : State}, Keeps b0 s →
    Keeps b0 (State.applyMoves planned l n s).1
  | [], _, _, h => h
  | m :: rest, n, s, h => by
    unfold State.applyMoves
    dsimp only
    split
    · exact State.applyMoves_keeps h
    · split
      · exact State.applyMoves_keeps (l := rest) (State.moveCtx_keeps _ _ _ h)
      · exact State.applyMoves_keeps (l := rest) h

theorem State.moveRing_keeps {b0 : State} (s : State) (planned : List Nat) (ms : List Move) (hk : Keeps b0 s) : Keeps b0 (State.moveRing s planned ms) := by
  unfold State.moveRing
  repeat' first
    | with_reducible assumption
    | (intro x; refine @Keeps.cut (Keeps b0 x) _ ?_ ?_ <;> [subst x; (intro _; clear_value x)])
    | lift_lets -underBinder
    | with_reducible first
        | apply State.putCtx_keeps | apply State.moveCtx_keeps | refine Keeps.foldl (fun _ _ _ => ?_) ?_
        | refine Keeps.foldl1 (fun _ _ _ => ?_) ?_ | (refine Keeps.ite (fun _ => ?_) (fun _ => ?_))
    | split

theorem State.sweepMoves_keeps {b0 : State} (s : State) (planned : List Nat) (ms : List Move) (hk : Keeps b0 s) : KeepsF b0 (State.sweepMoves s planned ms) := by
  unfold State.sweepMoves
  repeat' first
    | with_reducible assumption
    | (intro x; refine @Keeps.cut (Keeps b0 x.1) _ ?_ ?_ <;> [subst x; (intro _; clear_value x)])
    | lift_lets -underBinder
    | with_reducible first
        | apply State.applyMoves_keeps | apply State.moveRing_keeps
        | exact KeepsF.get (State.applyMoves_keeps (by assumption)) (by assumption)
        | (refine Keeps.ite (fun _ => ?_) (fun _ => ?_))
    | split

theorem State.setLevel_keeps {b0 : State} (s : State) (cell level : Nat) (hk : Keeps b0 s) : Keeps b0 (State.setLevel s cell level) := by
  unfold State.setLevel
  repeat' first
    | with_reducible assumption
    | (intro x; refine @Keeps.cut (Keeps b0 x) _ ?_ ?_ <;> [subst x; (intro _; clear_value x)])
    | (intro x; clear_value x) | lift_lets -underBinder
    | with_reducible first
        | apply State.putCtx_keeps | (refine Keeps.ite (fun _ => ?_) (fun _ => ?_))
        | (refine Keeps.upd ?_; assumption)
    | split

theorem State.setLevels_keeps {b0 : State} (s : State) (ls : List (Nat × Nat)) (hk : Keeps b0 s) : KeepsF b0 (State.setLevels s ls) := by
  unfold State.setLevels
  repeat' first
    | with_reducible assumption
    | (intro x; refine @Keeps.cut (Keeps b0 x) _ ?_ ?_ <;> [subst x; (intro _; clear_value x)])
    | (intro x; clear_value x) | lift_lets -underBinder
    | with_reducible first
        | apply State.setLevel_keeps | refine Keeps.foldl (fun _ _ _ => ?_) ?_
        | refine Keeps.foldl1 (fun _ _ _ => ?_) ?_ | (refine Keeps.ite (fun _ => ?_) (fun _ => ?_))
    | split

theorem State.lastCtx_keeps {b0 : State} (s : State) (f : Nat × Nat × Nat) (k : Ckpt) (hk : Keeps b0 s) : KeepsS b0 (State.lastCtx s f k) := by
  unfold State.lastCtx
  repeat' first
    | with_reducible assumption
    | (intro x; refine @Keeps.cut (Keeps b0 x.2) _ ?_ ?_ <;> [subst x; (intro _; clear_value x)])
    | (intro x; clear_value x) | lift_lets -underBinder
    | with_reducible first
        | apply hx | apply State.draws_keeps | apply State.drawnBy_keeps

theorem State.hostCell_keeps {b0 : State} (s : State) (f : Nat × Nat × Nat) (hk : Keeps b0 s) : Keeps b0 (State.hostCell s f) := by
  unfold State.hostCell
  repeat' first
    | with_reducible assumption
    | (intro x; refine @Keeps.cut (Keeps b0 x) _ ?_ ?_ <;> [subst x; (intro _; clear_value x)])
    | (intro x; refine @Keeps.cut (Keeps b0 x.2) _ ?_ ?_ <;> [subst x; (intro _; clear_value x)])
    | (intro x; clear_value x) | lift_lets -underBinder
    | with_reducible first
        | apply State.lastCtx_keeps | exact KeepsS.get (State.lastCtx_keeps _ _ _ (by assumption)) (by assumption)
        | (refine Keeps.ite (fun _ => ?_) (fun _ => ?_)) | (refine Keeps.upd ?_; assumption)
    | split

theorem State.hostCells_keeps {b0 : State} (s : State) (fs : List (Nat × Nat × Nat)) (hk : Keeps b0 s) : KeepsF b0 (State.hostCells s fs) := by
  unfold State.hostCells
  repeat' first
    | with_reducible assumption
    | with_reducible first
        | apply State.hostCell_keeps | refine Keeps.foldl (fun _ _ _ => ?_) ?_
        | refine Keeps.foldl1 (fun _ _ _ => ?_) ?_ | (refine Keeps.ite (fun _ => ?_) (fun _ => ?_))
    | split

theorem State.unhostCell_keeps {b0 : State} (s : State) (cell : Nat) (hk : Keeps b0 s) : Keeps b0 (State.unhostCell s cell) := by
  unfold State.unhostCell
  repeat' first
    | with_reducible assumption | (intro x; clear_value x) | lift_lets -underBinder
    | with_reducible first
        | (refine Keeps.upd ?_; assumption)

theorem State.borrowEvents_keeps {b0 : State} (s : State) (ms : List (Nat × Nat × Nat × Nat)) (hk : Keeps b0 s) : Keeps b0 (State.borrowEvents s ms) := by
  unfold State.borrowEvents
  repeat' first
    | with_reducible assumption | (intro x; clear_value x) | lift_lets -underBinder
    | with_reducible first
        | apply State.flag_keeps | apply State.strobe_keeps | refine Keeps.foldl (fun _ _ _ => ?_) ?_

theorem State.judgeDeficient_keeps {b0 : State} (s : State) (hk : Keeps b0 s) : Keeps b0 (State.judgeDeficient s) := by
  unfold State.judgeDeficient
  repeat' first
    | with_reducible assumption
    | (intro x; refine @Keeps.cut (Keeps b0 x) _ ?_ ?_ <;> [subst x; (intro _; clear_value x)])
    | (intro x; clear_value x) | lift_lets -underBinder
    | with_reducible first
        | apply State.setBit_keeps | apply State.strobe_keeps | (refine Keeps.ite (fun _ => ?_) (fun _ => ?_))
        | (refine Keeps.upd ?_; assumption)

theorem State.fidelityEvent_keeps {b0 : State} (s : State) (src : Nat) (d : Nat × Nat × Nat) (hk : Keeps b0 s) : Keeps b0 (State.fidelityEvent s src d) := by
  unfold State.fidelityEvent
  repeat' first
    | with_reducible assumption
    | with_reducible first
        | apply State.strobe_keeps

theorem State.fidelityEvents_keeps {b0 : State} (s : State) (p : Plan) (hk : Keeps b0 s) : Keeps b0 (State.fidelityEvents s p) := by
  unfold State.fidelityEvents
  repeat' first
    | with_reducible assumption
    | (intro x; refine @Keeps.cut (Keeps b0 x) _ ?_ ?_ <;> [subst x; (intro _; clear_value x)])
    | (intro x; clear_value x) | lift_lets -underBinder
    | with_reducible first
        | apply State.flag_keeps | apply State.fidelityEvent_keeps | refine Keeps.foldl (fun _ _ _ => ?_) ?_
        | refine Keeps.foldl1 (fun _ _ _ => ?_) ?_ | (refine Keeps.ite (fun _ => ?_) (fun _ => ?_))

theorem State.applyPlan_keeps {b0 : State} (s : State) (p : Plan) (hk : Keeps b0 s) : Keeps b0 (State.applyPlan s p) := by
  unfold State.applyPlan
  repeat' first
    | with_reducible assumption
    | (intro x; refine @Keeps.cut (Keeps b0 x) _ ?_ ?_ <;> [subst x; (intro _; clear_value x)])
    | (intro x; refine @Keeps.cut (Keeps b0 x.1) _ ?_ ?_ <;> [subst x; (intro _; clear_value x)])
    | (intro x; clear_value x) | lift_lets -underBinder
    | with_reducible first
        | apply State.fidelityEvents_keeps | apply State.unhostCell_keeps | apply State.setLevels_keeps
        | apply State.sweepMoves_keeps | apply State.hostCells_keeps | apply State.borrowEvents_keeps
        | apply State.judgeDeficient_keeps | apply State.rewriteReports_keeps | apply State.strobe_keeps
        | apply State.journalTrigger_keeps | refine Keeps.foldl (fun _ _ _ => ?_) ?_
        | refine Keeps.foldl1 (fun _ _ _ => ?_) ?_ | (refine Keeps.ite (fun _ => ?_) (fun _ => ?_))
        | (refine Keeps.upd ?_; assumption)

theorem State.releaseCells_keeps {b0 : State} (s : State) (hk : Keeps b0 s) : Keeps b0 (State.releaseCells s) := by
  unfold State.releaseCells
  repeat' first
    | with_reducible assumption | (intro x; clear_value x) | lift_lets -underBinder
    | with_reducible first
        | (refine Keeps.upd ?_; assumption)

theorem State.applyResets_keeps {b0 : State} (s : State) (hk : Keeps b0 s) : Keeps b0 (State.applyResets s) := by
  unfold State.applyResets
  repeat' first
    | with_reducible assumption
    | (intro x; refine @Keeps.cut (Keeps b0 x) _ ?_ ?_ <;> [subst x; (intro _; clear_value x)])
    | (intro x; clear_value x) | lift_lets -underBinder
    | with_reducible first
        | apply State.putCtx_keeps | refine Keeps.foldl (fun _ _ _ => ?_) ?_
        | refine Keeps.foldl1 (fun _ _ _ => ?_) ?_ | (refine Keeps.ite (fun _ => ?_) (fun _ => ?_))
        | (refine Keeps.upd ?_; assumption)
    | split

theorem State.ticks_keeps {b0 : State} (s : State) (hk : Keeps b0 s) : Keeps b0 (State.ticks s) := by
  unfold State.ticks
  repeat' first
    | with_reducible assumption | (intro x; clear_value x) | lift_lets -underBinder
    | with_reducible first
        | (refine Keeps.upd ?_; assumption)

theorem State.exchangeStep_keeps {b0 : State} (s : State) (hk : Keeps b0 s) : Keeps b0 (State.exchangeStep s) := by
  unfold State.exchangeStep
  repeat' first
    | with_reducible assumption
    | (intro x; refine @Keeps.cut (Keeps b0 x) _ ?_ ?_ <;> [subst x; (intro _; clear_value x)])
    | (intro x; clear_value x) | lift_lets -underBinder
    | with_reducible first
        | apply State.applyPlan_keeps | (refine Keeps.ite (fun _ => ?_) (fun _ => ?_))
        | (refine Keeps.upd ?_; assumption)
    | split

theorem execCriticalityScore_keeps {b0 : State} (s : State) (hk : Keeps b0 s) : KeepsE b0 (execCriticalityScore s) := by
  unfold execCriticalityScore
  repeat' first
    | with_reducible assumption
    | (intro x; refine @Keeps.cut (Keeps b0 x) _ ?_ ?_ <;> [subst x; (intro _; clear_value x)])
    | (intro x; clear_value x) | lift_lets -underBinder
    | with_reducible first
        | apply KeepsE.next | refine State.whenVamp_keeps _ _ ?_ ?_ | refine Keeps.foldl (fun _ _ _ => ?_) ?_
        | refine Keeps.foldl1 (fun _ _ _ => ?_) ?_ | (refine Keeps.upd ?_; assumption)

theorem execLoadWindow_keeps {b0 : State} (units : List Nat) (s : State) (hk : Keeps b0 s) : KeepsE b0 (execLoadWindow units s) := by
  unfold execLoadWindow
  repeat' first
    | with_reducible assumption | (intro x; clear_value x) | lift_lets -underBinder
    | with_reducible first
        | apply KeepsE.next | refine State.whenVamp_keeps _ _ ?_ ?_ | apply State.showEst_keeps
        | (refine Keeps.upd ?_; assumption)

theorem execFidelityRaise_keeps {b0 : State} (s : State) (hk : Keeps b0 s) : KeepsE b0 (execFidelityRaise s) := by
  unfold execFidelityRaise
  repeat' first
    | with_reducible assumption | (intro x; clear_value x) | lift_lets -underBinder
    | with_reducible first
        | apply KeepsE.next | apply hx | refine State.whenVamp_keeps _ _ ?_ ?_
        | (refine Keeps.ite (fun _ => ?_) (fun _ => ?_)) | (refine Keeps.upd ?_; assumption)
    | split

theorem State.freeBytes_keeps {b0 : State} (s : State) (n : Nat) (hk : Keeps b0 s) : KeepsS b0 (State.freeBytes s n) := by
  unfold State.freeBytes
  repeat' first
    | with_reducible assumption
    | (intro x; refine @Keeps.cut (Keeps b0 x.2) _ ?_ ?_ <;> [subst x; (intro _; clear_value x)])
    | lift_lets -underBinder
    | with_reducible first
        | apply State.draws_keeps

theorem State.joinRebuilt_keeps {b0 : State} (s : State) (hk : Keeps b0 s) : Keeps b0 (State.joinRebuilt s) := by
  unfold State.joinRebuilt
  repeat' first
    | with_reducible assumption | (intro x; clear_value x) | lift_lets -underBinder
    | with_reducible first
        | (refine Keeps.ite (fun _ => ?_) (fun _ => ?_)) | (refine Keeps.upd ?_; assumption)

theorem State.takeMasks_keeps {b0 : State} (s : State) (hk : Keeps b0 s) : Keeps b0 (State.takeMasks s) := by
  unfold State.takeMasks
  repeat' first
    | with_reducible assumption | (intro x; clear_value x) | lift_lets -underBinder
    | with_reducible first
        | (refine Keeps.upd ?_; assumption)

theorem State.takePlan_keeps {b0 : State} (s : State) (freed : Bool) (hk : Keeps b0 s) : Keeps b0 (State.takePlan s freed) := by
  unfold State.takePlan
  repeat' first
    | with_reducible assumption | (intro x; clear_value x) | lift_lets -underBinder
    | with_reducible first
        | apply State.applyPlan_keeps | (refine Keeps.ite (fun _ => ?_) (fun _ => ?_))
        | (refine Keeps.upd ?_; assumption)
    | split

theorem State.estBoundary_keeps {b0 : State} (s : State) (hk : Keeps b0 s) : Keeps b0 (State.estBoundary s) := by
  unfold State.estBoundary
  repeat' first
    | with_reducible assumption
    | (intro x; refine @Keeps.cut (Keeps b0 x) _ ?_ ?_ <;> [subst x; (intro _; clear_value x)])
    | (intro x; clear_value x) | lift_lets -underBinder
    | with_reducible first
        | apply State.releaseCells_keeps | apply State.takePlan_keeps | apply State.exchangeStep_keeps
        | apply State.judgeDeficient_keeps | apply State.joinRebuilt_keeps | apply State.applyResets_keeps
        | apply State.ticks_keeps | apply State.takeMasks_keeps | apply State.journalBoundary_keeps
        | apply State.recBoundary_keeps

theorem execContextRebuildDone_keeps {b0 : State} (cell : Nat) (s : State) (hk : Keeps b0 s) : KeepsE b0 (execContextRebuildDone cell s) := by
  unfold execContextRebuildDone
  repeat' first
    | with_reducible assumption | (intro x; clear_value x) | lift_lets -underBinder
    | with_reducible first
        | apply KeepsE.next | refine State.whenVamp_keeps _ _ ?_ ?_ | apply State.drawnBy_keeps
        | apply State.putChecked_keeps | apply State.showEst_keeps | (refine Keeps.ite (fun _ => ?_) (fun _ => ?_))
    | split

theorem execHorizonLayerComplete_keeps {b0 : State} (cell : Nat) (s : State) (hk : Keeps b0 s) : KeepsE b0 (execHorizonLayerComplete cell s) := by
  unfold execHorizonLayerComplete
  repeat' first
    | with_reducible assumption
    | (intro x; refine @Keeps.cut (Keeps b0 x.2) _ ?_ ?_ <;> [subst x; (intro _; clear_value x)])
    | (intro x; clear_value x) | lift_lets -underBinder
    | with_reducible first
        | apply KeepsE.next | apply hx | refine State.whenVamp_keeps _ _ ?_ ?_ | apply State.putChecked_keeps
        | apply State.showEst_keeps | apply State.draws_keeps
        | exact KeepsS.get (State.draws_keeps (by assumption)) (by assumption)
        | (refine Keeps.ite (fun _ => ?_) (fun _ => ?_))
    | split

theorem execFullLayerComplete_keeps {b0 : State} (cell : Nat) (s : State) (hk : Keeps b0 s) : KeepsE b0 (execFullLayerComplete cell s) := by
  unfold execFullLayerComplete
  repeat' first
    | with_reducible assumption
    | (intro x; refine @Keeps.cut (Keeps b0 x.2) _ ?_ ?_ <;> [subst x; (intro _; clear_value x)])
    | (intro x; clear_value x) | lift_lets -underBinder
    | with_reducible first
        | apply KeepsE.next | apply hx | refine State.whenVamp_keeps _ _ ?_ ?_ | apply State.draws_keeps
        | apply State.drawnBy_keeps | apply State.putChecked_keeps
        | exact KeepsS.get (State.draws_keeps (by assumption)) (by assumption)
        | (refine Keeps.ite (fun _ => ?_) (fun _ => ?_))
    | split

theorem State.pcsNotice_keeps {b0 : State} (s : State) (cause : Nat) (hk : Keeps b0 s) : Keeps b0 (State.pcsNotice s cause) := by
  unfold State.pcsNotice
  repeat' first
    | with_reducible assumption
    | with_reducible first
        | apply State.strobe_keeps

theorem State.pcsDiscard_keeps {b0 : State} (s : State) (got : Bytes) (reason : Nat) (hk : Keeps b0 s) : Keeps b0 (State.pcsDiscard s got reason) := by
  unfold State.pcsDiscard
  repeat' first
    | with_reducible assumption
    | with_reducible first
        | apply State.strobe_keeps

theorem State.pertAck_keeps {b0 : State} (s : State) (ack : Bool) (hk : Keeps b0 s) : Keeps b0 (State.pertAck s ack) := by
  unfold State.pertAck
  repeat' first
    | with_reducible assumption | (intro x; clear_value x) | lift_lets -underBinder
    | with_reducible first
        | apply State.burstAbort_keeps | (refine Keeps.ite (fun _ => ?_) (fun _ => ?_))
        | (refine Keeps.upd ?_; assumption)
    | split

theorem State.overRequest_keeps {b0 : State} (s : State) (req : Word) (hk : Keeps b0 s) : Keeps b0 (State.overRequest s req) := by
  unfold State.overRequest
  repeat' first
    | with_reducible assumption
    | (intro x; refine @Keeps.cut (Keeps b0 x) _ ?_ ?_ <;> [subst x; (intro _; clear_value x)])
    | (intro x; clear_value x) | lift_lets -underBinder
    | with_reducible first
        | apply State.flag_keeps | apply State.incFld_keeps | apply State.pcsNotice_keeps
        | (refine Keeps.ite (fun _ => ?_) (fun _ => ?_)) | (refine Keeps.upd ?_; assumption)

theorem State.pcsTake_keeps {b0 : State} (s : State) (frame : Bytes) (hk : Keeps b0 s) : Keeps b0 (State.pcsTake s frame) := by
  unfold State.pcsTake
  repeat' first
    | with_reducible assumption
    | (intro x; refine @Keeps.cut (Keeps b0 x) _ ?_ ?_ <;> [subst x; (intro _; clear_value x)])
    | (intro x; clear_value x) | lift_lets -underBinder
    | with_reducible first
        | apply State.wr_keeps | apply State.incWrap_keeps | apply State.unfind_keeps | apply State.strobe_keeps
        | apply State.pcsNotice_keeps | apply State.overRequest_keeps | apply State.pertAck_keeps
        | (refine Keeps.ite (fun _ => ?_) (fun _ => ?_)) | (refine Keeps.upd ?_; assumption)

theorem State.pcsAnswer_keeps {b0 : State} (s : State) (seq : Nat) (hk : Keeps b0 s) : Keeps b0 (State.pcsAnswer s seq) := by
  unfold State.pcsAnswer
  repeat' first
    | with_reducible assumption
    | (intro x; refine @Keeps.cut (Keeps b0 x) _ ?_ ?_ <;> [subst x; (intro _; clear_value x)])
    | (intro x; clear_value x) | lift_lets -underBinder
    | with_reducible first
        | apply State.emit_keeps | apply State.wr_keeps | apply State.setBit_keeps | apply State.drawnBy_keeps
        | (refine Keeps.ite (fun _ => ?_) (fun _ => ?_)) | (refine Keeps.upd ?_; assumption)

theorem State.pcsFrameEnd_keeps {b0 : State} (s : State) (e : FrameEnd) (h : Keeps b0 s) : Keeps b0 (s.pcsFrameEnd e) := by
  unfold State.pcsFrameEnd
  split
  · exact State.pcsDiscard_keeps _ _ _ (State.incFld_keeps _ _ _ _ (State.flag_keeps _ _ _ _ h))
  · split
    · exact State.pcsDiscard_keeps _ _ _ (State.incFld_keeps _ _ _ _ (State.flag_keeps _ _ _ _ h))
    · exact State.pcsAnswer_keeps _ _ (State.pcsTake_keeps _ _ h)

theorem execPcsRequestReceive_keeps {b0 : State} (groups : List (Option Nat)) (s : State) (hk : Keeps b0 s) : KeepsE b0 (execPcsRequestReceive groups s) := by
  unfold execPcsRequestReceive
  repeat' first
    | with_reducible assumption
    | with_reducible first
        | apply KeepsE.next | refine State.whenVamp_keeps _ _ ?_ ?_ | apply State.pcsFrameEnd_keeps
        | refine Keeps.foldl (fun _ _ _ => ?_) ?_ | refine Keeps.foldl1 (fun _ _ _ => ?_) ?_
        | (refine Keeps.ite (fun _ => ?_) (fun _ => ?_))
    | split

theorem execPcsRxAlign_keeps {b0 : State} (s : State) (hk : Keeps b0 s) : KeepsE b0 (execPcsRxAlign s) := by
  unfold execPcsRxAlign
  repeat' first
    | with_reducible assumption
    | with_reducible first
        | apply KeepsE.next | refine State.whenVamp_keeps _ _ ?_ ?_ | apply State.setBit_keeps

theorem execPcsRxLinkDown_keeps {b0 : State} (s : State) (hk : Keeps b0 s) : KeepsE b0 (execPcsRxLinkDown s) := by
  unfold execPcsRxLinkDown
  repeat' first
    | with_reducible assumption
    | with_reducible first
        | apply KeepsE.next | refine State.whenVamp_keeps _ _ ?_ ?_ | apply State.setBit_keeps

theorem State.ltCommit_keeps {b0 : State} (s : State) (hk : Keeps b0 s) : Keeps b0 (State.ltCommit s) := by
  unfold State.ltCommit
  repeat' first
    | with_reducible assumption
    | (intro x; refine @Keeps.cut (Keeps b0 x) _ ?_ ?_ <;> [subst x; (intro _; clear_value x)])
    | (intro x; clear_value x) | lift_lets -underBinder
    | with_reducible first
        | apply State.setFld_keeps | apply State.setBit_keeps | (refine Keeps.ite (fun _ => ?_) (fun _ => ?_))
        | (refine Keeps.upd ?_; assumption)

theorem State.ltCommitWrite_keeps {b0 : State} (s : State) (value : Word) (who : Requester) (hk : Keeps b0 s) : Keeps b0 (State.ltCommitWrite s value who) := by
  unfold State.ltCommitWrite
  repeat' first
    | with_reducible assumption
    | with_reducible first
        | apply State.emit_keeps | apply State.ltCommit_keeps | (refine Keeps.ite (fun _ => ?_) (fun _ => ?_))

theorem execPcsLtCommit_keeps {b0 : State} (value : Word) (who : Requester) (s : State) (hk : Keeps b0 s) : KeepsE b0 (execPcsLtCommit value who s) := by
  unfold execPcsLtCommit
  repeat' first
    | with_reducible assumption
    | with_reducible first
        | apply KeepsE.next | refine State.whenVamp_keeps _ _ ?_ ?_ | apply State.ltCommitWrite_keeps

theorem execLimitStale_keeps {b0 : State} (s : State) (hk : Keeps b0 s) : KeepsE b0 (execLimitStale s) := by
  unfold execLimitStale
  repeat' first
    | with_reducible assumption
    | with_reducible first
        | apply KeepsE.next | refine State.whenVamp_keeps _ _ ?_ ?_ | apply State.flag_keeps
        | apply State.setBit_keeps

theorem execPcsRequestMissedTimeout_keeps {b0 : State} (s : State) (hk : Keeps b0 s) : KeepsE b0 (execPcsRequestMissedTimeout s) := by
  unfold execPcsRequestMissedTimeout
  repeat' first
    | with_reducible assumption
    | (intro x; refine @Keeps.cut (Keeps b0 x) _ ?_ ?_ <;> [subst x; (intro _; clear_value x)])
    | (intro x; clear_value x) | lift_lets -underBinder
    | with_reducible first
        | apply KeepsE.next | refine State.whenVamp_keeps _ _ ?_ ?_ | apply State.flag_keeps
        | apply State.incFld_keeps | apply State.strobe_keeps | (refine Keeps.ite (fun _ => ?_) (fun _ => ?_))
        | (refine Keeps.upd ?_; assumption)
    | split

theorem execPcsLinkLossTimeout_keeps {b0 : State} (s : State) (hk : Keeps b0 s) : KeepsE b0 (execPcsLinkLossTimeout s) := by
  unfold execPcsLinkLossTimeout
  repeat' first
    | with_reducible assumption
    | (intro x; refine @Keeps.cut (Keeps b0 x) _ ?_ ?_ <;> [subst x; (intro _; clear_value x)])
    | (intro x; clear_value x) | lift_lets -underBinder
    | with_reducible first
        | apply KeepsE.next | refine State.whenVamp_keeps _ _ ?_ ?_ | apply State.flag_keeps
        | apply State.setBit_keeps | apply State.wr_keeps | apply State.strobe_keeps | apply State.find_keeps
        | (refine Keeps.ite (fun _ => ?_) (fun _ => ?_)) | (refine Keeps.upd ?_; assumption)
    | split

theorem execPcsCurrentCompare_keeps {b0 : State} (s : State) (hk : Keeps b0 s) : KeepsE b0 (execPcsCurrentCompare s) := by
  unfold execPcsCurrentCompare
  repeat' first
    | with_reducible assumption
    | (intro x; refine @Keeps.cut (Keeps b0 x) _ ?_ ?_ <;> [subst x; (intro _; clear_value x)])
    | (intro x; clear_value x) | lift_lets -underBinder
    | with_reducible first
        | apply KeepsE.next | refine State.whenVamp_keeps _ _ ?_ ?_ | apply State.flag_keeps
        | apply State.pcsNotice_keeps | (refine Keeps.ite (fun _ => ?_) (fun _ => ?_))
        | (refine Keeps.upd ?_; assumption)
    | split

theorem State.dispatch_keeps {b0 : State} (s : State) (chg dis : Word) (set lease : Nat) (hk : Keeps b0 s) : Keeps b0 (State.dispatch s chg dis set lease) := by
  unfold State.dispatch
  repeat' first
    | with_reducible assumption
    | (intro x; refine @Keeps.cut (Keeps b0 x) _ ?_ ?_ <;> [subst x; (intro _; clear_value x)])
    | (intro x; clear_value x) | lift_lets -underBinder
    | with_reducible first
        | apply State.setFld_keeps | apply State.strobe_keeps | (refine Keeps.ite (fun _ => ?_) (fun _ => ?_))
        | (refine Keeps.upd ?_; assumption)

theorem execPcsDispatchApply_keeps {b0 : State} (s : State) (hk : Keeps b0 s) : KeepsE b0 (execPcsDispatchApply s) := by
  unfold execPcsDispatchApply
  repeat' first
    | with_reducible assumption
    | with_reducible first
        | apply KeepsE.next | refine State.whenVamp_keeps _ _ ?_ ?_ | apply State.dispatch_keeps
        | apply State.setBit_keeps

theorem execDispatchLeaseExpiry_keeps {b0 : State} (s : State) (hk : Keeps b0 s) : KeepsE b0 (execDispatchLeaseExpiry s) := by
  unfold execDispatchLeaseExpiry
  repeat' first
    | with_reducible assumption
    | (intro x; refine @Keeps.cut (Keeps b0 x) _ ?_ ?_ <;> [subst x; (intro _; clear_value x)])
    | (intro x; clear_value x) | lift_lets -underBinder
    | with_reducible first
        | apply KeepsE.next | apply hx | refine State.whenVamp_keeps _ _ ?_ ?_ | apply State.setFld_keeps
        | apply State.strobe_keeps | (refine Keeps.ite (fun _ => ?_) (fun _ => ?_))
        | (refine Keeps.upd ?_; assumption)
    | split

theorem State.pertWrite_keeps {b0 : State} (s : State) (value : Word) (who : Requester) (hk : Keeps b0 s) : Keeps b0 (State.pertWrite s value who) := by
  unfold State.pertWrite
  repeat' first
    | with_reducible assumption
    | (intro x; refine @Keeps.cut (Keeps b0 x) _ ?_ ?_ <;> [subst x; (intro _; clear_value x)])
    | (intro x; clear_value x) | lift_lets -underBinder
    | with_reducible first
        | apply State.emit_keeps | apply State.setBit_keeps | (refine Keeps.ite (fun _ => ?_) (fun _ => ?_))
        | (refine Keeps.upd ?_; assumption)

theorem execPcsPertEnable_keeps {b0 : State} (value : Word) (who : Requester) (s : State) (hk : Keeps b0 s) : KeepsE b0 (execPcsPertEnable value who s) := by
  unfold execPcsPertEnable
  repeat' first
    | with_reducible assumption
    | with_reducible first
        | apply KeepsE.next | refine State.whenVamp_keeps _ _ ?_ ?_ | apply State.pertWrite_keeps

theorem State.freezeView_keeps {b0 : State} (s : State) (hk : Keeps b0 s) : Keeps b0 (State.freezeView s) := by
  unfold State.freezeView
  repeat' first
    | with_reducible assumption | (intro x; clear_value x) | lift_lets -underBinder
    | with_reducible first
        | (refine Keeps.ite (fun _ => ?_) (fun _ => ?_)) | (refine Keeps.upd ?_; assumption)
    | split

theorem State.readInstant_keeps {b0 : State} (s : State) (new : Conversion) (hk : Keeps b0 s) : Keeps b0 (State.readInstant s new) := by
  unfold State.readInstant
  repeat' first
    | with_reducible assumption | (intro x; clear_value x) | lift_lets -underBinder
    | with_reducible first
        | (refine Keeps.ite (fun _ => ?_) (fun _ => ?_)) | (refine Keeps.upd ?_; assumption)
    | split

theorem State.readPoint_keeps {b0 : State} (s : State) (new : Conversion) (hk : Keeps b0 s) : Keeps b0 (State.readPoint s new) := by
  unfold State.readPoint
  repeat' first
    | with_reducible assumption | (intro x; clear_value x) | lift_lets -underBinder
    | with_reducible first
        | apply State.burst_keeps | apply State.burstAbort_keeps | apply State.putWord_keeps
        | (refine Keeps.ite (fun _ => ?_) (fun _ => ?_)) | (refine Keeps.upd ?_; assumption)
    | split

theorem State.judgeDue_keeps {b0 : State} (s : State) (now : Nat) (hk : Keeps b0 s) : Keeps b0 (State.judgeDue s now) := by
  unfold State.judgeDue
  repeat' first
    | with_reducible assumption | lift_lets -underBinder
    | with_reducible first
        | apply State.burst_keeps | apply State.judgePoint_keeps | (refine Keeps.ite (fun _ => ?_) (fun _ => ?_))
    | split

theorem State.currentConversion_keeps {b0 : State} (s : State) (code : Int) (good : Bool) (hk : Keeps b0 s) : Keeps b0 (State.currentConversion s code good) := by
  unfold State.currentConversion
  repeat' first
    | with_reducible assumption
    | (intro x; refine @Keeps.cut (Keeps b0 x) _ ?_ ?_ <;> [subst x; (intro _; clear_value x)])
    | (intro x; clear_value x) | lift_lets -underBinder
    | with_reducible first
        | apply State.readInstant_keeps | apply State.readPoint_keeps | apply State.judgeDue_keeps
        | (refine Keeps.upd ?_; assumption)

theorem execAdcConversionReceive_keeps {b0 : State} (codes : List Int) (lost : Nat) (s : State) (hk : Keeps b0 s) : KeepsE b0 (execAdcConversionReceive codes lost s) := by
  unfold execAdcConversionReceive
  repeat' first
    | with_reducible assumption
    | (intro x; refine @Keeps.cut (Keeps b0 x) _ ?_ ?_ <;> [subst x; (intro _; clear_value x)])
    | (intro x; clear_value x) | lift_lets -underBinder
    | with_reducible first
        | apply KeepsE.next | apply hx | refine State.whenVamp_keeps _ _ ?_ ?_ | apply State.safConversion_keeps
        | apply State.setFld_keeps | apply State.flag_keeps | apply State.strobe_keeps
        | apply State.currentConversion_keeps | apply State.raiseConversion_keeps
        | refine Keeps.foldl (fun _ _ _ => ?_) ?_ | refine Keeps.foldl1 (fun _ _ _ => ?_) ?_
        | (refine Keeps.ite (fun _ => ?_) (fun _ => ?_)) | (refine Keeps.upd ?_; assumption)
    | split

end Sys2Proof.Machine
end

