-- ==== Sys2Proof/Laws/KeepsProgram.lean ====
section
/-!
SUPPORT. What no operation undoes (Laws/Keeps.lean), operation by operation: Bavin programs.
-/

namespace Sys2Proof.Machine

theorem State.setCore_keeps {b0 : State} (s : State) (core : Nat) (k : Option Nat) (hk : Keeps b0 s) : Keeps b0 (State.setCore s core k) := by
  unfold State.setCore
  repeat' first
    | with_reducible assumption | (intro x; clear_value x) | lift_lets -underBinder
    | with_reducible first
        | (refine Keeps.ite (fun _ => ?_) (fun _ => ?_)) | (refine Keeps.upd ?_; assumption)
    | split

theorem State.setTaskState_keeps {b0 : State} (s : State) (k v : Nat) (hk : Keeps b0 s) : Keeps b0 (State.setTaskState s k v) := by
  unfold State.setTaskState
  repeat' first
    | with_reducible assumption
    | with_reducible first
        | apply State.setFld_keeps

theorem State.placeProgram_keeps {b0 : State} (s : State) (p : Program) (hk : Keeps b0 s) : Keeps b0 (State.placeProgram s p) := by
  unfold State.placeProgram
  repeat' first
    | with_reducible assumption
    | with_reducible first
        | apply State.setFld_keeps | refine Keeps.foldl (fun _ _ _ => ?_) ?_

theorem State.takeSnapshot_keeps {b0 : State} (s : State) (p : Program) (k : Nat) (hk : Keeps b0 s) : Keeps b0 (State.takeSnapshot s p k) := by
  unfold State.takeSnapshot
  repeat' first
    | with_reducible assumption
    | (intro x; refine @Keeps.cut (Keeps b0 x) _ ?_ ?_ <;> [subst x; (intro _; clear_value x)])
    | (intro x; clear_value x) | lift_lets -underBinder
    | with_reducible first
        | apply State.setTask_keeps | apply State.refreshInputs_keeps | apply State.completeAll_keeps
        | (refine Keeps.ite (fun _ => ?_) (fun _ => ?_)) | (refine Keeps.upd ?_; assumption)

theorem execTaskStart_keeps {b0 : State} (core : Nat) (s : State) (hk : Keeps b0 s) : KeepsE b0 (execTaskStart core s) := by
  unfold execTaskStart
  repeat' first
    | with_reducible assumption
    | (intro x; refine @Keeps.cut (Keeps b0 x) _ ?_ ?_ <;> [subst x; (intro _; clear_value x)])
    | lift_lets -underBinder
    | with_reducible first
        | apply KeepsE.next | refine State.whenVamp_keeps _ _ ?_ ?_ | apply State.setTaskState_keeps
        | apply State.takeSnapshot_keeps | apply State.setCore_keeps
        | (refine Keeps.ite (fun _ => ?_) (fun _ => ?_))
    | split

theorem execTaskReleaseCyclic_keeps {b0 : State} (k : Nat) (s : State) (hk : Keeps b0 s) : KeepsE b0 (execTaskReleaseCyclic k s) := by
  unfold execTaskReleaseCyclic
  repeat' first
    | with_reducible assumption | (intro x; clear_value x) | lift_lets -underBinder
    | with_reducible first
        | apply KeepsE.next | refine State.whenVamp_keeps _ _ ?_ ?_ | apply State.setTaskState_keeps
        | apply State.setTask_keeps | apply State.incFld_keeps | apply State.flag_keeps
        | (refine Keeps.ite (fun _ => ?_) (fun _ => ?_))
    | split

theorem State.publishValue_keeps {b0 : State} (s : State) (p : Program) (sym el : Nat) (v : Quad) (hk : Keeps b0 s) : Keeps b0 (State.publishValue s p sym el v) := by
  unfold State.publishValue
  repeat' first
    | with_reducible assumption
    | (intro x; refine @Keeps.cut (Keeps b0 x) _ ?_ ?_ <;> [subst x; (intro _; clear_value x)])
    | (intro x; clear_value x) | lift_lets -underBinder
    | with_reducible first
        | apply State.setImage_keeps | (refine Keeps.ite (fun _ => ?_) (fun _ => ?_))
        | (refine Keeps.upd ?_; assumption)
    | split

theorem State.effect_keeps {b0 : State} (s : State) (p : Program) (e : Effect) (hk : Keeps b0 s) : Keeps b0 (State.effect s p e) := by
  unfold State.effect
  repeat' first
    | with_reducible assumption
    | (intro x; refine @Keeps.cut (Keeps b0 x) _ ?_ ?_ <;> [subst x; (intro _; clear_value x)])
    | (intro x; clear_value x) | lift_lets -underBinder
    | with_reducible first
        | apply State.wr_keeps | apply State.outReqClose_keeps | apply State.fire_keeps
        | apply State.safAckWrite_keeps | apply State.strobe_keeps | apply State.releaseEvent_keeps
        | (refine Keeps.ite (fun _ => ?_) (fun _ => ?_)) | (refine Keeps.upd ?_; assumption)
    | split

theorem State.finishCycle_keeps {b0 : State} (s : State) (core k : Nat) (hk : Keeps b0 s) : Keeps b0 (State.finishCycle s core k) := by
  unfold State.finishCycle
  repeat' first
    | with_reducible assumption
    | (intro x; refine @Keeps.cut (Keeps b0 x) _ ?_ ?_ <;> [subst x; (intro _; clear_value x)])
    | (intro x; clear_value x) | lift_lets -underBinder
    | with_reducible first
        | apply State.setTask_keeps | apply State.setTaskState_keeps | apply State.setFld_keeps
        | apply State.setCore_keeps | (refine Keeps.ite (fun _ => ?_) (fun _ => ?_))
    | split

theorem State.errorPublished_keeps {b0 : State} (s : State) (k : Nat) (hk : Keeps b0 s) : Keeps b0 (State.errorPublished s k) := by
  unfold State.errorPublished
  repeat' first
    | with_reducible assumption
    | (intro x; refine @Keeps.cut (Keeps b0 x) _ ?_ ?_ <;> [subst x; (intro _; clear_value x)])
    | (intro x; clear_value x) | lift_lets -underBinder
    | with_reducible first
        | apply State.setTask_keeps | apply State.setTaskState_keeps | refine Keeps.foldl (fun _ _ _ => ?_) ?_
        | refine Keeps.foldl1 (fun _ _ _ => ?_) ?_ | (refine Keeps.ite (fun _ => ?_) (fun _ => ?_))

theorem State.publish_keeps {b0 : State} (s : State) (p : Program) (k : Nat) (c : TaskCtx) (hk : Keeps b0 s) : Keeps b0 (State.publish s p k c) := by
  unfold State.publish
  repeat' first
    | with_reducible assumption
    | (intro x; refine @Keeps.cut (Keeps b0 x) _ ?_ ?_ <;> [subst x; (intro _; clear_value x)])
    | (intro x; clear_value x) | lift_lets -underBinder
    | with_reducible first
        | apply State.setTask_keeps | apply State.publishValue_keeps | apply State.incWrap_keeps
        | apply State.setFld_keeps | apply State.effect_keeps | apply State.errorPublished_keeps
        | refine Keeps.foldl (fun _ _ _ => ?_) ?_

theorem State.outputsSafe_keeps {b0 : State} (s : State) (p : Program) (hk : Keeps b0 s) : Keeps b0 (State.outputsSafe s p) := by
  unfold State.outputsSafe
  repeat' first
    | with_reducible assumption
    | with_reducible first
        | apply State.publishValue_keeps | refine Keeps.foldl (fun _ _ _ => ?_) ?_

theorem State.stopTasks_keeps {b0 : State} (s : State) (p : Program) (hk : Keeps b0 s) : Keeps b0 (State.stopTasks s p) := by
  unfold State.stopTasks
  repeat' first
    | with_reducible assumption
    | (intro x; refine @Keeps.cut (Keeps b0 x) _ ?_ ?_ <;> [subst x; (intro _; clear_value x)])
    | (intro x; clear_value x) | lift_lets -underBinder
    | with_reducible first
        | apply State.setTask_keeps | apply State.setTaskState_keeps | apply State.wr_keeps
        | apply State.outputsSafe_keeps | apply State.incWrap_keeps | apply State.setFld_keeps
        | refine Keeps.foldl (fun _ _ _ => ?_) ?_ | refine Keeps.foldl1 (fun _ _ _ => ?_) ?_
        | (refine Keeps.upd ?_; assumption)

theorem State.startTasks_keeps {b0 : State} (s : State) (p : Program) (hk : Keeps b0 s) : Keeps b0 (State.startTasks s p) := by
  unfold State.startTasks
  repeat' first
    | with_reducible assumption
    | (intro x; refine @Keeps.cut (Keeps b0 x) _ ?_ ?_ <;> [subst x; (intro _; clear_value x)])
    | (intro x; clear_value x) | lift_lets -underBinder
    | with_reducible first
        | apply State.publishValue_keeps | apply State.outputsSafe_keeps | apply State.placeProgram_keeps
        | apply State.setTask_keeps | apply State.setTaskState_keeps | apply State.refreshInputs_keeps
        | apply State.setFld_keeps | refine Keeps.foldl (fun _ _ _ => ?_) ?_
        | refine Keeps.foldl1 (fun _ _ _ => ?_) ?_ | (refine Keeps.upd ?_; assumption)

theorem State.runTasks_keeps {b0 : State} (s : State) (hk : Keeps b0 s) : Keeps b0 (State.runTasks s) := by
  unfold State.runTasks
  repeat' first
    | with_reducible assumption | lift_lets -underBinder
    | with_reducible first
        | apply State.startTasks_keeps | apply State.setMode_keeps | (refine Keeps.ite (fun _ => ?_) (fun _ => ?_))
    | split

theorem State.stopProgram_keeps {b0 : State} (s : State) (hk : Keeps b0 s) : Keeps b0 (State.stopProgram s) := by
  unfold State.stopProgram
  repeat' first
    | with_reducible assumption | lift_lets -underBinder
    | with_reducible first
        | apply State.stopTasks_keeps | (refine Keeps.ite (fun _ => ?_) (fun _ => ?_))
    | split

theorem State.haltTasks_keeps {b0 : State} (s : State) (hk : Keeps b0 s) : Keeps b0 (State.haltTasks s) := by
  unfold State.haltTasks
  repeat' first
    | with_reducible assumption
    | (intro x; refine @Keeps.cut (Keeps b0 x) _ ?_ ?_ <;> [subst x; (intro _; clear_value x)])
    | (intro x; clear_value x) | lift_lets -underBinder
    | with_reducible first
        | apply State.stopProgram_keeps | apply State.setMode_keeps | apply State.burstAbort_keeps
        | (refine Keeps.ite (fun _ => ?_) (fun _ => ?_)) | (refine Keeps.upd ?_; assumption)

theorem execTaskBalance_keeps {b0 : State} (used : List Nat) (s : State) (hk : Keeps b0 s) : KeepsE b0 (execTaskBalance used s) := by
  unfold execTaskBalance
  repeat' first
    | with_reducible assumption
    | (intro x; refine @Keeps.cut (Keeps b0 x) _ ?_ ?_ <;> [subst x; (intro _; clear_value x)])
    | (intro x; clear_value x) | lift_lets -underBinder
    | with_reducible first
        | apply KeepsE.next | apply hx | refine State.whenVamp_keeps _ _ ?_ ?_ | apply State.setFld_keeps
        | apply State.setTask_keeps | (refine Keeps.ite (fun _ => ?_) (fun _ => ?_))
    | split

theorem State.runtimeFault_keeps {b0 : State} (s : State) (k code operand pc : Nat) (hk : Keeps b0 s) : Keeps b0 (State.runtimeFault s k code operand pc) := by
  unfold State.runtimeFault
  repeat' first
    | with_reducible assumption
    | with_reducible first
        | apply State.flag_keeps | apply State.wr_keeps

theorem State.storeDevice_keeps {b0 : State} (s : State) (hk : Keeps b0 s) : Keeps b0 (State.storeDevice s) := by
  unfold State.storeDevice
  repeat' first
    | with_reducible assumption
    | (intro x; refine @Keeps.cut (Keeps b0 x) _ ?_ ?_ <;> [subst x; (intro _; clear_value x)])
    | (intro x; clear_value x) | lift_lets -underBinder
    | with_reducible first
        | apply State.insoleStart_keeps | (refine Keeps.upd ?_; assumption)

theorem State.showProgram_keeps {b0 : State} (s : State) (hk : Keeps b0 s) : Keeps b0 (State.showProgram s) := by
  unfold State.showProgram
  repeat' first
    | with_reducible assumption
    | (intro x; refine @Keeps.cut (Keeps b0 x) _ ?_ ?_ <;> [subst x; (intro _; clear_value x)])
    | (intro x; clear_value x) | lift_lets -underBinder
    | with_reducible first
        | apply hx | apply State.wr_keeps | apply State.setBit_keeps | refine Keeps.foldl (fun _ _ _ => ?_) ?_

theorem State.refuseChange_keeps {b0 : State} (s : State) (reason : Nat) (sym : Option Word) (hk : Keeps b0 s) : Keeps b0 (State.refuseChange s reason sym) := by
  unfold State.refuseChange
  repeat' first
    | with_reducible assumption
    | (intro x; refine @Keeps.cut (Keeps b0 x) _ ?_ ?_ <;> [subst x; (intro _; clear_value x)])
    | (intro x; clear_value x) | lift_lets -underBinder
    | with_reducible first
        | apply State.wr_keeps | apply State.setFld_keeps | apply State.setBit_keeps | apply State.flag_keeps
        | apply State.strobe_keeps | apply State.complete_keeps | (refine Keeps.ite (fun _ => ?_) (fun _ => ?_))
        | (refine Keeps.upd ?_; assumption)
    | split

theorem State.dropForces_keeps {b0 : State} (s : State) (cause : Nat) (gone : Force → Bool) (hk : Keeps b0 s) : Keeps b0 (State.dropForces s cause gone) := by
  unfold State.dropForces
  repeat' first
    | with_reducible assumption
    | (intro x; refine @Keeps.cut (Keeps b0 x) _ ?_ ?_ <;> [subst x; (intro _; clear_value x)])
    | (intro x; clear_value x) | lift_lets -underBinder
    | with_reducible first
        | apply State.setFld_keeps | apply State.flag_keeps | apply State.strobe_keeps
        | (refine Keeps.ite (fun _ => ?_) (fun _ => ?_)) | (refine Keeps.upd ?_; assumption)

theorem State.carryImage_keeps {b0 : State} (s : State) (old new : Program) (hk : Keeps b0 s) : Keeps b0 (State.carryImage s old new) := by
  unfold State.carryImage
  repeat' first
    | with_reducible assumption
    | (intro x; refine @Keeps.cut (Keeps b0 x) _ ?_ ?_ <;> [subst x; (intro _; clear_value x)])
    | (intro x; clear_value x) | lift_lets -underBinder
    | with_reducible first
        | apply State.setImage_keeps | refine Keeps.foldl (fun _ _ _ => ?_) ?_
        | refine Keeps.foldl1 (fun _ _ _ => ?_) ?_ | (refine Keeps.upd ?_; assumption)

theorem State.carryWaiting_keeps {b0 : State} (s : State) (old new : Program) (hk : Keeps b0 s) : Keeps b0 (State.carryWaiting s old new) := by
  unfold State.carryWaiting
  repeat' first
    | with_reducible assumption
    | (intro x; refine @Keeps.cut (Keeps b0 x) _ ?_ ?_ <;> [subst x; (intro _; clear_value x)])
    | (intro x; clear_value x) | lift_lets -underBinder
    | with_reducible first
        | apply hx | apply State.completeAll_keeps | (refine Keeps.ite (fun _ => ?_) (fun _ => ?_))
        | (refine Keeps.upd ?_; assumption)

theorem State.carryReleases_keeps {b0 : State} (s : State) (sources : List Nat) (hk : Keeps b0 s) : Keeps b0 (State.carryReleases s sources) := by
  unfold State.carryReleases
  repeat' first
    | with_reducible assumption
    | with_reducible first
        | apply State.releaseEvent_keeps | refine Keeps.foldl (fun _ _ _ => ?_) ?_
        | refine Keeps.foldl1 (fun _ _ _ => ?_) ?_ | (refine Keeps.ite (fun _ => ?_) (fun _ => ?_))
    | split

theorem State.switchProgram_keeps {b0 : State} (s : State) (old new : Program) (c : Change) (hk : Keeps b0 s) : Keeps b0 (State.switchProgram s old new c) := by
  unfold State.switchProgram
  repeat' first
    | with_reducible assumption
    | (intro x; refine @Keeps.cut (Keeps b0 x) _ ?_ ?_ <;> [subst x; (intro _; clear_value x)])
    | (intro x; clear_value x) | lift_lets -underBinder
    | with_reducible first
        | apply State.dropForces_keeps | apply State.carryWaiting_keeps | apply State.setBit_keeps
        | apply State.wr_keeps | apply State.carryImage_keeps | apply State.startStations_keeps
        | apply State.showProgram_keeps | apply State.placeProgram_keeps | apply State.setTaskState_keeps
        | apply State.carryReleases_keeps | apply State.outputsSafe_keeps | apply State.refreshInputs_keeps
        | apply State.ticks_keeps | apply State.drawn_keeps | apply State.rewriteAllocMap_keeps
        | apply State.storeDevice_keeps | apply State.setFld_keeps | apply State.strobe_keeps
        | apply State.persistTrigger_keeps | apply State.complete_keeps | refine Keeps.foldl (fun _ _ _ => ?_) ?_
        | refine Keeps.foldl1 (fun _ _ _ => ?_) ?_ | (refine Keeps.ite (fun _ => ?_) (fun _ => ?_))
        | (refine Keeps.upd ?_; assumption)
    | split

theorem State.changeBoundary_keeps {b0 : State} (s : State) (hk : Keeps b0 s) : Keeps b0 (State.changeBoundary s) := by
  unfold State.changeBoundary
  repeat' first
    | with_reducible assumption
    | (intro x; refine @Keeps.cut (Keeps b0 x) _ ?_ ?_ <;> [subst x; (intro _; clear_value x)])
    | (intro x; clear_value x) | lift_lets -underBinder
    | with_reducible first
        | apply State.refuseChange_keeps | apply State.switchProgram_keeps
        | (refine Keeps.ite (fun _ => ?_) (fun _ => ?_)) | (refine Keeps.upd ?_; assumption)
    | split

theorem State.requestChange_keeps {b0 : State} (s : State) (dropForces : Bool) (hk : Keeps b0 s) : Keeps b0 (State.requestChange s dropForces) := by
  unfold State.requestChange
  repeat' first
    | with_reducible assumption
    | (intro x; refine @Keeps.cut (Keeps b0 x) _ ?_ ?_ <;> [subst x; (intro _; clear_value x)])
    | (intro x; clear_value x) | lift_lets -underBinder
    | with_reducible first
        | apply State.refuseChange_keeps | apply State.dropForces_keeps | apply State.setFld_keeps
        | apply State.setBit_keeps | apply State.changeBoundary_keeps
        | (refine Keeps.ite (fun _ => ?_) (fun _ => ?_)) | (refine Keeps.upd ?_; assumption)
    | split

theorem execPrgChangeReq_keeps {b0 : State} (s : State) (hk : Keeps b0 s) : KeepsE b0 (execPrgChangeReq s) := by
  unfold execPrgChangeReq
  repeat' first
    | with_reducible assumption
    | with_reducible first
        | apply KeepsE.next | refine State.whenVamp_keeps _ _ ?_ ?_ | apply State.requestChange_keeps

theorem State.abortChange_keeps {b0 : State} (s : State) (hk : Keeps b0 s) : Keeps b0 (State.abortChange s) := by
  unfold State.abortChange
  repeat' first
    | with_reducible assumption
    | with_reducible first
        | apply State.refuseChange_keeps | (refine Keeps.ite (fun _ => ?_) (fun _ => ?_))

theorem execPrgChangeAbort_keeps {b0 : State} (s : State) (hk : Keeps b0 s) : KeepsE b0 (execPrgChangeAbort s) := by
  unfold execPrgChangeAbort
  repeat' first
    | with_reducible assumption
    | with_reducible first
        | apply KeepsE.next | refine State.whenVamp_keeps _ _ ?_ ?_ | apply State.abortChange_keeps

theorem execOnlineChangeSwitch_keeps {b0 : State} (s : State) (hk : Keeps b0 s) : KeepsE b0 (execOnlineChangeSwitch s) := by
  unfold execOnlineChangeSwitch
  repeat' first
    | with_reducible assumption
    | with_reducible first
        | apply KeepsE.next | refine State.whenVamp_keeps _ _ ?_ ?_ | apply State.changeBoundary_keeps

theorem State.stopRequest_keeps {b0 : State} (s : State) (hk : Keeps b0 s) : Keeps b0 (State.stopRequest s) := by
  unfold State.stopRequest
  repeat' first
    | with_reducible assumption
    | with_reducible first
        | apply State.haltTasks_keeps | apply State.changeBoundary_keeps

theorem execPrgStopReq_keeps {b0 : State} (s : State) (hk : Keeps b0 s) : KeepsE b0 (execPrgStopReq s) := by
  unfold execPrgStopReq
  repeat' first
    | with_reducible assumption
    | with_reducible first
        | apply KeepsE.next | refine State.whenVamp_keeps _ _ ?_ ?_ | apply State.stopRequest_keeps

theorem execTaskDeadlineExpiry_keeps {b0 : State} (k : Nat) (s : State) (hk : Keeps b0 s) : KeepsE b0 (execTaskDeadlineExpiry k s) := by
  unfold execTaskDeadlineExpiry
  repeat' first
    | with_reducible assumption
    | (intro x; refine @Keeps.cut (Keeps b0 x) _ ?_ ?_ <;> [subst x; (intro _; clear_value x)])
    | (intro x; clear_value x) | lift_lets -underBinder
    | with_reducible first
        | apply KeepsE.next | refine State.whenVamp_keeps _ _ ?_ ?_ | apply State.stopTasks_keeps
        | apply State.flag_keeps | apply State.strobe_keeps | apply State.setBit_keeps | apply State.setMode_keeps
        | apply State.burstAbort_keeps | apply State.find_keeps | apply State.unfind_keeps
        | apply State.changeBoundary_keeps | (refine Keeps.ite (fun _ => ?_) (fun _ => ?_))
        | (refine Keeps.upd ?_; assumption)
    | split

theorem State.loadProgram_keeps {b0 : State} (s : State) (hk : Keeps b0 s) : Keeps b0 (State.loadProgram s) := by
  unfold State.loadProgram
  repeat' first
    | with_reducible assumption
    | (intro x; refine @Keeps.cut (Keeps b0 x) _ ?_ ?_ <;> [subst x; (intro _; clear_value x)])
    | (intro x; clear_value x) | lift_lets -underBinder
    | with_reducible first
        | apply State.showProgram_keeps | apply State.setFld_keeps | apply State.wr_keeps
        | apply State.publishValue_keeps | apply State.startStations_keeps | apply State.refreshInputs_keeps
        | apply State.setTaskState_keeps | apply State.rewriteAllocMap_keeps
        | refine Keeps.foldl (fun _ _ _ => ?_) ?_ | refine Keeps.foldl1 (fun _ _ _ => ?_) ?_
        | (refine Keeps.ite (fun _ => ?_) (fun _ => ?_)) | (refine Keeps.upd ?_; assumption)
    | split

theorem State.setCtx_keeps {b0 : State} (s : State) (k : Nat) (c : TaskCtx) (hk : Keeps b0 s) : Keeps b0 (State.setCtx s k c) := by
  unfold State.setCtx
  repeat' first
    | with_reducible assumption | (intro x; clear_value x) | lift_lets -underBinder
    | with_reducible first
        | apply State.setTask_keeps

theorem State.bavin_keeps {b0 : State} (s : State) (core : Nat) (code : Option Bytes) (f : TaskCtx → Option TaskCtx) (hk : Keeps b0 s) : KeepsE b0 (State.bavin s core code f) := by
  unfold State.bavin
  repeat' first
    | with_reducible assumption | lift_lets -underBinder
    | with_reducible first
        | apply KeepsE.next | apply State.setCtx_keeps | (refine Keeps.ite (fun _ => ?_) (fun _ => ?_))
    | split

theorem State.bavinDo_keeps {b0 : State} (s : State) (core : Nat) (code : Option Bytes)
    (f : Nat → Nat → TaskCtx → Option (TaskCtx × (State → State))) (hf : ∀ k pc c, KeepsP b0 (f k pc c))
    (h : Keeps b0 s) : KeepsE b0 (s.bavinDo core code f) := by
  unfold State.bavinDo
  split
  · exact KeepsE.next h
  · split
    · exact KeepsE.next h
    · rename_i e
      exact KeepsE.next (hf _ _ _ _ _ e _ (State.setCtx_keeps _ _ _ h))

theorem State.drawnQuad_keeps {b0 : State} (s : State) (hk : Keeps b0 s) : Keeps b0 (State.drawnQuad s) := by
  unfold State.drawnQuad
  repeat' first
    | with_reducible assumption
    | with_reducible first
        | apply State.drawn_keeps

theorem execBavinNop_keeps {b0 : State} (core : Nat) (s : State) (hk : Keeps b0 s) : KeepsE b0 (execBavinNop core s) := by
  unfold execBavinNop
  repeat' first
    | with_reducible assumption
    | with_reducible first
        | apply KeepsE.next | apply State.bavin_keeps

theorem execBavinDup_keeps {b0 : State} (core : Nat) (s : State) (hk : Keeps b0 s) : KeepsE b0 (execBavinDup core s) := by
  unfold execBavinDup
  repeat' first
    | with_reducible assumption
    | with_reducible first
        | apply KeepsE.next | apply State.bavin_keeps

theorem execBavinDrop_keeps {b0 : State} (core : Nat) (s : State) (hk : Keeps b0 s) : KeepsE b0 (execBavinDrop core s) := by
  unfold execBavinDrop
  repeat' first
    | with_reducible assumption
    | with_reducible first
        | apply KeepsE.next | apply State.bavin_keeps

theorem execBavinSwap_keeps {b0 : State} (core : Nat) (s : State) (hk : Keeps b0 s) : KeepsE b0 (execBavinSwap core s) := by
  unfold execBavinSwap
  repeat' first
    | with_reducible assumption | lift_lets -underBinder
    | with_reducible first
        | apply KeepsE.next | apply State.bavin_keeps

theorem execBavinOver_keeps {b0 : State} (core : Nat) (s : State) (hk : Keeps b0 s) : KeepsE b0 (execBavinOver core s) := by
  unfold execBavinOver
  repeat' first
    | with_reducible assumption | lift_lets -underBinder
    | with_reducible first
        | apply KeepsE.next | apply State.bavin_keeps

theorem execBavinRot_keeps {b0 : State} (core : Nat) (s : State) (hk : Keeps b0 s) : KeepsE b0 (execBavinRot core s) := by
  unfold execBavinRot
  repeat' first
    | with_reducible assumption | lift_lets -underBinder
    | with_reducible first
        | apply KeepsE.next | apply State.bavin_keeps

theorem execBavinPick_keeps {b0 : State} (core : Nat) (n : Nat) (s : State) (hk : Keeps b0 s) : KeepsE b0 (execBavinPick core n s) := by
  unfold execBavinPick
  repeat' first
    | with_reducible assumption
    | with_reducible first
        | apply KeepsE.next | apply State.bavin_keeps

theorem execBavinLit_keeps {b0 : State} (core : Nat) (t v : Nat) (s : State) (hk : Keeps b0 s) : KeepsE b0 (execBavinLit core t v s) := by
  unfold execBavinLit
  repeat' first
    | with_reducible assumption
    | with_reducible first
        | apply KeepsE.next | apply State.bavin_keeps

theorem execBavinLoad_keeps {b0 : State} (core : Nat) (t y : Nat) (s : State) (hk : Keeps b0 s) : KeepsE b0 (execBavinLoad core t y s) := by
  unfold execBavinLoad
  repeat' first
    | with_reducible assumption
    | with_reducible first
        | apply KeepsE.next | apply State.bavin_keeps

theorem execBavinStore_keeps {b0 : State} (core : Nat) (t y : Nat) (s : State) (hk : Keeps b0 s) : KeepsE b0 (execBavinStore core t y s) := by
  unfold execBavinStore
  repeat' first
    | with_reducible assumption
    | with_reducible first
        | apply KeepsE.next | apply State.bavin_keeps

theorem execBavinLoadx_keeps {b0 : State} (core : Nat) (t y : Nat) (s : State) (hk : Keeps b0 s) : KeepsE b0 (execBavinLoadx core t y s) := by
  unfold execBavinLoadx
  repeat' first
    | with_reducible assumption | (intro x; clear_value x) | lift_lets -underBinder
    | with_reducible first
        | apply KeepsE.next | refine State.bavinDo_keeps _ _ _ _ (fun _ _ _ => ?_) ?_
        | apply State.runtimeFault_keeps | exact KeepsP.none | exact KeepsP.same
        | refine KeepsP.some (fun _ _ => ?_) | (refine Keeps.ite (fun _ => ?_) (fun _ => ?_))
    | split

theorem execBavinStorex_keeps {b0 : State} (core : Nat) (t y : Nat) (s : State) (hk : Keeps b0 s) : KeepsE b0 (execBavinStorex core t y s) := by
  unfold execBavinStorex
  repeat' first
    | with_reducible assumption | (intro x; clear_value x) | lift_lets -underBinder
    | with_reducible first
        | apply KeepsE.next | refine State.bavinDo_keeps _ _ _ _ (fun _ _ _ => ?_) ?_
        | apply State.runtimeFault_keeps | exact KeepsP.none | exact KeepsP.same
        | refine KeepsP.some (fun _ _ => ?_) | (refine Keeps.ite (fun _ => ?_) (fun _ => ?_))
    | split

theorem execBavinAdd_keeps {b0 : State} (core : Nat) (t : Nat) (s : State) (hk : Keeps b0 s) : KeepsE b0 (execBavinAdd core t s) := by
  unfold execBavinAdd
  repeat' first
    | with_reducible assumption
    | with_reducible first
        | apply KeepsE.next | apply State.bavin_keeps

theorem execBavinSub_keeps {b0 : State} (core : Nat) (t : Nat) (s : State) (hk : Keeps b0 s) : KeepsE b0 (execBavinSub core t s) := by
  unfold execBavinSub
  repeat' first
    | with_reducible assumption
    | with_reducible first
        | apply KeepsE.next | apply State.bavin_keeps

theorem execBavinMul_keeps {b0 : State} (core : Nat) (t : Nat) (s : State) (hk : Keeps b0 s) : KeepsE b0 (execBavinMul core t s) := by
  unfold execBavinMul
  repeat' first
    | with_reducible assumption
    | with_reducible first
        | apply KeepsE.next | apply State.bavin_keeps

theorem State.divide_keeps {b0 s : State} {t k pc : Nat} {q : Option Int} {u : State} (h : Keeps b0 u) :
    Keeps b0 ((s.divide t k pc q).2 u) := by
  unfold State.divide
  split
  · exact State.runtimeFault_keeps _ _ _ _ _ h
  · split
    · exact h
    · exact State.drawn_keeps h

theorem execBavinDiv_keeps {b0 : State} (core : Nat) (t : Nat) (s : State) (hk : Keeps b0 s) : KeepsE b0 (execBavinDiv core t s) := by
  unfold execBavinDiv
  repeat' first
    | with_reducible assumption
    | (intro x; refine @Keeps.cut (∀ t, Keeps b0 t → Keeps b0 (x.2 t)) _ ?_ ?_ <;> [(subst x; intro _ _); (intro hx; clear_value x)])
    | lift_lets -underBinder
    | with_reducible first
        | apply KeepsE.next | refine State.bavinDo_keeps _ _ _ _ (fun _ _ _ => ?_) ?_ | apply State.divide_keeps
        | exact KeepsP.none | exact KeepsP.same | refine KeepsP.some (fun _ _ => ?_) | apply hx
        | (refine Keeps.ite (fun _ => ?_) (fun _ => ?_))
    | split

theorem execBavinMod_keeps {b0 : State} (core : Nat) (t : Nat) (s : State) (hk : Keeps b0 s) : KeepsE b0 (execBavinMod core t s) := by
  unfold execBavinMod
  repeat' first
    | with_reducible assumption
    | (intro x; refine @Keeps.cut (∀ t, Keeps b0 t → Keeps b0 (x.2 t)) _ ?_ ?_ <;> [(subst x; intro _ _); (intro hx; clear_value x)])
    | lift_lets -underBinder
    | with_reducible first
        | apply KeepsE.next | refine State.bavinDo_keeps _ _ _ _ (fun _ _ _ => ?_) ?_ | apply State.divide_keeps
        | exact KeepsP.none | exact KeepsP.same | refine KeepsP.some (fun _ _ => ?_) | apply hx
        | (refine Keeps.ite (fun _ => ?_) (fun _ => ?_))
    | split

theorem execBavinNeg_keeps {b0 : State} (core : Nat) (t : Nat) (s : State) (hk : Keeps b0 s) : KeepsE b0 (execBavinNeg core t s) := by
  unfold execBavinNeg
  repeat' first
    | with_reducible assumption
    | with_reducible first
        | apply KeepsE.next | apply State.bavin_keeps

theorem execBavinAbs_keeps {b0 : State} (core : Nat) (t : Nat) (s : State) (hk : Keeps b0 s) : KeepsE b0 (execBavinAbs core t s) := by
  unfold execBavinAbs
  repeat' first
    | with_reducible assumption
    | with_reducible first
        | apply KeepsE.next | apply State.bavin_keeps

theorem execBavinMin_keeps {b0 : State} (core : Nat) (t : Nat) (s : State) (hk : Keeps b0 s) : KeepsE b0 (execBavinMin core t s) := by
  unfold execBavinMin
  repeat' first
    | with_reducible assumption
    | with_reducible first
        | apply KeepsE.next | apply State.bavin_keeps

theorem execBavinMax_keeps {b0 : State} (core : Nat) (t : Nat) (s : State) (hk : Keeps b0 s) : KeepsE b0 (execBavinMax core t s) := by
  unfold execBavinMax
  repeat' first
    | with_reducible assumption
    | with_reducible first
        | apply KeepsE.next | apply State.bavin_keeps

theorem execBavinEq_keeps {b0 : State} (core : Nat) (t : Nat) (s : State) (hk : Keeps b0 s) : KeepsE b0 (execBavinEq core t s) := by
  unfold execBavinEq
  repeat' first
    | with_reducible assumption
    | with_reducible first
        | apply KeepsE.next | apply State.bavin_keeps

theorem execBavinNe_keeps {b0 : State} (core : Nat) (t : Nat) (s : State) (hk : Keeps b0 s) : KeepsE b0 (execBavinNe core t s) := by
  unfold execBavinNe
  repeat' first
    | with_reducible assumption
    | with_reducible first
        | apply KeepsE.next | apply State.bavin_keeps

theorem execBavinLt_keeps {b0 : State} (core : Nat) (t : Nat) (s : State) (hk : Keeps b0 s) : KeepsE b0 (execBavinLt core t s) := by
  unfold execBavinLt
  repeat' first
    | with_reducible assumption
    | with_reducible first
        | apply KeepsE.next | apply State.bavin_keeps

theorem execBavinLe_keeps {b0 : State} (core : Nat) (t : Nat) (s : State) (hk : Keeps b0 s) : KeepsE b0 (execBavinLe core t s) := by
  unfold execBavinLe
  repeat' first
    | with_reducible assumption
    | with_reducible first
        | apply KeepsE.next | apply State.bavin_keeps

theorem execBavinGt_keeps {b0 : State} (core : Nat) (t : Nat) (s : State) (hk : Keeps b0 s) : KeepsE b0 (execBavinGt core t s) := by
  unfold execBavinGt
  repeat' first
    | with_reducible assumption
    | with_reducible first
        | apply KeepsE.next | apply State.bavin_keeps

theorem execBavinGe_keeps {b0 : State} (core : Nat) (t : Nat) (s : State) (hk : Keeps b0 s) : KeepsE b0 (execBavinGe core t s) := by
  unfold execBavinGe
  repeat' first
    | with_reducible assumption
    | with_reducible first
        | apply KeepsE.next | apply State.bavin_keeps

theorem execBavinAnd_keeps {b0 : State} (core : Nat) (t : Nat) (s : State) (hk : Keeps b0 s) : KeepsE b0 (execBavinAnd core t s) := by
  unfold execBavinAnd
  repeat' first
    | with_reducible assumption
    | with_reducible first
        | apply KeepsE.next | apply State.bavin_keeps

theorem execBavinOr_keeps {b0 : State} (core : Nat) (t : Nat) (s : State) (hk : Keeps b0 s) : KeepsE b0 (execBavinOr core t s) := by
  unfold execBavinOr
  repeat' first
    | with_reducible assumption
    | with_reducible first
        | apply KeepsE.next | apply State.bavin_keeps

theorem execBavinXor_keeps {b0 : State} (core : Nat) (t : Nat) (s : State) (hk : Keeps b0 s) : KeepsE b0 (execBavinXor core t s) := by
  unfold execBavinXor
  repeat' first
    | with_reducible assumption
    | with_reducible first
        | apply KeepsE.next | apply State.bavin_keeps

theorem execBavinNot_keeps {b0 : State} (core : Nat) (t : Nat) (s : State) (hk : Keeps b0 s) : KeepsE b0 (execBavinNot core t s) := by
  unfold execBavinNot
  repeat' first
    | with_reducible assumption
    | with_reducible first
        | apply KeepsE.next | apply State.bavin_keeps

theorem execBavinShl_keeps {b0 : State} (core : Nat) (t : Nat) (s : State) (hk : Keeps b0 s) : KeepsE b0 (execBavinShl core t s) := by
  unfold execBavinShl
  repeat' first
    | with_reducible assumption
    | with_reducible first
        | apply KeepsE.next | apply State.bavin_keeps

theorem execBavinShr_keeps {b0 : State} (core : Nat) (t : Nat) (s : State) (hk : Keeps b0 s) : KeepsE b0 (execBavinShr core t s) := by
  unfold execBavinShr
  repeat' first
    | with_reducible assumption
    | with_reducible first
        | apply KeepsE.next | apply State.bavin_keeps

theorem execBavinConv_keeps {b0 : State} (core : Nat) (src dst : Nat) (s : State) (hk : Keeps b0 s) : KeepsE b0 (execBavinConv core src dst s) := by
  unfold execBavinConv
  repeat' first
    | with_reducible assumption
    | with_reducible first
        | apply KeepsE.next | apply State.bavin_keeps

theorem execBavinJmp_keeps {b0 : State} (core : Nat) (offset : Int) (s : State) (hk : Keeps b0 s) : KeepsE b0 (execBavinJmp core offset s) := by
  unfold execBavinJmp
  repeat' first
    | with_reducible assumption
    | with_reducible first
        | apply KeepsE.next | apply State.bavin_keeps

theorem execBavinJmpt_keeps {b0 : State} (core : Nat) (offset : Int) (s : State) (hk : Keeps b0 s) : KeepsE b0 (execBavinJmpt core offset s) := by
  unfold execBavinJmpt
  repeat' first
    | with_reducible assumption
    | with_reducible first
        | apply KeepsE.next | apply State.bavin_keeps

theorem execBavinJmpf_keeps {b0 : State} (core : Nat) (offset : Int) (s : State) (hk : Keeps b0 s) : KeepsE b0 (execBavinJmpf core offset s) := by
  unfold execBavinJmpf
  repeat' first
    | with_reducible assumption
    | with_reducible first
        | apply KeepsE.next | apply State.bavin_keeps

theorem execBavinCall_keeps {b0 : State} (core : Nat) (f : Nat) (s : State) (hk : Keeps b0 s) : KeepsE b0 (execBavinCall core f s) := by
  unfold execBavinCall
  repeat' first
    | with_reducible assumption | lift_lets -underBinder
    | with_reducible first
        | apply KeepsE.next | apply State.bavin_keeps

theorem execBavinRet_keeps {b0 : State} (core : Nat) (s : State) (hk : Keeps b0 s) : KeepsE b0 (execBavinRet core s) := by
  unfold execBavinRet
  repeat' first
    | with_reducible assumption | lift_lets -underBinder
    | with_reducible first
        | apply KeepsE.next | apply State.bavin_keeps

theorem execBavinEnd_keeps {b0 : State} (core : Nat) (s : State) (hk : Keeps b0 s) : KeepsE b0 (execBavinEnd core s) := by
  unfold execBavinEnd
  repeat' first
    | with_reducible assumption | lift_lets -underBinder
    | with_reducible first
        | apply KeepsE.next | apply State.publish_keeps | apply State.finishCycle_keeps
        | (refine Keeps.ite (fun _ => ?_) (fun _ => ?_))
    | split

theorem execBavinSel_keeps {b0 : State} (core : Nat) (t : Nat) (s : State) (hk : Keeps b0 s) : KeepsE b0 (execBavinSel core t s) := by
  unfold execBavinSel
  repeat' first
    | with_reducible assumption
    | with_reducible first
        | apply KeepsE.next | apply State.bavin_keeps

theorem execBavinLimit_keeps {b0 : State} (core : Nat) (t : Nat) (s : State) (hk : Keeps b0 s) : KeepsE b0 (execBavinLimit core t s) := by
  unfold execBavinLimit
  repeat' first
    | with_reducible assumption
    | with_reducible first
        | apply KeepsE.next | apply State.bavin_keeps

theorem execBavinLdl_keeps {b0 : State} (core : Nat) (slot : Nat) (s : State) (hk : Keeps b0 s) : KeepsE b0 (execBavinLdl core slot s) := by
  unfold execBavinLdl
  repeat' first
    | with_reducible assumption | (intro x; clear_value x) | lift_lets -underBinder
    | with_reducible first
        | apply KeepsE.next | refine State.bavinDo_keeps _ _ _ _ (fun _ _ _ => ?_) ?_ | apply State.drawnQuad_keeps
        | exact KeepsP.none | exact KeepsP.same | refine KeepsP.some (fun _ _ => ?_)
        | (refine Keeps.ite (fun _ => ?_) (fun _ => ?_))
    | split

theorem execBavinStl_keeps {b0 : State} (core : Nat) (slot : Nat) (s : State) (hk : Keeps b0 s) : KeepsE b0 (execBavinStl core slot s) := by
  unfold execBavinStl
  repeat' first
    | with_reducible assumption | lift_lets -underBinder
    | with_reducible first
        | apply KeepsE.next | apply State.bavin_keeps

theorem execBavinSqrt_keeps {b0 : State} (core : Nat) (s : State) (hk : Keeps b0 s) : KeepsE b0 (execBavinSqrt core s) := by
  unfold execBavinSqrt
  repeat' first
    | with_reducible assumption
    | with_reducible first
        | apply KeepsE.next | apply State.bavin_keeps

theorem execBavinExp_keeps {b0 : State} (core : Nat) (s : State) (hk : Keeps b0 s) : KeepsE b0 (execBavinExp core s) := by
  unfold execBavinExp
  repeat' first
    | with_reducible assumption
    | with_reducible first
        | apply KeepsE.next | apply State.bavin_keeps

theorem execBavinLn_keeps {b0 : State} (core : Nat) (s : State) (hk : Keeps b0 s) : KeepsE b0 (execBavinLn core s) := by
  unfold execBavinLn
  repeat' first
    | with_reducible assumption
    | with_reducible first
        | apply KeepsE.next | apply State.bavin_keeps

theorem execBavinLog10_keeps {b0 : State} (core : Nat) (s : State) (hk : Keeps b0 s) : KeepsE b0 (execBavinLog10 core s) := by
  unfold execBavinLog10
  repeat' first
    | with_reducible assumption
    | with_reducible first
        | apply KeepsE.next | apply State.bavin_keeps

theorem execBavinSin_keeps {b0 : State} (core : Nat) (s : State) (hk : Keeps b0 s) : KeepsE b0 (execBavinSin core s) := by
  unfold execBavinSin
  repeat' first
    | with_reducible assumption
    | with_reducible first
        | apply KeepsE.next | apply State.bavin_keeps

theorem execBavinCos_keeps {b0 : State} (core : Nat) (s : State) (hk : Keeps b0 s) : KeepsE b0 (execBavinCos core s) := by
  unfold execBavinCos
  repeat' first
    | with_reducible assumption
    | with_reducible first
        | apply KeepsE.next | apply State.bavin_keeps

theorem execBavinTan_keeps {b0 : State} (core : Nat) (s : State) (hk : Keeps b0 s) : KeepsE b0 (execBavinTan core s) := by
  unfold execBavinTan
  repeat' first
    | with_reducible assumption
    | with_reducible first
        | apply KeepsE.next | apply State.bavin_keeps

theorem execBavinAsin_keeps {b0 : State} (core : Nat) (s : State) (hk : Keeps b0 s) : KeepsE b0 (execBavinAsin core s) := by
  unfold execBavinAsin
  repeat' first
    | with_reducible assumption
    | with_reducible first
        | apply KeepsE.next | apply State.bavin_keeps

theorem execBavinAcos_keeps {b0 : State} (core : Nat) (s : State) (hk : Keeps b0 s) : KeepsE b0 (execBavinAcos core s) := by
  unfold execBavinAcos
  repeat' first
    | with_reducible assumption
    | with_reducible first
        | apply KeepsE.next | apply State.bavin_keeps

theorem execBavinAtan_keeps {b0 : State} (core : Nat) (s : State) (hk : Keeps b0 s) : KeepsE b0 (execBavinAtan core s) := by
  unfold execBavinAtan
  repeat' first
    | with_reducible assumption
    | with_reducible first
        | apply KeepsE.next | apply State.bavin_keeps

theorem execBavinAtan2_keeps {b0 : State} (core : Nat) (s : State) (hk : Keeps b0 s) : KeepsE b0 (execBavinAtan2 core s) := by
  unfold execBavinAtan2
  repeat' first
    | with_reducible assumption
    | with_reducible first
        | apply KeepsE.next | apply State.bavin_keeps

theorem execBavinPow_keeps {b0 : State} (core : Nat) (s : State) (hk : Keeps b0 s) : KeepsE b0 (execBavinPow core s) := by
  unfold execBavinPow
  repeat' first
    | with_reducible assumption
    | with_reducible first
        | apply KeepsE.next | apply State.bavin_keeps

theorem execBavinTrunc_keeps {b0 : State} (core : Nat) (s : State) (hk : Keeps b0 s) : KeepsE b0 (execBavinTrunc core s) := by
  unfold execBavinTrunc
  repeat' first
    | with_reducible assumption
    | with_reducible first
        | apply KeepsE.next | apply State.bavin_keeps

theorem execBavinRound_keeps {b0 : State} (core : Nat) (s : State) (hk : Keeps b0 s) : KeepsE b0 (execBavinRound core s) := by
  unfold execBavinRound
  repeat' first
    | with_reducible assumption
    | with_reducible first
        | apply KeepsE.next | apply State.bavin_keeps

theorem execBavinFloor_keeps {b0 : State} (core : Nat) (s : State) (hk : Keeps b0 s) : KeepsE b0 (execBavinFloor core s) := by
  unfold execBavinFloor
  repeat' first
    | with_reducible assumption
    | with_reducible first
        | apply KeepsE.next | apply State.bavin_keeps

theorem execBavinCeil_keeps {b0 : State} (core : Nat) (s : State) (hk : Keeps b0 s) : KeepsE b0 (execBavinCeil core s) := by
  unfold execBavinCeil
  repeat' first
    | with_reducible assumption
    | with_reducible first
        | apply KeepsE.next | apply State.bavin_keeps

theorem execBavinIsnan_keeps {b0 : State} (core : Nat) (s : State) (hk : Keeps b0 s) : KeepsE b0 (execBavinIsnan core s) := by
  unfold execBavinIsnan
  repeat' first
    | with_reducible assumption
    | with_reducible first
        | apply KeepsE.next | apply State.bavin_keeps

theorem execBavinFma_keeps {b0 : State} (core : Nat) (s : State) (hk : Keeps b0 s) : KeepsE b0 (execBavinFma core s) := by
  unfold execBavinFma
  repeat' first
    | with_reducible assumption
    | with_reducible first
        | apply KeepsE.next | apply State.bavin_keeps

theorem execBavinRol_keeps {b0 : State} (core : Nat) (t : Nat) (s : State) (hk : Keeps b0 s) : KeepsE b0 (execBavinRol core t s) := by
  unfold execBavinRol
  repeat' first
    | with_reducible assumption
    | with_reducible first
        | apply KeepsE.next | apply State.bavin_keeps

theorem execBavinRor_keeps {b0 : State} (core : Nat) (t : Nat) (s : State) (hk : Keeps b0 s) : KeepsE b0 (execBavinRor core t s) := by
  unfold execBavinRor
  repeat' first
    | with_reducible assumption
    | with_reducible first
        | apply KeepsE.next | apply State.bavin_keeps

theorem State.bitOp_keeps {b0 : State} (s : State) (core t op : Nat) (inside : Quad → Quad → Quad) (free : Quad) (hk : Keeps b0 s) : KeepsE b0 (State.bitOp s core t op inside free) := by
  unfold State.bitOp
  repeat' first
    | with_reducible assumption | lift_lets -underBinder
    | with_reducible first
        | apply KeepsE.next | refine State.bavinDo_keeps _ _ _ _ (fun _ _ _ => ?_) ?_ | apply State.drawn_keeps
        | exact KeepsP.none | exact KeepsP.same | refine KeepsP.some (fun _ _ => ?_)
        | (refine Keeps.ite (fun _ => ?_) (fun _ => ?_))
    | split

theorem execBavinGetbit_keeps {b0 : State} (core : Nat) (t : Nat) (s : State) (hk : Keeps b0 s) : KeepsE b0 (execBavinGetbit core t s) := by
  unfold execBavinGetbit
  repeat' first
    | with_reducible assumption
    | with_reducible first
        | apply KeepsE.next | apply State.bitOp_keeps

theorem execBavinSetbit_keeps {b0 : State} (core : Nat) (t : Nat) (s : State) (hk : Keeps b0 s) : KeepsE b0 (execBavinSetbit core t s) := by
  unfold execBavinSetbit
  repeat' first
    | with_reducible assumption
    | with_reducible first
        | apply KeepsE.next | apply State.bitOp_keeps

theorem execBavinClrbit_keeps {b0 : State} (core : Nat) (t : Nat) (s : State) (hk : Keeps b0 s) : KeepsE b0 (execBavinClrbit core t s) := by
  unfold execBavinClrbit
  repeat' first
    | with_reducible assumption
    | with_reducible first
        | apply KeepsE.next | apply State.bitOp_keeps

theorem execBavinNow_keeps {b0 : State} (core : Nat) (s : State) (hk : Keeps b0 s) : KeepsE b0 (execBavinNow core s) := by
  unfold execBavinNow
  repeat' first
    | with_reducible assumption
    | with_reducible first
        | apply KeepsE.next | apply State.bavin_keeps

theorem execBavinNowplant_keeps {b0 : State} (core : Nat) (s : State) (hk : Keeps b0 s) : KeepsE b0 (execBavinNowplant core s) := by
  unfold execBavinNowplant
  repeat' first
    | with_reducible assumption
    | with_reducible first
        | apply KeepsE.next | apply State.bavin_keeps

theorem execBavinCyclestart_keeps {b0 : State} (core : Nat) (s : State) (hk : Keeps b0 s) : KeepsE b0 (execBavinCyclestart core s) := by
  unfold execBavinCyclestart
  repeat' first
    | with_reducible assumption
    | with_reducible first
        | apply KeepsE.next | apply State.bavin_keeps

theorem execBavinPeriod_keeps {b0 : State} (core : Nat) (s : State) (hk : Keeps b0 s) : KeepsE b0 (execBavinPeriod core s) := by
  unfold execBavinPeriod
  repeat' first
    | with_reducible assumption | (intro x; clear_value x) | lift_lets -underBinder
    | with_reducible first
        | apply KeepsE.next | refine State.bavinDo_keeps _ _ _ _ (fun _ _ _ => ?_) ?_ | exact KeepsP.none
        | exact KeepsP.same

theorem execBavinTon_keeps {b0 : State} (core : Nat) (y : Nat) (s : State) (hk : Keeps b0 s) : KeepsE b0 (execBavinTon core y s) := by
  unfold execBavinTon
  repeat' first
    | with_reducible assumption | lift_lets -underBinder
    | with_reducible first
        | apply KeepsE.next | apply State.bavin_keeps

theorem execBavinTof_keeps {b0 : State} (core : Nat) (y : Nat) (s : State) (hk : Keeps b0 s) : KeepsE b0 (execBavinTof core y s) := by
  unfold execBavinTof
  repeat' first
    | with_reducible assumption | lift_lets -underBinder
    | with_reducible first
        | apply KeepsE.next | apply State.bavin_keeps

theorem execBavinTp_keeps {b0 : State} (core : Nat) (y : Nat) (s : State) (hk : Keeps b0 s) : KeepsE b0 (execBavinTp core y s) := by
  unfold execBavinTp
  repeat' first
    | with_reducible assumption | lift_lets -underBinder
    | with_reducible first
        | apply KeepsE.next | apply State.bavin_keeps

theorem execBavinRtrig_keeps {b0 : State} (core : Nat) (y : Nat) (s : State) (hk : Keeps b0 s) : KeepsE b0 (execBavinRtrig core y s) := by
  unfold execBavinRtrig
  repeat' first
    | with_reducible assumption
    | with_reducible first
        | apply KeepsE.next | apply State.bavin_keeps

theorem execBavinFtrig_keeps {b0 : State} (core : Nat) (y : Nat) (s : State) (hk : Keeps b0 s) : KeepsE b0 (execBavinFtrig core y s) := by
  unfold execBavinFtrig
  repeat' first
    | with_reducible assumption
    | with_reducible first
        | apply KeepsE.next | apply State.bavin_keeps

theorem execBavinCtu_keeps {b0 : State} (core : Nat) (y : Nat) (s : State) (hk : Keeps b0 s) : KeepsE b0 (execBavinCtu core y s) := by
  unfold execBavinCtu
  repeat' first
    | with_reducible assumption
    | with_reducible first
        | apply KeepsE.next | apply State.bavin_keeps

theorem execBavinCtd_keeps {b0 : State} (core : Nat) (y : Nat) (s : State) (hk : Keeps b0 s) : KeepsE b0 (execBavinCtd core y s) := by
  unfold execBavinCtd
  repeat' first
    | with_reducible assumption
    | with_reducible first
        | apply KeepsE.next | apply State.bavin_keeps

theorem execBavinSr_keeps {b0 : State} (core : Nat) (y : Nat) (s : State) (hk : Keeps b0 s) : KeepsE b0 (execBavinSr core y s) := by
  unfold execBavinSr
  repeat' first
    | with_reducible assumption | lift_lets -underBinder
    | with_reducible first
        | apply KeepsE.next | apply State.bavin_keeps

theorem execBavinRs_keeps {b0 : State} (core : Nat) (y : Nat) (s : State) (hk : Keeps b0 s) : KeepsE b0 (execBavinRs core y s) := by
  unfold execBavinRs
  repeat' first
    | with_reducible assumption | lift_lets -underBinder
    | with_reducible first
        | apply KeepsE.next | apply State.bavin_keeps

theorem execBavinCopy_keeps {b0 : State} (core : Nat) (src dst : Nat) (s : State) (hk : Keeps b0 s) : KeepsE b0 (execBavinCopy core src dst s) := by
  unfold execBavinCopy
  repeat' first
    | with_reducible assumption | lift_lets -underBinder
    | with_reducible first
        | apply KeepsE.next | apply State.bavin_keeps

theorem execBavinFill_keeps {b0 : State} (core : Nat) (y : Nat) (s : State) (hk : Keeps b0 s) : KeepsE b0 (execBavinFill core y s) := by
  unfold execBavinFill
  repeat' first
    | with_reducible assumption
    | with_reducible first
        | apply KeepsE.next | apply State.bavin_keeps

theorem execBavinLen_keeps {b0 : State} (core : Nat) (y : Nat) (s : State) (hk : Keeps b0 s) : KeepsE b0 (execBavinLen core y s) := by
  unfold execBavinLen
  repeat' first
    | with_reducible assumption
    | with_reducible first
        | apply KeepsE.next | apply State.bavin_keeps

theorem execBavinStnok_keeps {b0 : State} (core : Nat) (u : Nat) (s : State) (hk : Keeps b0 s) : KeepsE b0 (execBavinStnok core u s) := by
  unfold execBavinStnok
  repeat' first
    | with_reducible assumption
    | with_reducible first
        | apply KeepsE.next | apply State.bavin_keeps

theorem execBavinStnstate_keeps {b0 : State} (core : Nat) (u : Nat) (s : State) (hk : Keeps b0 s) : KeepsE b0 (execBavinStnstate core u s) := by
  unfold execBavinStnstate
  repeat' first
    | with_reducible assumption | lift_lets -underBinder
    | with_reducible first
        | apply KeepsE.next | apply State.bavin_keeps

theorem execBavinStnenable_keeps {b0 : State} (core : Nat) (u : Nat) (s : State) (hk : Keeps b0 s) : KeepsE b0 (execBavinStnenable core u s) := by
  unfold execBavinStnenable
  repeat' first
    | with_reducible assumption | lift_lets -underBinder
    | with_reducible first
        | apply KeepsE.next | refine State.bavinDo_keeps _ _ _ _ (fun _ _ _ => ?_) ?_
        | apply State.stationEnable_keeps | exact KeepsP.none | exact KeepsP.same
        | refine KeepsP.some (fun _ _ => ?_) | (refine Keeps.ite (fun _ => ?_) (fun _ => ?_))
    | split

theorem execBavinWvalid_keeps {b0 : State} (core : Nat) (n : Nat) (s : State) (hk : Keeps b0 s) : KeepsE b0 (execBavinWvalid core n s) := by
  unfold execBavinWvalid
  repeat' first
    | with_reducible assumption
    | with_reducible first
        | apply KeepsE.next | apply State.bavin_keeps

theorem execBavinWpub_keeps {b0 : State} (core : Nat) (n y : Nat) (s : State) (hk : Keeps b0 s) : KeepsE b0 (execBavinWpub core n y s) := by
  unfold execBavinWpub
  repeat' first
    | with_reducible assumption
    | with_reducible first
        | apply KeepsE.next | apply State.bavin_keeps

theorem execBavinRaise_keeps {b0 : State} (core : Nat) (n : Nat) (s : State) (hk : Keeps b0 s) : KeepsE b0 (execBavinRaise core n s) := by
  unfold execBavinRaise
  repeat' first
    | with_reducible assumption
    | with_reducible first
        | apply KeepsE.next | apply State.bavin_keeps

theorem execBavinTrigger_keeps {b0 : State} (core : Nat) (k : Nat) (s : State) (hk : Keeps b0 s) : KeepsE b0 (execBavinTrigger core k s) := by
  unfold execBavinTrigger
  repeat' first
    | with_reducible assumption
    | with_reducible first
        | apply KeepsE.next | apply State.bavin_keeps

theorem execBavinAssert_keeps {b0 : State} (core : Nat) (code : Nat) (s : State) (hk : Keeps b0 s) : KeepsE b0 (execBavinAssert core code s) := by
  unfold execBavinAssert
  repeat' first
    | with_reducible assumption | lift_lets -underBinder
    | with_reducible first
        | apply KeepsE.next | refine State.bavinDo_keeps _ _ _ _ (fun _ _ _ => ?_) ?_
        | apply State.runtimeFault_keeps | exact KeepsP.none | exact KeepsP.same
        | refine KeepsP.some (fun _ _ => ?_) | (refine Keeps.ite (fun _ => ?_) (fun _ => ?_))
    | split

theorem execBavinTrap_keeps {b0 : State} (core : Nat) (code : Nat) (s : State) (hk : Keeps b0 s) : KeepsE b0 (execBavinTrap core code s) := by
  unfold execBavinTrap
  repeat' first
    | with_reducible assumption | lift_lets -underBinder
    | with_reducible first
        | apply KeepsE.next | apply State.runtimeFault_keeps | apply State.finishCycle_keeps
        | (refine Keeps.ite (fun _ => ?_) (fun _ => ?_))
    | split

theorem execBavinIsforced_keeps {b0 : State} (core : Nat) (y : Nat) (s : State) (hk : Keeps b0 s) : KeepsE b0 (execBavinIsforced core y s) := by
  unfold execBavinIsforced
  repeat' first
    | with_reducible assumption
    | with_reducible first
        | apply KeepsE.next | apply State.bavin_keeps

theorem execBavinCellget_keeps {b0 : State} (core : Nat) (f : Nat) (s : State) (hk : Keeps b0 s) : KeepsE b0 (execBavinCellget core f s) := by
  unfold execBavinCellget
  repeat' first
    | with_reducible assumption
    | with_reducible first
        | apply KeepsE.next | apply State.bavin_keeps

theorem execBavinCellflags_keeps {b0 : State} (core : Nat) (s : State) (hk : Keeps b0 s) : KeepsE b0 (execBavinCellflags core s) := by
  unfold execBavinCellflags
  repeat' first
    | with_reducible assumption | (intro x; clear_value x) | lift_lets -underBinder
    | with_reducible first
        | apply KeepsE.next | refine State.bavinDo_keeps _ _ _ _ (fun _ _ _ => ?_) ?_ | apply State.drawn_keeps
        | exact KeepsP.none | exact KeepsP.same | refine KeepsP.some (fun _ _ => ?_)
        | (refine Keeps.ite (fun _ => ?_) (fun _ => ?_))
    | split

theorem execBavinNodeget_keeps {b0 : State} (core : Nat) (f : Nat) (s : State) (hk : Keeps b0 s) : KeepsE b0 (execBavinNodeget core f s) := by
  unfold execBavinNodeget
  repeat' first
    | with_reducible assumption
    | with_reducible first
        | apply KeepsE.next | apply State.bavin_keeps

theorem execBavinStrget_keeps {b0 : State} (core : Nat) (f : Nat) (s : State) (hk : Keeps b0 s) : KeepsE b0 (execBavinStrget core f s) := by
  unfold execBavinStrget
  repeat' first
    | with_reducible assumption
    | with_reducible first
        | apply KeepsE.next | apply State.bavin_keeps

theorem execBavinStrstate_keeps {b0 : State} (core : Nat) (s : State) (hk : Keeps b0 s) : KeepsE b0 (execBavinStrstate core s) := by
  unfold execBavinStrstate
  repeat' first
    | with_reducible assumption
    | with_reducible first
        | apply KeepsE.next | apply State.bavin_keeps

theorem execBavinSloty_keeps {b0 : State} (core : Nat) (n : Nat) (s : State) (hk : Keeps b0 s) : KeepsE b0 (execBavinSloty core n s) := by
  unfold execBavinSloty
  repeat' first
    | with_reducible assumption
    | with_reducible first
        | apply KeepsE.next | apply State.bavin_keeps

theorem execBavinXinset_keeps {b0 : State} (core : Nat) (n : Nat) (s : State) (hk : Keeps b0 s) : KeepsE b0 (execBavinXinset core n s) := by
  unfold execBavinXinset
  repeat' first
    | with_reducible assumption
    | with_reducible first
        | apply KeepsE.next | apply State.bavin_keeps

theorem execBavinOutreq_keeps {b0 : State} (core : Nat) (s : State) (hk : Keeps b0 s) : KeepsE b0 (execBavinOutreq core s) := by
  unfold execBavinOutreq
  repeat' first
    | with_reducible assumption
    | with_reducible first
        | apply KeepsE.next | apply State.bavin_keeps

theorem execBavinAcksafe_keeps {b0 : State} (core : Nat) (s : State) (hk : Keeps b0 s) : KeepsE b0 (execBavinAcksafe core s) := by
  unfold execBavinAcksafe
  repeat' first
    | with_reducible assumption
    | with_reducible first
        | apply KeepsE.next | apply State.bavin_keeps

end Sys2Proof.Machine
end

