-- ==== Sys2Proof/Laws/KeepsTether.lean ====
section
/-!
SUPPORT. What no operation undoes (Laws/Keeps.lean), operation by operation: set-up, updates, the estimator by record, the tether and the networks.
-/

namespace Sys2Proof.Machine

theorem State.withItems_keeps {b0 : State} (s : State) (items : CfgItems) (hk : Keeps b0 s) : Keeps b0 (State.withItems s items) := by
  unfold State.withItems
  repeat' first
    | with_reducible assumption | (intro x; clear_value x) | lift_lets -underBinder
    | with_reducible first
        | (refine Keeps.upd ?_; assumption)

theorem State.showBanks_keeps {b0 : State} (s : State) (hk : Keeps b0 s) : Keeps b0 (State.showBanks s) := by
  unfold State.showBanks
  repeat' first
    | with_reducible assumption
    | (intro x; refine @Keeps.cut (Keeps b0 x) _ ?_ ?_ <;> [subst x; (intro _; clear_value x)])
    | (intro x; refine @Keeps.cut (∀ t a0 a1, Keeps b0 t → Keeps b0 (x t a0 a1)) _ ?_ ?_ <;> [(subst x; intro _ _ _ _; dsimp -zeta only); (intro hx; clear_value x)])
    | (intro x; clear_value x) | lift_lets -underBinder
    | with_reducible first
        | apply hx | apply State.wr_keeps | apply State.setBit_keeps

theorem State.setBank_keeps {b0 : State} (s : State) (k version : Nat) (blocks : List (Nat × Bytes)) (hk : Keeps b0 s) : Keeps b0 (State.setBank s k version blocks) := by
  unfold State.setBank
  repeat' first
    | with_reducible assumption | (intro x; clear_value x) | lift_lets -underBinder
    | with_reducible first
        | (refine Keeps.ite (fun _ => ?_) (fun _ => ?_)) | (refine Keeps.upd ?_; assumption)

theorem State.setSpareProgram_keeps {b0 : State} (s : State) (p : Option Program) (ok : Bool) (hk : Keeps b0 s) : Keeps b0 (State.setSpareProgram s p ok) := by
  unfold State.setSpareProgram
  repeat' first
    | with_reducible assumption
    | (intro x; refine @Keeps.cut (Keeps b0 x) _ ?_ ?_ <;> [subst x; (intro _; clear_value x)])
    | (intro x; clear_value x) | lift_lets -underBinder
    | with_reducible first
        | apply State.wr_keeps | apply State.setBit_keeps | (refine Keeps.ite (fun _ => ?_) (fun _ => ?_))
        | (refine Keeps.upd ?_; assumption)

theorem State.closeUpdate_keeps {b0 : State} (s : State) (st : Nat) (hk : Keeps b0 s) : Keeps b0 (State.closeUpdate s st) := by
  unfold State.closeUpdate
  repeat' first
    | with_reducible assumption
    | (intro x; refine @Keeps.cut (Keeps b0 x) _ ?_ ?_ <;> [subst x; (intro _; clear_value x)])
    | (intro x; clear_value x) | lift_lets -underBinder
    | with_reducible first
        | apply State.setFld_keeps | (refine Keeps.upd ?_; assumption)

theorem State.refuseUpdate_keeps {b0 : State} (s : State) (op reason block : Nat) (hk : Keeps b0 s) : Keeps b0 (State.refuseUpdate s op reason block) := by
  unfold State.refuseUpdate
  repeat' first
    | with_reducible assumption
    | (intro x; refine @Keeps.cut (Keeps b0 x) _ ?_ ?_ <;> [subst x; (intro _; clear_value x)])
    | (intro x; clear_value x) | lift_lets -underBinder
    | with_reducible first
        | apply State.wr_keeps | apply State.flag_keeps | apply State.strobe_keeps | apply State.closeUpdate_keeps
        | apply State.completeAll_keeps | apply State.complete_keeps
        | (refine Keeps.ite (fun _ => ?_) (fun _ => ?_))

theorem State.eraseBank_keeps {b0 : State} (s : State) (target : Nat) (hk : Keeps b0 s) : Keeps b0 (State.eraseBank s target) := by
  unfold State.eraseBank
  repeat' first
    | with_reducible assumption
    | (intro x; refine @Keeps.cut (Keeps b0 x) _ ?_ ?_ <;> [subst x; (intro _; clear_value x)])
    | (intro x; clear_value x) | lift_lets -underBinder
    | with_reducible first
        | apply State.setBank_keeps | apply State.unspoil_keeps | apply State.refuseChange_keeps
        | apply State.setSpareProgram_keeps | apply State.storeDevice_keeps | apply State.showBanks_keeps
        | (refine Keeps.ite (fun _ => ?_) (fun _ => ?_)) | (refine Keeps.upd ?_; assumption)

theorem State.imageBegin_keeps {b0 : State} (s : State) (op : Nat) (ps : Bytes) (hk : Keeps b0 s) : Keeps b0 (State.imageBegin s op ps) := by
  unfold State.imageBegin
  repeat' first
    | with_reducible assumption
    | (intro x; refine @Keeps.cut (Keeps b0 x) _ ?_ ?_ <;> [subst x; (intro _; clear_value x)])
    | (intro x; clear_value x) | lift_lets -underBinder
    | with_reducible first
        | apply State.refuseUpdate_keeps | apply State.complete_keeps | apply State.eraseBank_keeps
        | apply State.insoleStart_keeps | apply State.wr_keeps | (refine Keeps.ite (fun _ => ?_) (fun _ => ?_))
        | (refine Keeps.upd ?_; assumption)
    | split

theorem execImageEraseDone_keeps {b0 : State} (s : State) (hk : Keeps b0 s) : KeepsE b0 (execImageEraseDone s) := by
  unfold execImageEraseDone
  repeat' first
    | with_reducible assumption
    | (intro x; refine @Keeps.cut (Keeps b0 x) _ ?_ ?_ <;> [subst x; (intro _; clear_value x)])
    | (intro x; clear_value x) | lift_lets -underBinder
    | with_reducible first
        | apply KeepsE.next | refine State.whenVamp_keeps _ _ ?_ ?_ | apply State.setFld_keeps
        | apply State.completeAll_keeps | (refine Keeps.ite (fun _ => ?_) (fun _ => ?_))
        | (refine Keeps.upd ?_; assumption)
    | split

theorem State.checkBlock_keeps {b0 : State} (s : State) (op : Nat) (m : Manifest) (block : Nat) (bytes : Bytes) (crc : Word) (hk : Keeps b0 s) : Keeps b0 (State.checkBlock s op m block bytes crc) := by
  unfold State.checkBlock
  repeat' first
    | with_reducible assumption
    | (intro x; refine @Keeps.cut (Keeps b0 x) _ ?_ ?_ <;> [subst x; (intro _; clear_value x)])
    | (intro x; clear_value x) | lift_lets -underBinder
    | with_reducible first
        | apply State.refuseUpdate_keeps | apply State.flag_keeps | apply State.strobe_keeps
        | apply State.complete_keeps | apply State.insoleStart_keeps
        | (refine Keeps.ite (fun _ => ?_) (fun _ => ?_)) | (refine Keeps.upd ?_; assumption)
    | split

theorem State.imageBlock_keeps {b0 : State} (s : State) (op : Nat) (ps : Bytes) (hk : Keeps b0 s) : Keeps b0 (State.imageBlock s op ps) := by
  unfold State.imageBlock
  repeat' first
    | with_reducible assumption
    | (intro x; refine @Keeps.cut (Keeps b0 x) _ ?_ ?_ <;> [subst x; (intro _; clear_value x)])
    | (intro x; clear_value x) | lift_lets -underBinder
    | with_reducible first
        | apply State.complete_keeps | apply State.checkBlock_keeps | (refine Keeps.ite (fun _ => ?_) (fun _ => ?_))
        | (refine Keeps.upd ?_; assumption)
    | split

theorem execImageBlockStored_keeps {b0 : State} (s : State) (hk : Keeps b0 s) : KeepsE b0 (execImageBlockStored s) := by
  unfold execImageBlockStored
  repeat' first
    | with_reducible assumption
    | (intro x; refine @Keeps.cut (Keeps b0 x) _ ?_ ?_ <;> [subst x; (intro _; clear_value x)])
    | (intro x; clear_value x) | lift_lets -underBinder
    | with_reducible first
        | apply KeepsE.next | refine State.whenVamp_keeps _ _ ?_ ?_ | apply State.setBank_keeps
        | apply State.setFld_keeps | apply State.completeAll_keeps | (refine Keeps.ite (fun _ => ?_) (fun _ => ?_))
        | (refine Keeps.upd ?_; assumption)
    | split

theorem State.imageVerify_keeps {b0 : State} (s : State) (op : Nat) (ps : Bytes) (hk : Keeps b0 s) : Keeps b0 (State.imageVerify s op ps) := by
  unfold State.imageVerify
  repeat' first
    | with_reducible assumption
    | (intro x; refine @Keeps.cut (Keeps b0 x) _ ?_ ?_ <;> [subst x; (intro _; clear_value x)])
    | (intro x; clear_value x) | lift_lets -underBinder
    | with_reducible first
        | apply State.complete_keeps | apply State.refuseUpdate_keeps | apply State.setFld_keeps
        | (refine Keeps.ite (fun _ => ?_) (fun _ => ?_)) | (refine Keeps.upd ?_; assumption)
    | split

theorem State.acceptImage_keeps {b0 : State} (s : State) (m : Manifest) (program : Option Program) (hk : Keeps b0 s) : Keeps b0 (State.acceptImage s m program) := by
  unfold State.acceptImage
  repeat' first
    | with_reducible assumption
    | (intro x; refine @Keeps.cut (Keeps b0 x) _ ?_ ?_ <;> [subst x; (intro _; clear_value x)])
    | (intro x; clear_value x) | lift_lets -underBinder
    | with_reducible first
        | apply State.setBank_keeps | apply State.setSpareProgram_keeps | apply State.storeDevice_keeps
        | apply State.showBanks_keeps | apply State.flag_keeps | apply State.strobe_keeps
        | apply State.closeUpdate_keeps | apply State.completeAll_keeps
        | (refine Keeps.ite (fun _ => ?_) (fun _ => ?_)) | (refine Keeps.upd ?_; assumption)

theorem execImageVerifyDone_keeps {b0 : State} (readOk : Bool) (program : Option Program) (s : State) (hk : Keeps b0 s) : KeepsE b0 (execImageVerifyDone readOk program s) := by
  unfold execImageVerifyDone
  repeat' first
    | with_reducible assumption
    | (intro x; refine @Keeps.cut (Keeps b0 x) _ ?_ ?_ <;> [subst x; (intro _; clear_value x)])
    | (intro x; clear_value x) | lift_lets -underBinder
    | with_reducible first
        | apply KeepsE.next | refine State.whenVamp_keeps _ _ ?_ ?_ | apply State.setFld_keeps
        | apply State.refuseUpdate_keeps | apply State.acceptImage_keeps
        | (refine Keeps.ite (fun _ => ?_) (fun _ => ?_)) | (refine Keeps.upd ?_; assumption)
    | split

theorem State.endUpdate_keeps {b0 : State} (s : State) (hk : Keeps b0 s) : Keeps b0 (State.endUpdate s) := by
  unfold State.endUpdate
  repeat' first
    | with_reducible assumption | (intro x; clear_value x) | lift_lets -underBinder
    | with_reducible first
        | apply State.closeUpdate_keeps | apply State.completeAll_keeps

theorem State.imageAbort_keeps {b0 : State} (s : State) (op : Nat) (hk : Keeps b0 s) : Keeps b0 (State.imageAbort s op) := by
  unfold State.imageAbort
  repeat' first
    | with_reducible assumption
    | with_reducible first
        | apply State.endUpdate_keeps | apply State.complete_keeps | (refine Keeps.ite (fun _ => ?_) (fun _ => ?_))

theorem execImageSessionTimeout_keeps {b0 : State} (s : State) (hk : Keeps b0 s) : KeepsE b0 (execImageSessionTimeout s) := by
  unfold execImageSessionTimeout
  repeat' first
    | with_reducible assumption
    | with_reducible first
        | apply KeepsE.next | refine State.whenVamp_keeps _ _ ?_ ?_ | apply State.endUpdate_keeps
        | (refine Keeps.ite (fun _ => ?_) (fun _ => ?_))

theorem State.replayAppend_keeps {b0 : State} (s : State) (head : Bytes) (blocks : List Bytes) (hk : Keeps b0 s) : Keeps b0 (State.replayAppend s head blocks) := by
  unfold State.replayAppend
  repeat' first
    | with_reducible assumption
    | (intro x; refine @Keeps.cut (Keeps b0 x) _ ?_ ?_ <;> [subst x; (intro _; clear_value x)])
    | (intro x; clear_value x) | lift_lets -underBinder
    | with_reducible first
        | apply State.putBytes_keeps | (refine Keeps.upd ?_; assumption)

theorem State.ingestRecord_keeps {b0 : State} (s : State) (head : Bytes) (blocks : List Bytes) (hk : Keeps b0 s) : Keeps b0 (State.ingestRecord s head blocks) := by
  unfold State.ingestRecord
  repeat' first
    | with_reducible assumption | (intro x; clear_value x) | lift_lets -underBinder
    | with_reducible first
        | (refine Keeps.ite (fun _ => ?_) (fun _ => ?_)) | (refine Keeps.upd ?_; assumption)

theorem State.rebaseAtClose_keeps {b0 : State} (s : State) (hk : Keeps b0 s) : Keeps b0 (State.rebaseAtClose s) := by
  unfold State.rebaseAtClose
  repeat' first
    | with_reducible assumption | (intro x; clear_value x) | lift_lets -underBinder
    | with_reducible first
        | (refine Keeps.ite (fun _ => ?_) (fun _ => ?_)) | (refine Keeps.upd ?_; assumption)

theorem State.recordClose_keeps {b0 : State} (s : State) (r : OpenRecord) (hk : Keeps b0 s) : Keeps b0 (State.recordClose s r) := by
  unfold State.recordClose
  repeat' first
    | with_reducible assumption
    | (intro x; refine @Keeps.cut (Keeps b0 x) _ ?_ ?_ <;> [subst x; (intro _; clear_value x)])
    | (intro x; clear_value x) | lift_lets -underBinder
    | with_reducible first
        | apply State.freezeView_keeps | apply State.writeRecord_keeps | apply State.replayAppend_keeps
        | apply State.chainBoundary_keeps | apply State.estBoundary_keeps | apply State.ingestRecord_keeps
        | apply State.rebaseAtClose_keeps | apply State.raiseRecord_keeps | apply State.readNext_keeps
        | apply State.pump_keeps | (refine Keeps.ite (fun _ => ?_) (fun _ => ?_))
        | (refine Keeps.upd ?_; assumption)
    | split

theorem execRecordDeadline_keeps {b0 : State} (s : State) (hk : Keeps b0 s) : KeepsE b0 (execRecordDeadline s) := by
  unfold execRecordDeadline
  repeat' first
    | with_reducible assumption | lift_lets -underBinder
    | with_reducible first
        | apply KeepsE.next | refine State.whenVamp_keeps _ _ ?_ ?_ | apply State.recordClose_keeps
        | (refine Keeps.ite (fun _ => ?_) (fun _ => ?_))
    | split

theorem State.putRecBlock_keeps {b0 : State} (s : State) (k : Nat) (b : RecBlock) (hk : Keeps b0 s) : Keeps b0 (State.putRecBlock s k b) := by
  unfold State.putRecBlock
  repeat' first
    | with_reducible assumption | (intro x; clear_value x) | lift_lets -underBinder
    | with_reducible first
        | (refine Keeps.upd ?_; assumption)

theorem State.recCell_keeps {b0 : State} (s : State) (head : Bytes) (blocks : List Bytes) (us cell : Nat) (hk : Keeps b0 s) : Keeps b0 (State.recCell s head blocks us cell) := by
  unfold State.recCell
  repeat' first
    | with_reducible assumption | (intro x; clear_value x) | lift_lets -underBinder
    | with_reducible first
        | apply State.putRecBlock_keeps

theorem State.recString_keeps {b0 : State} (s : State) (head : Bytes) (blocks : List Bytes) (us : Nat) (hk : Keeps b0 s) : Keeps b0 (State.recString s head blocks us) := by
  unfold State.recString
  repeat' first
    | with_reducible assumption | (intro x; clear_value x) | lift_lets -underBinder
    | with_reducible first
        | apply State.putRecBlock_keeps | (refine Keeps.ite (fun _ => ?_) (fun _ => ?_))

theorem State.recRecord_keeps {b0 : State} (s : State) (head : Bytes) (blocks : List Bytes) (hk : Keeps b0 s) : Keeps b0 (State.recRecord s head blocks) := by
  unfold State.recRecord
  repeat' first
    | with_reducible assumption
    | (intro x; refine @Keeps.cut (Keeps b0 x) _ ?_ ?_ <;> [subst x; (intro _; clear_value x)])
    | (intro x; clear_value x) | lift_lets -underBinder
    | with_reducible first
        | apply State.recCell_keeps | apply State.recString_keeps | refine Keeps.foldl (fun _ _ _ => ?_) ?_
        | refine Keeps.foldl1 (fun _ _ _ => ?_) ?_ | (refine Keeps.ite (fun _ => ?_) (fun _ => ?_))
        | (refine Keeps.upd ?_; assumption)

theorem State.writeResults_keeps {b0 : State} (s : State) (id : Nat) (hk : Keeps b0 s) : Keeps b0 (State.writeResults s id) := by
  unfold State.writeResults
  repeat' first
    | with_reducible assumption | (intro x; clear_value x) | lift_lets -underBinder
    | with_reducible first
        | apply hx | apply State.putBytes_keeps

theorem State.writeWords_keeps {b0 : State} (s : State) (blocks : List Bytes) (hk : Keeps b0 s) : Keeps b0 (State.writeWords s blocks) := by
  unfold State.writeWords
  repeat' first
    | with_reducible assumption | (intro x; clear_value x) | lift_lets -underBinder
    | with_reducible first
        | apply State.wr_keeps

theorem State.writeLimits_keeps {b0 : State} (s : State) (hk : Keeps b0 s) : Keeps b0 (State.writeLimits s) := by
  unfold State.writeLimits
  repeat' first
    | with_reducible assumption
    | (intro x; refine @Keeps.cut (Keeps b0 x) _ ?_ ?_ <;> [subst x; (intro _; clear_value x)])
    | lift_lets -underBinder
    | with_reducible first
        | apply State.wr_keeps | apply State.ltCommit_keeps | refine Keeps.foldl (fun _ _ _ => ?_) ?_

theorem State.takeSamples_keeps {b0 : State} (s : State) (blocks : List Bytes) (hk : Keeps b0 s) : Keeps b0 (State.takeSamples s blocks) := by
  unfold State.takeSamples
  repeat' first
    | with_reducible assumption | (intro x; clear_value x) | lift_lets -underBinder
    | with_reducible first
        | refine Keeps.foldl (fun _ _ _ => ?_) ?_ | refine Keeps.foldl1 (fun _ _ _ => ?_) ?_
        | (refine Keeps.ite (fun _ => ?_) (fun _ => ?_)) | (refine Keeps.upd ?_; assumption)

theorem State.fastTimes_keeps {b0 : State} (s : State) (us : List Nat) (hk : Keeps b0 s) : Keeps b0 (State.fastTimes s us) := by
  unfold State.fastTimes
  repeat' first
    | with_reducible assumption | (intro x; clear_value x) | lift_lets -underBinder
    | with_reducible first
        | apply State.setFld_keeps | refine Keeps.foldl (fun _ _ _ => ?_) ?_
        | refine Keeps.foldl1 (fun _ _ _ => ?_) ?_ | (refine Keeps.ite (fun _ => ?_) (fun _ => ?_))
        | (refine Keeps.upd ?_; assumption)

theorem State.reanchorEvent_keeps {b0 : State} (s : State) (hk : Keeps b0 s) : Keeps b0 (State.reanchorEvent s) := by
  unfold State.reanchorEvent
  repeat' first
    | with_reducible assumption | lift_lets -underBinder
    | with_reducible first
        | apply State.strobe_keeps | (refine Keeps.ite (fun _ => ?_) (fun _ => ?_))
    | split

theorem State.askBurst_keeps {b0 : State} (s : State) (hk : Keeps b0 s) : Keeps b0 (State.askBurst s) := by
  unfold State.askBurst
  repeat' first
    | with_reducible assumption | (intro x; clear_value x) | lift_lets -underBinder
    | with_reducible first
        | apply State.requestBurst_keeps | (refine Keeps.ite (fun _ => ?_) (fun _ => ?_))
        | (refine Keeps.upd ?_; assumption)

theorem execFastLayerComplete_keeps {b0 : State} (fastUs : List Nat) (s : State) (hk : Keeps b0 s) : KeepsE b0 (execFastLayerComplete fastUs s) := by
  unfold execFastLayerComplete
  repeat' first
    | with_reducible assumption
    | (intro x; refine @Keeps.cut (Keeps b0 x) _ ?_ ?_ <;> [subst x; (intro _; clear_value x)])
    | (intro x; clear_value x) | lift_lets -underBinder
    | with_reducible first
        | apply KeepsE.next | refine State.whenVamp_keeps _ _ ?_ ?_ | apply State.takeSamples_keeps
        | apply State.fastCell_keeps | apply State.wireFindings_keeps | apply State.fastTimes_keeps
        | apply State.reanchorEvent_keeps | apply State.formLimits_keeps | apply State.showEst_keeps
        | apply State.writeResults_keeps | apply State.writeLimits_keeps | apply State.writeWords_keeps
        | apply State.recRecord_keeps | apply State.askBurst_keeps | refine Keeps.foldl (fun _ _ _ => ?_) ?_
        | refine Keeps.foldl1 (fun _ _ _ => ?_) ?_ | (refine Keeps.ite (fun _ => ?_) (fun _ => ?_))
        | (refine Keeps.upd ?_; assumption)
    | split

theorem execBurstBinsDone_keeps {b0 : State} (s : State) (hk : Keeps b0 s) : KeepsE b0 (execBurstBinsDone s) := by
  unfold execBurstBinsDone
  repeat' first
    | with_reducible assumption
    | (intro x; refine @Keeps.cut (Keeps b0 x) _ ?_ ?_ <;> [subst x; (intro _; clear_value x)])
    | (intro x; clear_value x) | lift_lets -underBinder
    | with_reducible first
        | apply KeepsE.next | refine State.whenVamp_keeps _ _ ?_ ?_ | apply State.binsCell_keeps
        | apply State.impedanceMark_keeps | apply State.fitCell_keeps | apply State.burstEnd_keeps
        | refine Keeps.foldl (fun _ _ _ => ?_) ?_ | refine Keeps.foldl1 (fun _ _ _ => ?_) ?_
        | (refine Keeps.ite (fun _ => ?_) (fun _ => ?_)) | (refine Keeps.upd ?_; assumption)
    | split

theorem execFullSequenceRequestTimer_keeps {b0 : State} (s : State) (hk : Keeps b0 s) : KeepsE b0 (execFullSequenceRequestTimer s) := by
  unfold execFullSequenceRequestTimer
  repeat' first
    | with_reducible assumption | (intro x; clear_value x) | lift_lets -underBinder
    | with_reducible first
        | apply KeepsE.next | refine State.whenVamp_keeps _ _ ?_ ?_ | apply State.requestBurst_keeps
        | (refine Keeps.ite (fun _ => ?_) (fun _ => ?_)) | (refine Keeps.upd ?_; assumption)
    | split

theorem State.anchorCell_keeps {b0 : State} (s : State) (blocks : List Bytes) (cell : Nat) (hk : Keeps b0 s) : Keeps b0 (State.anchorCell s blocks cell) := by
  unfold State.anchorCell
  repeat' first
    | with_reducible assumption | (intro x; clear_value x) | lift_lets -underBinder
    | with_reducible first
        | apply State.putChecked_keeps | (refine Keeps.ite (fun _ => ?_) (fun _ => ?_))
    | split

theorem execRestAnchor_keeps {b0 : State} (s : State) (hk : Keeps b0 s) : KeepsE b0 (execRestAnchor s) := by
  unfold execRestAnchor
  repeat' first
    | with_reducible assumption
    | (intro x; refine @Keeps.cut (Keeps b0 x) _ ?_ ?_ <;> [subst x; (intro _; clear_value x)])
    | (intro x; clear_value x) | lift_lets -underBinder
    | with_reducible first
        | apply KeepsE.next | refine State.whenVamp_keeps _ _ ?_ ?_ | apply State.anchorCell_keeps
        | apply State.journalTrigger_keeps | refine Keeps.foldl (fun _ _ _ => ?_) ?_
        | refine Keeps.foldl1 (fun _ _ _ => ?_) ?_ | (refine Keeps.ite (fun _ => ?_) (fun _ => ?_))
        | (refine Keeps.upd ?_; assumption)
    | split

theorem execNoAnchorTimeout_keeps {b0 : State} (s : State) (hk : Keeps b0 s) : KeepsE b0 (execNoAnchorTimeout s) := by
  unfold execNoAnchorTimeout
  repeat' first
    | with_reducible assumption | (intro x; clear_value x) | lift_lets -underBinder
    | with_reducible first
        | apply KeepsE.next | refine State.whenVamp_keeps _ _ ?_ ?_ | apply State.strobe_keeps
        | (refine Keeps.ite (fun _ => ?_) (fun _ => ?_)) | (refine Keeps.upd ?_; assumption)
    | split

theorem execBalanceCompute_keeps {b0 : State} (s : State) (hk : Keeps b0 s) : KeepsE b0 (execBalanceCompute s) := by
  unfold execBalanceCompute
  repeat' first
    | with_reducible assumption | (intro x; clear_value x) | lift_lets -underBinder
    | with_reducible first
        | apply KeepsE.next | refine State.whenVamp_keeps _ _ ?_ ?_ | apply State.sendNode_keeps
        | refine Keeps.foldl (fun _ _ _ => ?_) ?_

theorem State.balanceReply_keeps {b0 : State} (s : State) (node : Nat) (sent p : Bytes) (hk : Keeps b0 s) : Keeps b0 (State.balanceReply s node sent p) := by
  unfold State.balanceReply
  repeat' first
    | with_reducible assumption | (intro x; clear_value x) | lift_lets -underBinder
    | with_reducible first
        | (refine Keeps.upd ?_; assumption)

theorem State.estError_keeps {b0 : State} (s : State) (code : Nat) (hk : Keeps b0 s) : Keeps b0 (State.estError s code) := by
  unfold State.estError
  repeat' first
    | with_reducible assumption
    | with_reducible first
        | apply State.setFld_keeps | apply State.flag_keeps

theorem State.estCommand_keeps {b0 : State} (s : State) (op : Nat) (hk : Keeps b0 s) : Keeps b0 (State.estCommand s op) := by
  unfold State.estCommand
  repeat' first
    | with_reducible assumption
    | (intro x; refine @Keeps.cut (Keeps b0 x) _ ?_ ?_ <;> [subst x; (intro _; clear_value x)])
    | (intro x; clear_value x) | lift_lets -underBinder
    | with_reducible first
        | apply State.estError_keeps | apply State.setBit_keeps | (refine Keeps.ite (fun _ => ?_) (fun _ => ?_))
        | (refine Keeps.upd ?_; assumption)

theorem execEstReadContext_keeps {b0 : State} (s : State) (hk : Keeps b0 s) : KeepsE b0 (execEstReadContext s) := by
  unfold execEstReadContext
  repeat' first
    | with_reducible assumption
    | with_reducible first
        | apply KeepsE.next | refine State.whenVamp_keeps _ _ ?_ ?_ | apply State.estCommand_keeps

theorem execEstReadLocal_keeps {b0 : State} (s : State) (hk : Keeps b0 s) : KeepsE b0 (execEstReadLocal s) := by
  unfold execEstReadLocal
  repeat' first
    | with_reducible assumption
    | with_reducible first
        | apply KeepsE.next | refine State.whenVamp_keeps _ _ ?_ ?_ | apply State.estCommand_keeps

theorem execEstReplan_keeps {b0 : State} (s : State) (hk : Keeps b0 s) : KeepsE b0 (execEstReplan s) := by
  unfold execEstReplan
  repeat' first
    | with_reducible assumption
    | with_reducible first
        | apply KeepsE.next | refine State.whenVamp_keeps _ _ ?_ ?_ | apply State.estCommand_keeps

theorem execEstCheckpointNow_keeps {b0 : State} (s : State) (hk : Keeps b0 s) : KeepsE b0 (execEstCheckpointNow s) := by
  unfold execEstCheckpointNow
  repeat' first
    | with_reducible assumption
    | with_reducible first
        | apply KeepsE.next | refine State.whenVamp_keeps _ _ ?_ ?_ | apply State.estCommand_keeps

theorem execEstSpareSelftest_keeps {b0 : State} (s : State) (hk : Keeps b0 s) : KeepsE b0 (execEstSpareSelftest s) := by
  unfold execEstSpareSelftest
  repeat' first
    | with_reducible assumption
    | with_reducible first
        | apply KeepsE.next | refine State.whenVamp_keeps _ _ ?_ ?_ | apply State.estCommand_keeps

theorem State.estEffect_keeps {b0 : State} (s : State) (op : Nat) (ok : Bool) (hk : Keeps b0 s) : Keeps b0 (State.estEffect s op ok) := by
  unfold State.estEffect
  repeat' first
    | with_reducible assumption | (intro x; clear_value x) | lift_lets -underBinder
    | with_reducible first
        | apply State.putBytes_keeps | apply State.drawn_keeps | apply State.checkpoint_keeps
        | apply State.suspectUnits_keeps | refine Keeps.foldl (fun _ _ _ => ?_) ?_
        | refine Keeps.foldl1 (fun _ _ _ => ?_) ?_ | (refine Keeps.ite (fun _ => ?_) (fun _ => ?_))
    | split

theorem execEstCommandDone_keeps {b0 : State} (ok : Bool) (s : State) (hk : Keeps b0 s) : KeepsE b0 (execEstCommandDone ok s) := by
  unfold execEstCommandDone
  repeat' first
    | with_reducible assumption
    | (intro x; refine @Keeps.cut (Keeps b0 x) _ ?_ ?_ <;> [subst x; (intro _; clear_value x)])
    | (intro x; clear_value x) | lift_lets -underBinder
    | with_reducible first
        | apply KeepsE.next | refine State.whenVamp_keeps _ _ ?_ ?_ | apply State.estEffect_keeps
        | apply State.setBit_keeps | apply State.setFld_keeps | apply State.flag_keeps | apply State.complete_keeps
        | (refine Keeps.ite (fun _ => ?_) (fun _ => ?_)) | (refine Keeps.upd ?_; assumption)
    | split

theorem State.setRxPair_keeps {b0 : State} (s : State) (port : Nat) (p : RxPair) (hk : Keeps b0 s) : Keeps b0 (State.setRxPair s port p) := by
  unfold State.setRxPair
  repeat' first
    | with_reducible assumption | (intro x; clear_value x) | lift_lets -underBinder
    | with_reducible first
        | (refine Keeps.ite (fun _ => ?_) (fun _ => ?_)) | (refine Keeps.upd ?_; assumption)

theorem State.setTapPair_keeps {b0 : State} (s : State) (port : Nat) (p : RxPair) (hk : Keeps b0 s) : Keeps b0 (State.setTapPair s port p) := by
  unfold State.setTapPair
  repeat' first
    | with_reducible assumption | (intro x; clear_value x) | lift_lets -underBinder
    | with_reducible first
        | (refine Keeps.ite (fun _ => ?_) (fun _ => ?_)) | (refine Keeps.upd ?_; assumption)

theorem State.showRing_keeps {b0 : State} (s : State) (hk : Keeps b0 s) : Keeps b0 (State.showRing s) := by
  unfold State.showRing
  repeat' first
    | with_reducible assumption | (intro x; clear_value x) | lift_lets -underBinder
    | with_reducible first
        | apply State.setFld_keeps

theorem State.setMask_keeps {b0 : State} (s : State) (r0 r1 n : Nat) (v : Bool) (hk : Keeps b0 s) : Keeps b0 (State.setMask s r0 r1 n v) := by
  unfold State.setMask
  repeat' first
    | with_reducible assumption
    | with_reducible first
        | apply State.setBit_keeps | (refine Keeps.ite (fun _ => ?_) (fun _ => ?_))

theorem State.setReach_keeps {b0 : State} (s : State) (port n : Nat) (v : Bool) (hk : Keeps b0 s) : Keeps b0 (State.setReach s port n v) := by
  unfold State.setReach
  repeat' first
    | with_reducible assumption
    | with_reducible first
        | apply State.setMask_keeps | (refine Keeps.ite (fun _ => ?_) (fun _ => ?_))

theorem State.locateBreak_keeps {b0 : State} (s : State) (hk : Keeps b0 s) : Keeps b0 (State.locateBreak s) := by
  unfold State.locateBreak
  repeat' first
    | with_reducible assumption | (intro x; clear_value x) | lift_lets -underBinder
    | with_reducible first
        | apply State.rollcall_keeps | (refine Keeps.ite (fun _ => ?_) (fun _ => ?_))
        | (refine Keeps.upd ?_; assumption)

theorem State.relaySeen_keeps {b0 : State} (s : State) (port : Nat) (first : Bool) (hk : Keeps b0 s) : Keeps b0 (State.relaySeen s port first) := by
  unfold State.relaySeen
  repeat' first
    | with_reducible assumption
    | (intro x; refine @Keeps.cut (Keeps b0 x) _ ?_ ?_ <;> [subst x; (intro _; clear_value x)])
    | (intro x; clear_value x) | lift_lets -underBinder
    | with_reducible first
        | apply State.flag_keeps | apply State.wr_keeps | apply State.showRing_keeps | apply State.strobe_keeps
        | apply State.locateBreak_keeps | (refine Keeps.ite (fun _ => ?_) (fun _ => ?_))
        | (refine Keeps.upd ?_; assumption)

theorem State.portAlarm_keeps {b0 : State} (s : State) (port : Nat) (at_ : Option Nat) (hk : Keeps b0 s) : Keeps b0 (State.portAlarm s port at_) := by
  unfold State.portAlarm
  repeat' first
    | with_reducible assumption
    | (intro x; refine @Keeps.cut (Keeps b0 x) _ ?_ ?_ <;> [subst x; (intro _; clear_value x)])
    | (intro x; clear_value x) | lift_lets -underBinder
    | with_reducible first
        | apply State.setRxPair_keeps | apply State.flag_keeps | apply State.strobe_keeps
        | (refine Keeps.ite (fun _ => ?_) (fun _ => ?_))

theorem State.portSlot_keeps {b0 : State} (s : State) (port : Nat) (kind : SlotKind) (hk : Keeps b0 s) : Keeps b0 (State.portSlot s port kind) := by
  unfold State.portSlot
  repeat' first
    | with_reducible assumption
    | (intro x; refine @Keeps.cut (Keeps b0 x) _ ?_ ?_ <;> [subst x; (intro _; clear_value x)])
    | (intro x; clear_value x) | lift_lets -underBinder
    | with_reducible first
        | apply State.setRxPair_keeps | apply State.setBit_keeps | apply State.relaySeen_keeps
        | apply State.portAlarm_keeps | (refine Keeps.ite (fun _ => ?_) (fun _ => ?_))
        | (refine Keeps.upd ?_; assumption)

theorem State.toneIn_keeps {b0 : State} (s : State) (hk : Keeps b0 s) : Keeps b0 (State.toneIn s) := by
  unfold State.toneIn
  repeat' first
    | with_reducible assumption
    | (intro x; refine @Keeps.cut (Keeps b0 x) _ ?_ ?_ <;> [subst x; (intro _; clear_value x)])
    | (intro x; clear_value x) | lift_lets -underBinder
    | with_reducible first
        | apply State.mapFinding_keeps | apply State.ackPending_keeps
        | (refine Keeps.ite (fun _ => ?_) (fun _ => ?_)) | (refine Keeps.upd ?_; assumption)
    | split

theorem State.tapSlot_keeps {b0 : State} (s : State) (port : Nat) (kind : SlotKind) (hk : Keeps b0 s) : Keeps b0 (State.tapSlot s port kind) := by
  unfold State.tapSlot
  repeat' first
    | with_reducible assumption
    | (intro x; refine @Keeps.cut (Keeps b0 x) _ ?_ ?_ <;> [subst x; (intro _; clear_value x)])
    | (intro x; clear_value x) | lift_lets -underBinder
    | with_reducible first
        | apply State.setTapPair_keeps | apply State.strobe_keeps | apply State.unfind_keeps
        | apply State.toneIn_keeps | apply State.find_keeps | (refine Keeps.ite (fun _ => ?_) (fun _ => ?_))
        | (refine Keeps.upd ?_; assumption)

theorem State.slotArrives_keeps {b0 : State} (s : State) (port : Nat) (kind : SlotKind) (hk : Keeps b0 s) : Keeps b0 (State.slotArrives s port kind) := by
  unfold State.slotArrives
  repeat' first
    | with_reducible assumption
    | with_reducible first
        | apply State.portSlot_keeps | apply State.tapSlot_keeps

theorem execHeartbeatSlotSend_keeps {b0 : State} (s : State) (hk : Keeps b0 s) : KeepsE b0 (execHeartbeatSlotSend s) := by
  unfold execHeartbeatSlotSend
  repeat' first
    | with_reducible assumption
    | with_reducible first
        | apply KeepsE.next | refine State.whenVamp_keeps _ _ ?_ ?_ | apply State.emit_keeps
        | (refine Keeps.ite (fun _ => ?_) (fun _ => ?_))

theorem execSlotReceive_keeps {b0 : State} (port : Nat) (kind : SlotKind) (s : State) (hk : Keeps b0 s) : KeepsE b0 (execSlotReceive port kind s) := by
  unfold execSlotReceive
  repeat' first
    | with_reducible assumption
    | with_reducible first
        | apply KeepsE.next | apply State.slotArrives_keeps | (refine Keeps.ite (fun _ => ?_) (fun _ => ?_))
    | split

theorem execAlarmPairReceive_keeps {b0 : State} (port : Nat) (s : State) (hk : Keeps b0 s) : KeepsE b0 (execAlarmPairReceive port s) := by
  unfold execAlarmPairReceive
  repeat' first
    | with_reducible assumption
    | with_reducible first
        | apply KeepsE.next | apply State.slotArrives_keeps | (refine Keeps.ite (fun _ => ?_) (fun _ => ?_))
    | split

theorem execHbLostTimeout_keeps {b0 : State} (port : Nat) (s : State) (hk : Keeps b0 s) : KeepsE b0 (execHbLostTimeout port s) := by
  unfold execHbLostTimeout
  repeat' first
    | with_reducible assumption
    | (intro x; refine @Keeps.cut (Keeps b0 x) _ ?_ ?_ <;> [subst x; (intro _; clear_value x)])
    | (intro x; clear_value x) | lift_lets -underBinder
    | with_reducible first
        | apply KeepsE.next | refine State.whenVamp_keeps _ _ ?_ ?_ | apply State.setRxPair_keeps
        | apply State.setFld_keeps | apply State.flag_keeps | apply State.strobe_keeps
        | (refine Keeps.ite (fun _ => ?_) (fun _ => ?_)) | (refine Keeps.upd ?_; assumption)
    | split

theorem execSoleHbLostTimeout_keeps {b0 : State} (port : Nat) (s : State) (hk : Keeps b0 s) : KeepsE b0 (execSoleHbLostTimeout port s) := by
  unfold execSoleHbLostTimeout
  repeat' first
    | with_reducible assumption
    | (intro x; refine @Keeps.cut (Keeps b0 x) _ ?_ ?_ <;> [subst x; (intro _; clear_value x)])
    | (intro x; clear_value x) | lift_lets -underBinder
    | with_reducible first
        | apply KeepsE.next | apply State.setTapPair_keeps | apply State.flag_keeps | apply State.soleLog_keeps
        | apply State.strobe_keeps | apply State.find_keeps | (refine Keeps.ite (fun _ => ?_) (fun _ => ?_))
        | (refine Keeps.upd ?_; assumption)
    | split

theorem execToneClearTimeout_keeps {b0 : State} (s : State) (hk : Keeps b0 s) : KeepsE b0 (execToneClearTimeout s) := by
  unfold execToneClearTimeout
  repeat' first
    | with_reducible assumption
    | (intro x; refine @Keeps.cut (Keeps b0 x) _ ?_ ?_ <;> [subst x; (intro _; clear_value x)])
    | lift_lets -underBinder
    | with_reducible first
        | apply KeepsE.next | refine State.whenVamp_keeps _ _ ?_ ?_ | apply State.dropCause_keeps
        | apply State.restChan_keeps | apply State.act_keeps | apply State.unfind_keeps
        | (refine Keeps.ite (fun _ => ?_) (fun _ => ?_))
    | split

theorem execTetherLinkChange_keeps {b0 : State} (port : Nat) (up : Bool) (s : State) (hk : Keeps b0 s) : KeepsE b0 (execTetherLinkChange port up s) := by
  unfold execTetherLinkChange
  repeat' first
    | with_reducible assumption
    | with_reducible first
        | apply KeepsE.next | refine State.whenVamp_keeps _ _ ?_ ?_ | apply State.setBit_keeps
        | (refine Keeps.ite (fun _ => ?_) (fun _ => ?_))
    | split

theorem State.ask_keeps {b0 : State} (s : State) (n port op : Nat) (payload : Bytes) (hk : Keeps b0 s) : Keeps b0 (State.ask s n port op payload) := by
  unfold State.ask
  repeat' first
    | with_reducible assumption
    | with_reducible first
        | apply State.enqueue_keeps

theorem State.writeNode_keeps {b0 : State} (s : State) (n port : Nat) (hk : Keeps b0 s) : Keeps b0 (State.writeNode s n port) := by
  unfold State.writeNode
  repeat' first
    | with_reducible assumption
    | (intro x; refine @Keeps.cut (Keeps b0 x) _ ?_ ?_ <;> [subst x; (intro _; clear_value x)])
    | (intro x; clear_value x) | lift_lets -underBinder
    | with_reducible first
        | apply State.ask_keeps

theorem State.dropNode_keeps {b0 : State} (s : State) (n : Nat) (hk : Keeps b0 s) : Keeps b0 (State.dropNode s n) := by
  unfold State.dropNode
  repeat' first
    | with_reducible assumption
    | (intro x; refine @Keeps.cut (Keeps b0 x) _ ?_ ?_ <;> [subst x; (intro _; clear_value x)])
    | (intro x; clear_value x) | lift_lets -underBinder
    | with_reducible first
        | apply State.setNode_keeps | apply State.completeAll_keeps | (refine Keeps.upd ?_; assumption)

theorem State.assignNode_keeps {b0 : State} (s : State) (n port : Nat) (p : Bytes) (hk : Keeps b0 s) : Keeps b0 (State.assignNode s n port p) := by
  unfold State.assignNode
  repeat' first
    | with_reducible assumption
    | (intro x; refine @Keeps.cut (Keeps b0 x) _ ?_ ?_ <;> [subst x; (intro _; clear_value x)])
    | (intro x; clear_value x) | lift_lets -underBinder
    | with_reducible first
        | apply State.dropNode_keeps | apply State.setNode_keeps | apply State.ask_keeps | apply State.setFld_keeps
        | apply State.writeNode_keeps | (refine Keeps.ite (fun _ => ?_) (fun _ => ?_))

theorem State.calibrated_keeps {b0 : State} (s : State) (hk : Keeps b0 s) : Keeps b0 (State.calibrated s) := by
  unfold State.calibrated
  repeat' first
    | with_reducible assumption | (intro x; clear_value x) | lift_lets -underBinder
    | with_reducible first
        | refine Keeps.foldl (fun _ _ _ => ?_) ?_ | refine Keeps.foldl1 (fun _ _ _ => ?_) ?_
        | (refine Keeps.upd ?_; assumption)

theorem State.sendEchoes_keeps {b0 : State} (s : State) (n : Nat) (hk : Keeps b0 s) : Keeps b0 (State.sendEchoes s n) := by
  unfold State.sendEchoes
  repeat' first
    | with_reducible assumption | (intro x; clear_value x) | lift_lets -underBinder
    | with_reducible first
        | apply State.ask_keeps | refine Keeps.foldl (fun _ _ _ => ?_) ?_ | refine Keeps.foldl1 (fun _ _ _ => ?_) ?_
        | (refine Keeps.upd ?_; assumption)

theorem State.calibrate_keeps {b0 : State} (s : State) (hk : Keeps b0 s) : Keeps b0 (State.calibrate s) := by
  unfold State.calibrate
  repeat' first
    | with_reducible assumption | (intro x; clear_value x) | lift_lets -underBinder
    | with_reducible first
        | apply State.sendEchoes_keeps | apply State.pump_keeps | refine Keeps.foldl (fun _ _ _ => ?_) ?_
        | refine Keeps.foldl1 (fun _ _ _ => ?_) ?_ | (refine Keeps.ite (fun _ => ?_) (fun _ => ?_))
        | (refine Keeps.upd ?_; assumption)

theorem State.calibrateNode_keeps {b0 : State} (s : State) (n : Nat) (hk : Keeps b0 s) : Keeps b0 (State.calibrateNode s n) := by
  unfold State.calibrateNode
  repeat' first
    | with_reducible assumption
    | with_reducible first
        | apply State.sendEchoes_keeps | apply State.pump_keeps | apply State.calibrate_keeps
        | (refine Keeps.ite (fun _ => ?_) (fun _ => ?_))

theorem execCalibrationTimer_keeps {b0 : State} (s : State) (hk : Keeps b0 s) : KeepsE b0 (execCalibrationTimer s) := by
  unfold execCalibrationTimer
  repeat' first
    | with_reducible assumption
    | with_reducible first
        | apply KeepsE.next | refine State.whenVamp_keeps _ _ ?_ ?_ | apply State.calibrate_keeps

theorem State.recalReq_keeps {b0 : State} (s : State) (hk : Keeps b0 s) : Keeps b0 (State.recalReq s) := by
  unfold State.recalReq
  repeat' first
    | with_reducible assumption
    | with_reducible first
        | apply State.setBit_keeps | apply State.calibrate_keeps | (refine Keeps.ite (fun _ => ?_) (fun _ => ?_))

theorem execTthRecalReq_keeps {b0 : State} (s : State) (hk : Keeps b0 s) : KeepsE b0 (execTthRecalReq s) := by
  unfold execTthRecalReq
  repeat' first
    | with_reducible assumption
    | with_reducible first
        | apply KeepsE.next | refine State.whenVamp_keeps _ _ ?_ ?_ | apply State.recalReq_keeps

theorem execCalibrationDone_keeps {b0 : State} (s : State) (hk : Keeps b0 s) : KeepsE b0 (execCalibrationDone s) := by
  unfold execCalibrationDone
  repeat' first
    | with_reducible assumption
    | with_reducible first
        | apply KeepsE.next | refine State.whenVamp_keeps _ _ ?_ ?_ | apply State.calibrated_keeps
        | apply State.setBit_keeps | (refine Keeps.ite (fun _ => ?_) (fun _ => ?_))

theorem State.setSplit_keeps {b0 : State} (s : State) (last first : Nat) (hk : Keeps b0 s) : Keeps b0 (State.setSplit s last first) := by
  unfold State.setSplit
  repeat' first
    | with_reducible assumption
    | with_reducible first
        | apply State.setFld_keeps

theorem execBreakLocateDone_keeps {b0 : State} (s : State) (hk : Keeps b0 s) : KeepsE b0 (execBreakLocateDone s) := by
  unfold execBreakLocateDone
  repeat' first
    | with_reducible assumption
    | (intro x; refine @Keeps.cut (Keeps b0 x) _ ?_ ?_ <;> [subst x; (intro _; clear_value x)])
    | (intro x; clear_value x) | lift_lets -underBinder
    | with_reducible first
        | apply KeepsE.next | refine State.whenVamp_keeps _ _ ?_ ?_ | apply State.setReach_keeps
        | apply State.setSplit_keeps | apply State.showRing_keeps | apply State.pump_keeps
        | refine Keeps.foldl (fun _ _ _ => ?_) ?_ | refine Keeps.foldl1 (fun _ _ _ => ?_) ?_
        | (refine Keeps.ite (fun _ => ?_) (fun _ => ?_)) | (refine Keeps.upd ?_; assumption)
    | split

theorem execReachabilityRollcall_keeps {b0 : State} (s : State) (hk : Keeps b0 s) : KeepsE b0 (execReachabilityRollcall s) := by
  unfold execReachabilityRollcall
  repeat' first
    | with_reducible assumption
    | with_reducible first
        | apply KeepsE.next | refine State.whenVamp_keeps _ _ ?_ ?_ | apply State.rollcall_keeps
        | (refine Keeps.ite (fun _ => ?_) (fun _ => ?_))

theorem State.refreshMonitored_keeps {b0 : State} (s : State) (hk : Keeps b0 s) : Keeps b0 (State.refreshMonitored s) := by
  unfold State.refreshMonitored
  repeat' first
    | with_reducible assumption | (intro x; clear_value x) | lift_lets -underBinder
    | with_reducible first
        | (refine Keeps.upd ?_; assumption)

theorem State.restartNode_keeps {b0 : State} (s : State) (port : Nat) (p : Bytes) (hk : Keeps b0 s) : Keeps b0 (State.restartNode s port p) := by
  unfold State.restartNode
  repeat' first
    | with_reducible assumption
    | (intro x; refine @Keeps.cut (Keeps b0 x) _ ?_ ?_ <;> [subst x; (intro _; clear_value x)])
    | (intro x; clear_value x) | lift_lets -underBinder
    | with_reducible first
        | apply State.assignNode_keeps | apply State.ask_keeps | apply State.unfind_keeps
        | apply State.showRing_keeps | apply State.refreshMonitored_keeps | apply State.strobe_keeps
        | apply State.calibrateNode_keeps | (refine Keeps.ite (fun _ => ?_) (fun _ => ?_))
        | (refine Keeps.upd ?_; assumption)
    | split

theorem State.placeRestarts_keeps {b0 : State} (s : State) (hk : Keeps b0 s) : Keeps b0 (State.placeRestarts s) := by
  unfold State.placeRestarts
  repeat' first
    | with_reducible assumption | (intro x; clear_value x) | lift_lets -underBinder
    | with_reducible first
        | apply State.restartNode_keeps | refine Keeps.foldl (fun _ _ _ => ?_) ?_
        | refine Keeps.foldl1 (fun _ _ _ => ?_) ?_ | (refine Keeps.upd ?_; assumption)

theorem execNodeUnreachableTimeout_keeps {b0 : State} (node : Nat) (s : State) (hk : Keeps b0 s) : KeepsE b0 (execNodeUnreachableTimeout node s) := by
  unfold execNodeUnreachableTimeout
  repeat' first
    | with_reducible assumption
    | (intro x; refine @Keeps.cut (Keeps b0 x) _ ?_ ?_ <;> [subst x; (intro _; clear_value x)])
    | lift_lets -underBinder
    | with_reducible first
        | apply KeepsE.next | refine State.whenVamp_keeps _ _ ?_ ?_ | apply State.setFld_keeps
        | apply State.setReach_keeps | apply State.showRing_keeps | apply State.strobe_keeps
        | apply State.find_keeps | apply State.placeRestarts_keeps | (refine Keeps.ite (fun _ => ?_) (fun _ => ?_))
    | split

theorem State.releaseNodes_keeps {b0 : State} (s : State) (hk : Keeps b0 s) : Keeps b0 (State.releaseNodes s) := by
  unfold State.releaseNodes
  repeat' first
    | with_reducible assumption
    | (intro x; refine @Keeps.cut (Keeps b0 x) _ ?_ ?_ <;> [subst x; (intro _; clear_value x)])
    | (intro x; clear_value x) | lift_lets -underBinder
    | with_reducible first
        | apply State.dropNode_keeps | apply State.setFld_keeps | apply State.setNode_keeps
        | apply State.unfind_keeps | apply State.sendBoth_keeps | refine Keeps.foldl (fun _ _ _ => ?_) ?_
        | refine Keeps.foldl1 (fun _ _ _ => ?_) ?_ | (refine Keeps.upd ?_; assumption)

theorem State.identify_keeps {b0 : State} (s : State) (port : Nat) (hk : Keeps b0 s) : Keeps b0 (State.identify s port) := by
  unfold State.identify
  repeat' first
    | with_reducible assumption
    | with_reducible first
        | apply State.enqueue_keeps

theorem State.enumerate_keeps {b0 : State} (s : State) (hk : Keeps b0 s) : Keeps b0 (State.enumerate s) := by
  unfold State.enumerate
  repeat' first
    | with_reducible assumption
    | (intro x; refine @Keeps.cut (Keeps b0 x) _ ?_ ?_ <;> [subst x; (intro _; clear_value x)])
    | (intro x; clear_value x) | lift_lets -underBinder
    | with_reducible first
        | apply State.setBit_keeps | apply State.releaseNodes_keeps | apply State.showRing_keeps
        | apply State.identify_keeps | apply State.pump_keeps | (refine Keeps.ite (fun _ => ?_) (fun _ => ?_))
        | (refine Keeps.upd ?_; assumption)

theorem execTthEnumReq_keeps {b0 : State} (s : State) (hk : Keeps b0 s) : KeepsE b0 (execTthEnumReq s) := by
  unfold execTthEnumReq
  repeat' first
    | with_reducible assumption
    | with_reducible first
        | apply KeepsE.next | refine State.whenVamp_keeps _ _ ?_ ?_ | apply State.enumerate_keeps

theorem execRingHealed_keeps {b0 : State} (s : State) (hk : Keeps b0 s) : KeepsE b0 (execRingHealed s) := by
  unfold execRingHealed
  repeat' first
    | with_reducible assumption
    | (intro x; refine @Keeps.cut (Keeps b0 x) _ ?_ ?_ <;> [subst x; (intro _; clear_value x)])
    | (intro x; clear_value x) | lift_lets -underBinder
    | with_reducible first
        | apply KeepsE.next | refine State.whenVamp_keeps _ _ ?_ ?_ | apply State.rollcall_keeps
        | apply State.identify_keeps | apply State.pump_keeps | apply State.showRing_keeps
        | (refine Keeps.ite (fun _ => ?_) (fun _ => ?_)) | (refine Keeps.upd ?_; assumption)
    | split

theorem State.loopEnd_keeps {b0 : State} (s : State) (hk : Keeps b0 s) : Keeps b0 (State.loopEnd s) := by
  unfold State.loopEnd
  repeat' first
    | with_reducible assumption
    | (intro x; refine @Keeps.cut (Keeps b0 x) _ ?_ ?_ <;> [subst x; (intro _; clear_value x)])
    | (intro x; clear_value x) | lift_lets -underBinder
    | with_reducible first
        | apply State.identify_keeps | apply State.pump_keeps | apply State.sendEchoes_keeps
        | refine Keeps.foldl (fun _ _ _ => ?_) ?_ | refine Keeps.foldl1 (fun _ _ _ => ?_) ?_
        | (refine Keeps.ite (fun _ => ?_) (fun _ => ?_)) | (refine Keeps.upd ?_; assumption)

theorem State.identified_keeps {b0 : State} (s : State) (port : Nat) (p : Bytes) (hk : Keeps b0 s) : Keeps b0 (State.identified s port p) := by
  unfold State.identified
  repeat' first
    | with_reducible assumption
    | (intro x; refine @Keeps.cut (Keeps b0 x) _ ?_ ?_ <;> [subst x; (intro _; clear_value x)])
    | (intro x; clear_value x) | lift_lets -underBinder
    | with_reducible first
        | apply State.restartNode_keeps | apply State.loopEnd_keeps | apply State.identify_keeps
        | apply State.pump_keeps | apply State.assignNode_keeps | apply State.sendEchoes_keeps
        | (refine Keeps.ite (fun _ => ?_) (fun _ => ?_)) | (refine Keeps.upd ?_; assumption)

theorem State.nodeBack_keeps {b0 : State} (s : State) (n : Nat) (hk : Keeps b0 s) : Keeps b0 (State.nodeBack s n) := by
  unfold State.nodeBack
  repeat' first
    | with_reducible assumption
    | with_reducible first
        | apply State.setFld_keeps | apply State.showRing_keeps | apply State.unfind_keeps
        | (refine Keeps.ite (fun _ => ?_) (fun _ => ?_))

theorem State.enumEnd_keeps {b0 : State} (s : State) (mismatch : Bool) (fromA fromB : Nat) (hk : Keeps b0 s) : Keeps b0 (State.enumEnd s mismatch fromA fromB) := by
  unfold State.enumEnd
  repeat' first
    | with_reducible assumption
    | (intro x; refine @Keeps.cut (Keeps b0 x) _ ?_ ?_ <;> [subst x; (intro _; clear_value x)])
    | (intro x; clear_value x) | lift_lets -underBinder
    | with_reducible first
        | apply State.refreshMonitored_keeps | apply State.setBit_keeps | apply State.showRing_keeps
        | apply State.impHeads_keeps | apply State.strobe_keeps | apply State.completeAll_keeps
        | apply State.locateBreak_keeps | (refine Keeps.ite (fun _ => ?_) (fun _ => ?_))
        | (refine Keeps.upd ?_; assumption)

theorem State.settleChain_keeps {b0 : State} (s : State) (hk : Keeps b0 s) : Keeps b0 (State.settleChain s) := by
  unfold State.settleChain
  repeat' first
    | with_reducible assumption
    | with_reducible first
        | apply State.chainBoundary_keeps | (refine Keeps.ite (fun _ => ?_) (fun _ => ?_))

theorem execEnumerationDone_keeps {b0 : State} (s : State) (hk : Keeps b0 s) : KeepsE b0 (execEnumerationDone s) := by
  unfold execEnumerationDone
  repeat' first
    | with_reducible assumption
    | (intro x; refine @Keeps.cut (Keeps b0 x) _ ?_ ?_ <;> [subst x; (intro _; clear_value x)])
    | (intro x; clear_value x) | lift_lets -underBinder
    | with_reducible first
        | apply KeepsE.next | refine State.whenVamp_keeps _ _ ?_ ?_ | apply State.calibrated_keeps
        | apply State.settleChain_keeps | apply State.setSplit_keeps | apply State.enumEnd_keeps
        | (refine Keeps.ite (fun _ => ?_) (fun _ => ?_)) | (refine Keeps.upd ?_; assumption)
    | split

theorem execNodeThresholdReadback_keeps {b0 : State} (s : State) (hk : Keeps b0 s) : KeepsE b0 (execNodeThresholdReadback s) := by
  unfold execNodeThresholdReadback
  repeat' first
    | with_reducible assumption
    | with_reducible first
        | apply KeepsE.next | refine State.whenVamp_keeps _ _ ?_ ?_ | apply State.sendNode_keeps
        | refine Keeps.foldl (fun _ _ _ => ?_) ?_

theorem State.configRead_keeps {b0 : State} (s : State) (n : Nat) (p : Bytes) (hk : Keeps b0 s) : Keeps b0 (State.configRead s n p) := by
  unfold State.configRead
  repeat' first
    | with_reducible assumption | (intro x; clear_value x) | lift_lets -underBinder
    | with_reducible first
        | apply State.judge_keeps | (refine Keeps.ite (fun _ => ?_) (fun _ => ?_))

theorem State.clearReplied_keeps {b0 : State} (s : State) (n : Nat) (hk : Keeps b0 s) : Keeps b0 (State.clearReplied s n) := by
  unfold State.clearReplied
  repeat' first
    | with_reducible assumption | (intro x; clear_value x) | lift_lets -underBinder
    | with_reducible first
        | (refine Keeps.ite (fun _ => ?_) (fun _ => ?_)) | (refine Keeps.upd ?_; assumption)

theorem State.heartbeatReply_keeps {b0 : State} (s : State) (n : Nat) (asked p : Bytes) (hk : Keeps b0 s) : Keeps b0 (State.heartbeatReply s n asked p) := by
  unfold State.heartbeatReply
  repeat' first
    | with_reducible assumption
    | (intro x; refine @Keeps.cut (Keeps b0 x) _ ?_ ?_ <;> [subst x; (intro _; clear_value x)])
    | (intro x; clear_value x) | lift_lets -underBinder
    | with_reducible first
        | apply State.judge_keeps | apply State.clearReplied_keeps | (refine Keeps.ite (fun _ => ?_) (fun _ => ?_))

theorem State.frameDiscard_keeps {b0 : State} (s : State) (port reason : Nat) (frame : Bytes) (hk : Keeps b0 s) : Keeps b0 (State.frameDiscard s port reason frame) := by
  unfold State.frameDiscard
  repeat' first
    | with_reducible assumption
    | (intro x; refine @Keeps.cut (Keeps b0 x) _ ?_ ?_ <;> [subst x; (intro _; clear_value x)])
    | (intro x; clear_value x) | lift_lets -underBinder
    | with_reducible first
        | apply State.incFld_keeps | apply State.strobe_keeps | (refine Keeps.ite (fun _ => ?_) (fun _ => ?_))
        | (refine Keeps.upd ?_; assumption)

theorem State.answerCmd_keeps {b0 : State} (s : State) (w : Outstanding) (status : Nat) (body : Bytes) (hk : Keeps b0 s) : Keeps b0 (State.answerCmd s w status body) := by
  unfold State.answerCmd
  repeat' first
    | with_reducible assumption
    | with_reducible first
        | apply State.completeAll_keeps

theorem State.samplesReply_keeps {b0 : State} (s : State) (n port : Nat) (p : Bytes) (hk : Keeps b0 s) : Keeps b0 (State.samplesReply s n port p) := by
  unfold State.samplesReply
  repeat' first
    | with_reducible assumption
    | (intro x; refine @Keeps.cut (Keeps b0 x) _ ?_ ?_ <;> [subst x; (intro _; clear_value x)])
    | (intro x; clear_value x) | lift_lets -underBinder
    | with_reducible first
        | apply State.incFld_keeps | apply State.setBit_keeps | apply State.setNode_keeps
        | apply State.recordClose_keeps | (refine Keeps.ite (fun _ => ?_) (fun _ => ?_))
        | (refine Keeps.upd ?_; assumption)
    | split

theorem State.testReply_keeps {b0 : State} (s : State) (n : Nat) (p : Bytes) (hk : Keeps b0 s) : Keeps b0 (State.testReply s n p) := by
  unfold State.testReply
  repeat' first
    | with_reducible assumption
    | (intro x; refine @Keeps.cut (Keeps b0 x) _ ?_ ?_ <;> [subst x; (intro _; clear_value x)])
    | (intro x; clear_value x) | lift_lets -underBinder
    | with_reducible first
        | apply State.sendNode_keeps | (refine Keeps.ite (fun _ => ?_) (fun _ => ?_))
        | (refine Keeps.upd ?_; assumption)
    | split

theorem State.testFails_keeps {b0 : State} (s : State) (n : Nat) (hk : Keeps b0 s) : Keeps b0 (State.testFails s n) := by
  unfold State.testFails
  repeat' first
    | with_reducible assumption | (intro x; clear_value x) | lift_lets -underBinder
    | with_reducible first
        | (refine Keeps.ite (fun _ => ?_) (fun _ => ?_)) | (refine Keeps.upd ?_; assumption)
    | split

theorem State.rollReply_keeps {b0 : State} (s : State) (n port : Nat) (hk : Keeps b0 s) : Keeps b0 (State.rollReply s n port) := by
  unfold State.rollReply
  repeat' first
    | with_reducible assumption | (intro x; clear_value x) | lift_lets -underBinder
    | with_reducible first
        | (refine Keeps.ite (fun _ => ?_) (fun _ => ?_)) | (refine Keeps.upd ?_; assumption)

theorem State.tripMeasured_keeps {b0 : State} (s : State) (n port rt : Nat) (hk : Keeps b0 s) : Keeps b0 (State.tripMeasured s n port rt) := by
  unfold State.tripMeasured
  repeat' first
    | with_reducible assumption | (intro x; clear_value x) | lift_lets -underBinder
    | with_reducible first
        | (refine Keeps.upd ?_; assumption)

theorem State.diagReply_keeps {b0 : State} (s : State) (n : Nat) (w : Outstanding) (p : Bytes) (rt : Nat) (hk : Keeps b0 s) : Keeps b0 (State.diagReply s n w p rt) := by
  unfold State.diagReply
  repeat' first
    | with_reducible assumption | lift_lets -underBinder
    | with_reducible first
        | apply State.tripMeasured_keeps | apply State.burstStatus_keeps | apply State.answerCmd_keeps
        | (refine Keeps.ite (fun _ => ?_) (fun _ => ?_))
    | split

theorem State.cmdFails_keeps {b0 : State} (s : State) (n : Nat) (w : Outstanding) (status : Nat) (body : Bytes) (hk : Keeps b0 s) : Keeps b0 (State.cmdFails s n w status body) := by
  unfold State.cmdFails
  repeat' first
    | with_reducible assumption
    | (intro x; refine @Keeps.cut (Keeps b0 x) _ ?_ ?_ <;> [subst x; (intro _; clear_value x)])
    | (intro x; clear_value x) | lift_lets -underBinder
    | with_reducible first
        | apply State.answerCmd_keeps | apply State.testFails_keeps | apply State.burstSkip_keeps
        | apply State.clearReplied_keeps | apply State.burstStatus_keeps
        | (refine Keeps.ite (fun _ => ?_) (fun _ => ?_)) | (refine Keeps.upd ?_; assumption)

theorem State.replyTo_keeps {b0 : State} (s : State) (n op : Nat) (w : Outstanding) (p : Bytes) (rt : Nat) (hk : Keeps b0 s) : Keeps b0 (State.replyTo s n op w p rt) := by
  unfold State.replyTo
  repeat' first
    | with_reducible assumption | lift_lets -underBinder
    | with_reducible first
        | apply State.cmdFails_keeps | apply State.samplesReply_keeps | apply State.balanceReply_keeps
        | apply State.testReply_keeps | apply State.burstPoints_keeps | apply State.configRead_keeps
        | apply State.answerCmd_keeps | apply State.diagReply_keeps | apply State.heartbeatReply_keeps
        | (refine Keeps.ite (fun _ => ?_) (fun _ => ?_))
    | split

theorem State.replyFrom_keeps {b0 : State} (s : State) (n port op seq : Nat) (p : Bytes) (rt : Nat) (hk : Keeps b0 s) : Keeps b0 (State.replyFrom s n port op seq p rt) := by
  unfold State.replyFrom
  repeat' first
    | with_reducible assumption
    | (intro x; refine @Keeps.cut (Keeps b0 x) _ ?_ ?_ <;> [subst x; (intro _; clear_value x)])
    | (intro x; clear_value x) | lift_lets -underBinder
    | with_reducible first
        | apply State.nodeBack_keeps | apply State.setReach_keeps | apply State.setNode_keeps
        | apply State.replyTo_keeps | apply State.samplesReply_keeps | apply State.rollReply_keeps
        | (refine Keeps.ite (fun _ => ?_) (fun _ => ?_))
    | split

theorem State.commandBack_keeps {b0 : State} (s : State) (port n op rt : Nat) (hk : Keeps b0 s) : Keeps b0 (State.commandBack s port n op rt) := by
  unfold State.commandBack
  repeat' first
    | with_reducible assumption
    | (intro x; refine @Keeps.cut (Keeps b0 x) _ ?_ ?_ <;> [subst x; (intro _; clear_value x)])
    | (intro x; clear_value x) | lift_lets -underBinder
    | with_reducible first
        | apply State.setFld_keeps | apply State.loopEnd_keeps | (refine Keeps.ite (fun _ => ?_) (fun _ => ?_))

theorem State.frameGood_keeps {b0 : State} (s : State) (port : Nat) (frame : Bytes) (rt : Nat) (hk : Keeps b0 s) : Keeps b0 (State.frameGood s port frame rt) := by
  unfold State.frameGood
  repeat' first
    | with_reducible assumption | (intro x; clear_value x) | lift_lets -underBinder
    | with_reducible first
        | apply State.commandBack_keeps | apply State.identified_keeps | apply State.restartNode_keeps
        | apply State.replyFrom_keeps | apply State.pump_keeps | (refine Keeps.ite (fun _ => ?_) (fun _ => ?_))

theorem State.lineEnds_keeps {b0 : State} {port : Nat} : ∀ {l : List FrameEnd} {s : State} {rts : List Nat}, Keeps b0 s →
    Keeps b0 (s.lineEnds port rts l)
  | [], _, _, h => h
  | .discard _ _ :: rest, s, rts, h => by
    unfold State.lineEnds
    exact State.lineEnds_keeps (l := rest) (State.frameDiscard_keeps _ _ _ _ h)
  | .good _ :: rest, s, rts, h => by
    unfold State.lineEnds
    exact State.lineEnds_keeps (l := rest) (State.frameGood_keeps _ _ _ _ h)

theorem execTetherFrameReceive_keeps {b0 : State} (port : Nat) (groups : List (Option Nat)) (rts : List Nat) (s : State) (hk : Keeps b0 s) : KeepsE b0 (execTetherFrameReceive port groups rts s) := by
  unfold execTetherFrameReceive
  repeat' first
    | with_reducible assumption
    | with_reducible first
        | apply KeepsE.next | refine State.whenVamp_keeps _ _ ?_ ?_ | apply State.lineEnds_keeps
        | (refine Keeps.ite (fun _ => ?_) (fun _ => ?_))

theorem State.reread_keeps {b0 : State} (s : State) (r : OpenRecord) (n : Nat) (hk : Keeps b0 s) : Keeps b0 (State.reread s r n) := by
  unfold State.reread
  repeat' first
    | with_reducible assumption
    | (intro x; refine @Keeps.cut (Keeps b0 x) _ ?_ ?_ <;> [subst x; (intro _; clear_value x)])
    | (intro x; clear_value x) | lift_lets -underBinder
    | with_reducible first
        | apply State.setNode_keeps | apply State.sendVia_keeps | (refine Keeps.ite (fun _ => ?_) (fun _ => ?_))
        | (refine Keeps.upd ?_; assumption)
    | split

theorem State.retry_keeps {b0 : State} (s : State) (n : Nat) (w : Outstanding) (hk : Keeps b0 s) : Keeps b0 (State.retry s n w) := by
  unfold State.retry
  repeat' first
    | with_reducible assumption
    | (intro x; refine @Keeps.cut (Keeps b0 x) _ ?_ ?_ <;> [subst x; (intro _; clear_value x)])
    | (intro x; refine @Keeps.cut (∀ a0, Keeps b0 (x a0)) _ ?_ ?_ <;> [(subst x; intro _; dsimp -zeta only); (intro hx; clear_value x)])
    | (intro x; clear_value x) | lift_lets -underBinder
    | with_reducible first
        | apply hx | apply State.setNode_keeps | apply State.cmdFails_keeps
        | (refine Keeps.ite (fun _ => ?_) (fun _ => ?_)) | (refine Keeps.upd ?_; assumption)

theorem execTetherReplyTimeout_keeps {b0 : State} (node : Nat) (s : State) (hk : Keeps b0 s) : KeepsE b0 (execTetherReplyTimeout node s) := by
  unfold execTetherReplyTimeout
  repeat' first
    | with_reducible assumption
    | (intro x; refine @Keeps.cut (Keeps b0 x) _ ?_ ?_ <;> [subst x; (intro _; clear_value x)])
    | (intro x; clear_value x) | lift_lets -underBinder
    | with_reducible first
        | apply KeepsE.next | refine State.whenVamp_keeps _ _ ?_ ?_ | apply State.loopEnd_keeps
        | apply State.reread_keeps | apply State.retry_keeps | apply State.setNode_keeps | apply State.pump_keeps
        | (refine Keeps.ite (fun _ => ?_) (fun _ => ?_))
    | split

theorem execWireTestStart_keeps {b0 : State} (node : Nat) (s : State) (hk : Keeps b0 s) : KeepsE b0 (execWireTestStart node s) := by
  unfold execWireTestStart
  repeat' first
    | with_reducible assumption
    | (intro x; refine @Keeps.cut (Keeps b0 x) _ ?_ ?_ <;> [subst x; (intro _; clear_value x)])
    | (intro x; clear_value x) | lift_lets -underBinder
    | with_reducible first
        | apply KeepsE.next | refine State.whenVamp_keeps _ _ ?_ ?_ | apply State.sendNode_keeps
        | (refine Keeps.ite (fun _ => ?_) (fun _ => ?_)) | (refine Keeps.upd ?_; assumption)
    | split

theorem State.recordLine_keeps {b0 : State} (s : State) (node l : Nat) (isOpen : Bool) (hk : Keeps b0 s) : Keeps b0 (State.recordLine s node l isOpen) := by
  unfold State.recordLine
  repeat' first
    | with_reducible assumption
    | (intro x; refine @Keeps.cut (∀ t a0, Keeps b0 t → Keeps b0 (x t a0)) _ ?_ ?_ <;> [(subst x; intro _ _ _; dsimp -zeta only); (intro hx; clear_value x)])
    | (intro x; clear_value x) | lift_lets -underBinder
    | with_reducible first
        | apply hx | apply State.setBit_keeps | (refine Keeps.ite (fun _ => ?_) (fun _ => ?_))
        | (refine Keeps.upd ?_; assumption)

theorem State.judgeLine_keeps {b0 : State} (s : State) (node : Nat) (got : List (Nat × Bytes)) (l : Nat) (hk : Keeps b0 s) : Keeps b0 (State.judgeLine s node got l) := by
  unfold State.judgeLine
  repeat' first
    | with_reducible assumption
    | (intro x; refine @Keeps.cut (Keeps b0 x) _ ?_ ?_ <;> [subst x; (intro _; clear_value x)])
    | (intro x; clear_value x) | lift_lets -underBinder
    | with_reducible first
        | apply State.recordLine_keeps | apply State.markWire_keeps | (refine Keeps.ite (fun _ => ?_) (fun _ => ?_))
        | (refine Keeps.upd ?_; assumption)

theorem execOpenWireTestDone_keeps {b0 : State} (s : State) (hk : Keeps b0 s) : KeepsE b0 (execOpenWireTestDone s) := by
  unfold execOpenWireTestDone
  repeat' first
    | with_reducible assumption
    | (intro x; refine @Keeps.cut (Keeps b0 x) _ ?_ ?_ <;> [subst x; (intro _; clear_value x)])
    | (intro x; clear_value x) | lift_lets -underBinder
    | with_reducible first
        | apply KeepsE.next | refine State.whenVamp_keeps _ _ ?_ ?_ | apply State.judgeLine_keeps
        | refine Keeps.foldl (fun _ _ _ => ?_) ?_ | refine Keeps.foldl1 (fun _ _ _ => ?_) ?_
        | (refine Keeps.ite (fun _ => ?_) (fun _ => ?_)) | (refine Keeps.upd ?_; assumption)
    | split

theorem execWireMarkClearTimeout_keeps {b0 : State} (node input line cause : Nat) (s : State) (hk : Keeps b0 s) : KeepsE b0 (execWireMarkClearTimeout node input line cause s) := by
  unfold execWireMarkClearTimeout
  repeat' first
    | with_reducible assumption | (intro x; clear_value x) | lift_lets -underBinder
    | with_reducible first
        | apply KeepsE.next | refine State.whenVamp_keeps _ _ ?_ ?_ | apply State.showWire_keeps
        | (refine Keeps.ite (fun _ => ?_) (fun _ => ?_)) | (refine Keeps.upd ?_; assumption)
    | split

theorem State.basesCycle_keeps {b0 : State} (s : State) (hk : Keeps b0 s) : Keeps b0 (State.basesCycle s) := by
  unfold State.basesCycle
  repeat' first
    | with_reducible assumption | (intro x; clear_value x) | lift_lets -underBinder
    | with_reducible first
        | (refine Keeps.ite (fun _ => ?_) (fun _ => ?_)) | (refine Keeps.upd ?_; assumption)

theorem State.timeCycle_keeps {b0 : State} (s : State) (hk : Keeps b0 s) : Keeps b0 (State.timeCycle s) := by
  unfold State.timeCycle
  repeat' first
    | with_reducible assumption
    | (intro x; refine @Keeps.cut (Keeps b0 x) _ ?_ ?_ <;> [subst x; (intro _; clear_value x)])
    | (intro x; clear_value x) | lift_lets -underBinder
    | with_reducible first
        | apply State.basesCycle_keeps | apply State.pwmFire_keeps | (refine Keeps.ite (fun _ => ?_) (fun _ => ?_))
        | (refine Keeps.upd ?_; assumption)

theorem execTimCapture_keeps {b0 : State} (s : State) (hk : Keeps b0 s) : KeepsE b0 (execTimCapture s) := by
  unfold execTimCapture
  repeat' first
    | with_reducible assumption | (intro x; clear_value x) | lift_lets -underBinder
    | with_reducible first
        | apply KeepsE.next | refine State.whenVamp_keeps _ _ ?_ ?_ | (refine Keeps.upd ?_; assumption)

theorem State.setAlarm_keeps {b0 : State} (s : State) (k ns : Nat) (hk : Keeps b0 s) : Keeps b0 (State.setAlarm s k ns) := by
  unfold State.setAlarm
  repeat' first
    | with_reducible assumption
    | with_reducible first
        | apply State.wr_keeps

theorem State.setAlarmFired_keeps {b0 : State} (s : State) (k n : Nat) (hk : Keeps b0 s) : Keeps b0 (State.setAlarmFired s k n) := by
  unfold State.setAlarmFired
  repeat' first
    | with_reducible assumption | (intro x; clear_value x) | lift_lets -underBinder
    | with_reducible first
        | (refine Keeps.ite (fun _ => ?_) (fun _ => ?_)) | (refine Keeps.upd ?_; assumption)

theorem State.alarmFire_keeps {b0 : State} (s : State) (k : Nat) (stepped : Bool) (hk : Keeps b0 s) : Keeps b0 (State.alarmFire s k stepped) := by
  unfold State.alarmFire
  repeat' first
    | with_reducible assumption
    | (intro x; refine @Keeps.cut (Keeps b0 x) _ ?_ ?_ <;> [subst x; (intro _; clear_value x)])
    | (intro x; clear_value x) | lift_lets -underBinder
    | with_reducible first
        | apply State.setAlarmFired_keeps | apply State.strobe_keeps | apply State.dmaRequest_keeps
        | apply State.setBit_keeps | apply State.setAlarm_keeps | (refine Keeps.ite (fun _ => ?_) (fun _ => ?_))
    | split

theorem State.alarmArmed_keeps {b0 : State} (s : State) (k : Nat) (v : Word) (hk : Keeps b0 s) : Keeps b0 (State.alarmArmed s k v) := by
  unfold State.alarmArmed
  repeat' first
    | with_reducible assumption
    | with_reducible first
        | apply State.setAlarmFired_keeps | (refine Keeps.ite (fun _ => ?_) (fun _ => ?_))

theorem execTimAlarmFire_keeps {b0 : State} (k : Nat) (s : State) (hk : Keeps b0 s) : KeepsE b0 (execTimAlarmFire k s) := by
  unfold execTimAlarmFire
  repeat' first
    | with_reducible assumption | lift_lets -underBinder
    | with_reducible first
        | apply KeepsE.next | refine State.whenVamp_keeps _ _ ?_ ?_ | apply State.alarmFire_keeps
        | (refine Keeps.ite (fun _ => ?_) (fun _ => ?_))
    | split

theorem execPlantSecond_keeps {b0 : State} (s : State) (hk : Keeps b0 s) : KeepsE b0 (execPlantSecond s) := by
  unfold execPlantSecond
  repeat' first
    | with_reducible assumption
    | (intro x; refine @Keeps.cut (Keeps b0 x) _ ?_ ?_ <;> [subst x; (intro _; clear_value x)])
    | (intro x; clear_value x) | lift_lets -underBinder
    | with_reducible first
        | apply KeepsE.next | refine State.whenVamp_keeps _ _ ?_ ?_ | apply State.strobe_keeps
        | apply State.dmaRequest_keeps | apply State.drive_keeps | (refine Keeps.ite (fun _ => ?_) (fun _ => ?_))
        | (refine Keeps.upd ?_; assumption)

theorem execPpsPulseEnd_keeps {b0 : State} (s : State) (hk : Keeps b0 s) : KeepsE b0 (execPpsPulseEnd s) := by
  unfold execPpsPulseEnd
  repeat' first
    | with_reducible assumption | (intro x; clear_value x) | lift_lets -underBinder
    | with_reducible first
        | apply KeepsE.next | refine State.whenVamp_keeps _ _ ?_ ?_ | (refine Keeps.upd ?_; assumption)

theorem State.setValid_keeps {b0 : State} (s : State) (v : Bool) (hk : Keeps b0 s) : Keeps b0 (State.setValid s v) := by
  unfold State.setValid
  repeat' first
    | with_reducible assumption
    | with_reducible first
        | apply State.setBit_keeps

theorem State.strobeHoldover_keeps {b0 : State} (s : State) (cause : Nat) (hk : Keeps b0 s) : Keeps b0 (State.strobeHoldover s cause) := by
  unfold State.strobeHoldover
  repeat' first
    | with_reducible assumption
    | with_reducible first
        | apply State.strobe_keeps

theorem State.steer_keeps {b0 : State} (s : State) (hk : Keeps b0 s) : Keeps b0 (State.steer s) := by
  unfold State.steer
  repeat' first
    | with_reducible assumption
    | (intro x; refine @Keeps.cut (Keeps b0 x) _ ?_ ?_ <;> [subst x; (intro _; clear_value x)])
    | (intro x; clear_value x) | lift_lets -underBinder
    | with_reducible first
        | apply State.drawn_keeps | apply State.wr_keeps | (refine Keeps.upd ?_; assumption)

theorem State.lockLost_keeps {b0 : State} (s : State) (hk : Keeps b0 s) : Keeps b0 (State.lockLost s) := by
  unfold State.lockLost
  repeat' first
    | with_reducible assumption
    | with_reducible first
        | apply State.flag_keeps | apply State.strobe_keeps

theorem State.enterAcquiring_keeps {b0 : State} (s : State) (hk : Keeps b0 s) : Keeps b0 (State.enterAcquiring s) := by
  unfold State.enterAcquiring
  repeat' first
    | with_reducible assumption
    | (intro x; refine @Keeps.cut (Keeps b0 x) _ ?_ ?_ <;> [subst x; (intro _; clear_value x)])
    | (intro x; clear_value x) | lift_lets -underBinder
    | with_reducible first
        | apply State.lockLost_keeps | apply State.strobeHoldover_keeps | apply State.setFld_keeps
        | apply State.setBit_keeps | apply State.setValid_keeps | (refine Keeps.ite (fun _ => ?_) (fun _ => ?_))
        | (refine Keeps.upd ?_; assumption)

theorem State.holdFrom_keeps {b0 : State} (s : State) (hk : Keeps b0 s) : Keeps b0 (State.holdFrom s) := by
  unfold State.holdFrom
  repeat' first
    | with_reducible assumption
    | (intro x; refine @Keeps.cut (Keeps b0 x) _ ?_ ?_ <;> [subst x; (intro _; clear_value x)])
    | (intro x; clear_value x) | lift_lets -underBinder
    | with_reducible first
        | apply hx | apply State.drawn_keeps | (refine Keeps.upd ?_; assumption)

theorem State.loseSource_keeps {b0 : State} (s : State) (cause : Nat) (hk : Keeps b0 s) : Keeps b0 (State.loseSource s cause) := by
  unfold State.loseSource
  repeat' first
    | with_reducible assumption
    | (intro x; refine @Keeps.cut (Keeps b0 x) _ ?_ ?_ <;> [subst x; (intro _; clear_value x)])
    | lift_lets -underBinder
    | with_reducible first
        | apply State.lockLost_keeps | apply State.setFld_keeps | apply State.holdFrom_keeps
        | apply State.setValid_keeps | apply State.flag_keeps | apply State.steer_keeps
        | apply State.strobeHoldover_keeps | (refine Keeps.ite (fun _ => ?_) (fun _ => ?_))

theorem State.stepPlant_keeps {b0 : State} (s : State) (offset : Int) (hk : Keeps b0 s) : Keeps b0 (State.stepPlant s offset) := by
  unfold State.stepPlant
  repeat' first
    | with_reducible assumption
    | (intro x; refine @Keeps.cut (Keeps b0 x) _ ?_ ?_ <;> [subst x; (intro _; clear_value x)])
    | (intro x; clear_value x) | lift_lets -underBinder
    | with_reducible first
        | apply State.flag_keeps | apply State.strobe_keeps | apply State.alarmFire_keeps
        | refine Keeps.foldl (fun _ _ _ => ?_) ?_ | refine Keeps.foldl1 (fun _ _ _ => ?_) ?_
        | (refine Keeps.ite (fun _ => ?_) (fun _ => ?_)) | (refine Keeps.upd ?_; assumption)

theorem State.fitModel_keeps {b0 : State} (s : State) (hk : Keeps b0 s) : Keeps b0 (State.fitModel s) := by
  unfold State.fitModel
  repeat' first
    | with_reducible assumption | (intro x; clear_value x) | lift_lets -underBinder
    | with_reducible first
        | apply State.setFld_keeps

theorem State.servoOffset_keeps {b0 : State} (s : State) (offset : Int) (hk : Keeps b0 s) : Keeps b0 (State.servoOffset s offset) := by
  unfold State.servoOffset
  repeat' first
    | with_reducible assumption
    | (intro x; refine @Keeps.cut (Keeps b0 x) _ ?_ ?_ <;> [subst x; (intro _; clear_value x)])
    | (intro x; clear_value x) | lift_lets -underBinder
    | with_reducible first
        | apply State.wr_keeps | apply State.enterAcquiring_keeps | apply State.setValid_keeps
        | apply State.stepPlant_keeps | apply State.drawn_keeps | apply State.steer_keeps | apply State.setFld_keeps
        | apply State.flag_keeps | apply State.strobe_keeps | apply State.fitModel_keeps
        | (refine Keeps.ite (fun _ => ?_) (fun _ => ?_)) | (refine Keeps.upd ?_; assumption)

theorem execPtpSyncReceive_keeps {b0 : State} (port domain originNs : Nat) (correctionNs : Int) (rxPlantNs : Nat) (s : State) (hk : Keeps b0 s) : KeepsE b0 (execPtpSyncReceive port domain originNs correctionNs rxPlantNs s) := by
  unfold execPtpSyncReceive
  repeat' first
    | with_reducible assumption
    | (intro x; refine @Keeps.cut (Keeps b0 x) _ ?_ ?_ <;> [subst x; (intro _; clear_value x)])
    | (intro x; clear_value x) | lift_lets -underBinder
    | with_reducible first
        | apply KeepsE.next | refine State.whenVamp_keeps _ _ ?_ ?_ | apply State.setFld_keeps
        | apply State.wr_keeps | apply State.servoOffset_keeps | (refine Keeps.ite (fun _ => ?_) (fun _ => ?_))
    | split

theorem State.showGm_keeps {b0 : State} (s : State) (a : Announce) (hk : Keeps b0 s) : Keeps b0 (State.showGm s a) := by
  unfold State.showGm
  repeat' first
    | with_reducible assumption
    | (intro x; refine @Keeps.cut (Keeps b0 x) _ ?_ ?_ <;> [subst x; (intro _; clear_value x)])
    | lift_lets -underBinder
    | with_reducible first
        | apply State.wr_keeps

theorem State.selectMaster_keeps {b0 : State} (s : State) (hk : Keeps b0 s) : Keeps b0 (State.selectMaster s) := by
  unfold State.selectMaster
  repeat' first
    | with_reducible assumption
    | (intro x; refine @Keeps.cut (Keeps b0 x) _ ?_ ?_ <;> [subst x; (intro _; clear_value x)])
    | (intro x; clear_value x) | lift_lets -underBinder
    | with_reducible first
        | apply State.setFld_keeps | apply State.showGm_keeps | apply State.enterAcquiring_keeps
        | apply State.loseSource_keeps | (refine Keeps.ite (fun _ => ?_) (fun _ => ?_))
        | (refine Keeps.upd ?_; assumption)
    | split

theorem execPtpAnnounceReceive_keeps {b0 : State} (port domain : Nat) (announce : Announce) (s : State) (hk : Keeps b0 s) : KeepsE b0 (execPtpAnnounceReceive port domain announce s) := by
  unfold execPtpAnnounceReceive
  repeat' first
    | with_reducible assumption
    | (intro x; refine @Keeps.cut (Keeps b0 x) _ ?_ ?_ <;> [subst x; (intro _; clear_value x)])
    | (intro x; clear_value x) | lift_lets -underBinder
    | with_reducible first
        | apply KeepsE.next | refine State.whenVamp_keeps _ _ ?_ ?_ | apply State.selectMaster_keeps
        | (refine Keeps.ite (fun _ => ?_) (fun _ => ?_)) | (refine Keeps.upd ?_; assumption)
    | split

theorem execPtpAnnounceTimeout_keeps {b0 : State} (port : Nat) (s : State) (hk : Keeps b0 s) : KeepsE b0 (execPtpAnnounceTimeout port s) := by
  unfold execPtpAnnounceTimeout
  repeat' first
    | with_reducible assumption
    | (intro x; refine @Keeps.cut (Keeps b0 x) _ ?_ ?_ <;> [subst x; (intro _; clear_value x)])
    | (intro x; clear_value x) | lift_lets -underBinder
    | with_reducible first
        | apply KeepsE.next | refine State.whenVamp_keeps _ _ ?_ ?_ | apply State.selectMaster_keeps
        | apply State.loseSource_keeps | (refine Keeps.ite (fun _ => ?_) (fun _ => ?_))
        | (refine Keeps.upd ?_; assumption)
    | split

theorem execPtpSyncTimeout_keeps {b0 : State} (s : State) (hk : Keeps b0 s) : KeepsE b0 (execPtpSyncTimeout s) := by
  unfold execPtpSyncTimeout
  repeat' first
    | with_reducible assumption
    | with_reducible first
        | apply KeepsE.next | refine State.whenVamp_keeps _ _ ?_ ?_ | apply State.loseSource_keeps

theorem execHoldoverBoundExceeded_keeps {b0 : State} (s : State) (hk : Keeps b0 s) : KeepsE b0 (execHoldoverBoundExceeded s) := by
  unfold execHoldoverBoundExceeded
  repeat' first
    | with_reducible assumption
    | (intro x; refine @Keeps.cut (Keeps b0 x) _ ?_ ?_ <;> [subst x; (intro _; clear_value x)])
    | (intro x; clear_value x) | lift_lets -underBinder
    | with_reducible first
        | apply KeepsE.next | refine State.whenVamp_keeps _ _ ?_ ?_ | apply State.setValid_keeps
        | apply State.strobeHoldover_keeps | (refine Keeps.ite (fun _ => ?_) (fun _ => ?_))
        | (refine Keeps.upd ?_; assumption)
    | split

theorem execHoldoverTempOutOfRange_keeps {b0 : State} (s : State) (hk : Keeps b0 s) : KeepsE b0 (execHoldoverTempOutOfRange s) := by
  unfold execHoldoverTempOutOfRange
  repeat' first
    | with_reducible assumption
    | (intro x; refine @Keeps.cut (Keeps b0 x) _ ?_ ?_ <;> [subst x; (intro _; clear_value x)])
    | (intro x; clear_value x) | lift_lets -underBinder
    | with_reducible first
        | apply KeepsE.next | refine State.whenVamp_keeps _ _ ?_ ?_ | apply State.setBit_keeps
        | apply State.strobeHoldover_keeps | (refine Keeps.ite (fun _ => ?_) (fun _ => ?_))
        | (refine Keeps.upd ?_; assumption)
    | split

theorem State.holdTemp_keeps {b0 : State} (s : State) (t : Int) (hk : Keeps b0 s) : Keeps b0 (State.holdTemp s t) := by
  unfold State.holdTemp
  repeat' first
    | with_reducible assumption
    | with_reducible first
        | apply State.setBit_keeps | apply State.steer_keeps | (refine Keeps.ite (fun _ => ?_) (fun _ => ?_))

theorem execOscModelStore_keeps {b0 : State} (s : State) (hk : Keeps b0 s) : KeepsE b0 (execOscModelStore s) := by
  unfold execOscModelStore
  repeat' first
    | with_reducible assumption
    | (intro x; refine @Keeps.cut (Keeps b0 x) _ ?_ ?_ <;> [subst x; (intro _; clear_value x)])
    | (intro x; clear_value x) | lift_lets -underBinder
    | with_reducible first
        | apply KeepsE.next | refine State.whenVamp_keeps _ _ ?_ ?_ | apply State.insoleStart_keeps
        | apply State.drawn_keeps | apply State.incFld_keeps | (refine Keeps.ite (fun _ => ?_) (fun _ => ?_))
        | (refine Keeps.upd ?_; assumption)
    | split

theorem State.sendPair_keeps {b0 : State} (s : State) (frame : Bytes) (hk : Keeps b0 s) : Keeps b0 (State.sendPair s frame) := by
  unfold State.sendPair
  repeat' first
    | with_reducible assumption
    | (intro x; refine @Keeps.cut (Keeps b0 x) _ ?_ ?_ <;> [subst x; (intro _; clear_value x)])
    | (intro x; refine @Keeps.cut (∀ t a0, Keeps b0 t → Keeps b0 (x t a0)) _ ?_ ?_ <;> [(subst x; intro _ _ _; dsimp -zeta only); (intro hx; clear_value x)])
    | (intro x; clear_value x) | lift_lets -underBinder
    | with_reducible first
        | apply hx | apply State.emit_keeps | (refine Keeps.ite (fun _ => ?_) (fun _ => ?_))
        | (refine Keeps.upd ?_; assumption)

theorem State.sendOn_keeps {b0 : State} (s : State) (port : Nat) (frame : Bytes) (hk : Keeps b0 s) : Keeps b0 (State.sendOn s port frame) := by
  unfold State.sendOn
  repeat' first
    | with_reducible assumption
    | with_reducible first
        | apply State.emit_keeps | (refine Keeps.ite (fun _ => ?_) (fun _ => ?_))

theorem execPtpPdelayReqSend_keeps {b0 : State} (s : State) (hk : Keeps b0 s) : KeepsE b0 (execPtpPdelayReqSend s) := by
  unfold execPtpPdelayReqSend
  repeat' first
    | with_reducible assumption
    | (intro x; refine @Keeps.cut (Keeps b0 x) _ ?_ ?_ <;> [subst x; (intro _; clear_value x)])
    | (intro x; refine @Keeps.cut (∀ t a0 a1, Keeps b0 t → Keeps b0 (x t a0 a1)) _ ?_ ?_ <;> [(subst x; intro _ _ _ _; dsimp -zeta only); (intro hx; clear_value x)])
    | (intro x; clear_value x) | lift_lets -underBinder
    | with_reducible first
        | apply KeepsE.next | apply hx | refine State.whenVamp_keeps _ _ ?_ ?_ | apply State.sendOn_keeps
        | (refine Keeps.upd ?_; assumption)

theorem execPtpPdelayReqReceive_keeps {b0 : State} (port seq : Nat) (requester : Bytes) (s : State) (hk : Keeps b0 s) : KeepsE b0 (execPtpPdelayReqReceive port seq requester s) := by
  unfold execPtpPdelayReqReceive
  repeat' first
    | with_reducible assumption
    | (intro x; refine @Keeps.cut (Keeps b0 x) _ ?_ ?_ <;> [subst x; (intro _; clear_value x)])
    | (intro x; clear_value x) | lift_lets -underBinder
    | with_reducible first
        | apply KeepsE.next | refine State.whenVamp_keeps _ _ ?_ ?_ | apply State.sendOn_keeps

theorem execPtpPdelayRespReceive_keeps {b0 : State} (port seq t2Ns t3Ns : Nat) (correctionNs : Int) (t4Ns : Nat) (s : State) (hk : Keeps b0 s) : KeepsE b0 (execPtpPdelayRespReceive port seq t2Ns t3Ns correctionNs t4Ns s) := by
  unfold execPtpPdelayRespReceive
  repeat' first
    | with_reducible assumption
    | (intro x; refine @Keeps.cut (Keeps b0 x) _ ?_ ?_ <;> [subst x; (intro _; clear_value x)])
    | (intro x; clear_value x) | lift_lets -underBinder
    | with_reducible first
        | apply KeepsE.next | refine State.whenVamp_keeps _ _ ?_ ?_ | apply State.wr_keeps
        | (refine Keeps.ite (fun _ => ?_) (fun _ => ?_)) | (refine Keeps.upd ?_; assumption)
    | split

theorem State.setLanAt_keeps {b0 : State} (s : State) (lan : Nat) (hk : Keeps b0 s) : Keeps b0 (State.setLanAt s lan) := by
  unfold State.setLanAt
  repeat' first
    | with_reducible assumption | (intro x; clear_value x) | lift_lets -underBinder
    | with_reducible first
        | (refine Keeps.ite (fun _ => ?_) (fun _ => ?_)) | (refine Keeps.upd ?_; assumption)

theorem State.setLan_keeps {b0 : State} (s : State) (lan : Nat) (lost : Bool) (hk : Keeps b0 s) : Keeps b0 (State.setLan s lan lost) := by
  unfold State.setLan
  repeat' first
    | with_reducible assumption
    | (intro x; refine @Keeps.cut (Keeps b0 x) _ ?_ ?_ <;> [subst x; (intro _; clear_value x)])
    | (intro x; clear_value x) | lift_lets -underBinder
    | with_reducible first
        | apply State.setBit_keeps | apply State.flag_keeps | apply State.strobe_keeps
        | (refine Keeps.ite (fun _ => ?_) (fun _ => ?_)) | (refine Keeps.upd ?_; assumption)

theorem State.strobeLink_keeps {b0 : State} (s : State) (port : Nat) (cause : Option Nat) (speed : Nat) (hk : Keeps b0 s) : Keeps b0 (State.strobeLink s port cause speed) := by
  unfold State.strobeLink
  repeat' first
    | with_reducible assumption
    | with_reducible first
        | apply State.strobe_keeps

theorem State.showLink_keeps {b0 : State} (s : State) (port : Nat) (cause : Option Nat) (page : Option Nat) (hk : Keeps b0 s) : Keeps b0 (State.showLink s port cause page) := by
  unfold State.showLink
  repeat' first
    | with_reducible assumption | (intro x; clear_value x) | lift_lets -underBinder
    | with_reducible first
        | apply State.complete_keeps | apply State.setBit_keeps | apply State.setFld_keeps

theorem execEthLinkChange_keeps {b0 : State} (port : Nat) (signal sync : Bool) (page : Option Nat) (s : State) (hk : Keeps b0 s) : KeepsE b0 (execEthLinkChange port signal sync page s) := by
  unfold execEthLinkChange
  repeat' first
    | with_reducible assumption
    | (intro x; refine @Keeps.cut (Keeps b0 x) _ ?_ ?_ <;> [subst x; (intro _; clear_value x)])
    | (intro x; clear_value x) | lift_lets -underBinder
    | with_reducible first
        | apply KeepsE.next | refine State.whenVamp_keeps _ _ ?_ ?_ | apply State.showLink_keeps
        | apply State.strobeLink_keeps | apply State.incFld_keeps | apply State.flag_keeps
        | apply State.setLanAt_keeps | apply State.setLan_keeps | (refine Keeps.ite (fun _ => ?_) (fun _ => ?_))
    | split

theorem State.ethCount_keeps {b0 : State} (s : State) (port : Nat) (transmit : Bool) (hk : Keeps b0 s) : Keeps b0 (State.ethCount s port transmit) := by
  unfold State.ethCount
  repeat' first
    | with_reducible assumption | (intro x; clear_value x) | lift_lets -underBinder
    | with_reducible first
        | apply State.transmit_keeps | apply State.strobe_keeps | (refine Keeps.ite (fun _ => ?_) (fun _ => ?_))
        | (refine Keeps.upd ?_; assumption)
    | split

theorem execEthEventHoldoffEnd_keeps {b0 : State} (port : Nat) (transmit : Bool) (s : State) (hk : Keeps b0 s) : KeepsE b0 (execEthEventHoldoffEnd port transmit s) := by
  unfold execEthEventHoldoffEnd
  repeat' first
    | with_reducible assumption | (intro x; clear_value x) | lift_lets -underBinder
    | with_reducible first
        | apply KeepsE.next | refine State.whenVamp_keeps _ _ ?_ ?_ | apply State.transmit_keeps
        | apply State.strobe_keeps | (refine Keeps.ite (fun _ => ?_) (fun _ => ?_))
        | (refine Keeps.upd ?_; assumption)
    | split

theorem State.heard_keeps {b0 : State} (s : State) (src : Nat) (hk : Keeps b0 s) : Keeps b0 (State.heard s src) := by
  unfold State.heard
  repeat' first
    | with_reducible assumption
    | (intro x; refine @Keeps.cut (Keeps b0 x) _ ?_ ?_ <;> [subst x; (intro _; clear_value x)])
    | (intro x; clear_value x) | lift_lets -underBinder
    | with_reducible first
        | apply State.setFld_keeps | (refine Keeps.ite (fun _ => ?_) (fun _ => ?_))
        | (refine Keeps.upd ?_; assumption)

theorem State.echoTaken_keeps {b0 : State} (s : State) (hk : Keeps b0 s) : Keeps b0 (State.echoTaken s) := by
  unfold State.echoTaken
  repeat' first
    | with_reducible assumption | (intro x; clear_value x) | lift_lets -underBinder
    | with_reducible first
        | (refine Keeps.ite (fun _ => ?_) (fun _ => ?_)) | (refine Keeps.upd ?_; assumption)

theorem State.stackAnswer_keeps {b0 : State} (s : State) (src : Bytes) (etherType : Nat) (body : Bytes) (hk : Keeps b0 s) : Keeps b0 (State.stackAnswer s src etherType body) := by
  unfold State.stackAnswer
  repeat' first
    | with_reducible assumption
    | (intro x; refine @Keeps.cut (∀ t a0 a1, Keeps b0 t → Keeps b0 (x t a0 a1)) _ ?_ ?_ <;> [(subst x; intro _ _ _ _; dsimp -zeta only); (intro hx; clear_value x)])
    | (intro x; clear_value x) | lift_lets -underBinder
    | with_reducible first
        | apply hx | apply State.sendPair_keeps | apply State.reply_keeps | apply State.echoTaken_keeps
        | (refine Keeps.ite (fun _ => ?_) (fun _ => ?_))

theorem execEthFrameReceive_keeps {b0 : State} (port : Nat) (frame : Bytes) (fcs : Word) (s : State) (hk : Keeps b0 s) : KeepsE b0 (execEthFrameReceive port frame fcs s) := by
  unfold execEthFrameReceive
  repeat' first
    | with_reducible assumption
    | (intro x; refine @Keeps.cut (Keeps b0 x) _ ?_ ?_ <;> [subst x; (intro _; clear_value x)])
    | (intro x; clear_value x) | lift_lets -underBinder
    | with_reducible first
        | apply KeepsE.next | refine State.whenVamp_keeps _ _ ?_ ?_ | apply State.incFld_keeps
        | apply State.heard_keeps | apply State.setLanAt_keeps | apply State.setLan_keeps | apply State.flag_keeps
        | apply State.incWrap_keeps | apply State.ethCount_keeps | apply State.dmaRequest_keeps
        | apply State.stackAnswer_keeps | (refine Keeps.ite (fun _ => ?_) (fun _ => ?_))
        | (refine Keeps.upd ?_; assumption)
    | split

theorem execEthTxComplete_keeps {b0 : State} (pair : Bool) (port : Nat) (ts : Bool) (frame : Bytes) (user : Word) (underrun : Bool) (s : State) (hk : Keeps b0 s) : KeepsE b0 (execEthTxComplete pair port ts frame user underrun s) := by
  unfold execEthTxComplete
  repeat' first
    | with_reducible assumption
    | (intro x; refine @Keeps.cut (Keeps b0 x) _ ?_ ?_ <;> [subst x; (intro _; clear_value x)])
    | (intro x; clear_value x) | lift_lets -underBinder
    | with_reducible first
        | apply KeepsE.next | apply hx | refine State.whenVamp_keeps _ _ ?_ ?_ | apply State.sendPair_keeps
        | apply State.sendOn_keeps | apply State.ethCount_keeps | apply State.dmaRequest_keeps
        | (refine Keeps.ite (fun _ => ?_) (fun _ => ?_)) | (refine Keeps.upd ?_; assumption)

theorem execPrpSupervisionSend_keeps {b0 : State} (s : State) (hk : Keeps b0 s) : KeepsE b0 (execPrpSupervisionSend s) := by
  unfold execPrpSupervisionSend
  repeat' first
    | with_reducible assumption | (intro x; clear_value x) | lift_lets -underBinder
    | with_reducible first
        | apply KeepsE.next | refine State.whenVamp_keeps _ _ ?_ ?_ | apply State.sendPair_keeps

theorem execPrpNodeAgeOut_keeps {b0 : State} (s : State) (hk : Keeps b0 s) : KeepsE b0 (execPrpNodeAgeOut s) := by
  unfold execPrpNodeAgeOut
  repeat' first
    | with_reducible assumption | (intro x; clear_value x) | lift_lets -underBinder
    | with_reducible first
        | apply KeepsE.next | refine State.whenVamp_keeps _ _ ?_ ?_ | apply State.setFld_keeps
        | (refine Keeps.upd ?_; assumption)

theorem execPrpPathLossTimeout_keeps {b0 : State} (port : Nat) (s : State) (hk : Keeps b0 s) : KeepsE b0 (execPrpPathLossTimeout port s) := by
  unfold execPrpPathLossTimeout
  repeat' first
    | with_reducible assumption
    | with_reducible first
        | apply KeepsE.next | refine State.whenVamp_keeps _ _ ?_ ?_ | apply State.setLan_keeps
        | (refine Keeps.ite (fun _ => ?_) (fun _ => ?_))
    | split

theorem State.canStore_keeps {b0 : State} (s : State) (n id : Nat) (ide rtr fdf brs esi : Bool) (dlc ago : Nat) (data : Bytes) (hk : Keeps b0 s) : Keeps b0 (State.canStore s n id ide rtr fdf brs esi dlc ago data) := by
  unfold State.canStore
  repeat' first
    | with_reducible assumption | (intro x; clear_value x) | lift_lets -underBinder
    | with_reducible first
        | apply State.drawn_keeps | apply State.canFifo_keeps | apply State.canBuffer_keeps
        | apply State.stationInput_keeps | (refine Keeps.ite (fun _ => ?_) (fun _ => ?_))
    | split

theorem State.canReceive_keeps {b0 : State} (s : State) (n id : Nat) (ide rtr fdf brs esi : Bool) (dlc ago : Nat) (data : Bytes) (hk : Keeps b0 s) : Keeps b0 (State.canReceive s n id ide rtr fdf brs esi dlc ago data) := by
  unfold State.canReceive
  repeat' first
    | with_reducible assumption
    | (intro x; refine @Keeps.cut (Keeps b0 x) _ ?_ ?_ <;> [subst x; (intro _; clear_value x)])
    | lift_lets -underBinder
    | with_reducible first
        | apply State.canGood_keeps | apply State.canReference_keeps | apply State.canStore_keeps
        | (refine Keeps.ite (fun _ => ?_) (fun _ => ?_))

theorem execCanFrameReceive_keeps {b0 : State} (n id : Nat) (ide rtr fdf brs esi : Bool) (dlc : Nat) (data : Bytes) (ago : Nat) (s : State) (hk : Keeps b0 s) : KeepsE b0 (execCanFrameReceive n id ide rtr fdf brs esi dlc data ago s) := by
  unfold execCanFrameReceive
  repeat' first
    | with_reducible assumption
    | with_reducible first
        | apply KeepsE.next | refine State.whenVamp_keeps _ _ ?_ ?_ | apply State.canWake_keeps
        | apply State.canReceive_keeps | (refine Keeps.ite (fun _ => ?_) (fun _ => ?_))
    | split

theorem State.canLoop_keeps {b0 : State} (s : State) (n : Nat) (e : Bytes) (hk : Keeps b0 s) : Keeps b0 (State.canLoop s n e) := by
  unfold State.canLoop
  repeat' first
    | with_reducible assumption | (intro x; clear_value x) | lift_lets -underBinder
    | with_reducible first
        | apply State.canStore_keeps

theorem State.canDelay_keeps {b0 : State} (s : State) (n : Nat) (e : Bytes) (hk : Keeps b0 s) : Keeps b0 (State.canDelay s n e) := by
  unfold State.canDelay
  repeat' first
    | with_reducible assumption
    | with_reducible first
        | apply State.drawn_keeps | apply State.setFld_keeps | (refine Keeps.ite (fun _ => ?_) (fun _ => ?_))

theorem State.canSent_keeps {b0 : State} (s : State) (n slot : Nat) (sl : CanSlot) (hk : Keeps b0 s) : Keeps b0 (State.canSent s n slot sl) := by
  unfold State.canSent
  repeat' first
    | with_reducible assumption
    | (intro x; refine @Keeps.cut (Keeps b0 x) _ ?_ ?_ <;> [subst x; (intro _; clear_value x)])
    | lift_lets -underBinder
    | with_reducible first
        | apply State.emit_keeps | apply State.canDelay_keeps | apply State.canGood_keeps
        | apply State.slotDone_keeps | apply State.canLoop_keeps | (refine Keeps.ite (fun _ => ?_) (fun _ => ?_))

theorem State.canUnsent_keeps {b0 : State} (s : State) (n slot : Nat) (sl : CanSlot) (hk : Keeps b0 s) : Keeps b0 (State.canUnsent s n slot sl) := by
  unfold State.canUnsent
  repeat' first
    | with_reducible assumption
    | with_reducible first
        | apply State.slotDone_keeps | apply State.setSlotStatus_keeps
        | (refine Keeps.ite (fun _ => ?_) (fun _ => ?_))

theorem execCanTxComplete_keeps {b0 : State} (n slot outcome : Nat) (s : State) (hk : Keeps b0 s) : KeepsE b0 (execCanTxComplete n slot outcome s) := by
  unfold execCanTxComplete
  repeat' first
    | with_reducible assumption | lift_lets -underBinder
    | with_reducible first
        | apply KeepsE.next | refine State.whenVamp_keeps _ _ ?_ ?_ | apply State.canSent_keeps
        | apply State.canUnsent_keeps | (refine Keeps.ite (fun _ => ?_) (fun _ => ?_))
    | split

theorem State.canCollide_keeps {b0 : State} (s : State) (n : Nat) (e : Bytes) (hk : Keeps b0 s) : Keeps b0 (State.canCollide s n e) := by
  unfold State.canCollide
  repeat' first
    | with_reducible assumption
    | (intro x; refine @Keeps.cut (Keeps b0 x) _ ?_ ?_ <;> [subst x; (intro _; clear_value x)])
    | (intro x; clear_value x) | lift_lets -underBinder
    | with_reducible first
        | apply State.setCanCtl_keeps | apply State.wr_keeps | apply State.canFlag_keeps
        | apply State.canStatus_keeps | (refine Keeps.ite (fun _ => ?_) (fun _ => ?_))

theorem State.canBusOff_keeps {b0 : State} (s : State) (n : Nat) (hk : Keeps b0 s) : Keeps b0 (State.canBusOff s n) := by
  unfold State.canBusOff
  repeat' first
    | with_reducible assumption
    | (intro x; refine @Keeps.cut (Keeps b0 x) _ ?_ ?_ <;> [subst x; (intro _; clear_value x)])
    | lift_lets -underBinder
    | with_reducible first
        | apply State.slotDone_keeps | apply State.stationsOff_keeps | apply State.setFld_keeps
        | refine Keeps.foldl (fun _ _ _ => ?_) ?_ | refine Keeps.foldl1 (fun _ _ _ => ?_) ?_
        | (refine Keeps.ite (fun _ => ?_) (fun _ => ?_))

theorem State.canCharge_keeps {b0 : State} (s : State) (n code : Nat) (transmit exempt : Bool) (more : Nat) (hk : Keeps b0 s) : Keeps b0 (State.canCharge s n code transmit exempt more) := by
  unfold State.canCharge
  repeat' first
    | with_reducible assumption | (intro x; clear_value x) | lift_lets -underBinder
    | with_reducible first
        | apply State.transmit_keeps | apply State.canCounters_keeps
        | (refine Keeps.ite (fun _ => ?_) (fun _ => ?_))

theorem execCanBusError_keeps {b0 : State} (n code : Nat) (dataPhase : Bool) (slot : Option Nat) (collision exempt : Bool) (more : Nat) (s : State) (hk : Keeps b0 s) : KeepsE b0 (execCanBusError n code dataPhase slot collision exempt more s) := by
  unfold execCanBusError
  repeat' first
    | with_reducible assumption
    | (intro x; refine @Keeps.cut (Keeps b0 x) _ ?_ ?_ <;> [subst x; (intro _; clear_value x)])
    | (intro x; clear_value x) | lift_lets -underBinder
    | with_reducible first
        | apply KeepsE.next | refine State.whenVamp_keeps _ _ ?_ ?_ | apply State.setFld_keeps
        | apply State.setBit_keeps | apply State.incFld_keeps | apply State.canCollide_keeps
        | apply State.canUnsent_keeps | apply State.canCharge_keeps | apply State.canBusOff_keeps
        | (refine Keeps.ite (fun _ => ?_) (fun _ => ?_))
    | split

end Sys2Proof.Machine
end

