-- ==== Sys2Proof/Laws/KeepsBoot.lean ====
section
/-!
SUPPORT. What no operation undoes (Laws/Keeps.lean), operation by operation: Boot, supplies, redundancy and the buses.
-/

namespace Sys2Proof.Machine

theorem bootRegs_wf (s : State) (off : Bool) : Sparse.wf regReset (s.bootRegs off) = true := by
  unfold State.bootRegs
  generalize s.bootKept off = l
  suffices ∀ r : List (Nat × Word), Sparse.wf regReset r = true →
      Sparse.wf regReset (l.foldl (fun regs (x : Nat × Nat) => Sparse.set regReset regs x.1
        ((s.rd x.1 &&& BitVec.ofNat 32 x.2) ||| (regReset x.1 &&& ~~~BitVec.ofNat 32 x.2))) r) = true from this [] rfl
  induction l with
  | nil => exact fun _ h => h
  | cons x l ih => exact fun r h => ih _ (Sparse.wf_set h)

theorem State.bootFresh_keeps {b0 s : State} {takeover : Bool} (h : Keeps b0 s) : Keeps b0 (s.bootFresh takeover) := by
  refine ⟨h.queue, fun _ => bootRegs_wf _ _, fun w => ?_, h.out, h.free⟩
  show Memory.wf (s.gsramAtBoot takeover) = true
  unfold State.gsramAtBoot
  split
  · exact Sparse.wf_filter (h.gsram w)
  · rfl

theorem State.beginBoot_keeps {b0 : State} (s : State) (cause : Nat) (takeover : Bool) (hk : Keeps b0 s) : Keeps b0 (State.beginBoot s cause takeover) := by
  unfold State.beginBoot
  repeat' first
    | with_reducible assumption
    | (intro x; refine @Keeps.cut (Keeps b0 x) _ ?_ ?_ <;> [subst x; (intro _; clear_value x)])
    | (intro x; clear_value x) | lift_lets -underBinder
    | with_reducible first
        | apply State.bootFresh_keeps | apply State.putBytes_keeps | apply State.wr_keeps | apply State.setFld_keeps
        | apply State.setBit_keeps | apply State.drawn_keeps | refine Keeps.foldl (fun _ _ _ => ?_) ?_
        | refine Keeps.foldl1 (fun _ _ _ => ?_) ?_ | (refine Keeps.ite (fun _ => ?_) (fun _ => ?_))
    | split

theorem State.wrN_keeps {b0 : State} (s : State) (r v : Nat) (hk : Keeps b0 s) : Keeps b0 (State.wrN s r v) := by
  unfold State.wrN
  repeat' first
    | with_reducible assumption
    | with_reducible first
        | apply State.wr_keeps

theorem State.loadSystem_keeps {b0 : State} (s : State) (hk : Keeps b0 s) : Keeps b0 (State.loadSystem s) := by
  unfold State.loadSystem
  repeat' first
    | with_reducible assumption
    | (intro x; refine @Keeps.cut (Keeps b0 x) _ ?_ ?_ <;> [subst x; (intro _; clear_value x)])
    | (intro x; clear_value x) | lift_lets -underBinder
    | with_reducible first
        | apply State.wrN_keeps | apply State.setFld_keeps | apply State.wr_keeps

theorem State.loadControl_keeps {b0 : State} (s : State) (hk : Keeps b0 s) : Keeps b0 (State.loadControl s) := by
  unfold State.loadControl
  repeat' first
    | with_reducible assumption
    | (intro x; refine @Keeps.cut (Keeps b0 x) _ ?_ ?_ <;> [subst x; (intro _; clear_value x)])
    | (intro x; clear_value x) | lift_lets -underBinder
    | with_reducible first
        | apply State.wr_keeps | refine Keeps.foldl (fun _ _ _ => ?_) ?_ | refine Keeps.foldl1 (fun _ _ _ => ?_) ?_
        | (refine Keeps.ite (fun _ => ?_) (fun _ => ?_)) | (refine Keeps.upd ?_; assumption)

theorem State.loadNetwork_keeps {b0 : State} (s : State) (hk : Keeps b0 s) : Keeps b0 (State.loadNetwork s) := by
  unfold State.loadNetwork
  repeat' first
    | with_reducible assumption
    | (intro x; refine @Keeps.cut (Keeps b0 x) _ ?_ ?_ <;> [subst x; (intro _; clear_value x)])
    | (intro x; clear_value x) | lift_lets -underBinder
    | with_reducible first
        | apply State.wrN_keeps | apply State.setFld_keeps

theorem State.loadWelt_keeps {b0 : State} (s : State) (hk : Keeps b0 s) : Keeps b0 (State.loadWelt s) := by
  unfold State.loadWelt
  repeat' first
    | with_reducible assumption
    | (intro x; refine @Keeps.cut (Keeps b0 x) _ ?_ ?_ <;> [subst x; (intro _; clear_value x)])
    | (intro x; clear_value x) | lift_lets -underBinder
    | with_reducible first
        | apply hx | apply State.wr_keeps | apply State.wrN_keeps | refine Keeps.foldl (fun _ _ _ => ?_) ?_

theorem State.loadCan_keeps {b0 : State} (s : State) (n : Nat) (hk : Keeps b0 s) : Keeps b0 (State.loadCan s n) := by
  unfold State.loadCan
  repeat' first
    | with_reducible assumption
    | (intro x; refine @Keeps.cut (Keeps b0 x) _ ?_ ?_ <;> [subst x; (intro _; clear_value x)])
    | (intro x; refine @Keeps.cut (∀ t a0 a1, Keeps b0 t → Keeps b0 (x t a0 a1)) _ ?_ ?_ <;> [(subst x; intro _ _ _ _; dsimp -zeta only); (intro hx; clear_value x)])
    | (intro x; clear_value x) | lift_lets -underBinder
    | with_reducible first
        | apply hx | apply State.wr_keeps | apply State.setCanCtl_keeps | refine Keeps.foldl (fun _ _ _ => ?_) ?_

theorem State.loadComparator_keeps {b0 : State} (s : State) (hk : Keeps b0 s) : Keeps b0 (State.loadComparator s) := by
  unfold State.loadComparator
  repeat' first
    | with_reducible assumption
    | (intro x; refine @Keeps.cut (Keeps b0 x) _ ?_ ?_ <;> [subst x; (intro _; clear_value x)])
    | (intro x; clear_value x) | lift_lets -underBinder
    | with_reducible first
        | apply State.wr_keeps | apply State.wrN_keeps | refine Keeps.foldl (fun _ _ _ => ?_) ?_
        | refine Keeps.foldl1 (fun _ _ _ => ?_) ?_ | (refine Keeps.ite (fun _ => ?_) (fun _ => ?_))
    | split

theorem State.loadSafety_keeps {b0 : State} (s : State) (hk : Keeps b0 s) : Keeps b0 (State.loadSafety s) := by
  unfold State.loadSafety
  repeat' first
    | with_reducible assumption
    | (intro x; refine @Keeps.cut (Keeps b0 x) _ ?_ ?_ <;> [subst x; (intro _; clear_value x)])
    | (intro x; clear_value x) | lift_lets -underBinder
    | with_reducible first
        | apply State.wr_keeps | apply State.loadComparator_keeps | apply State.safEvent_keeps
        | (refine Keeps.ite (fun _ => ?_) (fun _ => ?_)) | (refine Keeps.upd ?_; assumption)

theorem State.startHoldup_keeps {b0 : State} (s : State) (iinMa : Nat) (hk : Keeps b0 s) : Keeps b0 (State.startHoldup s iinMa) := by
  unfold State.startHoldup
  repeat' first
    | with_reducible assumption
    | (intro x; refine @Keeps.cut (Keeps b0 x) _ ?_ ?_ <;> [subst x; (intro _; clear_value x)])
    | (intro x; clear_value x) | lift_lets -underBinder
    | with_reducible first
        | apply State.setBit_keeps | (refine Keeps.ite (fun _ => ?_) (fun _ => ?_))
        | (refine Keeps.upd ?_; assumption)

theorem State.reportRefused_keeps {b0 : State} (s : State) (r : Refused) (hk : Keeps b0 s) : Keeps b0 (State.reportRefused s r) := by
  unfold State.reportRefused
  repeat' first
    | with_reducible assumption
    | with_reducible first
        | apply State.flag_keeps | apply State.strobe_keeps

theorem State.holdUnconfigured_keeps {b0 : State} (s : State) (r : Refused) (hk : Keeps b0 s) : Keeps b0 (State.holdUnconfigured s r) := by
  unfold State.holdUnconfigured
  repeat' first
    | with_reducible assumption
    | (intro x; refine @Keeps.cut (Keeps b0 x) _ ?_ ?_ <;> [subst x; (intro _; clear_value x)])
    | (intro x; clear_value x) | lift_lets -underBinder
    | with_reducible first
        | apply State.reportRefused_keeps | apply State.setBit_keeps | apply State.showBanks_keeps
        | apply State.setFld_keeps | (refine Keeps.upd ?_; assumption)

theorem State.bootConfigured_keeps {b0 : State} (s : State) (hk : Keeps b0 s) : Keeps b0 (State.bootConfigured s) := by
  unfold State.bootConfigured
  repeat' first
    | with_reducible assumption
    | (intro x; refine @Keeps.cut (Keeps b0 x) _ ?_ ?_ <;> [subst x; (intro _; clear_value x)])
    | (intro x; clear_value x) | lift_lets -underBinder
    | with_reducible first
        | apply State.loadSystem_keeps | apply State.loadNetwork_keeps | apply State.placeAreas_keeps
        | apply State.showBanks_keeps | apply State.loadCan_keeps | apply State.loadControl_keeps
        | apply State.loadWelt_keeps | apply State.loadSafety_keeps | apply State.drive_keeps
        | apply State.weltArming_keeps | apply State.startHoldup_keeps | apply State.drawn_keeps
        | apply State.journalLoad_keeps | apply State.copySole_keeps | apply State.rewriteReports_keeps
        | apply State.enumerate_keeps | apply State.setFld_keeps | refine Keeps.foldl (fun _ _ _ => ?_) ?_
        | refine Keeps.foldl1 (fun _ _ _ => ?_) ?_ | (refine Keeps.ite (fun _ => ?_) (fun _ => ?_))
        | (refine Keeps.upd ?_; assumption)

theorem State.bootLoad_keeps {b0 : State} (s : State) (hk : Keeps b0 s) : Keeps b0 (State.bootLoad s) := by
  unfold State.bootLoad
  repeat' first
    | with_reducible assumption
    | (intro x; refine @Keeps.cut (Keeps b0 x) _ ?_ ?_ <;> [subst x; (intro _; clear_value x)])
    | (intro x; clear_value x) | lift_lets -underBinder
    | with_reducible first
        | apply State.wrN_keeps | apply State.holdUnconfigured_keeps | apply State.withItems_keeps
        | apply State.bootConfigured_keeps | (refine Keeps.ite (fun _ => ?_) (fun _ => ?_))
        | (refine Keeps.upd ?_; assumption)
    | split

theorem State.holdBoot_keeps {b0 : State} (s : State) (result ms : Nat) (hk : Keeps b0 s) : Keeps b0 (State.holdBoot s result ms) := by
  unfold State.holdBoot
  repeat' first
    | with_reducible assumption
    | (intro x; refine @Keeps.cut (Keeps b0 x) _ ?_ ?_ <;> [subst x; (intro _; clear_value x)])
    | (intro x; clear_value x) | lift_lets -underBinder
    | with_reducible first
        | apply State.setBit_keeps | apply State.setFld_keeps | apply State.strobe_keeps
        | (refine Keeps.upd ?_; assumption)

theorem State.reportRollback_keeps {b0 : State} (s : State) (target : Nat) (bank : Bool) (version : Nat) (hk : Keeps b0 s) : Keeps b0 (State.reportRollback s target bank version) := by
  unfold State.reportRollback
  repeat' first
    | with_reducible assumption
    | with_reducible first
        | apply State.flag_keeps | apply State.strobe_keeps

theorem State.checkFirmware_keeps {b0 : State} (s : State) (bad : Nat) (hk : Keeps b0 s) : KeepsO b0 (State.checkFirmware s bad) := by
  unfold State.checkFirmware
  repeat' first
    | with_reducible assumption
    | (intro x; refine @Keeps.cut (Keeps b0 x) _ ?_ ?_ <;> [subst x; (intro _; clear_value x)])
    | (intro x; clear_value x) | lift_lets -underBinder
    | with_reducible first
        | exact KeepsO.none | apply KeepsO.some | refine KeepsO.map (fun _ => ?_) | apply hx
        | apply State.storeDevice_keeps | (refine Keeps.ite (fun _ => ?_) (fun _ => ?_))
        | (refine Keeps.upd ?_; assumption)
    | split

theorem State.reportRollbacks_keeps {b0 : State} (s : State) (hk : Keeps b0 s) : Keeps b0 (State.reportRollbacks s) := by
  unfold State.reportRollbacks
  repeat' first
    | with_reducible assumption
    | (intro x; refine @Keeps.cut (Keeps b0 x) _ ?_ ?_ <;> [subst x; (intro _; clear_value x)])
    | (intro x; clear_value x) | lift_lets -underBinder
    | with_reducible first
        | apply State.reportRollback_keeps | (refine Keeps.ite (fun _ => ?_) (fun _ => ?_))
        | (refine Keeps.upd ?_; assumption)
    | split

theorem State.reachRun_keeps {b0 : State} (s : State) (hk : Keeps b0 s) : Keeps b0 (State.reachRun s) := by
  unfold State.reachRun
  repeat' first
    | with_reducible assumption | (intro x; clear_value x) | lift_lets -underBinder
    | with_reducible first
        | apply State.storeDevice_keeps | apply State.showBanks_keeps
        | (refine Keeps.ite (fun _ => ?_) (fun _ => ?_)) | (refine Keeps.upd ?_; assumption)

theorem State.hostRun_keeps {b0 : State} (s : State) (hk : Keeps b0 s) : Keeps b0 (State.hostRun s) := by
  unfold State.hostRun
  repeat' first
    | with_reducible assumption
    | with_reducible first
        | apply State.runTasks_keeps | apply State.reachRun_keeps | (refine Keeps.ite (fun _ => ?_) (fun _ => ?_))

theorem execPrgRunReq_keeps {b0 : State} (s : State) (hk : Keeps b0 s) : KeepsE b0 (execPrgRunReq s) := by
  unfold execPrgRunReq
  repeat' first
    | with_reducible assumption
    | with_reducible first
        | apply KeepsE.next | refine State.whenVamp_keeps _ _ ?_ ?_ | apply State.hostRun_keeps

theorem State.takeImage_keeps {b0 : State} (s : State) (p : Program) (last : Nat × Bool × Bytes) (hk : Keeps b0 s) : Keeps b0 (State.takeImage s p last) := by
  unfold State.takeImage
  repeat' first
    | with_reducible assumption
    | with_reducible first
        | apply State.publishValue_keeps | refine Keeps.foldl (fun _ _ _ => ?_) ?_
        | refine Keeps.foldl1 (fun _ _ _ => ?_) ?_ | (refine Keeps.ite (fun _ => ?_) (fun _ => ?_))

theorem State.startProgram_keeps {b0 : State} (s : State) (hk : Keeps b0 s) : Keeps b0 (State.startProgram s) := by
  unfold State.startProgram
  repeat' first
    | with_reducible assumption
    | (intro x; refine @Keeps.cut (Keeps b0 x) _ ?_ ?_ <;> [subst x; (intro _; clear_value x)])
    | (intro x; clear_value x) | lift_lets -underBinder
    | with_reducible first
        | apply State.loadProgram_keeps | apply State.startTasks_keeps | apply State.takeImage_keeps
        | (refine Keeps.ite (fun _ => ?_) (fun _ => ?_))
    | split

theorem State.placeContexts_keeps {b0 : State} (s : State) (hk : Keeps b0 s) : Keeps b0 (State.placeContexts s) := by
  unfold State.placeContexts
  repeat' first
    | with_reducible assumption | (intro x; clear_value x) | lift_lets -underBinder
    | with_reducible first
        | apply State.applyPlan_keeps | (refine Keeps.ite (fun _ => ?_) (fun _ => ?_))
        | (refine Keeps.upd ?_; assumption)

theorem State.aliveFollows_keeps {b0 : State} (s : State) (hk : Keeps b0 s) : Keeps b0 (State.aliveFollows s) := by
  unfold State.aliveFollows
  repeat' first
    | with_reducible assumption
    | with_reducible first
        | apply State.setFld_keeps | (refine Keeps.ite (fun _ => ?_) (fun _ => ?_))

theorem State.lastStale_keeps {b0 : State} (s : State) (hk : Keeps b0 s) : Keeps b0 (State.lastStale s) := by
  unfold State.lastStale
  repeat' first
    | with_reducible assumption | (intro x; clear_value x) | lift_lets -underBinder
    | with_reducible first
        | apply State.setBit_keeps | apply State.aliveFollows_keeps | apply State.strobe_keeps
        | (refine Keeps.ite (fun _ => ?_) (fun _ => ?_))

theorem State.endBoot_keeps {b0 : State} (s : State) (ms : Nat) (hk : Keeps b0 s) : Keeps b0 (State.endBoot s ms) := by
  unfold State.endBoot
  repeat' first
    | with_reducible assumption
    | (intro x; refine @Keeps.cut (Keeps b0 x) _ ?_ ?_ <;> [subst x; (intro _; clear_value x)])
    | (intro x; clear_value x) | lift_lets -underBinder
    | with_reducible first
        | apply State.placeContexts_keeps | apply State.startProgram_keeps | apply State.setFld_keeps
        | apply State.wrN_keeps | apply State.setMode_keeps | apply State.lastStale_keeps
        | apply State.weltIdle_keeps | apply State.reachRun_keeps | apply State.reportRollbacks_keeps
        | apply State.strobe_keeps | (refine Keeps.ite (fun _ => ?_) (fun _ => ?_))
        | (refine Keeps.upd ?_; assumption)

theorem State.failUnits_keeps {b0 : State} (s : State) (failed : List Nat) (hk : Keeps b0 s) : Keeps b0 (State.failUnits s failed) := by
  unfold State.failUnits
  repeat' first
    | with_reducible assumption | (intro x; clear_value x) | lift_lets -underBinder
    | with_reducible first
        | apply State.showEst_keeps | refine Keeps.foldl (fun _ _ _ => ?_) ?_
        | refine Keeps.foldl1 (fun _ _ _ => ?_) ?_ | (refine Keeps.upd ?_; assumption)

theorem execBootComplete_keeps {b0 : State} (failedUnits : List Nat) (badBanks bootMs : Nat) (s : State) (hk : Keeps b0 s) : KeepsE b0 (execBootComplete failedUnits badBanks bootMs s) := by
  unfold execBootComplete
  repeat' first
    | with_reducible assumption
    | (intro x; refine @Keeps.cut (Keeps b0 x) _ ?_ ?_ <;> [subst x; (intro _; clear_value x)])
    | lift_lets -underBinder
    | with_reducible first
        | apply KeepsE.next | apply State.checkFirmware_keeps | apply State.bootLoad_keeps
        | apply State.holdBoot_keeps | apply State.failUnits_keeps | apply State.endBoot_keeps
        | exact KeepsO.get (State.checkFirmware_keeps _ _ (by assumption)) (by assumption)
        | (refine Keeps.ite (fun _ => ?_) (fun _ => ?_))
    | split

theorem State.idle_keeps {b0 : State} (s : State) (hk : Keeps b0 s) : Keeps b0 (State.idle s) := by
  unfold State.idle
  repeat' first
    | with_reducible assumption
    | with_reducible first
        | apply State.bootLoad_keeps | apply State.timeCycle_keeps | (refine Keeps.ite (fun _ => ?_) (fun _ => ?_))

theorem execVinValid_keeps {b0 : State} (s : State) (hk : Keeps b0 s) : KeepsE b0 (execVinValid s) := by
  unfold execVinValid
  repeat' first
    | with_reducible assumption | (intro x; clear_value x) | lift_lets -underBinder
    | with_reducible first
        | apply KeepsE.next | apply State.beginBoot_keeps | (refine Keeps.ite (fun _ => ?_) (fun _ => ?_))
        | (refine Keeps.upd ?_; assumption)
    | split

theorem State.cutWrite_keeps {b0 : State} (s : State) (pagesLeft : Nat) (hk : Keeps b0 s) : Keeps b0 (State.cutWrite s pagesLeft) := by
  unfold State.cutWrite
  repeat' first
    | with_reducible assumption | (intro x; clear_value x) | lift_lets -underBinder
    | with_reducible first
        | apply State.journalCut_keeps | apply State.persistCut_keeps | apply State.recCommit_keeps
        | apply State.recAbandon_keeps | (refine Keeps.ite (fun _ => ?_) (fun _ => ?_))
        | (refine Keeps.upd ?_; assumption)
    | split

theorem State.lowestVin_keeps {b0 : State} (s : State) (mv : Nat) (hk : Keeps b0 s) : Keeps b0 (State.lowestVin s mv) := by
  unfold State.lowestVin
  repeat' first
    | with_reducible assumption | (intro x; clear_value x) | lift_lets -underBinder
    | with_reducible first
        | apply State.setFld_keeps

theorem execVinLow_keeps {b0 : State} (vinMv pagesLeft : Nat) (s : State) (hk : Keeps b0 s) : KeepsE b0 (execVinLow vinMv pagesLeft s) := by
  unfold execVinLow
  repeat' first
    | with_reducible assumption
    | (intro x; refine @Keeps.cut (Keeps b0 x) _ ?_ ?_ <;> [subst x; (intro _; clear_value x)])
    | (intro x; clear_value x) | lift_lets -underBinder
    | with_reducible first
        | apply KeepsE.next | apply State.setBit_keeps | apply State.lowestVin_keeps | apply State.flag_keeps
        | apply State.strobe_keeps | apply State.cutWrite_keeps | (refine Keeps.ite (fun _ => ?_) (fun _ => ?_))
        | (refine Keeps.upd ?_; assumption)
    | split

theorem State.recTriggerMerged_keeps {b0 : State} (s : State) (cause : Nat) (hk : Keeps b0 s) : Keeps b0 (State.recTriggerMerged s cause) := by
  unfold State.recTriggerMerged
  repeat' first
    | with_reducible assumption | (intro x; clear_value x) | lift_lets -underBinder
    | with_reducible first
        | apply State.recTrigger_keeps | apply State.recResume_keeps
        | (refine Keeps.ite (fun _ => ?_) (fun _ => ?_)) | (refine Keeps.upd ?_; assumption)

theorem execVinRestored_keeps {b0 : State} (lowestMv : Nat) (s : State) (hk : Keeps b0 s) : KeepsE b0 (execVinRestored lowestMv s) := by
  unfold execVinRestored
  repeat' first
    | with_reducible assumption
    | (intro x; refine @Keeps.cut (Keeps b0 x) _ ?_ ?_ <;> [subst x; (intro _; clear_value x)])
    | (intro x; clear_value x) | lift_lets -underBinder
    | with_reducible first
        | apply KeepsE.next | apply State.setBit_keeps | apply State.lowestVin_keeps | apply State.flag_keeps
        | apply State.strobe_keeps | apply State.journalTrigger_keeps | apply State.recTriggerMerged_keeps
        | (refine Keeps.ite (fun _ => ?_) (fun _ => ?_)) | (refine Keeps.upd ?_; assumption)
    | split

theorem execVinUv_keeps {b0 : State} (s : State) (hk : Keeps b0 s) : KeepsE b0 (execVinUv s) := by
  unfold execVinUv
  repeat' first
    | with_reducible assumption
    | (intro x; refine @Keeps.cut (Keeps b0 x) _ ?_ ?_ <;> [subst x; (intro _; clear_value x)])
    | (intro x; clear_value x) | lift_lets -underBinder
    | with_reducible first
        | apply KeepsE.next | apply State.setBit_keeps | apply State.wr_keeps
        | (refine Keeps.ite (fun _ => ?_) (fun _ => ?_)) | (refine Keeps.upd ?_; assumption)
    | split

theorem execVsupFall_keeps {b0 : State} (s : State) (hk : Keeps b0 s) : KeepsE b0 (execVsupFall s) := by
  unfold execVsupFall
  repeat' first
    | with_reducible assumption
    | with_reducible first
        | apply KeepsE.next | apply State.setBit_keeps | (refine Keeps.ite (fun _ => ?_) (fun _ => ?_))

theorem execVsupRise_keeps {b0 : State} (s : State) (hk : Keeps b0 s) : KeepsE b0 (execVsupRise s) := by
  unfold execVsupRise
  repeat' first
    | with_reducible assumption
    | with_reducible first
        | apply KeepsE.next | apply State.setBit_keeps | (refine Keeps.ite (fun _ => ?_) (fun _ => ?_))

theorem execHoldupTest_keeps {b0 : State} (iinMa : Nat) (s : State) (hk : Keeps b0 s) : KeepsE b0 (execHoldupTest iinMa s) := by
  unfold execHoldupTest
  repeat' first
    | with_reducible assumption
    | with_reducible first
        | apply KeepsE.next | apply State.startHoldup_keeps | (refine Keeps.ite (fun _ => ?_) (fun _ => ?_))

theorem execHoldupTestTimer_keeps {b0 : State} (iinMa : Nat) (s : State) (hk : Keeps b0 s) : KeepsE b0 (execHoldupTestTimer iinMa s) := by
  unfold execHoldupTestTimer
  repeat' first
    | with_reducible assumption
    | with_reducible first
        | apply KeepsE.next | apply State.startHoldup_keeps | (refine Keeps.ite (fun _ => ?_) (fun _ => ?_))

theorem execHoldupTestEnd_keeps {b0 : State} (fallNs : Option Nat) (vsupMoved : Bool) (s : State) (hk : Keeps b0 s) : KeepsE b0 (execHoldupTestEnd fallNs vsupMoved s) := by
  unfold execHoldupTestEnd
  repeat' first
    | with_reducible assumption
    | (intro x; refine @Keeps.cut (Keeps b0 x) _ ?_ ?_ <;> [subst x; (intro _; clear_value x)])
    | (intro x; clear_value x) | lift_lets -underBinder
    | with_reducible first
        | apply KeepsE.next | apply State.setBit_keeps | apply State.wr_keeps | apply State.flag_keeps
        | apply State.strobe_keeps | (refine Keeps.ite (fun _ => ?_) (fun _ => ?_))
        | (refine Keeps.upd ?_; assumption)
    | split

theorem State.holdVamp_keeps {b0 : State} (s : State) (hk : Keeps b0 s) : Keeps b0 (State.holdVamp s) := by
  unfold State.holdVamp
  repeat' first
    | with_reducible assumption | (intro x; clear_value x) | lift_lets -underBinder
    | with_reducible first
        | apply State.currentUnknown_keeps | (refine Keeps.upd ?_; assumption)

theorem execNrstAsserted_keeps {b0 : State} (lowNs : Nat) (s : State) (hk : Keeps b0 s) : KeepsE b0 (execNrstAsserted lowNs s) := by
  unfold execNrstAsserted
  repeat' first
    | with_reducible assumption
    | (intro x; refine @Keeps.cut (Keeps b0 x) _ ?_ ?_ <;> [subst x; (intro _; clear_value x)])
    | (intro x; clear_value x) | lift_lets -underBinder
    | with_reducible first
        | apply KeepsE.next | apply State.drawn_keeps | apply State.setBit_keeps | apply State.holdVamp_keeps
        | (refine Keeps.ite (fun _ => ?_) (fun _ => ?_)) | (refine Keeps.upd ?_; assumption)
    | split

theorem execNrstReleased_keeps {b0 : State} (s : State) (hk : Keeps b0 s) : KeepsE b0 (execNrstReleased s) := by
  unfold execNrstReleased
  repeat' first
    | with_reducible assumption
    | (intro x; refine @Keeps.cut (Keeps b0 x) _ ?_ ?_ <;> [subst x; (intro _; clear_value x)])
    | (intro x; clear_value x) | lift_lets -underBinder
    | with_reducible first
        | apply KeepsE.next | apply State.beginBoot_keeps | apply State.wr_keeps | apply State.unfind_keeps
        | (refine Keeps.ite (fun _ => ?_) (fun _ => ?_)) | (refine Keeps.upd ?_; assumption)
    | split

theorem execResetHeldTimeout_keeps {b0 : State} (s : State) (hk : Keeps b0 s) : KeepsE b0 (execResetHeldTimeout s) := by
  unfold execResetHeldTimeout
  repeat' first
    | with_reducible assumption
    | (intro x; refine @Keeps.cut (Keeps b0 x) _ ?_ ?_ <;> [subst x; (intro _; clear_value x)])
    | lift_lets -underBinder
    | with_reducible first
        | apply KeepsE.next | apply State.find_keeps | apply State.soleLog_keeps | apply State.flag_keeps
        | apply State.strobe_keeps | (refine Keeps.ite (fun _ => ?_) (fun _ => ?_))
    | split

theorem State.sysRestart_keeps {b0 : State} (s : State) (value : Word) (hk : Keeps b0 s) : Keeps b0 (State.sysRestart s value) := by
  unfold State.sysRestart
  repeat' first
    | with_reducible assumption
    | with_reducible first
        | apply State.beginBoot_keeps | apply State.flag_keeps | (refine Keeps.ite (fun _ => ?_) (fun _ => ?_))

theorem execSysRestart_keeps {b0 : State} (value : Word) (s : State) (hk : Keeps b0 s) : KeepsE b0 (execSysRestart value s) := by
  unfold execSysRestart
  repeat' first
    | with_reducible assumption
    | with_reducible first
        | apply KeepsE.next | apply State.sysRestart_keeps

theorem execRefclkLoss_keeps {b0 : State} (s : State) (hk : Keeps b0 s) : KeepsE b0 (execRefclkLoss s) := by
  unfold execRefclkLoss
  repeat' first
    | with_reducible assumption
    | (intro x; refine @Keeps.cut (Keeps b0 x) _ ?_ ?_ <;> [subst x; (intro _; clear_value x)])
    | (intro x; clear_value x) | lift_lets -underBinder
    | with_reducible first
        | apply KeepsE.next | apply State.flag_keeps | apply State.strobe_keeps | apply State.currentUnknown_keeps
        | (refine Keeps.ite (fun _ => ?_) (fun _ => ?_)) | (refine Keeps.upd ?_; assumption)
    | split

theorem execRefclkRestored_keeps {b0 : State} (s : State) (hk : Keeps b0 s) : KeepsE b0 (execRefclkRestored s) := by
  unfold execRefclkRestored
  repeat' first
    | with_reducible assumption | (intro x; clear_value x) | lift_lets -underBinder
    | with_reducible first
        | apply KeepsE.next | apply State.beginBoot_keeps | apply State.strobe_keeps
        | (refine Keeps.ite (fun _ => ?_) (fun _ => ?_)) | (refine Keeps.upd ?_; assumption)
    | split

theorem execPllUnlock_keeps {b0 : State} (pll : Nat) (s : State) (hk : Keeps b0 s) : KeepsE b0 (execPllUnlock pll s) := by
  unfold execPllUnlock
  repeat' first
    | with_reducible assumption
    | (intro x; refine @Keeps.cut (Keeps b0 x) _ ?_ ?_ <;> [subst x; (intro _; clear_value x)])
    | lift_lets -underBinder
    | with_reducible first
        | apply KeepsE.next | apply State.setBit_keeps | apply State.flag_keeps | apply State.strobe_keeps
        | apply State.beginBoot_keeps | (refine Keeps.ite (fun _ => ?_) (fun _ => ?_))
    | split

theorem State.setAonRc_keeps {b0 : State} (s : State) (rc : Bool) (hk : Keeps b0 s) : Keeps b0 (State.setAonRc s rc) := by
  unfold State.setAonRc
  repeat' first
    | with_reducible assumption
    | (intro x; refine @Keeps.cut (Keeps b0 x) _ ?_ ?_ <;> [subst x; (intro _; clear_value x)])
    | lift_lets -underBinder
    | with_reducible first
        | apply State.setBit_keeps | apply State.flag_keeps | apply State.strobe_keeps
        | (refine Keeps.ite (fun _ => ?_) (fun _ => ?_))

theorem execAonCrystalFail_keeps {b0 : State} (s : State) (hk : Keeps b0 s) : KeepsE b0 (execAonCrystalFail s) := by
  unfold execAonCrystalFail
  repeat' first
    | with_reducible assumption
    | with_reducible first
        | apply KeepsE.next | apply State.setAonRc_keeps

theorem execAonCrystalRestored_keeps {b0 : State} (s : State) (hk : Keeps b0 s) : KeepsE b0 (execAonCrystalRestored s) := by
  unfold execAonCrystalRestored
  repeat' first
    | with_reducible assumption
    | with_reducible first
        | apply KeepsE.next | apply State.setAonRc_keeps

theorem State.takeTemps_keeps {b0 : State} (s : State) (vampTj soleTj packageTj : Int) (hk : Keeps b0 s) : Keeps b0 (State.takeTemps s vampTj soleTj packageTj) := by
  unfold State.takeTemps
  repeat' first
    | with_reducible assumption
    | (intro x; refine @Keeps.cut (Keeps b0 x) _ ?_ ?_ <;> [subst x; (intro _; clear_value x)])
    | (intro x; clear_value x) | lift_lets -underBinder
    | with_reducible first
        | apply State.wr_keeps | apply State.setFld_keeps | apply State.flag_keeps | apply State.setBit_keeps
        | apply State.holdTemp_keeps | (refine Keeps.ite (fun _ => ?_) (fun _ => ?_))

theorem execJunctionHot_keeps {b0 : State} (vampTj soleTj packageTj : Int) (s : State) (hk : Keeps b0 s) : KeepsE b0 (execJunctionHot vampTj soleTj packageTj s) := by
  unfold execJunctionHot
  repeat' first
    | with_reducible assumption
    | with_reducible first
        | apply KeepsE.next | apply State.takeTemps_keeps | (refine Keeps.ite (fun _ => ?_) (fun _ => ?_))

theorem execJunctionShutdown_keeps {b0 : State} (s : State) (hk : Keeps b0 s) : KeepsE b0 (execJunctionShutdown s) := by
  unfold execJunctionShutdown
  repeat' first
    | with_reducible assumption
    | (intro x; refine @Keeps.cut (Keeps b0 x) _ ?_ ?_ <;> [subst x; (intro _; clear_value x)])
    | (intro x; clear_value x) | lift_lets -underBinder
    | with_reducible first
        | apply KeepsE.next | apply State.setSwitches_keeps | apply State.setKill_keeps | apply State.setBit_keeps
        | apply State.holdVamp_keeps | (refine Keeps.ite (fun _ => ?_) (fun _ => ?_))
        | (refine Keeps.upd ?_; assumption)
    | split

theorem execJunctionCooled_keeps {b0 : State} (s : State) (hk : Keeps b0 s) : KeepsE b0 (execJunctionCooled s) := by
  unfold execJunctionCooled
  repeat' first
    | with_reducible assumption | (intro x; clear_value x) | lift_lets -underBinder
    | with_reducible first
        | apply KeepsE.next | apply State.beginBoot_keeps | (refine Keeps.ite (fun _ => ?_) (fun _ => ?_))
        | (refine Keeps.upd ?_; assumption)
    | split

theorem State.measureSupply_keeps {b0 : State} (s : State) (vinMv vsupMv iinMa power : Nat) (hk : Keeps b0 s) : Keeps b0 (State.measureSupply s vinMv vsupMv iinMa power) := by
  unfold State.measureSupply
  repeat' first
    | with_reducible assumption
    | (intro x; refine @Keeps.cut (Keeps b0 x) _ ?_ ?_ <;> [subst x; (intro _; clear_value x)])
    | (intro x; clear_value x) | lift_lets -underBinder
    | with_reducible first
        | apply hx | apply State.wr_keeps | apply State.lowestVin_keeps | apply State.setFld_keeps
        | apply State.drawn_keeps | (refine Keeps.ite (fun _ => ?_) (fun _ => ?_))

theorem execOperatingSecond_keeps {b0 : State} (vinMv vsupMv iinMa power : Nat) (vampTj soleTj packageTj : Int) (s : State) (hk : Keeps b0 s) : KeepsE b0 (execOperatingSecond vinMv vsupMv iinMa power vampTj soleTj packageTj s) := by
  unfold execOperatingSecond
  repeat' first
    | with_reducible assumption
    | (intro x; refine @Keeps.cut (Keeps b0 x) _ ?_ ?_ <;> [subst x; (intro _; clear_value x)])
    | (intro x; clear_value x) | lift_lets -underBinder
    | with_reducible first
        | apply KeepsE.next | apply State.measureSupply_keeps | apply State.takeTemps_keeps
        | (refine Keeps.ite (fun _ => ?_) (fun _ => ?_)) | (refine Keeps.upd ?_; assumption)
    | split

theorem State.storeImage_keeps {b0 : State} (s : State) (hk : Keeps b0 s) : Keeps b0 (State.storeImage s) := by
  unfold State.storeImage
  repeat' first
    | with_reducible assumption
    | (intro x; refine @Keeps.cut (Keeps b0 x) _ ?_ ?_ <;> [subst x; (intro _; clear_value x)])
    | (intro x; clear_value x) | lift_lets -underBinder
    | with_reducible first
        | apply State.completeAll_keeps | (refine Keeps.ite (fun _ => ?_) (fun _ => ?_))
        | (refine Keeps.upd ?_; assumption)
    | split

theorem State.storedDevice_keeps {b0 : State} (s : State) (hk : Keeps b0 s) : Keeps b0 (State.storedDevice s) := by
  unfold State.storedDevice
  repeat' first
    | with_reducible assumption
    | (intro x; refine @Keeps.cut (Keeps b0 x) _ ?_ ?_ <;> [subst x; (intro _; clear_value x)])
    | (intro x; clear_value x) | lift_lets -underBinder
    | with_reducible first
        | apply State.complete_keeps | refine Keeps.foldl (fun _ _ _ => ?_) ?_
        | refine Keeps.foldl1 (fun _ _ _ => ?_) ?_ | (refine Keeps.ite (fun _ => ?_) (fun _ => ?_))
        | (refine Keeps.upd ?_; assumption)

theorem State.storedSafety_keeps {b0 : State} (s : State) (hk : Keeps b0 s) : Keeps b0 (State.storedSafety s) := by
  unfold State.storedSafety
  repeat' first
    | with_reducible assumption | (intro x; clear_value x) | lift_lets -underBinder
    | with_reducible first
        | (refine Keeps.ite (fun _ => ?_) (fun _ => ?_)) | (refine Keeps.upd ?_; assumption)
    | split

theorem execConfigStoreDone_keeps {b0 : State} (kind : Nat) (s : State) (hk : Keeps b0 s) : KeepsE b0 (execConfigStoreDone kind s) := by
  unfold execConfigStoreDone
  repeat' first
    | with_reducible assumption | lift_lets -underBinder
    | with_reducible first
        | apply KeepsE.next | refine State.whenVamp_keeps _ _ ?_ ?_ | apply State.unspoil_keeps
        | apply State.storeImage_keeps | apply State.storedDevice_keeps | apply State.storedSafety_keeps
        | (refine Keeps.ite (fun _ => ?_) (fun _ => ?_))
    | split

theorem State.grantEvent_keeps {b0 : State} (s : State) (confirmed : Bool) (source : Nat) (hk : Keeps b0 s) : Keeps b0 (State.grantEvent s confirmed source) := by
  unfold State.grantEvent
  repeat' first
    | with_reducible assumption
    | with_reducible first
        | apply State.flag_keeps | apply State.strobe_keeps

theorem State.withdraw_keeps {b0 : State} (s : State) (hk : Keeps b0 s) : Keeps b0 (State.withdraw s) := by
  unfold State.withdraw
  repeat' first
    | with_reducible assumption
    | (intro x; refine @Keeps.cut (Keeps b0 x) _ ?_ ?_ <;> [subst x; (intro _; clear_value x)])
    | (intro x; clear_value x) | lift_lets -underBinder
    | with_reducible first
        | apply State.stopRequest_keeps | apply State.setClose_keeps | apply State.setFld_keeps
        | apply State.grantEvent_keeps | (refine Keeps.upd ?_; assumption)

theorem execArbGrantConfirmed_keeps {b0 : State} (level : Bool) (s : State) (hk : Keeps b0 s) : KeepsE b0 (execArbGrantConfirmed level s) := by
  unfold execArbGrantConfirmed
  repeat' first
    | with_reducible assumption
    | (intro x; refine @Keeps.cut (Keeps b0 x) _ ?_ ?_ <;> [subst x; (intro _; clear_value x)])
    | lift_lets -underBinder
    | with_reducible first
        | apply KeepsE.next | apply State.setBit_keeps | apply State.setFld_keeps | apply State.grantEvent_keeps
        | apply State.beginBoot_keeps | apply State.withdraw_keeps | apply State.rewriteReports_keeps
        | apply State.enumerate_keeps | (refine Keeps.ite (fun _ => ?_) (fun _ => ?_))
    | split

theorem State.refreshAlive_keeps {b0 : State} (s : State) (value : Word) (hk : Keeps b0 s) : Keeps b0 (State.refreshAlive s value) := by
  unfold State.refreshAlive
  repeat' first
    | with_reducible assumption
    | (intro x; refine @Keeps.cut (Keeps b0 x) _ ?_ ?_ <;> [subst x; (intro _; clear_value x)])
    | lift_lets -underBinder
    | with_reducible first
        | apply State.wr_keeps | apply State.setFld_keeps | (refine Keeps.ite (fun _ => ?_) (fun _ => ?_))

theorem execRedAliveRefresh_keeps {b0 : State} (s : State) (hk : Keeps b0 s) : KeepsE b0 (execRedAliveRefresh s) := by
  unfold execRedAliveRefresh
  repeat' first
    | with_reducible assumption
    | with_reducible first
        | apply KeepsE.next | apply State.refreshAlive_keeps | (refine Keeps.ite (fun _ => ?_) (fun _ => ?_))

theorem execAliveRefreshTimeout_keeps {b0 : State} (s : State) (hk : Keeps b0 s) : KeepsE b0 (execAliveRefreshTimeout s) := by
  unfold execAliveRefreshTimeout
  repeat' first
    | with_reducible assumption
    | with_reducible first
        | apply KeepsE.next | refine State.whenVamp_keeps _ _ ?_ ?_ | apply State.setFld_keeps
        | (refine Keeps.ite (fun _ => ?_) (fun _ => ?_))

theorem execBeatSend_keeps {b0 : State} (s : State) (hk : Keeps b0 s) : KeepsE b0 (execBeatSend s) := by
  unfold execBeatSend
  repeat' first
    | with_reducible assumption | (intro x; clear_value x) | lift_lets -underBinder
    | with_reducible first
        | apply KeepsE.next | refine State.whenVamp_keeps _ _ ?_ ?_ | apply State.emit_keeps
        | (refine Keeps.ite (fun _ => ?_) (fun _ => ?_)) | (refine Keeps.upd ?_; assumption)
    | split

theorem execLastFastSetSend_keeps {b0 : State} (s : State) (hk : Keeps b0 s) : KeepsE b0 (execLastFastSetSend s) := by
  unfold execLastFastSetSend
  repeat' first
    | with_reducible assumption
    | (intro x; refine @Keeps.cut (Keeps b0 x) _ ?_ ?_ <;> [subst x; (intro _; clear_value x)])
    | (intro x; clear_value x) | lift_lets -underBinder
    | with_reducible first
        | apply KeepsE.next | refine State.whenVamp_keeps _ _ ?_ ?_ | apply State.drawn_keeps
        | apply State.sendFrames_keeps | apply State.wr_keeps | (refine Keeps.ite (fun _ => ?_) (fun _ => ?_))
        | (refine Keeps.upd ?_; assumption)
    | split

theorem execLastFullSetSend_keeps {b0 : State} (s : State) (hk : Keeps b0 s) : KeepsE b0 (execLastFullSetSend s) := by
  unfold execLastFullSetSend
  repeat' first
    | with_reducible assumption
    | (intro x; refine @Keeps.cut (Keeps b0 x) _ ?_ ?_ <;> [subst x; (intro _; clear_value x)])
    | (intro x; clear_value x) | lift_lets -underBinder
    | with_reducible first
        | apply KeepsE.next | refine State.whenVamp_keeps _ _ ?_ ?_ | apply State.checkpoint_keeps
        | apply State.sendFrames_keeps | apply State.wr_keeps | apply State.strobe_keeps
        | refine Keeps.foldl (fun _ _ _ => ?_) ?_ | refine Keeps.foldl1 (fun _ _ _ => ?_) ?_
        | (refine Keeps.ite (fun _ => ?_) (fun _ => ?_)) | (refine Keeps.upd ?_; assumption)
    | split

theorem State.discardSet_keeps {b0 : State} (s : State) (kind : Nat) (hk : Keeps b0 s) : Keeps b0 (State.discardSet s kind) := by
  unfold State.discardSet
  repeat' first
    | with_reducible assumption
    | (intro x; refine @Keeps.cut (Keeps b0 x) _ ?_ ?_ <;> [subst x; (intro _; clear_value x)])
    | (intro x; clear_value x) | lift_lets -underBinder
    | with_reducible first
        | apply State.incFld_keeps | apply State.flag_keeps | (refine Keeps.upd ?_; assumption)

theorem State.partnerEvent_keeps {b0 : State} (s : State) (cause : Nat) (hk : Keeps b0 s) : Keeps b0 (State.partnerEvent s cause) := by
  unfold State.partnerEvent
  repeat' first
    | with_reducible assumption
    | with_reducible first
        | apply State.strobe_keeps

theorem State.patchCheckpoint_keeps {b0 : State} (s : State) (sweep cell : Nat) (bytes : Bytes) (hk : Keeps b0 s) : Keeps b0 (State.patchCheckpoint s sweep cell bytes) := by
  unfold State.patchCheckpoint
  repeat' first
    | with_reducible assumption
    | (intro x; refine @Keeps.cut (Keeps b0 x) _ ?_ ?_ <;> [subst x; (intro _; clear_value x)])
    | (intro x; clear_value x) | lift_lets -underBinder
    | with_reducible first
        | apply State.putBytes_keeps

theorem State.lastFresh_keeps {b0 : State} (s : State) (hk : Keeps b0 s) : Keeps b0 (State.lastFresh s) := by
  unfold State.lastFresh
  repeat' first
    | with_reducible assumption
    | with_reducible first
        | apply State.setBit_keeps | apply State.aliveFollows_keeps | apply State.strobe_keeps
        | (refine Keeps.ite (fun _ => ?_) (fun _ => ?_))

theorem State.commitSet_keeps {b0 : State} (s : State) (kind seq : Nat) (header body : Bytes) (hk : Keeps b0 s) : Keeps b0 (State.commitSet s kind seq header body) := by
  unfold State.commitSet
  repeat' first
    | with_reducible assumption
    | (intro x; refine @Keeps.cut (Keeps b0 x) _ ?_ ?_ <;> [subst x; (intro _; clear_value x)])
    | (intro x; clear_value x) | lift_lets -underBinder
    | with_reducible first
        | apply State.patchCheckpoint_keeps | apply State.putBytes_keeps | apply State.wr_keeps
        | apply State.lastFresh_keeps | apply State.journalAdopt_keeps | refine Keeps.foldl (fun _ _ _ => ?_) ?_
        | refine Keeps.foldl1 (fun _ _ _ => ?_) ?_ | (refine Keeps.ite (fun _ => ?_) (fun _ => ?_))
        | (refine Keeps.upd ?_; assumption)
    | split

theorem State.judgeSet_keeps {b0 : State} (s : State) (kind seq : Nat) (bytes : Bytes) (hk : Keeps b0 s) : Keeps b0 (State.judgeSet s kind seq bytes) := by
  unfold State.judgeSet
  repeat' first
    | with_reducible assumption
    | (intro x; refine @Keeps.cut (Keeps b0 x) _ ?_ ?_ <;> [subst x; (intro _; clear_value x)])
    | (intro x; clear_value x) | lift_lets -underBinder
    | with_reducible first
        | apply State.discardSet_keeps | apply State.partnerEvent_keeps | apply State.commitSet_keeps
        | (refine Keeps.ite (fun _ => ?_) (fun _ => ?_)) | (refine Keeps.upd ?_; assumption)

theorem State.setFrame_keeps {b0 : State} (s : State) (kind seq frame offset : Nat) (last : Bool) (payload : Bytes) (hk : Keeps b0 s) : Keeps b0 (State.setFrame s kind seq frame offset last payload) := by
  unfold State.setFrame
  repeat' first
    | with_reducible assumption
    | (intro x; refine @Keeps.cut (Keeps b0 x) _ ?_ ?_ <;> [subst x; (intro _; clear_value x)])
    | (intro x; clear_value x) | lift_lets -underBinder
    | with_reducible first
        | apply State.discardSet_keeps | apply State.judgeSet_keeps | (refine Keeps.ite (fun _ => ?_) (fun _ => ?_))
        | (refine Keeps.upd ?_; assumption)

theorem State.beat_keeps {b0 : State} (s : State) (payload : Bytes) (hk : Keeps b0 s) : Keeps b0 (State.beat s payload) := by
  unfold State.beat
  repeat' first
    | with_reducible assumption
    | (intro x; refine @Keeps.cut (Keeps b0 x) _ ?_ ?_ <;> [subst x; (intro _; clear_value x)])
    | (intro x; clear_value x) | lift_lets -underBinder
    | with_reducible first
        | apply State.setFld_keeps | apply State.flag_keeps | apply State.partnerEvent_keeps
        | (refine Keeps.ite (fun _ => ?_) (fun _ => ?_))

theorem State.partnerUp_keeps {b0 : State} (s : State) (hk : Keeps b0 s) : Keeps b0 (State.partnerUp s) := by
  unfold State.partnerUp
  repeat' first
    | with_reducible assumption
    | with_reducible first
        | apply State.setBit_keeps | apply State.partnerEvent_keeps | (refine Keeps.ite (fun _ => ?_) (fun _ => ?_))

theorem State.partnerTake_keeps {b0 : State} (s : State) (frame : Bytes) (hk : Keeps b0 s) : Keeps b0 (State.partnerTake s frame) := by
  unfold State.partnerTake
  repeat' first
    | with_reducible assumption
    | (intro x; refine @Keeps.cut (Keeps b0 x) _ ?_ ?_ <;> [subst x; (intro _; clear_value x)])
    | (intro x; clear_value x) | lift_lets -underBinder
    | with_reducible first
        | apply State.partnerUp_keeps | apply State.beat_keeps | apply State.setFrame_keeps
        | (refine Keeps.ite (fun _ => ?_) (fun _ => ?_))

theorem State.partnerEnd_keeps {b0 : State} (s : State) (e : FrameEnd) (hk : Keeps b0 s) : Keeps b0 (State.partnerEnd s e) := by
  unfold State.partnerEnd
  repeat' first
    | with_reducible assumption | lift_lets -underBinder
    | with_reducible first
        | apply State.partnerTake_keeps | apply State.incFld_keeps | (refine Keeps.ite (fun _ => ?_) (fun _ => ?_))
    | split

theorem execPartnerFrameReceive_keeps {b0 : State} (groups : List (Option Nat)) (s : State) (hk : Keeps b0 s) : KeepsE b0 (execPartnerFrameReceive groups s) := by
  unfold execPartnerFrameReceive
  repeat' first
    | with_reducible assumption
    | with_reducible first
        | apply KeepsE.next | refine State.whenVamp_keeps _ _ ?_ ?_ | apply State.partnerEnd_keeps
        | refine Keeps.foldl (fun _ _ _ => ?_) ?_ | refine Keeps.foldl1 (fun _ _ _ => ?_) ?_
        | (refine Keeps.ite (fun _ => ?_) (fun _ => ?_))

theorem execLastStaleTimeout_keeps {b0 : State} (s : State) (hk : Keeps b0 s) : KeepsE b0 (execLastStaleTimeout s) := by
  unfold execLastStaleTimeout
  repeat' first
    | with_reducible assumption
    | with_reducible first
        | apply KeepsE.next | refine State.whenVamp_keeps _ _ ?_ ?_ | apply State.lastStale_keeps
        | (refine Keeps.ite (fun _ => ?_) (fun _ => ?_))

theorem execPartnerLinkTimeout_keeps {b0 : State} (s : State) (hk : Keeps b0 s) : KeepsE b0 (execPartnerLinkTimeout s) := by
  unfold execPartnerLinkTimeout
  repeat' first
    | with_reducible assumption
    | with_reducible first
        | apply KeepsE.next | refine State.whenVamp_keeps _ _ ?_ ?_ | apply State.setBit_keeps
        | apply State.flag_keeps | apply State.incFld_keeps | apply State.partnerEvent_keeps
        | (refine Keeps.ite (fun _ => ?_) (fun _ => ?_))
    | split

theorem State.copyLast_keeps {b0 : State} (s : State) (hk : Keeps b0 s) : Keeps b0 (State.copyLast s) := by
  unfold State.copyLast
  repeat' first
    | with_reducible assumption
    | (intro x; refine @Keeps.cut (Keeps b0 x) _ ?_ ?_ <;> [subst x; (intro _; clear_value x)])
    | (intro x; clear_value x) | lift_lets -underBinder
    | with_reducible first
        | apply State.insoleStart_keeps | (refine Keeps.ite (fun _ => ?_) (fun _ => ?_))
        | (refine Keeps.upd ?_; assumption)
    | split

theorem execLastPersistTimer_keeps {b0 : State} (s : State) (hk : Keeps b0 s) : KeepsE b0 (execLastPersistTimer s) := by
  unfold execLastPersistTimer
  repeat' first
    | with_reducible assumption
    | with_reducible first
        | apply KeepsE.next | refine State.whenVamp_keeps _ _ ?_ ?_ | apply State.copyLast_keeps
        | (refine Keeps.ite (fun _ => ?_) (fun _ => ?_))

theorem State.copyResume_keeps {b0 : State} (s : State) (hk : Keeps b0 s) : Keeps b0 (State.copyResume s) := by
  unfold State.copyResume
  repeat' first
    | with_reducible assumption
    | with_reducible first
        | apply State.copyLast_keeps | (refine Keeps.ite (fun _ => ?_) (fun _ => ?_))

theorem execLastCopyDone_keeps {b0 : State} (ok : Bool) (s : State) (hk : Keeps b0 s) : KeepsE b0 (execLastCopyDone ok s) := by
  unfold execLastCopyDone
  repeat' first
    | with_reducible assumption
    | (intro x; refine @Keeps.cut (Keeps b0 x) _ ?_ ?_ <;> [subst x; (intro _; clear_value x)])
    | (intro x; clear_value x) | lift_lets -underBinder
    | with_reducible first
        | apply KeepsE.next | refine State.whenVamp_keeps _ _ ?_ ?_ | apply State.unspoil_keeps
        | apply State.setBit_keeps | apply State.copyResume_keeps | (refine Keeps.ite (fun _ => ?_) (fun _ => ?_))
        | (refine Keeps.upd ?_; assumption)
    | split

theorem State.regRead_keeps {b0 : State} (s : State) (a : Nat) (hk : Keeps b0 s) : KeepsS b0 (State.regRead s a) := by
  unfold State.regRead
  repeat' first
    | with_reducible assumption
    | (intro x; refine @Keeps.cut (Keeps b0 x) _ ?_ ?_ <;> [subst x; (intro _; clear_value x)])
    | (intro x; clear_value x) | lift_lets -underBinder
    | with_reducible first
        | apply State.canLatch_keeps | apply State.canRelease_keeps | apply State.wr_keeps
        | (refine Keeps.ite (fun _ => ?_) (fun _ => ?_))
    | split

theorem State.linkError_keeps {b0 : State} (s : State) (cause link : Nat) (hk : Keeps b0 s) : Keeps b0 (State.linkError s cause link) := by
  unfold State.linkError
  repeat' first
    | with_reducible assumption
    | with_reducible first
        | apply State.flag_keeps | apply State.strobe_keeps

theorem State.vsDown_keeps {b0 : State} (s : State) (cause : Nat) (hk : Keeps b0 s) : Keeps b0 (State.vsDown s cause) := by
  unfold State.vsDown
  repeat' first
    | with_reducible assumption
    | (intro x; refine @Keeps.cut (Keeps b0 x) _ ?_ ?_ <;> [subst x; (intro _; clear_value x)])
    | (intro x; clear_value x) | lift_lets -underBinder
    | with_reducible first
        | apply State.currentUnknown_keeps | apply State.linkError_keeps | apply State.holdLink_keeps
        | (refine Keeps.ite (fun _ => ?_) (fun _ => ?_)) | (refine Keeps.upd ?_; assumption)

theorem execVsFlitReceive_keeps {b0 : State} (toSole : Bool) (cls seq : Nat) (parityOk : Bool) (s : State) (hk : Keeps b0 s) : KeepsE b0 (execVsFlitReceive toSole cls seq parityOk s) := by
  unfold execVsFlitReceive
  repeat' first
    | with_reducible assumption | (intro x; clear_value x) | lift_lets -underBinder
    | with_reducible first
        | apply KeepsE.next | apply State.vsDown_keeps | (refine Keeps.ite (fun _ => ?_) (fun _ => ?_))
        | (refine Keeps.upd ?_; assumption)
    | split

theorem execVsClockAbsent_keeps {b0 : State} (s : State) (hk : Keeps b0 s) : KeepsE b0 (execVsClockAbsent s) := by
  unfold execVsClockAbsent
  repeat' first
    | with_reducible assumption
    | with_reducible first
        | apply KeepsE.next | apply State.vsDown_keeps | (refine Keeps.ite (fun _ => ?_) (fun _ => ?_))

theorem execVsLinkRetrained_keeps {b0 : State} (s : State) (hk : Keeps b0 s) : KeepsE b0 (execVsLinkRetrained s) := by
  unfold execVsLinkRetrained
  repeat' first
    | with_reducible assumption
    | (intro x; refine @Keeps.cut (Keeps b0 x) _ ?_ ?_ <;> [subst x; (intro _; clear_value x)])
    | (intro x; clear_value x) | lift_lets -underBinder
    | with_reducible first
        | apply KeepsE.next | apply State.setClose_keeps | apply State.endHold_keeps
        | (refine Keeps.ite (fun _ => ?_) (fun _ => ?_)) | (refine Keeps.upd ?_; assumption)
    | split

theorem State.viCut_keeps {b0 : State} (s : State) (addr : Nat) (program : Bool) (hk : Keeps b0 s) : Keeps b0 (State.viCut s addr program) := by
  unfold State.viCut
  repeat' first
    | with_reducible assumption
    | (intro x; refine @Keeps.cut (Keeps b0 x) _ ?_ ?_ <;> [subst x; (intro _; clear_value x)])
    | lift_lets -underBinder
    | with_reducible first
        | apply State.linkError_keeps | apply State.emit_keeps | apply State.spoil_keeps
        | (refine Keeps.ite (fun _ => ?_) (fun _ => ?_))

theorem execViTransfer_keeps {b0 : State} (ok : Bool) (addr : Word) (program : Bool) (badSector : Option Nat) (s : State) (hk : Keeps b0 s) : KeepsE b0 (execViTransfer ok addr program badSector s) := by
  unfold execViTransfer
  repeat' first
    | with_reducible assumption
    | (intro x; refine @Keeps.cut (Keeps b0 x) _ ?_ ?_ <;> [subst x; (intro _; clear_value x)])
    | (intro x; clear_value x) | lift_lets -underBinder
    | with_reducible first
        | apply KeepsE.next | apply State.viCut_keeps | apply State.retireSector_keeps
        | (refine Keeps.ite (fun _ => ?_) (fun _ => ?_)) | (refine Keeps.upd ?_; assumption)
    | split

theorem execInsoleEccError_keeps {b0 : State} (who : Requester) (addr : Word) (corrected : Bool) (s : State) (hk : Keeps b0 s) : KeepsE b0 (execInsoleEccError who addr corrected s) := by
  unfold execInsoleEccError
  repeat' first
    | with_reducible assumption
    | (intro x; refine @Keeps.cut (Keeps b0 x) _ ?_ ?_ <;> [subst x; (intro _; clear_value x)])
    | lift_lets -underBinder
    | with_reducible first
        | apply KeepsE.next | apply State.incFld_keeps | apply State.insoleEcc_keeps | apply State.emit_keeps
        | (refine Keeps.ite (fun _ => ?_) (fun _ => ?_))
    | split

theorem execEventStrobe_keeps {b0 : State} (src detail : Nat) (s : State) (hk : Keeps b0 s) : KeepsE b0 (execEventStrobe src detail s) := by
  unfold execEventStrobe
  repeat' first
    | with_reducible assumption
    | with_reducible first
        | apply KeepsE.next | apply State.strobe_keeps | (refine Keeps.ite (fun _ => ?_) (fun _ => ?_))

theorem State.queueTail_keeps {b0 : State} (s : State) (value : Word) (hk : Keeps b0 s) : Keeps b0 (State.queueTail s value) := by
  unfold State.queueTail
  repeat' first
    | with_reducible assumption
    | (intro x; refine @Keeps.cut (Keeps b0 x) _ ?_ ?_ <;> [subst x; (intro _; clear_value x)])
    | (intro x; clear_value x) | lift_lets -underBinder
    | with_reducible first
        | apply State.setFld_keeps

theorem execEvtQueueTailWrite_keeps {b0 : State} (value : Word) (s : State) (hk : Keeps b0 s) : KeepsE b0 (execEvtQueueTailWrite value s) := by
  unfold execEvtQueueTailWrite
  repeat' first
    | with_reducible assumption
    | with_reducible first
        | apply KeepsE.next | apply State.queueTail_keeps | (refine Keeps.ite (fun _ => ?_) (fun _ => ?_))

theorem State.countClear_keeps {b0 : State} (s : State) (k : Nat) (bits : Word) (hk : Keeps b0 s) : Keeps b0 (State.countClear s k bits) := by
  unfold State.countClear
  repeat' first
    | with_reducible assumption
    | with_reducible first
        | apply State.setFld_keeps | refine Keeps.foldl (fun _ _ _ => ?_) ?_
        | refine Keeps.foldl1 (fun _ _ _ => ?_) ?_ | (refine Keeps.ite (fun _ => ?_) (fun _ => ?_))

theorem execEvtCountClear_keeps {b0 : State} (k : Nat) (bits : Word) (strobes : List (Nat × Nat)) (s : State) (hk : Keeps b0 s) : KeepsE b0 (execEvtCountClear k bits strobes s) := by
  unfold execEvtCountClear
  repeat' first
    | with_reducible assumption
    | with_reducible first
        | apply KeepsE.next | apply State.strobe_keeps | apply State.countClear_keeps
        | refine Keeps.foldl (fun _ _ _ => ?_) ?_ | refine Keeps.foldl1 (fun _ _ _ => ?_) ?_
        | (refine Keeps.ite (fun _ => ?_) (fun _ => ?_))
    | split

theorem State.coreError_keeps {b0 : State} (s : State) (core : Nat) (hk : Keeps b0 s) : Keeps b0 (State.coreError s core) := by
  unfold State.coreError
  repeat' first
    | with_reducible assumption | lift_lets -underBinder
    | with_reducible first
        | apply State.finishCycle_keeps | (refine Keeps.ite (fun _ => ?_) (fun _ => ?_))
    | split

theorem execGsramParityError_keeps {b0 : State} (requester : Nat) (addr : Word) (interconnect : Bool) (channel : Nat) (s : State) (hk : Keeps b0 s) : KeepsE b0 (execGsramParityError requester addr interconnect channel s) := by
  unfold execGsramParityError
  repeat' first
    | with_reducible assumption
    | (intro x; refine @Keeps.cut (Keeps b0 x) _ ?_ ?_ <;> [subst x; (intro _; clear_value x)])
    | lift_lets -underBinder
    | with_reducible first
        | apply KeepsE.next | apply State.dataParity_keeps | apply State.coreError_keeps
        | apply State.dmaBusError_keeps | apply State.emit_keeps | (refine Keeps.ite (fun _ => ?_) (fun _ => ?_))
    | split

theorem execCodeParityError_keeps {b0 : State} (core : Nat) (addr : Word) (refetchFailed : Bool) (s : State) (hk : Keeps b0 s) : KeepsE b0 (execCodeParityError core addr refetchFailed s) := by
  unfold execCodeParityError
  repeat' first
    | with_reducible assumption
    | (intro x; refine @Keeps.cut (Keeps b0 x) _ ?_ ?_ <;> [subst x; (intro _; clear_value x)])
    | (intro x; clear_value x) | lift_lets -underBinder
    | with_reducible first
        | apply KeepsE.next | apply State.incFld_keeps | apply State.flag_keeps | apply State.strobe_keeps
        | apply State.beginBoot_keeps | (refine Keeps.ite (fun _ => ?_) (fun _ => ?_))
        | (refine Keeps.upd ?_; assumption)
    | split

theorem State.busRead_keeps {b0 : State} (s : State) (who : Requester) (requester a : Nat) (hk : Keeps b0 s) : KeepsS b0 (State.busRead s who requester a) := by
  unfold State.busRead
  repeat' first
    | with_reducible assumption
    | (intro x; refine @Keeps.cut (Keeps b0 x.2) _ ?_ ?_ <;> [subst x; (intro _; clear_value x)])
    | lift_lets -underBinder
    | with_reducible first
        | apply State.dataParity_keeps | apply State.regRead_keeps
        | exact KeepsS.get (State.regRead_keeps _ _ (by assumption)) (by assumption)
        | (refine Keeps.ite (fun _ => ?_) (fun _ => ?_))
    | split

theorem State.after_keeps {b0 : State} (s : State) (o : Host.Outcome State Fault Refusal) (hf : KeepsE b0 o) (hk : Keeps b0 s) : Keeps b0 (State.after s o) := by
  unfold State.after
  repeat' first
    | with_reducible assumption | lift_lets -underBinder
    | with_reducible first
        | apply hf | exact KeepsE.get hf | (refine Keeps.ite (fun _ => ?_) (fun _ => ?_))
    | split

theorem State.plainWrite_keeps {b0 : State} (s : State) (a : Nat) (v : Word) (hk : Keeps b0 s) : Keeps b0 (State.plainWrite s a v) := by
  unfold State.plainWrite
  repeat' first
    | with_reducible assumption | (intro x; clear_value x) | lift_lets -underBinder
    | with_reducible first
        | apply State.wr_keeps

theorem State.onBit_keeps {b0 : State} (s : State) (v : Word) (b : Nat) (f : State → State) (hf : ∀ t, Keeps b0 t → Keeps b0 (f t)) (hk : Keeps b0 s) : Keeps b0 (State.onBit s v b f) := by
  unfold State.onBit
  repeat' first
    | with_reducible assumption
    | with_reducible first
        | apply hf | (refine Keeps.ite (fun _ => ?_) (fun _ => ?_))

theorem State.dmaCtrlWrite_keeps {b0 : State} (s : State) (n : Nat) (v : Word) (hk : Keeps b0 s) : Keeps b0 (State.dmaCtrlWrite s n v) := by
  unfold State.dmaCtrlWrite
  repeat' first
    | with_reducible assumption
    | with_reducible first
        | refine State.onBit_keeps _ _ _ _ (fun _ _ => ?_) ?_ | apply State.dmaFree_keeps
        | apply State.dmaAlloc_keeps | apply State.dmaStart_keeps | apply State.dmaKick_keeps
        | apply State.dmaAbort_keeps | apply State.dmaDisable_keeps

theorem State.dmaWrite_keeps {b0 : State} (s : State) (a : Nat) (v : Word) (hk : Keeps b0 s) : KeepsO b0 (State.dmaWrite s a v) := by
  unfold State.dmaWrite
  repeat' first
    | with_reducible assumption | (intro x; clear_value x) | lift_lets -underBinder
    | with_reducible first
        | exact KeepsO.none | apply KeepsO.some | refine KeepsO.map (fun _ => ?_) | apply State.dmaSwreq_keeps
        | apply State.dmaCtrlWrite_keeps | apply State.dmaCqTail_keeps
        | (refine Keeps.ite (fun _ => ?_) (fun _ => ?_))
    | split

theorem State.canWrite_keeps {b0 : State} (s : State) (a : Nat) (v : Word) (hk : Keeps b0 s) : KeepsO b0 (State.canWrite s a v) := by
  unfold State.canWrite
  repeat' first
    | with_reducible assumption | (intro x; clear_value x) | lift_lets -underBinder
    | with_reducible first
        | exact KeepsO.none | apply KeepsO.some | refine KeepsO.map (fun _ => ?_)
        | refine State.onBit_keeps _ _ _ _ (fun _ _ => ?_) ?_ | refine State.after_keeps _ _ ?_ ?_
        | apply execCanSleepReq_keeps | apply State.canWake_keeps | apply execCanRecover_keeps
        | apply execCanCommit_keeps | apply execCanTxReq_keeps | apply execCanTxCancel_keeps
        | apply State.drawn_keeps | apply execCanTxPush_keeps | apply State.setCanCtl_keeps
        | (refine Keeps.ite (fun _ => ?_) (fun _ => ?_))
    | split

theorem State.ctlWrite_keeps {b0 : State} (s : State) (a : Nat) (v : Word) (hk : Keeps b0 s) : KeepsO b0 (State.ctlWrite s a v) := by
  unfold State.ctlWrite
  repeat' first
    | with_reducible assumption
    | with_reducible first
        | exact KeepsO.none | apply KeepsO.some | refine KeepsO.map (fun _ => ?_)
        | refine State.forSlots_keeps _ _ _ (fun _ _ _ => ?_) ?_ | apply State.startSlot_keeps
        | apply State.haltCommand_keeps | apply State.applySlot_keeps | refine State.after_keeps _ _ ?_ ?_
        | apply execCtlCommit_keeps | refine State.onBit_keeps _ _ _ _ (fun _ _ => ?_) ?_ | apply execAwlStart_keeps
        | apply State.awlAbort_keeps | apply execPwmTripClear_keeps | apply State.drawn_keeps
        | apply State.enableWrite_keeps | apply State.periodWrite_keeps
        | (refine Keeps.ite (fun _ => ?_) (fun _ => ?_))
    | split

theorem State.safWrite_keeps {b0 : State} (s : State) (who : Requester) (a : Nat) (v : Word) (hk : Keeps b0 s) : KeepsO b0 (State.safWrite s who a v) := by
  unfold State.safWrite
  repeat' first
    | with_reducible assumption
    | with_reducible first
        | exact KeepsO.none | apply KeepsO.some | refine KeepsO.map (fun _ => ?_) | apply State.ltCommitWrite_keeps
        | apply State.pertWrite_keeps | refine State.onBit_keeps _ _ _ _ (fun _ _ => ?_) ?_
        | refine State.after_keeps _ _ ?_ ?_ | apply execPcsDispatchApply_keeps | apply State.safAckWrite_keeps
        | apply State.outReqClose_keeps | apply State.fire_keeps | apply State.weltRearm_keeps
        | (refine Keeps.ite (fun _ => ?_) (fun _ => ?_))
    | split

theorem State.timWrite_keeps {b0 : State} (s : State) (a : Nat) (v : Word) (hk : Keeps b0 s) : KeepsO b0 (State.timWrite s a v) := by
  unfold State.timWrite
  repeat' first
    | with_reducible assumption
    | with_reducible first
        | exact KeepsO.none | apply KeepsO.some | refine KeepsO.map (fun _ => ?_)
        | refine State.onBit_keeps _ _ _ _ (fun _ _ => ?_) ?_ | refine State.after_keeps _ _ ?_ ?_
        | apply execTimCapture_keeps | apply State.alarmArmed_keeps | apply State.plainWrite_keeps
        | (refine Keeps.ite (fun _ => ?_) (fun _ => ?_))
    | split

theorem State.coreWrite_keeps {b0 : State} (s : State) (a : Nat) (v : Word) (hk : Keeps b0 s) : KeepsO b0 (State.coreWrite s a v) := by
  unfold State.coreWrite
  repeat' first
    | with_reducible assumption | (intro x; clear_value x) | lift_lets -underBinder
    | with_reducible first
        | exact KeepsO.none | apply KeepsO.some | refine KeepsO.map (fun _ => ?_) | apply State.sysRestart_keeps
        | refine State.onBit_keeps _ _ _ _ (fun _ _ => ?_) ?_ | apply State.drawn_keeps
        | apply State.startHoldup_keeps | apply State.queueTail_keeps | apply State.countClear_keeps
        | apply State.enumerate_keeps | apply State.recalReq_keeps | refine State.after_keeps _ _ ?_ ?_
        | apply execSwpBurstReq_keeps | apply execSwpSeqReq_keeps | apply State.burstAbort_keeps
        | apply State.estCommand_keeps | apply State.hostRun_keeps | apply State.stopRequest_keeps
        | apply State.requestChange_keeps | apply State.abortChange_keeps | apply execRecPersistReq_keeps
        | apply State.refreshAlive_keeps | (refine Keeps.ite (fun _ => ?_) (fun _ => ?_))
    | split

theorem State.ownWrite_keeps {b0 : State} (s : State) (who : Requester) (a : Nat) (v : Word) (hk : Keeps b0 s) : KeepsO b0 (State.ownWrite s who a v) := by
  unfold State.ownWrite
  repeat' first
    | with_reducible assumption | (intro x; clear_value x) | lift_lets -underBinder
    | with_reducible first
        | exact KeepsO.none | apply KeepsO.some | refine KeepsO.map (fun _ => ?_) | apply State.dmaWrite_keeps
        | apply State.canWrite_keeps | apply State.ctlWrite_keeps | apply State.safWrite_keeps
        | apply State.timWrite_keeps | apply State.coreWrite_keeps
        | exact KeepsO.get (State.dmaWrite_keeps _ _ _ (by assumption)) (by assumption)
        | exact KeepsO.get (State.canWrite_keeps _ _ _ (by assumption)) (by assumption)
        | exact KeepsO.get (State.ctlWrite_keeps _ _ _ (by assumption)) (by assumption)
        | exact KeepsO.get (State.safWrite_keeps _ _ _ _ (by assumption)) (by assumption)
        | exact KeepsO.get (State.timWrite_keeps _ _ _ (by assumption)) (by assumption)
        | exact KeepsO.get (State.coreWrite_keeps _ _ _ (by assumption)) (by assumption)
        | (refine Keeps.ite (fun _ => ?_) (fun _ => ?_))
    | split

theorem State.regWrite_keeps {b0 : State} (s : State) (who : Requester) (a : Nat) (v : Word) (hk : Keeps b0 s) : Keeps b0 (State.regWrite s who a v) := by
  unfold State.regWrite
  repeat' first
    | with_reducible assumption
    | with_reducible first
        | apply State.ownWrite_keeps | apply State.plainWrite_keeps
        | exact KeepsO.get (State.ownWrite_keeps _ _ _ _ (by assumption)) (by assumption) | refine Keeps.getD ?_ ?_
        | (refine Keeps.ite (fun _ => ?_) (fun _ => ?_))

theorem State.busWrite_keeps {b0 : State} (s : State) (who : Requester) (a : Nat) (v : Word) (hk : Keeps b0 s) : KeepsO b0 (State.busWrite s who a v) := by
  unfold State.busWrite
  repeat' first
    | with_reducible assumption
    | with_reducible first
        | exact KeepsO.none | apply KeepsO.some | refine KeepsO.map (fun _ => ?_) | apply State.putWord_keeps
        | apply State.regWrite_keeps | (refine Keeps.ite (fun _ => ?_) (fun _ => ?_))
    | split

theorem execRegisterWrite_keeps {b0 : State} (who : Requester) (addr : Word) (size : Nat) (value sets : Word) (s : State)
    (hk : Keeps b0 s) : KeepsE b0 (execRegisterWrite who addr size value sets s) := by
  unfold execRegisterWrite
  split
  · exact KeepsE.next hk
  · split
    · rename_i e
      split at e
      · exact KeepsE.next (KeepsO.get (State.busWrite_keeps _ _ _ _ hk) e)
      · cases e
    · exact KeepsE.next (State.emit_keeps hk)

theorem State.sourceRead_keeps {b0 : State} (s : State) (n a : Nat) (k : Nat) (hk : Keeps b0 s) : KeepsS b0 (State.sourceRead s n a k) := by
  unfold State.sourceRead
  repeat' first
    | with_reducible assumption | lift_lets -underBinder
    | with_reducible first
        | apply State.dataParity_keeps | apply State.busRead_keeps
        | exact KeepsS.get (State.busRead_keeps _ _ _ _ (by assumption)) (by assumption)
        | (refine Keeps.ite (fun _ => ?_) (fun _ => ?_))
    | split

theorem State.moveWord_keeps {b0 : State} (s : State) (n : Nat) (d : List Word) (hk : Keeps b0 s) : Keeps b0 (State.moveWord s n d) := by
  unfold State.moveWord
  repeat' first
    | with_reducible assumption
    | (intro x; refine @Keeps.cut (Keeps b0 x.2) _ ?_ ?_ <;> [subst x; (intro _; clear_value x)])
    | (intro x; clear_value x) | lift_lets -underBinder
    | with_reducible first
        | apply State.sourceRead_keeps | apply State.dmaBusError_keeps | apply State.busWrite_keeps
        | apply State.setChan_keeps
        | exact KeepsS.get (State.sourceRead_keeps _ _ _ _ (by assumption)) (by assumption)
        | exact KeepsO.get (State.busWrite_keeps _ _ _ _ (by assumption)) (by assumption)
        | (refine Keeps.ite (fun _ => ?_) (fun _ => ?_))
    | split

theorem State.moveWords_keeps {b0 : State} {n : Nat} {d : List Word} : ∀ {i : Nat} {s : State}, Keeps b0 s →
    Keeps b0 (s.moveWords n d i)
  | 0, _, h => h
  | i + 1, s, h => by
    unfold State.moveWords
    split
    · exact State.moveWords_keeps (State.moveWord_keeps _ _ _ h)
    · exact h

theorem State.afterBurst_keeps {b0 : State} (s : State) (n : Nat) (d : List Word) (hk : Keeps b0 s) : Keeps b0 (State.afterBurst s n d) := by
  unfold State.afterBurst
  repeat' first
    | with_reducible assumption | (intro x; clear_value x) | lift_lets -underBinder
    | with_reducible first
        | apply State.setChan_keeps | apply State.dmaComplete_keeps | apply State.setChanState_keeps
        | (refine Keeps.ite (fun _ => ?_) (fun _ => ?_))

theorem State.burst_keeps {b0 : State} (s : State) (n : Nat) (d : List Word) (hk : Keeps b0 s) : Keeps b0 (State.burst s n d) := by
  unfold State.burst
  repeat' first
    | with_reducible assumption
    | (intro x; refine @Keeps.cut (Keeps b0 x) _ ?_ ?_ <;> [subst x; (intro _; clear_value x)])
    | (intro x; clear_value x) | lift_lets -underBinder
    | with_reducible first
        | apply State.setChan_keeps | apply State.moveWords_keeps | apply State.afterBurst_keeps

theorem State.dmaTook_keeps {b0 : State} (s : State) (n : Nat) (hk : Keeps b0 s) : Keeps b0 (State.dmaTook s n) := by
  unfold State.dmaTook
  repeat' first
    | with_reducible assumption | (intro x; clear_value x) | lift_lets -underBinder
    | with_reducible first
        | (refine Keeps.ite (fun _ => ?_) (fun _ => ?_)) | (refine Keeps.upd ?_; assumption)

theorem execDmaBurst_keeps {b0 : State} (n : Nat) (s : State) (hk : Keeps b0 s) : KeepsE b0 (execDmaBurst n s) := by
  unfold execDmaBurst
  repeat' first
    | with_reducible assumption | lift_lets -underBinder
    | with_reducible first
        | apply KeepsE.next | apply State.dmaTook_keeps | apply State.burst_keeps
        | (refine Keeps.ite (fun _ => ?_) (fun _ => ?_))
    | split

theorem State.programParity_keeps {b0 : State} (s : State) (core a : Nat) (hk : Keeps b0 s) : KeepsO b0 (State.programParity s core a) := by
  unfold State.programParity
  repeat' first
    | with_reducible assumption
    | with_reducible first
        | exact KeepsO.none | apply KeepsO.some | refine KeepsO.map (fun _ => ?_) | apply State.bavin_keeps
        | apply State.dataParity_keeps | apply State.coreError_keeps
        | (refine Keeps.ite (fun _ => ?_) (fun _ => ?_))
    | split

theorem execBavinRdreg_keeps {b0 : State} (core : Nat) (s : State) (hk : Keeps b0 s) : KeepsE b0 (execBavinRdreg core s) := by
  unfold execBavinRdreg
  repeat' first
    | with_reducible assumption
    | (intro x; refine @Keeps.cut (Keeps b0 x.2) _ ?_ ?_ <;> [subst x; (intro _; clear_value x)])
    | (intro x; clear_value x) | lift_lets -underBinder
    | with_reducible first
        | apply KeepsE.next | refine State.bavinDo_keeps _ _ _ _ (fun _ _ _ => ?_) ?_ | apply State.busRead_keeps
        | apply State.bavin_keeps | apply State.programParity_keeps | apply State.runtimeFault_keeps
        | exact KeepsP.none | exact KeepsP.same | refine KeepsP.some (fun _ _ => ?_)
        | exact KeepsS.get (State.busRead_keeps _ _ _ _ (by assumption)) (by assumption)
        | exact KeepsO.get (State.programParity_keeps _ _ _ (by assumption)) (by assumption)
        | refine Keeps.getD ?_ ?_ | (refine Keeps.ite (fun _ => ?_) (fun _ => ?_))
    | split

theorem execBavinWrreg_keeps {b0 : State} (core : Nat) (s : State) (hk : Keeps b0 s) : KeepsE b0 (execBavinWrreg core s) := by
  unfold execBavinWrreg
  repeat' first
    | with_reducible assumption | lift_lets -underBinder
    | with_reducible first
        | apply KeepsE.next | refine State.bavinDo_keeps _ _ _ _ (fun _ _ _ => ?_) ?_ | apply State.busWrite_keeps
        | apply State.bavin_keeps | apply State.runtimeFault_keeps | exact KeepsP.none | exact KeepsP.same
        | refine KeepsP.some (fun _ _ => ?_)
        | exact KeepsO.get (State.busWrite_keeps _ _ _ _ (by assumption)) (by assumption)
        | (refine Keeps.ite (fun _ => ?_) (fun _ => ?_))
    | split

end Sys2Proof.Machine
end

