-- ==== Sys2Proof/Laws/KeepsCommand.lean ====
section
/-!
SUPPORT. What no operation undoes (Laws/Keeps.lean), operation by operation: the command channel.
-/

namespace Sys2Proof.Machine

theorem State.showThrottle_keeps {b0 : State} (s : State) (hk : Keeps b0 s) : Keeps b0 (State.showThrottle s) := by
  unfold State.showThrottle
  repeat' first
    | with_reducible assumption
    | with_reducible first
        | apply State.setBit_keeps

theorem State.sessionEvent_keeps {b0 : State} (s : State) (cause version i : Nat) (hk : Keeps b0 s) : Keeps b0 (State.sessionEvent s cause version i) := by
  unfold State.sessionEvent
  repeat' first
    | with_reducible assumption
    | (intro x; refine @Keeps.cut (Keeps b0 x) _ ?_ ?_ <;> [subst x; (intro _; clear_value x)])
    | lift_lets -underBinder
    | with_reducible first
        | apply State.flag_keeps | apply State.strobe_keeps | (refine Keeps.ite (fun _ => ?_) (fun _ => ?_))

theorem State.endOwner_keeps {b0 : State} (s : State) (cause : Nat) (hk : Keeps b0 s) : Keeps b0 (State.endOwner s cause) := by
  unfold State.endOwner
  repeat' first
    | with_reducible assumption
    | (intro x; refine @Keeps.cut (Keeps b0 x) _ ?_ ?_ <;> [subst x; (intro _; clear_value x)])
    | (intro x; clear_value x) | lift_lets -underBinder
    | with_reducible first
        | apply State.setFld_keeps | apply State.setBit_keeps | apply State.sessionEvent_keeps
        | (refine Keeps.ite (fun _ => ?_) (fun _ => ?_)) | (refine Keeps.upd ?_; assumption)
    | split

theorem State.dropSession_keeps {b0 : State} (s : State) (i : Nat) (hk : Keeps b0 s) : Keeps b0 (State.dropSession s i) := by
  unfold State.dropSession
  repeat' first
    | with_reducible assumption
    | (intro x; refine @Keeps.cut (Keeps b0 x) _ ?_ ?_ <;> [subst x; (intro _; clear_value x)])
    | (intro x; clear_value x) | lift_lets -underBinder
    | with_reducible first
        | apply State.endOwner_keeps | apply State.wr_keeps | apply State.showInflight_keeps
        | apply State.showThrottle_keeps | (refine Keeps.ite (fun _ => ?_) (fun _ => ?_))
        | (refine Keeps.upd ?_; assumption)

theorem State.closeSession_keeps {b0 : State} (s : State) (i cause : Nat) (hk : Keeps b0 s) : Keeps b0 (State.closeSession s i cause) := by
  unfold State.closeSession
  repeat' first
    | with_reducible assumption | lift_lets -underBinder
    | with_reducible first
        | apply State.dropSession_keeps | apply State.sessionEvent_keeps
        | (refine Keeps.ite (fun _ => ?_) (fun _ => ?_))
    | split

theorem execSessionHoldExpiry_keeps {b0 : State} (i : Nat) (s : State) (hk : Keeps b0 s) : KeepsE b0 (execSessionHoldExpiry i s) := by
  unfold execSessionHoldExpiry
  repeat' first
    | with_reducible assumption
    | with_reducible first
        | apply KeepsE.next | apply State.closeSession_keeps | (refine Keeps.ite (fun _ => ?_) (fun _ => ?_))

theorem State.throttleEvent_keeps {b0 : State} (s : State) (i : Nat) (began : Bool) (n : Nat) (hk : Keeps b0 s) : Keeps b0 (State.throttleEvent s i began n) := by
  unfold State.throttleEvent
  repeat' first
    | with_reducible assumption
    | with_reducible first
        | apply State.strobe_keeps

theorem State.countViolation_keeps {b0 : State} (s : State) (i kind tag : Nat) (hk : Keeps b0 s) : Keeps b0 (State.countViolation s i kind tag) := by
  unfold State.countViolation
  repeat' first
    | with_reducible assumption
    | (intro x; refine @Keeps.cut (Keeps b0 x) _ ?_ ?_ <;> [subst x; (intro _; clear_value x)])
    | (intro x; clear_value x) | lift_lets -underBinder
    | with_reducible first
        | apply State.setSession_keeps | apply State.wrN_keeps | apply State.flag_keeps | apply State.strobe_keeps
        | apply State.showThrottle_keeps | apply State.throttleEvent_keeps
        | (refine Keeps.ite (fun _ => ?_) (fun _ => ?_))
    | split

theorem State.violate_keeps {b0 : State} (s : State) (i kind status : Nat) (p : CmdPacket) (hk : Keeps b0 s) : Keeps b0 (State.violate s i kind status p) := by
  unfold State.violate
  repeat' first
    | with_reducible assumption
    | with_reducible first
        | apply State.reply_keeps | apply State.countViolation_keeps

theorem execThrottleEnd_keeps {b0 : State} (i : Nat) (s : State) (hk : Keeps b0 s) : KeepsE b0 (execThrottleEnd i s) := by
  unfold execThrottleEnd
  repeat' first
    | with_reducible assumption
    | (intro x; refine @Keeps.cut (Keeps b0 x) _ ?_ ?_ <;> [subst x; (intro _; clear_value x)])
    | (intro x; clear_value x) | lift_lets -underBinder
    | with_reducible first
        | apply KeepsE.next | apply State.setSession_keeps | apply State.setFld_keeps
        | apply State.showThrottle_keeps | apply State.throttleEvent_keeps
        | (refine Keeps.ite (fun _ => ?_) (fun _ => ?_))
    | split

theorem State.answer_keeps {b0 : State} (s : State) (op : Nat) (fits : Bool) (body : Bytes) (hk : Keeps b0 s) : Keeps b0 (State.answer s op fits body) := by
  unfold State.answer
  repeat' first
    | with_reducible assumption
    | with_reducible first
        | apply State.complete_keeps | (refine Keeps.ite (fun _ => ?_) (fun _ => ?_))

theorem State.deviceInfo_keeps {b0 : State} (s : State) (op : Nat) (ps : Bytes) (hk : Keeps b0 s) : Keeps b0 (State.deviceInfo s op ps) := by
  unfold State.deviceInfo
  repeat' first
    | with_reducible assumption
    | with_reducible first
        | apply State.answer_keeps

theorem State.stateRead_keeps {b0 : State} (s : State) (op : Nat) (ps : Bytes) (hk : Keeps b0 s) : Keeps b0 (State.stateRead s op ps) := by
  unfold State.stateRead
  repeat' first
    | with_reducible assumption
    | with_reducible first
        | apply State.answer_keeps

theorem State.tableInfo_keeps {b0 : State} (s : State) (op : Nat) (ps : Bytes) (hk : Keeps b0 s) : Keeps b0 (State.tableInfo s op ps) := by
  unfold State.tableInfo
  repeat' first
    | with_reducible assumption
    | with_reducible first
        | apply State.answer_keeps

theorem State.readWords_keeps {b0 : State} {addr : Nat} : ∀ {n : Nat} {s : State} {i : Nat} {acc : Bytes}, Keeps b0 s →
    Keeps b0 (s.readWords addr i acc n).1
  | 0, _, _, _, h => h
  | n + 1, s, i, acc, h => by
    have k := State.busRead_keeps s .host 6 ((addr + 4 * i) % 2 ^ 32) h
    simp only [State.readWords]
    split
    · exact k
    · exact State.readWords_keeps (n := n) k

theorem State.regReadCmd_keeps {b0 : State} (s : State) (op : Nat) (ps : Bytes) (hk : Keeps b0 s) : Keeps b0 (State.regReadCmd s op ps) := by
  unfold State.regReadCmd
  repeat' first
    | with_reducible assumption | (intro x; clear_value x) | lift_lets -underBinder
    | with_reducible first
        | apply State.complete_keeps | apply State.readWords_keeps
        | exact KeepsF.get (State.readWords_keeps (by assumption)) (by assumption)
        | (refine Keeps.ite (fun _ => ?_) (fun _ => ?_))
    | split

theorem State.writeWordsCmd_keeps {b0 : State} {op addr : Nat} : ∀ {ws : List Word} {s : State} {i : Nat}, Keeps b0 s →
    Keeps b0 (s.writeWordsCmd op addr i ws)
  | [], s, _, h => State.complete_keeps s op _ _ h
  | w :: ws, s, i, h => by
    unfold State.writeWordsCmd
    split
    · exact State.complete_keeps s op _ _ h
    · have k := State.busWrite_keeps _ _ _ _ h _ (by assumption)
      split
      · exact State.writeWordsCmd_keeps (ws := ws) k
      · exact k

theorem State.regWriteCmd_keeps {b0 : State} (s : State) (op : Nat) (ps : Bytes) (hk : Keeps b0 s) : Keeps b0 (State.regWriteCmd s op ps) := by
  unfold State.regWriteCmd
  repeat' first
    | with_reducible assumption | (intro x; clear_value x) | lift_lets -underBinder
    | with_reducible first
        | apply State.complete_keeps | apply State.writeWordsCmd_keeps
        | (refine Keeps.ite (fun _ => ?_) (fun _ => ?_))

theorem State.memBytes_keeps {b0 : State} (s : State) (addr n : Nat) (hk : Keeps b0 s) : KeepsS b0 (State.memBytes s addr n) := by
  unfold State.memBytes
  repeat' first
    | with_reducible assumption | (intro x; clear_value x) | lift_lets -underBinder
    | with_reducible first
        | apply State.dataParity_keeps | (refine Keeps.ite (fun _ => ?_) (fun _ => ?_))
    | split

theorem State.memRead_keeps {b0 : State} (s : State) (op : Nat) (ps : Bytes) (hk : Keeps b0 s) : Keeps b0 (State.memRead s op ps) := by
  unfold State.memRead
  repeat' first
    | with_reducible assumption | (intro x; clear_value x) | lift_lets -underBinder
    | with_reducible first
        | apply State.complete_keeps | apply State.memBytes_keeps
        | exact KeepsS.get (State.memBytes_keeps _ _ _ (by assumption)) (by assumption)
        | (refine Keeps.ite (fun _ => ?_) (fun _ => ?_))
    | split

theorem State.runCmd_keeps {b0 : State} (s : State) (op : Nat) (ps : Bytes) (hk : Keeps b0 s) : Keeps b0 (State.runCmd s op ps) := by
  unfold State.runCmd
  repeat' first
    | with_reducible assumption
    | with_reducible first
        | apply State.complete_keeps | apply State.hostRun_keeps | (refine Keeps.ite (fun _ => ?_) (fun _ => ?_))

theorem State.stopCmd_keeps {b0 : State} (s : State) (op : Nat) (ps : Bytes) (hk : Keeps b0 s) : Keeps b0 (State.stopCmd s op ps) := by
  unfold State.stopCmd
  repeat' first
    | with_reducible assumption
    | with_reducible first
        | apply State.stopRequest_keeps | apply State.complete_keeps
        | (refine Keeps.ite (fun _ => ?_) (fun _ => ?_))

theorem State.resume_keeps {b0 : State} (s : State) (hk : Keeps b0 s) : Keeps b0 (State.resume s) := by
  unfold State.resume
  repeat' first
    | with_reducible assumption
    | (intro x; refine @Keeps.cut (Keeps b0 x) _ ?_ ?_ <;> [subst x; (intro _; clear_value x)])
    | (intro x; clear_value x) | lift_lets -underBinder
    | with_reducible first
        | apply State.endHold_keeps | apply State.setMode_keeps | apply State.reachRun_keeps
        | (refine Keeps.ite (fun _ => ?_) (fun _ => ?_))

theorem State.resumeCmd_keeps {b0 : State} (s : State) (op : Nat) (ps : Bytes) (hk : Keeps b0 s) : Keeps b0 (State.resumeCmd s op ps) := by
  unfold State.resumeCmd
  repeat' first
    | with_reducible assumption
    | (intro x; refine @Keeps.cut (Keeps b0 x) _ ?_ ?_ <;> [subst x; (intro _; clear_value x)])
    | lift_lets -underBinder
    | with_reducible first
        | apply State.complete_keeps | apply State.resume_keeps | (refine Keeps.ite (fun _ => ?_) (fun _ => ?_))

theorem State.acknowledgeCmd_keeps {b0 : State} (s : State) (op : Nat) (ps : Bytes) (hk : Keeps b0 s) : Keeps b0 (State.acknowledgeCmd s op ps) := by
  unfold State.acknowledgeCmd
  repeat' first
    | with_reducible assumption
    | (intro x; refine @Keeps.cut (Keeps b0 x) _ ?_ ?_ <;> [subst x; (intro _; clear_value x)])
    | lift_lets -underBinder
    | with_reducible first
        | apply State.complete_keeps | apply State.ackFrom_keeps | (refine Keeps.ite (fun _ => ?_) (fun _ => ?_))

theorem State.shutdownCmd_keeps {b0 : State} (s : State) (op : Nat) (ps : Bytes) (hk : Keeps b0 s) : Keeps b0 (State.shutdownCmd s op ps) := by
  unfold State.shutdownCmd
  repeat' first
    | with_reducible assumption | (intro x; clear_value x) | lift_lets -underBinder
    | with_reducible first
        | apply State.complete_keeps | apply State.journalTrigger_keeps
        | (refine Keeps.ite (fun _ => ?_) (fun _ => ?_)) | (refine Keeps.upd ?_; assumption)

theorem State.dispatchCmd_keeps {b0 : State} (s : State) (op : Nat) (ps : Bytes) (hk : Keeps b0 s) : Keeps b0 (State.dispatchCmd s op ps) := by
  unfold State.dispatchCmd
  repeat' first
    | with_reducible assumption
    | (intro x; refine @Keeps.cut (Keeps b0 x) _ ?_ ?_ <;> [subst x; (intro _; clear_value x)])
    | (intro x; clear_value x) | lift_lets -underBinder
    | with_reducible first
        | apply hx | apply State.complete_keeps | apply State.dispatch_keeps
        | (refine Keeps.ite (fun _ => ?_) (fun _ => ?_))

theorem State.burstCmd_keeps {b0 : State} (s : State) (op : Nat) (ps : Bytes) (hk : Keeps b0 s) : Keeps b0 (State.burstCmd s op ps) := by
  unfold State.burstCmd
  repeat' first
    | with_reducible assumption | (intro x; clear_value x) | lift_lets -underBinder
    | with_reducible first
        | apply State.complete_keeps | apply State.requestBurst_keeps
        | (refine Keeps.ite (fun _ => ?_) (fun _ => ?_)) | (refine Keeps.upd ?_; assumption)

theorem State.nodeConfigRead_keeps {b0 : State} (s : State) (op : Nat) (ps : Bytes) (hk : Keeps b0 s) : Keeps b0 (State.nodeConfigRead s op ps) := by
  unfold State.nodeConfigRead
  repeat' first
    | with_reducible assumption | (intro x; clear_value x) | lift_lets -underBinder
    | with_reducible first
        | apply State.complete_keeps | apply State.enqueue_keeps | apply State.pump_keeps
        | (refine Keeps.ite (fun _ => ?_) (fun _ => ?_))

theorem State.nodeStatus_keeps {b0 : State} (s : State) (op : Nat) (ps : Bytes) (hk : Keeps b0 s) : Keeps b0 (State.nodeStatus s op ps) := by
  unfold State.nodeStatus
  repeat' first
    | with_reducible assumption | (intro x; clear_value x) | lift_lets -underBinder
    | with_reducible first
        | apply State.complete_keeps | apply State.enqueue_keeps | apply State.pump_keeps
        | (refine Keeps.ite (fun _ => ?_) (fun _ => ?_))

theorem State.enumerateCmd_keeps {b0 : State} (s : State) (op : Nat) (ps : Bytes) (hk : Keeps b0 s) : Keeps b0 (State.enumerateCmd s op ps) := by
  unfold State.enumerateCmd
  repeat' first
    | with_reducible assumption | (intro x; clear_value x) | lift_lets -underBinder
    | with_reducible first
        | apply State.complete_keeps | apply State.enumerate_keeps | (refine Keeps.ite (fun _ => ?_) (fun _ => ?_))
        | (refine Keeps.upd ?_; assumption)

theorem State.learnedReset_keeps {b0 : State} (s : State) (op : Nat) (ps : Bytes) (hk : Keeps b0 s) : Keeps b0 (State.learnedReset s op ps) := by
  unfold State.learnedReset
  repeat' first
    | with_reducible assumption | (intro x; clear_value x) | lift_lets -underBinder
    | with_reducible first
        | apply State.complete_keeps | (refine Keeps.ite (fun _ => ?_) (fun _ => ?_))
        | (refine Keeps.upd ?_; assumption)

theorem State.estCmd_keeps {b0 : State} (s : State) (op : Nat) (ps : Bytes) (hk : Keeps b0 s) : Keeps b0 (State.estCmd s op ps) := by
  unfold State.estCmd
  repeat' first
    | with_reducible assumption
    | (intro x; refine @Keeps.cut (Keeps b0 x) _ ?_ ?_ <;> [subst x; (intro _; clear_value x)])
    | (intro x; clear_value x) | lift_lets -underBinder
    | with_reducible first
        | apply State.complete_keeps | apply State.wrN_keeps | apply State.estCommand_keeps
        | (refine Keeps.ite (fun _ => ?_) (fun _ => ?_)) | (refine Keeps.upd ?_; assumption)

theorem State.recorderRead_keeps {b0 : State} (s : State) (op : Nat) (ps : Bytes) (hk : Keeps b0 s) : Keeps b0 (State.recorderRead s op ps) := by
  unfold State.recorderRead
  repeat' first
    | with_reducible assumption | (intro x; clear_value x) | lift_lets -underBinder
    | with_reducible first
        | apply State.complete_keeps | (refine Keeps.ite (fun _ => ?_) (fun _ => ?_))

theorem State.configReadCmd_keeps {b0 : State} (s : State) (op : Nat) (ps : Bytes) (hk : Keeps b0 s) : Keeps b0 (State.configReadCmd s op ps) := by
  unfold State.configReadCmd
  repeat' first
    | with_reducible assumption | (intro x; clear_value x) | lift_lets -underBinder
    | with_reducible first
        | apply State.complete_keeps | (refine Keeps.ite (fun _ => ?_) (fun _ => ?_))
    | split

theorem State.configWriteCmd_keeps {b0 : State} (s : State) (op : Nat) (ps : Bytes) (hk : Keeps b0 s) : Keeps b0 (State.configWriteCmd s op ps) := by
  unfold State.configWriteCmd
  repeat' first
    | with_reducible assumption | (intro x; clear_value x) | lift_lets -underBinder
    | with_reducible first
        | apply State.complete_keeps | refine Keeps.foldl (fun _ _ _ => ?_) ?_
        | refine Keeps.foldl1 (fun _ _ _ => ?_) ?_ | (refine Keeps.ite (fun _ => ?_) (fun _ => ?_))
        | (refine Keeps.upd ?_; assumption)

theorem State.refuseCommit_keeps {b0 : State} (s : State) (op : Nat) (r : Refused) (hk : Keeps b0 s) : Keeps b0 (State.refuseCommit s op r) := by
  unfold State.refuseCommit
  repeat' first
    | with_reducible assumption
    | with_reducible first
        | apply State.reportRefused_keeps | apply State.complete_keeps

theorem State.configCommit_keeps {b0 : State} (s : State) (op : Nat) (ps : Bytes) (hk : Keeps b0 s) : Keeps b0 (State.configCommit s op ps) := by
  unfold State.configCommit
  repeat' first
    | with_reducible assumption
    | (intro x; refine @Keeps.cut (Keeps b0 x) _ ?_ ?_ <;> [subst x; (intro _; clear_value x)])
    | (intro x; clear_value x) | lift_lets -underBinder
    | with_reducible first
        | apply State.complete_keeps | apply State.refuseCommit_keeps | apply State.insoleStart_keeps
        | (refine Keeps.ite (fun _ => ?_) (fun _ => ?_)) | (refine Keeps.upd ?_; assumption)
    | split

theorem State.symbolRead_keeps {b0 : State} (s : State) (op : Nat) (ps : Bytes) (hk : Keeps b0 s) : Keeps b0 (State.symbolRead s op ps) := by
  unfold State.symbolRead
  repeat' first
    | with_reducible assumption | (intro x; clear_value x) | lift_lets -underBinder
    | with_reducible first
        | apply State.complete_keeps | (refine Keeps.ite (fun _ => ?_) (fun _ => ?_))
    | split

theorem State.awaitSnapshot_keeps {b0 : State} (s : State) (key op : Nat) (hk : Keeps b0 s) : Keeps b0 (State.awaitSnapshot s key op) := by
  unfold State.awaitSnapshot
  repeat' first
    | with_reducible assumption | (intro x; clear_value x) | lift_lets -underBinder
    | with_reducible first
        | (refine Keeps.upd ?_; assumption)

theorem State.symbolWrite_keeps {b0 : State} (s : State) (op : Nat) (ps : Bytes) (hk : Keeps b0 s) : Keeps b0 (State.symbolWrite s op ps) := by
  unfold State.symbolWrite
  repeat' first
    | with_reducible assumption | (intro x; clear_value x) | lift_lets -underBinder
    | with_reducible first
        | apply State.complete_keeps | apply State.awaitSnapshot_keeps | refine Keeps.foldl (fun _ _ _ => ?_) ?_
        | refine Keeps.foldl1 (fun _ _ _ => ?_) ?_ | (refine Keeps.ite (fun _ => ?_) (fun _ => ?_))
        | (refine Keeps.upd ?_; assumption)
    | split

theorem State.setForces_keeps {b0 : State} (s : State) (fs : List Force) (hk : Keeps b0 s) : Keeps b0 (State.setForces s fs) := by
  unfold State.setForces
  repeat' first
    | with_reducible assumption | (intro x; clear_value x) | lift_lets -underBinder
    | with_reducible first
        | apply State.setFld_keeps | (refine Keeps.upd ?_; assumption)

theorem State.forceSet_keeps {b0 : State} (s : State) (op : Nat) (ps : Bytes) (hk : Keeps b0 s) : Keeps b0 (State.forceSet s op ps) := by
  unfold State.forceSet
  repeat' first
    | with_reducible assumption | (intro x; clear_value x) | lift_lets -underBinder
    | with_reducible first
        | apply State.complete_keeps | apply State.setForces_keeps | apply State.awaitSnapshot_keeps
        | (refine Keeps.ite (fun _ => ?_) (fun _ => ?_))
    | split

theorem State.forceClear_keeps {b0 : State} (s : State) (op : Nat) (ps : Bytes) (hk : Keeps b0 s) : Keeps b0 (State.forceClear s op ps) := by
  unfold State.forceClear
  repeat' first
    | with_reducible assumption | (intro x; clear_value x) | lift_lets -underBinder
    | with_reducible first
        | apply State.complete_keeps | apply State.setForces_keeps | apply State.awaitSnapshot_keeps
        | (refine Keeps.ite (fun _ => ?_) (fun _ => ?_))

theorem State.forceList_keeps {b0 : State} (s : State) (op : Nat) (ps : Bytes) (hk : Keeps b0 s) : Keeps b0 (State.forceList s op ps) := by
  unfold State.forceList
  repeat' first
    | with_reducible assumption | (intro x; clear_value x) | lift_lets -underBinder
    | with_reducible first
        | apply hx | apply State.answer_keeps

theorem State.changeCmd_keeps {b0 : State} (s : State) (op : Nat) (ps : Bytes) (hk : Keeps b0 s) : Keeps b0 (State.changeCmd s op ps) := by
  unfold State.changeCmd
  repeat' first
    | with_reducible assumption | (intro x; clear_value x) | lift_lets -underBinder
    | with_reducible first
        | apply State.complete_keeps | apply State.requestChange_keeps
        | (refine Keeps.ite (fun _ => ?_) (fun _ => ?_)) | (refine Keeps.upd ?_; assumption)

theorem State.cancelBurst_keeps {b0 : State} (s : State) (op : Nat) (seq queued : Bool) (hk : Keeps b0 s) : Keeps b0 (State.cancelBurst s op seq queued) := by
  unfold State.cancelBurst
  repeat' first
    | with_reducible assumption
    | (intro x; refine @Keeps.cut (Keeps b0 x) _ ?_ ?_ <;> [subst x; (intro _; clear_value x)])
    | (intro x; clear_value x) | lift_lets -underBinder
    | with_reducible first
        | apply State.complete_keeps | apply State.nextBand_keeps | apply State.burstAbort_keeps
        | (refine Keeps.ite (fun _ => ?_) (fun _ => ?_)) | (refine Keeps.upd ?_; assumption)

theorem State.cancelOp_keeps {b0 : State} (s : State) (op : Nat) (hk : Keeps b0 s) : KeepsO b0 (State.cancelOp s op) := by
  unfold State.cancelOp
  repeat' first
    | with_reducible assumption | (intro x; clear_value x) | lift_lets -underBinder
    | with_reducible first
        | exact KeepsO.none | apply KeepsO.some | refine KeepsO.map (fun _ => ?_) | apply State.cancelBurst_keeps
        | apply State.complete_keeps | apply State.abortChange_keeps
        | (refine Keeps.ite (fun _ => ?_) (fun _ => ?_)) | (refine Keeps.upd ?_; assumption)
    | split

theorem State.cancelCmd_keeps {b0 : State} (s : State) (i op : Nat) (ps : Bytes) (hk : Keeps b0 s) : Keeps b0 (State.cancelCmd s i op ps) := by
  unfold State.cancelCmd
  repeat' first
    | with_reducible assumption | (intro x; clear_value x) | lift_lets -underBinder
    | with_reducible first
        | apply State.complete_keeps | apply State.cancelOp_keeps
        | exact KeepsO.get (State.cancelOp_keeps _ _ (by assumption)) (by assumption)
        | (refine Keeps.ite (fun _ => ?_) (fun _ => ?_))
    | split

theorem State.byeCmd_keeps {b0 : State} (s : State) (i op : Nat) (ps : Bytes) (hk : Keeps b0 s) : Keeps b0 (State.byeCmd s i op ps) := by
  unfold State.byeCmd
  repeat' first
    | with_reducible assumption
    | with_reducible first
        | apply State.complete_keeps | apply State.closeSession_keeps
        | (refine Keeps.ite (fun _ => ?_) (fun _ => ?_))

theorem State.imageBeginCmd_keeps {b0 : State} (s : State) (op : Nat) (ps : Bytes) (hk : Keeps b0 s) : Keeps b0 (State.imageBeginCmd s op ps) := by
  unfold State.imageBeginCmd
  repeat' first
    | with_reducible assumption
    | with_reducible first
        | apply State.complete_keeps | apply State.imageBegin_keeps | (refine Keeps.ite (fun _ => ?_) (fun _ => ?_))

theorem State.imageBlockCmd_keeps {b0 : State} (s : State) (op : Nat) (ps : Bytes) (hk : Keeps b0 s) : Keeps b0 (State.imageBlockCmd s op ps) := by
  unfold State.imageBlockCmd
  repeat' first
    | with_reducible assumption
    | with_reducible first
        | apply State.complete_keeps | apply State.imageBlock_keeps | (refine Keeps.ite (fun _ => ?_) (fun _ => ?_))

theorem State.imageVerifyCmd_keeps {b0 : State} (s : State) (op : Nat) (ps : Bytes) (hk : Keeps b0 s) : Keeps b0 (State.imageVerifyCmd s op ps) := by
  unfold State.imageVerifyCmd
  repeat' first
    | with_reducible assumption
    | with_reducible first
        | apply State.complete_keeps | apply State.imageVerify_keeps
        | (refine Keeps.ite (fun _ => ?_) (fun _ => ?_))

theorem State.imageAbortCmd_keeps {b0 : State} (s : State) (op : Nat) (ps : Bytes) (hk : Keeps b0 s) : Keeps b0 (State.imageAbortCmd s op ps) := by
  unfold State.imageAbortCmd
  repeat' first
    | with_reducible assumption
    | with_reducible first
        | apply State.complete_keeps | apply State.imageAbort_keeps | (refine Keeps.ite (fun _ => ?_) (fun _ => ?_))

theorem State.ownerOpen_keeps {b0 : State} (s : State) (i op : Nat) (ps : Bytes) (hk : Keeps b0 s) : Keeps b0 (State.ownerOpen s i op ps) := by
  unfold State.ownerOpen
  repeat' first
    | with_reducible assumption
    | (intro x; refine @Keeps.cut (Keeps b0 x) _ ?_ ?_ <;> [subst x; (intro _; clear_value x)])
    | (intro x; refine @Keeps.cut (Keeps b0 x.2) _ ?_ ?_ <;> [subst x; (intro _; clear_value x)])
    | (intro x; clear_value x) | lift_lets -underBinder
    | with_reducible first
        | apply State.complete_keeps | apply State.freeBytes_keeps | (refine Keeps.ite (fun _ => ?_) (fun _ => ?_))
        | (refine Keeps.upd ?_; assumption)

theorem State.dropNonce_keeps {b0 : State} (s : State) (i : Nat) (hk : Keeps b0 s) : Keeps b0 (State.dropNonce s i) := by
  unfold State.dropNonce
  repeat' first
    | with_reducible assumption | (intro x; clear_value x) | lift_lets -underBinder
    | with_reducible first
        | (refine Keeps.upd ?_; assumption)

theorem State.ownerEnrol_keeps {b0 : State} (s : State) (i op : Nat) (ps : Bytes) (hk : Keeps b0 s) : Keeps b0 (State.ownerEnrol s i op ps) := by
  unfold State.ownerEnrol
  repeat' first
    | with_reducible assumption
    | (intro x; refine @Keeps.cut (Keeps b0 x) _ ?_ ?_ <;> [subst x; (intro _; clear_value x)])
    | (intro x; clear_value x) | lift_lets -underBinder
    | with_reducible first
        | apply State.complete_keeps | apply State.storeDevice_keeps | apply State.setBit_keeps
        | (refine Keeps.ite (fun _ => ?_) (fun _ => ?_)) | (refine Keeps.upd ?_; assumption)

theorem State.openOwner_keeps {b0 : State} (s : State) (i op : Nat) (nonce sig : Bytes) (hk : Keeps b0 s) : Keeps b0 (State.openOwner s i op nonce sig) := by
  unfold State.openOwner
  repeat' first
    | with_reducible assumption
    | (intro x; refine @Keeps.cut (Keeps b0 x) _ ?_ ?_ <;> [subst x; (intro _; clear_value x)])
    | (intro x; clear_value x) | lift_lets -underBinder
    | with_reducible first
        | apply State.drawn_keeps | apply State.setFld_keeps | apply State.setBit_keeps
        | apply State.sessionEvent_keeps | apply State.complete_keeps | (refine Keeps.upd ?_; assumption)

theorem State.ownerAuth_keeps {b0 : State} (s : State) (i op : Nat) (ps : Bytes) (hk : Keeps b0 s) : Keeps b0 (State.ownerAuth s i op ps) := by
  unfold State.ownerAuth
  repeat' first
    | with_reducible assumption
    | (intro x; refine @Keeps.cut (Keeps b0 x) _ ?_ ?_ <;> [subst x; (intro _; clear_value x)])
    | lift_lets -underBinder
    | with_reducible first
        | apply State.complete_keeps | apply State.dropNonce_keeps | apply State.openOwner_keeps
        | (refine Keeps.ite (fun _ => ?_) (fun _ => ?_))
    | split

theorem State.weltChanged_keeps {b0 : State} (s : State) (c : Nat) (hk : Keeps b0 s) : Keeps b0 (State.weltChanged s c) := by
  unfold State.weltChanged
  repeat' first
    | with_reducible assumption
    | (intro x; refine @Keeps.cut (Keeps b0 x) _ ?_ ?_ <;> [subst x; (intro _; clear_value x)])
    | (intro x; clear_value x) | lift_lets -underBinder
    | with_reducible first
        | apply State.setWeltConn_keeps | apply State.setWeltState_keeps | apply State.weltArming_keeps
        | (refine Keeps.ite (fun _ => ?_) (fun _ => ?_))

theorem State.activateSet_keeps {b0 : State} (s : State) (items : CfgItems) (bytes : Bytes) (hk : Keeps b0 s) : Keeps b0 (State.activateSet s items bytes) := by
  unfold State.activateSet
  repeat' first
    | with_reducible assumption
    | (intro x; refine @Keeps.cut (Keeps b0 x) _ ?_ ?_ <;> [subst x; (intro _; clear_value x)])
    | (intro x; clear_value x) | lift_lets -underBinder
    | with_reducible first
        | apply State.loadSafety_keeps | apply State.insoleStart_keeps | apply State.weltChanged_keeps
        | apply State.loadWelt_keeps | refine Keeps.foldl (fun _ _ _ => ?_) ?_
        | refine Keeps.foldl1 (fun _ _ _ => ?_) ?_ | (refine Keeps.upd ?_; assumption)

theorem State.setStage_keeps {b0 : State} (s : State) (p : ParamStage) (hk : Keeps b0 s) : Keeps b0 (State.setStage s p) := by
  unfold State.setStage
  repeat' first
    | with_reducible assumption | (intro x; clear_value x) | lift_lets -underBinder
    | with_reducible first
        | (refine Keeps.upd ?_; assumption)

theorem State.paramBegin_keeps {b0 : State} (s : State) (d : Bytes) (hk : Keeps b0 s) : KeepsF b0 (State.paramBegin s d) := by
  unfold State.paramBegin
  repeat' first
    | with_reducible assumption | (intro x; clear_value x) | lift_lets -underBinder
    | with_reducible first
        | apply State.setStage_keeps | (refine Keeps.ite (fun _ => ?_) (fun _ => ?_))
    | split

theorem State.paramChunk_keeps {b0 : State} (s : State) (d : Bytes) (hk : Keeps b0 s) : KeepsF b0 (State.paramChunk s d) := by
  unfold State.paramChunk
  repeat' first
    | with_reducible assumption | (intro x; clear_value x) | lift_lets -underBinder
    | with_reducible first
        | apply State.setStage_keeps | (refine Keeps.ite (fun _ => ?_) (fun _ => ?_))
    | split

theorem State.paramCheck_keeps {b0 : State} (s : State) (hk : Keeps b0 s) : KeepsF b0 (State.paramCheck s) := by
  unfold State.paramCheck
  repeat' first
    | with_reducible assumption | (intro x; clear_value x) | lift_lets -underBinder
    | with_reducible first
        | apply State.setStage_keeps | (refine Keeps.ite (fun _ => ?_) (fun _ => ?_))
    | split

theorem State.paramConfirm_keeps {b0 : State} (s : State) (d : Bytes) (hk : Keeps b0 s) : KeepsF b0 (State.paramConfirm s d) := by
  unfold State.paramConfirm
  repeat' first
    | with_reducible assumption | (intro x; clear_value x) | lift_lets -underBinder
    | with_reducible first
        | apply State.activateSet_keeps | (refine Keeps.ite (fun _ => ?_) (fun _ => ?_))
    | split

theorem State.lockSet_keeps {b0 : State} (s : State) (d : Bytes) (hk : Keeps b0 s) : KeepsF b0 (State.lockSet s d) := by
  unfold State.lockSet
  repeat' first
    | with_reducible assumption
    | (intro x; refine @Keeps.cut (Keeps b0 x) _ ?_ ?_ <;> [subst x; (intro _; clear_value x)])
    | (intro x; clear_value x) | lift_lets -underBinder
    | with_reducible first
        | apply State.storeDevice_keeps | apply State.showBanks_keeps | apply State.setBit_keeps
        | (refine Keeps.upd ?_; assumption)

theorem State.ownerSub_keeps {b0 : State} (s : State) (d : Bytes) (hk : Keeps b0 s) : KeepsF b0 (State.ownerSub s d) := by
  unfold State.ownerSub
  repeat' first
    | with_reducible assumption | lift_lets -underBinder
    | with_reducible first
        | apply State.paramBegin_keeps | apply State.paramChunk_keeps | apply State.paramCheck_keeps
        | apply State.paramConfirm_keeps | apply State.lockSet_keeps
        | exact KeepsF.get (State.paramBegin_keeps _ _ (by assumption)) (by assumption)
        | exact KeepsF.get (State.paramChunk_keeps _ _ (by assumption)) (by assumption)
        | exact KeepsF.get (State.paramCheck_keeps _ (by assumption)) (by assumption)
        | exact KeepsF.get (State.paramConfirm_keeps _ _ (by assumption)) (by assumption)
        | exact KeepsF.get (State.lockSet_keeps _ _ (by assumption)) (by assumption)
        | (refine Keeps.ite (fun _ => ?_) (fun _ => ?_))
    | split

theorem State.failOwner_keeps {b0 : State} (s : State) (op code : Nat) (hk : Keeps b0 s) : Keeps b0 (State.failOwner s op code) := by
  unfold State.failOwner
  repeat' first
    | with_reducible assumption
    | with_reducible first
        | apply State.complete_keeps | apply State.endOwner_keeps

theorem State.ownerCheckFail_keeps {b0 : State} (s : State) (op : Nat) (w : OwnerSession) (hk : Keeps b0 s) : Keeps b0 (State.ownerCheckFail s op w) := by
  unfold State.ownerCheckFail
  repeat' first
    | with_reducible assumption | (intro x; clear_value x) | lift_lets -underBinder
    | with_reducible first
        | apply State.failOwner_keeps | apply State.complete_keeps | (refine Keeps.ite (fun _ => ?_) (fun _ => ?_))
        | (refine Keeps.upd ?_; assumption)

theorem State.ownerTake_keeps {b0 : State} (s : State) (op : Nat) (w : OwnerSession) (p : Bytes) (hk : Keeps b0 s) : Keeps b0 (State.ownerTake s op w p) := by
  unfold State.ownerTake
  repeat' first
    | with_reducible assumption
    | (intro x; refine @Keeps.cut (Keeps b0 x) _ ?_ ?_ <;> [subst x; (intro _; clear_value x)])
    | (intro x; refine @Keeps.cut (Keeps b0 x.1) _ ?_ ?_ <;> [subst x; (intro _; clear_value x)])
    | (intro x; clear_value x) | lift_lets -underBinder
    | with_reducible first
        | apply State.ownerSub_keeps | apply State.complete_keeps | apply State.endOwner_keeps
        | (refine Keeps.ite (fun _ => ?_) (fun _ => ?_)) | (refine Keeps.upd ?_; assumption)

theorem State.ownerCmd_keeps {b0 : State} (s : State) (i op : Nat) (p : Bytes) (hk : Keeps b0 s) : Keeps b0 (State.ownerCmd s i op p) := by
  unfold State.ownerCmd
  repeat' first
    | with_reducible assumption | (intro x; clear_value x) | lift_lets -underBinder
    | with_reducible first
        | apply State.complete_keeps | apply State.failOwner_keeps | apply State.ownerCheckFail_keeps
        | apply State.ownerTake_keeps | (refine Keeps.ite (fun _ => ?_) (fun _ => ?_))
    | split

theorem execWeltWatchdogTimeout_keeps {b0 : State} (c : Nat) (s : State) (hk : Keeps b0 s) : KeepsE b0 (execWeltWatchdogTimeout c s) := by
  unfold execWeltWatchdogTimeout
  repeat' first
    | with_reducible assumption
    | with_reducible first
        | apply KeepsE.next | apply State.weltTimeout_keeps | apply State.endOwner_keeps
        | (refine Keeps.ite (fun _ => ?_) (fun _ => ?_))

theorem State.runOp_keeps {b0 : State} (s : State) (i op : Nat) (p : CmdPacket) (hk : Keeps b0 s) : Keeps b0 (State.runOp s i op p) := by
  unfold State.runOp
  repeat' first
    | with_reducible assumption | (intro x; clear_value x) | lift_lets -underBinder
    | with_reducible first
        | apply State.complete_keeps | apply State.byeCmd_keeps | apply State.cancelCmd_keeps
        | apply State.deviceInfo_keeps | apply State.stateRead_keeps | apply State.tableInfo_keeps
        | apply State.regReadCmd_keeps | apply State.regWriteCmd_keeps | apply State.memRead_keeps
        | apply State.runCmd_keeps | apply State.stopCmd_keeps | apply State.resumeCmd_keeps
        | apply State.acknowledgeCmd_keeps | apply State.shutdownCmd_keeps | apply State.dispatchCmd_keeps
        | apply State.burstCmd_keeps | apply State.symbolRead_keeps | apply State.symbolWrite_keeps
        | apply State.forceSet_keeps | apply State.forceClear_keeps | apply State.forceList_keeps
        | apply State.changeCmd_keeps | apply State.nodeConfigRead_keeps | apply State.nodeStatus_keeps
        | apply State.enumerateCmd_keeps | apply State.learnedReset_keeps | apply State.estCmd_keeps
        | apply State.imageBeginCmd_keeps | apply State.imageBlockCmd_keeps | apply State.imageVerifyCmd_keeps
        | apply State.imageAbortCmd_keeps | apply State.recorderRead_keeps | apply State.configReadCmd_keeps
        | apply State.configWriteCmd_keeps | apply State.configCommit_keeps | apply State.ownerEnrol_keeps
        | apply State.ownerOpen_keeps | apply State.ownerAuth_keeps | apply State.ownerCmd_keeps
        | (refine Keeps.ite (fun _ => ?_) (fun _ => ?_))
    | split

theorem State.acceptCmd_keeps {b0 : State} (s : State) (i : Nat) (p : CmdPacket) (hk : Keeps b0 s) : Keeps b0 (State.acceptCmd s i p) := by
  unfold State.acceptCmd
  repeat' first
    | with_reducible assumption
    | (intro x; refine @Keeps.cut (Keeps b0 x) _ ?_ ?_ <;> [subst x; (intro _; clear_value x)])
    | (intro x; clear_value x) | lift_lets -underBinder
    | with_reducible first
        | apply State.violate_keeps | apply State.setSession_keeps | apply State.reply_keeps
        | apply State.runOp_keeps | (refine Keeps.ite (fun _ => ?_) (fun _ => ?_))
        | (refine Keeps.upd ?_; assumption)
    | split

theorem State.drainHeld_keeps {b0 : State} {i : Nat} : ∀ {n : Nat} {s : State}, Keeps b0 s → Keeps b0 (s.drainHeld i n)
  | 0, _, h => h
  | n + 1, s, h => by
    unfold State.drainHeld
    repeat' with_reducible first
        | assumption | apply State.drainHeld_keeps (n := n) | apply State.acceptCmd_keeps | apply State.setSession_keeps
        | (intro x; refine @Keeps.cut (Keeps b0 x) _ ?_ ?_ <;> [subst x; (intro _; clear_value x)]) | split

theorem State.duplicateCmd_keeps {b0 : State} (s : State) (i : Nat) (v : Session) (p : CmdPacket) (hk : Keeps b0 s) : Keeps b0 (State.duplicateCmd s i v p) := by
  unfold State.duplicateCmd
  repeat' first
    | with_reducible assumption | (intro x; clear_value x) | lift_lets -underBinder
    | with_reducible first
        | apply State.reply_keeps | apply State.setSession_keeps | (refine Keeps.ite (fun _ => ?_) (fun _ => ?_))
    | split

theorem State.sequenceCmd_keeps {b0 : State} (s : State) (i : Nat) (p : CmdPacket) (hk : Keeps b0 s) : Keeps b0 (State.sequenceCmd s i p) := by
  unfold State.sequenceCmd
  repeat' first
    | with_reducible assumption
    | (intro x; refine @Keeps.cut (Keeps b0 x) _ ?_ ?_ <;> [subst x; (intro _; clear_value x)])
    | (intro x; clear_value x) | lift_lets -underBinder
    | with_reducible first
        | apply State.setSession_keeps | apply State.violate_keeps | apply State.acceptCmd_keeps
        | apply State.drainHeld_keeps | apply State.reply_keeps | apply State.duplicateCmd_keeps
        | (refine Keeps.ite (fun _ => ?_) (fun _ => ?_))
    | split

theorem State.bareReply_keeps {b0 : State} (s : State) (p : CmdPacket) (version status : Nat) (body : Bytes) (hk : Keeps b0 s) : Keeps b0 (State.bareReply s p version status body) := by
  unfold State.bareReply
  repeat' first
    | with_reducible assumption | (intro x; clear_value x) | lift_lets -underBinder
    | with_reducible first
        | apply State.transmit_keeps

theorem State.queryReply_keeps {b0 : State} (s : State) (at_ : Option Nat) (p : CmdPacket) (status : Nat) (body : Bytes) (hk : Keeps b0 s) : Keeps b0 (State.queryReply s at_ p status body) := by
  unfold State.queryReply
  repeat' first
    | with_reducible assumption | lift_lets -underBinder
    | with_reducible first
        | apply State.reply_keeps | apply State.bareReply_keeps | (refine Keeps.ite (fun _ => ?_) (fun _ => ?_))
    | split

theorem State.bindSession_keeps {b0 : State} (s : State) (p : CmdPacket) (i version : Nat) (v : Session) (hk : Keeps b0 s) : Keeps b0 (State.bindSession s p i version v) := by
  unfold State.bindSession
  repeat' first
    | with_reducible assumption
    | (intro x; refine @Keeps.cut (Keeps b0 x) _ ?_ ?_ <;> [subst x; (intro _; clear_value x)])
    | lift_lets -underBinder
    | with_reducible first
        | apply State.setSession_keeps | (refine Keeps.ite (fun _ => ?_) (fun _ => ?_))
    | split

theorem State.hello_keeps {b0 : State} (s : State) (p : CmdPacket) (hk : Keeps b0 s) : Keeps b0 (State.hello s p) := by
  unfold State.hello
  repeat' first
    | with_reducible assumption
    | (intro x; refine @Keeps.cut (Keeps b0 x) _ ?_ ?_ <;> [subst x; (intro _; clear_value x)])
    | (intro x; clear_value x) | lift_lets -underBinder
    | with_reducible first
        | apply State.queryReply_keeps | apply State.sessionEvent_keeps | apply State.bareReply_keeps
        | apply State.dropSession_keeps | apply State.bindSession_keeps | apply State.reply_keeps
        | (refine Keeps.ite (fun _ => ?_) (fun _ => ?_))
    | split

theorem State.resultRead_keeps {b0 : State} (s : State) (i : Nat) (v : Session) (p : CmdPacket) (hk : Keeps b0 s) : Keeps b0 (State.resultRead s i v p) := by
  unfold State.resultRead
  repeat' first
    | with_reducible assumption | (intro x; clear_value x) | lift_lets -underBinder
    | with_reducible first
        | apply State.queryReply_keeps | apply State.reply_keeps | apply State.setSession_keeps
        | (refine Keeps.ite (fun _ => ?_) (fun _ => ?_))
    | split

theorem State.seqState_keeps {b0 : State} (s : State) (i : Nat) (v : Session) (p : CmdPacket) (hk : Keeps b0 s) : Keeps b0 (State.seqState s i v p) := by
  unfold State.seqState
  repeat' first
    | with_reducible assumption
    | with_reducible first
        | apply State.queryReply_keeps | (refine Keeps.ite (fun _ => ?_) (fun _ => ?_))

theorem State.ping_keeps {b0 : State} (s : State) (i : Nat) (p : CmdPacket) (hk : Keeps b0 s) : Keeps b0 (State.ping s i p) := by
  unfold State.ping
  repeat' first
    | with_reducible assumption
    | with_reducible first
        | apply State.queryReply_keeps | (refine Keeps.ite (fun _ => ?_) (fun _ => ?_))

theorem State.query_keeps {b0 : State} (s : State) (i : Nat) (v : Session) (p : CmdPacket) (hk : Keeps b0 s) : Keeps b0 (State.query s i v p) := by
  unfold State.query
  repeat' first
    | with_reducible assumption | lift_lets -underBinder
    | with_reducible first
        | apply State.queryReply_keeps | apply State.resultRead_keeps | apply State.seqState_keeps
        | apply State.ping_keeps | (refine Keeps.ite (fun _ => ?_) (fun _ => ?_))
    | split

theorem State.admitBound_keeps {b0 : State} (s : State) (i : Nat) (v : Session) (p : CmdPacket) (badForm : Bool) (hk : Keeps b0 s) : KeepsS b0 (State.admitBound s i v p badForm) := by
  unfold State.admitBound
  repeat' first
    | with_reducible assumption
    | (intro x; refine @Keeps.cut (Keeps b0 x) _ ?_ ?_ <;> [subst x; (intro _; clear_value x)])
    | lift_lets -underBinder
    | with_reducible first
        | apply State.incFld_keeps | apply State.setSession_keeps | apply State.violate_keeps
        | (refine Keeps.ite (fun _ => ?_) (fun _ => ?_))
    | split

theorem State.letThrough_keeps {b0 : State} (s : State) (p : CmdPacket) (crcOk badForm : Bool) (hk : Keeps b0 s) : KeepsS b0 (State.letThrough s p crcOk badForm) := by
  unfold State.letThrough
  repeat' first
    | with_reducible assumption | lift_lets -underBinder
    | with_reducible first
        | apply State.incFld_keeps | apply State.admitBound_keeps | apply State.bareReply_keeps
        | apply State.flag_keeps | apply State.strobe_keeps
        | exact KeepsS.get (State.admitBound_keeps _ _ _ _ _ (by assumption)) (by assumption)
        | (refine Keeps.ite (fun _ => ?_) (fun _ => ?_))
    | split

theorem State.takePacket_keeps {b0 : State} (s : State) (p : CmdPacket) (hk : Keeps b0 s) : Keeps b0 (State.takePacket s p) := by
  unfold State.takePacket
  repeat' first
    | with_reducible assumption
    | (intro x; refine @Keeps.cut (Keeps b0 x) _ ?_ ?_ <;> [subst x; (intro _; clear_value x)])
    | (intro x; clear_value x) | lift_lets -underBinder
    | with_reducible first
        | apply State.hello_keeps | apply State.setSession_keeps | apply State.query_keeps
        | apply State.sequenceCmd_keeps | (refine Keeps.ite (fun _ => ?_) (fun _ => ?_))
    | split

theorem State.receive_keeps {b0 : State} (s : State) (p : CmdPacket) (hk : Keeps b0 s) : Keeps b0 (State.receive s p) := by
  unfold State.receive
  repeat' first
    | with_reducible assumption
    | (intro x; refine @Keeps.cut (Keeps b0 x.2) _ ?_ ?_ <;> [subst x; (intro _; clear_value x)])
    | lift_lets -underBinder
    | with_reducible first
        | apply State.letThrough_keeps | apply State.takePacket_keeps
        | (refine Keeps.ite (fun _ => ?_) (fun _ => ?_))

theorem State.receiveOp_keeps {b0 : State} (s : State) (p : CmdPacket) (opcode : Nat) (hk : Keeps b0 s) : KeepsE b0 (State.receiveOp s p opcode) := by
  unfold State.receiveOp
  repeat' first
    | with_reducible assumption
    | with_reducible first
        | apply KeepsE.next | apply State.receive_keeps | (refine Keeps.ite (fun _ => ?_) (fun _ => ?_))

theorem execCmdInvalidPacket_keeps {b0 : State} (uart ipv6 : Bool) (peer port : Nat) (bytes : Bytes) (s : State) (hk : Keeps b0 s) : KeepsE b0 (execCmdInvalidPacket uart ipv6 peer port bytes s) := by
  unfold execCmdInvalidPacket
  repeat' first
    | with_reducible assumption
    | (intro x; refine @Keeps.cut (Keeps b0 x.2) _ ?_ ?_ <;> [subst x; (intro _; clear_value x)])
    | lift_lets -underBinder
    | with_reducible first
        | apply KeepsE.next | apply State.letThrough_keeps | (refine Keeps.ite (fun _ => ?_) (fun _ => ?_))

theorem State.skipHeld_keeps {b0 : State} (s : State) (i : Nat) (q : CmdPacket) (hk : Keeps b0 s) : Keeps b0 (State.skipHeld s i q) := by
  unfold State.skipHeld
  repeat' first
    | with_reducible assumption
    | with_reducible first
        | apply State.reply_keeps | apply State.incFld_keeps

theorem execCmdHoldTimeout_keeps {b0 : State} (i : Nat) (s : State) (hk : Keeps b0 s) : KeepsE b0 (execCmdHoldTimeout i s) := by
  unfold execCmdHoldTimeout
  repeat' first
    | with_reducible assumption
    | (intro x; refine @Keeps.cut (Keeps b0 x) _ ?_ ?_ <;> [subst x; (intro _; clear_value x)])
    | (intro x; clear_value x) | lift_lets -underBinder
    | with_reducible first
        | apply KeepsE.next | apply hx | apply State.setSession_keeps | apply State.skipHeld_keeps
        | apply State.countViolation_keeps | refine Keeps.foldl (fun _ _ _ => ?_) ?_
        | refine Keeps.foldl1 (fun _ _ _ => ?_) ?_ | (refine Keeps.ite (fun _ => ?_) (fun _ => ?_))
    | split

theorem execCmdHello_keeps {b0 : State} (p : CmdPacket) (s : State) (hk : Keeps b0 s) : KeepsE b0 (execCmdHello p s) := by
  unfold execCmdHello
  repeat' first
    | with_reducible assumption
    | with_reducible first
        | apply KeepsE.next | apply State.receiveOp_keeps

theorem execCmdBye_keeps {b0 : State} (p : CmdPacket) (s : State) (hk : Keeps b0 s) : KeepsE b0 (execCmdBye p s) := by
  unfold execCmdBye
  repeat' first
    | with_reducible assumption
    | with_reducible first
        | apply KeepsE.next | apply State.receiveOp_keeps

theorem execCmdResultRead_keeps {b0 : State} (p : CmdPacket) (s : State) (hk : Keeps b0 s) : KeepsE b0 (execCmdResultRead p s) := by
  unfold execCmdResultRead
  repeat' first
    | with_reducible assumption
    | with_reducible first
        | apply KeepsE.next | apply State.receiveOp_keeps

theorem execCmdSeqState_keeps {b0 : State} (p : CmdPacket) (s : State) (hk : Keeps b0 s) : KeepsE b0 (execCmdSeqState p s) := by
  unfold execCmdSeqState
  repeat' first
    | with_reducible assumption
    | with_reducible first
        | apply KeepsE.next | apply State.receiveOp_keeps

theorem execCmdPing_keeps {b0 : State} (p : CmdPacket) (s : State) (hk : Keeps b0 s) : KeepsE b0 (execCmdPing p s) := by
  unfold execCmdPing
  repeat' first
    | with_reducible assumption
    | with_reducible first
        | apply KeepsE.next | apply State.receiveOp_keeps

theorem execCmdCancel_keeps {b0 : State} (p : CmdPacket) (s : State) (hk : Keeps b0 s) : KeepsE b0 (execCmdCancel p s) := by
  unfold execCmdCancel
  repeat' first
    | with_reducible assumption
    | with_reducible first
        | apply KeepsE.next | apply State.receiveOp_keeps

theorem execCmdDeviceInfo_keeps {b0 : State} (p : CmdPacket) (s : State) (hk : Keeps b0 s) : KeepsE b0 (execCmdDeviceInfo p s) := by
  unfold execCmdDeviceInfo
  repeat' first
    | with_reducible assumption
    | with_reducible first
        | apply KeepsE.next | apply State.receiveOp_keeps

theorem execCmdStateRead_keeps {b0 : State} (p : CmdPacket) (s : State) (hk : Keeps b0 s) : KeepsE b0 (execCmdStateRead p s) := by
  unfold execCmdStateRead
  repeat' first
    | with_reducible assumption
    | with_reducible first
        | apply KeepsE.next | apply State.receiveOp_keeps

theorem execCmdTableInfo_keeps {b0 : State} (p : CmdPacket) (s : State) (hk : Keeps b0 s) : KeepsE b0 (execCmdTableInfo p s) := by
  unfold execCmdTableInfo
  repeat' first
    | with_reducible assumption
    | with_reducible first
        | apply KeepsE.next | apply State.receiveOp_keeps

theorem execCmdRegRead_keeps {b0 : State} (p : CmdPacket) (s : State) (hk : Keeps b0 s) : KeepsE b0 (execCmdRegRead p s) := by
  unfold execCmdRegRead
  repeat' first
    | with_reducible assumption
    | with_reducible first
        | apply KeepsE.next | apply State.receiveOp_keeps

theorem execCmdRegWrite_keeps {b0 : State} (p : CmdPacket) (s : State) (hk : Keeps b0 s) : KeepsE b0 (execCmdRegWrite p s) := by
  unfold execCmdRegWrite
  repeat' first
    | with_reducible assumption
    | with_reducible first
        | apply KeepsE.next | apply State.receiveOp_keeps

theorem execCmdMemRead_keeps {b0 : State} (p : CmdPacket) (s : State) (hk : Keeps b0 s) : KeepsE b0 (execCmdMemRead p s) := by
  unfold execCmdMemRead
  repeat' first
    | with_reducible assumption
    | with_reducible first
        | apply KeepsE.next | apply State.receiveOp_keeps

theorem execCmdRun_keeps {b0 : State} (p : CmdPacket) (s : State) (hk : Keeps b0 s) : KeepsE b0 (execCmdRun p s) := by
  unfold execCmdRun
  repeat' first
    | with_reducible assumption
    | with_reducible first
        | apply KeepsE.next | apply State.receiveOp_keeps

theorem execCmdStop_keeps {b0 : State} (p : CmdPacket) (s : State) (hk : Keeps b0 s) : KeepsE b0 (execCmdStop p s) := by
  unfold execCmdStop
  repeat' first
    | with_reducible assumption
    | with_reducible first
        | apply KeepsE.next | apply State.receiveOp_keeps

theorem execCmdResume_keeps {b0 : State} (p : CmdPacket) (s : State) (hk : Keeps b0 s) : KeepsE b0 (execCmdResume p s) := by
  unfold execCmdResume
  repeat' first
    | with_reducible assumption
    | with_reducible first
        | apply KeepsE.next | apply State.receiveOp_keeps

theorem execCmdAcknowledge_keeps {b0 : State} (p : CmdPacket) (s : State) (hk : Keeps b0 s) : KeepsE b0 (execCmdAcknowledge p s) := by
  unfold execCmdAcknowledge
  repeat' first
    | with_reducible assumption
    | with_reducible first
        | apply KeepsE.next | apply State.receiveOp_keeps

theorem execCmdShutdown_keeps {b0 : State} (p : CmdPacket) (s : State) (hk : Keeps b0 s) : KeepsE b0 (execCmdShutdown p s) := by
  unfold execCmdShutdown
  repeat' first
    | with_reducible assumption
    | with_reducible first
        | apply KeepsE.next | apply State.receiveOp_keeps

theorem execCmdDispatch_keeps {b0 : State} (p : CmdPacket) (s : State) (hk : Keeps b0 s) : KeepsE b0 (execCmdDispatch p s) := by
  unfold execCmdDispatch
  repeat' first
    | with_reducible assumption
    | with_reducible first
        | apply KeepsE.next | apply State.receiveOp_keeps

theorem execCmdBurst_keeps {b0 : State} (p : CmdPacket) (s : State) (hk : Keeps b0 s) : KeepsE b0 (execCmdBurst p s) := by
  unfold execCmdBurst
  repeat' first
    | with_reducible assumption
    | with_reducible first
        | apply KeepsE.next | apply State.receiveOp_keeps

theorem execCmdSymbolRead_keeps {b0 : State} (p : CmdPacket) (s : State) (hk : Keeps b0 s) : KeepsE b0 (execCmdSymbolRead p s) := by
  unfold execCmdSymbolRead
  repeat' first
    | with_reducible assumption
    | with_reducible first
        | apply KeepsE.next | apply State.receiveOp_keeps

theorem execCmdSymbolWrite_keeps {b0 : State} (p : CmdPacket) (s : State) (hk : Keeps b0 s) : KeepsE b0 (execCmdSymbolWrite p s) := by
  unfold execCmdSymbolWrite
  repeat' first
    | with_reducible assumption
    | with_reducible first
        | apply KeepsE.next | apply State.receiveOp_keeps

theorem execCmdForceSet_keeps {b0 : State} (p : CmdPacket) (s : State) (hk : Keeps b0 s) : KeepsE b0 (execCmdForceSet p s) := by
  unfold execCmdForceSet
  repeat' first
    | with_reducible assumption
    | with_reducible first
        | apply KeepsE.next | apply State.receiveOp_keeps

theorem execCmdForceClear_keeps {b0 : State} (p : CmdPacket) (s : State) (hk : Keeps b0 s) : KeepsE b0 (execCmdForceClear p s) := by
  unfold execCmdForceClear
  repeat' first
    | with_reducible assumption
    | with_reducible first
        | apply KeepsE.next | apply State.receiveOp_keeps

theorem execCmdForceList_keeps {b0 : State} (p : CmdPacket) (s : State) (hk : Keeps b0 s) : KeepsE b0 (execCmdForceList p s) := by
  unfold execCmdForceList
  repeat' first
    | with_reducible assumption
    | with_reducible first
        | apply KeepsE.next | apply State.receiveOp_keeps

theorem execCmdChange_keeps {b0 : State} (p : CmdPacket) (s : State) (hk : Keeps b0 s) : KeepsE b0 (execCmdChange p s) := by
  unfold execCmdChange
  repeat' first
    | with_reducible assumption
    | with_reducible first
        | apply KeepsE.next | apply State.receiveOp_keeps

theorem execCmdNodeConfigRead_keeps {b0 : State} (p : CmdPacket) (s : State) (hk : Keeps b0 s) : KeepsE b0 (execCmdNodeConfigRead p s) := by
  unfold execCmdNodeConfigRead
  repeat' first
    | with_reducible assumption
    | with_reducible first
        | apply KeepsE.next | apply State.receiveOp_keeps

theorem execCmdNodeStatus_keeps {b0 : State} (p : CmdPacket) (s : State) (hk : Keeps b0 s) : KeepsE b0 (execCmdNodeStatus p s) := by
  unfold execCmdNodeStatus
  repeat' first
    | with_reducible assumption
    | with_reducible first
        | apply KeepsE.next | apply State.receiveOp_keeps

theorem execCmdEnumerate_keeps {b0 : State} (p : CmdPacket) (s : State) (hk : Keeps b0 s) : KeepsE b0 (execCmdEnumerate p s) := by
  unfold execCmdEnumerate
  repeat' first
    | with_reducible assumption
    | with_reducible first
        | apply KeepsE.next | apply State.receiveOp_keeps

theorem execCmdLearnedReset_keeps {b0 : State} (p : CmdPacket) (s : State) (hk : Keeps b0 s) : KeepsE b0 (execCmdLearnedReset p s) := by
  unfold execCmdLearnedReset
  repeat' first
    | with_reducible assumption
    | with_reducible first
        | apply KeepsE.next | apply State.receiveOp_keeps

theorem execCmdEstCmd_keeps {b0 : State} (p : CmdPacket) (s : State) (hk : Keeps b0 s) : KeepsE b0 (execCmdEstCmd p s) := by
  unfold execCmdEstCmd
  repeat' first
    | with_reducible assumption
    | with_reducible first
        | apply KeepsE.next | apply State.receiveOp_keeps

theorem execCmdImageBegin_keeps {b0 : State} (p : CmdPacket) (s : State) (hk : Keeps b0 s) : KeepsE b0 (execCmdImageBegin p s) := by
  unfold execCmdImageBegin
  repeat' first
    | with_reducible assumption
    | with_reducible first
        | apply KeepsE.next | apply State.receiveOp_keeps

theorem execCmdImageBlock_keeps {b0 : State} (p : CmdPacket) (s : State) (hk : Keeps b0 s) : KeepsE b0 (execCmdImageBlock p s) := by
  unfold execCmdImageBlock
  repeat' first
    | with_reducible assumption
    | with_reducible first
        | apply KeepsE.next | apply State.receiveOp_keeps

theorem execCmdImageVerify_keeps {b0 : State} (p : CmdPacket) (s : State) (hk : Keeps b0 s) : KeepsE b0 (execCmdImageVerify p s) := by
  unfold execCmdImageVerify
  repeat' first
    | with_reducible assumption
    | with_reducible first
        | apply KeepsE.next | apply State.receiveOp_keeps

theorem execCmdImageAbort_keeps {b0 : State} (p : CmdPacket) (s : State) (hk : Keeps b0 s) : KeepsE b0 (execCmdImageAbort p s) := by
  unfold execCmdImageAbort
  repeat' first
    | with_reducible assumption
    | with_reducible first
        | apply KeepsE.next | apply State.receiveOp_keeps

theorem execCmdRecorderRead_keeps {b0 : State} (p : CmdPacket) (s : State) (hk : Keeps b0 s) : KeepsE b0 (execCmdRecorderRead p s) := by
  unfold execCmdRecorderRead
  repeat' first
    | with_reducible assumption
    | with_reducible first
        | apply KeepsE.next | apply State.receiveOp_keeps

theorem execCmdConfigRead_keeps {b0 : State} (p : CmdPacket) (s : State) (hk : Keeps b0 s) : KeepsE b0 (execCmdConfigRead p s) := by
  unfold execCmdConfigRead
  repeat' first
    | with_reducible assumption
    | with_reducible first
        | apply KeepsE.next | apply State.receiveOp_keeps

theorem execCmdConfigWrite_keeps {b0 : State} (p : CmdPacket) (s : State) (hk : Keeps b0 s) : KeepsE b0 (execCmdConfigWrite p s) := by
  unfold execCmdConfigWrite
  repeat' first
    | with_reducible assumption
    | with_reducible first
        | apply KeepsE.next | apply State.receiveOp_keeps

theorem execCmdConfigCommit_keeps {b0 : State} (p : CmdPacket) (s : State) (hk : Keeps b0 s) : KeepsE b0 (execCmdConfigCommit p s) := by
  unfold execCmdConfigCommit
  repeat' first
    | with_reducible assumption
    | with_reducible first
        | apply KeepsE.next | apply State.receiveOp_keeps

theorem execCmdOwnerEnrol_keeps {b0 : State} (p : CmdPacket) (s : State) (hk : Keeps b0 s) : KeepsE b0 (execCmdOwnerEnrol p s) := by
  unfold execCmdOwnerEnrol
  repeat' first
    | with_reducible assumption
    | with_reducible first
        | apply KeepsE.next | apply State.receiveOp_keeps

theorem execCmdOwnerOpen_keeps {b0 : State} (p : CmdPacket) (s : State) (hk : Keeps b0 s) : KeepsE b0 (execCmdOwnerOpen p s) := by
  unfold execCmdOwnerOpen
  repeat' first
    | with_reducible assumption
    | with_reducible first
        | apply KeepsE.next | apply State.receiveOp_keeps

theorem execCmdOwnerAuth_keeps {b0 : State} (p : CmdPacket) (s : State) (hk : Keeps b0 s) : KeepsE b0 (execCmdOwnerAuth p s) := by
  unfold execCmdOwnerAuth
  repeat' first
    | with_reducible assumption
    | with_reducible first
        | apply KeepsE.next | apply State.receiveOp_keeps

theorem execCmdOwnerCmd_keeps {b0 : State} (p : CmdPacket) (s : State) (hk : Keeps b0 s) : KeepsE b0 (execCmdOwnerCmd p s) := by
  unfold execCmdOwnerCmd
  repeat' first
    | with_reducible assumption
    | with_reducible first
        | apply KeepsE.next | apply State.receiveOp_keeps

end Sys2Proof.Machine
end

