-- ==== Sys2Proof/Laws/PerInstr.lean ====
section
/-!
SUPPORT. One lemma per command: no word of the table's bits spells it. The table gives no row bits, so a command comes only
with its operands.
-/

namespace Sys2Proof.Laws

/-- No word spells the command. -/
def NoWordSpells.Statement (i : Instr) : Prop := ∀ nbits w : Nat, decodeTableWord nbits w ≠ some i

theorem NoWordSpells.vinValid : NoWordSpells.Statement (.vinValid) :=
  fun _ _ => nofun
theorem NoWordSpells.vinLow (vinMv : Nat) (pagesLeft : Nat) : NoWordSpells.Statement (.vinLow vinMv pagesLeft) :=
  fun _ _ => nofun
theorem NoWordSpells.vinRestored (lowestMv : Nat) : NoWordSpells.Statement (.vinRestored lowestMv) :=
  fun _ _ => nofun
theorem NoWordSpells.vinUv : NoWordSpells.Statement (.vinUv) :=
  fun _ _ => nofun
theorem NoWordSpells.vsupFall : NoWordSpells.Statement (.vsupFall) :=
  fun _ _ => nofun
theorem NoWordSpells.vsupRise : NoWordSpells.Statement (.vsupRise) :=
  fun _ _ => nofun
theorem NoWordSpells.holdupTest (iinMa : Nat) : NoWordSpells.Statement (.holdupTest iinMa) :=
  fun _ _ => nofun
theorem NoWordSpells.holdupTestTimer (iinMa : Nat) : NoWordSpells.Statement (.holdupTestTimer iinMa) :=
  fun _ _ => nofun
theorem NoWordSpells.holdupTestEnd (fallNs : Option Nat) (vsupMoved : Bool) : NoWordSpells.Statement (.holdupTestEnd fallNs vsupMoved) :=
  fun _ _ => nofun
theorem NoWordSpells.nrstAsserted (lowNs : Nat) : NoWordSpells.Statement (.nrstAsserted lowNs) :=
  fun _ _ => nofun
theorem NoWordSpells.nrstReleased : NoWordSpells.Statement (.nrstReleased) :=
  fun _ _ => nofun
theorem NoWordSpells.resetHeldTimeout : NoWordSpells.Statement (.resetHeldTimeout) :=
  fun _ _ => nofun
theorem NoWordSpells.sysRestart (value : Word) : NoWordSpells.Statement (.sysRestart value) :=
  fun _ _ => nofun
theorem NoWordSpells.refclkLoss : NoWordSpells.Statement (.refclkLoss) :=
  fun _ _ => nofun
theorem NoWordSpells.refclkRestored : NoWordSpells.Statement (.refclkRestored) :=
  fun _ _ => nofun
theorem NoWordSpells.pllUnlock (pll : Nat) : NoWordSpells.Statement (.pllUnlock pll) :=
  fun _ _ => nofun
theorem NoWordSpells.aonCrystalFail : NoWordSpells.Statement (.aonCrystalFail) :=
  fun _ _ => nofun
theorem NoWordSpells.aonCrystalRestored : NoWordSpells.Statement (.aonCrystalRestored) :=
  fun _ _ => nofun
theorem NoWordSpells.junctionHot (vampTj soleTj packageTj : Int) : NoWordSpells.Statement (.junctionHot vampTj soleTj packageTj) :=
  fun _ _ => nofun
theorem NoWordSpells.junctionShutdown : NoWordSpells.Statement (.junctionShutdown) :=
  fun _ _ => nofun
theorem NoWordSpells.junctionCooled : NoWordSpells.Statement (.junctionCooled) :=
  fun _ _ => nofun
theorem NoWordSpells.operatingSecond (vinMv vsupMv iinMa power : Nat) (vampTj soleTj packageTj : Int) : NoWordSpells.Statement (.operatingSecond vinMv vsupMv iinMa power vampTj soleTj packageTj) :=
  fun _ _ => nofun
theorem NoWordSpells.bootComplete (failedUnits : List Nat) (badBanks : Nat) (bootMs : Nat) : NoWordSpells.Statement (.bootComplete failedUnits badBanks bootMs) :=
  fun _ _ => nofun
theorem NoWordSpells.registerWrite (who : Requester) (addr : Word) (size : Nat) (value sets : Word) : NoWordSpells.Statement (.registerWrite who addr size value sets) :=
  fun _ _ => nofun
theorem NoWordSpells.vsFlitReceive (toSole : Bool) (cls : Nat) (seq : Nat) (parityOk : Bool) : NoWordSpells.Statement (.vsFlitReceive toSole cls seq parityOk) :=
  fun _ _ => nofun
theorem NoWordSpells.vsClockAbsent : NoWordSpells.Statement (.vsClockAbsent) :=
  fun _ _ => nofun
theorem NoWordSpells.vsLinkRetrained : NoWordSpells.Statement (.vsLinkRetrained) :=
  fun _ _ => nofun
theorem NoWordSpells.viTransfer (ok : Bool) (addr : Word) (program : Bool) (badSector : Option Nat) : NoWordSpells.Statement (.viTransfer ok addr program badSector) :=
  fun _ _ => nofun
theorem NoWordSpells.insoleEccError (who : Requester) (addr : Word) (corrected : Bool) : NoWordSpells.Statement (.insoleEccError who addr corrected) :=
  fun _ _ => nofun
theorem NoWordSpells.eventStrobe (src : Nat) (detail : Nat) : NoWordSpells.Statement (.eventStrobe src detail) :=
  fun _ _ => nofun
theorem NoWordSpells.evtQueueTailWrite (value : Word) : NoWordSpells.Statement (.evtQueueTailWrite value) :=
  fun _ _ => nofun
theorem NoWordSpells.evtCountClear (k : Nat) (bits : Word) (strobes : List (Nat × Nat)) : NoWordSpells.Statement (.evtCountClear k bits strobes) :=
  fun _ _ => nofun
theorem NoWordSpells.heartbeatSlotSend : NoWordSpells.Statement (.heartbeatSlotSend) :=
  fun _ _ => nofun
theorem NoWordSpells.slotReceive (port : Nat) (kind : SlotKind) : NoWordSpells.Statement (.slotReceive port kind) :=
  fun _ _ => nofun
theorem NoWordSpells.breakLocateDone : NoWordSpells.Statement (.breakLocateDone) :=
  fun _ _ => nofun
theorem NoWordSpells.alarmPairReceive (port : Nat) : NoWordSpells.Statement (.alarmPairReceive port) :=
  fun _ _ => nofun
theorem NoWordSpells.toneClearTimeout : NoWordSpells.Statement (.toneClearTimeout) :=
  fun _ _ => nofun
theorem NoWordSpells.hbLostTimeout (port : Nat) : NoWordSpells.Statement (.hbLostTimeout port) :=
  fun _ _ => nofun
theorem NoWordSpells.soleHbLostTimeout (port : Nat) : NoWordSpells.Statement (.soleHbLostTimeout port) :=
  fun _ _ => nofun
theorem NoWordSpells.tetherFrameReceive (port : Nat) (groups : List (Option Nat)) (rts : List Nat) : NoWordSpells.Statement (.tetherFrameReceive port groups rts) :=
  fun _ _ => nofun
theorem NoWordSpells.tetherReplyTimeout (node : Nat) : NoWordSpells.Statement (.tetherReplyTimeout node) :=
  fun _ _ => nofun
theorem NoWordSpells.nodeUnreachableTimeout (node : Nat) : NoWordSpells.Statement (.nodeUnreachableTimeout node) :=
  fun _ _ => nofun
theorem NoWordSpells.reachabilityRollcall : NoWordSpells.Statement (.reachabilityRollcall) :=
  fun _ _ => nofun
theorem NoWordSpells.ringHealed : NoWordSpells.Statement (.ringHealed) :=
  fun _ _ => nofun
theorem NoWordSpells.tthEnumReq : NoWordSpells.Statement (.tthEnumReq) :=
  fun _ _ => nofun
theorem NoWordSpells.enumerationDone : NoWordSpells.Statement (.enumerationDone) :=
  fun _ _ => nofun
theorem NoWordSpells.tthRecalReq : NoWordSpells.Statement (.tthRecalReq) :=
  fun _ _ => nofun
theorem NoWordSpells.calibrationTimer : NoWordSpells.Statement (.calibrationTimer) :=
  fun _ _ => nofun
theorem NoWordSpells.calibrationDone : NoWordSpells.Statement (.calibrationDone) :=
  fun _ _ => nofun
theorem NoWordSpells.nodeThresholdReadback : NoWordSpells.Statement (.nodeThresholdReadback) :=
  fun _ _ => nofun
theorem NoWordSpells.wireTestStart (node : Nat) : NoWordSpells.Statement (.wireTestStart node) :=
  fun _ _ => nofun
theorem NoWordSpells.openWireTestDone : NoWordSpells.Statement (.openWireTestDone) :=
  fun _ _ => nofun
theorem NoWordSpells.wireMarkClearTimeout (node input line cause : Nat) : NoWordSpells.Statement (.wireMarkClearTimeout node input line cause) :=
  fun _ _ => nofun
theorem NoWordSpells.sweepInstantFix : NoWordSpells.Statement (.sweepInstantFix) :=
  fun _ _ => nofun
theorem NoWordSpells.sampleAtLaunch : NoWordSpells.Statement (.sampleAtLaunch) :=
  fun _ _ => nofun
theorem NoWordSpells.sampleInstant : NoWordSpells.Statement (.sampleInstant) :=
  fun _ _ => nofun
theorem NoWordSpells.recordDeadline : NoWordSpells.Statement (.recordDeadline) :=
  fun _ _ => nofun
theorem NoWordSpells.fastLayerComplete (fastUs : List Nat) : NoWordSpells.Statement (.fastLayerComplete fastUs) :=
  fun _ _ => nofun
theorem NoWordSpells.horizonLayerComplete (cell : Nat) : NoWordSpells.Statement (.horizonLayerComplete cell) :=
  fun _ _ => nofun
theorem NoWordSpells.currentWindow1ms : NoWordSpells.Statement (.currentWindow1ms) :=
  fun _ _ => nofun
theorem NoWordSpells.rateStepDown : NoWordSpells.Statement (.rateStepDown) :=
  fun _ _ => nofun
theorem NoWordSpells.currentWindow100us : NoWordSpells.Statement (.currentWindow100us) :=
  fun _ _ => nofun
theorem NoWordSpells.burstScheduleTimer : NoWordSpells.Statement (.burstScheduleTimer) :=
  fun _ _ => nofun
theorem NoWordSpells.burstSeqTimer : NoWordSpells.Statement (.burstSeqTimer) :=
  fun _ _ => nofun
theorem NoWordSpells.swpBurstReq : NoWordSpells.Statement (.swpBurstReq) :=
  fun _ _ => nofun
theorem NoWordSpells.swpSeqReq : NoWordSpells.Statement (.swpSeqReq) :=
  fun _ _ => nofun
theorem NoWordSpells.swpBurstAbort : NoWordSpells.Statement (.swpBurstAbort) :=
  fun _ _ => nofun
theorem NoWordSpells.burstStart : NoWordSpells.Statement (.burstStart) :=
  fun _ _ => nofun
theorem NoWordSpells.burstDeferTimeout : NoWordSpells.Statement (.burstDeferTimeout) :=
  fun _ _ => nofun
theorem NoWordSpells.burstCaptureLaunch : NoWordSpells.Statement (.burstCaptureLaunch) :=
  fun _ _ => nofun
theorem NoWordSpells.burstCaptureEnd : NoWordSpells.Statement (.burstCaptureEnd) :=
  fun _ _ => nofun
theorem NoWordSpells.burstReadoutDone : NoWordSpells.Statement (.burstReadoutDone) :=
  fun _ _ => nofun
theorem NoWordSpells.burstBinsDone : NoWordSpells.Statement (.burstBinsDone) :=
  fun _ _ => nofun
theorem NoWordSpells.euLocalParityError (unit : Nat) : NoWordSpells.Statement (.euLocalParityError unit) :=
  fun _ _ => nofun
theorem NoWordSpells.clusterScratchParityError (region cluster : Nat) : NoWordSpells.Statement (.clusterScratchParityError region cluster) :=
  fun _ _ => nofun
theorem NoWordSpells.sfuCheckFail (region cluster : Nat) : NoWordSpells.Statement (.sfuCheckFail region cluster) :=
  fun _ _ => nofun
theorem NoWordSpells.regionFault (region : Nat) : NoWordSpells.Statement (.regionFault region) :=
  fun _ _ => nofun
theorem NoWordSpells.microcodeCheck (unit : Nat) (ok : Bool) : NoWordSpells.Statement (.microcodeCheck unit ok) :=
  fun _ _ => nofun
theorem NoWordSpells.placementPlan : NoWordSpells.Statement (.placementPlan) :=
  fun _ _ => nofun
theorem NoWordSpells.contextRebuildDone (cell : Nat) : NoWordSpells.Statement (.contextRebuildDone cell) :=
  fun _ _ => nofun
theorem NoWordSpells.checkpointTimer (cell : Nat) : NoWordSpells.Statement (.checkpointTimer cell) :=
  fun _ _ => nofun
theorem NoWordSpells.criticalityScore : NoWordSpells.Statement (.criticalityScore) :=
  fun _ _ => nofun
theorem NoWordSpells.loadWindow (units : List Nat) : NoWordSpells.Statement (.loadWindow units) :=
  fun _ _ => nofun
theorem NoWordSpells.fidelityRaise : NoWordSpells.Statement (.fidelityRaise) :=
  fun _ _ => nofun
theorem NoWordSpells.reportRefresh (loads : List Nat) : NoWordSpells.Statement (.reportRefresh loads) :=
  fun _ _ => nofun
theorem NoWordSpells.estReadContext : NoWordSpells.Statement (.estReadContext) :=
  fun _ _ => nofun
theorem NoWordSpells.estReadLocal : NoWordSpells.Statement (.estReadLocal) :=
  fun _ _ => nofun
theorem NoWordSpells.estReplan : NoWordSpells.Statement (.estReplan) :=
  fun _ _ => nofun
theorem NoWordSpells.estCheckpointNow : NoWordSpells.Statement (.estCheckpointNow) :=
  fun _ _ => nofun
theorem NoWordSpells.estSpareSelftest : NoWordSpells.Statement (.estSpareSelftest) :=
  fun _ _ => nofun
theorem NoWordSpells.estCommandDone (ok : Bool) : NoWordSpells.Statement (.estCommandDone ok) :=
  fun _ _ => nofun
theorem NoWordSpells.restAnchor : NoWordSpells.Statement (.restAnchor) :=
  fun _ _ => nofun
theorem NoWordSpells.noAnchorTimeout : NoWordSpells.Statement (.noAnchorTimeout) :=
  fun _ _ => nofun
theorem NoWordSpells.balanceCompute : NoWordSpells.Statement (.balanceCompute) :=
  fun _ _ => nofun
theorem NoWordSpells.journalPeriodicTimer : NoWordSpells.Statement (.journalPeriodicTimer) :=
  fun _ _ => nofun
theorem NoWordSpells.fullChargeEnd : NoWordSpells.Statement (.fullChargeEnd) :=
  fun _ _ => nofun
theorem NoWordSpells.journalWriteDone (ok : Bool) : NoWordSpells.Statement (.journalWriteDone ok) :=
  fun _ _ => nofun
theorem NoWordSpells.journalEraseDone : NoWordSpells.Statement (.journalEraseDone) :=
  fun _ _ => nofun
theorem NoWordSpells.persistWriteDone : NoWordSpells.Statement (.persistWriteDone) :=
  fun _ _ => nofun
theorem NoWordSpells.adcConversionReceive (codes : List Int) (lost : Nat) : NoWordSpells.Statement (.adcConversionReceive codes lost) :=
  fun _ _ => nofun
theorem NoWordSpells.slotTriggerEvent (n : Nat) : NoWordSpells.Statement (.slotTriggerEvent n) :=
  fun _ _ => nofun
theorem NoWordSpells.slotEvaluate (n : Nat) : NoWordSpells.Statement (.slotEvaluate n) :=
  fun _ _ => nofun
theorem NoWordSpells.ctlStart (bits : Word) : NoWordSpells.Statement (.ctlStart bits) :=
  fun _ _ => nofun
theorem NoWordSpells.ctlHalt (bits : Word) : NoWordSpells.Statement (.ctlHalt bits) :=
  fun _ _ => nofun
theorem NoWordSpells.ctlApply (bits : Word) : NoWordSpells.Statement (.ctlApply bits) :=
  fun _ _ => nofun
theorem NoWordSpells.ctlCommit (value : Word) : NoWordSpells.Statement (.ctlCommit value) :=
  fun _ _ => nofun
theorem NoWordSpells.awlStart : NoWordSpells.Statement (.awlStart) :=
  fun _ _ => nofun
theorem NoWordSpells.awlAbort : NoWordSpells.Statement (.awlAbort) :=
  fun _ _ => nofun
theorem NoWordSpells.pwmPeriodStart (tb : Nat) : NoWordSpells.Statement (.pwmPeriodStart tb) :=
  fun _ _ => nofun
theorem NoWordSpells.pwmPeriodMid (n : Nat) : NoWordSpells.Statement (.pwmPeriodMid n) :=
  fun _ _ => nofun
theorem NoWordSpells.tripPin : NoWordSpells.Statement (.tripPin) :=
  fun _ _ => nofun
theorem NoWordSpells.comparatorTrip (c : Nat) (upper : Bool) : NoWordSpells.Statement (.comparatorTrip c upper) :=
  fun _ _ => nofun
theorem NoWordSpells.pwmTripClear (value : Word) (pinQuiet : Bool) (compQuiet : Bool) : NoWordSpells.Statement (.pwmTripClear value pinQuiet compQuiet) :=
  fun _ _ => nofun
theorem NoWordSpells.pcsRequestReceive (groups : List (Option Nat)) : NoWordSpells.Statement (.pcsRequestReceive groups) :=
  fun _ _ => nofun
theorem NoWordSpells.pcsRxAlign : NoWordSpells.Statement (.pcsRxAlign) :=
  fun _ _ => nofun
theorem NoWordSpells.pcsRxLinkDown : NoWordSpells.Statement (.pcsRxLinkDown) :=
  fun _ _ => nofun
theorem NoWordSpells.pcsLtCommit (value : Word) (who : Requester) : NoWordSpells.Statement (.pcsLtCommit value who) :=
  fun _ _ => nofun
theorem NoWordSpells.limitStale : NoWordSpells.Statement (.limitStale) :=
  fun _ _ => nofun
theorem NoWordSpells.pcsRequestMissedTimeout : NoWordSpells.Statement (.pcsRequestMissedTimeout) :=
  fun _ _ => nofun
theorem NoWordSpells.pcsLinkLossTimeout : NoWordSpells.Statement (.pcsLinkLossTimeout) :=
  fun _ _ => nofun
theorem NoWordSpells.pcsCurrentCompare : NoWordSpells.Statement (.pcsCurrentCompare) :=
  fun _ _ => nofun
theorem NoWordSpells.pcsDispatchApply : NoWordSpells.Statement (.pcsDispatchApply) :=
  fun _ _ => nofun
theorem NoWordSpells.dispatchLeaseExpiry : NoWordSpells.Statement (.dispatchLeaseExpiry) :=
  fun _ _ => nofun
theorem NoWordSpells.pcsPertEnable (value : Word) (who : Requester) : NoWordSpells.Statement (.pcsPertEnable value who) :=
  fun _ _ => nofun
theorem NoWordSpells.safetyCoreCycle (readback : Nat) : NoWordSpells.Statement (.safetyCoreCycle readback) :=
  fun _ _ => nofun
theorem NoWordSpells.ch2Scan (readback : Nat) (beyond : Nat) : NoWordSpells.Statement (.ch2Scan readback beyond) :=
  fun _ _ => nofun
theorem NoWordSpells.ch2CrossCheckSend : NoWordSpells.Statement (.ch2CrossCheckSend) :=
  fun _ _ => nofun
theorem NoWordSpells.crossCheckReceive (channel : Nat) : NoWordSpells.Statement (.crossCheckReceive channel) :=
  fun _ _ => nofun
theorem NoWordSpells.channelDisagreeTimeout : NoWordSpells.Statement (.channelDisagreeTimeout) :=
  fun _ _ => nofun
theorem NoWordSpells.ch2SilentTimeout : NoWordSpells.Statement (.ch2SilentTimeout) :=
  fun _ _ => nofun
theorem NoWordSpells.liveEdgeReceive (intervalUs : Nat) : NoWordSpells.Statement (.liveEdgeReceive intervalUs) :=
  fun _ _ => nofun
theorem NoWordSpells.liveTimeout (cause : Nat) : NoWordSpells.Statement (.liveTimeout cause) :=
  fun _ _ => nofun
theorem NoWordSpells.drogueTimerExpiry (channel : Nat) : NoWordSpells.Statement (.drogueTimerExpiry channel) :=
  fun _ _ => nofun
theorem NoWordSpells.safetyCurrentMean1ms (channel : Nat) : NoWordSpells.Statement (.safetyCurrentMean1ms channel) :=
  fun _ _ => nofun
theorem NoWordSpells.safetyCurrentMean100ms (channel : Nat) : NoWordSpells.Statement (.safetyCurrentMean100ms channel) :=
  fun _ _ => nofun
theorem NoWordSpells.slowOvercurrent (channel : Nat) : NoWordSpells.Statement (.slowOvercurrent channel) :=
  fun _ _ => nofun
theorem NoWordSpells.shuntWaitTimeout (channel : Nat) : NoWordSpells.Statement (.shuntWaitTimeout channel) :=
  fun _ _ => nofun
theorem NoWordSpells.readbackMismatchTimeout (channel : Nat) (pair : Nat) : NoWordSpells.Statement (.readbackMismatchTimeout channel pair) :=
  fun _ _ => nofun
theorem NoWordSpells.testPulseStart (switch : Nat) : NoWordSpells.Statement (.testPulseStart switch) :=
  fun _ _ => nofun
theorem NoWordSpells.testPulseEnd (during after : Nat) : NoWordSpells.Statement (.testPulseEnd during after) :=
  fun _ _ => nofun
theorem NoWordSpells.testPulseRetry (switch : Nat) : NoWordSpells.Statement (.testPulseRetry switch) :=
  fun _ _ => nofun
theorem NoWordSpells.mirrorFeedbackTimeout (channel : Nat) (pair : Nat) : NoWordSpells.Statement (.mirrorFeedbackTimeout channel pair) :=
  fun _ _ => nofun
theorem NoWordSpells.unmeasuredTimeout (cell : Nat) : NoWordSpells.Statement (.unmeasuredTimeout cell) :=
  fun _ _ => nofun
theorem NoWordSpells.safetyInputLevelChange (channel : Nat) (input : Nat) (line : Nat) (high : Bool) : NoWordSpells.Statement (.safetyInputLevelChange channel input line high) :=
  fun _ _ => nofun
theorem NoWordSpells.discrepancyFault (channel : Nat) (input : Nat) (scans : Nat) : NoWordSpells.Statement (.discrepancyFault channel input scans) :=
  fun _ _ => nofun
theorem NoWordSpells.ackInputPulse (channel : Nat) (input : Nat) (scans : Nat) : NoWordSpells.Statement (.ackInputPulse channel input scans) :=
  fun _ _ => nofun
theorem NoWordSpells.safAckWrite (value : Word) : NoWordSpells.Statement (.safAckWrite value) :=
  fun _ _ => nofun
theorem NoWordSpells.safOutReqClose (value : Word) : NoWordSpells.Statement (.safOutReqClose value) :=
  fun _ _ => nofun
theorem NoWordSpells.safOutReqFire : NoWordSpells.Statement (.safOutReqFire) :=
  fun _ _ => nofun
theorem NoWordSpells.paramCrcCheck (channel : Nat) (crc : Word) : NoWordSpells.Statement (.paramCrcCheck channel crc) :=
  fun _ _ => nofun
theorem NoWordSpells.weltPduReceive (carrier : Nat) (peer : Nat) (payload : Bytes) (fd : Bool) : NoWordSpells.Statement (.weltPduReceive carrier peer payload fd) :=
  fun _ _ => nofun
theorem NoWordSpells.weltArmSend (c : Nat) : NoWordSpells.Statement (.weltArmSend c) :=
  fun _ _ => nofun
theorem NoWordSpells.weltArmAckReceive (c : Nat) (pdu : Bytes) : NoWordSpells.Statement (.weltArmAckReceive c pdu) :=
  fun _ _ => nofun
theorem NoWordSpells.weltArmReceive (c : Nat) (pdu : Bytes) : NoWordSpells.Statement (.weltArmReceive c pdu) :=
  fun _ _ => nofun
theorem NoWordSpells.weltDataSend (c : Nat) : NoWordSpells.Statement (.weltDataSend c) :=
  fun _ _ => nofun
theorem NoWordSpells.weltWatchdogTimeout (c : Nat) : NoWordSpells.Statement (.weltWatchdogTimeout c) :=
  fun _ _ => nofun
theorem NoWordSpells.wltRearm (bits : Word) : NoWordSpells.Statement (.wltRearm bits) :=
  fun _ _ => nofun
theorem NoWordSpells.weltAutoRearm (c : Nat) : NoWordSpells.Statement (.weltAutoRearm c) :=
  fun _ _ => nofun
theorem NoWordSpells.weltConditionClear (c : Nat) : NoWordSpells.Statement (.weltConditionClear c) :=
  fun _ _ => nofun
theorem NoWordSpells.taskReleaseCyclic (k : Nat) : NoWordSpells.Statement (.taskReleaseCyclic k) :=
  fun _ _ => nofun
theorem NoWordSpells.taskStart (core : Nat) : NoWordSpells.Statement (.taskStart core) :=
  fun _ _ => nofun
theorem NoWordSpells.taskDeadlineExpiry (k : Nat) : NoWordSpells.Statement (.taskDeadlineExpiry k) :=
  fun _ _ => nofun
theorem NoWordSpells.taskBalance (used : List Nat) : NoWordSpells.Statement (.taskBalance used) :=
  fun _ _ => nofun
theorem NoWordSpells.prgRunReq : NoWordSpells.Statement (.prgRunReq) :=
  fun _ _ => nofun
theorem NoWordSpells.prgStopReq : NoWordSpells.Statement (.prgStopReq) :=
  fun _ _ => nofun
theorem NoWordSpells.prgChangeReq : NoWordSpells.Statement (.prgChangeReq) :=
  fun _ _ => nofun
theorem NoWordSpells.prgChangeAbort : NoWordSpells.Statement (.prgChangeAbort) :=
  fun _ _ => nofun
theorem NoWordSpells.onlineChangeSwitch : NoWordSpells.Statement (.onlineChangeSwitch) :=
  fun _ _ => nofun
theorem NoWordSpells.stationExchangeSend (u : Nat) : NoWordSpells.Statement (.stationExchangeSend u) :=
  fun _ _ => nofun
theorem NoWordSpells.stationInputReceive (u : Nat) (frame : Bytes) : NoWordSpells.Statement (.stationInputReceive u frame) :=
  fun _ _ => nofun
theorem NoWordSpells.stationReplyTimeout (u : Nat) : NoWordSpells.Statement (.stationReplyTimeout u) :=
  fun _ _ => nofun
theorem NoWordSpells.bavinNop (core : Nat) : NoWordSpells.Statement (.bavinNop core) :=
  fun _ _ => nofun
theorem NoWordSpells.bavinDup (core : Nat) : NoWordSpells.Statement (.bavinDup core) :=
  fun _ _ => nofun
theorem NoWordSpells.bavinDrop (core : Nat) : NoWordSpells.Statement (.bavinDrop core) :=
  fun _ _ => nofun
theorem NoWordSpells.bavinSwap (core : Nat) : NoWordSpells.Statement (.bavinSwap core) :=
  fun _ _ => nofun
theorem NoWordSpells.bavinOver (core : Nat) : NoWordSpells.Statement (.bavinOver core) :=
  fun _ _ => nofun
theorem NoWordSpells.bavinRot (core : Nat) : NoWordSpells.Statement (.bavinRot core) :=
  fun _ _ => nofun
theorem NoWordSpells.bavinPick (core : Nat) (n : Nat) : NoWordSpells.Statement (.bavinPick core n) :=
  fun _ _ => nofun
theorem NoWordSpells.bavinLit (core : Nat) (t : Nat) (v : Nat) : NoWordSpells.Statement (.bavinLit core t v) :=
  fun _ _ => nofun
theorem NoWordSpells.bavinLoad (core : Nat) (t : Nat) (sym : Nat) : NoWordSpells.Statement (.bavinLoad core t sym) :=
  fun _ _ => nofun
theorem NoWordSpells.bavinStore (core : Nat) (t : Nat) (sym : Nat) : NoWordSpells.Statement (.bavinStore core t sym) :=
  fun _ _ => nofun
theorem NoWordSpells.bavinLoadx (core : Nat) (t : Nat) (sym : Nat) : NoWordSpells.Statement (.bavinLoadx core t sym) :=
  fun _ _ => nofun
theorem NoWordSpells.bavinStorex (core : Nat) (t : Nat) (sym : Nat) : NoWordSpells.Statement (.bavinStorex core t sym) :=
  fun _ _ => nofun
theorem NoWordSpells.bavinAdd (core : Nat) (t : Nat) : NoWordSpells.Statement (.bavinAdd core t) :=
  fun _ _ => nofun
theorem NoWordSpells.bavinSub (core : Nat) (t : Nat) : NoWordSpells.Statement (.bavinSub core t) :=
  fun _ _ => nofun
theorem NoWordSpells.bavinMul (core : Nat) (t : Nat) : NoWordSpells.Statement (.bavinMul core t) :=
  fun _ _ => nofun
theorem NoWordSpells.bavinDiv (core : Nat) (t : Nat) : NoWordSpells.Statement (.bavinDiv core t) :=
  fun _ _ => nofun
theorem NoWordSpells.bavinMod (core : Nat) (t : Nat) : NoWordSpells.Statement (.bavinMod core t) :=
  fun _ _ => nofun
theorem NoWordSpells.bavinNeg (core : Nat) (t : Nat) : NoWordSpells.Statement (.bavinNeg core t) :=
  fun _ _ => nofun
theorem NoWordSpells.bavinAbs (core : Nat) (t : Nat) : NoWordSpells.Statement (.bavinAbs core t) :=
  fun _ _ => nofun
theorem NoWordSpells.bavinMin (core : Nat) (t : Nat) : NoWordSpells.Statement (.bavinMin core t) :=
  fun _ _ => nofun
theorem NoWordSpells.bavinMax (core : Nat) (t : Nat) : NoWordSpells.Statement (.bavinMax core t) :=
  fun _ _ => nofun
theorem NoWordSpells.bavinEq (core : Nat) (t : Nat) : NoWordSpells.Statement (.bavinEq core t) :=
  fun _ _ => nofun
theorem NoWordSpells.bavinNe (core : Nat) (t : Nat) : NoWordSpells.Statement (.bavinNe core t) :=
  fun _ _ => nofun
theorem NoWordSpells.bavinLt (core : Nat) (t : Nat) : NoWordSpells.Statement (.bavinLt core t) :=
  fun _ _ => nofun
theorem NoWordSpells.bavinLe (core : Nat) (t : Nat) : NoWordSpells.Statement (.bavinLe core t) :=
  fun _ _ => nofun
theorem NoWordSpells.bavinGt (core : Nat) (t : Nat) : NoWordSpells.Statement (.bavinGt core t) :=
  fun _ _ => nofun
theorem NoWordSpells.bavinGe (core : Nat) (t : Nat) : NoWordSpells.Statement (.bavinGe core t) :=
  fun _ _ => nofun
theorem NoWordSpells.bavinAnd (core : Nat) (t : Nat) : NoWordSpells.Statement (.bavinAnd core t) :=
  fun _ _ => nofun
theorem NoWordSpells.bavinOr (core : Nat) (t : Nat) : NoWordSpells.Statement (.bavinOr core t) :=
  fun _ _ => nofun
theorem NoWordSpells.bavinXor (core : Nat) (t : Nat) : NoWordSpells.Statement (.bavinXor core t) :=
  fun _ _ => nofun
theorem NoWordSpells.bavinNot (core : Nat) (t : Nat) : NoWordSpells.Statement (.bavinNot core t) :=
  fun _ _ => nofun
theorem NoWordSpells.bavinShl (core : Nat) (t : Nat) : NoWordSpells.Statement (.bavinShl core t) :=
  fun _ _ => nofun
theorem NoWordSpells.bavinShr (core : Nat) (t : Nat) : NoWordSpells.Statement (.bavinShr core t) :=
  fun _ _ => nofun
theorem NoWordSpells.bavinConv (core : Nat) (src dst : Nat) : NoWordSpells.Statement (.bavinConv core src dst) :=
  fun _ _ => nofun
theorem NoWordSpells.bavinJmp (core : Nat) (offset : Int) : NoWordSpells.Statement (.bavinJmp core offset) :=
  fun _ _ => nofun
theorem NoWordSpells.bavinJmpt (core : Nat) (offset : Int) : NoWordSpells.Statement (.bavinJmpt core offset) :=
  fun _ _ => nofun
theorem NoWordSpells.bavinJmpf (core : Nat) (offset : Int) : NoWordSpells.Statement (.bavinJmpf core offset) :=
  fun _ _ => nofun
theorem NoWordSpells.bavinCall (core : Nat) (f : Nat) : NoWordSpells.Statement (.bavinCall core f) :=
  fun _ _ => nofun
theorem NoWordSpells.bavinRet (core : Nat) : NoWordSpells.Statement (.bavinRet core) :=
  fun _ _ => nofun
theorem NoWordSpells.bavinEnd (core : Nat) : NoWordSpells.Statement (.bavinEnd core) :=
  fun _ _ => nofun
theorem NoWordSpells.bavinSel (core : Nat) (t : Nat) : NoWordSpells.Statement (.bavinSel core t) :=
  fun _ _ => nofun
theorem NoWordSpells.bavinLimit (core : Nat) (t : Nat) : NoWordSpells.Statement (.bavinLimit core t) :=
  fun _ _ => nofun
theorem NoWordSpells.bavinLdl (core : Nat) (slot : Nat) : NoWordSpells.Statement (.bavinLdl core slot) :=
  fun _ _ => nofun
theorem NoWordSpells.bavinStl (core : Nat) (slot : Nat) : NoWordSpells.Statement (.bavinStl core slot) :=
  fun _ _ => nofun
theorem NoWordSpells.bavinSqrt (core : Nat) : NoWordSpells.Statement (.bavinSqrt core) :=
  fun _ _ => nofun
theorem NoWordSpells.bavinExp (core : Nat) : NoWordSpells.Statement (.bavinExp core) :=
  fun _ _ => nofun
theorem NoWordSpells.bavinLn (core : Nat) : NoWordSpells.Statement (.bavinLn core) :=
  fun _ _ => nofun
theorem NoWordSpells.bavinLog10 (core : Nat) : NoWordSpells.Statement (.bavinLog10 core) :=
  fun _ _ => nofun
theorem NoWordSpells.bavinSin (core : Nat) : NoWordSpells.Statement (.bavinSin core) :=
  fun _ _ => nofun
theorem NoWordSpells.bavinCos (core : Nat) : NoWordSpells.Statement (.bavinCos core) :=
  fun _ _ => nofun
theorem NoWordSpells.bavinTan (core : Nat) : NoWordSpells.Statement (.bavinTan core) :=
  fun _ _ => nofun
theorem NoWordSpells.bavinAsin (core : Nat) : NoWordSpells.Statement (.bavinAsin core) :=
  fun _ _ => nofun
theorem NoWordSpells.bavinAcos (core : Nat) : NoWordSpells.Statement (.bavinAcos core) :=
  fun _ _ => nofun
theorem NoWordSpells.bavinAtan (core : Nat) : NoWordSpells.Statement (.bavinAtan core) :=
  fun _ _ => nofun
theorem NoWordSpells.bavinAtan2 (core : Nat) : NoWordSpells.Statement (.bavinAtan2 core) :=
  fun _ _ => nofun
theorem NoWordSpells.bavinPow (core : Nat) : NoWordSpells.Statement (.bavinPow core) :=
  fun _ _ => nofun
theorem NoWordSpells.bavinTrunc (core : Nat) : NoWordSpells.Statement (.bavinTrunc core) :=
  fun _ _ => nofun
theorem NoWordSpells.bavinRound (core : Nat) : NoWordSpells.Statement (.bavinRound core) :=
  fun _ _ => nofun
theorem NoWordSpells.bavinFloor (core : Nat) : NoWordSpells.Statement (.bavinFloor core) :=
  fun _ _ => nofun
theorem NoWordSpells.bavinCeil (core : Nat) : NoWordSpells.Statement (.bavinCeil core) :=
  fun _ _ => nofun
theorem NoWordSpells.bavinIsnan (core : Nat) : NoWordSpells.Statement (.bavinIsnan core) :=
  fun _ _ => nofun
theorem NoWordSpells.bavinFma (core : Nat) : NoWordSpells.Statement (.bavinFma core) :=
  fun _ _ => nofun
theorem NoWordSpells.bavinRol (core : Nat) (t : Nat) : NoWordSpells.Statement (.bavinRol core t) :=
  fun _ _ => nofun
theorem NoWordSpells.bavinRor (core : Nat) (t : Nat) : NoWordSpells.Statement (.bavinRor core t) :=
  fun _ _ => nofun
theorem NoWordSpells.bavinGetbit (core : Nat) (t : Nat) : NoWordSpells.Statement (.bavinGetbit core t) :=
  fun _ _ => nofun
theorem NoWordSpells.bavinSetbit (core : Nat) (t : Nat) : NoWordSpells.Statement (.bavinSetbit core t) :=
  fun _ _ => nofun
theorem NoWordSpells.bavinClrbit (core : Nat) (t : Nat) : NoWordSpells.Statement (.bavinClrbit core t) :=
  fun _ _ => nofun
theorem NoWordSpells.bavinNow (core : Nat) : NoWordSpells.Statement (.bavinNow core) :=
  fun _ _ => nofun
theorem NoWordSpells.bavinNowplant (core : Nat) : NoWordSpells.Statement (.bavinNowplant core) :=
  fun _ _ => nofun
theorem NoWordSpells.bavinCyclestart (core : Nat) : NoWordSpells.Statement (.bavinCyclestart core) :=
  fun _ _ => nofun
theorem NoWordSpells.bavinPeriod (core : Nat) : NoWordSpells.Statement (.bavinPeriod core) :=
  fun _ _ => nofun
theorem NoWordSpells.bavinTon (core : Nat) (sym : Nat) : NoWordSpells.Statement (.bavinTon core sym) :=
  fun _ _ => nofun
theorem NoWordSpells.bavinTof (core : Nat) (sym : Nat) : NoWordSpells.Statement (.bavinTof core sym) :=
  fun _ _ => nofun
theorem NoWordSpells.bavinTp (core : Nat) (sym : Nat) : NoWordSpells.Statement (.bavinTp core sym) :=
  fun _ _ => nofun
theorem NoWordSpells.bavinRtrig (core : Nat) (sym : Nat) : NoWordSpells.Statement (.bavinRtrig core sym) :=
  fun _ _ => nofun
theorem NoWordSpells.bavinFtrig (core : Nat) (sym : Nat) : NoWordSpells.Statement (.bavinFtrig core sym) :=
  fun _ _ => nofun
theorem NoWordSpells.bavinCtu (core : Nat) (sym : Nat) : NoWordSpells.Statement (.bavinCtu core sym) :=
  fun _ _ => nofun
theorem NoWordSpells.bavinCtd (core : Nat) (sym : Nat) : NoWordSpells.Statement (.bavinCtd core sym) :=
  fun _ _ => nofun
theorem NoWordSpells.bavinSr (core : Nat) (sym : Nat) : NoWordSpells.Statement (.bavinSr core sym) :=
  fun _ _ => nofun
theorem NoWordSpells.bavinRs (core : Nat) (sym : Nat) : NoWordSpells.Statement (.bavinRs core sym) :=
  fun _ _ => nofun
theorem NoWordSpells.bavinCopy (core : Nat) (src dst : Nat) : NoWordSpells.Statement (.bavinCopy core src dst) :=
  fun _ _ => nofun
theorem NoWordSpells.bavinFill (core : Nat) (sym : Nat) : NoWordSpells.Statement (.bavinFill core sym) :=
  fun _ _ => nofun
theorem NoWordSpells.bavinLen (core : Nat) (sym : Nat) : NoWordSpells.Statement (.bavinLen core sym) :=
  fun _ _ => nofun
theorem NoWordSpells.bavinStnok (core : Nat) (station : Nat) : NoWordSpells.Statement (.bavinStnok core station) :=
  fun _ _ => nofun
theorem NoWordSpells.bavinStnstate (core : Nat) (station : Nat) : NoWordSpells.Statement (.bavinStnstate core station) :=
  fun _ _ => nofun
theorem NoWordSpells.bavinStnenable (core : Nat) (station : Nat) : NoWordSpells.Statement (.bavinStnenable core station) :=
  fun _ _ => nofun
theorem NoWordSpells.bavinWvalid (core : Nat) (conn : Nat) : NoWordSpells.Statement (.bavinWvalid core conn) :=
  fun _ _ => nofun
theorem NoWordSpells.bavinWpub (core : Nat) (conn sym : Nat) : NoWordSpells.Statement (.bavinWpub core conn sym) :=
  fun _ _ => nofun
theorem NoWordSpells.bavinRaise (core : Nat) (n : Nat) : NoWordSpells.Statement (.bavinRaise core n) :=
  fun _ _ => nofun
theorem NoWordSpells.bavinTrigger (core : Nat) (task : Nat) : NoWordSpells.Statement (.bavinTrigger core task) :=
  fun _ _ => nofun
theorem NoWordSpells.bavinRdreg (core : Nat) : NoWordSpells.Statement (.bavinRdreg core) :=
  fun _ _ => nofun
theorem NoWordSpells.bavinWrreg (core : Nat) : NoWordSpells.Statement (.bavinWrreg core) :=
  fun _ _ => nofun
theorem NoWordSpells.bavinAssert (core : Nat) (code : Nat) : NoWordSpells.Statement (.bavinAssert core code) :=
  fun _ _ => nofun
theorem NoWordSpells.bavinTrap (core : Nat) (code : Nat) : NoWordSpells.Statement (.bavinTrap core code) :=
  fun _ _ => nofun
theorem NoWordSpells.bavinIsforced (core : Nat) (sym : Nat) : NoWordSpells.Statement (.bavinIsforced core sym) :=
  fun _ _ => nofun
theorem NoWordSpells.bavinCellget (core : Nat) (field : Nat) : NoWordSpells.Statement (.bavinCellget core field) :=
  fun _ _ => nofun
theorem NoWordSpells.bavinCellflags (core : Nat) : NoWordSpells.Statement (.bavinCellflags core) :=
  fun _ _ => nofun
theorem NoWordSpells.bavinNodeget (core : Nat) (field : Nat) : NoWordSpells.Statement (.bavinNodeget core field) :=
  fun _ _ => nofun
theorem NoWordSpells.bavinStrget (core : Nat) (field : Nat) : NoWordSpells.Statement (.bavinStrget core field) :=
  fun _ _ => nofun
theorem NoWordSpells.bavinStrstate (core : Nat) : NoWordSpells.Statement (.bavinStrstate core) :=
  fun _ _ => nofun
theorem NoWordSpells.bavinSloty (core : Nat) (slot : Nat) : NoWordSpells.Statement (.bavinSloty core slot) :=
  fun _ _ => nofun
theorem NoWordSpells.bavinXinset (core : Nat) (n : Nat) : NoWordSpells.Statement (.bavinXinset core n) :=
  fun _ _ => nofun
theorem NoWordSpells.bavinOutreq (core : Nat) : NoWordSpells.Statement (.bavinOutreq core) :=
  fun _ _ => nofun
theorem NoWordSpells.bavinAcksafe (core : Nat) : NoWordSpells.Statement (.bavinAcksafe core) :=
  fun _ _ => nofun
theorem NoWordSpells.cmdHello (p : CmdPacket) : NoWordSpells.Statement (.cmdHello p) :=
  fun _ _ => nofun
theorem NoWordSpells.cmdBye (p : CmdPacket) : NoWordSpells.Statement (.cmdBye p) :=
  fun _ _ => nofun
theorem NoWordSpells.cmdResultRead (p : CmdPacket) : NoWordSpells.Statement (.cmdResultRead p) :=
  fun _ _ => nofun
theorem NoWordSpells.cmdSeqState (p : CmdPacket) : NoWordSpells.Statement (.cmdSeqState p) :=
  fun _ _ => nofun
theorem NoWordSpells.cmdPing (p : CmdPacket) : NoWordSpells.Statement (.cmdPing p) :=
  fun _ _ => nofun
theorem NoWordSpells.cmdCancel (p : CmdPacket) : NoWordSpells.Statement (.cmdCancel p) :=
  fun _ _ => nofun
theorem NoWordSpells.cmdDeviceInfo (p : CmdPacket) : NoWordSpells.Statement (.cmdDeviceInfo p) :=
  fun _ _ => nofun
theorem NoWordSpells.cmdStateRead (p : CmdPacket) : NoWordSpells.Statement (.cmdStateRead p) :=
  fun _ _ => nofun
theorem NoWordSpells.cmdTableInfo (p : CmdPacket) : NoWordSpells.Statement (.cmdTableInfo p) :=
  fun _ _ => nofun
theorem NoWordSpells.cmdRegRead (p : CmdPacket) : NoWordSpells.Statement (.cmdRegRead p) :=
  fun _ _ => nofun
theorem NoWordSpells.cmdRegWrite (p : CmdPacket) : NoWordSpells.Statement (.cmdRegWrite p) :=
  fun _ _ => nofun
theorem NoWordSpells.cmdMemRead (p : CmdPacket) : NoWordSpells.Statement (.cmdMemRead p) :=
  fun _ _ => nofun
theorem NoWordSpells.cmdRun (p : CmdPacket) : NoWordSpells.Statement (.cmdRun p) :=
  fun _ _ => nofun
theorem NoWordSpells.cmdStop (p : CmdPacket) : NoWordSpells.Statement (.cmdStop p) :=
  fun _ _ => nofun
theorem NoWordSpells.cmdResume (p : CmdPacket) : NoWordSpells.Statement (.cmdResume p) :=
  fun _ _ => nofun
theorem NoWordSpells.cmdAcknowledge (p : CmdPacket) : NoWordSpells.Statement (.cmdAcknowledge p) :=
  fun _ _ => nofun
theorem NoWordSpells.cmdShutdown (p : CmdPacket) : NoWordSpells.Statement (.cmdShutdown p) :=
  fun _ _ => nofun
theorem NoWordSpells.cmdDispatch (p : CmdPacket) : NoWordSpells.Statement (.cmdDispatch p) :=
  fun _ _ => nofun
theorem NoWordSpells.cmdBurst (p : CmdPacket) : NoWordSpells.Statement (.cmdBurst p) :=
  fun _ _ => nofun
theorem NoWordSpells.cmdSymbolRead (p : CmdPacket) : NoWordSpells.Statement (.cmdSymbolRead p) :=
  fun _ _ => nofun
theorem NoWordSpells.cmdSymbolWrite (p : CmdPacket) : NoWordSpells.Statement (.cmdSymbolWrite p) :=
  fun _ _ => nofun
theorem NoWordSpells.cmdForceSet (p : CmdPacket) : NoWordSpells.Statement (.cmdForceSet p) :=
  fun _ _ => nofun
theorem NoWordSpells.cmdForceClear (p : CmdPacket) : NoWordSpells.Statement (.cmdForceClear p) :=
  fun _ _ => nofun
theorem NoWordSpells.cmdForceList (p : CmdPacket) : NoWordSpells.Statement (.cmdForceList p) :=
  fun _ _ => nofun
theorem NoWordSpells.cmdChange (p : CmdPacket) : NoWordSpells.Statement (.cmdChange p) :=
  fun _ _ => nofun
theorem NoWordSpells.cmdNodeConfigRead (p : CmdPacket) : NoWordSpells.Statement (.cmdNodeConfigRead p) :=
  fun _ _ => nofun
theorem NoWordSpells.cmdNodeStatus (p : CmdPacket) : NoWordSpells.Statement (.cmdNodeStatus p) :=
  fun _ _ => nofun
theorem NoWordSpells.cmdEnumerate (p : CmdPacket) : NoWordSpells.Statement (.cmdEnumerate p) :=
  fun _ _ => nofun
theorem NoWordSpells.cmdLearnedReset (p : CmdPacket) : NoWordSpells.Statement (.cmdLearnedReset p) :=
  fun _ _ => nofun
theorem NoWordSpells.cmdEstCmd (p : CmdPacket) : NoWordSpells.Statement (.cmdEstCmd p) :=
  fun _ _ => nofun
theorem NoWordSpells.cmdImageBegin (p : CmdPacket) : NoWordSpells.Statement (.cmdImageBegin p) :=
  fun _ _ => nofun
theorem NoWordSpells.cmdImageBlock (p : CmdPacket) : NoWordSpells.Statement (.cmdImageBlock p) :=
  fun _ _ => nofun
theorem NoWordSpells.cmdImageVerify (p : CmdPacket) : NoWordSpells.Statement (.cmdImageVerify p) :=
  fun _ _ => nofun
theorem NoWordSpells.cmdImageAbort (p : CmdPacket) : NoWordSpells.Statement (.cmdImageAbort p) :=
  fun _ _ => nofun
theorem NoWordSpells.cmdRecorderRead (p : CmdPacket) : NoWordSpells.Statement (.cmdRecorderRead p) :=
  fun _ _ => nofun
theorem NoWordSpells.cmdConfigRead (p : CmdPacket) : NoWordSpells.Statement (.cmdConfigRead p) :=
  fun _ _ => nofun
theorem NoWordSpells.cmdConfigWrite (p : CmdPacket) : NoWordSpells.Statement (.cmdConfigWrite p) :=
  fun _ _ => nofun
theorem NoWordSpells.cmdConfigCommit (p : CmdPacket) : NoWordSpells.Statement (.cmdConfigCommit p) :=
  fun _ _ => nofun
theorem NoWordSpells.cmdOwnerEnrol (p : CmdPacket) : NoWordSpells.Statement (.cmdOwnerEnrol p) :=
  fun _ _ => nofun
theorem NoWordSpells.cmdOwnerOpen (p : CmdPacket) : NoWordSpells.Statement (.cmdOwnerOpen p) :=
  fun _ _ => nofun
theorem NoWordSpells.cmdOwnerAuth (p : CmdPacket) : NoWordSpells.Statement (.cmdOwnerAuth p) :=
  fun _ _ => nofun
theorem NoWordSpells.cmdOwnerCmd (p : CmdPacket) : NoWordSpells.Statement (.cmdOwnerCmd p) :=
  fun _ _ => nofun
theorem NoWordSpells.cmdInvalidPacket (uart : Bool) (ipv6 : Bool) (peer : Nat) (port : Nat) (bytes : Bytes) : NoWordSpells.Statement (.cmdInvalidPacket uart ipv6 peer port bytes) :=
  fun _ _ => nofun
theorem NoWordSpells.cmdHoldTimeout (i : Nat) : NoWordSpells.Statement (.cmdHoldTimeout i) :=
  fun _ _ => nofun
theorem NoWordSpells.sessionHoldExpiry (i : Nat) : NoWordSpells.Statement (.sessionHoldExpiry i) :=
  fun _ _ => nofun
theorem NoWordSpells.throttleEnd (i : Nat) : NoWordSpells.Statement (.throttleEnd i) :=
  fun _ _ => nofun
theorem NoWordSpells.dmaAlloc (n : Nat) (who : Requester) : NoWordSpells.Statement (.dmaAlloc n who) :=
  fun _ _ => nofun
theorem NoWordSpells.dmaFree (n : Nat) (who : Requester) : NoWordSpells.Statement (.dmaFree n who) :=
  fun _ _ => nofun
theorem NoWordSpells.dmaStart (n : Nat) (who : Requester) : NoWordSpells.Statement (.dmaStart n who) :=
  fun _ _ => nofun
theorem NoWordSpells.dmaKick (n : Nat) (who : Requester) : NoWordSpells.Statement (.dmaKick n who) :=
  fun _ _ => nofun
theorem NoWordSpells.dmaAbort (n : Nat) (who : Requester) : NoWordSpells.Statement (.dmaAbort n who) :=
  fun _ _ => nofun
theorem NoWordSpells.dmaDisable (n : Nat) (who : Requester) : NoWordSpells.Statement (.dmaDisable n who) :=
  fun _ _ => nofun
theorem NoWordSpells.dmaSwreq (bits : Word) : NoWordSpells.Statement (.dmaSwreq bits) :=
  fun _ _ => nofun
theorem NoWordSpells.dmaRequestStrobe (line : Nat) : NoWordSpells.Statement (.dmaRequestStrobe line) :=
  fun _ _ => nofun
theorem NoWordSpells.dmaBurst (n : Nat) : NoWordSpells.Statement (.dmaBurst n) :=
  fun _ _ => nofun
theorem NoWordSpells.dmaDescriptorComplete (n : Nat) : NoWordSpells.Statement (.dmaDescriptorComplete n) :=
  fun _ _ => nofun
theorem NoWordSpells.dmaCqTailWrite (n : Nat) (value : Word) (who : Requester) : NoWordSpells.Statement (.dmaCqTailWrite n value who) :=
  fun _ _ => nofun
theorem NoWordSpells.dmaStallLimit (n : Nat) : NoWordSpells.Statement (.dmaStallLimit n) :=
  fun _ _ => nofun
theorem NoWordSpells.dmaBusError (n : Nat) (addr : Word) (write : Bool) (noResponse : Bool) : NoWordSpells.Statement (.dmaBusError n addr write noResponse) :=
  fun _ _ => nofun
theorem NoWordSpells.dmaFirmwareRestart : NoWordSpells.Statement (.dmaFirmwareRestart) :=
  fun _ _ => nofun
theorem NoWordSpells.gsramParityError (requester : Nat) (addr : Word) (interconnect : Bool) (channel : Nat) : NoWordSpells.Statement (.gsramParityError requester addr interconnect channel) :=
  fun _ _ => nofun
theorem NoWordSpells.codeParityError (core : Nat) (addr : Word) (refetchFailed : Bool) : NoWordSpells.Statement (.codeParityError core addr refetchFailed) :=
  fun _ _ => nofun
theorem NoWordSpells.scrubPass (latent : List Word) : NoWordSpells.Statement (.scrubPass latent) :=
  fun _ _ => nofun
theorem NoWordSpells.ethLinkChange (port : Nat) (signal sync : Bool) (page : Option Nat) : NoWordSpells.Statement (.ethLinkChange port signal sync page) :=
  fun _ _ => nofun
theorem NoWordSpells.ethFrameReceive (port : Nat) (frame : Bytes) (fcs : Word) : NoWordSpells.Statement (.ethFrameReceive port frame fcs) :=
  fun _ _ => nofun
theorem NoWordSpells.ethTxComplete (pair : Bool) (port : Nat) (ts : Bool) (frame : Bytes) (user : Word) (underrun : Bool) : NoWordSpells.Statement (.ethTxComplete pair port ts frame user underrun) :=
  fun _ _ => nofun
theorem NoWordSpells.prpSupervisionSend : NoWordSpells.Statement (.prpSupervisionSend) :=
  fun _ _ => nofun
theorem NoWordSpells.prpNodeAgeOut : NoWordSpells.Statement (.prpNodeAgeOut) :=
  fun _ _ => nofun
theorem NoWordSpells.prpPathLossTimeout (port : Nat) : NoWordSpells.Statement (.prpPathLossTimeout port) :=
  fun _ _ => nofun
theorem NoWordSpells.timCapture : NoWordSpells.Statement (.timCapture) :=
  fun _ _ => nofun
theorem NoWordSpells.timAlarmFire (k : Nat) : NoWordSpells.Statement (.timAlarmFire k) :=
  fun _ _ => nofun
theorem NoWordSpells.plantSecond : NoWordSpells.Statement (.plantSecond) :=
  fun _ _ => nofun
theorem NoWordSpells.ppsPulseEnd : NoWordSpells.Statement (.ppsPulseEnd) :=
  fun _ _ => nofun
theorem NoWordSpells.ptpSyncReceive (port : Nat) (domain : Nat) (originNs : Nat) (correctionNs : Int) (rxPlantNs : Nat) : NoWordSpells.Statement (.ptpSyncReceive port domain originNs correctionNs rxPlantNs) :=
  fun _ _ => nofun
theorem NoWordSpells.ptpAnnounceReceive (port : Nat) (domain : Nat) (announce : Announce) : NoWordSpells.Statement (.ptpAnnounceReceive port domain announce) :=
  fun _ _ => nofun
theorem NoWordSpells.ptpPdelayReqSend : NoWordSpells.Statement (.ptpPdelayReqSend) :=
  fun _ _ => nofun
theorem NoWordSpells.ptpPdelayReqReceive (port : Nat) (seq : Nat) (requester : Bytes) : NoWordSpells.Statement (.ptpPdelayReqReceive port seq requester) :=
  fun _ _ => nofun
theorem NoWordSpells.ptpPdelayRespReceive (port : Nat) (seq : Nat) (t2Ns : Nat) (t3Ns : Nat) (correctionNs : Int) (t4Ns : Nat) : NoWordSpells.Statement (.ptpPdelayRespReceive port seq t2Ns t3Ns correctionNs t4Ns) :=
  fun _ _ => nofun
theorem NoWordSpells.ptpAnnounceTimeout (port : Nat) : NoWordSpells.Statement (.ptpAnnounceTimeout port) :=
  fun _ _ => nofun
theorem NoWordSpells.ptpSyncTimeout : NoWordSpells.Statement (.ptpSyncTimeout) :=
  fun _ _ => nofun
theorem NoWordSpells.holdoverBoundExceeded : NoWordSpells.Statement (.holdoverBoundExceeded) :=
  fun _ _ => nofun
theorem NoWordSpells.holdoverTempOutOfRange : NoWordSpells.Statement (.holdoverTempOutOfRange) :=
  fun _ _ => nofun
theorem NoWordSpells.oscModelStore : NoWordSpells.Statement (.oscModelStore) :=
  fun _ _ => nofun
theorem NoWordSpells.canFrameReceive (n : Nat) (id : Nat) (ide : Bool) (rtr : Bool) (fdf : Bool) (brs : Bool) (esi : Bool) (dlc : Nat) (data : Bytes) (ago : Nat) : NoWordSpells.Statement (.canFrameReceive n id ide rtr fdf brs esi dlc data ago) :=
  fun _ _ => nofun
theorem NoWordSpells.canRxLatch (n : Nat) (win : Nat) : NoWordSpells.Statement (.canRxLatch n win) :=
  fun _ _ => nofun
theorem NoWordSpells.canRxRelease (n : Nat) (win : Nat) : NoWordSpells.Statement (.canRxRelease n win) :=
  fun _ _ => nofun
theorem NoWordSpells.canTxPush (n : Nat) (value : Word) : NoWordSpells.Statement (.canTxPush n value) :=
  fun _ _ => nofun
theorem NoWordSpells.canTxReq (n : Nat) (bits : Word) (cancel : Word) : NoWordSpells.Statement (.canTxReq n bits cancel) :=
  fun _ _ => nofun
theorem NoWordSpells.canTxCancel (n : Nat) (bits : Word) (onBus : Option Nat) : NoWordSpells.Statement (.canTxCancel n bits onBus) :=
  fun _ _ => nofun
theorem NoWordSpells.canTxComplete (n : Nat) (slot : Nat) (outcome : Nat) : NoWordSpells.Statement (.canTxComplete n slot outcome) :=
  fun _ _ => nofun
theorem NoWordSpells.canTimedTxDue (n : Nat) (slot : Nat) : NoWordSpells.Statement (.canTimedTxDue n slot) :=
  fun _ _ => nofun
theorem NoWordSpells.canBusError (n : Nat) (code : Nat) (dataPhase : Bool) (slot : Option Nat) (collision : Bool) (exempt : Bool) (more : Nat) : NoWordSpells.Statement (.canBusError n code dataPhase slot collision exempt more) :=
  fun _ _ => nofun
theorem NoWordSpells.canBusoffRecovered (n : Nat) : NoWordSpells.Statement (.canBusoffRecovered n) :=
  fun _ _ => nofun
theorem NoWordSpells.canRecover (n : Nat) : NoWordSpells.Statement (.canRecover n) :=
  fun _ _ => nofun
theorem NoWordSpells.canSleepReq (n : Nat) (wake : Bool) : NoWordSpells.Statement (.canSleepReq n wake) :=
  fun _ _ => nofun
theorem NoWordSpells.canWakeReq (n : Nat) : NoWordSpells.Statement (.canWakeReq n) :=
  fun _ _ => nofun
theorem NoWordSpells.canWakeDetect (n : Nat) (frame : Bool) (dominantUs : Nat) : NoWordSpells.Statement (.canWakeDetect n frame dominantUs) :=
  fun _ _ => nofun
theorem NoWordSpells.canCommit (n : Nat) (value : Word) : NoWordSpells.Statement (.canCommit n value) :=
  fun _ _ => nofun
theorem NoWordSpells.canReferenceDue (n : Nat) : NoWordSpells.Statement (.canReferenceDue n) :=
  fun _ _ => nofun
theorem NoWordSpells.canReferenceLost (n : Nat) : NoWordSpells.Statement (.canReferenceLost n) :=
  fun _ _ => nofun
theorem NoWordSpells.recorderTokenRefill (code : Nat) : NoWordSpells.Statement (.recorderTokenRefill code) :=
  fun _ _ => nofun
theorem NoWordSpells.recorderIntervalTimer : NoWordSpells.Statement (.recorderIntervalTimer) :=
  fun _ _ => nofun
theorem NoWordSpells.recPersistReq : NoWordSpells.Statement (.recPersistReq) :=
  fun _ _ => nofun
theorem NoWordSpells.recorderWriteDone (ok : Bool) : NoWordSpells.Statement (.recorderWriteDone ok) :=
  fun _ _ => nofun
theorem NoWordSpells.detailPageTimeout : NoWordSpells.Statement (.detailPageTimeout) :=
  fun _ _ => nofun
theorem NoWordSpells.imageEraseDone : NoWordSpells.Statement (.imageEraseDone) :=
  fun _ _ => nofun
theorem NoWordSpells.imageSessionTimeout : NoWordSpells.Statement (.imageSessionTimeout) :=
  fun _ _ => nofun
theorem NoWordSpells.arbGrantConfirmed (level : Bool) : NoWordSpells.Statement (.arbGrantConfirmed level) :=
  fun _ _ => nofun
theorem NoWordSpells.redAliveRefresh : NoWordSpells.Statement (.redAliveRefresh) :=
  fun _ _ => nofun
theorem NoWordSpells.aliveRefreshTimeout : NoWordSpells.Statement (.aliveRefreshTimeout) :=
  fun _ _ => nofun
theorem NoWordSpells.beatSend : NoWordSpells.Statement (.beatSend) :=
  fun _ _ => nofun
theorem NoWordSpells.partnerFrameReceive (groups : List (Option Nat)) : NoWordSpells.Statement (.partnerFrameReceive groups) :=
  fun _ _ => nofun
theorem NoWordSpells.lastFastSetSend : NoWordSpells.Statement (.lastFastSetSend) :=
  fun _ _ => nofun
theorem NoWordSpells.lastFullSetSend : NoWordSpells.Statement (.lastFullSetSend) :=
  fun _ _ => nofun
theorem NoWordSpells.lastPersistTimer : NoWordSpells.Statement (.lastPersistTimer) :=
  fun _ _ => nofun
theorem NoWordSpells.lastStaleTimeout : NoWordSpells.Statement (.lastStaleTimeout) :=
  fun _ _ => nofun
theorem NoWordSpells.partnerLinkTimeout : NoWordSpells.Statement (.partnerLinkTimeout) :=
  fun _ _ => nofun
theorem NoWordSpells.fullLayerComplete (cell : Nat) : NoWordSpells.Statement (.fullLayerComplete cell) :=
  fun _ _ => nofun
theorem NoWordSpells.fullSequenceRequestTimer : NoWordSpells.Statement (.fullSequenceRequestTimer) :=
  fun _ _ => nofun
theorem NoWordSpells.lastCopyDone (ok : Bool) : NoWordSpells.Statement (.lastCopyDone ok) :=
  fun _ _ => nofun
theorem NoWordSpells.configStoreDone (kind : Nat) : NoWordSpells.Statement (.configStoreDone kind) :=
  fun _ _ => nofun
theorem NoWordSpells.recorderEraseDone (ring : Bool) : NoWordSpells.Statement (.recorderEraseDone ring) :=
  fun _ _ => nofun
theorem NoWordSpells.imageBlockStored : NoWordSpells.Statement (.imageBlockStored) :=
  fun _ _ => nofun
theorem NoWordSpells.imageVerifyDone (readOk : Bool) (program : Option Program) : NoWordSpells.Statement (.imageVerifyDone readOk program) :=
  fun _ _ => nofun
theorem NoWordSpells.canRxBufferHoldoffEnd (n : Nat) : NoWordSpells.Statement (.canRxBufferHoldoffEnd n) :=
  fun _ _ => nofun
theorem NoWordSpells.ethEventHoldoffEnd (port : Nat) (transmit : Bool) : NoWordSpells.Statement (.ethEventHoldoffEnd port transmit) :=
  fun _ _ => nofun
theorem NoWordSpells.tetherLinkChange (port : Nat) (up : Bool) : NoWordSpells.Statement (.tetherLinkChange port up) :=
  fun _ _ => nofun

end Sys2Proof.Laws
end

