-- ==== Sys2Proof/WellFormed.lean ====
section
/-!
DEFINITION. Well-formed commands: every operand that numbers a unit of the block (a core, a node, a cell, a channel, a
session) lies in the range that the spec gives it, and a command packet's fields fit their widths. exec is total: a command
that is not well-formed has its meaning too, which changes nothing where the spec has no such unit.
-/

namespace Sys2Proof

/-- An operand counted from 0 lies below a bound. -/
def wfBelow (n v : Nat) : Bool := decide (v < n)

/-- An operand lies from a to b. -/
def wfFrom (a b v : Nat) : Bool := decide (a ≤ v) && decide (v ≤ b)

/-- Every unit of the estimation array that a command names is one of its 288. -/
def wfUnits (l : List Nat) : Bool := l.all (wfBelow 288)

/-- Every code group of a line has 10 bits; none is a symbol that the receiver could not read. -/
def wfGroups (l : List (Option Nat)) : Bool := l.all (fun g => g.all (wfBelow 1024))

/-- A packet's fields fit the widths of Table 11.1. -/
def CmdPacket.wf (p : CmdPacket) : Bool :=
  wfBelow 65536 p.port && wfBelow 256 p.version && wfBelow 256 p.flags && wfBelow 65536 p.tag && wfBelow (2 ^ 32) p.hseq &&
    wfBelow (2 ^ 32) p.aseq && wfBelow 65536 p.opcode

/-- The operands of a command lie in their ranges. -/
def Instr.wellFormed : Instr → Bool
  | .vinValid => true
  | .vinLow _ _ => true
  | .vinRestored _ => true
  | .vinUv => true
  | .vsupFall => true
  | .vsupRise => true
  | .holdupTest _ => true
  | .holdupTestTimer _ => true
  | .holdupTestEnd _ _ => true
  | .nrstAsserted _ => true
  | .nrstReleased => true
  | .resetHeldTimeout => true
  | .sysRestart _ => true
  | .refclkLoss => true
  | .refclkRestored => true
  | .pllUnlock pll => wfBelow 3 pll
  | .aonCrystalFail => true
  | .aonCrystalRestored => true
  | .junctionHot _ _ _ => true
  | .junctionShutdown => true
  | .junctionCooled => true
  | .operatingSecond _ _ _ _ _ _ _ => true
  | .bootComplete failedUnits _ _ => wfUnits failedUnits
  | .registerWrite _ _ _ _ _ => true
  | .vsFlitReceive _ _ _ _ => true
  | .vsClockAbsent => true
  | .vsLinkRetrained => true
  | .viTransfer _ _ _ _ => true
  | .insoleEccError _ _ _ => true
  | .eventStrobe src _ => wfBelow 128 src
  | .evtQueueTailWrite _ => true
  | .evtCountClear k _ _ => wfBelow 4 k
  | .heartbeatSlotSend => true
  | .slotReceive port _ => wfBelow 2 port
  | .breakLocateDone => true
  | .alarmPairReceive port => wfBelow 2 port
  | .toneClearTimeout => true
  | .hbLostTimeout port => wfBelow 2 port
  | .soleHbLostTimeout port => wfBelow 2 port
  | .tetherFrameReceive port groups _ => wfBelow 2 port && wfGroups groups
  | .tetherReplyTimeout node => wfBelow 49 node
  | .nodeUnreachableTimeout node => wfFrom 1 48 node
  | .reachabilityRollcall => true
  | .ringHealed => true
  | .tthEnumReq => true
  | .enumerationDone => true
  | .tthRecalReq => true
  | .calibrationTimer => true
  | .calibrationDone => true
  | .nodeThresholdReadback => true
  | .wireTestStart node => wfFrom 1 48 node
  | .openWireTestDone => true
  | .wireMarkClearTimeout node input line cause => wfFrom 1 48 node && wfFrom 1 16 input && wfBelow 17 line && wfBelow 4 cause
  | .sweepInstantFix => true
  | .sampleAtLaunch => true
  | .sampleInstant => true
  | .recordDeadline => true
  | .fastLayerComplete _ => true
  | .horizonLayerComplete cell => wfFrom 1 768 cell
  | .currentWindow1ms => true
  | .rateStepDown => true
  | .currentWindow100us => true
  | .burstScheduleTimer => true
  | .burstSeqTimer => true
  | .swpBurstReq => true
  | .swpSeqReq => true
  | .swpBurstAbort => true
  | .burstStart => true
  | .burstDeferTimeout => true
  | .burstCaptureLaunch => true
  | .burstCaptureEnd => true
  | .burstReadoutDone => true
  | .burstBinsDone => true
  | .euLocalParityError unit => wfBelow 288 unit
  | .clusterScratchParityError region cluster => wfFrom 1 8 region && wfFrom 1 4 cluster
  | .sfuCheckFail region cluster => wfFrom 1 8 region && wfFrom 1 4 cluster
  | .regionFault region => wfFrom 1 8 region
  | .microcodeCheck unit _ => wfBelow 288 unit
  | .placementPlan => true
  | .contextRebuildDone cell => wfFrom 1 768 cell
  | .checkpointTimer cell => wfFrom 1 768 cell
  | .criticalityScore => true
  | .loadWindow _ => true
  | .fidelityRaise => true
  | .reportRefresh _ => true
  | .estReadContext => true
  | .estReadLocal => true
  | .estReplan => true
  | .estCheckpointNow => true
  | .estSpareSelftest => true
  | .estCommandDone _ => true
  | .restAnchor => true
  | .noAnchorTimeout => true
  | .balanceCompute => true
  | .journalPeriodicTimer => true
  | .fullChargeEnd => true
  | .journalWriteDone _ => true
  | .journalEraseDone => true
  | .persistWriteDone => true
  | .adcConversionReceive _ _ => true
  | .slotTriggerEvent n => wfBelow 16 n
  | .slotEvaluate n => wfBelow 16 n
  | .ctlStart _ => true
  | .ctlHalt _ => true
  | .ctlApply _ => true
  | .ctlCommit _ => true
  | .awlStart => true
  | .awlAbort => true
  | .pwmPeriodStart tb => wfBelow 4 tb
  | .pwmPeriodMid n => wfBelow 16 n
  | .tripPin => true
  | .comparatorTrip c _ => wfBelow 4 c
  | .pwmTripClear _ _ _ => true
  | .pcsRequestReceive groups => wfGroups groups
  | .pcsRxAlign => true
  | .pcsRxLinkDown => true
  | .pcsLtCommit _ _ => true
  | .limitStale => true
  | .pcsRequestMissedTimeout => true
  | .pcsLinkLossTimeout => true
  | .pcsCurrentCompare => true
  | .pcsDispatchApply => true
  | .dispatchLeaseExpiry => true
  | .pcsPertEnable _ _ => true
  | .safetyCoreCycle _ => true
  | .ch2Scan _ _ => true
  | .ch2CrossCheckSend => true
  | .crossCheckReceive channel => wfFrom 1 2 channel
  | .channelDisagreeTimeout => true
  | .ch2SilentTimeout => true
  | .liveEdgeReceive _ => true
  | .liveTimeout _ => true
  | .drogueTimerExpiry channel => wfFrom 1 2 channel
  | .safetyCurrentMean1ms channel => wfFrom 1 2 channel
  | .safetyCurrentMean100ms channel => wfFrom 1 2 channel
  | .slowOvercurrent channel => wfFrom 1 2 channel
  | .shuntWaitTimeout channel => wfFrom 1 2 channel
  | .readbackMismatchTimeout channel pair => wfFrom 1 2 channel && wfFrom 1 4 pair
  | .testPulseStart switch => wfBelow 8 switch
  | .testPulseEnd during after => wfBelow 16 during && wfBelow 16 after
  | .testPulseRetry switch => wfBelow 8 switch
  | .mirrorFeedbackTimeout channel pair => wfFrom 1 2 channel && wfFrom 1 4 pair
  | .unmeasuredTimeout cell => wfFrom 1 768 cell
  | .safetyInputLevelChange channel input line _ => wfFrom 1 2 channel && wfBelow 16 input && wfBelow 2 line
  | .discrepancyFault channel input _ => wfFrom 1 2 channel && wfBelow 16 input
  | .ackInputPulse channel input _ => wfFrom 1 2 channel && wfBelow 16 input
  | .safAckWrite _ => true
  | .safOutReqClose _ => true
  | .safOutReqFire => true
  | .paramCrcCheck channel _ => wfFrom 1 2 channel
  | .weltPduReceive carrier _ _ _ => wfBelow 5 carrier
  | .weltArmSend c => wfBelow 32 c
  | .weltArmAckReceive c _ => wfBelow 32 c
  | .weltArmReceive c _ => wfBelow 32 c
  | .weltDataSend c => wfBelow 32 c
  | .weltWatchdogTimeout c => wfBelow 33 c
  | .wltRearm _ => true
  | .weltAutoRearm c => wfBelow 32 c
  | .weltConditionClear c => wfBelow 32 c
  | .taskReleaseCyclic k => wfBelow 16 k
  | .taskStart core => wfBelow 2 core
  | .taskDeadlineExpiry k => wfBelow 48 k
  | .taskBalance _ => true
  | .prgRunReq => true
  | .prgStopReq => true
  | .prgChangeReq => true
  | .prgChangeAbort => true
  | .onlineChangeSwitch => true
  | .stationExchangeSend u => wfBelow 64 u
  | .stationInputReceive u _ => wfBelow 64 u
  | .stationReplyTimeout u => wfBelow 64 u
  | .bavinNop core => wfBelow 2 core
  | .bavinDup core => wfBelow 2 core
  | .bavinDrop core => wfBelow 2 core
  | .bavinSwap core => wfBelow 2 core
  | .bavinOver core => wfBelow 2 core
  | .bavinRot core => wfBelow 2 core
  | .bavinPick core n => wfBelow 2 core && wfBelow 256 n
  | .bavinLit core t _ => wfBelow 2 core && wfBelow 7 t
  | .bavinLoad core t sym => wfBelow 2 core && wfBelow 7 t && wfBelow 65536 sym
  | .bavinStore core t sym => wfBelow 2 core && wfBelow 7 t && wfBelow 65536 sym
  | .bavinLoadx core t sym => wfBelow 2 core && wfBelow 7 t && wfBelow 65536 sym
  | .bavinStorex core t sym => wfBelow 2 core && wfBelow 7 t && wfBelow 65536 sym
  | .bavinAdd core t => wfBelow 2 core && wfBelow 7 t
  | .bavinSub core t => wfBelow 2 core && wfBelow 7 t
  | .bavinMul core t => wfBelow 2 core && wfBelow 7 t
  | .bavinDiv core t => wfBelow 2 core && wfBelow 7 t
  | .bavinMod core t => wfBelow 2 core && wfBelow 7 t
  | .bavinNeg core t => wfBelow 2 core && wfBelow 7 t
  | .bavinAbs core t => wfBelow 2 core && wfBelow 7 t
  | .bavinMin core t => wfBelow 2 core && wfBelow 7 t
  | .bavinMax core t => wfBelow 2 core && wfBelow 7 t
  | .bavinEq core t => wfBelow 2 core && wfBelow 7 t
  | .bavinNe core t => wfBelow 2 core && wfBelow 7 t
  | .bavinLt core t => wfBelow 2 core && wfBelow 7 t
  | .bavinLe core t => wfBelow 2 core && wfBelow 7 t
  | .bavinGt core t => wfBelow 2 core && wfBelow 7 t
  | .bavinGe core t => wfBelow 2 core && wfBelow 7 t
  | .bavinAnd core t => wfBelow 2 core && wfBelow 7 t
  | .bavinOr core t => wfBelow 2 core && wfBelow 7 t
  | .bavinXor core t => wfBelow 2 core && wfBelow 7 t
  | .bavinNot core t => wfBelow 2 core && wfBelow 7 t
  | .bavinShl core t => wfBelow 2 core && wfBelow 7 t
  | .bavinShr core t => wfBelow 2 core && wfBelow 7 t
  | .bavinConv core src dst => wfBelow 2 core && wfBelow 7 src && wfBelow 7 dst
  | .bavinJmp core _ => wfBelow 2 core
  | .bavinJmpt core _ => wfBelow 2 core
  | .bavinJmpf core _ => wfBelow 2 core
  | .bavinCall core f => wfBelow 2 core && wfBelow 65536 f
  | .bavinRet core => wfBelow 2 core
  | .bavinEnd core => wfBelow 2 core
  | .bavinSel core t => wfBelow 2 core && wfBelow 7 t
  | .bavinLimit core t => wfBelow 2 core && wfBelow 7 t
  | .bavinLdl core slot => wfBelow 2 core && wfBelow 256 slot
  | .bavinStl core slot => wfBelow 2 core && wfBelow 256 slot
  | .bavinSqrt core => wfBelow 2 core
  | .bavinExp core => wfBelow 2 core
  | .bavinLn core => wfBelow 2 core
  | .bavinLog10 core => wfBelow 2 core
  | .bavinSin core => wfBelow 2 core
  | .bavinCos core => wfBelow 2 core
  | .bavinTan core => wfBelow 2 core
  | .bavinAsin core => wfBelow 2 core
  | .bavinAcos core => wfBelow 2 core
  | .bavinAtan core => wfBelow 2 core
  | .bavinAtan2 core => wfBelow 2 core
  | .bavinPow core => wfBelow 2 core
  | .bavinTrunc core => wfBelow 2 core
  | .bavinRound core => wfBelow 2 core
  | .bavinFloor core => wfBelow 2 core
  | .bavinCeil core => wfBelow 2 core
  | .bavinIsnan core => wfBelow 2 core
  | .bavinFma core => wfBelow 2 core
  | .bavinRol core t => wfBelow 2 core && wfBelow 7 t
  | .bavinRor core t => wfBelow 2 core && wfBelow 7 t
  | .bavinGetbit core t => wfBelow 2 core && wfBelow 7 t
  | .bavinSetbit core t => wfBelow 2 core && wfBelow 7 t
  | .bavinClrbit core t => wfBelow 2 core && wfBelow 7 t
  | .bavinNow core => wfBelow 2 core
  | .bavinNowplant core => wfBelow 2 core
  | .bavinCyclestart core => wfBelow 2 core
  | .bavinPeriod core => wfBelow 2 core
  | .bavinTon core sym => wfBelow 2 core && wfBelow 65536 sym
  | .bavinTof core sym => wfBelow 2 core && wfBelow 65536 sym
  | .bavinTp core sym => wfBelow 2 core && wfBelow 65536 sym
  | .bavinRtrig core sym => wfBelow 2 core && wfBelow 65536 sym
  | .bavinFtrig core sym => wfBelow 2 core && wfBelow 65536 sym
  | .bavinCtu core sym => wfBelow 2 core && wfBelow 65536 sym
  | .bavinCtd core sym => wfBelow 2 core && wfBelow 65536 sym
  | .bavinSr core sym => wfBelow 2 core && wfBelow 65536 sym
  | .bavinRs core sym => wfBelow 2 core && wfBelow 65536 sym
  | .bavinCopy core src dst => wfBelow 2 core && wfBelow 65536 src && wfBelow 65536 dst
  | .bavinFill core sym => wfBelow 2 core && wfBelow 65536 sym
  | .bavinLen core sym => wfBelow 2 core && wfBelow 65536 sym
  | .bavinStnok core station => wfBelow 2 core && wfBelow 64 station
  | .bavinStnstate core station => wfBelow 2 core && wfBelow 64 station
  | .bavinStnenable core station => wfBelow 2 core && wfBelow 64 station
  | .bavinWvalid core conn => wfBelow 2 core && wfBelow 32 conn
  | .bavinWpub core conn sym => wfBelow 2 core && wfBelow 32 conn && wfBelow 65536 sym
  | .bavinRaise core n => wfBelow 2 core && wfBelow 4 n
  | .bavinTrigger core task => wfBelow 2 core && wfFrom 16 47 task
  | .bavinRdreg core => wfBelow 2 core
  | .bavinWrreg core => wfBelow 2 core
  | .bavinAssert core _ => wfBelow 2 core
  | .bavinTrap core _ => wfBelow 2 core
  | .bavinIsforced core sym => wfBelow 2 core && wfBelow 65536 sym
  | .bavinCellget core field => wfBelow 2 core && wfBelow 256 field
  | .bavinCellflags core => wfBelow 2 core
  | .bavinNodeget core field => wfBelow 2 core && wfBelow 256 field
  | .bavinStrget core field => wfBelow 2 core && wfBelow 256 field
  | .bavinStrstate core => wfBelow 2 core
  | .bavinSloty core slot => wfBelow 2 core && wfBelow 256 slot
  | .bavinXinset core n => wfBelow 2 core && wfBelow 8 n
  | .bavinOutreq core => wfBelow 2 core
  | .bavinAcksafe core => wfBelow 2 core
  | .cmdHello p => p.wf
  | .cmdBye p => p.wf
  | .cmdResultRead p => p.wf
  | .cmdSeqState p => p.wf
  | .cmdPing p => p.wf
  | .cmdCancel p => p.wf
  | .cmdDeviceInfo p => p.wf
  | .cmdStateRead p => p.wf
  | .cmdTableInfo p => p.wf
  | .cmdRegRead p => p.wf
  | .cmdRegWrite p => p.wf
  | .cmdMemRead p => p.wf
  | .cmdRun p => p.wf
  | .cmdStop p => p.wf
  | .cmdResume p => p.wf
  | .cmdAcknowledge p => p.wf
  | .cmdShutdown p => p.wf
  | .cmdDispatch p => p.wf
  | .cmdBurst p => p.wf
  | .cmdSymbolRead p => p.wf
  | .cmdSymbolWrite p => p.wf
  | .cmdForceSet p => p.wf
  | .cmdForceClear p => p.wf
  | .cmdForceList p => p.wf
  | .cmdChange p => p.wf
  | .cmdNodeConfigRead p => p.wf
  | .cmdNodeStatus p => p.wf
  | .cmdEnumerate p => p.wf
  | .cmdLearnedReset p => p.wf
  | .cmdEstCmd p => p.wf
  | .cmdImageBegin p => p.wf
  | .cmdImageBlock p => p.wf
  | .cmdImageVerify p => p.wf
  | .cmdImageAbort p => p.wf
  | .cmdRecorderRead p => p.wf
  | .cmdConfigRead p => p.wf
  | .cmdConfigWrite p => p.wf
  | .cmdConfigCommit p => p.wf
  | .cmdOwnerEnrol p => p.wf
  | .cmdOwnerOpen p => p.wf
  | .cmdOwnerAuth p => p.wf
  | .cmdOwnerCmd p => p.wf
  | .cmdInvalidPacket _ _ _ port _ => wfBelow 65536 port
  | .cmdHoldTimeout i => wfBelow 5 i
  | .sessionHoldExpiry i => wfBelow 5 i
  | .throttleEnd i => wfBelow 5 i
  | .dmaAlloc n _ => wfBelow 16 n
  | .dmaFree n _ => wfBelow 16 n
  | .dmaStart n _ => wfBelow 16 n
  | .dmaKick n _ => wfBelow 16 n
  | .dmaAbort n _ => wfBelow 16 n
  | .dmaDisable n _ => wfBelow 16 n
  | .dmaSwreq _ => true
  | .dmaRequestStrobe line => wfBelow 48 line
  | .dmaBurst n => wfBelow 16 n
  | .dmaDescriptorComplete n => wfBelow 16 n
  | .dmaCqTailWrite n _ _ => wfBelow 16 n
  | .dmaStallLimit n => wfBelow 16 n
  | .dmaBusError n _ _ _ => wfBelow 16 n
  | .dmaFirmwareRestart => true
  | .gsramParityError _ _ _ channel => wfBelow 16 channel
  | .codeParityError core _ _ => wfBelow 2 core
  | .scrubPass _ => true
  | .ethLinkChange port _ _ page => wfBelow 2 port && page.all (wfBelow 65536)
  | .ethFrameReceive port _ _ => wfBelow 2 port
  | .ethTxComplete _ port _ _ _ _ => wfBelow 2 port
  | .prpSupervisionSend => true
  | .prpNodeAgeOut => true
  | .prpPathLossTimeout port => wfBelow 2 port
  | .timCapture => true
  | .timAlarmFire k => wfBelow 2 k
  | .plantSecond => true
  | .ppsPulseEnd => true
  | .ptpSyncReceive port _ _ _ _ => wfBelow 2 port
  | .ptpAnnounceReceive port _ _ => wfBelow 2 port
  | .ptpPdelayReqSend => true
  | .ptpPdelayReqReceive port _ _ => wfBelow 2 port
  | .ptpPdelayRespReceive port _ _ _ _ _ => wfBelow 2 port
  | .ptpAnnounceTimeout port => wfBelow 2 port
  | .ptpSyncTimeout => true
  | .holdoverBoundExceeded => true
  | .holdoverTempOutOfRange => true
  | .oscModelStore => true
  | .canFrameReceive n _ _ _ _ _ _ dlc _ _ => wfBelow 4 n && wfBelow 16 dlc
  | .canRxLatch n win => wfBelow 4 n && wfBelow 10 win
  | .canRxRelease n win => wfBelow 4 n && wfBelow 10 win
  | .canTxPush n _ => wfBelow 4 n
  | .canTxReq n _ _ => wfBelow 4 n
  | .canTxCancel n _ _ => wfBelow 4 n
  | .canTxComplete n slot _ => wfBelow 4 n && wfBelow 32 slot
  | .canTimedTxDue n slot => wfBelow 4 n && wfBelow 32 slot
  | .canBusError n _ _ _ _ _ _ => wfBelow 4 n
  | .canBusoffRecovered n => wfBelow 4 n
  | .canRecover n => wfBelow 4 n
  | .canSleepReq n _ => wfBelow 4 n
  | .canWakeReq n => wfBelow 4 n
  | .canWakeDetect n _ _ => wfBelow 4 n
  | .canCommit n _ => wfBelow 4 n
  | .canReferenceDue n => wfBelow 4 n
  | .canReferenceLost n => wfBelow 4 n
  | .recorderTokenRefill _ => true
  | .recorderIntervalTimer => true
  | .recPersistReq => true
  | .recorderWriteDone _ => true
  | .detailPageTimeout => true
  | .imageEraseDone => true
  | .imageSessionTimeout => true
  | .arbGrantConfirmed _ => true
  | .redAliveRefresh => true
  | .aliveRefreshTimeout => true
  | .beatSend => true
  | .partnerFrameReceive groups => wfGroups groups
  | .lastFastSetSend => true
  | .lastFullSetSend => true
  | .lastPersistTimer => true
  | .lastStaleTimeout => true
  | .partnerLinkTimeout => true
  | .fullLayerComplete cell => wfFrom 1 768 cell
  | .fullSequenceRequestTimer => true
  | .lastCopyDone _ => true
  | .configStoreDone kind => wfBelow 3 kind
  | .recorderEraseDone _ => true
  | .imageBlockStored => true
  | .imageVerifyDone _ _ => true
  | .canRxBufferHoldoffEnd n => wfBelow 4 n
  | .ethEventHoldoffEnd port _ => wfBelow 2 port
  | .tetherLinkChange port _ => wfBelow 2 port

end Sys2Proof
end

