-- ==== Sys2Proof/Tests/Slice0.lean ====
section
/-!
SUPPORT. Tests: an ill-formed command for every check of WellFormed, steps on small states with results that the spec
gives, and for every statement a state and operands that meet its hypotheses together, clause by clause.
-/

namespace Sys2Proof.Tests

set_option Elab.async false

open Sys2Proof.Machine

/-! Small states. -/

/-- In Run, with the Vamp and channel 1 on. -/
def up : State := { State.reset with mode := .run, saf := { ch1On := true } }

/-- Off. -/
def off : State := { State.reset with mode := .off, supply := { vinOk := false } }

/-- The Vamp is held in reset. -/
def held : State := { up with supply := { held := true } }

/-- In Run, with some fields of the supply as given. -/
def upWith (p : Supply) : State := { up with supply := p }

/-- In Run with one node, active and of version 3. -/
def one : State :=
  ((up.setFld Reg.SYS_CONFIG 5 0 1).setFld (Reg.TTH_NODE 0) 5 4 1).setFld (Reg.TTH_NODE 0) 11 8 3

/-- The same with some fields of the tether as given. -/
def oneWith (t : Tth) : State := { one with tth := t }

/-- In Run, with some fields of the sweep as given. -/
def swept (w : Swp) : State := { up with swp := w }

/-- In Run, with some fields of the estimation as given. -/
def est (e : Est) : State := { up with est := e }

/-- An announcement of clock class 6. -/
def announced : Announce := ⟨1, 0, 6, 0, 0, 0, 0, 0, false, false⟩

/-! Hypotheses of the statements about the machine as a whole. -/

theorem test_hyp_EmptyQueueStepIsOneCycle : State.reset.pending = [] := by decide

theorem test_hyp_EveryStepKeepsCanonicalForm : State.reset.wf ∧ step { up with pending := [.ppsPulseEnd] } =
    .next { up with tim := { up.tim with ppsOut := false } } := by unfold State.wf; exact ⟨by decide, rfl⟩

theorem test_hyp_CommandsKeepQueueAndOutputs : exec .ppsPulseEnd up =
    .next { up with tim := { up.tim with ppsOut := false } } := rfl

theorem test_hyp_QueueDrainsFirstInFirstOut : ({ up with pending := [.ppsPulseEnd, .timCapture] } : State).pending =
    .ppsPulseEnd :: [.timCapture] ∧ step { up with pending := [.ppsPulseEnd, .timCapture] } =
      .next { up with tim := { up.tim with ppsOut := false }, pending := [.timCapture] } := ⟨rfl, rfl⟩

theorem test_hyp_MemoryReadsWhatWasWritten : up.wf := by unfold State.wf; decide

/-- Both ends of a register. -/
theorem test_hyp_RegisterFieldReadsWhatWasWritten : up.wf ∧ 0 ≤ 31 ∧ 31 < 32 ∧ (4 < 5 ∨ 6 < 4) ∧
    Reg.SYS_STATE ≠ Reg.SYS_ID := by unfold State.wf; decide

theorem test_hyp_FlagSetCountsItsOccurrence : up.wf ∧ 31 < 32 ∧
    ∀ k, k < 8 → Reg.SYS_STAT ≠ Reg.SYS_STAT_COUNT + 4 * k := by unfold State.wf; decide

theorem test_hyp_StrobeMarksItsSource : up.wf ∧ 127 < 128 ∧ Src.TIM_PPS ≠ Src.EVT_QUEUE_OVERFLOW ∧
    Src.TIM_PPS ≠ Src.REC_RATE_LIMIT ∧ (up.strobe Src.TIM_PPS 0).pend Src.TIM_PPS = true ∧
    eventReg Reg.SYS_ID = false ∧ (up.rd Reg.EVT_QUEUE_BASE).toNat + 4096 ≤ 0x20F00000 := by unfold State.wf; decide +kernel

/-! Hypotheses of the statements about supply, reset, clocks and Boot. -/

theorem test_hyp_VinCommands : (off.mode = .off ∧ off.supply.nrstLow = false) ∧
    (({ off with supply := { nrstLow := true } } : State).mode = .off ∧
      ({ off with supply := { nrstLow := true } } : State).supply.nrstLow = true) ∧
    (up.wf ∧ up.vampOn = true ∧ up.supply.insoleHold = false) ∧
    ((upWith { insoleHold := true }).wf ∧ (upWith { insoleHold := true }).vampOn = true ∧
      (upWith { insoleHold := true }).supply.insoleHold = true) ∧ up.mode ≠ .off := by unfold State.wf; decide

theorem test_hyp_GateAndHoldupTest : (up.wf ∧ up.mode ≠ .off ∧ up.supply.testIin = none ∧ up.supply.thermalHold = false) ∧
    (upWith { testIin := some 5 }).supply.testIin.isSome = true ∧ (upWith { thermalHold := true }).supply.thermalHold = true ∧
    (up.vampOn = true ∧ up.links.vsUp = true) ∧
    ((upWith { testIin := some 5 }).wf ∧ (upWith { testIin := some 5 }).supply.testIin = some 5) ∧
    holdupResult 5 none false ≠ 0 := by unfold State.wf; decide +kernel

theorem test_hyp_ResetPin : (up.wf ∧ up.mode ≠ .off ∧ up.supply.nrstLow = false ∧ 1100 ≤ 1100 ∧ 999 < 1000) ∧
    (({ off with supply := { nrstLow := true } } : State).mode = .off ∧
      ({ off with supply := { nrstLow := true } } : State).supply.nrstLow = true ∧
      ({ off with supply := { nrstLow := true } } : State).supply.vinOk = true) ∧
    ((upWith { nrstLow := true }).mode ≠ .off ∧ (upWith { nrstLow := true }).supply.nrstLow = true) := by
  unfold State.wf; decide

theorem test_hyp_RestartNeedsValueAndOpenString : (up.vampOn = true ∧ up.allOpen = true) ∧
    (up.wf ∧ (0xA55B : Word) ≠ 0xA55A) ∧
    (({ up with saf := { readback := 0x5558 } } : State).wf ∧ ({ up with saf := { readback := 0x5558 } } : State).vampOn = true ∧
      ({ up with saf := { readback := 0x5558 } } : State).allOpen = false) ∧ held.vampOn = false := by
  unfold State.wf; decide

theorem test_hyp_ClockCommands : (up.wf ∧ up.vampOn = true ∧ 0 < 3 ∧ 2 < 3 ∧ up.mode ≠ .off ∧ up.bit Reg.CLK_STAT 11 = false) ∧
    ((upWith { refclkLost := true }).supply.refclkLost = true ∧ (upWith { refclkLost := true }).supply.held = false) ∧
    ((upWith { refclkLost := true, held := true }).supply.refclkLost = true ∧
      (upWith { refclkLost := true, held := true }).supply.held = true) ∧
    ((up.setBit Reg.CLK_STAT 11 true).wf ∧ (up.setBit Reg.CLK_STAT 11 true).mode ≠ .off ∧
      (up.setBit Reg.CLK_STAT 11 true).bit Reg.CLK_STAT 11 = true) := by unfold State.wf; decide +kernel

theorem test_hyp_TemperatureAndOperatingTime : (up.vampOn = true ∧ up.mode ≠ .off ∧ up.supply.thermalHold = false) ∧
    ((upWith { thermalHold := true }).supply.thermalHold = true ∧ (upWith { thermalHold := true }).supply.nrstLow = false) ∧
    ((upWith { thermalHold := true, nrstLow := true }).supply.thermalHold = true ∧
      (upWith { thermalHold := true, nrstLow := true }).supply.nrstLow = true) ∧
    10800 ≤ 10800 ∧ 13200 ≤ 13200 ∧ (10799 < 10800 ∨ 13200 < 10799) ∧ (13201 < 10800 ∨ 13200 < 13201) := by decide

theorem test_hyp_BootStartsFromItsState : 0 < 16 ∧ 15 < 16 := by decide

/-- In Boot, with steps 1 to 11 taken. -/
def booted (unconfigured : Bool) : State :=
  { State.reset with supply := { loaded := true, unconfigured := unconfigured } }

theorem test_hyp_BootEnds : ((booted true).supply.booting = true ∧ (booted true).vampOn = true ∧ (booted true).mode = .boot) ∧
    (booted true).checkFirmware 3 = none ∧
    ((booted true).checkFirmware 0 = some (booted true) ∧ (booted true).bootLoad.supply.unconfigured = true) ∧
    ((booted false).checkFirmware 0 = some (booted false) ∧ (booted false).bootLoad.supply.unconfigured = false) ∧
    ((booted true).wf ∧ (booted false).wf ∧ (booted true).supply.loaded = true ∧ (booted false).supply.loaded = true ∧
      (booted true).supply.unconfigured = true ∧ (booted false).supply.unconfigured = false) ∧
    (upWith { booting := false }).supply.booting = false := by unfold State.wf; decide +kernel

/-! Hypotheses of the statements about buses, links, events and the tether. -/

theorem test_hyp_RegisterWriteOrErrorResponse :
    (up.vampOn = true ∧ (up.busWrite .host Reg.TIM_CAP_SEL (setWins Reg.TIM_CAP_SEL 0 1)).isSome = true) ∧
    (up.vampOn = true ∧ up.busWrite .host 2 (setWins 2 0 1) = none) ∧ (3 ≠ 4) ∧ held.vampOn = false ∧
    (0x60000000 ≤ (0x60000000 : Word).toNat ∧ (0x63FFFFFF : Word).toNat < 0x64000000) ∧
    (0x63300000 ≤ 0x63BFFFFC ∧ 0x63BFFFFC < 0x63C00000) ∧ 0x3C00000 ≤ 0x3C00000 ∧
    Requester.bavin ≠ .firmware := by decide +kernel

/-- One bit of each kind: W1C in SYS_STAT, RW in EVT_ENABLE0, and one of SYS_ID that is neither. -/
theorem test_hyp_PlainWriteFollowsAccessCodes : up.wf ∧
    (getBit (regRow Reg.SYS_STAT).w1c 2 = true ∧ getBit (regRow Reg.SYS_STAT).rw 2 = false ∧
      getBit (regRow Reg.SYS_STAT).rwl 2 = false ∧ getBit 4 2 = true ∧ getBit 0 2 = false ∧ 2 < 32) ∧
    (getBit (regRow (Reg.EVT_ENABLE 0)).rw 31 = true ∧ getBit (regRow (Reg.EVT_ENABLE 0)).w1c 31 = false) ∧
    (getBit (regRow Reg.SYS_ID).rw 0 = false ∧ getBit (regRow Reg.SYS_ID).rwl 0 = false ∧
      getBit (regRow Reg.SYS_ID).w1c 0 = false ∧ getBit (regRow Reg.SYS_ID).w1s 0 = false) := by
  unfold State.wf; decide +kernel

theorem test_hyp_VampSoleLink : (up.vampOn = true ∧ up.links.vsUp = true ∧ up.links.lane true = (0, 0, 0) ∧
      up.links.lane false = (0, 0, 0) ∧ (1 ≠ 0 ∨ true = false) ∧ (0 ≠ 0 ∨ false = false) ∧ (0 < 2 ∨ 0 = 0) ∧
      (2 < 2 ∨ 0 = 0) ∧ 1 ≠ 0 ∧ 0 < 3) ∧
    ({ up with links := { soleFails := 3 } } : State).links.lane true = (0, 3, 0) ∧
    ({ up with links := { crossSole := 1 } } : State).links.lane true = (0, 0, 1) ∧
    ({ up with links := { vsUp := false } } : State).vampOn = true ∧
    ({ up with links := { vsUp := false } } : State).links.vsUp = false ∧ held.vampOn = false := by decide

theorem test_hyp_VampInsoleLink : (up.vampOn = true ∧ up.links.viFails < 3) ∧
    (({ up with links := { viFails := 3 } } : State).vampOn = true ∧
      ({ up with links := { viFails := 3 } } : State).links.viFails = 3) ∧
    (0x60000000 ≤ (0x60000000 : Word).toNat ∧ (0x63FFFFFF : Word).toNat < 0x64000000) ∧
    (0x5FFFFFFF : Word).toNat < 0x60000000 ∧ 0x64000000 ≤ (0x64000000 : Word).toNat := by decide

theorem test_hyp_EventCommands : (up.vampOn = true ∧ 127 < 128 ∧ 3 < 4 ∧ 126 < 127) ∧ held.vampOn = false ∧ 128 ≤ 128 := by
  decide

theorem test_hyp_CountClearClearsWhatIsAsked : up.wf ∧ 3 < 4 ∧ 127 < 128 := by unfold State.wf; decide

theorem test_hyp_TetherSlots : up.chainOn = true ∧ held.chainOn = false ∧ 0 < 2 ∧ 1 < 2 ∧
    (oneWith { locating := true }).vampOn = true ∧ (oneWith { locating := true }).tth.locating = true ∧
    up.tth.locating = false := by decide

/-- A finding of TONE, its acknowledgement held open or not. -/
def toned (o : Bool) : State :=
  { up with saf := { findings := [{ hazard := true, code := 2, ackOpen := o }] } }

theorem test_hyp_HeartbeatLoss : (up.wf ∧ up.chainOn = true ∧ (up.rxPair 0).lost = false ∧ (up.rxPair 1).lost = false) ∧
    (((oneWith { portB := { lost := true } }).rxPair 1).lost = true ∧ held.chainOn = false ∧
      (oneWith { portB := { lost := true } }).chainOn = true) ∧
    (up.mode ≠ .off ∧ (up.tapPair 0).lost = false ∧ (up.tapPair (1 - 0)).lost = false) ∧
    ((oneWith { tapB := { lost := true } }).mode ≠ .off ∧ ((oneWith { tapB := { lost := true } }).tapPair 0).lost = false ∧
      ((oneWith { tapB := { lost := true } }).tapPair (1 - 0)).lost = true ∧
      (oneWith { tapB := { lost := true } }).tth.chainLost = false) ∧
    ((toned true).finding true 2 0 = some { hazard := true, code := 2, ackOpen := true } ∧
      (toned true).toneSilent = true ∧ (toned true).vampOn = true) ∧
    ((toned false).finding true 2 0 = some { hazard := true, code := 2, ackOpen := false } ∧
      (toned false).toneSilent = true) := by unfold State.wf; decide

/-- A frame of a header and a payload with its CRC. -/
def framed (header : Nat) (payload : Bytes) : Bytes :=
  have h : Bytes := [BitVec.ofNat 8 (header / 256), BitVec.ofNat 8 header] ++ payload
  h ++ [BitVec.ofNat 8 (crc16 h / 256), BitVec.ofNat 8 (crc16 h)]

theorem test_hyp_TetherFrames : (one.chainOn = true ∧ held.chainOn = false ∧ 0 < 2 ∧ 1 < 2 ∧ 2 ≤ 2) ∧ 68 < (zeros 69).length ∧
    ((framed 0x410 (zeros 64)).length ≤ 68 ∧ (zeros 4).length ≤ 68 ∧ crcRight (zeros 4) = false) ∧
    ((framed 0x620 []).length ≤ 68 ∧ crcRight (framed 0x620 []) = true ∧ 1 = fieldBE (framed 0x620 []) 0 2 / 1024 ∧
      0x22 = fieldBE (framed 0x620 []) 0 2 / 16 % 64 ∧ 0x20 ≤ 0x22 ∧ 1 ≠ 0 ∧ 1 ≤ 48 ∧ one.nodeState 1 ≠ 0) ∧
    (crcRight (framed 0x410 (zeros 64)) = true ∧ fieldBE (framed 0x410 (zeros 64)) 0 2 / 16 % 64 < 0x20 ∧
      fieldBE (framed 0x410 (zeros 64)) 0 2 / 1024 = 1) ∧
    (crcRight (framed 0xC620 []) = true ∧ 48 < fieldBE (framed 0xC620 []) 0 2 / 1024 ∧
      0x20 ≤ fieldBE (framed 0xC620 []) 0 2 / 16 % 64) := by decide +kernel

/-- In Run with one node and an open record. -/
def opened (blocks : List (Nat × Bytes)) : State :=
  { one with swp := { opened := some { id := 1, instant := 0, cause := 0, current := 0, blocks := blocks } } }

theorem test_hyp_SilentNodes : (1 ≠ 0 ∧ 1 ≤ 48 ∧ (opened []).chainOn = true ∧
      (opened []).swp.opened = some { id := 1, instant := 0, cause := 0, current := 0 } ∧ (opened []).nodeState 1 = 1 ∧
      ([] : List (Nat × Bytes)).any (fun b => b.1 == 1) = false ∧ ((opened []).node 1).wait = none) ∧
    (48 ≤ 48 ∧ one.chainOn = true ∧ one.swp.opened = none ∧
      ((oneWith { nodes := [(1, { wait := some { op := 10, payload := [], port := 0, seq := 0, attempts := 1 } })] }).node
        1).wait = some { op := 10, payload := [], port := 0, seq := 0, attempts := 1 } ∧ 10 ≠ 4) ∧
    ((oneWith { identOut := true }).chainOn = true ∧ (oneWith { identOut := true }).tth.identOut = true) ∧
    (1 ≤ one.nodeCount ∧ one.vampOn = true ∧ one.nodeState 1 = 1 ∧ one.tth.enumerating = false) ∧ up.nodeState 1 ≠ 1 ∧
    (1000000 < (up.setFld Reg.SWP_RATE 18 16 1).sweepPeriod ∧ (up.setFld Reg.SWP_RATE 18 16 1).chainOn = true ∧
      (up.setFld Reg.SWP_RATE 18 16 1).tth.enumerating = false) ∧ (oneWith { enumerating := true, heal := true }).tth.heal = true ∧
    up.sweepPeriod ≤ 1000000 := by decide +kernel

theorem test_hyp_EnumerationAndCalibration : (one.wf ∧ one.chainOn = true ∧ one.tth.enumerating = false ∧
      one.tth.calibrating = false) ∧
    ((oneWith { enumerating := true }).chainOn = true ∧ (oneWith { enumerating := true }).tth.enumerating = true ∧
      (oneWith { enumerating := true }).tth.heal = false) ∧ held.chainOn = false ∧
    ((oneWith { broken := true }).chainOn = true ∧ (oneWith { broken := true }).tth.enumerating = false ∧
      (oneWith { broken := true }).tth.broken = true ∧ (oneWith { broken := true }).relayNow = false) ∧
    up.tth.broken = false ∧
    ((oneWith { enumerating := true }).wf ∧ (oneWith { enumerating := true }).vampOn = true ∧
      (oneWith { enumerating := true }).tth.loop = 0 ∧ (oneWith { enumerating := true }).echoesLeft = false) ∧
    (oneWith { enumerating := true, loop := 1 }).tth.loop ≠ 0 ∧
    ((oneWith { calibrating := true }).wf ∧ (oneWith { calibrating := true }).vampOn = true ∧
      (oneWith { calibrating := true }).tth.calibrating = true ∧ (oneWith { calibrating := true }).echoesLeft = false) := by
  unfold State.wf; decide +kernel

theorem test_hyp_WireTests : (1 ≠ 0 ∧ 1 ≤ one.nodeCount ∧ one.nodeState 1 = 1 ∧ one.tth.test = none ∧ one.chainOn = true) ∧
    (oneWith { test := some (1, []) }).tth.test = some (1, []) ∧ ([] : List (Nat × Bytes)).length < 3 ∧
    ((oneWith { test := some (1, [(0, []), (1, []), (2, [])]) }).tth.test = some (1, [(0, []), (1, []), (2, [])]) ∧
      (oneWith { test := some (1, [(0, []), (1, []), (2, [])]) }).vampOn = true) ∧
    3 ≤ [((0 : Nat), ([] : Bytes)), (1, []), (2, [])].length ∧ 48 ≤ 48 ∧ 48 ≠ 0 := by decide +kernel

/-! Hypotheses of the statements about sweeps, bursts and the estimation. -/

/-- The instant of sweep 1, fixed. -/
def fixed : Fix := { instant := 1, f := 2, cause := 3 }

theorem test_hyp_SweepCommands : (up.chainOn = true ∧ up.tth.enumerating = false ∧ up.swp.rebase = false ∧ up.swp.fix = none ∧
      up.burstState ≠ 3) ∧
    ({ up.setFld Reg.SWP_BURST_STAT 10 8 3 with swp := { burst := some { id := 1, band := 1, startMean := 0 } } } :
      State).burstState = 3 ∧
    ((swept { fix := some fixed }).swp.fix = some fixed ∧ (swept { fix := some fixed }).tim.chain.total < fixed.instant ∧
      (swept { fix := some fixed }).vampOn = true ∧ (swept { fix := some fixed }).replyDue = false ∧
      ({ swept { fix := some fixed } with tth := { identOut := true } } : State).replyDue = true) ∧
    ((swept { launched := some fixed, reading := some (some 0) }).wf ∧
      (swept { launched := some fixed, reading := some (some 0) }).swp.launched = some fixed ∧
      (swept { launched := some fixed, reading := some (some 0) }).swp.reading = some (some 0)) ∧
    ((swept { launched := some fixed, reading := some none }).swp.reading.bind id = none ∧
      (swept { launched := some fixed }).swp.reading.bind id = none) ∧
    up.swp.launched = none ∧ up.swp.opened = none ∧
    (opened []).swp.opened = some { id := 1, instant := 0, cause := 0, current := 0 } := by unfold State.wf; decide +kernel

/-- In Run at a rate step, with the steps allowed up to 4. -/
def slow (step : Nat) : State :=
  { ((up.setFld Reg.SWP_RATE 26 24 4).setFld Reg.SWP_RATE 18 16 step) with swp := { lowMs := 5000 } }

/-- The same below a threshold of 1 A, with whole windows of no current. -/
def calm (step : Nat) : State :=
  { (slow step).wr Reg.SWP_LOW_I 0x3F800000 with swp := { hundred := { count := 2000 }, ms := { count := 20000 } } }

theorem test_hyp_SweepRate : (5000 ≤ (slow 3).swp.lowMs ∧ (slow 3).burstRuns = false ∧ (slow 3).vampOn = true ∧
      (slow 3).rateStep < (slow 3).fld Reg.SWP_RATE 26 24 ∧ (slow 3).rateStep < 4) ∧
    up.swp.lowMs < 5000 ∧ 4 ≤ (slow 4).rateStep ∧ up.fld Reg.SWP_RATE 26 24 ≤ up.rateStep ∧
    ((slow 1).rateStep ≠ 0 ∧ (slow 1).lowCurrent ((slow 1).swp.hundred.means 2000) = false) ∧
    ((slow 0).rateStep = 0 ∧ (slow 0).lowCurrent ((slow 0).swp.hundred.means 2000) = false) ∧
    ((calm 1).lowCurrent ((calm 1).swp.hundred.means 2000) = true ∧
      (calm 1).lowCurrent ((calm 1).swp.ms.means 20000) = true) := by decide +kernel

/-- In a state of the burst machine, with a burst of band 1 of which some points stand. -/
def burstAt (k points : Nat) : State :=
  { up.setFld Reg.SWP_BURST_STAT 10 8 k with
    swp := { burst := some { id := 1, band := 1, startMean := 0, points := points }, lastInstant := some 0, bands := [1] } }

/-- The same without points. -/
def bursting (k : Nat) : State := burstAt k 0

/-- The same once its lead-in is over. -/
def ledIn : State := { bursting 2 with swp := { (bursting 2).swp with lastInstant := some 10000000000 } }

/-- The same with the main pairs closed, one node of version 3 and currents allowed. -/
def readyToStart : State :=
  { (one.setFld Reg.SWP_BURST_STAT 10 8 1).setFld Reg.SWP_BURST_ID 15 0 65535 with
    swp := { bands := [1], seconds := List.replicate 5 (some 0) }, saf := { readback := 0x5588 } }

theorem test_hyp_BurstCommands : (up.vampOn = true ∧ up.fld Reg.SWP_BURST_CFG 23 16 = 0 ∧ up.fld Reg.SWP_BURST_CFG 15 0 = 0) ∧
    (up.setFld Reg.SWP_BURST_CFG 15 0 1).fld Reg.SWP_BURST_CFG 15 0 ≠ 0 ∧
    (up.setFld Reg.SWP_BURST_CFG 23 16 1).fld Reg.SWP_BURST_CFG 23 16 ≠ 0 ∧
    (readyToStart.vampOn = true ∧ readyToStart.swp.bands = 1 :: [] ∧ readyToStart.burstState = 1 ∧
      readyToStart.burstReady 1 = true) ∧
    (bursting 0).burstState ≠ 1 ∧ (bursting 0).burstState ≠ 4 ∧ (bursting 1).burstState = 1 ∧
    (ledIn.swp.burst = some { id := 1, band := 1, startMean := 0 } ∧ ledIn.swp.lastInstant = some 10000000000 ∧
      ledIn.burstState = 2 ∧ ledIn.replyDue = false ∧ 0 + 4096 * bandPeriod 1 * 1000 ≤ 10000000000) ∧
    ((bursting 2).swp.lastInstant = some 0 ∧ 0 + ((bursting 2).deadlineNs + (bursting 2).sampleDelay + 4000 + 99999) / 100000 *
      100000 < 0 + 4096 * bandPeriod 1 * 1000) ∧
    ((burstAt 3 4095).swp.burst = some { id := 1, band := 1, startMean := 0, points := 4095 } ∧
      (burstAt 3 4096).burstState = 3 ∧ 4095 < 4096 ∧ 4096 ≤ 4096 ∧ 41 < 42 ∧ 41 ≤ 41) ∧
    (bursting 4).burstState = 4 ∧ (bursting 5).burstState = 5 := by decide +kernel

/-- In Run with a context of cell 1. -/
def hosted (c : Ctx) : State := est { ctxs := [(1, c)], monitored := [1] }

theorem test_hyp_EstimationLayers : up.est.delivered = false ∧
    (({ est { delivered := true } with swp := { record := some ([], []) } } : State).est.delivered = true ∧
      ({ est { delivered := true } with swp := { record := some ([], []) } } : State).swp.record = some ([], [])) ∧
    up.ctx 1 = none ∧
    ((hosted { unit := 0, started := true, horizonDue := true }).ctx 1 =
        some { unit := 0, started := true, horizonDue := true } ∧
      (hosted { unit := 0, started := true, horizonDue := true }).vampOn = true ∧
      (hosted { unit := 0, started := true, horizonDue := true }).unitLives 0 = true ∧
      (hosted { unit := 0, started := true, horizonDue := true }).fastBusy 0 = false ∧
      (hosted { unit := 0, started := true, horizonDue := true }).fullBusy 0 = false) ∧
    (hosted { unit := 0 }).ctx 1 = some { unit := 0 } ∧ (est { delivered := true }).fastBusy 0 = true ∧
    ((hosted { unit := 287, replaying := true }).ctx 1 = some { unit := 287, replaying := true } ∧
      (hosted { unit := 287, replaying := true }).unitLives 287 = true ∧
      (hosted { unit := 287, replaying := true }).est.delivered = false) := by decide +kernel

theorem test_hyp_ArrayFaults : (up.vampOn = true ∧ 0 < 288 ∧ 287 < 288) ∧ (clusterExists 1 1 = true ∧ clusterExists 8 4 = true ∧
      up.est.scratchAt.find? (fun p => p.1 == (clusterUnits 8 4).headD 0) = none) ∧
    ((est { scratchAt := [(0, 0)] }).est.scratchAt.find? (fun p => p.1 == (clusterUnits 1 1).headD 0) = some (0, 0) ∧
      (est { scratchAt := [(0, 0)] }).monoNs ≤ 0 + 1000000000) ∧ clusterExists 8 1 = true := by decide +kernel

theorem test_hyp_PlacementCommands : (est { replanAll := true }).planDue = true ∧ up.planDue = false ∧ up.vampOn = true ∧
    (est { plan := some {} }).est.plan.isSome = true ∧ (hosted { unit := 0, level := 1 }).est.plan = none ∧
    (hosted { unit := 0, level := 1 }).est.replanAll = false ∧ (hosted { unit := 0, level := 1 }).est.leaving = [] ∧
    (hosted { unit := 0, level := 1 }).est.overloaded = [] ∧ (hosted { unit := 0, level := 1 }).highest
      ((hosted { unit := 0, level := 1 }).est.monitored.filter (fun c =>
        !(hosted { unit := 0, level := 1 }).est.raised.any (fun p => p.1 == c &&
          decide ((hosted { unit := 0, level := 1 }).tim.mono.sec < p.2 + 10)) &&
        ((hosted { unit := 0, level := 1 }).raiseUnit c).isSome)) = some 1 := by decide +kernel

theorem test_hyp_EstimationCommands : up.vampOn = true ∧ up.est.running = none ∧
    ((est { running := some 4 }).est.running = some 4 ∧ (est { running := some 4 }).vampOn = true) ∧ 4 ≠ 5 ∧
    ({ est { running := some 4 } with cmd := { estOp := some 7 } } : State).cmd.estOp = some 7 := by decide

/-- A journal record. -/
def record : JournalRec := ⟨1, 0, 0, 0, 0, 0, 0, []⟩

/-- In Run with a closed record and the string at rest. -/
def rested : State := { up with swp := { restSince := some 0, record := some ([], []) } }

theorem test_hyp_AnchorsAndJournal : (rested.vampOn = true ∧ rested.est.anchorArmed = true ∧
      rested.swp.restSince.isSome = true ∧ rested.swp.record = some ([], [])) ∧
    (est { anchorArmed := false }).est.anchorArmed = false ∧ up.anchorHours < 24 ∧
    ((upWith { opSeconds := 86400 }).wf ∧ 24 ≤ (upWith { opSeconds := 86400 }).anchorHours) ∧
    (up.program = none ∧ up.est.readOnly = false ∧ up.journalBusy = false ∧ up.boundaryAhead = false ∧
      rested.boundaryAhead = true ∧ rested.journalBusy = false ∧ rested.program = none) ∧
    ((est { erasing := true }).journalBusy = true ∧ (est { erasing := true }).est.held = []) ∧
    ((est { writing := some record }).est.writing = some record ∧ (est { writing := some record }).spoilt 4 = false ∧
      (est { writing := some record }).est.retried = false) ∧
    (est { writing := some record, retried := true }).est.retried = true ∧
    ((est { erasing := true }).vampOn = true ∧ (est { erasing := true }).est.erasing = true ∧
      (est { erasing := true }).insoleTurn .journalErase = true) ∧
    ((est { writing := some record }).insoleTurn .journal = true ∧
      (est { writing := some record, retried := true }).insoleTurn .journal = true) ∧
    ((upWith { insoleHold := true }).insoleTurn .journalErase = false ∧
      (upWith { insoleHold := true }).insoleTurn .persist = false ∧
      (upWith { insoleHold := true }).insoleTurn .journal = false) ∧
    (({ up with prg := { persistWriting := some (0, ⟨0, 0, 0, []⟩) }, links := { insole := [.persist] } } : State).insoleTurn
        .persist = true ∧ up.supply.insoleHold = false ∧ up.est.writing = none) ∧
    up.spoilt (2 + b2n (up.bit Reg.PRG_STATE 10)) = false ∧
    (({ up with prg := { persistWriting := some (0, ⟨0, 0, 0, []⟩) } } : State).prg.persistWriting = some (0, ⟨0, 0, 0, []⟩) ∧
      ({ up with prg := { persistWriting := some (0, ⟨0, 0, 0, []⟩) } } : State).prg.persistHeld = false) := by
  unfold State.wf; decide +kernel

/-! Hypotheses of the statements about control slots, outputs and the PCS. -/

/-- In Run, slot n runs with trigger source src, and its record is as given. -/
def slotted (n src : Nat) (x : Slot) : State :=
  { (up.setBit Reg.CTL_RUN n true).setFld (Reg.CTL_SLOT_TRIG n) 31 29 src with ctl := { slots := [(n, x)] } }

/-- The same with accepted triggers that wait: their arguments and slots, oldest first. -/
def queued (n src : Nat) (x : Slot) (q : List (Nat × Nat)) : State :=
  { slotted n src x with ctl := { slots := [(n, x)], trigs := q } }

theorem test_hyp_ControllerCommands : (up.vampOn = true ∧ up.links.vsUp = true) ∧
    (({ up with links := { vsUp := false } } : State).vampOn = true ∧ ({ up with links := { vsUp := false } } : State).links.vsUp =
      false) ∧ (up.running 0 = false ∧ (slotted 15 0 {}).trigSource 15 = 0) ∧
    (15 < 16 ∧ (slotted 15 5 { lastTrig := some 0 }).running 15 = true ∧ (slotted 15 5 { lastTrig := some 0 }).trigSource 15 = 5 ∧
      (slotted 15 5 { lastTrig := some 0 }).tooEarly 15 = true ∧ (slotted 15 6 {}).trigSource 15 = 6 ∧
      (slotted 15 6 {}).tooEarly 15 = false) ∧
    ((slotted 0 1 {}).running 0 = true ∧ (slotted 0 1 {}).trigSource 0 = 1 ∧
      ((slotted 0 1 {}).setFld (Reg.CTL_SLOT_TRIG 0) 24 17 0).fld (Reg.CTL_SLOT_TRIG 0) 24 17 ≤ ((slotted 0 1 {}).slot 0).events ∧
      0 < ((slotted 0 1 {}).setFld (Reg.CTL_SLOT_TRIG 0) 24 17 1).fld (Reg.CTL_SLOT_TRIG 0) 24 17) ∧ up.waiting 0 = 0 ∧
    ((queued 0 1 {} [(0, 0)]).ctl.trigs = (0, 0) :: [] ∧ (queued 0 1 {} []).slotRuns 0 = true ∧ up.slotRuns 0 = false ∧
      (queued 0 1 { lastTrig := some 0 } []).tooEarly 0 = true ∧ (queued 0 1 {} []).tooEarly 0 = false ∧
      (queued 0 5 {} []).trigSource 0 = 5 ∧ (queued 0 5 {} []).slotRuns 0 = true ∧ (queued 0 1 {} []).links.vsUp = true) ∧
    ((queued 0 1 {} [(0, 1), (0, 0)]).ctl.trigs = (0, 1) :: [(0, 0)] ∧ (queued 0 1 {} [(0, 1), (0, 0)]).waiting 0 ≠ 0) ∧
    (getBit 1 0 = true ∧ getBit 0 0 = false) ∧
    (up.setBit Reg.CTL_AWL_CTRL 0 true).bit Reg.CTL_AWL_CTRL 0 = true ∧
    ((slotted 0 1 {}).wf ∧ (slotted 0 1 {}).bit Reg.CTL_AWL_CTRL 0 = false ∧ (slotted 0 1 {}).awlBar = 0) ∧
    up.awlBar ≠ 0 := by unfold State.wf; decide +kernel

theorem test_hyp_PulseWidthAndTrips : up.bit (Reg.PWM_TB_CFG 3) 31 = false ∧
    (3 < 4 ∧ (up.setBit (Reg.PWM_TB_CFG 3) 31 true).bit (Reg.PWM_TB_CFG 3) 31 = true ∧
      (up.setBit (Reg.PWM_TB_CFG 3) 31 true).bit (Reg.PWM_TB_CFG 3) 15 = false ∧
      (up.setBit (Reg.PWM_TB_CFG 3) 31 true).ctl.tbHold.find? (fun p => p.1 == 3) = none ∧
      (up.setFld (Reg.PWM_TB_CFG 3) 31 0 0x80008000).bit (Reg.PWM_TB_CFG 3) 15 = true ∧
      (up.setFld (Reg.PWM_TB_CFG 3) 31 0 0x80008000).fld (Reg.PWM_TB_CFG 3) 7 0 = 0) ∧
    up.fld (Reg.PWM_CH_CFG 15) 21 20 ≠ 1 ∧
    (15 < 16 ∧ (up.setFld (Reg.PWM_CH_CFG 15) 21 20 1).fld (Reg.PWM_CH_CFG 15) 21 20 = 1 ∧
      (up.setFld (Reg.PWM_CH_CFG 15) 21 20 1).complement 15 = false ∧
      (((up.setFld (Reg.PWM_CH_CFG 15) 21 20 1).loadCmp 15).pwmChan 15).live = false) ∧
    (up.bit (Reg.SOLE_CMP_CFG 0) 30 = false ∧ up.bit (Reg.SOLE_CMP_CFG 0) 31 = false) ∧
    (3 < 4 ∧ up.vampOn = true ∧ (up.setBit (Reg.SOLE_CMP_CFG 3) 30 true).bit (Reg.SOLE_CMP_CFG 3) 30 = true) ∧
    up.wf ∧ getBit 1 0 = true := by unfold State.wf; decide +kernel

/-- A request frame of a format with its CRC. -/
def pcsFrame (format : Byte) : Bytes :=
  have h : Bytes := format :: zeros 29
  h ++ [BitVec.ofNat 8 (crc16 h / 256), BitVec.ofNat 8 (crc16 h)]

/-- In Run, with some fields of the PCS as given. -/
def pcs (p : Pcs) : State := { up with pcs := p }

/-- In Run with a whole 100 ms window of no current, and requests that report one of measured sum w. -/
def compared (w : Word) : State := { pcs { measCount := 1, measSum := w } with swp := { tenth := { count := 2000000 } } }

theorem test_hyp_PcsExchange : (up.vampOn = true ∧ up.mode ≠ .standby ∧ ({ up with mode := .standby } : State).mode = .standby) ∧
    (32 < (zeros 33).length ∧ (zeros 31).length < 32 ∧ (zeros 32).length = 32 ∧ crcRight (zeros 32) = false ∧
      (pcsFrame 2).length = 32 ∧ crcRight (pcsFrame 2) = true ∧ fieldLE (pcsFrame 2) 0 1 ≠ 1 ∧
      (pcsFrame 1).length = 32 ∧ crcRight (pcsFrame 1) = true ∧ fieldLE (pcsFrame 1) 0 1 = 1 ∧
      (pcs { lastEdge := some 0 }).pcsEarly = true ∧ up.pcsEarly = false) ∧ up.wf ∧
    Requester.host ≠ .firmware ∧ (getBit 1 0 = true ∧ getBit 0 0 = false) ∧
    ((pcs { lossStands := true }).pcs.lossStands = true ∧ up.rd Reg.PCS_CYCLE = 0 ∧ up.pcs.readyAt = none) ∧
    ((up.wr Reg.PCS_CYCLE 1).wf ∧ (up.wr Reg.PCS_CYCLE 1).pcs.lossStands = false ∧ (up.wr Reg.PCS_CYCLE 1).rd Reg.PCS_CYCLE ≠ 0) ∧
    ((pcs { readyAt := some 0 }).wf ∧ (pcs { readyAt := some 0 }).pcs.lossStands = false ∧
      (pcs { readyAt := some 0 }).pcs.readyAt.isSome = true) ∧
    (up.swp.tenth.means 2000000 = none ∧ up.pcs.measCount = 0) ∧
    ((compared 0).swp.tenth.means 2000000 = some (0, 0) ∧ (compared 0).pcs.measCount ≠ 0 ∧ (compared 0x3F800000).wf ∧
      f32Lt ((compared 0).ratedPart 50) (f32Abs (f32Sub 0 (f32Div (compared 0).pcs.measSum (f32OfInteger 1)))) = false ∧
      f32Lt ((compared 0).ratedPart 50)
        (f32Abs (f32Sub 0 (f32Div (compared 0x3F800000).pcs.measSum (f32OfInteger 1)))) = true) ∧
    ((up.setFld Reg.PCS_DISP_LEASE 15 0 60000).wf ∧ (up.setFld Reg.PCS_DISP_LEASE 15 0 60000).dispatchBar 0 0 60000 = 0 ∧
      (up.setFld Reg.PCS_DISP_LEASE 15 0 60000).rd Reg.PCS_DISP_CHG = 0 ∧
      (up.setFld Reg.PCS_DISP_LEASE 15 0 60000).rd Reg.PCS_DISP_DIS = 0 ∧
      (up.setFld Reg.PCS_DISP_LEASE 15 0 60000).fld Reg.PCS_DISP_LEASE 15 0 = 60000) ∧
    up.pcs.leaseEnd = none ∧ (pcs { leaseEnd := some 5 }).pcs.leaseEnd.isSome = true ∧
    ((up.setFld Reg.PCS_CONFIG 19 18 0).fld Reg.PCS_CONFIG 19 18 = 0 ∧
      (up.setFld Reg.PCS_CONFIG 19 18 2).fld Reg.PCS_CONFIG 19 18 = 2) := by unfold State.wf; decide +kernel

/-! Hypotheses of the statements about the safety channels and the Welt layer. -/

/-- In Run, with the safety function as given. -/
def safe (x : Saf) : State := { up with saf := x }

/-- A cross-check record that asks for nothing. -/
def quietCross : Cross := ⟨[], none, 0, 0, false, false, none, none, none, 0⟩

/-- In Run with a rated current of 100 A, channel 2's Drogue begun or not, and windows of no current. -/
def rated (d : Option Nat) : State :=
  { safe { ch1On := true, ch2 := { drogueAt := d, ms := { count := 20000 }, hundred := { count := 2000000 } } } with
    cfg := { items := [(2565, [0x42C80000])] } }

theorem test_hyp_SafetyCycles : (up.safOn 1 = true ∧ up.safOn 2 = true) ∧ (off.safOn 1 = false ∧ off.safOn 2 = false) ∧
    ((safe { ch1On := true, ch1 := { tx := some quietCross } }).saf.ch1.tx = some quietCross ∧
      (safe { ch1On := true, ch2 := { tx := some quietCross } }).saf.ch2.tx = some quietCross ∧
      (safe { ch1On := true, ch2 := { tx := some quietCross } }).safOn 1 = true ∧
      (safe { ch1On := true, ch2 := { tx := some quietCross } }).links.vsUp = true ∧ quietCross.crc = none) ∧
    ({ up with links := { vsUp := false } } : State).links.vsUp = false ∧
    (∃ f ∈ (safe { findings := [{ hazard := true, code := 1, lat1 := true }] }).saf.findings,
      f.exempt = false ∧ f.lat1 ≠ f.lat2) ∧
    (∀ f ∈ up.saf.findings, f.exempt = false → f.lat1 = f.lat2) ∧ (124 < 125 ∧ 125 ≤ 125 ∧ 1000 ≤ 1000 ∧ 1000 < 1001) ∧
    (isChannel 1 = true ∧ isChannel 2 = true) ∧
    (up.safOn 2 = true ∧ (up.safChan 2).drogueAt = none ∧ ((up.unfind 2 true 1 0).safChan 2).shuntAt = none ∧
      (up.safChan 2).ms.count ≠ 20000 ∧ (up.safChan 2).hundred.count ≠ 2000000 ∧ isChannel 1 = true) ∧
    ((rated (some 0)).safOn 2 = true ∧ ((rated (some 0)).safChan 2).drogueAt.isSome = true ∧
      ((rated (some 0)).safChan 2).ms.count = 20000 ∧ ((rated (some 0)).safChan 2).hundred.count = 2000000 ∧
      (rated (some 0)).sensorMean 0 20000 0 = 0 ∧ (rated (some 0)).nearZero (some 0) = true ∧
      (((rated (some 0)).endDrogue 2 2).safChan 2).shuntAt = none) ∧
    up.cfgN 10 9 0 100 ≤ ({ (up.safChan 1) with slowMs := 100 } : SafChan).slowMs ∧ (up.safChan 1).slowMs < up.cfgN 10 9 0 100 ∧
    ((safe { ch1 := { meanA := some 0, meanB := some 0 } }).slowOver
      ((safe { ch1 := { meanA := some 0, meanB := some 0 } }).safChan 1).current = true) ∧
    up.slowOver (up.safChan 1).current = false := by decide +kernel

/-- In Run with input 15 of type 1 and function fn. -/
def wired (fn : Word) : State :=
  { up with cfg := { items := [(2577, List.replicate 60 0 ++ [1, fn, 0, 10000])] } }

/-- Table 8.2 during and after a pulse: a closed pair's high side off, a low side off, and an open pair's high side on. -/
theorem test_pulse_patterns : (⟨0, true, false⟩ : Pulse).passes 0 8 = true ∧ (⟨1, true, false⟩ : Pulse).passes 10 8 = true ∧
    (⟨6, false, false⟩ : Pulse).passes 10 5 = true ∧ (⟨1, true, false⟩ : Pulse).passes 8 8 = false ∧
    (⟨6, false, false⟩ : Pulse).passes 10 8 = false := by decide

/-- In Run with a test pulse on a switch in hand. -/
def pulsed (sw : Nat) (broken : Bool) : State := safe { pulse := some ⟨sw, true, broken⟩ }

theorem test_hyp_SafetyTests : up.pairMatches 1 = true ∧
    (1 ≤ 4 ∧ 4 ≤ 4 ∧ (safe { readback := 0x8555 }).pulseOff 4 = true ∧ (safe { readback := 0x8555 }).pairMatches 4 = false ∧
      (safe { readback := 0x8555 }).highOn 4 = false ∧ (safe { readback := 0x8555 }).lowOn 4 = false ∧
      (safe { readback := 0x8555 }).pairLevels 4 = 8) ∧
    ((safe { readback := 0x5550 }).pairMatches 1 = false ∧ (safe { readback := 0x5550 }).pulseOff 1 = true ∧
      (safe { readback := 0x5550 }).pairLevels 1 ≠ 8 ∧ (safe { readback := 0x5550 }).pairLevels 1 ≠ 1) ∧
    ((up.setFld Reg.SAF_TP_STAT 15 14 3).fld Reg.SAF_TP_STAT (2 * 7 + 1) (2 * 7) = 3 ∧
      up.fld Reg.SAF_TP_STAT (2 * 7 + 1) (2 * 7) ≠ 3) ∧ up.saf.pulse = none ∧
    (pulsed 7 true).saf.pulse = some ⟨7, true, true⟩ ∧
    ((pulsed 7 false).wf ∧ (pulsed 7 false).saf.pulse = some ⟨7, true, false⟩ ∧ (pulsed 7 false).holdsHazard 1 = false ∧
      (pulsed 7 false).holdsHazard 2 = false ∧ (pulsed 7 false).drogue = false ∧ 7 < 8) ∧ up.mirrorInput 1 = none := by
  unfold State.wf; decide +kernel

/-- Mirror contacts: agreeing and not, of a pair with one and of the middle pair with the other's. -/
theorem test_hyp_SafetyTests_mirror :
    (isChannel 2 = true ∧ (wired 5).mirrorInput 3 = some 15 ∧
      ({ wired 5 with saf := { ch1 := { sw := 4 }, ch2 := { sw := 4 } } } : State).highOn 3 = true ∧
      ({ wired 5 with saf := { ch1 := { sw := 4 }, ch2 := { sw := 4 } } } : State).lowOn 3 = true ∧
      ({ wired 5 with saf := { ch1 := { sw := 4 }, ch2 := { sw := 4 } } } : State).mirrorInput 3 = some 15 ∧
      (wired 5).mirrorClosed 2 15 = true ∧ (wired 5).mirrorAgrees 2 3 = false ∧
      ({ wired 5 with saf := { ch2 := { lines := 3 * 2 ^ 30 } } } : State).mirrorAgrees 2 3 = true ∧
      ({ wired 5 with saf := { ch1 := { sw := 4 }, ch2 := { sw := 4 } } } : State).saf.ch1.sw / 4 % 2 = 1 ∧
      (wired 3).mirrorInput 1 = some 15 ∧ (wired 3).mirrorAgrees 2 1 = false ∧ (wired 3).commandedClosed 1 = false ∧
      (wired 3).mirrorInput (3 - 1) = none ∧
      ({ wired 3 with saf := { ch1 := { sw := 1 }, ch2 := { sw := 1, lines := 2 ^ 31 } } } : State).commandedClosed 1 = true ∧
      ({ wired 3 with saf := { ch1 := { sw := 1 }, ch2 := { sw := 1, lines := 2 ^ 31 } } } : State).mirrorAgrees 2 1 = false ∧
      ({ wired 5 with saf := { ch2 := { lines := 2 ^ 31 } } } : State).mirrorClosed 2 15 = false) := by decide +kernel

/-- Unmeasured cells, input levels, acknowledgement, CLOSE and the parameter CRCs. -/
theorem test_hyp_SafetyTests_inputs :    (1 ≤ 768 ∧ 768 ≤ (up.setFld Reg.SYS_CONFIG 25 16 768).cellCount ∧ up.vampOn = true ∧
      (up.setFld Reg.SYS_CONFIG 25 16 768).nodeList = [] ∧
      up.cellCount < 1) ∧ (15 < 16 ∧ 1 < 2) ∧ 10000 ≤ up.discTicks 15 ∧
    ((({ wired 0 with saf := { ch2 := { lines := 2 ^ 31 } } } : State).inputCause 15).isSome = true ∧
      ({ wired 0 with saf := { ch2 := { lines := 2 ^ 31 } } } : State).discTicks 15 < 10001 ∧
      ({ wired 0 with saf := { ch2 := { lines := 2 ^ 31 } } } : State).lineDemands 2 15 0 ≠
        ({ wired 0 with saf := { ch2 := { lines := 2 ^ 31 } } } : State).lineDemands 2 15 1) ∧
    (4999 < 5000 ∧ 200000 < 200001 ∧ (wired 6).inputType 15 ≠ 0 ∧ (wired 6).inputFunction 15 = 6 ∧ 5000 ≤ 5000 ∧
      200000 ≤ 200000) ∧ (0 : Word) ≠ 0x5AC3 ∧ up.wf ∧
    (up.safOn 1 = true ∧ up.safOn 2 = true ∧ (0 : Word) = up.saf.ch2.crc ∧ (1 : Word) ≠ up.saf.ch2.crc ∧
      (0 : Word) = up.saf.ch1.crc ∧ (1 : Word) ≠ up.saf.ch1.crc) ∧
    (up.cfgN 10 20 0 1 / 2 % 2 ≠ 1 ∨ up.links.vsUp = true) ∧
    (({ up with cfg := { items := [(10 * 256 + 20, [2])] } } : State).cfgN 10 20 0 1 / 2 % 2 = 1) ∧
    ({ up with links := { vsUp := false } } : State).links.vsUp = false ∧ ((safe { readback := 0x1555 }).pairLevels 4 = 1) := by unfold State.wf; decide +kernel

/-- In Run with connection c enabled and in a state, a producer or a consumer. -/
def welt (c k : Nat) (producer : Bool) : State :=
  ((up.setBit (Reg.WLT_CONN_CFG c) 31 true).setBit (Reg.WLT_CONN_CFG c) 30 producer).setFld (Reg.WLT_CONN_STAT c) 31 30 k

theorem test_hyp_WeltCommands : held.weltOn = false ∧ (up.weltOn = true ∧ 3 < 4 ∧ 4 ≤ 4) ∧
    ((welt 31 1 false).weltOn = true ∧ (welt 31 1 false).weltEnabled 31 = true ∧ (welt 31 1 false).weltProducer 31 = false ∧
      (welt 31 1 false).weltState 31 = 1) ∧
    ((welt 31 2 true).weltEnabled 31 = true ∧ (welt 31 2 true).weltProducer 31 = true ∧ (welt 31 2 true).weltState 31 = 2) ∧
    (31 < 32 ∧ (welt 31 2 false).weltEnabled 31 = true ∧ (welt 31 2 false).weltProducer 31 = false ∧
      (welt 31 2 false).weltState 31 = 2) ∧ up.weltState 31 ≠ 2 ∧ up.weltState 31 ≠ 3 ∧ up.vampOn = true ∧
    ((welt 0 3 false).weltEnabled 0 = true ∧ ((welt 0 3 false).setBit (Reg.WLT_CONN_CFG 0) 24 true).bit
        (Reg.WLT_CONN_CFG 0) 24 = true ∧ (welt 0 3 false).weltState 0 = 3) := by decide +kernel

/-! Hypotheses of the statements about programs. -/

/-- A program of one task, one symbol, one function and one station, with this code. -/
def program (code : Bytes) : Program :=
  { progId := 1, symbols := [{ identity := 1, ty := 2, cls := 2, owner := 0, elements := 1 }], code := code,
    tasks := [(0, { event := false, priority := 1, period := 4 })], functions := [{ entry := 0 }],
    stations := [(63, { identity := 1, carrier := 4, address := 0, exchMs := 1, replyMs := 1, missLimit := 1, owner := 0,
                        inLen := 0, outLen := 0 })] }

/-- In Run with running tasks. -/
def tasking : State := up.setFld Reg.PRG_STATE 2 0 2

/-- In Run with the program running and task 0 on core 0 in the context given. -/
def bavin (code : Bytes) (c : TaskCtx) : State :=
  { tasking with prg := { core0 := some 0, tasks := [(0, { ctx := some c })], bankA := some (program code) } }

/-- The same with nothing on core 0 and the tasks' records as given. -/
def idle0 (k : Nat) (x : TaskRt) (st : List (Nat × Station)) : State :=
  { tasking with prg := { tasks := [(k, x)], bankA := some (program []), stations := st } }

theorem test_tasking : tasking.tasksRun = true ∧ tasking.bit Reg.PRG_STATE 10 = false ∧
    (List.range 48).filter (fun k => tasking.bit (Reg.PRG_TASK_CFG k) 31 && tasking.taskCore k == 0 &&
      (tasking.taskState k == 1 || tasking.taskState k == 2 || tasking.taskState k == 3)) = [] := by decide +kernel

/-- Any bytes stand at the position of a task at the start of its code, with any stack. -/
theorem test_hyp_standsAt (code : Bytes) (c : TaskCtx) (h : c.pc = 0) : (bavin code c).standsAt 0 0 c code := by
  have none_ : (bavin code c).bestTask 0 = none := congrArg (List.foldl _ none) test_tasking.2.2
  refine ⟨rfl, rfl, test_tasking.1, rfl, by rw [none_]; rfl, program code, ?_, ?_⟩
  · show (if tasking.bit Reg.PRG_STATE 10 = true then none else some (program code)) = _
    rw [test_tasking.2.1]; rfl
  · simp [slice, h, program]

/-- The program tasks run, with task 0 enabled, in a state and with a record. -/
def taskIn (k : Nat) (x : TaskRt) : State :=
  ((idle0 0 x []).setBit (Reg.PRG_TASK_CFG 0) 31 true).setFld (Reg.PRG_TASK_STAT 0) 30 28 k

theorem test_hyp_TaskScheduling : (up.tasksRun = false ∧ 16 ≤ 16 ∧ tasking.bit (Reg.PRG_TASK_CFG 15) 31 = false) ∧
    ((tasking.setBit (Reg.PRG_TASK_CFG 15) 31 true).vampOn = true ∧
      (tasking.setBit (Reg.PRG_TASK_CFG 15) 31 true).tasksRun = true ∧ 15 < 16 ∧
      (tasking.setBit (Reg.PRG_TASK_CFG 15) 31 true).bit (Reg.PRG_TASK_CFG 15) 31 = true ∧
      (tasking.setBit (Reg.PRG_TASK_CFG 15) 31 true).taskState 15 = 0) ∧
    (taskIn 5 {}).taskState 0 = 5 ∧
    ((taskIn 1 {}).wf ∧ (taskIn 1 {}).vampOn = true ∧ (taskIn 1 {}).tasksRun = true ∧ 0 < 16 ∧
      (taskIn 1 {}).bit (Reg.PRG_TASK_CFG 0) 31 = true ∧ (taskIn 1 {}).taskState 0 = 1 ∧
      (taskIn 1 {}).fld (Reg.PRG_TASK_CFG 0) 23 20 ≠ 1) ∧
    up.program = none ∧ (idle0 0 {} []).bestTask 0 = none ∧
    ((taskIn 1 {}).program = some (program []) ∧ (taskIn 1 {}).bestTask 0 = some 0 ∧ 0 < 2 ∧
      (taskIn 1 {}).onCore 0 ≠ some 0 ∧ (taskIn 1 {}).prg.halted.contains 0 = false) ∧
    ((taskIn 3 {}).program = some (program []) ∧ (taskIn 3 {}).bestTask 0 = some 0 ∧ (taskIn 3 {}).taskState 0 ≠ 1 ∧
      (taskIn 3 {}).onCore 0 ≠ some 0 ∧ (taskIn 3 {}).prg.halted.contains 0 = false ∧ (taskIn 3 {}).tasksRun = true ∧
      (taskIn 3 {}).vampOn = true) ∧
    ((idle0 0 {} []).task 0).timer = none ∧
    ((taskIn 2 { timer := some 0 }).vampOn = true ∧ (taskIn 2 { timer := some 0 }).program = some (program []) ∧
      (taskIn 2 { timer := some 0 }).tasksRun = true ∧ ((taskIn 2 { timer := some 0 }).task 0).timer.isSome = true ∧
      (taskIn 2 { timer := some 0 }).mode = .run) ∧
    (({ up with prg := { bankA := some (program []) } } : State).wf ∧
      ({ up with prg := { bankA := some (program []) } } : State).vampOn = true ∧
      ({ up with prg := { bankA := some (program []) } } : State).program = some (program []) ∧
      ({ up with prg := { bankA := some (program []) } } : State).tasksRun = false) := by unfold State.wf; decide +kernel

/-- A change of the program in hand, with running tasks or without. -/
def changing (run : Bool) (x : TaskRt) (n : Nat) : State :=
  { (if run then tasking else up) with
    prg := { tasks := [(47, x)], bankA := some (program []), bankB := some (program []),
             change := some { x := 0, deferrals := n } } }

/-- With running tasks and a new program in the other bank. -/
def changeable : State :=
  { tasking.setBit Reg.PRG_STATE 11 true with prg := { bankA := some (program []), bankB := some (program []) } }

theorem test_hyp_ProgramAndStations :
    (({ up with mode := .stop, prg := { bankA := some (program []) } } : State).vampOn = true ∧
      ({ up with mode := .stop, prg := { bankA := some (program []) } } : State).mayRun = true ∧ up.mayRun = false) ∧
    (up.wf ∧ up.vampOn = true ∧ up.mode = .run ∧ up.prg.change = none) ∧
    ((changing true {} 0).wf ∧ (changing true {} 0).vampOn = true ∧ (changing true {} 0).prg.change.isSome = true ∧
      (changing true {} 0).cmd.changeOp = none) ∧
    (({ up with mode := .safe } : State).prg.change = none ∧ ({ up with mode := .safe } : State).mode ≠ .run ∧
      ({ up with mode := .safe } : State).mode ≠ .stop ∧ ({ up with mode := .safe } : State).vampOn = true) ∧
    ((changing false {} 0).prg.change = some { x := 0 } ∧ (changing false {} 0).program = some (program []) ∧
      (changing false {} 0).inactive = some (program []) ∧ (changing false {} 0).tasksRun = false ∧
      (changing false {} 0).vampOn = true) ∧
    ((changing true { ctx := some {} } 8).vampOn = true ∧
      (changing true { ctx := some {} } 8).prg.change = some { x := 0, deferrals := 8 } ∧
      (changing true { ctx := some {} } 9).prg.change = some { x := 0, deferrals := 9 } ∧
      (changing true { ctx := some {} } 8).program = some (program []) ∧ (changing true { ctx := some {} } 8).tasksRun = true ∧
      (changing true { ctx := some {} } 8).inactive = some (program []) ∧ 47 < 48 ∧
      ((changing true { ctx := some {} } 8).task 47).ctx.isSome = true) ∧
    up.program = none ∧
    (∃ d, stationDef (program []) 63 = some d ∧ d.missLimit ≤ 0 + 1 ∧
      (idle0 0 {} [(63, { present := true, awaiting := true, seq := 5 })]).vampOn = true ∧
      (idle0 0 {} [(63, { present := true, awaiting := true, seq := 5 })]).program = some (program []) ∧
      (idle0 0 {} [(63, { present := true, awaiting := true, seq := 5 })]).stationsRun = true ∧
      (idle0 0 {} [(63, { present := true, awaiting := true, seq := 5 })]).tasksRun = true ∧
      ((idle0 0 {} [(63, { present := true, awaiting := true, seq := 5 })]).station 63).disabled = false ∧
      ((idle0 0 {} [(63, { present := true, awaiting := true, seq := 5 })]).station 63).present = true ∧
      ((idle0 0 {} [(63, { present := true, awaiting := true, seq := 5 })]).station 63).awaiting = true ∧ 3 < d.carrier ∧
      (idle0 0 {} [(63, { present := true, awaiting := true, seq := 5 })]).stationFrameGood 63 d [5, 1] = true ∧
      (idle0 0 {} [(63, { present := true, awaiting := true, seq := 5 })]).stationFrameGood 63 d [6, 1] = false) ∧
    ((idle0 0 {} [(63, { disabled := true })]).station 63).disabled = true ∧ ((idle0 0 {} []).station 63).awaiting = false ∧
    ((idle0 0 {} [(63, { awaiting := true })]).vampOn = true ∧
      ((idle0 0 {} [(63, { awaiting := true })]).station 63).awaiting = true ∧
      ((idle0 0 {} [(63, { awaiting := true })]).station 63).present = false) ∧ State.reset.stationsRun = false ∧
    ({ missLimit := 2, identity := 1, carrier := 4, address := 0, exchMs := 1, replyMs := 1, owner := 0, inLen := 0,
       outLen := 0 } : StationDef).missLimit > 0 + 1 := by
  refine ⟨by decide +kernel, by unfold State.wf; decide +kernel, by unfold State.wf; decide +kernel, by decide +kernel,
    by decide +kernel, by decide +kernel, by decide +kernel, ⟨_, rfl, ?_⟩, by decide +kernel⟩
  decide +kernel

/-- An online change that is admitted: a new program of the same symbols, with running tasks. -/
theorem test_hyp_ProgramChange : changeable.wf ∧ changeable.vampOn = true ∧ changeable.prg.change = none ∧
    changeable.mode = .run ∧ changeable.program = some (program []) ∧ changeable.inactive = some (program []) ∧
    changeable.bit Reg.PRG_STATE 11 = true ∧
    changeable.changeConflict (program []) (program []) (changeable.bit Reg.PRG_CHANGE_OPT 0) = none ∧
    changeCost (program []) (program []) ≤ 1500 ∧ changeable.tasksRun = true := by unfold State.wf; decide +kernel

theorem test_hyp_BavinStackAndControl :
    (bavin [0x1E, 1, 0] { stack := [1] }).standsAt 0 0 { stack := [1] } (bytesLE 1 (0x18 + 6) ++ bytesLE 2 1) ∧
    up.inCycle 0 = none ∧ (0 ≤ 6 ∧ 255 ≤ 255 ∧ -0x8000 ≤ (-0x8000 : Int) ∧ (0x7FFF : Int) < 0x8000 ∧ 0xFFFF < 0x10000) ∧
    (bavin [] {}).sym 1 = (program []).symbols[0]? ∧ (0 : Quad).toNat < 1 ∧ 1 ≤ (1 : Quad).toNat ∧
    (bavin [] {}).program.bind (fun p => p.functions[0]?) = some { entry := 0 } ∧
    ({ frames := [(3, [])] } : TaskCtx).frames = (3, []) :: [] ∧ (bavin [] {}).imageInUse (program []) = false ∧
    ({ stack := [1, 2, 3] } : TaskCtx).stack = 1 :: 2 :: 3 :: [] ∧ ({ stack := [7] } : TaskCtx).stack[0]? = some 7 ∧
    ({ locals := [(255, 9)] } : TaskCtx).locals.find? (fun y => y.1 == 255) = some (255, 9) ∧
    ({} : TaskCtx).locals.find? (fun y => y.1 == 255) = none :=
  ⟨test_hyp_standsAt _ _ rfl, by decide +kernel⟩

/-- A DMA channel that has read from the image. -/
def reader : DmaChan := { desc := some [0x80000000, 4, 0x20000000, 0], moved := 4 }

/-- A DMA channel reads the image: END waits. -/
theorem test_hyp_BavinEnd_waits :
    ({ bavin [0xDE] {} with dma := { chans := [(0, reader)] }, regs := [(Reg.PRG_IMAGE_BASE, 0x20000000)] } : State).imageInUse
      { program [0xDE] with dataBytes := 4096 } = true := by decide +kernel

/-- A quotient inside its type, one outside, and a divisor of zero; a bit of the width and one beyond it. -/
theorem test_hyp_BavinArithmetic :
    (bavin [0x49] { stack := [2, 6] }).standsAt 0 0 { stack := [2, 6] } (bytesLE 1 (0x48 + 1)) ∧
    (1 ≤ 1 ∧ 6 ≤ 6 ∧ (2 : Quad) ≠ 0) ∧
    (typeMin 1 ≤ (valInt 6).tdiv (valInt 2) ∧ (valInt 6).tdiv (valInt 2) ≤ typeMax 1 ∧
      typeMin 1 ≤ (valInt 6).tmod (valInt 2) ∧ (valInt 6).tmod (valInt 2) ≤ typeMax 1) ∧
    typeMax 1 < (valInt (wrapVal 1 (-32768))).tdiv (valInt (wrapVal 1 (-1))) ∧ (15 : Quad).toNat < typeBits 1 ∧
    typeBits 1 ≤ (16 : Quad).toNat ∧ convListed 6 2 = true ∧ convListed 0 5 = true :=
  ⟨test_hyp_standsAt _ _ rfl, by decide +kernel⟩

theorem test_hyp_BavinIntegersWrap : 1 ≤ 1 ∧ 4 ≤ 4 ∧
    (valAdd 4 1 2, valInt 1 + valInt 2) ∈ [(valAdd 4 1 2, valInt 1 + valInt 2), (valSub 4 1 2, valInt 1 - valInt 2)] := by
  decide +kernel

theorem test_hyp_BavinFunctions :
    (bavin [0xFE, 0x11] { stack := [1, 2, 3] }).standsAt 0 0 { stack := [1, 2, 3] } [0xFE, 0x11] ∧
    (bavin [] {}).program = some (program []) ∧ (taskDef (program []) 0).isSome = true :=
  ⟨test_hyp_standsAt _ _ rfl, by decide +kernel⟩

theorem test_hyp_BavinBlocks :
    (bavin ([0xFE, 0x28] ++ bytesLE 2 0xFFFF) { stack := [5, 0] }).standsAt 0 0 { stack := [5, 0] }
      ([0xFE, 0x28] ++ bytesLE 2 0xFFFF) ∧
    0xFFFF < 0x10000 ∧ isTrue 0 = false ∧ isTrue 1 = true ∧ 31 < 32 ∧ (bavin [] {}).sym 1 = (program []).symbols[0]? :=
  ⟨test_hyp_standsAt _ _ rfl, by decide +kernel⟩

/-- A readable and writable register, one that Bavin may not write, and a cell whose flags are at hand and one without. -/
theorem test_hyp_BavinUnits :
    (bavin [0xFE, 0x58] { stack := [0x40000000] }).standsAt 0 0 { stack := [0x40000000] } [0xFE, 0x58] ∧
    (63 ≤ 63 ∧ 31 ≤ 31 ∧ 3 ≤ 3 ∧ 7 ≤ 7 ∧ 8 ≤ 8 ∧ 6 ≤ 6 ∧ 16 ≤ 16 ∧ 47 ≤ 47 ∧ 14 ≤ 14 ∧ 15 ≤ 15) ∧
    (stationDef (program []) 63).isSome = true ∧
    ((bavin [] {}).busRead .bavin 1 0x40000000).1 = some 0x12A00101 ∧
    ((bavin [0xFE, 0x58] {}).went 0 {} 2 [0x12A00101]).programParity 0 0x40000000 = none ∧
    (((bavin [0xFE, 0x58] {}).went 0 {} 2 [0x12A00101]).busRead .bavin 1 0x40000000).1.isSome = true ∧
    ((bavin [] {}).busWrite .bavin Reg.TIM_CAP_SEL 0).isSome = true ∧
    (bavin [] {}).busWrite .bavin Reg.RED_ALIVE 0 = none ∧ (bavin [] {}).cellFlags none 0 = none ∧
    (({ bavin [] {} with swp := { record := some (zeros 48, []) } } : State).cellFlags (some 0) 1).isSome = true :=
  ⟨test_hyp_standsAt _ _ rfl, by decide +kernel⟩

/-! Hypotheses of the statements about the command channel. -/

/-- In Run, with session 0 bound to the UART. -/
def session (v : Session) : State :=
  { upWith { booting := false, loaded := true } with cmd := { sessions := [(0, v)] } }

/-- A packet on the UART. -/
def packet (flags hseq opcode : Nat) (params : Bytes) : CmdPacket := ⟨true, false, 0, 0, 3, flags, 1, hseq, 0, opcode, params⟩

/-- Every opcode of the statement is taken by a session of version 3. -/
theorem test_hyp_CommandsExecute : ∀ op ∈ [0x02, 0x06, 0x10, 0x11, 0x12, 0x13, 0x14, 0x15, 0x20, 0x21, 0x22, 0x23, 0x24, 0x30,
    0x31, 0x40, 0x41, 0x42, 0x43, 0x44, 0x45, 0x50, 0x51, 0x52, 0x58, 0x59, 0x60, 0x61, 0x62, 0x63, 0x70, 0x80, 0x81, 0x82,
    0x90, 0x91, 0x92, 0x93],
    (session { uart := true, version := 3 }).takesNow 0 { uart := true, version := 3 } (packet 0 1 op []) := by
  unfold State.takesNow; decide +kernel

/-- In Run, with the start of the Vamp done and no session. -/
def awake : State := upWith { booting := false, loaded := true }

/-- A HELLO of host 9 that asks for versions 1 to 3. -/
def greeting : CmdPacket := packet 8 0 0x01 ([1, 3, 0, 0] ++ bytesLE 8 9)

/-- The session of the queries, with a result delivered under tag 511. -/
def asked : Session := { uart := true, version := 3, results := [(511, ⟨1, 0x20, 0, 0, [], 0, true⟩)] }

theorem test_hyp_PacketsAndQueries : held.channelOn (packet 0 1 0x20 []) = false ∧ (packet 0 1 0x20 []).opcode ≠ 0x01 ∧
    ((session {}).wf ∧ (session {}).channelOn (packet 0 1 0x20 []) = true ∧
      (session {}).sessionOf (packet 0 1 0x20 []) = none) ∧
    (greeting.opcode = 0x01 ∧ awake.channelOn greeting = true ∧ awake.sessionOf greeting = none ∧
      malformed greeting false none = false ∧ greeting.params.length = 12 ∧
      max 1 (fieldLE greeting.params 0 1) ≤ min 3 (fieldLE greeting.params 1 1) ∧
      awake.helloSession greeting 3 9 = some (4, none)) ∧
    (∀ op ∈ [0x03, 0x04, 0x05], (session { uart := true, version := 3 }).sessionOf (packet 8 0 op []) =
        some (0, { uart := true, version := 3 }) ∧ malformed (packet 8 0 op []) false (some 3) = false ∧
      opOffered op 3 = true) ∧
    ((session {}).channelOn (packet 8 0 5 []) = true ∧ (session {}).throttles { uart := true, version := 3 } = false ∧
      (session {}).supply.bootHeld = false ∧ (zeros 64).length ≤ 64 ∧ 64 < (zeros 65).length) ∧
    (({ up with mode := .stop, prg := { bankA := some (program []) } } : State).mayRun = true ∧ up.mayRun = false) ∧
    up.session 4 = none ∧ ((session {}).session 0 = some {} ∧ (session {}).vampOn = true) ∧
    (session { held := [packet 0 3 0x20 []] }).session 0 = some { held := [packet 0 3 0x20 []] } ∧
    (session { throttled := true }).session 0 = some { throttled := true } ∧ held.vampOn = false := by
  unfold State.wf; decide +kernel

/-- RESULT_READ of tag 511, whose result the session still holds. -/
theorem test_hyp_ResultRead : (session asked).channelOn (packet 8 0 0x03 (bytesLE 2 511)) = true ∧
    (session asked).sessionOf (packet 8 0 0x03 (bytesLE 2 511)) = some (0, asked) ∧
    (session asked).throttles asked = false ∧ asked.throttled = false ∧
    malformed (packet 8 0 0x03 (bytesLE 2 511)) false (some asked.version) = false ∧ opOffered 0x03 asked.version = true ∧
    (session asked).supply.bootHeld = false ∧ (bytesLE 2 511).length = 2 ∧ fieldLE (bytesLE 2 511) 0 2 = 511 ∧ 511 ≤ 511 ∧
    (∀ o ∈ (session asked).cmd.ops, o.sess = some 0 → o.tag ≠ 511) ∧
    (asked.results.find? (fun x => x.1 == 511)).isSome = true := by decide +kernel

/-- A PING of 1 parameter byte, HSEQ 0, tag 5 (Table 11.1), without its trailer. -/
def pingBytes : Bytes := [3, 8, 5, 0, 0, 0, 0, 0, 7, 0, 0, 0, 5, 0, 1, 0, 0, 0, 0, 0, 0, 0, 0, 0, 0xAA]

/-- With its trailer; and with one parameter byte less than PLEN says. -/
def pingGood : Bytes := pingBytes ++ bytesLE 4 (crc32 pingBytes).toNat
def pingShort : Bytes := pingBytes.take 24 ++ bytesLE 4 (crc32 (pingBytes.take 24)).toNat

theorem test_packet_fields : packetOf true false 0 0 pingGood = ⟨true, false, 0, 0, 3, 8, 5, 0, 7, 5, [0xAA]⟩ ∧
    packetCrcOk pingGood = true ∧ packetBadForm pingGood = false ∧ packetCrcOk pingShort = true ∧
    packetBadForm pingShort = true ∧ packetCrcOk pingBytes = false := by decide +kernel

theorem test_hyp_InvalidPacket :
    (held.channelOn (packetOf false false 0 0 []) = false ∧ (session {}).wf ∧
      (session {}).channelOn (packetOf true false 0 0 pingBytes) = true) ∧
    (awake.channelOn (packetOf true false 0 0 pingGood) = true ∧ awake.sessionOf (packetOf true false 0 0 pingGood) = none ∧
      (packetOf true false 0 0 pingGood).opcode ≠ 0x01) ∧
    ((session { uart := true }).channelOn (packetOf true false 0 0 pingShort) = true ∧
      (session { uart := true }).sessionOf (packetOf true false 0 0 pingShort) = some (0, { uart := true })) := by
  unfold State.wf; decide +kernel

/-! Hypotheses of the statements about DMA, memory, network, time, CAN, storage and redundancy. -/

/-- In Run, with channel n of the DMA engine in a state, its record as given. -/
def dma (n k : Nat) (c : DmaChan) : State :=
  { up.setFld (Reg.DMA_CH_STAT n) 31 28 k with dma := { chans := [(n, c)] } }

theorem test_hyp_DmaAndMemory : (16 ≤ 16 ∧ 15 < 16) ∧ (chanDenied 7 .host = true ∧ 7 < 16) ∧
    (chanDenied 15 .host = false ∧ chanDenied 0 .firmware = false) ∧ (dma 15 2 {}).chanState 15 = 2 ∧
    ((dma 15 0 {}).chanState 15 = 0 ∧ (dma 15 5 {}).chanState 15 = 5) ∧
    ((dma 15 3 {}).chanState 15 ≠ 0 ∧ (dma 15 3 {}).chanState 15 ≠ 5 ∧ ((dma 15 3 {}).chan 15).issued = false ∧
      ((dma 15 3 { issued := true }).chan 15).issued = true) ∧ (47 < 48 ∧ 48 ≤ 48) ∧
    (((dma 0 1 { desc := some [0x007E0000] }).chan 0).desc = some [0x007E0000] ∧
      (dma 0 1 { desc := some [0x007E0000] }).vampOn = true ∧
      (dma 0 1 { desc := some [0x007E0000] }).dmaTurn = some 0 ∧ (dma 0 1 { desc := some [0x007E0000] }).dmaTurn ≠ some 1 ∧
      (dma 0 1 { desc := some [0x007E0000] }).dmaReady 0 = true ∧
      (dma 0 1 { desc := some [0x007E0000] }).dma.lastLow < 8) ∧
    ((dma 15 1 { desc := some [0x007E0000] }).dmaTurn = some 15 ∧
      (dma 15 1 { desc := some [0x007E0000] }).dmaReady 15 = true ∧ 8 ≤ 15 ∧
      (dma 15 1 { desc := some [0x007E0000] }).dma.lastHigh < 8) ∧ (up.chan 0).desc = none ∧ up.chanState 0 ≠ 3 ∧
    ((dma 15 3 {}).wf ∧ (dma 15 3 {}).chanState 15 = 3 ∧ ((dma 15 3 {}).chan 15).stalled = false) ∧
    (up.vampOn = true ∧ 7 < 8 ∧ 0x20000000 ≤ (0x20000000 : Word).toNat ∧ (0x20FFFFFF : Word).toNat < gsramEnd ∧ up.wf) := by
  unfold State.wf; decide +kernel

/-- In Run, with PLANT valid and the servo in a state. -/
def servoed (k : Nat) (t : Tim) : State := { (up.setBit Reg.TIM_STAT 9 true).setFld Reg.TIM_SERVO 31 30 k with tim := t }

/-- In Run, with port A's link up in a mode without negotiation. -/
def linked : State := (up.setFld Reg.ETH_CONFIG 31 30 1).setBit Reg.ETH_PORTA_STAT 31 true

/-- A broadcast frame of 60 bytes, no tag, no trailer. -/
def frame60 : Bytes := List.replicate 6 0xFF ++ zeros 54

/-- The links: up and down, negotiated and not; frames of every judgement. -/
theorem test_hyp_Network : ((up.setFld Reg.ETH_CONFIG 31 30 1).wf ∧ (up.setFld Reg.ETH_CONFIG 31 30 1).vampOn = true ∧
      (up.setFld Reg.ETH_CONFIG 31 30 1).fld Reg.ETH_CONFIG 31 30 ≠ 0 ∧
      (up.setFld Reg.ETH_CONFIG 31 30 1).linkUp 0 = false ∧
      (up.setFld Reg.ETH_CONFIG 31 30 1).linkCause 0 true true none = none) ∧
    up.fld Reg.ETH_CONFIG 29 28 = 0 ∧
    (linked.wf ∧ linked.vampOn = true ∧ linked.fld Reg.ETH_CONFIG 31 30 ≠ 0 ∧ linked.linkUp 0 = true ∧
      linked.linkCause 0 false true none = some 4) ∧
    (linked.negotiates 0 = false ∧ (up.setFld Reg.ETH_CONFIG 29 28 3).negotiates 1 = true) ∧
    (crc32 [0] ≠ 0 ∧ (zeros 59).length < 60 ∧ 1536 < (zeros 1537).length ∧ up.linkUp 1 = false ∧ 1 < 2) ∧
    (60 ≤ frame60.length ∧ frame60.length ≤ 1536 ∧ linked.accepts (frame60.take 6) = true ∧
      fieldBE frame60 12 2 ≠ 0x8100 ∧ fieldBE frame60 12 2 ≠ 0x8808 ∧ fieldBE frame60 12 2 ≠ 0x88F7 ∧
      fieldBE frame60 (frame60.length - 2) 2 ≠ 0x88FB ∧
      0 < ({ linked with eth := { rxOwnA := 1 } } : State).eth.rxOwnA ∧
      ({ linked with eth := { rxOwnA := 1 } } : State).linkUp 0 = true ∧
      ({ linked with eth := { rxOwnA := 1 } } : State).accepts (frame60.take 6) = true) := by
  unfold State.wf; decide +kernel

theorem test_hyp_NetworkAndTime :
    (({ up.setBit Reg.ETH_PORTA_STAT 31 true with eth := { lanAtB := 1 } } : State).linkUp 0 = true ∧
      ({ up.setBit Reg.ETH_PORTA_STAT 31 true with eth := { lanAtB := 1 } } : State).lanAt 0 <
        ({ up.setBit Reg.ETH_PORTA_STAT 31 true with eth := { lanAtB := 1 } } : State).lanAt (1 - 0)) ∧
    ((up.setBit (Reg.TIM_ALARM_CFG 1) 31 true).bit (Reg.TIM_ALARM_CFG 1) 31 = true ∧
      (up.setBit (Reg.TIM_ALARM_CFG 1) 31 true).alarmPast 1 = some 0 ∧
      ((up.setBit (Reg.TIM_ALARM_CFG 1) 31 true).wr (Reg.TIM_ALARM_S 1) 1).alarmPast 1 = none ∧
      ((up.setBit (Reg.TIM_ALARM_CFG 1) 31 true).wr (Reg.TIM_ALARM_S 1) 1).bit (Reg.TIM_ALARM_CFG 1) 31 = true) ∧
    up.bit (Reg.TIM_ALARM_CFG 0) 31 = false ∧ up.bit Reg.TIM_PPS_CFG 31 = false ∧
    (((servoed 3 {}).setBit Reg.TIM_PPS_CFG 31 true).bit Reg.TIM_PPS_CFG 31 = true ∧
      ((servoed 3 {}).setBit Reg.TIM_PPS_CFG 31 true).plantValid = true) ∧
    (1 ≠ up.cfgN 7 11 0 0 ∧ up.acceptable 0 = false) ∧
    (0 = up.cfgN 7 11 0 0 ∧ (servoed 2 { announceA := some announced }).acceptable 0 = true ∧
      0 = (servoed 2 { announceA := some announced }).slavePort) ∧ up.announceOf up.slavePort = none ∧
    (up.tim.announceB = none ∧ up.tim.gm = none ∧ announced.clockClass ≤ up.syncClassMax) ∧
    ({ up with tim := { pdelaySeqA := 0 } } : State).tim.pdelaySeqA = (0xFFFF + 1) % 0x10000 ∧
    (servoed 2 { announceB := some announced }).acceptable 1 = true ∧ up.acceptable 1 = false ∧
    (up.servo ≠ 3 ∧ (servoed 3 {}).servo = 3 ∧ (servoed 3 {}).plantValid = true ∧ (servoed 3 {}).wf ∧
      (servoed 3 {}).tim.sigmaDoubled = false) ∧ up.servo ≠ 2 ∧ ((servoed 2 {}).wf ∧ (servoed 2 {}).servo = 2) ∧
    up.eth.rxCountA = 0 ∧ ({ up with eth := { rxCountA := 1 } } : State).eth.rxCountA ≠ 0 ∧
    (isPort 1 = true ∧ held.chainOn = false ∧ up.chainOn = true ∧ up.wf) := by unfold State.wf; decide +kernel

/-- In Run, with CAN controller 3 committed in normal mode. -/
def can (c : CanCtl) : State := { up.setFld (Reg.CAN_MODE 3) 31 30 1 with can := [(3, c)] }

/-- A slot of controller 3 that waits to be sent. -/
def sendable : State :=
  ((can { committed := true, slots := [(0, ⟨zeros 128, 0, false, true⟩)] }).setFld (Reg.CAN_TX_RESULT 3 0) 3 0 1)

/-- A sleeping controller that wakes on a frame, without a mask. -/
def asleep : State := (can { committed := true, sleeping := true }).setBit (Reg.CAN_MODE 3) 26 true

theorem test_hyp_CanWake : (asleep.vampOn = true ∧ asleep.canRuns 3 = true ∧ asleep.fld (Reg.CAN_ERR 3) 31 30 < 2 ∧
      (asleep.canCtl 3).sleeping = true ∧ asleep.bit (Reg.CAN_MODE 3) 26 = true ∧
      asleep.isWakeFrame 3 0 false false = true) ∧
    ((can { latch := [(9, [])] }).canCtl 3).latch.any (fun p => p.1 == 9) = true ∧
    ((can {}).canCtl 3).latch.any (fun p => p.1 == 9) = false ∧
    (up.fld (Reg.CAN_MODE 3) 15 8 ≤ 1 ∧ 0 < up.fld (Reg.CAN_MODE 3) 15 8) := by
  decide +kernel

theorem test_hyp_CanCommands : up.canRuns 3 = false ∧ (can { committed := true }).canRuns 3 = true ∧
    ((can { committed := true }).setBit (Reg.CAN_MODE 3) 29 true).bit (Reg.CAN_MODE 3) 29 = true ∧
    ((can { committed := true }).canCtl 3).sleeping = false ∧
    (((can { committed := true, sleeping := true }).canCtl 3).sleeping = true ∧
      (can { committed := true, sleeping := true }).canRuns 3 = true ∧
      (can { committed := true, sleeping := true }).bit (Reg.CAN_MODE 3) 26 = false) ∧ (3 < 4 ∧ 9 < 10) ∧
    ((sendable.setFld (Reg.CAN_TX_RESULT 3 0) 3 0 3).canCtl 3).slots.find? (fun p => p.1 == 0) =
      some (0, ⟨zeros 128, 0, false, true⟩) ∧ 3 ≤ (sendable.setFld (Reg.CAN_TX_RESULT 3 0) 3 0 3).slotStatus 3 0 ∧
    (sendable.slotBusy 3 0 = true ∧ sendable.canSends 3 = true ∧ sendable.mayArbitrate 3 0 = true ∧
      (sendable.canCtl 3).slots.find? (fun p => p.1 == 0) = some (0, ⟨zeros 128, 0, false, true⟩)) ∧
    (up.canCtl 3).slots.find? (fun p => p.1 == 31) = none ∧ (can { committed := true }).fld (Reg.CAN_ERR 3) 31 30 < 2 ∧
    2 ≤ (up.setFld (Reg.CAN_ERR 3) 31 30 2).fld (Reg.CAN_ERR 3) 31 30 ∧
    (sendable.canRuns 3 = true ∧ (sendable.canCtl 3).slots.find? (fun p => p.1 == 0 && sendable.slotBusy 3 0) =
      some (0, ⟨zeros 128, 0, false, true⟩)) ∧
    up.fld (Reg.CAN_ERR 3) 31 30 = 0 ∧
    ((up.setFld (Reg.CAN_ERR 3) 31 30 2).wf ∧ (up.setFld (Reg.CAN_ERR 3) 31 30 2).fld (Reg.CAN_ERR 3) 31 30 = 2) ∧
    ((up.setFld (Reg.CAN_ERR 3) 31 30 3).wf ∧ (up.setFld (Reg.CAN_ERR 3) 31 30 3).fld (Reg.CAN_ERR 3) 31 30 = 3) ∧
    ((can { committed := true }).wf ∧ (can { committed := true, sleeping := true }).wf) ∧
    (up.bit (Reg.CAN_MODE 3) 26 = false ∧ (up.setBit (Reg.CAN_MODE 3) 26 true).bit (Reg.CAN_MODE 3) 26 = true) ∧
    (up.canSends 3 = false ∧ up.ttRole 3 ≠ 2) ∧
    (((can { committed := true }).setFld (Reg.CAN_TT_CFG 3) 31 30 2).wf ∧
      ((can { committed := true }).setFld (Reg.CAN_TT_CFG 3) 31 30 2).canSends 3 = true ∧
      ((can { committed := true }).setFld (Reg.CAN_TT_CFG 3) 31 30 2).ttRole 3 = 2 ∧
      (((can { committed := true }).setFld (Reg.CAN_TT_CFG 3) 31 30 2).canCtl 3).cycle = 0 ∧
      ((can { committed := true }).setFld (Reg.CAN_TT_CFG 3) 31 30 2).ttPeriod 3 ≤
        (({ (can { committed := true }).setFld (Reg.CAN_TT_CFG 3) 31 30 2 with tim := { cant3 := { sec := 1, ns := 0 } } } : State).cant 3).total ∧
      (((can { committed := true }).setFld (Reg.CAN_TT_CFG 3) 31 30 2).cant 3).total <
        ((can { committed := true }).setFld (Reg.CAN_TT_CFG 3) 31 30 2).ttPeriod 3) ∧
    ((can { refLost := true }).canCtl 3).refLost = true ∧
    ((((can { committed := true }).setFld (Reg.CAN_TT_CFG 3) 31 30 1).setBit (Reg.CAN_TT_STAT 3) 31 true).canRuns 3 = true ∧
      (((can { committed := true }).setFld (Reg.CAN_TT_CFG 3) 31 30 1).setBit (Reg.CAN_TT_STAT 3) 31 true).ttRole 3 = 1 ∧
      (((can { committed := true }).setFld (Reg.CAN_TT_CFG 3) 31 30 1).setBit (Reg.CAN_TT_STAT 3) 31 true).bit
        (Reg.CAN_TT_STAT 3) 31 = true ∧
      (((can { committed := true }).setFld (Reg.CAN_TT_CFG 3) 31 30 1).setBit (Reg.CAN_TT_STAT 3) 31 true).wf) ∧
    ((can {}).canCtl 3).filled = 0 ∧ ((can { filled := 1 }).canCtl 3).filled ≠ 0 := by unfold State.wf; decide +kernel

/-- A bus error can take a controller to bus-off, or leave it. -/
theorem test_hyp_CanBusOff : ((can { committed := true }).canCounters 3 256 0).fld (Reg.CAN_ERR 3) 31 30 = 2 ∧
    ((can { committed := true }).canCounters 3 1 0).fld (Reg.CAN_ERR 3) 31 30 ≠ 2 := by decide +kernel

/-- A summary record, a manifest and a copy of the Last. -/
def summary : RecSummary := ⟨1, 0, 0, 0, 0, 0, 0, 0, 0, 0, 0, [], []⟩
def manifest : Manifest := ⟨1, 0, 1, 0, 0, 0, 0, [], [], [], []⟩
def lastCopy : LastCopy := ⟨[], [], []⟩

/-- In Run, with an update session in a state. -/
def updating (k : Nat) (u : Update) : State := { up.setFld Reg.UPD_SESSION 31 29 k with update := u }

/-- In compatibility mode, in a controller state. -/
def paired (m : Mode) (r : Red) : State := { (up.setBit Reg.SYS_CONFIG 31 true).setFld Reg.RED_ROLE 31 30 1 with mode := m, red := r }

/-- The same with Boot over, and with a Boot that has loaded its configuration. -/
def bootless (m : Mode) (r : Red) : State := { paired m r with supply := { booting := false } }
def ready (m : Mode) (r : Red) : State := { paired m r with supply := { booting := true, loaded := true } }

/-- A frame of the partner of kind 1 with its CRC. -/
def beatFrame : Bytes :=
  have h : Bytes := bytesLE 4 1 ++ zeros 8
  h ++ bytesLE 4 (crc32 h).toNat

theorem test_hyp_StorageAndRedundancy : 1023 < 1024 ∧ up.recorder.writing = none ∧
    (({ up with recorder := { writing := some (0, summary), retried := true } } : State).recorder.writing = some (0, summary) ∧
      ({ up with recorder := { writing := some (0, summary), retried := true } } : State).recorder.retried = true ∧
      ({ up with recorder := { writing := some (0, summary), retried := true } } : State).spoilt 5 = false ∧
      ({ up with links := { spoilt := [5, 6, 7] } } : State).spoilt 5 = true) ∧
    (({ up with links := { spoilt := [5, 6, 7] } } : State).spoilt 7 = true ∧ up.spoilt 7 = false ∧ up.spoilt 6 = false) ∧
    (({ up with recorder := { writing := some (0, summary) }, links := { insole := [.recorder] } } : State).insoleTurn
        .recorder = true ∧ up.recorder.retried = false) ∧
    (({ up with recorder := { erasing := true } } : State).insoleTurn .recorderErase = true ∧ up.recorder.page.length < 7) ∧
    (({ up with cfg := { deviceWrite := true } } : State).insoleTurn .config = true ∧
      up.insoleTurn .recorderErase = false ∧ up.insoleTurn .config = false ∧ up.insoleTurn .imageErase = false ∧
      up.insoleTurn .image = false ∧ up.insoleTurn .last = false ∧ up.insoleTurn .recorder = false) ∧
    ((updating 1 { manifest := some manifest }).insoleTurn .imageErase = true ∧
      (updating 2 { manifest := some manifest, programming := some (0, [1]) }).insoleTurn .image = true ∧
      ({ up with red := { copying := some ⟨[], [], []⟩ } } : State).insoleTurn .last = true) ∧
    ((updating 1 { manifest := some manifest }).update.manifest = some manifest ∧
      (updating 1 { manifest := some manifest }).updState = 1 ∧ (updating 1 { manifest := some manifest }).update.eraseOp = none) ∧
    ((updating 2 { manifest := some manifest, programming := some (0, [1]) }).update.programming = some (0, [1]) ∧
      (updating 2 { manifest := some manifest, programming := some (0, [1]) }).update.blockOp = none) ∧
    up.update.verifyOp = none ∧
    ((updating 3 { manifest := some manifest, verifyOp := some 7 }).update.verifyOp = some 7 ∧
      (updating 3 { manifest := some manifest, verifyOp := some 7 }).updState = 3) ∧
    ((updating 3 {}).updOpen = true ∧ up.updOpen = false) ∧ off.mode = .off := by
  decide +kernel

/-- The grant, the partner, the copy of the Last and the full layer. -/
theorem test_hyp_Redundancy :
    (up.wf ∧ up.mode ≠ .off ∧ up.redOn = false) ∧
    ((paired .standby {}).redOn = true ∧ (paired .standby {}).red.withdrawn = false ∧ (paired .standby {}).mode = .standby ∧
      (paired .standby {}).supply.booting = true ∧ (bootless .standby {}).supply.booting = false ∧
      (bootless .run {}).redOn = true ∧ (bootless .run {}).red.withdrawn = false ∧ (bootless .run {}).role = 1 ∧
      (paired .run { withdrawn := true }).red.withdrawn = true ∧
      (ready .run {}).redOn = true ∧ (ready .run {}).red.withdrawn = false ∧ (ready .run {}).bit Reg.RED_ROLE 28 = false ∧
      (ready .run {}).supply.booting = true ∧ (ready .run {}).supply.loaded = true ∧
      (ready .run {}).supply.unconfigured = false ∧
      (paired .run {}).mode = .run ∧ (paired .run {}).redOn = true ∧ (paired .run {}).wf) ∧ held.vampOn = false ∧
    (16 ≤ beatFrame.length ∧ beatFrame.length ≤ 4112 ∧ crcHolds beatFrame = true ∧ fieldLE beatFrame 0 1 = 1 ∧
      (zeros 15).length < 16 ∧ 4112 < (zeros 4113).length ∧ crcHolds (zeros 16) = false) ∧
    ((paired .run {}).streams = true) ∧
    (((paired .run {}).setBit Reg.RED_STAT 8 true).wf ∧ ((paired .run {}).setBit Reg.RED_STAT 8 true).redOn = true ∧
      ((paired .run {}).setBit Reg.RED_STAT 8 true).bit Reg.RED_STAT 8 = true) ∧ up.red.copying = none ∧
    ((paired .standby { copying := some lastCopy }).red.copying = some lastCopy ∧
      (paired .standby { copying := some lastCopy }).red.retried = false) ∧ up.ctx 768 = none ∧
    ((hosted { unit := 0, started := true, fullDue := true, level := 2 }).ctx 1 =
        some { unit := 0, started := true, fullDue := true, level := 2 } ∧ 2 ≤ 2 ∧
      (hosted { unit := 0, started := true, fullDue := true, level := 2 }).unitLives 0 = true ∧
      (hosted { unit := 0, started := true, fullDue := true, level := 2 }).fastBusy 0 = false ∧
      (est { delivered := true }).fastBusy 0 = true) ∧
    up.supply.opSeconds < up.est.lastAnchor + 7200 ∧
    ((upWith { opSeconds := 7200 }).est.lastAnchor + 7200 ≤ (upWith { opSeconds := 7200 }).supply.opSeconds ∧
      (upWith { opSeconds := 7200 }).est.lastSequence + 7200 ≤ (upWith { opSeconds := 7200 }).supply.opSeconds ∧
      (upWith { opSeconds := 7200 }).mayAsk (upWith { opSeconds := 7200 }).est.askedSeq = true) := by
  unfold State.wf; decide +kernel

/-! Well-formedness: for every check a command that it refuses, and every command at the ends of its ranges. -/

/-- A packet whose fields fit. -/
def good : CmdPacket := ⟨false, false, 0, 65535, 255, 255, 65535, 2 ^ 32 - 1, 2 ^ 32 - 1, 65535, []⟩

theorem test_illFormed_packet : ([{ good with port := 65536 }, { good with version := 256 }, { good with flags := 256 },
    { good with tag := 65536 }, { good with hseq := 2 ^ 32 }, { good with aseq := 2 ^ 32 }].any CmdPacket.wf) = false ∧
    good.wf = true := by decide +kernel

theorem test_illFormed_1 :
    ([
    .pllUnlock 3, .bootComplete [288] 0 0, .eventStrobe 128 0, .evtCountClear 4 0 [], .slotReceive 2 .hb,
    .alarmPairReceive 2, .hbLostTimeout 2, .soleHbLostTimeout 2, .tetherFrameReceive 2 [none, some 1023] [],
    .tetherFrameReceive 1 [none, some 1024] [], .tetherReplyTimeout 49, .nodeUnreachableTimeout 0,
    .nodeUnreachableTimeout 49, .wireTestStart 0, .wireTestStart 49, .wireMarkClearTimeout 0 16 16 3,
    .wireMarkClearTimeout 49 16 16 3, .wireMarkClearTimeout 48 0 16 3, .wireMarkClearTimeout 48 17 16 3,
    .wireMarkClearTimeout 48 16 17 3, .wireMarkClearTimeout 48 16 16 4, .horizonLayerComplete 0,
    .horizonLayerComplete 769, .euLocalParityError 288] : List Instr).any Instr.wellFormed = false ∧
    ([
    .clusterScratchParityError 0 4, .clusterScratchParityError 9 4, .clusterScratchParityError 8 0,
    .clusterScratchParityError 8 5, .sfuCheckFail 0 4, .sfuCheckFail 9 4, .sfuCheckFail 8 0, .sfuCheckFail 8 5,
    .regionFault 0, .regionFault 9, .microcodeCheck 288 false, .contextRebuildDone 0, .contextRebuildDone 769,
    .checkpointTimer 0, .checkpointTimer 769, .slotTriggerEvent 16, .slotEvaluate 16, .pwmPeriodStart 4,
    .pwmPeriodMid 16, .comparatorTrip 4 false, .pcsRequestReceive [none, some 1024], .crossCheckReceive 0,
    .crossCheckReceive 3, .drogueTimerExpiry 0] : List Instr).any Instr.wellFormed = false ∧
    ([
    .drogueTimerExpiry 3, .safetyCurrentMean1ms 0, .safetyCurrentMean1ms 3, .safetyCurrentMean100ms 0,
    .safetyCurrentMean100ms 3, .slowOvercurrent 0, .slowOvercurrent 3, .shuntWaitTimeout 0, .shuntWaitTimeout 3,
    .readbackMismatchTimeout 0 4, .readbackMismatchTimeout 3 4, .readbackMismatchTimeout 2 0,
    .readbackMismatchTimeout 2 5, .testPulseStart 8, .testPulseEnd 16 15, .testPulseEnd 15 16, .testPulseRetry 8,
    .mirrorFeedbackTimeout 0 4, .mirrorFeedbackTimeout 3 4, .mirrorFeedbackTimeout 2 0, .mirrorFeedbackTimeout 2 5,
    .unmeasuredTimeout 0, .unmeasuredTimeout 769, .safetyInputLevelChange 0 15 1 false] : List Instr).any Instr.wellFormed = false ∧
    ([
    .safetyInputLevelChange 3 15 1 false, .safetyInputLevelChange 2 16 1 false, .safetyInputLevelChange 2 15 2 false,
    .discrepancyFault 0 15 0, .discrepancyFault 3 15 0, .discrepancyFault 2 16 0, .ackInputPulse 0 15 0,
    .ackInputPulse 3 15 0, .ackInputPulse 2 16 0, .paramCrcCheck 0 0, .paramCrcCheck 3 0,
    .weltPduReceive 5 0 [] false, .weltArmSend 32, .weltArmAckReceive 32 [], .weltArmReceive 32 [], .weltDataSend 32,
    .weltWatchdogTimeout 33, .weltAutoRearm 32, .weltConditionClear 32, .taskReleaseCyclic 16, .taskStart 2,
    .taskDeadlineExpiry 48, .stationExchangeSend 64, .stationInputReceive 64 []] : List Instr).any Instr.wellFormed = false ∧
    ([
    .stationReplyTimeout 64, .bavinNop 2, .bavinDup 2, .bavinDrop 2, .bavinSwap 2, .bavinOver 2, .bavinRot 2,
    .bavinPick 2 255, .bavinPick 1 256, .bavinLit 2 6 0, .bavinLit 1 7 0, .bavinLoad 2 6 65535, .bavinLoad 1 7 65535,
    .bavinLoad 1 6 65536, .bavinStore 2 6 65535, .bavinStore 1 7 65535, .bavinStore 1 6 65536, .bavinLoadx 2 6 65535,
    .bavinLoadx 1 7 65535, .bavinLoadx 1 6 65536, .bavinStorex 2 6 65535, .bavinStorex 1 7 65535,
    .bavinStorex 1 6 65536, .bavinAdd 2 6] : List Instr).any Instr.wellFormed = false ∧
    ([
    .bavinAdd 1 7, .bavinSub 2 6, .bavinSub 1 7, .bavinMul 2 6, .bavinMul 1 7, .bavinDiv 2 6, .bavinDiv 1 7,
    .bavinMod 2 6, .bavinMod 1 7, .bavinNeg 2 6, .bavinNeg 1 7, .bavinAbs 2 6, .bavinAbs 1 7, .bavinMin 2 6,
    .bavinMin 1 7, .bavinMax 2 6, .bavinMax 1 7, .bavinEq 2 6, .bavinEq 1 7, .bavinNe 2 6, .bavinNe 1 7,
    .bavinLt 2 6, .bavinLt 1 7, .bavinLe 2 6] : List Instr).any Instr.wellFormed = false ∧
    ([
    .bavinLe 1 7, .bavinGt 2 6, .bavinGt 1 7, .bavinGe 2 6, .bavinGe 1 7, .bavinAnd 2 6, .bavinAnd 1 7, .bavinOr 2 6,
    .bavinOr 1 7, .bavinXor 2 6, .bavinXor 1 7, .bavinNot 2 6, .bavinNot 1 7, .bavinShl 2 6, .bavinShl 1 7,
    .bavinShr 2 6, .bavinShr 1 7, .bavinConv 2 6 6, .bavinConv 1 7 6, .bavinConv 1 6 7, .bavinJmp 2 0,
    .bavinJmpt 2 0, .bavinJmpf 2 0, .bavinCall 2 65535] : List Instr).any Instr.wellFormed = false ∧
    ([
    .bavinCall 1 65536, .bavinRet 2, .bavinEnd 2, .bavinSel 2 6, .bavinSel 1 7, .bavinLimit 2 6, .bavinLimit 1 7,
    .bavinLdl 2 255, .bavinLdl 1 256, .bavinStl 2 255, .bavinStl 1 256, .bavinSqrt 2, .bavinExp 2, .bavinLn 2,
    .bavinLog10 2, .bavinSin 2, .bavinCos 2, .bavinTan 2, .bavinAsin 2, .bavinAcos 2, .bavinAtan 2, .bavinAtan2 2,
    .bavinPow 2, .bavinTrunc 2] : List Instr).any Instr.wellFormed = false := by decide +kernel

theorem test_illFormed_2 :
    ([
    .bavinRound 2, .bavinFloor 2, .bavinCeil 2, .bavinIsnan 2, .bavinFma 2, .bavinRol 2 6, .bavinRol 1 7,
    .bavinRor 2 6, .bavinRor 1 7, .bavinGetbit 2 6, .bavinGetbit 1 7, .bavinSetbit 2 6, .bavinSetbit 1 7,
    .bavinClrbit 2 6, .bavinClrbit 1 7, .bavinNow 2, .bavinNowplant 2, .bavinCyclestart 2, .bavinPeriod 2,
    .bavinTon 2 65535, .bavinTon 1 65536, .bavinTof 2 65535, .bavinTof 1 65536, .bavinTp 2 65535] : List Instr).any Instr.wellFormed = false ∧
    ([
    .bavinTp 1 65536, .bavinRtrig 2 65535, .bavinRtrig 1 65536, .bavinFtrig 2 65535, .bavinFtrig 1 65536,
    .bavinCtu 2 65535, .bavinCtu 1 65536, .bavinCtd 2 65535, .bavinCtd 1 65536, .bavinSr 2 65535, .bavinSr 1 65536,
    .bavinRs 2 65535, .bavinRs 1 65536, .bavinCopy 2 65535 65535, .bavinCopy 1 65536 65535, .bavinCopy 1 65535 65536,
    .bavinFill 2 65535, .bavinFill 1 65536, .bavinLen 2 65535, .bavinLen 1 65536, .bavinStnok 2 63, .bavinStnok 1 64,
    .bavinStnstate 2 63, .bavinStnstate 1 64] : List Instr).any Instr.wellFormed = false ∧
    ([
    .bavinStnenable 2 63, .bavinStnenable 1 64, .bavinWvalid 2 31, .bavinWvalid 1 32, .bavinWpub 2 31 65535,
    .bavinWpub 1 32 65535, .bavinWpub 1 31 65536, .bavinRaise 2 3, .bavinRaise 1 4, .bavinTrigger 2 47,
    .bavinTrigger 1 15, .bavinTrigger 1 48, .bavinRdreg 2, .bavinWrreg 2, .bavinAssert 2 0, .bavinTrap 2 0,
    .bavinIsforced 2 65535, .bavinIsforced 1 65536, .bavinCellget 2 255, .bavinCellget 1 256, .bavinCellflags 2,
    .bavinNodeget 2 255, .bavinNodeget 1 256, .bavinStrget 2 255] : List Instr).any Instr.wellFormed = false ∧
    ([
    .bavinStrget 1 256, .bavinStrstate 2, .bavinSloty 2 255, .bavinSloty 1 256, .bavinXinset 2 7, .bavinXinset 1 8,
    .bavinOutreq 2, .bavinAcksafe 2, .cmdHello { good with opcode := 65536 }, .cmdBye { good with opcode := 65536 },
    .cmdResultRead { good with opcode := 65536 }, .cmdSeqState { good with opcode := 65536 },
    .cmdPing { good with opcode := 65536 }, .cmdCancel { good with opcode := 65536 },
    .cmdDeviceInfo { good with opcode := 65536 }, .cmdStateRead { good with opcode := 65536 },
    .cmdTableInfo { good with opcode := 65536 }, .cmdRegRead { good with opcode := 65536 },
    .cmdRegWrite { good with opcode := 65536 }, .cmdMemRead { good with opcode := 65536 },
    .cmdRun { good with opcode := 65536 }, .cmdStop { good with opcode := 65536 },
    .cmdResume { good with opcode := 65536 }, .cmdAcknowledge { good with opcode := 65536 }] : List Instr).any Instr.wellFormed = false ∧
    ([
    .cmdShutdown { good with opcode := 65536 }, .cmdDispatch { good with opcode := 65536 },
    .cmdBurst { good with opcode := 65536 }, .cmdSymbolRead { good with opcode := 65536 },
    .cmdSymbolWrite { good with opcode := 65536 }, .cmdForceSet { good with opcode := 65536 },
    .cmdForceClear { good with opcode := 65536 }, .cmdForceList { good with opcode := 65536 },
    .cmdChange { good with opcode := 65536 }, .cmdNodeConfigRead { good with opcode := 65536 },
    .cmdNodeStatus { good with opcode := 65536 }, .cmdEnumerate { good with opcode := 65536 },
    .cmdLearnedReset { good with opcode := 65536 }, .cmdEstCmd { good with opcode := 65536 },
    .cmdImageBegin { good with opcode := 65536 }, .cmdImageBlock { good with opcode := 65536 },
    .cmdImageVerify { good with opcode := 65536 }, .cmdImageAbort { good with opcode := 65536 },
    .cmdRecorderRead { good with opcode := 65536 }, .cmdConfigRead { good with opcode := 65536 },
    .cmdConfigWrite { good with opcode := 65536 }, .cmdConfigCommit { good with opcode := 65536 },
    .cmdOwnerEnrol { good with opcode := 65536 }, .cmdOwnerOpen { good with opcode := 65536 }] : List Instr).any Instr.wellFormed = false ∧
    ([
    .cmdOwnerAuth { good with opcode := 65536 }, .cmdOwnerCmd { good with opcode := 65536 },
    .cmdInvalidPacket false false 0 65536 [], .cmdHoldTimeout 5, .sessionHoldExpiry 5, .throttleEnd 5,
    .dmaAlloc 16 .host, .dmaFree 16 .host, .dmaStart 16 .host, .dmaKick 16 .host, .dmaAbort 16 .host,
    .dmaDisable 16 .host, .dmaRequestStrobe 48, .dmaBurst 16, .dmaDescriptorComplete 16, .dmaCqTailWrite 16 0 .host,
    .dmaStallLimit 16, .dmaBusError 16 0 false false, .gsramParityError 0 0 false 16, .codeParityError 2 0 false,
    .ethLinkChange 2 false false (some 65535), .ethLinkChange 1 false false (some 65536), .ethFrameReceive 2 [] 0,
    .ethTxComplete false 2 false [] 0 false] : List Instr).any Instr.wellFormed = false ∧
    ([
    .prpPathLossTimeout 2, .timAlarmFire 2, .ptpSyncReceive 2 0 0 0 0, .ptpAnnounceReceive 2 0 announced,
    .ptpPdelayReqReceive 2 0 [], .ptpPdelayRespReceive 2 0 0 0 0 0, .ptpAnnounceTimeout 2,
    .canFrameReceive 4 0 false false false false false 15 [] 0,
    .canFrameReceive 3 0 false false false false false 16 [] 0, .canRxLatch 4 9, .canRxLatch 3 10, .canRxRelease 4 9,
    .canRxRelease 3 10, .canTxPush 4 0, .canTxReq 4 0 0, .canTxCancel 4 0 none, .canTxComplete 4 31 0,
    .canTxComplete 3 32 0, .canTimedTxDue 4 31, .canTimedTxDue 3 32, .canBusError 4 0 false none false false 0,
    .canBusoffRecovered 4, .canRecover 4, .canSleepReq 4 false] : List Instr).any Instr.wellFormed = false ∧
    ([
    .canWakeReq 4, .canWakeDetect 4 false 0, .canCommit 4 0, .canReferenceDue 4, .canReferenceLost 4,
    .partnerFrameReceive [none, some 1024], .fullLayerComplete 0, .fullLayerComplete 769, .configStoreDone 3,
    .canRxBufferHoldoffEnd 4, .ethEventHoldoffEnd 2 false, .tetherLinkChange 2 false] : List Instr).any Instr.wellFormed = false := by decide +kernel

theorem test_wellFormed_1 :
    ([
    .pllUnlock 2, .bootComplete [287] 0 0, .eventStrobe 127 0, .evtCountClear 3 0 [], .slotReceive 1 .hb,
    .alarmPairReceive 1, .hbLostTimeout 1, .soleHbLostTimeout 1, .tetherFrameReceive 1 [none, some 1023] [],
    .tetherReplyTimeout 48, .nodeUnreachableTimeout 48, .wireTestStart 48, .wireMarkClearTimeout 48 16 16 3,
    .horizonLayerComplete 768, .euLocalParityError 287, .clusterScratchParityError 8 4, .sfuCheckFail 8 4,
    .regionFault 8, .microcodeCheck 287 false, .contextRebuildDone 768, .checkpointTimer 768, .slotTriggerEvent 15,
    .slotEvaluate 15, .pwmPeriodStart 3] : List Instr).all Instr.wellFormed = true ∧
    ([
    .pwmPeriodMid 15, .comparatorTrip 3 false, .pcsRequestReceive [none, some 1023], .crossCheckReceive 2,
    .drogueTimerExpiry 2, .safetyCurrentMean1ms 2, .safetyCurrentMean100ms 2, .slowOvercurrent 2,
    .shuntWaitTimeout 2, .readbackMismatchTimeout 2 4, .testPulseStart 7, .testPulseEnd 15 15, .testPulseRetry 7,
    .mirrorFeedbackTimeout 2 4, .unmeasuredTimeout 768, .safetyInputLevelChange 2 15 1 false,
    .discrepancyFault 2 15 0, .ackInputPulse 2 15 0, .paramCrcCheck 2 0, .weltPduReceive 4 0 [] false,
    .weltArmSend 31, .weltArmAckReceive 31 [], .weltArmReceive 31 [], .weltDataSend 31] : List Instr).all Instr.wellFormed = true ∧
    ([
    .weltWatchdogTimeout 32, .weltAutoRearm 31, .weltConditionClear 31, .taskReleaseCyclic 15, .taskStart 1,
    .taskDeadlineExpiry 47, .stationExchangeSend 63, .stationInputReceive 63 [], .stationReplyTimeout 63,
    .bavinNop 1, .bavinDup 1, .bavinDrop 1, .bavinSwap 1, .bavinOver 1, .bavinRot 1, .bavinPick 1 255,
    .bavinLit 1 6 0, .bavinLoad 1 6 65535, .bavinStore 1 6 65535, .bavinLoadx 1 6 65535, .bavinStorex 1 6 65535,
    .bavinAdd 1 6, .bavinSub 1 6, .bavinMul 1 6] : List Instr).all Instr.wellFormed = true ∧
    ([
    .bavinDiv 1 6, .bavinMod 1 6, .bavinNeg 1 6, .bavinAbs 1 6, .bavinMin 1 6, .bavinMax 1 6, .bavinEq 1 6,
    .bavinNe 1 6, .bavinLt 1 6, .bavinLe 1 6, .bavinGt 1 6, .bavinGe 1 6, .bavinAnd 1 6, .bavinOr 1 6, .bavinXor 1 6,
    .bavinNot 1 6, .bavinShl 1 6, .bavinShr 1 6, .bavinConv 1 6 6, .bavinJmp 1 0, .bavinJmpt 1 0, .bavinJmpf 1 0,
    .bavinCall 1 65535, .bavinRet 1] : List Instr).all Instr.wellFormed = true ∧
    ([
    .bavinEnd 1, .bavinSel 1 6, .bavinLimit 1 6, .bavinLdl 1 255, .bavinStl 1 255, .bavinSqrt 1, .bavinExp 1,
    .bavinLn 1, .bavinLog10 1, .bavinSin 1, .bavinCos 1, .bavinTan 1, .bavinAsin 1, .bavinAcos 1, .bavinAtan 1,
    .bavinAtan2 1, .bavinPow 1, .bavinTrunc 1, .bavinRound 1, .bavinFloor 1, .bavinCeil 1, .bavinIsnan 1,
    .bavinFma 1, .bavinRol 1 6] : List Instr).all Instr.wellFormed = true ∧
    ([
    .bavinRor 1 6, .bavinGetbit 1 6, .bavinSetbit 1 6, .bavinClrbit 1 6, .bavinNow 1, .bavinNowplant 1,
    .bavinCyclestart 1, .bavinPeriod 1, .bavinTon 1 65535, .bavinTof 1 65535, .bavinTp 1 65535, .bavinRtrig 1 65535,
    .bavinFtrig 1 65535, .bavinCtu 1 65535, .bavinCtd 1 65535, .bavinSr 1 65535, .bavinRs 1 65535,
    .bavinCopy 1 65535 65535, .bavinFill 1 65535, .bavinLen 1 65535, .bavinStnok 1 63, .bavinStnstate 1 63,
    .bavinStnenable 1 63, .bavinWvalid 1 31] : List Instr).all Instr.wellFormed = true ∧
    ([
    .bavinWpub 1 31 65535, .bavinRaise 1 3, .bavinTrigger 1 47, .bavinRdreg 1, .bavinWrreg 1, .bavinAssert 1 0,
    .bavinTrap 1 0, .bavinIsforced 1 65535, .bavinCellget 1 255, .bavinCellflags 1, .bavinNodeget 1 255,
    .bavinStrget 1 255, .bavinStrstate 1, .bavinSloty 1 255, .bavinXinset 1 7, .bavinOutreq 1, .bavinAcksafe 1,
    .cmdHello good, .cmdBye good, .cmdResultRead good, .cmdSeqState good, .cmdPing good, .cmdCancel good,
    .cmdDeviceInfo good] : List Instr).all Instr.wellFormed = true ∧
    ([
    .cmdStateRead good, .cmdTableInfo good, .cmdRegRead good, .cmdRegWrite good, .cmdMemRead good, .cmdRun good,
    .cmdStop good, .cmdResume good, .cmdAcknowledge good, .cmdShutdown good, .cmdDispatch good, .cmdBurst good,
    .cmdSymbolRead good, .cmdSymbolWrite good, .cmdForceSet good, .cmdForceClear good, .cmdForceList good,
    .cmdChange good, .cmdNodeConfigRead good, .cmdNodeStatus good, .cmdEnumerate good, .cmdLearnedReset good,
    .cmdEstCmd good, .cmdImageBegin good] : List Instr).all Instr.wellFormed = true := by decide +kernel

theorem test_wellFormed_2 :
    ([
    .cmdImageBlock good, .cmdImageVerify good, .cmdImageAbort good, .cmdRecorderRead good, .cmdConfigRead good,
    .cmdConfigWrite good, .cmdConfigCommit good, .cmdOwnerEnrol good, .cmdOwnerOpen good, .cmdOwnerAuth good,
    .cmdOwnerCmd good, .cmdInvalidPacket false false 0 65535 [], .cmdHoldTimeout 4, .sessionHoldExpiry 4,
    .throttleEnd 4, .dmaAlloc 15 .host, .dmaFree 15 .host, .dmaStart 15 .host, .dmaKick 15 .host, .dmaAbort 15 .host,
    .dmaDisable 15 .host, .dmaRequestStrobe 47, .dmaBurst 15, .dmaDescriptorComplete 15] : List Instr).all Instr.wellFormed = true ∧
    ([
    .dmaCqTailWrite 15 0 .host, .dmaStallLimit 15, .dmaBusError 15 0 false false, .gsramParityError 0 0 false 15,
    .codeParityError 1 0 false, .ethLinkChange 1 false false (some 65535), .ethFrameReceive 1 [] 0,
    .ethTxComplete false 1 false [] 0 false, .prpPathLossTimeout 1, .timAlarmFire 1, .ptpSyncReceive 1 0 0 0 0,
    .ptpAnnounceReceive 1 0 announced, .ptpPdelayReqReceive 1 0 [], .ptpPdelayRespReceive 1 0 0 0 0 0,
    .ptpAnnounceTimeout 1, .canFrameReceive 3 0 false false false false false 15 [] 0, .canRxLatch 3 9,
    .canRxRelease 3 9, .canTxPush 3 0, .canTxReq 3 0 0, .canTxCancel 3 0 none, .canTxComplete 3 31 0,
    .canTimedTxDue 3 31, .canBusError 3 0 false none false false 0] : List Instr).all Instr.wellFormed = true ∧
    ([
    .canBusoffRecovered 3, .canRecover 3, .canSleepReq 3 false, .canWakeReq 3, .canWakeDetect 3 false 0,
    .canCommit 3 0, .canReferenceDue 3, .canReferenceLost 3, .partnerFrameReceive [none, some 1023],
    .fullLayerComplete 768, .configStoreDone 2, .canRxBufferHoldoffEnd 3, .ethEventHoldoffEnd 1 false,
    .tetherLinkChange 1 false] : List Instr).all Instr.wellFormed = true := by decide +kernel


/-! Steps and operations with results that the spec gives. -/

/-- The outcome is a next state that this holds of. -/
def nextIs (o : Host.Outcome State Fault Refusal) (p : State → Bool) : Bool :=
  match o with
  | .next t => p t
  | _ => false

/-- R64 gives the check value. -/
theorem test_crc16 : crc16 [0x31, 0x32, 0x33, 0x34, 0x35, 0x36, 0x37, 0x38, 0x39] = 0x29B1 := by decide +kernel

/-- The Tarnbrook string: 464 cells in 29 nodes. -/
def tarnbrook : State := (up.setFld Reg.SYS_CONFIG 25 16 464).setFld Reg.SYS_CONFIG 5 0 29

/-- Table 12.1 gives the Tarnbrook bases, and R377 the end of the largest configuration. -/
theorem test_fixedAreas : tarnbrook.areaBase 10 = 0x200BB000 ∧ tarnbrook.areaBase 13 = 0x20529000 ∧
    tarnbrook.fixedEnd = 0x20908000 ∧
    ((up.setFld Reg.SYS_CONFIG 25 16 768).setFld Reg.SYS_CONFIG 5 0 48).fixedEnd = 0x20000000 + 15122432 := by decide +kernel

/-- The worked calibration of chapter 2: D is 27,000 ns. -/
theorem test_calibrationDelay : delayOf [3562, 2674, 6226] [20] = 27000 := by decide

/-- R193: a sum of 4.5 is stored as -3.5. -/
theorem test_accumulatorWraps : wrapS 48 (9 * 2 ^ 44) = -7 * 2 ^ 44 := by decide +kernel

/-- R311: integers wrap. -/
theorem test_bavinWraps : valAdd 1 32767 1 = wrapVal 1 (-32768) ∧ valMul 4 (wrapVal 4 0x10000) (wrapVal 4 0x10000) = 0 := by
  decide +kernel

/-- The PDU of the example in chapter 9, but for its CHECK. -/
theorem test_weltPdu : (weltPdu 0x5E1D0003 2 0 0x1234 0xC8 [1, 0, 0, 0]).take 11 =
    [0x40, 0x04, 0x34, 0x12, 0x00, 0xC8, 0x00, 0x01, 0x00, 0x00, 0x00] := by decide +kernel

/-- R240 and its example: 250 A at entry is 190 A after 1.2 s. -/
theorem test_envelope : (({ pcs { envelope := some (0, 0, 0x437A0000) } with tim := { mono := { sec := 1, ns := 200000000 } } } :
    State).envelope).map (·.2) = some 0x433E0000 := by decide +kernel

/-- R45: a tail that would pass the head becomes the head. -/
theorem test_queueTail :
    ((up.setFld Reg.EVT_QUEUE_HEAD 8 0 5).setFld Reg.EVT_QUEUE_TAIL 8 0 3 |>.queueTail 6).fld Reg.EVT_QUEUE_TAIL 8 0 = 5 ∧
    ((up.setFld Reg.EVT_QUEUE_HEAD 8 0 5).setFld Reg.EVT_QUEUE_TAIL 8 0 3 |>.queueTail 4).fld Reg.EVT_QUEUE_TAIL 8 0 = 4 := by
  decide +kernel

/-- R484: a host's write of RED.ALIVE receives an error response. -/
theorem test_redAliveRefused : nextIs (step { up with pending := [.registerWrite .host 0x40190014 4 1 0] })
    (fun t => t.out == [.errorResponse 0x40190014] && t.pending.isEmpty && t.regs == []) = true := by decide +kernel

/-- R54: a heartbeat slot leaves on both ports. -/
theorem test_heartbeat : nextIs (step { up with pending := [.heartbeatSlotSend, .ppsPulseEnd] })
    (fun t => t.out == [.tetherSlot 1 .hb, .tetherSlot 0 .hb] && t.pending == [.ppsPulseEnd]) = true := by decide +kernel

/-- Table 10.5: DUP leaves two of its value. -/
theorem test_dup : nextIs (exec (.bavinDup 0) (bavin [0x01] { stack := [7] }))
    (fun t => ((t.task 0).ctx.map (fun c => (c.stack, c.pc))) == some ([7, 7], 1)) = true := by decide +kernel

/-- R11: an access of another size receives an error response. -/
theorem test_byteWriteRefused : nextIs (exec (.registerWrite .host 0x40000000 1 0 0) up)
    (fun t => t.out == [.errorResponse 0x40000000]) = true := by decide +kernel

/-- An idle step is one TIME cycle: 4 ns once Boot's first steps are done (R401). -/
theorem test_idleStep : nextIs (step (upWith { booting := false, loaded := true })) (fun t => t.tim.mono.total == 4) = true := by
  decide +kernel

/-- R14: a W1C flag that hardware sets in the cycle of its clear stays set; else the write clears it. -/
theorem test_setWins :
    nextIs (exec (.registerWrite .host (BitVec.ofNat 32 Reg.PCS_STAT) 4 1 1) (up.setBit Reg.PCS_STAT 0 true))
      (fun t => t.bit Reg.PCS_STAT 0) = true ∧
    nextIs (exec (.registerWrite .host (BitVec.ofNat 32 Reg.PCS_STAT) 4 1 0) (up.setBit Reg.PCS_STAT 0 true))
      (fun t => !t.bit Reg.PCS_STAT 0) = true := by decide +kernel

/-- R390: a ready channel of 0 to 7 goes before one of 8 to 15. -/
theorem test_dmaOrder :
    (have u : State := (up.setFld (Reg.DMA_CH_STAT 9) 31 28 1).setFld (Reg.DMA_CH_STAT 3) 31 28 1
     ({ u with dma := { chans := [(9, { desc := some [0x007E0000] }), (3, { desc := some [0x007E0000] })] } } : State).dmaTurn)
      = some 3 := by decide +kernel

end Sys2Proof.Tests
end

/-!
PROOFS. A hardware set of a W1C flag (R14, R15), read through the rules of State.setBit and State.incFld: the flag's
register and the word of its counter are two registers, so each operation leaves the other's register alone.
-/

namespace Sys2Proof.Machine

/-- A saturating count is the successor cut at the bound. -/
theorem satInc_eq_min (n max : Nat) : satInc n max = min max (n + 1) := by
  unfold satInc
  split <;> omega

/-- A field counted up reads one more, or its largest value. -/
theorem State.fld_incFld {s : State} {a hi lo : Nat} (w : Sparse.wf regReset s.regs = true) (h : lo ≤ hi)
    (hw : hi < 32) : (s.incFld a hi lo).fld a hi lo = min (2 ^ (hi + 1 - lo) - 1) (s.fld a hi lo + 1) := by
  have positive : 0 < 2 ^ (hi + 1 - lo) := Nat.two_pow_pos _
  unfold State.incFld
  rw [State.fld_setFld _ w h hw, satInc_eq_min, Nat.mod_eq_of_lt (by omega)]

theorem State.plainWrite_wf {s : State} {a : Nat} {v : Word} (w : Sparse.wf regReset s.regs = true) :
    Sparse.wf regReset (s.plainWrite a v).regs = true := State.wr_wf w

/-- The flag set stands, whatever it was before. -/
theorem State.bit_flag {s : State} {reg cnt b : Nat} (w : Sparse.wf regReset s.regs = true) (hb : b < 32)
    (apart : reg ≠ cnt + 4 * (b / 4)) : (s.flag reg cnt b).bit reg b = true := by
  unfold State.bit
  rw [s.rd_flag b w apart, getBit_putBit _ _ hb]

theorem State.bit_flag_ne {s : State} {reg cnt b c : Nat} (w : Sparse.wf regReset s.regs = true) (hb : b < 32)
    (apart : reg ≠ cnt + 4 * (b / 4)) (d : c ≠ b) : (s.flag reg cnt b).bit reg c = s.bit reg c := by
  unfold State.bit
  rw [s.rd_flag b w apart, getBit_putBit_ne _ _ hb d]

/-- The occurrence counter of the flag set has gone up by one, or stands at 255 (R15). -/
theorem State.fld_flag_counter {s : State} {reg cnt b : Nat} (w : Sparse.wf regReset s.regs = true)
    (apart : reg ≠ cnt + 4 * (b / 4)) :
    (s.flag reg cnt b).fld (cnt + 4 * (b / 4)) (8 * (b % 4) + 7) (8 * (b % 4)) =
      min 255 (s.fld (cnt + 4 * (b / 4)) (8 * (b % 4) + 7) (8 * (b % 4)) + 1) := by
  have bound : 2 ^ (8 * (b % 4) + 7 + 1 - 8 * (b % 4)) - 1 = 255 := by
    have width : 8 * (b % 4) + 7 + 1 - 8 * (b % 4) = 8 := by omega
    rw [width]
    rfl
  have before : (s.setBit reg b true).fld (cnt + 4 * (b / 4)) (8 * (b % 4) + 7) (8 * (b % 4)) =
      s.fld (cnt + 4 * (b / 4)) (8 * (b % 4) + 7) (8 * (b % 4)) := by
    unfold State.fld
    rw [State.rd_setBit_ne _ _ _ apart.symm]
  unfold State.flag
  rw [State.fld_incFld (State.setBit_wf w) (by omega) (by omega), bound, before]

/-- Settles O11: the flag's register is none of its counters', so the set and the count do not meet; the set acts on
any well-formed state, and so on the one that a write of 1 in the same cycle leaves. -/
theorem flagSetCountsItsOccurrence : Obligations.FlagSetCountsItsOccurrence := by
  unfold Obligations.FlagSetCountsItsOccurrence
  intro s reg cnt b wf hb notCounter
  obtain ⟨w, -⟩ := wf
  have apart : reg ≠ cnt + 4 * (b / 4) := notCounter (b / 4) (by omega)
  refine ⟨?stands, ?counted, ?otherFlags, ?otherRegisters, ?setWins⟩
  case stands => exact State.bit_flag w hb apart
  case counted => exact State.fld_flag_counter w apart
  case otherFlags => exact fun c _ d => State.bit_flag_ne w hb apart d
  case otherRegisters => exact fun r => s.rd_flag_ne b
  case setWins => exact fun v => State.bit_flag (State.plainWrite_wf w) hb apart

end Sys2Proof.Machine

/-!
PROOFS. A register write ends in one of three ways, by the Vamp's supply and the bus's answer. Which accesses the bus
refuses is read off State.accessError once per address range: writes of the Insole window, its spare sectors, and
RED.ALIVE for everyone but firmware (R18, R484).
-/

namespace Sys2Proof.Machine

/-! The ways a register write ends. -/

theorem execRegisterWrite_of_vampOff {s : State} (off : s.vampOn = false) (who : Requester) (a v h : Word) (n : Nat) :
    execRegisterWrite who a n v h s = .next s := by
  simp [execRegisterWrite, off]

theorem execRegisterWrite_of_taken {s t : State} {who : Requester} {a v h : Word} (on : s.vampOn = true)
    (taken : s.busWrite who a.toNat (setWins a.toNat v h) = some t) : execRegisterWrite who a 4 v h s = .next t := by
  simp [execRegisterWrite, on, taken]

/-- A size other than a word is refused, and so is a word that the bus does not take. -/
theorem execRegisterWrite_of_refused {s : State} {who : Requester} {a v h : Word} {n : Nat} (on : s.vampOn = true)
    (refused : n = 4 → s.busWrite who a.toNat (setWins a.toNat v h) = none) :
    execRegisterWrite who a n v h s = .next (s.emit (.errorResponse a.toNat)) := by
  by_cases word : n = 4
  · simp [execRegisterWrite, on, word, refused word]
  · simp [execRegisterWrite, on, word]

/-! Accesses that the bus refuses. -/

theorem State.busWrite_eq_none {s : State} {who : Requester} {a : Nat} (e : s.accessError who a true = true)
    (v : Word) : s.busWrite who a v = none := by
  simp [State.busWrite, e]

theorem State.busRead_of_accessError {s : State} {who : Requester} {a : Nat} (e : s.accessError who a false = true)
    (n : Nat) : s.busRead who n a = (none, s) := by
  simp [State.busRead, e]

/-- Above the registers every write is refused: the Insole window and the addresses beyond it. -/
theorem State.accessError_write_of_window_le (s : State) (who : Requester) {a : Nat} (ha : 0x60000000 ≤ a) :
    s.accessError who a true = true := by
  simp [State.accessError, ha]

theorem State.accessError_of_spareSector (s : State) (who : Requester) (write : Bool) {a : Nat}
    (lower : 0x63300000 ≤ a) (upper : a < 0x63C00000) : s.accessError who a write = true := by
  simp [State.accessError, lower, upper]

theorem State.accessError_write_of_firmwareOnly (s : State) {who : Requester} {a : Nat} (hw : who ≠ .firmware)
    (owned : firmwareOnly a = true) : s.accessError who a true = true := by
  simp [State.accessError, hw, owned]

theorem firmwareOnly_RED_ALIVE : firmwareOnly Reg.RED_ALIVE = true := by
  simp [firmwareOnly]

theorem State.busWrite_RED_ALIVE (s : State) {who : Requester} (hw : who ≠ .firmware) (v : Word) :
    s.busWrite who Reg.RED_ALIVE v = none :=
  State.busWrite_eq_none (s.accessError_write_of_firmwareOnly hw firmwareOnly_RED_ALIVE) v

/-! The factory area of the Insole window. -/

/-- Above the configuration area nothing of the state is shown. -/
theorem State.insoleRecord_of_factory (s : State) {off : Nat} (h : 0x3300000 ≤ off) :
    s.insoleRecord off = (off, (List.range 4).map (fun i => Config.factoryByte (off + i))) := by
  have above : ∀ bound : Nat, bound ≤ 0x3300000 → ¬ off < bound := fun bound hb => by omega
  simp [State.insoleRecord, above]

/-- Two states show the same word where they show the same record. -/
theorem State.insoleWord_congr {s t : State} {off : Nat} (h : s.insoleRecord off = t.insoleRecord off) :
    s.insoleWord off = t.insoleWord off := by
  simp only [State.insoleWord, h]

/-- Settles O21: the first four clauses are the ways a register write ends; the rest name accesses that the bus
refuses, and the factory area, whose record holds nothing of the state. -/
theorem registerWriteOrErrorResponse : Obligations.RegisterWriteOrErrorResponse := by
  unfold Obligations.RegisterWriteOrErrorResponse
  refine ⟨?taken, ?refused, ?otherSize, ?vampOff, ?insoleWindow, ?spareSectors, ?factoryArea, ?redAlive⟩
  case taken => exact fun s t who a v h on bus => execRegisterWrite_of_taken on bus
  case refused => exact fun s who a v h on bus => execRegisterWrite_of_refused on (fun _ => bus)
  case otherSize => exact fun s who a v h n on size => execRegisterWrite_of_refused on (absurd · size)
  case vampOff => exact fun s who a v h n off => execRegisterWrite_of_vampOff off who a v h n
  case insoleWindow =>
    intro s who a v h n on lower _
    exact execRegisterWrite_of_refused on
      (fun _ => State.busWrite_eq_none (s.accessError_write_of_window_le who lower) _)
  case spareSectors =>
    exact fun s who n a lower upper => State.busRead_of_accessError (s.accessError_of_spareSector who false lower upper) n
  case factoryArea =>
    intro s t off factory
    have above : 0x3300000 ≤ off := by omega
    exact State.insoleWord_congr ((s.insoleRecord_of_factory above).trans (t.insoleRecord_of_factory above).symm)
  case redAlive =>
    intro s who v h hw
    have refused := s.busWrite_RED_ALIVE hw
    exact ⟨refused v, fun on => execRegisterWrite_of_refused (a := BitVec.ofNat 32 Reg.RED_ALIVE) on
      (fun _ => refused _)⟩

end Sys2Proof.Machine

/-!
PROOFS. The machine as a whole: the outcome of every command is a next state, found group by group from the shape of its
meaning (a plain next state, one under the Vamp's supply, an instruction of Bavin, a meaning with branches).
-/

namespace Sys2Proof.Machine

/-- The outcome is a next state: the command is neither refused nor a stop. -/
def Answers (o : Host.Outcome State Fault Refusal) : Prop := ∃ t : State, o = .next t

theorem Answers.next (t : State) : Answers (.next t) := ⟨t, rfl⟩

theorem Answers.ite {a b : Host.Outcome State Fault Refusal} {c : Prop} {_ : Decidable c} (ha : Answers a) (hb : Answers b) :
    Answers (if c then a else b) := by
  split
  · exact ha
  · exact hb

theorem State.whenVamp_answers {s : State} {o : Host.Outcome State Fault Refusal} (h : Answers o) :
    Answers (s.whenVamp o) := by
  unfold State.whenVamp
  split
  · exact h
  · exact Answers.next s

theorem State.bavin_answers (s : State) (core : Nat) (code : Option Bytes) (f : TaskCtx → Option TaskCtx) :
    Answers (s.bavin core code f) := by
  unfold State.bavin
  split
  · exact Answers.next s
  · split <;> exact Answers.next _

theorem State.bavinDo_answers (s : State) (core : Nat) (code : Option Bytes)
    (f : Nat → Nat → TaskCtx → Option (TaskCtx × (State → State))) : Answers (s.bavinDo core code f) := by
  unfold State.bavinDo
  split
  · exact Answers.next s
  · split <;> exact Answers.next _

/-- Every command answers a next state, in any state and with any operands. -/
theorem exec_answers (c : Instr) (s : State) : Answers (exec c s) := by
  cases c with
  | vsupFall | vsupRise | holdupTest | holdupTestTimer | sysRestart | aonCrystalFail | aonCrystalRestored |
  junctionHot | vsClockAbsent | eventStrobe | evtQueueTailWrite | ch2CrossCheckSend | liveTimeout | drogueTimerExpiry
  | shuntWaitTimeout | testPulseStart | testPulseRetry | weltWatchdogTimeout | cmdHello | cmdBye | cmdResultRead |
  cmdSeqState | cmdPing | cmdCancel | cmdDeviceInfo | cmdStateRead | cmdTableInfo | cmdRegRead | cmdRegWrite |
  cmdMemRead | cmdRun | cmdStop | cmdResume | cmdAcknowledge | cmdShutdown | cmdDispatch | cmdBurst | cmdSymbolRead |
  cmdSymbolWrite | cmdForceSet | cmdForceClear | cmdForceList | cmdChange | cmdNodeConfigRead | cmdNodeStatus |
  cmdEnumerate | cmdLearnedReset | cmdEstCmd | cmdImageBegin | cmdImageBlock | cmdImageVerify | cmdImageAbort |
  cmdRecorderRead | cmdConfigRead | cmdConfigWrite | cmdConfigCommit | cmdOwnerEnrol | cmdOwnerOpen | cmdOwnerAuth |
  cmdOwnerCmd | sessionHoldExpiry | redAliveRefresh | slowOvercurrent | cmdInvalidPacket =>
    exact Answers.next _
  | heartbeatSlotSend | tetherFrameReceive | reachabilityRollcall | tthEnumReq | tthRecalReq | calibrationTimer |
  calibrationDone | nodeThresholdReadback | currentWindow1ms | currentWindow100us | burstScheduleTimer | burstSeqTimer
  | swpBurstReq | swpSeqReq | swpBurstAbort | burstDeferTimeout | burstReadoutDone | checkpointTimer |
  criticalityScore | loadWindow | reportRefresh | estReadLocal | estReplan | estCheckpointNow | estSpareSelftest |
  balanceCompute | journalPeriodicTimer | fullChargeEnd | persistWriteDone | slotTriggerEvent | slotEvaluate |
  ctlStart | ctlHalt | ctlApply | ctlCommit | awlAbort | tripPin | pwmTripClear | pcsRxAlign | pcsRxLinkDown |
  pcsLtCommit | limitStale | pcsDispatchApply | pcsPertEnable | ch2SilentTimeout | unmeasuredTimeout | safAckWrite |
  safOutReqClose | safOutReqFire | weltArmAckReceive | weltArmReceive | wltRearm | weltAutoRearm | weltConditionClear
  | prgRunReq | prgStopReq | prgChangeReq | prgChangeAbort | onlineChangeSwitch | stationInputReceive | dmaAlloc |
  dmaFree | dmaStart | dmaKick | dmaAbort | dmaDisable | dmaSwreq | dmaRequestStrobe | dmaDescriptorComplete |
  dmaCqTailWrite | dmaBusError | dmaFirmwareRestart | scrubPass | ethTxComplete | prpSupervisionSend | prpNodeAgeOut |
  timCapture | plantSecond | ppsPulseEnd | ptpPdelayReqSend | ptpPdelayReqReceive | ptpSyncTimeout | canRxLatch |
  canRxRelease | canTxPush | canTxReq | canTxCancel | canTimedTxDue | canWakeReq | canWakeDetect | canCommit |
  recorderIntervalTimer | recPersistReq | detailPageTimeout | imageSessionTimeout | aliveRefreshTimeout |
  partnerFrameReceive | lastPersistTimer | lastStaleTimeout =>
    exact State.whenVamp_answers (Answers.next _)
  | bavinDup | bavinDrop | bavinSwap | bavinOver | bavinRot | bavinPick | bavinStore | bavinAdd | bavinSub | bavinMul
  | bavinNeg | bavinAbs | bavinMin | bavinMax | bavinEq | bavinNe | bavinLt | bavinLe | bavinGt | bavinGe | bavinAnd |
  bavinOr | bavinXor | bavinNot | bavinShl | bavinShr | bavinConv | bavinJmpt | bavinJmpf | bavinCall | bavinRet |
  bavinSel | bavinLimit | bavinStl | bavinSqrt | bavinExp | bavinLn | bavinLog10 | bavinSin | bavinCos | bavinTan |
  bavinAsin | bavinAcos | bavinAtan | bavinAtan2 | bavinPow | bavinTrunc | bavinRound | bavinFloor | bavinCeil |
  bavinIsnan | bavinFma | bavinRol | bavinRor | bavinTon | bavinTof | bavinTp | bavinRtrig | bavinFtrig | bavinCtu |
  bavinCtd | bavinSr | bavinRs | bavinCopy | bavinFill | bavinLen | bavinRaise | bavinIsforced | bavinCellget |
  bavinNodeget | bavinXinset | bavinOutreq =>
    exact State.bavin_answers _ _ _ _
  | bavinAcksafe | bavinCyclestart | bavinJmp | bavinLit | bavinLoad | bavinNop | bavinNow | bavinNowplant |
  bavinSloty | bavinStnok | bavinStnstate | bavinStrget | bavinStrstate | bavinTrigger | bavinWpub | bavinWvalid =>
    simp only [exec,
      execBavinAcksafe, execBavinCyclestart, execBavinJmp, execBavinLit, execBavinLoad, execBavinNop, execBavinNow,
      execBavinNowplant, execBavinSloty, execBavinStnok, execBavinStnstate, execBavinStrget, execBavinStrstate,
      execBavinTrigger, execBavinWpub, execBavinWvalid]
    exact State.bavin_answers _ _ _ _
  | bavinLoadx | bavinStorex | bavinDiv | bavinMod | bavinLdl | bavinStnenable | bavinRdreg | bavinWrreg | bavinAssert
  | bavinCellflags | bavinGetbit | bavinSetbit | bavinClrbit =>
    exact State.bavinDo_answers _ _ _ _
  | bavinPeriod =>
    simp only [exec, execBavinPeriod]
    exact State.bavinDo_answers _ _ _ _
  | breakLocateDone | toneClearTimeout | hbLostTimeout | tetherReplyTimeout | nodeUnreachableTimeout | ringHealed |
  enumerationDone | wireTestStart | openWireTestDone | wireMarkClearTimeout | sweepInstantFix | sampleAtLaunch |
  sampleInstant | recordDeadline | fastLayerComplete | horizonLayerComplete | rateStepDown | burstStart |
  burstCaptureLaunch | burstCaptureEnd | burstBinsDone | euLocalParityError | clusterScratchParityError | sfuCheckFail
  | regionFault | microcodeCheck | placementPlan | contextRebuildDone | fidelityRaise | estReadContext | restAnchor |
  noAnchorTimeout | journalWriteDone | journalEraseDone | adcConversionReceive | awlStart | pwmPeriodStart |
  pwmPeriodMid | pcsRequestReceive | pcsRequestMissedTimeout | pcsLinkLossTimeout | pcsCurrentCompare |
  dispatchLeaseExpiry | weltPduReceive | weltArmSend | weltDataSend | taskReleaseCyclic | taskStart |
  taskDeadlineExpiry | taskBalance | stationExchangeSend | stationReplyTimeout | dmaStallLimit | ethLinkChange |
  ethFrameReceive | prpPathLossTimeout | timAlarmFire | ptpSyncReceive | ptpAnnounceReceive | ptpPdelayRespReceive |
  ptpAnnounceTimeout | holdoverBoundExceeded | holdoverTempOutOfRange | oscModelStore | canFrameReceive |
  canTxComplete | canBusError | canBusoffRecovered | canRecover | canSleepReq | canReferenceDue | canReferenceLost |
  recorderTokenRefill | recorderWriteDone | imageEraseDone | beatSend | lastFastSetSend | lastFullSetSend |
  partnerLinkTimeout | fullLayerComplete | fullSequenceRequestTimer | lastCopyDone | configStoreDone |
  recorderEraseDone | imageBlockStored | imageVerifyDone | canRxBufferHoldoffEnd | ethEventHoldoffEnd |
  tetherLinkChange =>
    refine State.whenVamp_answers ?_
    repeat' first | exact Answers.next _ | apply Answers.ite | split
  | estCommandDone =>
    refine State.whenVamp_answers ?_
    split
    · exact Answers.next s
    · dsimp only
      split <;> exact Answers.next _
  | vinValid | vinLow | vinRestored | vinUv | nrstAsserted | nrstReleased | resetHeldTimeout | refclkLoss |
  refclkRestored | pllUnlock | junctionShutdown | junctionCooled | operatingSecond | bootComplete | registerWrite |
  vsFlitReceive | vsLinkRetrained | viTransfer | insoleEccError | evtCountClear | slotReceive | alarmPairReceive |
  soleHbLostTimeout | comparatorTrip | safetyCoreCycle | ch2Scan | channelDisagreeTimeout | liveEdgeReceive |
  safetyCurrentMean1ms | safetyCurrentMean100ms | readbackMismatchTimeout | safetyInputLevelChange | discrepancyFault
  | ackInputPulse | paramCrcCheck | gsramParityError | codeParityError | arbGrantConfirmed =>
    repeat' first | exact Answers.next _ | apply Answers.ite | split
  | holdupTestEnd | crossCheckReceive | testPulseEnd | mirrorFeedbackTimeout | bavinEnd | bavinTrap | throttleEnd | dmaBurst =>
    simp only [exec, execHoldupTestEnd, execCrossCheckReceive, execTestPulseEnd, execMirrorFeedbackTimeout, execBavinEnd,
      execBavinTrap, execThrottleEnd, execDmaBurst]
    repeat' first | exact Answers.next _ | apply Answers.ite | split
  | cmdHoldTimeout =>
    simp only [exec, execCmdHoldTimeout]
    split
    · exact Answers.next s
    · split <;> exact Answers.next _

/-- Settles O7, by the groups of exec_answers. -/
theorem everyCommandAnswersNextState : Obligations.EveryCommandAnswersNextState := exec_answers

/-! What no command undoes (Laws/Keeps.lean), for the dispatch as a whole: one lemma of Laws per command. -/

theorem exec_keeps (c : Instr) (s : State) : KeepsE s (exec c s) := by
  have same := Keeps.refl s
  cases c with
  | vinValid => exact execVinValid_keeps s same
  | vinLow vinMv pagesLeft => exact execVinLow_keeps vinMv pagesLeft s same
  | vinRestored lowestMv => exact execVinRestored_keeps lowestMv s same
  | vinUv => exact execVinUv_keeps s same
  | vsupFall => exact execVsupFall_keeps s same
  | vsupRise => exact execVsupRise_keeps s same
  | holdupTest iinMa => exact execHoldupTest_keeps iinMa s same
  | holdupTestTimer iinMa => exact execHoldupTestTimer_keeps iinMa s same
  | holdupTestEnd fallNs vsupMoved => exact execHoldupTestEnd_keeps fallNs vsupMoved s same
  | nrstAsserted lowNs => exact execNrstAsserted_keeps lowNs s same
  | nrstReleased => exact execNrstReleased_keeps s same
  | resetHeldTimeout => exact execResetHeldTimeout_keeps s same
  | sysRestart value => exact execSysRestart_keeps value s same
  | refclkLoss => exact execRefclkLoss_keeps s same
  | refclkRestored => exact execRefclkRestored_keeps s same
  | pllUnlock pll => exact execPllUnlock_keeps pll s same
  | aonCrystalFail => exact execAonCrystalFail_keeps s same
  | aonCrystalRestored => exact execAonCrystalRestored_keeps s same
  | junctionHot vampTj soleTj packageTj => exact execJunctionHot_keeps vampTj soleTj packageTj s same
  | junctionShutdown => exact execJunctionShutdown_keeps s same
  | junctionCooled => exact execJunctionCooled_keeps s same
  | operatingSecond vinMv vsupMv iinMa power vampTj soleTj packageTj => exact execOperatingSecond_keeps vinMv vsupMv iinMa power vampTj soleTj packageTj s same
  | bootComplete failedUnits badBanks bootMs => exact execBootComplete_keeps failedUnits badBanks bootMs s same
  | registerWrite who addr size value sets => exact execRegisterWrite_keeps who addr size value sets s same
  | vsFlitReceive toSole cls seq parityOk => exact execVsFlitReceive_keeps toSole cls seq parityOk s same
  | vsClockAbsent => exact execVsClockAbsent_keeps s same
  | vsLinkRetrained => exact execVsLinkRetrained_keeps s same
  | viTransfer ok addr program badSector => exact execViTransfer_keeps ok addr program badSector s same
  | insoleEccError who addr corrected => exact execInsoleEccError_keeps who addr corrected s same
  | eventStrobe src detail => exact execEventStrobe_keeps src detail s same
  | evtQueueTailWrite value => exact execEvtQueueTailWrite_keeps value s same
  | evtCountClear k bits strobes => exact execEvtCountClear_keeps k bits strobes s same
  | heartbeatSlotSend => exact execHeartbeatSlotSend_keeps s same
  | slotReceive port kind => exact execSlotReceive_keeps port kind s same
  | breakLocateDone => exact execBreakLocateDone_keeps s same
  | alarmPairReceive port => exact execAlarmPairReceive_keeps port s same
  | toneClearTimeout => exact execToneClearTimeout_keeps s same
  | hbLostTimeout port => exact execHbLostTimeout_keeps port s same
  | soleHbLostTimeout port => exact execSoleHbLostTimeout_keeps port s same
  | tetherFrameReceive port groups rts => exact execTetherFrameReceive_keeps port groups rts s same
  | tetherReplyTimeout node => exact execTetherReplyTimeout_keeps node s same
  | nodeUnreachableTimeout node => exact execNodeUnreachableTimeout_keeps node s same
  | reachabilityRollcall => exact execReachabilityRollcall_keeps s same
  | ringHealed => exact execRingHealed_keeps s same
  | tthEnumReq => exact execTthEnumReq_keeps s same
  | enumerationDone => exact execEnumerationDone_keeps s same
  | tthRecalReq => exact execTthRecalReq_keeps s same
  | calibrationTimer => exact execCalibrationTimer_keeps s same
  | calibrationDone => exact execCalibrationDone_keeps s same
  | nodeThresholdReadback => exact execNodeThresholdReadback_keeps s same
  | wireTestStart node => exact execWireTestStart_keeps node s same
  | openWireTestDone => exact execOpenWireTestDone_keeps s same
  | wireMarkClearTimeout node input line cause => exact execWireMarkClearTimeout_keeps node input line cause s same
  | sweepInstantFix => exact execSweepInstantFix_keeps s same
  | sampleAtLaunch => exact execSampleAtLaunch_keeps s same
  | sampleInstant => exact execSampleInstant_keeps s same
  | recordDeadline => exact execRecordDeadline_keeps s same
  | fastLayerComplete fastUs => exact execFastLayerComplete_keeps fastUs s same
  | horizonLayerComplete cell => exact execHorizonLayerComplete_keeps cell s same
  | currentWindow1ms => exact execCurrentWindow1ms_keeps s same
  | rateStepDown => exact execRateStepDown_keeps s same
  | currentWindow100us => exact execCurrentWindow100us_keeps s same
  | burstScheduleTimer => exact execBurstScheduleTimer_keeps s same
  | burstSeqTimer => exact execBurstSeqTimer_keeps s same
  | swpBurstReq => exact execSwpBurstReq_keeps s same
  | swpSeqReq => exact execSwpSeqReq_keeps s same
  | swpBurstAbort => exact execSwpBurstAbort_keeps s same
  | burstStart => exact execBurstStart_keeps s same
  | burstDeferTimeout => exact execBurstDeferTimeout_keeps s same
  | burstCaptureLaunch => exact execBurstCaptureLaunch_keeps s same
  | burstCaptureEnd => exact execBurstCaptureEnd_keeps s same
  | burstReadoutDone => exact execBurstReadoutDone_keeps s same
  | burstBinsDone => exact execBurstBinsDone_keeps s same
  | euLocalParityError unit => exact execEuLocalParityError_keeps unit s same
  | clusterScratchParityError region cluster => exact execClusterScratchParityError_keeps region cluster s same
  | sfuCheckFail region cluster => exact execSfuCheckFail_keeps region cluster s same
  | regionFault region => exact execRegionFault_keeps region s same
  | microcodeCheck unit ok => exact execMicrocodeCheck_keeps unit ok s same
  | placementPlan => exact execPlacementPlan_keeps s same
  | contextRebuildDone cell => exact execContextRebuildDone_keeps cell s same
  | checkpointTimer cell => exact execCheckpointTimer_keeps cell s same
  | criticalityScore => exact execCriticalityScore_keeps s same
  | loadWindow units => exact execLoadWindow_keeps units s same
  | fidelityRaise => exact execFidelityRaise_keeps s same
  | reportRefresh loads => exact execReportRefresh_keeps loads s same
  | estReadContext => exact execEstReadContext_keeps s same
  | estReadLocal => exact execEstReadLocal_keeps s same
  | estReplan => exact execEstReplan_keeps s same
  | estCheckpointNow => exact execEstCheckpointNow_keeps s same
  | estSpareSelftest => exact execEstSpareSelftest_keeps s same
  | estCommandDone ok => exact execEstCommandDone_keeps ok s same
  | restAnchor => exact execRestAnchor_keeps s same
  | noAnchorTimeout => exact execNoAnchorTimeout_keeps s same
  | balanceCompute => exact execBalanceCompute_keeps s same
  | journalPeriodicTimer => exact execJournalPeriodicTimer_keeps s same
  | fullChargeEnd => exact execFullChargeEnd_keeps s same
  | journalWriteDone ok => exact execJournalWriteDone_keeps ok s same
  | journalEraseDone => exact execJournalEraseDone_keeps s same
  | persistWriteDone => exact execPersistWriteDone_keeps s same
  | adcConversionReceive codes lost => exact execAdcConversionReceive_keeps codes lost s same
  | slotTriggerEvent n => exact execSlotTriggerEvent_keeps n s same
  | slotEvaluate n => exact execSlotEvaluate_keeps n s same
  | ctlStart bits => exact execCtlStart_keeps bits s same
  | ctlHalt bits => exact execCtlHalt_keeps bits s same
  | ctlApply bits => exact execCtlApply_keeps bits s same
  | ctlCommit value => exact execCtlCommit_keeps value s same
  | awlStart => exact execAwlStart_keeps s same
  | awlAbort => exact execAwlAbort_keeps s same
  | pwmPeriodStart tb => exact execPwmPeriodStart_keeps tb s same
  | pwmPeriodMid n => exact execPwmPeriodMid_keeps n s same
  | tripPin => exact execTripPin_keeps s same
  | comparatorTrip c upper => exact execComparatorTrip_keeps c upper s same
  | pwmTripClear value pinQuiet compQuiet => exact execPwmTripClear_keeps value pinQuiet compQuiet s same
  | pcsRequestReceive groups => exact execPcsRequestReceive_keeps groups s same
  | pcsRxAlign => exact execPcsRxAlign_keeps s same
  | pcsRxLinkDown => exact execPcsRxLinkDown_keeps s same
  | pcsLtCommit value who => exact execPcsLtCommit_keeps value who s same
  | limitStale => exact execLimitStale_keeps s same
  | pcsRequestMissedTimeout => exact execPcsRequestMissedTimeout_keeps s same
  | pcsLinkLossTimeout => exact execPcsLinkLossTimeout_keeps s same
  | pcsCurrentCompare => exact execPcsCurrentCompare_keeps s same
  | pcsDispatchApply => exact execPcsDispatchApply_keeps s same
  | dispatchLeaseExpiry => exact execDispatchLeaseExpiry_keeps s same
  | pcsPertEnable value who => exact execPcsPertEnable_keeps value who s same
  | safetyCoreCycle readback => exact execSafetyCoreCycle_keeps readback s same
  | ch2Scan readback beyond => exact execCh2Scan_keeps readback beyond s same
  | ch2CrossCheckSend => exact execCh2CrossCheckSend_keeps s same
  | crossCheckReceive channel => exact execCrossCheckReceive_keeps channel s same
  | channelDisagreeTimeout => exact execChannelDisagreeTimeout_keeps s same
  | ch2SilentTimeout => exact execCh2SilentTimeout_keeps s same
  | liveEdgeReceive intervalUs => exact execLiveEdgeReceive_keeps intervalUs s same
  | liveTimeout cause => exact execLiveTimeout_keeps cause s same
  | drogueTimerExpiry channel => exact execDrogueTimerExpiry_keeps channel s same
  | safetyCurrentMean1ms channel => exact execSafetyCurrentMean1ms_keeps channel s same
  | safetyCurrentMean100ms channel => exact execSafetyCurrentMean100ms_keeps channel s same
  | slowOvercurrent channel => exact execSlowOvercurrent_keeps channel s same
  | shuntWaitTimeout channel => exact execShuntWaitTimeout_keeps channel s same
  | readbackMismatchTimeout channel pair => exact execReadbackMismatchTimeout_keeps channel pair s same
  | testPulseStart switch => exact execTestPulseStart_keeps switch s same
  | testPulseEnd during after => exact execTestPulseEnd_keeps during after s same
  | testPulseRetry switch => exact execTestPulseRetry_keeps switch s same
  | mirrorFeedbackTimeout channel pair => exact execMirrorFeedbackTimeout_keeps channel pair s same
  | unmeasuredTimeout cell => exact execUnmeasuredTimeout_keeps cell s same
  | safetyInputLevelChange channel input line high => exact execSafetyInputLevelChange_keeps channel input line high s same
  | discrepancyFault channel input scans => exact execDiscrepancyFault_keeps channel input scans s same
  | ackInputPulse channel input scans => exact execAckInputPulse_keeps channel input scans s same
  | safAckWrite value => exact execSafAckWrite_keeps value s same
  | safOutReqClose value => exact execSafOutReqClose_keeps value s same
  | safOutReqFire => exact execSafOutReqFire_keeps s same
  | paramCrcCheck channel crc => exact execParamCrcCheck_keeps channel crc s same
  | weltPduReceive carrier peer payload fd => exact execWeltPduReceive_keeps carrier peer payload fd s same
  | weltArmSend c => exact execWeltArmSend_keeps c s same
  | weltArmAckReceive c pdu => exact execWeltArmAckReceive_keeps c pdu s same
  | weltArmReceive c pdu => exact execWeltArmReceive_keeps c pdu s same
  | weltDataSend c => exact execWeltDataSend_keeps c s same
  | weltWatchdogTimeout c => exact execWeltWatchdogTimeout_keeps c s same
  | wltRearm bits => exact execWltRearm_keeps bits s same
  | weltAutoRearm c => exact execWeltAutoRearm_keeps c s same
  | weltConditionClear c => exact execWeltConditionClear_keeps c s same
  | taskReleaseCyclic k => exact execTaskReleaseCyclic_keeps k s same
  | taskStart core => exact execTaskStart_keeps core s same
  | taskDeadlineExpiry k => exact execTaskDeadlineExpiry_keeps k s same
  | taskBalance used => exact execTaskBalance_keeps used s same
  | prgRunReq => exact execPrgRunReq_keeps s same
  | prgStopReq => exact execPrgStopReq_keeps s same
  | prgChangeReq => exact execPrgChangeReq_keeps s same
  | prgChangeAbort => exact execPrgChangeAbort_keeps s same
  | onlineChangeSwitch => exact execOnlineChangeSwitch_keeps s same
  | stationExchangeSend u => exact execStationExchangeSend_keeps u s same
  | stationInputReceive u frame => exact execStationInputReceive_keeps u frame s same
  | stationReplyTimeout u => exact execStationReplyTimeout_keeps u s same
  | bavinNop core => exact execBavinNop_keeps core s same
  | bavinDup core => exact execBavinDup_keeps core s same
  | bavinDrop core => exact execBavinDrop_keeps core s same
  | bavinSwap core => exact execBavinSwap_keeps core s same
  | bavinOver core => exact execBavinOver_keeps core s same
  | bavinRot core => exact execBavinRot_keeps core s same
  | bavinPick core n => exact execBavinPick_keeps core n s same
  | bavinLit core t v => exact execBavinLit_keeps core t v s same
  | bavinLoad core t sym => exact execBavinLoad_keeps core t sym s same
  | bavinStore core t sym => exact execBavinStore_keeps core t sym s same
  | bavinLoadx core t sym => exact execBavinLoadx_keeps core t sym s same
  | bavinStorex core t sym => exact execBavinStorex_keeps core t sym s same
  | bavinAdd core t => exact execBavinAdd_keeps core t s same
  | bavinSub core t => exact execBavinSub_keeps core t s same
  | bavinMul core t => exact execBavinMul_keeps core t s same
  | bavinDiv core t => exact execBavinDiv_keeps core t s same
  | bavinMod core t => exact execBavinMod_keeps core t s same
  | bavinNeg core t => exact execBavinNeg_keeps core t s same
  | bavinAbs core t => exact execBavinAbs_keeps core t s same
  | bavinMin core t => exact execBavinMin_keeps core t s same
  | bavinMax core t => exact execBavinMax_keeps core t s same
  | bavinEq core t => exact execBavinEq_keeps core t s same
  | bavinNe core t => exact execBavinNe_keeps core t s same
  | bavinLt core t => exact execBavinLt_keeps core t s same
  | bavinLe core t => exact execBavinLe_keeps core t s same
  | bavinGt core t => exact execBavinGt_keeps core t s same
  | bavinGe core t => exact execBavinGe_keeps core t s same
  | bavinAnd core t => exact execBavinAnd_keeps core t s same
  | bavinOr core t => exact execBavinOr_keeps core t s same
  | bavinXor core t => exact execBavinXor_keeps core t s same
  | bavinNot core t => exact execBavinNot_keeps core t s same
  | bavinShl core t => exact execBavinShl_keeps core t s same
  | bavinShr core t => exact execBavinShr_keeps core t s same
  | bavinConv core src dst => exact execBavinConv_keeps core src dst s same
  | bavinJmp core offset => exact execBavinJmp_keeps core offset s same
  | bavinJmpt core offset => exact execBavinJmpt_keeps core offset s same
  | bavinJmpf core offset => exact execBavinJmpf_keeps core offset s same
  | bavinCall core f => exact execBavinCall_keeps core f s same
  | bavinRet core => exact execBavinRet_keeps core s same
  | bavinEnd core => exact execBavinEnd_keeps core s same
  | bavinSel core t => exact execBavinSel_keeps core t s same
  | bavinLimit core t => exact execBavinLimit_keeps core t s same
  | bavinLdl core slot => exact execBavinLdl_keeps core slot s same
  | bavinStl core slot => exact execBavinStl_keeps core slot s same
  | bavinSqrt core => exact execBavinSqrt_keeps core s same
  | bavinExp core => exact execBavinExp_keeps core s same
  | bavinLn core => exact execBavinLn_keeps core s same
  | bavinLog10 core => exact execBavinLog10_keeps core s same
  | bavinSin core => exact execBavinSin_keeps core s same
  | bavinCos core => exact execBavinCos_keeps core s same
  | bavinTan core => exact execBavinTan_keeps core s same
  | bavinAsin core => exact execBavinAsin_keeps core s same
  | bavinAcos core => exact execBavinAcos_keeps core s same
  | bavinAtan core => exact execBavinAtan_keeps core s same
  | bavinAtan2 core => exact execBavinAtan2_keeps core s same
  | bavinPow core => exact execBavinPow_keeps core s same
  | bavinTrunc core => exact execBavinTrunc_keeps core s same
  | bavinRound core => exact execBavinRound_keeps core s same
  | bavinFloor core => exact execBavinFloor_keeps core s same
  | bavinCeil core => exact execBavinCeil_keeps core s same
  | bavinIsnan core => exact execBavinIsnan_keeps core s same
  | bavinFma core => exact execBavinFma_keeps core s same
  | bavinRol core t => exact execBavinRol_keeps core t s same
  | bavinRor core t => exact execBavinRor_keeps core t s same
  | bavinGetbit core t => exact execBavinGetbit_keeps core t s same
  | bavinSetbit core t => exact execBavinSetbit_keeps core t s same
  | bavinClrbit core t => exact execBavinClrbit_keeps core t s same
  | bavinNow core => exact execBavinNow_keeps core s same
  | bavinNowplant core => exact execBavinNowplant_keeps core s same
  | bavinCyclestart core => exact execBavinCyclestart_keeps core s same
  | bavinPeriod core => exact execBavinPeriod_keeps core s same
  | bavinTon core sym => exact execBavinTon_keeps core sym s same
  | bavinTof core sym => exact execBavinTof_keeps core sym s same
  | bavinTp core sym => exact execBavinTp_keeps core sym s same
  | bavinRtrig core sym => exact execBavinRtrig_keeps core sym s same
  | bavinFtrig core sym => exact execBavinFtrig_keeps core sym s same
  | bavinCtu core sym => exact execBavinCtu_keeps core sym s same
  | bavinCtd core sym => exact execBavinCtd_keeps core sym s same
  | bavinSr core sym => exact execBavinSr_keeps core sym s same
  | bavinRs core sym => exact execBavinRs_keeps core sym s same
  | bavinCopy core src dst => exact execBavinCopy_keeps core src dst s same
  | bavinFill core sym => exact execBavinFill_keeps core sym s same
  | bavinLen core sym => exact execBavinLen_keeps core sym s same
  | bavinStnok core station => exact execBavinStnok_keeps core station s same
  | bavinStnstate core station => exact execBavinStnstate_keeps core station s same
  | bavinStnenable core station => exact execBavinStnenable_keeps core station s same
  | bavinWvalid core conn => exact execBavinWvalid_keeps core conn s same
  | bavinWpub core conn sym => exact execBavinWpub_keeps core conn sym s same
  | bavinRaise core n => exact execBavinRaise_keeps core n s same
  | bavinTrigger core task => exact execBavinTrigger_keeps core task s same
  | bavinRdreg core => exact execBavinRdreg_keeps core s same
  | bavinWrreg core => exact execBavinWrreg_keeps core s same
  | bavinAssert core code => exact execBavinAssert_keeps core code s same
  | bavinTrap core code => exact execBavinTrap_keeps core code s same
  | bavinIsforced core sym => exact execBavinIsforced_keeps core sym s same
  | bavinCellget core field => exact execBavinCellget_keeps core field s same
  | bavinCellflags core => exact execBavinCellflags_keeps core s same
  | bavinNodeget core field => exact execBavinNodeget_keeps core field s same
  | bavinStrget core field => exact execBavinStrget_keeps core field s same
  | bavinStrstate core => exact execBavinStrstate_keeps core s same
  | bavinSloty core slot => exact execBavinSloty_keeps core slot s same
  | bavinXinset core n => exact execBavinXinset_keeps core n s same
  | bavinOutreq core => exact execBavinOutreq_keeps core s same
  | bavinAcksafe core => exact execBavinAcksafe_keeps core s same
  | cmdHello p => exact execCmdHello_keeps p s same
  | cmdBye p => exact execCmdBye_keeps p s same
  | cmdResultRead p => exact execCmdResultRead_keeps p s same
  | cmdSeqState p => exact execCmdSeqState_keeps p s same
  | cmdPing p => exact execCmdPing_keeps p s same
  | cmdCancel p => exact execCmdCancel_keeps p s same
  | cmdDeviceInfo p => exact execCmdDeviceInfo_keeps p s same
  | cmdStateRead p => exact execCmdStateRead_keeps p s same
  | cmdTableInfo p => exact execCmdTableInfo_keeps p s same
  | cmdRegRead p => exact execCmdRegRead_keeps p s same
  | cmdRegWrite p => exact execCmdRegWrite_keeps p s same
  | cmdMemRead p => exact execCmdMemRead_keeps p s same
  | cmdRun p => exact execCmdRun_keeps p s same
  | cmdStop p => exact execCmdStop_keeps p s same
  | cmdResume p => exact execCmdResume_keeps p s same
  | cmdAcknowledge p => exact execCmdAcknowledge_keeps p s same
  | cmdShutdown p => exact execCmdShutdown_keeps p s same
  | cmdDispatch p => exact execCmdDispatch_keeps p s same
  | cmdBurst p => exact execCmdBurst_keeps p s same
  | cmdSymbolRead p => exact execCmdSymbolRead_keeps p s same
  | cmdSymbolWrite p => exact execCmdSymbolWrite_keeps p s same
  | cmdForceSet p => exact execCmdForceSet_keeps p s same
  | cmdForceClear p => exact execCmdForceClear_keeps p s same
  | cmdForceList p => exact execCmdForceList_keeps p s same
  | cmdChange p => exact execCmdChange_keeps p s same
  | cmdNodeConfigRead p => exact execCmdNodeConfigRead_keeps p s same
  | cmdNodeStatus p => exact execCmdNodeStatus_keeps p s same
  | cmdEnumerate p => exact execCmdEnumerate_keeps p s same
  | cmdLearnedReset p => exact execCmdLearnedReset_keeps p s same
  | cmdEstCmd p => exact execCmdEstCmd_keeps p s same
  | cmdImageBegin p => exact execCmdImageBegin_keeps p s same
  | cmdImageBlock p => exact execCmdImageBlock_keeps p s same
  | cmdImageVerify p => exact execCmdImageVerify_keeps p s same
  | cmdImageAbort p => exact execCmdImageAbort_keeps p s same
  | cmdRecorderRead p => exact execCmdRecorderRead_keeps p s same
  | cmdConfigRead p => exact execCmdConfigRead_keeps p s same
  | cmdConfigWrite p => exact execCmdConfigWrite_keeps p s same
  | cmdConfigCommit p => exact execCmdConfigCommit_keeps p s same
  | cmdOwnerEnrol p => exact execCmdOwnerEnrol_keeps p s same
  | cmdOwnerOpen p => exact execCmdOwnerOpen_keeps p s same
  | cmdOwnerAuth p => exact execCmdOwnerAuth_keeps p s same
  | cmdOwnerCmd p => exact execCmdOwnerCmd_keeps p s same
  | cmdInvalidPacket uart ipv6 peer port bytes => exact execCmdInvalidPacket_keeps uart ipv6 peer port bytes s same
  | cmdHoldTimeout index => exact execCmdHoldTimeout_keeps index s same
  | sessionHoldExpiry index => exact execSessionHoldExpiry_keeps index s same
  | throttleEnd index => exact execThrottleEnd_keeps index s same
  | dmaAlloc n who => exact execDmaAlloc_keeps n who s same
  | dmaFree n who => exact execDmaFree_keeps n who s same
  | dmaStart n who => exact execDmaStart_keeps n who s same
  | dmaKick n who => exact execDmaKick_keeps n who s same
  | dmaAbort n who => exact execDmaAbort_keeps n who s same
  | dmaDisable n who => exact execDmaDisable_keeps n who s same
  | dmaSwreq bits => exact execDmaSwreq_keeps bits s same
  | dmaRequestStrobe line => exact execDmaRequestStrobe_keeps line s same
  | dmaBurst n => exact execDmaBurst_keeps n s same
  | dmaDescriptorComplete n => exact execDmaDescriptorComplete_keeps n s same
  | dmaCqTailWrite n value who => exact execDmaCqTailWrite_keeps n value who s same
  | dmaStallLimit n => exact execDmaStallLimit_keeps n s same
  | dmaBusError n addr write noResponse => exact execDmaBusError_keeps n addr write noResponse s same
  | dmaFirmwareRestart => exact execDmaFirmwareRestart_keeps s same
  | gsramParityError requester addr interconnect channel => exact execGsramParityError_keeps requester addr interconnect channel s same
  | codeParityError core addr refetchFailed => exact execCodeParityError_keeps core addr refetchFailed s same
  | scrubPass latent => exact execScrubPass_keeps latent s same
  | ethLinkChange port signal sync page => exact execEthLinkChange_keeps port signal sync page s same
  | ethFrameReceive port frame fcs => exact execEthFrameReceive_keeps port frame fcs s same
  | ethTxComplete pair port ts frame user underrun => exact execEthTxComplete_keeps pair port ts frame user underrun s same
  | prpSupervisionSend => exact execPrpSupervisionSend_keeps s same
  | prpNodeAgeOut => exact execPrpNodeAgeOut_keeps s same
  | prpPathLossTimeout port => exact execPrpPathLossTimeout_keeps port s same
  | timCapture => exact execTimCapture_keeps s same
  | timAlarmFire k => exact execTimAlarmFire_keeps k s same
  | plantSecond => exact execPlantSecond_keeps s same
  | ppsPulseEnd => exact execPpsPulseEnd_keeps s same
  | ptpSyncReceive port domain originNs correctionNs rxPlantNs => exact execPtpSyncReceive_keeps port domain originNs correctionNs rxPlantNs s same
  | ptpAnnounceReceive port domain announce => exact execPtpAnnounceReceive_keeps port domain announce s same
  | ptpPdelayReqSend => exact execPtpPdelayReqSend_keeps s same
  | ptpPdelayReqReceive port seq requester => exact execPtpPdelayReqReceive_keeps port seq requester s same
  | ptpPdelayRespReceive port seq t2Ns t3Ns correctionNs t4Ns => exact execPtpPdelayRespReceive_keeps port seq t2Ns t3Ns correctionNs t4Ns s same
  | ptpAnnounceTimeout port => exact execPtpAnnounceTimeout_keeps port s same
  | ptpSyncTimeout => exact execPtpSyncTimeout_keeps s same
  | holdoverBoundExceeded => exact execHoldoverBoundExceeded_keeps s same
  | holdoverTempOutOfRange => exact execHoldoverTempOutOfRange_keeps s same
  | oscModelStore => exact execOscModelStore_keeps s same
  | canFrameReceive n id ide rtr fdf brs esi dlc data ago => exact execCanFrameReceive_keeps n id ide rtr fdf brs esi dlc data ago s same
  | canRxLatch n win => exact execCanRxLatch_keeps n win s same
  | canRxRelease n win => exact execCanRxRelease_keeps n win s same
  | canTxPush n value => exact execCanTxPush_keeps n value s same
  | canTxReq n bits cancel => exact execCanTxReq_keeps n bits cancel s same
  | canTxCancel n bits onBus => exact execCanTxCancel_keeps n bits onBus s same
  | canTxComplete n slot outcome => exact execCanTxComplete_keeps n slot outcome s same
  | canTimedTxDue n slot => exact execCanTimedTxDue_keeps n slot s same
  | canBusError n code dataPhase slot collision exempt more => exact execCanBusError_keeps n code dataPhase slot collision exempt more s same
  | canBusoffRecovered n => exact execCanBusoffRecovered_keeps n s same
  | canRecover n => exact execCanRecover_keeps n s same
  | canSleepReq n wake => exact execCanSleepReq_keeps n wake s same
  | canWakeReq n => exact execCanWakeReq_keeps n s same
  | canWakeDetect n frame dominantUs => exact execCanWakeDetect_keeps n frame dominantUs s same
  | canCommit n value => exact execCanCommit_keeps n value s same
  | canReferenceDue n => exact execCanReferenceDue_keeps n s same
  | canReferenceLost n => exact execCanReferenceLost_keeps n s same
  | recorderTokenRefill code => exact execRecorderTokenRefill_keeps code s same
  | recorderIntervalTimer => exact execRecorderIntervalTimer_keeps s same
  | recPersistReq => exact execRecPersistReq_keeps s same
  | recorderWriteDone ok => exact execRecorderWriteDone_keeps ok s same
  | detailPageTimeout => exact execDetailPageTimeout_keeps s same
  | imageEraseDone => exact execImageEraseDone_keeps s same
  | imageSessionTimeout => exact execImageSessionTimeout_keeps s same
  | arbGrantConfirmed level => exact execArbGrantConfirmed_keeps level s same
  | redAliveRefresh => exact execRedAliveRefresh_keeps s same
  | aliveRefreshTimeout => exact execAliveRefreshTimeout_keeps s same
  | beatSend => exact execBeatSend_keeps s same
  | partnerFrameReceive groups => exact execPartnerFrameReceive_keeps groups s same
  | lastFastSetSend => exact execLastFastSetSend_keeps s same
  | lastFullSetSend => exact execLastFullSetSend_keeps s same
  | lastPersistTimer => exact execLastPersistTimer_keeps s same
  | lastStaleTimeout => exact execLastStaleTimeout_keeps s same
  | partnerLinkTimeout => exact execPartnerLinkTimeout_keeps s same
  | fullLayerComplete cell => exact execFullLayerComplete_keeps cell s same
  | fullSequenceRequestTimer => exact execFullSequenceRequestTimer_keeps s same
  | lastCopyDone ok => exact execLastCopyDone_keeps ok s same
  | configStoreDone kind => exact execConfigStoreDone_keeps kind s same
  | recorderEraseDone ring => exact execRecorderEraseDone_keeps ring s same
  | imageBlockStored => exact execImageBlockStored_keeps s same
  | imageVerifyDone readOk program => exact execImageVerifyDone_keeps readOk program s same
  | canRxBufferHoldoffEnd n => exact execCanRxBufferHoldoffEnd_keeps n s same
  | ethEventHoldoffEnd port transmit => exact execEthEventHoldoffEnd_keeps port transmit s same
  | tetherLinkChange port up => exact execTetherLinkChange_keeps port up s same

/-! One step: a command that waits, or one cycle of time. -/

theorem exec_next_keeps {c : Instr} {s t : State} (h : exec c s = .next t) : Keeps s t := exec_keeps c s t h

theorem step_eq_cons {s : State} {c : Instr} {rest : List Instr} (h : s.pending = c :: rest) :
    step s = exec c { s with pending := rest } := by
  simp only [step, h]

theorem step_eq_idle {s : State} (h : s.pending = []) : step s = .next s.idle := by
  simp only [step, h]

/-- Settles O1. -/
theorem stepRunsFrontCommand : Obligations.StepRunsFrontCommand :=
  fun _ _ _ => step_eq_cons rfl

/-- Settles O2: a cycle of time keeps the queue, which is empty. -/
theorem emptyQueueStepIsOneCycle : Obligations.EmptyQueueStepIsOneCycle :=
  fun s empty => ⟨step_eq_idle empty, (State.idle_keeps s (Keeps.refl s)).queue.trans empty⟩

/-- Settles O3. -/
theorem resetValues : Obligations.ResetValues := by
  unfold Obligations.ResetValues
  refine ⟨rfl, rfl, rfl, rfl, rfl, ?_, ?_, rfl, fun _ => rfl, fun _ => rfl⟩ <;> decide

/-- Settles O4. -/
theorem canonicalFormHoldsAtReset : Obligations.CanonicalFormHoldsAtReset := ⟨rfl, rfl⟩

theorem Keeps.wf {s t : State} (k : Keeps s t) (w : s.wf) : t.wf := ⟨k.regs w.1, k.gsram w.2⟩

/-- Settles O5: with a command waiting by what that command keeps, else by what a cycle of time keeps. -/
theorem everyStepKeepsCanonicalForm : Obligations.EveryStepKeepsCanonicalForm := by
  unfold Obligations.EveryStepKeepsCanonicalForm
  intro s t wf h
  cases waiting : s.pending with
  | nil =>
    rw [step_eq_idle waiting] at h
    cases h
    exact (State.idle_keeps s (Keeps.refl s)).wf wf
  | cons c rest =>
    rw [step_eq_cons waiting] at h
    exact (exec_next_keeps h).wf wf

/-- Settles O6. -/
theorem commandsKeepQueueAndOutputs : Obligations.CommandsKeepQueueAndOutputs :=
  fun _ _ _ h => ⟨(exec_next_keeps h).queue, (exec_next_keeps h).out, (exec_next_keeps h).free⟩

/-- A step with a command waiting takes it off the queue, which is then the rest, and takes back no output. -/
theorem step_drains {s t : State} {c : Instr} {rest : List Instr} (waiting : s.pending = c :: rest)
    (h : step s = .next t) : t.pending = rest ∧ s.out <:+ t.out := by
  rw [step_eq_cons waiting] at h
  exact ⟨(exec_next_keeps h).queue, (exec_next_keeps h).out⟩

/-- As many steps as commands wait empty the queue, by induction on the queue. -/
theorem runs_drains : ∀ (q : List Instr) (s : State), s.pending = q →
    ∃ t, runs q.length s t ∧ t.pending = [] ∧ s.out <:+ t.out
  | [], s, empty => ⟨s, rfl, empty, List.suffix_refl _⟩
  | c :: rest, s, waiting => by
    obtain ⟨u, next⟩ : Answers (step s) := by rw [step_eq_cons waiting]; exact exec_answers c _
    obtain ⟨left, kept⟩ := step_drains waiting next
    obtain ⟨t, run, drained, suffix⟩ := runs_drains rest u left
    exact ⟨t, ⟨u, next, run⟩, drained, kept.trans suffix⟩

/-- Settles O8. -/
theorem queueDrainsFirstInFirstOut : Obligations.QueueDrainsFirstInFirstOut :=
  ⟨fun _ _ _ _ waiting h => (step_drains waiting h).1, fun s => runs_drains s.pending s rfl⟩

end Sys2Proof.Machine

/-!
PROOFS. Registers, fields and GSRAM: what is written reads as written, and nothing else changes. The counters of the 128
event sources lie four to a word, so a clear of some leaves each of the others (R46).
-/

namespace Sys2Proof.Machine

/-! GSRAM. -/

/-- The number that little-endian bytes spell is the one that they were formed from, cut to them. -/
theorem natLE_bytesLE : ∀ n v : Nat, natLE (bytesLE n v) = v % 256 ^ n
  | 0, v => by simp [natLE, bytesLE, Nat.mod_one]
  | n + 1, v => by
    have low : (BitVec.ofNat 8 v).toNat = v % 256 := BitVec.toNat_ofNat v 8
    rw [bytesLE, natLE, natLE_bytesLE n, low, Nat.pow_succ', Nat.mod_mul]

@[simp] theorem State.putBytes_regs : ∀ (bs : Bytes) (s : State) (a : Nat), (s.putBytes a bs).regs = s.regs
  | [], _, _ => rfl
  | _ :: bs, s, a => State.putBytes_regs bs (s.putByte a _) (a + 1)

/-- A run of bytes written reads back: the first byte, because the rest lies above it, then the rest. -/
theorem State.getBytes_putBytes : ∀ (bs : Bytes) (s : State) (a : Nat), Memory.wf s.gsram = true →
    (s.putBytes a bs).getBytes a bs.length = bs
  | [], _, _, _ => rfl
  | b :: bs, s, a, w => by
    have first : ((s.putByte a b).putBytes (a + 1) bs).getByte a = b := by
      rw [State.getByte_putBytes_ne (by omega), State.getByte_putByte w]
    rw [State.putBytes, List.length_cons, State.getBytes, first,
      State.getBytes_putBytes bs _ _ (State.putByte_wf w)]

theorem State.getWord_putWord {s : State} (a : Nat) (v : Word) (w : Memory.wf s.gsram = true) :
    (s.putWord a v).getWord a = v := by
  have bytes : (s.putBytes a (bytesLE 4 v.toNat)).getBytes a 4 = bytesLE 4 v.toNat := by
    simpa [bytesLE_length] using s.getBytes_putBytes (bytesLE 4 v.toNat) a w
  have whole : v.toNat % 256 ^ 4 = v.toNat := Nat.mod_eq_of_lt v.isLt
  unfold State.getWord State.putWord
  rw [bytes, natLE_bytesLE, whole, BitVec.ofNat_toNat, BitVec.setWidth_eq]

/-- Settles O9. -/
theorem memoryReadsWhatWasWritten : Obligations.MemoryReadsWhatWasWritten := by
  unfold Obligations.MemoryReadsWhatWasWritten
  intro s a bs v wf
  obtain ⟨registers, memory⟩ := wf
  refine ⟨s.getBytes_putBytes bs a memory, fun b out => State.getByte_putBytes_ne out,
    State.getWord_putWord a v memory, ⟨?_, State.putBytes_wf memory⟩, State.putBytes_regs bs s a⟩
  rw [State.putBytes_regs]
  exact registers

/-! Register fields. -/

/-- Settles O10. -/
theorem registerFieldReadsWhatWasWritten : Obligations.RegisterFieldReadsWhatWasWritten := by
  unfold Obligations.RegisterFieldReadsWhatWasWritten
  intro s a hi lo v wf order width
  obtain ⟨registers, memory⟩ := wf
  exact ⟨State.fld_setFld v registers order width,
    fun b _ out => State.bit_setFld_ne v registers order width out.symm,
    fun r other => s.rd_setFld_ne hi lo v other, State.setFld_wf registers, memory⟩

/-! Plain writes (R13). -/

theorem getBit_eq_getLsbD (w : Word) (b : Nat) : getBit w b = w.getLsbD b := by
  have width : b + 1 - b = 1 := by omega
  simp [getBit, getBits, width, BitVec.getLsbD, Nat.testBit_eq_decide_div_mod_eq]

theorem getBit_and (v w : Word) (b : Nat) : getBit (v &&& w) b = (getBit v b && getBit w b) := by
  simp [getBit_eq_getLsbD]

theorem getBit_or (v w : Word) (b : Nat) : getBit (v ||| w) b = (getBit v b || getBit w b) := by
  simp [getBit_eq_getLsbD]

theorem getBit_not (w : Word) {b : Nat} (h : b < 32) : getBit (~~~w) b = !getBit w b := by
  simp [getBit_eq_getLsbD, h]

theorem getBit_zero (b : Nat) : getBit 0 b = false := by
  simp [getBit_eq_getLsbD]

/-- A bit after a plain write, from the access codes of its register: the mask says whether it takes the value written,
and a 1 to a write-1-to-clear bit clears. -/
theorem State.bit_plainWrite {s : State} (a : Nat) (v : Word) {b : Nat} (w : Sparse.wf regReset s.regs = true)
    (h : b < 32) :
    (s.plainWrite a v).bit a b =
      ((if (getBit (regRow a).rw b || (s.rwlOpen a && getBit (regRow a).rwl b)) = true then getBit v b else s.bit a b) &&
        !(getBit v b && getBit (regRow a).w1c b)) := by
  unfold State.plainWrite State.bit
  rw [State.rd_wr _ _ w]
  cases lock : s.rwlOpen a <;>
  · simp only [getBit_and, getBit_or, getBit_not _ h, getBit_zero, if_true, if_false, Bool.false_eq_true]
    cases getBit (regRow a).rw b <;> cases getBit (regRow a).rwl b <;> simp

/-- Settles O22: each kind of bit is a case of the bit after a plain write. -/
theorem plainWriteFollowsAccessCodes : Obligations.PlainWriteFollowsAccessCodes := by
  unfold Obligations.PlainWriteFollowsAccessCodes
  intro s a v b wf hb
  obtain ⟨registers, -⟩ := wf
  have after (v : Word) := s.bit_plainWrite a v registers hb
  refine ⟨?cleared, ?left, ?writable, ?fixed, fun r other => s.rd_wr_ne _ other, rfl, ?setWins⟩
  case cleared => intro w1c _ _ one; simp [after, w1c, one]
  case left => intro w1c rw rwl zero; simp [after, rw, rwl, zero]
  case writable => intro rw w1c; simp [after, rw, w1c]
  case fixed => intro rw rwl w1c _; simp [after, rw, rwl, w1c]
  case setWins => intro h set w1c rw rwl; simp [after, rw, rwl, w1c, set, setWins, getBit_and, getBit_not _ hb]

/-! Event counters (R46). -/

/-- The occurrence counter of a source. -/
def State.counter (s : State) (src : Nat) : Nat := s.fld (Reg.EVT_COUNT (src / 4)) (8 * (src % 4) + 7) (8 * (src % 4))

/-- The counter of a source set to 0, where that is asked for. -/
def State.clearCounter (s : State) (asked : Bool) (src : Nat) : State :=
  if asked then s.setFld (Reg.EVT_COUNT (src / 4)) (8 * (src % 4) + 7) (8 * (src % 4)) 0 else s

theorem State.clearCounter_wf {s : State} {asked : Bool} {src : Nat} (w : Sparse.wf regReset s.regs = true) :
    Sparse.wf regReset (s.clearCounter asked src).regs = true := by
  unfold State.clearCounter
  split
  · exact State.setFld_wf w
  · exact w

/-- Two counters are one field, or fields of one word that do not meet, or lie in two words. -/
theorem State.counter_clearCounter {s : State} (asked : Bool) (n src : Nat) (w : Sparse.wf regReset s.regs = true) :
    (s.clearCounter asked n).counter src = if n = src ∧ asked = true then 0 else s.counter src := by
  cases asked with
  | false => simp [State.clearCounter]
  | true =>
    simp only [State.clearCounter, State.counter, if_true, and_true]
    by_cases same : n = src
    · rw [if_pos same, same, State.fld_setFld 0 w (by omega) (by omega), Nat.zero_mod]
    · rw [if_neg same]
      by_cases word : n / 4 = src / 4
      · rw [word, State.fld_setFld_ne 0 w (by omega) (by omega) (by omega)]
      · have apart : Reg.EVT_COUNT (src / 4) ≠ Reg.EVT_COUNT (n / 4) := by unfold Reg.EVT_COUNT; omega
        unfold State.fld
        rw [State.rd_setFld_ne _ _ _ _ apart]

/-- The clear goes through the 32 sources of its word, each by its bit. -/
theorem State.countClear_eq_foldl (s : State) (k : Nat) (bits : Word) :
    s.countClear k bits = (List.range 32).foldl (fun t b => t.clearCounter (getBit bits b) (32 * k + b)) s := by
  have same : (fun (t : State) (b : Nat) => if getBit bits b then
      t.setFld (Reg.EVT_COUNT (8 * k + b / 4)) (8 * (b % 4) + 7) (8 * (b % 4)) 0 else t) =
      fun t b => t.clearCounter (getBit bits b) (32 * k + b) := by
    funext t b
    have word : (32 * k + b) / 4 = 8 * k + b / 4 := by omega
    have place : (32 * k + b) % 4 = b % 4 := by omega
    simp only [State.clearCounter, word, place]
  unfold State.countClear
  rw [same]

theorem State.counter_foldl_clearCounter (k : Nat) (bits : Word) (src : Nat) : ∀ (l : List Nat) (s : State),
    Sparse.wf regReset s.regs = true →
    (l.foldl (fun t b => t.clearCounter (getBit bits b) (32 * k + b)) s).counter src =
      if ∃ b ∈ l, 32 * k + b = src ∧ getBit bits b = true then 0 else s.counter src
  | [], s, _ => by simp
  | b :: l, s, w => by
    rw [List.foldl_cons, State.counter_foldl_clearCounter k bits src l _ (State.clearCounter_wf w),
      State.counter_clearCounter _ _ _ w]
    by_cases here : 32 * k + b = src ∧ getBit bits b = true <;> simp [here]

/-- Settles O26: source src is bit src % 32 of word src / 32. -/
theorem countClearClearsWhatIsAsked : Obligations.CountClearClearsWhatIsAsked := by
  unfold Obligations.CountClearClearsWhatIsAsked
  intro s k bits src wf hk hsrc
  obtain ⟨registers, -⟩ := wf
  have asked : (∃ b ∈ List.range 32, 32 * k + b = src ∧ getBit bits b = true) ↔
      src / 32 = k ∧ getBit bits (src % 32) = true := by
    constructor
    · rintro ⟨b, inWord, place, bit⟩
      have low : b < 32 := List.mem_range.mp inWord
      have bitPlace : src % 32 = b := by omega
      exact ⟨by omega, bitPlace ▸ bit⟩
    · rintro ⟨word, bit⟩
      exact ⟨src % 32, List.mem_range.mpr (Nat.mod_lt _ (by decide)), by omega, bit⟩
  have cleared := State.counter_foldl_clearCounter k bits src (List.range 32) s registers
  rw [← State.countClear_eq_foldl, if_congr asked rfl rfl] at cleared
  exact cleared

/-! Integers of Bavin (R311). -/

/-- A value in the range of 64 bits is held as itself. -/
theorem valInt_ofInt {i : Int} (lower : -2 ^ 63 ≤ i) (upper : i < 2 ^ 63) : valInt (BitVec.ofInt 64 i) = i := by
  unfold valInt
  rw [BitVec.toInt_ofInt]
  exact Int.bmod_eq_of_le (by omega) (by omega)

theorem valInt_ofNat {n : Nat} (upper : n < 2 ^ 63) : valInt (BitVec.ofNat 64 n) = n := by
  have held := valInt_ofInt (i := n) (by omega) (by omega)
  rwa [BitVec.ofInt_natCast] at held

/-- A wrapped value lies in its type's range and differs from the exact number by a multiple of two to its width. -/
theorem valInt_wrapVal {t : Nat} (i : Int) (lower : 1 ≤ t) (upper : t ≤ 4) :
    typeMin t ≤ valInt (wrapVal t i) ∧ valInt (wrapVal t i) ≤ typeMax t ∧
      (valInt (wrapVal t i) - i) % (2 ^ typeBits t : Nat) = 0 := by
  obtain rfl | rfl | rfl | rfl : t = 1 ∨ t = 2 ∨ t = 3 ∨ t = 4 := by omega
  case inl | inr.inl =>
    simp only [wrapVal, extend, signed, wrapInt, typeMin, typeMax, typeBits, typeSize, typeSigned]
    norm_num
    rw [valInt_ofInt (by split <;> omega) (by split <;> omega)]
    split <;> omega
  case inr.inr.inl | inr.inr.inr =>
    simp only [wrapVal, extend, wrapInt, typeMin, typeMax, typeBits, typeSize, typeSigned]
    norm_num
    rw [valInt_ofNat (by omega)]
    omega

/-- Settles O51: each of the four operations wraps the exact number. -/
theorem bavinIntegersWrap : Obligations.BavinIntegersWrap := by
  unfold Obligations.BavinIntegersWrap
  intro t a b lower upper r i listed
  have integer : t ≠ 5 := by omega
  simp only [List.mem_cons, Prod.mk.injEq, List.not_mem_nil, or_false, valAdd, valSub, valMul, valNeg, if_neg integer]
    at listed
  obtain ⟨rfl, rfl⟩ | ⟨rfl, rfl⟩ | ⟨rfl, rfl⟩ | ⟨rfl, rfl⟩ := listed <;> exact valInt_wrapVal _ lower upper

end Sys2Proof.Machine

/-!
PROOFS. A strobe marks its source (R39): detail and counter are written once, when the source is marked. What follows the
mark, delivery, the queue and the recorder, writes no counter and no detail but those of the two sources that it strobes
itself.
-/

namespace Sys2Proof.Machine

/-- The registers that hold occurrence counters and details. -/
def sourceReg (a : Nat) : Bool := decide (Reg.EVT_COUNT 0 ≤ a) && decide (a < Reg.EVT_DETAIL 128)

/-- From s to t no counter and no detail of any source has changed. -/
def SourcesStand (s t : State) : Prop := ∀ a, sourceReg a = true → t.rd a = s.rd a

theorem SourcesStand.refl (s : State) : SourcesStand s s := fun _ _ => rfl

theorem SourcesStand.trans {s t u : State} (h : SourcesStand s t) (k : SourcesStand t u) : SourcesStand s u :=
  fun a r => (k a r).trans (h a r)

/-- An update of other fields. -/
theorem SourcesStand.of_regs {s t : State} (h : t.regs = s.regs) : SourcesStand s t :=
  fun a _ => congrArg (fun r => Sparse.get regReset r a) h

theorem SourcesStand.wr {s : State} {a : Nat} (v : Word) (h : sourceReg a = false) : SourcesStand s (s.wr a v) :=
  fun b r => s.rd_wr_ne v (fun e => by rw [e, h] at r; cases r)

theorem SourcesStand.ite {s t u : State} {c : Prop} {_ : Decidable c} (h : SourcesStand s t) (k : SourcesStand s u) :
    SourcesStand s (if c then t else u) := by
  split
  · exact h
  · exact k

theorem State.insoleStart_regs (s : State) (op : InsoleOp) : (s.insoleStart op).regs = s.regs := by
  unfold State.insoleStart
  split <;> rfl

theorem State.recProgramPage_regs (s : State) : s.recProgramPage.regs = s.regs := by
  unfold State.recProgramPage
  split
  · rfl
  · dsimp only
    split
    · exact State.insoleStart_regs s _
    · rfl

theorem State.recOccur_sourcesStand (s : State) (code detail : Nat) : SourcesStand s (s.recOccur code detail).1 := by
  unfold State.recOccur
  lift_lets -underBinder
  intro count newCount _ s1 spent suppressed entry _ s2 counted rateLimited limited
  have first : SourcesStand s s1 := SourcesStand.of_regs rfl
  have entered : SourcesStand s counted :=
    (first.trans (SourcesStand.of_regs (t := s2) rfl)).trans (SourcesStand.wr _ (by decide))
  have suppressedOne : SourcesStand s limited :=
    (((first.trans (SourcesStand.of_regs (t := rateLimited) rfl)).trans (SourcesStand.wr _ (by decide))).trans
      (SourcesStand.wr _ (by decide))).trans (SourcesStand.wr _ (by decide))
  clear_value limited counted s1
  split
  · exact SourcesStand.ite (entered.trans (SourcesStand.of_regs (State.recProgramPage_regs _))) entered
  · exact suppressedOne

theorem sourceReg_iff (a : Nat) : sourceReg a = true ↔ 0x40030100 ≤ a ∧ a < 0x40030400 := by
  rw [sourceReg, Bool.and_eq_true, decide_eq_true_eq, decide_eq_true_eq]
  rfl

theorem sourceReg_eq_false {a : Nat} (h : 0x40030400 ≤ a) : sourceReg a = false := by
  have outside : ¬ sourceReg a = true := by rw [sourceReg_iff]; omega
  simpa using outside

theorem sourceReg_task (k : Nat) : sourceReg (Reg.PRG_TASK_STAT k) = false :=
  sourceReg_eq_false (by unfold Reg.PRG_TASK_STAT; omega)

theorem sourceReg_channel (n : Nat) :
    sourceReg (Reg.DMA_CH_STAT n) = false ∧ sourceReg (Reg.DMA_CH_STALL n) = false :=
  ⟨sourceReg_eq_false (by unfold Reg.DMA_CH_STAT; omega), sourceReg_eq_false (by unfold Reg.DMA_CH_STALL; omega)⟩

theorem State.releaseEvent_sourcesStand (s : State) (k : Nat) : SourcesStand s (s.releaseEvent k) := by
  have status (v : Word) : SourcesStand s (s.wr (Reg.PRG_TASK_STAT k) v) := SourcesStand.wr v (sourceReg_task k)
  unfold State.releaseEvent
  dsimp only
  split
  · exact (status _).trans (SourcesStand.of_regs rfl)
  · exact SourcesStand.ite (status _) (SourcesStand.of_regs rfl)
  · exact SourcesStand.ite (status _) (SourcesStand.of_regs rfl)
  · exact SourcesStand.refl s
  · exact status _

theorem State.releases_sourcesStand (bound : State → Nat → Bool) : ∀ (l : List Nat) (s : State),
    SourcesStand s (l.foldl (fun t k => if bound t k then t.releaseEvent k else t) s)
  | [], s => SourcesStand.refl s
  | k :: l, s => (SourcesStand.ite (s.releaseEvent_sourcesStand k) (SourcesStand.refl s)).trans
      (State.releases_sourcesStand bound l _)

theorem State.deliver_sourcesStand (s : State) (src detail : Nat) : SourcesStand s (s.deliver src detail) := by
  have emitted : SourcesStand s (s.emit (.eventToCore src detail)) := SourcesStand.of_regs rfl
  exact SourcesStand.ite (emitted.trans (State.releases_sourcesStand (fun _ k => s.boundTo src k) _ _)) emitted

theorem State.dmaRequest_sourcesStand (s : State) (line : Nat) : SourcesStand s (s.dmaRequest line) := by
  unfold State.dmaRequest
  split
  · exact SourcesStand.refl s
  · next n _ =>
    obtain ⟨status, stall⟩ := sourceReg_channel n
    exact SourcesStand.ite (((SourcesStand.of_regs rfl).trans (SourcesStand.wr _ status)).trans (SourcesStand.wr _ stall))
      (SourcesStand.of_regs rfl)

theorem State.setFld_sourcesStand (s : State) {a : Nat} (hi lo v : Nat) (h : sourceReg a = false) :
    SourcesStand s (s.setFld a hi lo v) := SourcesStand.wr _ h

theorem State.queuePush_sourcesStand (s : State) (src detail : Nat) : SourcesStand s (s.queuePush src detail) := by
  have numbered (u : State) (x : Evt) : SourcesStand u { u with evt := x } := SourcesStand.of_regs rfl
  unfold State.queuePush
  dsimp only
  exact (SourcesStand.of_regs (State.putBytes_regs _ s _)).trans ((numbered _ _).trans
    ((State.setFld_sourcesStand _ _ _ _ (by decide)).trans ((State.setFld_sourcesStand _ _ _ _ (by decide)).trans
      (State.dmaRequest_sourcesStand _ _))))

/-! Detail and counter of one source. -/

/-- The pending flag, detail and counter written by a mark. -/
theorem State.evtMark_detail (s : State) (src detail : Nat) (w : Sparse.wf regReset s.regs = true) :
    (s.evtMark src detail).rd (Reg.EVT_DETAIL src) = BitVec.ofNat 32 (detail % 2 ^ 24) :=
  State.rd_wr _ _ (State.setFld_wf (State.setBit_wf w))

theorem State.evtMark_detail_ne (s : State) {src other : Nat} (detail : Nat) (hs : src < 128) (h : other ≠ src) :
    (s.evtMark src detail).rd (Reg.EVT_DETAIL other) = s.rd (Reg.EVT_DETAIL other) := by
  unfold State.evtMark
  rw [State.rd_wr_ne _ _ (by simp only [Reg.EVT_DETAIL]; omega),
    State.rd_incFld_ne _ _ _ (by simp only [Reg.EVT_DETAIL, Reg.EVT_COUNT]; omega),
    State.rd_setBit_ne _ _ _ (by simp only [Reg.EVT_DETAIL, Reg.EVT_PEND]; omega)]

/-- A mark's writes to the pending flag and the detail leave every counter alone. -/
theorem State.evtMark_fld (s : State) {src k : Nat} (detail hi lo : Nat) (hs : src < 128) (hk : k < 32) :
    (s.evtMark src detail).fld (Reg.EVT_COUNT k) hi lo = ((s.setBit (Reg.EVT_PEND (src / 32)) (src % 32) true).incFld
      (Reg.EVT_COUNT (src / 4)) (8 * (src % 4) + 7) (8 * (src % 4))).fld (Reg.EVT_COUNT k) hi lo := by
  unfold State.evtMark State.fld
  rw [State.rd_wr_ne _ _ (by simp only [Reg.EVT_DETAIL, Reg.EVT_COUNT]; omega)]

theorem State.setPend_counter (s : State) {src : Nat} (n : Nat) (hs : src < 128) :
    (s.setBit (Reg.EVT_PEND (src / 32)) (src % 32) true).counter n = s.counter n := by
  unfold State.counter State.fld
  rw [State.rd_setBit_ne _ _ _ (by simp only [Reg.EVT_PEND, Reg.EVT_COUNT]; omega)]

theorem State.evtMark_counter (s : State) {src : Nat} (detail : Nat) (hs : src < 128)
    (w : Sparse.wf regReset s.regs = true) : (s.evtMark src detail).counter src = min 255 (s.counter src + 1) := by
  have width : 2 ^ (8 * (src % 4) + 7 + 1 - 8 * (src % 4)) - 1 = 255 := by
    have eight : 8 * (src % 4) + 7 + 1 - 8 * (src % 4) = 8 := by omega
    rw [eight]; rfl
  have before := s.setPend_counter src hs
  unfold State.counter at before ⊢
  rw [s.evtMark_fld detail _ _ hs (by omega), State.fld_incFld (State.setBit_wf w) (by omega) (by omega), width, before]

theorem State.evtMark_counter_ne (s : State) {src other : Nat} (detail : Nat) (hs : src < 128) (ho : other < 128)
    (h : other ≠ src) (w : Sparse.wf regReset s.regs = true) :
    (s.evtMark src detail).counter other = s.counter other := by
  have before := s.setPend_counter other hs
  unfold State.counter at before ⊢
  rw [s.evtMark_fld detail _ _ hs (by omega), ← before]
  by_cases word : other / 4 = src / 4
  · unfold State.incFld
    rw [word, State.fld_setFld_ne _ (State.setBit_wf w) (by omega) (by omega) (by omega)]
  · unfold State.fld
    rw [State.rd_incFld_ne _ _ _ (by simp only [Reg.EVT_COUNT]; omega)]

/-- From s to t detail and counter of the source stand. -/
structure SourceStands (src : Nat) (s t : State) : Prop where
  detail : t.rd (Reg.EVT_DETAIL src) = s.rd (Reg.EVT_DETAIL src)
  counter : t.counter src = s.counter src

theorem SourceStands.refl (src : Nat) (s : State) : SourceStands src s s := ⟨rfl, rfl⟩

theorem SourceStands.trans {src : Nat} {s t u : State} (h : SourceStands src s t) (k : SourceStands src t u) :
    SourceStands src s u := ⟨k.detail.trans h.detail, k.counter.trans h.counter⟩

theorem SourcesStand.source {src : Nat} {s t : State} (h : SourcesStand s t) (hs : src < 128) : SourceStands src s t := by
  have counted : sourceReg (Reg.EVT_COUNT (src / 4)) = true := by rw [sourceReg_iff]; unfold Reg.EVT_COUNT; omega
  have detailed : sourceReg (Reg.EVT_DETAIL src) = true := by rw [sourceReg_iff]; unfold Reg.EVT_DETAIL; omega
  refine ⟨h _ detailed, ?_⟩
  unfold State.counter State.fld
  rw [h _ counted]

/-- What a strobe does after its mark: delivery, the queue with a possible overflow, and the recorder for the source and,
for the four user events, for their application code. -/
def State.afterMark (n : Nat) (s1 : State) (src detail : Nat) : State :=
  have s2 := if s1.bit (Reg.EVT_ENABLE (src / 32)) (src % 32) then s1.deliver src detail else s1
  have s3 :=
    if s2.bit (Reg.EVT_QLOG (src / 32)) (src % 32) && src != Src.EVT_QUEUE_OVERFLOW then
      if s2.queueFill ≥ 256 then
        State.strobeTo n s2.queueDrop Src.EVT_QUEUE_OVERFLOW (s2.queueDrop.fld Reg.EVT_QUEUE_STAT 31 16 * 256 + src)
      else s2.queuePush src detail
    else s2
  have r := s3.recOccur src detail
  have s4 := if r.2 then State.strobeTo n r.1 Src.REC_RATE_LIMIT src else r.1
  have app := detail % 2 ^ 24 / 2 ^ 14
  if 84 ≤ src ∧ src ≤ 87 ∧ 256 ≤ app then
    have q := s4.recOccur app detail
    if q.2 then State.strobeTo n q.1 Src.REC_RATE_LIMIT app else q.1
  else s4

theorem State.strobeTo_succ (n : Nat) (s : State) (src detail : Nat) :
    State.strobeTo (n + 1) s src detail = State.afterMark n (s.evtMark src detail) src detail := rfl

/-- A chain of events that keeps the canonical form and a source. -/
structure PassesBy (src : Nat) (s t : State) : Prop where
  regs : Sparse.wf regReset s.regs = true → Sparse.wf regReset t.regs = true
  stands : Sparse.wf regReset s.regs = true → SourceStands src s t

theorem PassesBy.refl (src : Nat) (s : State) : PassesBy src s s := ⟨id, fun _ => SourceStands.refl src s⟩

theorem PassesBy.trans {src : Nat} {s t u : State} (h : PassesBy src s t) (k : PassesBy src t u) : PassesBy src s u :=
  ⟨k.regs ∘ h.regs, fun w => (h.stands w).trans (k.stands (h.regs w))⟩

theorem PassesBy.ite {src : Nat} {s t u : State} {c : Prop} {_ : Decidable c} (h : PassesBy src s t)
    (k : PassesBy src s u) : PassesBy src s (if c then t else u) := by
  split
  · exact h
  · exact k

theorem Eventful.passesBy {src : Nat} {s t : State} (e : Eventful s t) (h : SourcesStand s t) (hs : src < 128) :
    PassesBy src s t := ⟨e.regs, fun _ => h.source hs⟩

/-- What follows a mark passes by a source that the strobes of the queue and the recorder pass by. -/
theorem State.afterMark_passesBy {n other : Nat} (ho : other < 128)
    (overflow : ∀ (u : State) (d : Nat), PassesBy other u (State.strobeTo n u Src.EVT_QUEUE_OVERFLOW d))
    (limit : ∀ (u : State) (d : Nat), PassesBy other u (State.strobeTo n u Src.REC_RATE_LIMIT d))
    (s : State) (src detail : Nat) : PassesBy other s (State.afterMark n s src detail) := by
  have recorded (u : State) (code d arg : Nat) : PassesBy other u (if (u.recOccur code d).2 then
      State.strobeTo n (u.recOccur code d).1 Src.REC_RATE_LIMIT arg else (u.recOccur code d).1) := by
    have occurred := (State.recOccur_eventful u code d).passesBy (State.recOccur_sourcesStand u code d) ho
    exact PassesBy.ite (occurred.trans (limit _ _)) occurred
  have delivered (u : State) (b : Bool) : PassesBy other u (if b then u.deliver src detail else u) :=
    PassesBy.ite ((State.deliver_eventful u src detail).passesBy (State.deliver_sourcesStand u src detail) ho)
      (PassesBy.refl other u)
  have pushed (u : State) := (State.queuePush_eventful u src detail).passesBy (State.queuePush_sourcesStand u src detail) ho
  have dropped (u : State) : PassesBy other u u.queueDrop :=
    (State.queueDrop_eventful u).passesBy (SourcesStand.wr _ (by decide)) ho
  unfold State.afterMark
  dsimp only
  have noted (u : State) : PassesBy other u (if (u.bit (Reg.EVT_QLOG (src / 32)) (src % 32) &&
      src != Src.EVT_QUEUE_OVERFLOW) = true then if u.queueFill ≥ 256 then State.strobeTo n u.queueDrop
        Src.EVT_QUEUE_OVERFLOW (u.queueDrop.fld Reg.EVT_QUEUE_STAT 31 16 * 256 + src) else u.queuePush src detail else u) :=
    PassesBy.ite (PassesBy.ite ((dropped u).trans (overflow _ _)) (pushed u)) (PassesBy.refl other u)
  have first := ((delivered s (s.bit (Reg.EVT_ENABLE (src / 32)) (src % 32))).trans (noted _)).trans
    (recorded _ src detail src)
  exact PassesBy.ite (first.trans (recorded _ _ _ _)) first

/-- Another source's strobe leaves detail and counter of a source alone, where the source is none of the two that a
strobe can itself raise. -/
theorem State.strobeTo_passesBy {other : Nat} (ho : other < 128) (queue : other ≠ Src.EVT_QUEUE_OVERFLOW)
    (rate : other ≠ Src.REC_RATE_LIMIT) : ∀ (n : Nat) (s : State) {src : Nat} (detail : Nat), src < 128 → other ≠ src →
      PassesBy other s (State.strobeTo n s src detail)
  | 0, s, _, _, _, _ => PassesBy.refl other s
  | n + 1, s, src, detail, hs, apart => by
    have marked : PassesBy other s (s.evtMark src detail) :=
      ⟨(State.evtMark_eventful s detail hs).regs, fun w =>
        ⟨s.evtMark_detail_ne detail hs apart, s.evtMark_counter_ne detail hs ho apart w⟩⟩
    rw [State.strobeTo_succ]
    exact marked.trans (State.afterMark_passesBy ho
      (fun u d => State.strobeTo_passesBy ho queue rate n u d (by decide) queue)
      (fun u d => State.strobeTo_passesBy ho queue rate n u d (by decide) rate) _ _ _)

/-- A strobe of a source that no strobe raises: detail and counter are those of its mark. -/
theorem State.strobe_sourceStands {s : State} {src : Nat} (detail : Nat) (hs : src < 128)
    (queue : src ≠ Src.EVT_QUEUE_OVERFLOW) (rate : src ≠ Src.REC_RATE_LIMIT) (w : Sparse.wf regReset s.regs = true) :
    SourceStands src (s.evtMark src detail) (s.strobe src detail) :=
  (State.afterMark_passesBy hs
    (fun u d => State.strobeTo_passesBy hs queue rate 7 u d (by decide) queue)
    (fun u d => State.strobeTo_passesBy hs queue rate 7 u d (by decide) rate) (s.evtMark src detail) src detail).stands
    ((State.evtMark_eventful s detail hs).regs w)

/-- Settles O12: what a strobe leaves alone is Eventful's; detail and counter are the mark's. -/
theorem strobeMarksItsSource : Obligations.StrobeMarksItsSource := by
  unfold Obligations.StrobeMarksItsSource
  intro s src d wf hs
  obtain ⟨w, -⟩ := wf
  have e := s.strobe_eventful d hs
  refine ⟨s.strobe_pend d hs w, fun queue rate => ?marked, e.pend w, e.rd, e.mem, e.mode, e.saf, e.est, e.welt, e.can,
    e.cmd⟩
  have stands := State.strobe_sourceStands d hs queue rate w
  exact ⟨stands.detail.trans (s.evtMark_detail src d w), stands.counter.trans (s.evtMark_counter d hs w)⟩

end Sys2Proof.Machine

/-!
PROOFS. A command that its session takes (R350 to R361): it is let through, its session notes its sequences, and as the
next in sequence it executes at once as the operation that acceptance opens.
-/

namespace Sys2Proof.Machine

/-! What showing a session leaves alone. -/

@[simp] theorem State.setSession_mode (s : State) (i : Nat) (v : Session) : (s.setSession i v).mode = s.mode := rfl
@[simp] theorem State.setSession_supply (s : State) (i : Nat) (v : Session) : (s.setSession i v).supply = s.supply := rfl
@[simp] theorem State.setSession_monoNs (s : State) (i : Nat) (v : Session) : (s.setSession i v).monoNs = s.monoNs := rfl
@[simp] theorem State.setSession_ops (s : State) (i : Nat) (v : Session) : (s.setSession i v).cmd.ops = s.cmd.ops := rfl
@[simp] theorem State.setSession_nextOp (s : State) (i : Nat) (v : Session) :
    (s.setSession i v).cmd.nextOp = s.cmd.nextOp := rfl

/-- A session set is the one found. -/
@[simp] theorem State.session_setSession (s : State) (i : Nat) (v : Session) : (s.setSession i v).session i = some v := by
  have others : (s.cmd.sessions.filter (fun p => p.1 != i)).find? (fun p => p.1 == i) = none := by
    rw [List.find?_eq_none]
    intro p hp
    simpa using (List.mem_filter.mp hp).2
  have sessions : (s.setSession i v).cmd.sessions = s.cmd.sessions.filter (fun p => p.1 != i) ++ [(i, v)] := rfl
  unfold State.session
  rw [sessions, List.find?_append, others]
  simp

/-- Where functions run depends on the mode and on Boot alone. -/
theorem State.opRuns_congr {s t : State} (mode : t.mode = s.mode) (supply : t.supply = s.supply) (op : Nat) :
    t.opRuns op = s.opRuns op := by
  unfold State.opRuns
  rw [mode, supply]

/-- Session i stands as w, and the operation of a packet is open under a number. -/
def State.opened (s : State) (i : Nat) (w : Session) (p : CmdPacket) (id : Nat) : State :=
  have s1 := s.setSession i w
  have o : OpenOp := { id := id, sess := some i, tag := p.tag, hseq := p.hseq, opcode := p.opcode,
                       owner := p.flags / 16 % 2 == 1 }
  ({ s1 with cmd := { s1.cmd with ops := s1.cmd.ops ++ [o], nextOp := id + 1 } } : State).setSession i w

theorem State.opened_mode (s : State) (i : Nat) (w : Session) (p : CmdPacket) (id : Nat) :
    (s.opened i w p id).mode = s.mode := rfl

theorem State.opened_supply (s : State) (i : Nat) (w : Session) (p : CmdPacket) (id : Nat) :
    (s.opened i w p id).supply = s.supply := rfl

/-- The state in which a command executes is its session's, with the operation opened. -/
theorem State.begun_eq_opened (s : State) (i : Nat) (v : Session) (p : CmdPacket) :
    s.begun i v p = ((s.setSession i { v with hostAcked := p.aseq }).setSession i { v with
      hostAcked := p.aseq, arrivals := s.monoNs :: v.arrivals.filter (fun t => decide (s.monoNs < t + 1000000)) }).opened i
        { v with hostAcked := p.aseq, arrivals := s.monoNs :: v.arrivals.filter (fun t => decide (s.monoNs < t + 1000000)),
                 lastAccepted := p.hseq } p s.cmd.nextOp := by
  unfold State.begun State.opened
  rfl

theorem State.begun_opRuns (s : State) (i : Nat) (v : Session) (p : CmdPacket) (op : Nat) :
    (s.begun i v p).opRuns op = s.opRuns op := by
  rw [State.begun_eq_opened]
  exact State.opRuns_congr (by simp [State.opened_mode]) (by simp [State.opened_supply]) op

/-! The way of such a command. -/

/-- A session's command that is no query is not HELLO. -/
theorem opcode_ne_hello {op : Nat} (command : (opInfo op).map (fun x => x.1) = some false) : op ≠ 0x01 := by
  rintro rfl
  revert command
  decide

/-- With the session found as v and nothing in its way, acceptance executes the command as a new operation. -/
theorem State.acceptCmd_of_next {s : State} {i : Nat} {v : Session} {p : CmdPacket} (found : s.session i = some v)
    (newTag : s.cmd.ops.any (fun o => o.sess == some i && o.tag == p.tag) = false) (room : s.cmd.ops.length < 512) :
    s.acceptCmd i p = ((s.opened i { v with lastAccepted := p.hseq } p s.cmd.nextOp).runOp i s.cmd.nextOp p).acknowledged
      i s.cmd.nextOp p := by
  have roomLeft : ¬ 512 ≤ (s.setSession i { v with lastAccepted := p.hseq }).cmd.ops.length := by
    rw [State.setSession_ops]; omega
  unfold State.acceptCmd
  rw [found]
  dsimp only
  rw [if_neg (by simp [newTag]), if_neg roomLeft]
  rfl

/-- A command that a session takes executes at once as the next operation's number. -/
theorem State.receive_of_takesNow {s : State} {i : Nat} {v : Session} {p : CmdPacket} (taken : s.takesNow i v p) :
    s.receive p = ((s.begun i v p).runOp i s.cmd.nextOp p).acknowledged i s.cmd.nextOp p := by
  obtain ⟨on, found, calm, untamed, noneHeld, wellFormed, offered, command, next, noBurst, newTag, room, -⟩ := taken
  have through : s.letThrough p true false = (true, s) := by
    simp [State.letThrough, State.admitBound, on, found, calm, untamed, wellFormed, offered]
  have inSequence : (p.hseq + 2 ^ 32 - v.lastAccepted % 2 ^ 32) % 2 ^ 32 = 1 := by omega
  have quiet : ¬ 64 ≤ (v.arrivals.filter (fun t => decide (s.monoNs < t + 1000000))).length := by omega
  have accepted := State.acceptCmd_of_next
    (s := (s.setSession i { v with hostAcked := p.aseq }).setSession i { v with
      hostAcked := p.aseq, arrivals := s.monoNs :: v.arrivals.filter (fun t => decide (s.monoNs < t + 1000000)) })
    (State.session_setSession _ i _) (p := p) newTag room
  have inTurn : (s.setSession i { v with hostAcked := p.aseq }).sequenceCmd i p =
      ((s.begun i v p).runOp i s.cmd.nextOp p).acknowledged i s.cmd.nextOp p := by
    simp only [State.sequenceCmd, State.session_setSession, State.setSession_monoNs, inSequence, quiet, if_false, if_true,
      noneHeld, List.length_nil, State.drainHeld]
    rw [noneHeld] at accepted
    rw [accepted, State.begun_eq_opened, noneHeld]
    rfl
  unfold State.receive
  rw [through]
  simp only [if_true, State.takePacket, opcode_ne_hello command, if_false, found, command]
  exact inTurn

theorem State.receiveOp_of_takesNow {s u : State} {i n : Nat} {v : Session} {p : CmdPacket} (taken : s.takesNow i v p)
    (op : p.opcode = n) (executes : (s.begun i v p).runOp i s.cmd.nextOp p = u) :
    s.receiveOp p n = .next (u.acknowledged i s.cmd.nextOp p) := by
  rw [State.receiveOp, if_pos op, State.receive_of_takesNow taken, executes]

/-- Settles O55: the opcode picks the function that executes. -/
theorem commandsExecute : Obligations.CommandsExecute := by
  unfold Obligations.CommandsExecute
  intro s i v p taken
  have runs : (s.begun i v p).opRuns p.opcode = true := by
    obtain ⟨-, -, -, -, -, -, -, -, -, -, -, -, runs⟩ := taken
    rw [State.begun_opRuns]
    exact runs
  refine ⟨_, _, rfl, rfl, ?_⟩
  refine ⟨?_, ?_, ?_, ?_, ?_, ?_, ?_, ?_, ?_, ?_, ?_, ?_, ?_, ?_, ?_, ?_, ?_, ?_, ?_, ?_, ?_, ?_, ?_, ?_, ?_, ?_, ?_, ?_, ?_,
    ?_, ?_, ?_, ?_, ?_, ?_, ?_, ?_, ?_⟩ <;>
  · intro op
    refine State.receiveOp_of_takesNow taken op ?_
    rw [op] at runs
    simp only [State.runOp, op, runs, Bool.not_true, Bool.false_eq_true, if_false]

end Sys2Proof.Machine

/-! PROOFS. Reads after a write to another register, the guard of the Vamp, and what an outcome is under it. -/

namespace Sys2Proof.Machine

/-! A write leaves the bits and fields of every other register. -/

@[simp] theorem State.bit_wr_other {s : State} {a r : Nat} (v : Word) (i : Nat) (h : a ≠ r) :
    (s.wr r v).bit a i = s.bit a i := congrArg (getBit · i) (s.rd_wr_ne v h)

@[simp] theorem State.fld_wr_other {s : State} {a r : Nat} (v : Word) (hi lo : Nat) (h : a ≠ r) :
    (s.wr r v).fld a hi lo = s.fld a hi lo := congrArg (getBits · hi lo) (s.rd_wr_ne v h)

@[simp] theorem State.bit_setFld_other {s : State} {a r : Nat} (hi lo v i : Nat) (h : a ≠ r) :
    (s.setFld r hi lo v).bit a i = s.bit a i := State.bit_wr_other _ i h

@[simp] theorem State.fld_setFld_other {s : State} {a r : Nat} (hi lo v x y : Nat) (h : a ≠ r) :
    (s.setFld r hi lo v).fld a x y = s.fld a x y := State.fld_wr_other _ x y h

@[simp] theorem State.bit_setBit_other {s : State} {a r : Nat} (b : Nat) (v : Bool) (i : Nat) (h : a ≠ r) :
    (s.setBit r b v).bit a i = s.bit a i := State.bit_wr_other _ i h

@[simp] theorem State.fld_setBit_other {s : State} {a r : Nat} (b : Nat) (v : Bool) (x y : Nat) (h : a ≠ r) :
    (s.setBit r b v).fld a x y = s.fld a x y := State.fld_wr_other _ x y h

@[simp] theorem State.bit_incFld_other {s : State} {a r : Nat} (hi lo i : Nat) (h : a ≠ r) :
    (s.incFld r hi lo).bit a i = s.bit a i := State.bit_wr_other _ i h

@[simp] theorem State.fld_incFld_other {s : State} {a r : Nat} (hi lo x y : Nat) (h : a ≠ r) :
    (s.incFld r hi lo).fld a x y = s.fld a x y := State.fld_wr_other _ x y h

@[simp] theorem State.bit_flag_other {s : State} {a r c : Nat} (b i : Nat) (h : a ≠ r) (k : a ≠ c + 4 * (b / 4)) :
    (s.flag r c b).bit a i = s.bit a i := congrArg (getBit · i) (s.rd_flag_ne b h k)

@[simp] theorem State.fld_flag_other {s : State} {a r c : Nat} (b x y : Nat) (h : a ≠ r) (k : a ≠ c + 4 * (b / 4)) :
    (s.flag r c b).fld a x y = s.fld a x y := congrArg (getBits · x y) (s.rd_flag_ne b h k)

/-! Pending flags. -/

@[simp] theorem State.pend_wr_other {s : State} {r : Nat} (v : Word) (src : Nat) (h : Reg.EVT_PEND (src / 32) ≠ r) :
    (s.wr r v).pend src = s.pend src := State.bit_wr_other v _ h

@[simp] theorem State.pend_setFld_other {s : State} {r : Nat} (hi lo v src : Nat) (h : Reg.EVT_PEND (src / 32) ≠ r) :
    (s.setFld r hi lo v).pend src = s.pend src := State.bit_wr_other _ _ h

@[simp] theorem State.pend_setBit_other {s : State} {r : Nat} (b : Nat) (v : Bool) (src : Nat)
    (h : Reg.EVT_PEND (src / 32) ≠ r) : (s.setBit r b v).pend src = s.pend src := State.bit_wr_other _ _ h

/-- A flag leaves the fields of its register that do not hold its bit. -/
theorem State.fld_flag_ne {s : State} {r c b hi lo : Nat} (w : Sparse.wf regReset s.regs = true) (hb : b < 32)
    (h : r ≠ c + 4 * (b / 4)) (k : hi < b ∨ b < lo) : (s.flag r c b).fld r hi lo = s.fld r hi lo :=
  (State.fld_incFld_other _ _ _ _ h).trans (State.fld_setBit_ne true w hb k)

/-! Reads of a state built field by field. -/

@[simp] theorem State.bit_mk {r g m d o f a b c e h i j k l n p q t u v w x y z aa bb} (adr n' : Nat) :
    State.bit ⟨r, g, m, d, o, f, a, b, c, e, h, i, j, k, l, n, p, q, t, u, v, w, x, y, z, aa, bb⟩ adr n' =
      getBit (Sparse.get regReset r adr) n' := rfl

@[simp] theorem State.fld_mk {r g m d o f a b c e h i j k l n p q t u v w x y z aa bb} (adr hi lo : Nat) :
    State.fld ⟨r, g, m, d, o, f, a, b, c, e, h, i, j, k, l, n, p, q, t, u, v, w, x, y, z, aa, bb⟩ adr hi lo =
      getBits (Sparse.get regReset r adr) hi lo := rfl

@[simp] theorem State.bit_fold (s : State) (a n : Nat) : getBit (Sparse.get regReset s.regs a) n = s.bit a n := rfl

@[simp] theorem State.fld_fold (s : State) (a hi lo : Nat) :
    getBits (Sparse.get regReset s.regs a) hi lo = s.fld a hi lo := rfl

@[simp] theorem State.getBit_rd (s : State) (a n : Nat) : getBit (s.rd a) n = s.bit a n := rfl

@[simp] theorem State.getBits_rd (s : State) (a hi lo : Nat) : getBits (s.rd a) hi lo = s.fld a hi lo := rfl

/-! The canonical form after a write, as equations without a premise: `simp` then follows any number of writes back to
a state whose registers are known to be canonical. -/

/-- `Sparse.wf regReset t.regs` under a name that these equations do not rewrite. -/
def State.regsCanonical (t : State) : Bool := Sparse.wf regReset t.regs

theorem State.wf_eq_or {s t : State} (h : Sparse.wf regReset s.regs = true → Sparse.wf regReset t.regs = true) :
    Sparse.wf regReset t.regs = (Sparse.wf regReset s.regs || t.regsCanonical) := by
  cases hs : Sparse.wf regReset s.regs with
  | false => rfl
  | true => exact h hs

@[simp] theorem State.wf_wr (s : State) (a : Nat) (v : Word) :
    Sparse.wf regReset (s.wr a v).regs = (Sparse.wf regReset s.regs || (s.wr a v).regsCanonical) :=
  State.wf_eq_or State.wr_wf

@[simp] theorem State.wf_setFld (s : State) (a hi lo v : Nat) :
    Sparse.wf regReset (s.setFld a hi lo v).regs = (Sparse.wf regReset s.regs || (s.setFld a hi lo v).regsCanonical) :=
  State.wf_eq_or State.setFld_wf

@[simp] theorem State.wf_setBit (s : State) (a b : Nat) (v : Bool) :
    Sparse.wf regReset (s.setBit a b v).regs = (Sparse.wf regReset s.regs || (s.setBit a b v).regsCanonical) :=
  State.wf_eq_or State.setBit_wf

@[simp] theorem State.wf_incFld (s : State) (a hi lo : Nat) :
    Sparse.wf regReset (s.incFld a hi lo).regs = (Sparse.wf regReset s.regs || (s.incFld a hi lo).regsCanonical) :=
  State.wf_eq_or State.incFld_wf

@[simp] theorem State.wf_flag (s : State) (r c b : Nat) :
    Sparse.wf regReset (s.flag r c b).regs = (Sparse.wf regReset s.regs || (s.flag r c b).regsCanonical) :=
  State.wf_eq_or State.flag_wf

@[simp] theorem State.wf_strobe (s : State) {src : Nat} (d : Nat) (h : src < 128) :
    Sparse.wf regReset (s.strobe src d).regs = (Sparse.wf regReset s.regs || (s.strobe src d).regsCanonical) :=
  State.wf_eq_or (State.strobe_wf h)

/-- What every step of a fold leaves, the fold leaves. -/
theorem foldl_leaves {α β : Type} {f : State → α → State} (g : State → β) (h : ∀ t x, g (f t x) = g t) (l : List α)
    (s : State) : g (l.foldl f s) = g s := by
  induction l generalizing s with
  | nil => rfl
  | cons x l ih => exact (ih (f s x)).trans (h s x)

/-- A write of GSRAM changes GSRAM and the DMA's list of parity errors, and nothing else. -/
theorem State.putBytes_writes (bs : Bytes) (s : State) (a : Nat) :
    ∃ g d, s.putBytes a bs = { s with gsram := g, dma := d } := by
  induction bs generalizing s a with
  | nil => exact ⟨_, _, rfl⟩
  | cons b bs ih =>
    obtain ⟨g, d, h⟩ := ih (s.putByte a b) (a + 1)
    exact ⟨g, d, h⟩

/-! The Vamp runs. -/

theorem State.mode_of_vampOn {s : State} (h : s.vampOn = true) : s.mode ≠ .off := by
  simp only [State.vampOn, Bool.and_eq_true, bne_iff_ne] at h
  exact h.1.1

theorem State.held_of_vampOn {s : State} (h : s.vampOn = true) : s.supply.held = false := by
  simp only [State.vampOn, Bool.and_eq_true, Bool.not_eq_true'] at h
  exact h.1.2

theorem State.vampOn_congr {s t : State} (hm : t.mode = s.mode) (hs : t.supply = s.supply) : t.vampOn = s.vampOn := by
  simp only [State.vampOn, hm, hs]

@[simp] theorem State.whenVamp_on {s : State} (o : Host.Outcome State Fault Refusal) (h : s.vampOn = true) :
    s.whenVamp o = o := if_pos h

@[simp] theorem State.whenVamp_off {s : State} (o : Host.Outcome State Fault Refusal) (h : s.vampOn = false) :
    s.whenVamp o = .next s := if_neg (by simp [h])

end Sys2Proof.Machine

/-! PROOFS. Supply, reset, clocks and temperature: O13 to O18. -/

namespace Sys2Proof.Machine

/-! The Vamp held. -/

theorem State.holdVamp_supply (s : State) : s.holdVamp.supply = { s.supply with held := true } := rfl

theorem State.holdVamp_ch1On (s : State) : s.holdVamp.saf.ch1On = false := rfl

theorem State.holdVamp_mode (s : State) : s.holdVamp.mode = s.mode := rfl

theorem State.holdVamp_rd (s : State) (a : Nat) : s.holdVamp.rd a = s.rd a := rfl

theorem State.holdVamp_bit (s : State) (a i : Nat) : s.holdVamp.bit a i = s.bit a i := rfl

theorem State.holdVamp_vampOn (s : State) : s.holdVamp.vampOn = false := by
  simp [State.vampOn, State.holdVamp_supply]

theorem State.setSwitches_one_ch2 (s : State) (want : Nat) : (s.setSwitches 1 want).saf.ch2 = s.saf.ch2 := by
  unfold State.setSwitches
  exact (apply_ite (fun t : State => t.saf.ch2) _ _ _).trans (ite_self _)

theorem State.setKill_two_kill (s : State) : (s.setKill 2 true).saf.ch2.kill = true :=
  congrArg SafChan.kill (State.setSwitches_one_ch2 _ 0)

/-- Settles O13: each command is the branch its conditions choose, and the writes of that branch read back. -/
theorem vinCommands : Obligations.VinCommands := by
  unfold Obligations.VinCommands
  refine ⟨?valid, ?nrstHolds, ?low, ?restored, ?uv, ?off⟩
  case valid =>
    intro s hm hn
    exact (if_neg (by simp [hm])).trans (if_neg (by simp [hn]))
  case nrstHolds =>
    intro s hm hn
    exact (if_neg (by simp [hm])).trans (if_pos hn)
  case low =>
    intro s mv left ⟨w, _⟩ hon hh
    have hm := State.mode_of_vampOn hon
    refine ⟨_, (if_neg (by simp [hm, hh])).trans (if_pos hon), ?_⟩
    simp +decide [State.bit_flag_ne, State.bit_setBit, State.strobe_pend, State.lowestVin, w]
  case restored =>
    intro s mv ⟨w, _⟩ hon hh
    have hm := State.mode_of_vampOn hon
    refine ⟨_, (if_neg (by simp [hm, hh])).trans (if_pos hon), ?_⟩
    simp +decide [State.bit_flag_ne, State.bit_setBit, State.strobe_pend, State.lowestVin, w]
  case uv =>
    intro s ⟨w, _⟩ hm
    refine ⟨_, if_neg (by simp [hm]), ?_⟩
    simp +decide +contextual [State.rd_mk, State.rd_fold, State.rd_wr, State.bit_setBit, w]
  case off =>
    intro s hm
    exact if_pos (by simp [hm])

/-- Settles O14: the gate is bit 10 of PWR_STAT, which a test and a thermal shutdown keep. -/
theorem gateAndHoldupTest : Obligations.GateAndHoldupTest := by
  unfold Obligations.GateAndHoldupTest
  refine ⟨?fall, ?rise, ?kept, ?start, ?finish⟩
  case fall =>
    intro s ⟨w, _⟩ hm
    refine ⟨s.setBit Reg.PWR_STAT 10 false, congrArg _ (if_neg (by simp [hm])), ?_⟩
    simp +decide +contextual [State.bit_setBit, w]
  case rise =>
    intro s ⟨w, _⟩ hm ht hh
    refine ⟨s.setBit Reg.PWR_STAT 10 true, congrArg _ (if_neg (by simp [hm, ht, hh])), ?_⟩
    simp +decide +contextual [State.bit_setBit, w]
  case kept =>
    intro s h
    exact congrArg _ (if_pos (by simpa [or_assoc] using Or.inr h))
  case start =>
    intro s ma ⟨w, _⟩ hon ht
    have hs : s.startHoldup ma = _ := if_neg (by simp [ht])
    refine ⟨s.startHoldup ma, congrArg _ (if_pos hon), ?_⟩
    rw [hs]
    simp +decide +contextual [State.bit_setBit, State.bit_setBit_ne, State.rd_mk, State.rd_fold, w]
    intro hv
    exact congrArg _ ((if_pos (by simp [hon, hv])).trans hs)
  case finish =>
    intro s ma fall moved ⟨w, _⟩ ht
    refine ⟨_, by simp only [exec, execHoldupTestEnd, ht]; rfl, ?_⟩
    generalize holdupResult ma fall moved = r
    generalize holdupCap ma fall = c
    by_cases hr : r = 0
    · simp +decide [hr, State.bit_setBit, State.bit_setBit_ne, State.rd_wr, State.rd_mk, State.rd_fold, w]
    · simp +decide [hr, State.bit_setBit, State.bit_setBit_ne, State.bit_flag_ne, State.rd_wr, State.rd_mk, State.rd_fold, State.strobe_pend, w]

theorem execNrstAsserted_of_no_draw {s : State} {ns : Nat} (h : ns < 1000 ∨ s.supply.nrstLow = true) :
    exec (.nrstAsserted ns) s = .next s := by
  by_cases hl : s.supply.nrstLow = true
  · exact if_pos hl
  · have hns : ns < 1000 := h.resolve_right hl
    have hact : s.nrstActs ns = false := by
      simp [State.nrstActs, Nat.not_le_of_lt hns, Nat.not_le_of_lt (Nat.lt_of_lt_of_le hns (by decide : 1000 ≤ 1100))]
    refine (if_neg hl).trans ((if_pos (by simp [hact])).trans ?_)
    exact congrArg _ (if_neg fun h => Nat.not_le_of_lt hns h.1)

theorem execNrstAsserted_of_long {s : State} {ns : Nat} (hm : s.mode ≠ .off) (hl : s.supply.nrstLow = false)
    (h : 1100 ≤ ns) : exec (.nrstAsserted ns) s = .next
      ((({ s with supply := { s.supply with nrstLow := true, nrstAt := s.safNow 2 } } : State).setBit Reg.SOLE_RESET 31
        true).holdVamp) := by
  have hdraw : ¬ (1000 ≤ ns ∧ ns < 1100) := fun g => Nat.not_lt_of_le h g.2
  have hact : s.nrstActs ns = true := by simp [State.nrstActs, h]
  refine (if_neg (by simp [hl])).trans ((if_neg ?_).trans ?_)
  · simp [hact]
  · rw [if_neg hdraw]
    exact congrArg _ (if_neg (by simpa using hm))

/-- Settles O15: a low of the free range is the only one that draws. -/
theorem resetPin : Obligations.ResetPin := by
  unfold Obligations.ResetPin
  refine ⟨?asserted, ?short, ?first, ?released, ?held⟩
  case asserted =>
    intro s ns ⟨w, _⟩ hm hl h
    refine ⟨_, execNrstAsserted_of_long hm hl h, ?_⟩
    simp +decide +contextual [State.holdVamp_supply, State.holdVamp_ch1On, State.holdVamp_vampOn, State.holdVamp_mode,
      State.holdVamp_rd, State.holdVamp_bit, State.bit_setBit, State.rd_mk, State.rd_fold, w]
  case short =>
    intro s ns h
    exact execNrstAsserted_of_no_draw h
  case first =>
    intro s hm hl hv
    exact (if_neg (by simp [hl])).trans ((if_pos (by simp [hm])).trans (congrArg _ (if_pos hv)))
  case released =>
    intro s hm hl
    exact ⟨_, rfl, (if_neg (by simp [hl])).trans (if_neg (by simp [hm]))⟩
  case held =>
    intro s hm hl
    exact if_neg (by simp [hm, hl])

/-- Settles O16: the flag of a refused restart is all that changes. -/
theorem restartNeedsValueAndOpenString : Obligations.RestartNeedsValueAndOpenString := by
  unfold Obligations.RestartNeedsValueAndOpenString
  refine ⟨?restarts, ?refused, ?off⟩
  case restarts =>
    intro s hon ho
    exact congrArg _ ((if_neg (by simp [hon])).trans (if_pos ⟨rfl, ho⟩))
  case refused =>
    intro s v ⟨w, _⟩ hon h
    have hno : ¬ (v = 0xA55A ∧ s.allOpen = true) := by
      rintro ⟨hv, ho⟩
      simp [hv, ho] at h
    refine ⟨_, congrArg Host.Outcome.next ((if_neg (by simp [hon])).trans (if_neg hno)), ?_⟩
    simp +decide +contextual [State.bit_flag, w]
  case off =>
    intro s v hoff
    exact congrArg _ (if_pos (by simp [hoff]))

/-- A change of the AON crystal's state shows in CLK_STAT and is strobed while the Vamp runs. -/
theorem State.setAonRc_shows {s : State} {rc : Bool} (w : Sparse.wf regReset s.regs = true) (hm : s.mode ≠ .off)
    (h : s.bit Reg.CLK_STAT 11 = !rc) : (s.setAonRc rc).bit Reg.CLK_STAT 11 = rc ∧
      (s.vampOn = true → (s.setAonRc rc).pend Src.CLK_AON_FAULT = true) := by
  have hs : s.setAonRc rc = _ := if_neg (by simp [hm, h])
  rw [hs]
  by_cases hon : s.vampOn = true
  · rw [if_pos (show (s.setBit Reg.CLK_STAT 11 rc).vampOn = true from hon)]
    simp +decide [State.bit_flag_ne, State.bit_setBit, State.strobe_pend, w]
  · rw [if_neg (show ¬ (s.setBit Reg.CLK_STAT 11 rc).vampOn = true from hon)]
    simp +decide [State.bit_setBit, hon, w]

/-- Settles O17. -/
theorem clockCommands : Obligations.ClockCommands := by
  unfold Obligations.ClockCommands
  refine ⟨?loss, ?back, ?backHeld, ?pll, ?fails, ?restored⟩
  case loss =>
    intro s ⟨w, _⟩ hon
    refine ⟨_, if_neg (by simp [hon]), ?_⟩
    exact ⟨rfl, rfl, by simp [State.vampOn, State.currentUnknown, State.setSafChan],
      State.strobe_pend _ _ (by decide) (by simp [w]), State.strobe_mode _ _ (by decide)⟩
  case back =>
    intro s hl hh
    exact (if_neg (by simp [hl])).trans (if_neg (by simp [hh]))
  case backHeld =>
    intro s hl hh
    exact (if_neg (by simp [hl])).trans (if_pos hh)
  case pll =>
    intro s n ⟨w, _⟩ hon hn
    refine ⟨_, if_neg (by simp [hon, Nat.not_le_of_lt hn]), ?_⟩
    have h1 : 8 + n < 32 := by omega
    have h2 : 8 + n ≠ 1 := by omega
    simp +decide [State.strobe_pend, State.bit_flag_ne, State.bit_setBit, h1, h2, w]
  case fails =>
    intro s ⟨w, _⟩ hm hb
    exact ⟨_, rfl, State.setAonRc_shows w hm hb⟩
  case restored =>
    intro s ⟨w, _⟩ hm hb
    exact ⟨_, rfl, State.setAonRc_shows w hm hb⟩

theorem execOperatingSecond_of_on {s : State} (vin vsup iin pw : Nat) (v o p : Int) (hon : s.vampOn = true) :
    exec (.operatingSecond vin vsup iin pw v o p) s = .next ((({ s with supply := { s.supply with
      opSeconds := if decide (10800 ≤ vin) && decide (vin ≤ 13200) then (s.supply.opSeconds + 1) % 2 ^ 40
        else s.supply.opSeconds } } : State).measureSupply vin vsup iin pw).takeTemps v o p) :=
  (if_neg (by simpa using State.mode_of_vampOn hon)).trans (congrArg _ (if_pos hon))

/-- Settles O18. -/
theorem temperatureAndOperatingTime : Obligations.TemperatureAndOperatingTime := by
  unfold Obligations.TemperatureAndOperatingTime
  refine ⟨?hot, ?shutdown, ?cooled, ?cooledLow, ?counts, ?stands⟩
  case hot =>
    intro s v o p hon
    exact congrArg _ (if_pos hon)
  case shutdown =>
    intro s hm hh
    refine ⟨_, if_neg (by simp [hm, hh]), ?_⟩
    exact ⟨rfl, rfl, State.holdVamp_vampOn _, rfl, State.setKill_two_kill _⟩
  case cooled =>
    intro s hh hl
    exact (if_neg (by simp [hh])).trans (if_neg (by simp [hl]))
  case cooledLow =>
    intro s hh hl
    exact (if_neg (by simp [hh])).trans (if_pos hl)
  case counts =>
    intro s vin vsup iin pw v o p hon h1 h2
    rw [execOperatingSecond_of_on _ _ _ _ _ _ _ hon, if_pos (by simp [h1, h2])]
  case stands =>
    intro s vin vsup iin pw v o p hon h
    rw [execOperatingSecond_of_on _ _ _ _ _ _ _ hon, if_neg (by simp; omega)]

end Sys2Proof.Machine

/-! PROOFS. Boot: what it starts from and how it ends (O19, O20). -/

namespace Sys2Proof.Machine

/-- From `s` to `t` the mode and the supply stand. -/
structure ModeStands (s t : State) : Prop where
  mode : t.mode = s.mode
  supply : t.supply = s.supply

theorem ModeStands.refl (s : State) : ModeStands s s := ⟨rfl, rfl⟩

theorem ModeStands.trans {s t u : State} (h : ModeStands s t) (k : ModeStands t u) : ModeStands s u :=
  ⟨k.mode.trans h.mode, k.supply.trans h.supply⟩

theorem ModeStands.strobe (s : State) {src : Nat} (d : Nat) (h : src < 128) : ModeStands s (s.strobe src d) :=
  ⟨State.strobe_mode s d h, State.strobe_supply s d h⟩

theorem ModeStands.foldl {α : Type} {f : State → α → State} (hf : ∀ t x, ModeStands t (f t x)) (l : List α) (s : State) :
    ModeStands s (l.foldl f s) := by
  induction l generalizing s with
  | nil => exact ModeStands.refl s
  | cons x l ih => exact (hf s x).trans (ih (f s x))

theorem ModeStands.ite {s a b : State} {c : Prop} [Decidable c] (ha : ModeStands s a) (hb : ModeStands s b) :
    ModeStands s (if c then a else b) := by
  by_cases h : c
  · rwa [if_pos h]
  · rwa [if_neg h]

theorem State.aliveFollows_modeStands (s : State) : ModeStands s s.aliveFollows :=
  ModeStands.ite (ModeStands.refl s) ⟨rfl, rfl⟩

theorem State.lastStale_modeStands (s : State) : ModeStands s s.lastStale := by
  refine ModeStands.ite (ModeStands.refl s) ?_
  have marked : ModeStands s (s.setBit Reg.RED_STAT 9 true) := ⟨rfl, rfl⟩
  exact (marked.trans (State.aliveFollows_modeStands _)).trans (ModeStands.strobe _ _ (by decide))

theorem State.weltIdle_modeStands (s : State) : ModeStands s s.weltIdle :=
  ModeStands.foldl (f := fun (t : State) c => t.setWeltState c 0) (fun _ _ => ⟨rfl, rfl⟩) _ s

theorem State.insoleStart_modeStands (s : State) (op : InsoleOp) : ModeStands s (s.insoleStart op) :=
  ModeStands.ite (ModeStands.refl s) ⟨rfl, rfl⟩

theorem State.storeDevice_modeStands (s : State) : ModeStands s s.storeDevice :=
  (State.insoleStart_modeStands s .config).trans ⟨rfl, rfl⟩

theorem State.showBanks_modeStands (s : State) : ModeStands s s.showBanks := ⟨rfl, rfl⟩

theorem State.reachRun_modeStands (s : State) : ModeStands s s.reachRun := by
  refine ModeStands.ite (ModeStands.refl s) ?_
  refine ModeStands.trans (ModeStands.trans ?_ (State.storeDevice_modeStands _)) (State.showBanks_modeStands _)
  exact ⟨rfl, rfl⟩

theorem State.reportRollback_modeStands (s : State) (target : Nat) (bank : Bool) (version : Nat) :
    ModeStands s (s.reportRollback target bank version) :=
  ModeStands.trans (t := s.flag Reg.UPD_STAT Reg.UPD_STAT_COUNT 3) ⟨rfl, rfl⟩ (ModeStands.strobe _ _ (by decide))

theorem ModeStands.noRollback {s t : State} (h : ModeStands s t) (fw prog : Option Nat) :
    ModeStands s { t with update := { t.update with rolledFw := fw, rolledProg := prog } } := ⟨h.mode, h.supply⟩

theorem State.reportRollbacks_modeStands (s : State) : ModeStands s s.reportRollbacks := by
  unfold State.reportRollbacks
  refine ModeStands.noRollback ?_ none none
  cases s.update.rolledFw with
  | none =>
    cases s.update.rolledProg with
    | none => exact ModeStands.refl s
    | some v => exact State.reportRollback_modeStands s _ _ v
  | some u =>
    cases s.update.rolledProg with
    | none => exact State.reportRollback_modeStands s _ _ u
    | some v => exact (State.reportRollback_modeStands s _ _ u).trans (State.reportRollback_modeStands _ _ _ v)

theorem State.setMode_mode (s : State) (m : Mode) (d : Bool) : (s.setMode m d).mode = m :=
  State.strobe_mode _ _ (by decide)

theorem State.setMode_supply (s : State) (m : Mode) (d : Bool) : (s.setMode m d).supply = s.supply :=
  State.strobe_supply _ _ (by decide)

/-- The step out of mode Boot at the end of a Boot. -/
def State.leaveBoot (s : State) (standby : Bool) : State :=
  if s.mode != .boot then s
  else (if standby then (s.setMode .standby false).lastStale.weltIdle else s.setMode .run false).reachRun

theorem State.leaveBoot_mode (s : State) (standby : Bool) : (s.leaveBoot standby).mode ≠ .boot := by
  unfold State.leaveBoot
  by_cases hm : s.mode = .boot
  · rw [if_neg (by simp [hm]), (State.reachRun_modeStands _).mode]
    cases standby with
    | false => simp [State.setMode_mode]
    | true => simp [(State.weltIdle_modeStands _).mode, (State.lastStale_modeStands _).mode, State.setMode_mode]
  · rwa [if_pos (by simp [hm])]

theorem State.leaveBoot_supply (s : State) (standby : Bool) : (s.leaveBoot standby).supply = s.supply := by
  unfold State.leaveBoot
  split
  · rfl
  · rw [(State.reachRun_modeStands _).supply]
    cases standby with
    | false => simp [State.setMode_supply]
    | true => simp [(State.weltIdle_modeStands _).supply, (State.lastStale_modeStands _).supply, State.setMode_supply]

theorem State.leaveBoot_keeps {b0 s : State} (standby : Bool) (h : Keeps b0 s) : Keeps b0 (s.leaveBoot standby) := by
  unfold State.leaveBoot
  refine Keeps.ite (fun _ => h) fun _ => State.reachRun_keeps _ ?_
  exact Keeps.ite (fun _ => State.weltIdle_keeps _ (State.lastStale_keeps _ (State.setMode_keeps _ _ _ h)))
    fun _ => State.setMode_keeps _ _ _ h

/-- The state that the end of a Boot leaves before its report, from the state with the program started. -/
def State.bootOver (s : State) (ms : Nat) : State :=
  have t := (s.setFld Reg.DMA_MODE 1 0 0).wrN Reg.SYS_BOOT (15 * 2 ^ 28 + min 0xFFFF ms)
  { t with supply := { t.supply with booting := false, takeover := false } }

theorem State.endBoot_eq (s : State) (ms : Nat) : s.endBoot ms =
    ((((if s.standbyBound then s else s.placeContexts.startProgram).bootOver ms).leaveBoot
      s.standbyBound).reportRollbacks).strobe Src.SYS_BOOT_DONE (b2n s.standbyBound * 2 ^ 20 + min 0xFFFF ms) := rfl

theorem State.bootOver_keeps {b0 s : State} (ms : Nat) (h : Keeps b0 s) : Keeps b0 (s.bootOver ms) :=
  Keeps.upd (State.wrN_keeps _ _ _ (State.setFld_keeps _ _ _ _ _ h))

theorem State.endBoot_ends {s : State} (ms : Nat) (w : s.wf) : (s.endBoot ms).supply.booting = false ∧
    (s.endBoot ms).supply.takeover = false ∧ (s.endBoot ms).mode ≠ .boot ∧
      (s.endBoot ms).pend Src.SYS_BOOT_DONE = true := by
  have started : Keeps s (if s.standbyBound then s else s.placeContexts.startProgram) :=
    Keeps.ite (fun _ => Keeps.refl s) fun _ => State.startProgram_keeps _ (State.placeContexts_keeps _ (Keeps.refl s))
  rw [State.endBoot_eq]
  generalize (if s.standbyBound then s else s.placeContexts.startProgram) = u at started
  have left := State.reportRollbacks_modeStands ((u.bootOver ms).leaveBoot s.standbyBound)
  have wf := (State.reportRollbacks_keeps _ (State.leaveBoot_keeps s.standbyBound (State.bootOver_keeps ms started))).wf w
  refine ⟨?_, ?_, ?_, State.strobe_pend _ _ (by decide) wf.1⟩
  · rw [State.strobe_supply _ _ (by decide), left.supply, State.leaveBoot_supply]
    rfl
  · rw [State.strobe_supply _ _ (by decide), left.supply, State.leaveBoot_supply]
    rfl
  · rw [State.strobe_mode _ _ (by decide), left.mode]
    exact State.leaveBoot_mode _ _

/-! What a Boot starts from. -/

/-- Without a takeover a Boot writes registers and takes one free value, beside what it starts from. -/
theorem State.beginBoot_cold (s : State) (cause : Nat) : ∃ r : List (Nat × Word),
    s.beginBoot cause false = { s.bootFresh false with regs := r, free := s.free + 1 } := ⟨_, rfl⟩

theorem State.rd_drawn (s : State) (a : Nat) : s.drawn.rd a = s.rd a := rfl

theorem State.beginBoot_cause (s : State) (cause : Nat) :
    (s.beginBoot cause false).rd Reg.SYS_RESET_CAUSE = BitVec.ofNat 32 cause := by
  have regs : (s.bootFresh false).regs = s.bootRegs (s.mode == .off) := rfl
  have w : Sparse.wf regReset (s.bootFresh false).regs = true := regs ▸ bootRegs_wf s _
  have after : (s.beginBoot cause false).rd Reg.SYS_RESET_CAUSE =
      ((s.bootFresh false).wr Reg.SYS_RESET_CAUSE (BitVec.ofNat 32 cause)).rd Reg.SYS_RESET_CAUSE := by
    refine (State.rd_drawn _ _).trans ?_
    refine (State.rd_setFld_ne _ 15 0 _ (by decide)).trans ?_
    refine (State.rd_setBit_ne _ 10 _ (by decide)).trans ?_
    refine (State.rd_setBit_ne _ 31 _ (by decide)).trans ?_
    refine (State.rd_setFld_ne _ 10 8 7 (by decide)).trans ?_
    refine (State.rd_setBit_ne _ 10 _ (by decide)).trans ?_
    refine (State.rd_setBit_ne _ 8 _ (by decide)).trans ?_
    refine (State.rd_wr_ne _ _ (by decide)).trans ?_
    exact State.rd_setFld_ne _ 31 28 3 (by decide)
  exact after.trans (State.rd_wr _ _ w)

/-- Settles O19: what a Boot carries over is in what it starts from; the cause is a register written after. -/
theorem bootStartsFromItsState : Obligations.BootStartsFromItsState := by
  unfold Obligations.BootStartsFromItsState
  intro s cause _
  have hcause := State.beginBoot_cause s cause
  obtain ⟨r, hr⟩ := State.beginBoot_cold s cause
  rw [hr] at hcause ⊢
  exact ⟨rfl, rfl, hcause, rfl, rfl, rfl, rfl, rfl, rfl, rfl, rfl, rfl⟩

/-! How a Boot ends. -/

section
variable {s : State} (units : List Nat) {bad : Nat} (ms : Nat) (hb : s.supply.booting = true) (hon : s.vampOn = true)
  (hm : s.mode = .boot)
include hb hon hm

theorem execBootComplete_of_none (hf : s.checkFirmware bad = none) :
    exec (.bootComplete units bad ms) s = .next (s.bootLoad.holdBoot 3 ms) := by
  simp [exec, execBootComplete, hb, hon, hm, hf]

theorem execBootComplete_of_some {u : State} (hf : s.checkFirmware bad = some u) :
    exec (.bootComplete units bad ms) s = .next (if u.bootLoad.supply.unconfigured then u.bootLoad.holdBoot 2 ms
      else (u.bootLoad.failUnits units).endBoot ms) := by
  simp [exec, execBootComplete, hb, hon, hm, hf]

end

theorem State.checkFirmware_zero (s : State) : s.checkFirmware 0 = some s :=
  if_pos (by cases s.update.runsB <;> rfl)

theorem State.bootLoad_of_loaded {s : State} (h : s.supply.loaded = true) : s.bootLoad = s := if_pos (by simp [h])

theorem State.holdBoot_holds {s : State} (result ms : Nat) (w : s.wf) :
    (s.holdBoot result ms).supply.booting = false ∧ (s.holdBoot result ms).supply.bootHeld = true ∧
      (s.holdBoot result ms).mode = s.mode ∧ (s.holdBoot result ms).pend Src.SYS_BOOT_DONE = true := by
  unfold State.holdBoot
  refine ⟨?_, ?_, State.strobe_mode _ _ (by decide), State.strobe_pend _ _ (by decide) (by simp [w.1])⟩ <;>
    rw [State.strobe_supply _ _ (by decide)] <;> rfl

/-- Settles O20: a Boot that is not held leaves mode Boot, and one that is held only stops booting. -/
theorem bootEnds : Obligations.BootEnds := by
  unfold Obligations.BootEnds
  refine ⟨?noFirmware, ?noConfiguration, ?ends, ?loaded, ?idle⟩
  case noFirmware =>
    intro s units bad ms hb hon hm hf
    exact execBootComplete_of_none units ms hb hon hm hf
  case noConfiguration =>
    intro s u units bad ms hb hon hm hf hc
    exact (execBootComplete_of_some units ms hb hon hm hf).trans (congrArg _ (if_pos hc))
  case ends =>
    intro s u units bad ms hb hon hm hf hc
    exact (execBootComplete_of_some units ms hb hon hm hf).trans (congrArg _ (if_neg (by simp [hc])))
  case loaded =>
    intro s units ms w hb hl hon hm
    have h := execBootComplete_of_some units ms hb hon hm s.checkFirmware_zero
    simp only [State.bootLoad_of_loaded hl] at h
    refine ⟨_, h, ?_⟩
    cases hc : s.supply.unconfigured with
    | false =>
      have wf := (State.failUnits_keeps s units (Keeps.refl s)).wf w
      obtain ⟨booting, takeover, mode, pend⟩ := State.endBoot_ends ms wf
      rw [if_neg (by simp)]
      exact ⟨booting, pend, fun _ => ⟨takeover, mode⟩, fun h => absurd h (by simp)⟩
    | true =>
      obtain ⟨booting, held, mode, pend⟩ := State.holdBoot_holds 2 ms w
      rw [if_pos rfl]
      exact ⟨booting, pend, fun h => absurd h (by simp), fun _ => ⟨held, mode.trans hm⟩⟩
  case idle =>
    intro s units bad ms hb
    exact if_pos (by simp [hb])

end Sys2Proof.Machine

/-! PROOFS. The links of the package and the events by command (O23 to O25). -/

namespace Sys2Proof.Machine

theorem execVsFlitReceive_of_up {s : State} {sole : Bool} {cls seq fails cross : Nat} (n : Nat) (ok : Bool)
    (hon : s.vampOn = true) (hup : s.links.vsUp = true) (hl : s.links.lane sole = (seq, fails, cross))
    (hstream : cls ≠ 0 ∨ sole = false) (hcross : cls < 2 ∨ cross = 0) :
    exec (.vsFlitReceive sole cls n ok) s =
      if ok && n == seq then
        .next { s with links := s.links.setLane sole ((n + 1) % 16) 0 (if cls = 1 then cross - 1 else cross) }
      else if cls = 0 then .next { s with links := s.links.setLane sole ((seq + 1) % 16) fails cross }
      else if fails ≥ 3 then .next (s.vsDown 0)
      else .next { s with links := s.links.setLane sole seq (fails + 1) cross } := by
  have stream : ¬ (cls = 0 ∧ sole = true) := fun ⟨h, k⟩ => by simp [h, k] at hstream
  have order : ¬ (2 ≤ cls ∧ 0 < cross) := by omega
  simp only [exec, execVsFlitReceive, hl]
  refine if_neg ?_
  simp [hon, hup, stream, order]

/-- Settles O23: a flit on a link that is up is good, or bad in one of three ways. -/
theorem vampSoleLink : Obligations.VampSoleLink := by
  unfold Obligations.VampSoleLink
  refine ⟨?flit, ?down, ?absent, ?retrained⟩
  case flit =>
    intro s sole cls seq fails cross hon hup hl hstream hcross
    have flit := fun n ok => execVsFlitReceive_of_up n ok hon hup hl hstream hcross
    refine ⟨(flit seq true).trans (if_pos (by simp)), fun n ok bad => ?_⟩
    have hbad : ¬ (ok && n == seq) = true := by
      rcases bad with h | h <;> simp [h]
    refine ⟨fun h => ?_, fun h k => ?_, fun h k => ?_⟩
    · exact (flit n ok).trans ((if_neg hbad).trans (if_pos h))
    · exact (flit n ok).trans ((if_neg hbad).trans ((if_neg h).trans (if_neg (Nat.not_le_of_lt k))))
    · exact (flit n ok).trans ((if_neg hbad).trans ((if_neg h).trans (if_pos k)))
  case down =>
    intro s sole cls n ok h
    exact if_pos (by rcases h with h | h <;> simp [h])
  case absent =>
    intro s hon
    exact congrArg _ (if_pos hon)
  case retrained =>
    intro s hon hup
    exact ⟨_, rfl, if_neg (by simp [hon, hup])⟩

/-- Settles O24: the count of failures, and with the fourth the cut, come before the spare sector. -/
theorem vampInsoleLink : Obligations.VampInsoleLink := by
  unfold Obligations.VampInsoleLink
  refine ⟨?good, ?bad, ?fourth, ?spare, ?ecc, ?outside⟩
  case good =>
    intro s a g hon
    exact if_neg (by simp [hon])
  case bad =>
    intro s a g hon hf
    have three : s.links.viFails ≠ 3 := Nat.ne_of_lt hf
    have count : (s.links.viFails + 1) % 4 = s.links.viFails + 1 := Nat.mod_eq_of_lt (by omega)
    simp [exec, execViTransfer, hon, three, count]
  case fourth =>
    intro s a hon hf
    refine ⟨_, rfl, ?_, ?_⟩ <;> simp [exec, execViTransfer, State.viCut, hon, hf]
  case spare =>
    intro s a g k hon
    exact if_neg (by simp [hon])
  case ecc =>
    intro s a hon h1 h2
    refine ⟨?_, fun who => ?_, fun who hw => ?_⟩
    · exact (if_pos ⟨hon, h1, h2⟩).trans (if_neg (by simp))
    · exact (if_pos ⟨hon, h1, h2⟩).trans (if_pos rfl)
    · exact (if_pos ⟨hon, h1, h2⟩).trans ((if_neg (by simp)).trans (congrArg _ (if_neg hw)))
  case outside =>
    intro s who a b h
    exact if_neg (by omega)

theorem execEvtCountClear_of_on {s : State} {k : Nat} (bits : Word) (l : List (Nat × Nat)) (hon : s.vampOn = true)
    (hk : k < 4) : exec (.evtCountClear k bits l) s =
      .next ((bySource (l.filter (fun x => decide (x.1 < 128)))).foldl (fun t x => t.strobe x.1 x.2)
        (s.countClear k bits)) := if_neg (by simp [hon, hk])

/-- Settles O25: strobes of the cycle of a clear are put in order by their sources before they count. -/
theorem eventCommands : Obligations.EventCommands := by
  unfold Obligations.EventCommands
  refine ⟨?strobe, ?none, ?tail, ?clear, ?clearStrobes⟩
  case strobe =>
    intro s src d hon h
    exact congrArg _ (if_pos (by simp [hon, h]))
  case none =>
    intro s src d h
    refine congrArg _ (if_neg ?_)
    rcases h with h | h <;> simp [h]
  case tail =>
    intro s v hon
    exact congrArg _ (if_pos hon)
  case clear =>
    intro s k bits hon hk
    exact execEvtCountClear_of_on bits [] hon hk
  case clearStrobes =>
    intro s k src d bits hon hk h
    refine ⟨?_, fun src2 d2 hlt h2 => ⟨_, rfl, ?_, ?_⟩⟩ <;> rw [execEvtCountClear_of_on bits _ hon hk]
    · simp [h, bySource, insertStrobe]
    · simp [h, h2, bySource, insertStrobe, Nat.le_of_lt hlt]
    · simp [h, h2, bySource, insertStrobe, Nat.not_le_of_lt hlt]

end Sys2Proof.Machine

/-! PROOFS. The Tether chain: what sending changes, slots, heartbeats and wire tests (O27, O28, O32). -/

namespace Sys2Proof.Machine

/-! Sending on the chain writes outputs and the controller's record of what it has sent, and nothing else. -/

/-- From `s` to `t` the chain has only sent: beside outputs, the queue, the nodes' records, the sequence numbers, and
what an IDENTIFY and a rollcall note. -/
def ChainSends (s t : State) : Prop :=
  ∃ out queue nodes seqA seqB ident rollA rollB till, t = { s with out := out, tth := { s.tth with
    queue := queue, nodes := nodes, bcastSeqA := seqA, bcastSeqB := seqB, identOut := ident, rollA := rollA, rollB := rollB,
    rollUntil := till } }

theorem ChainSends.refl (s : State) : ChainSends s s := ⟨_, _, _, _, _, _, _, _, _, rfl⟩

theorem ChainSends.trans {s t u : State} (h : ChainSends s t) (k : ChainSends t u) : ChainSends s u := by
  obtain ⟨_, _, _, _, _, _, _, _, _, rfl⟩ := h
  obtain ⟨_, _, _, _, _, _, _, _, _, rfl⟩ := k
  exact ⟨_, _, _, _, _, _, _, _, _, rfl⟩

theorem ChainSends.ite {s a b : State} {c : Prop} [Decidable c] (ha : ChainSends s a) (hb : ChainSends s b) :
    ChainSends s (if c then a else b) := by
  by_cases h : c
  · rwa [if_pos h]
  · rwa [if_neg h]

theorem State.tetherOut_sends (s : State) (port : Nat) (frame : Bytes) : ChainSends s (s.tetherOut port frame) :=
  ChainSends.ite ⟨_, _, _, _, _, _, _, _, _, rfl⟩ (ChainSends.refl s)

theorem State.sendFrom_sends (s : State) (port addr op : Nat) (payload : Bytes) :
    ChainSends s (s.sendFrom port addr op payload) := by
  unfold State.sendFrom
  refine ChainSends.ite ?_ ?_ <;> refine ChainSends.trans ?_ (State.tetherOut_sends _ _ _) <;>
    exact ⟨_, _, _, _, _, _, _, _, _, rfl⟩

theorem State.sendBoth_sends (s : State) (op : Nat) (payload : Bytes) : ChainSends s (s.sendBoth op payload) :=
  (State.sendFrom_sends s _ _ _ _).trans (State.sendFrom_sends _ _ _ _ _)

theorem State.sendVia_sends (s : State) (port : Nat) (c : ChainCmd) : ChainSends s (s.sendVia port c) := by
  unfold State.sendVia
  refine ChainSends.trans ?_ (State.tetherOut_sends _ _ _)
  exact ⟨_, _, _, _, _, _, _, _, _, rfl⟩

theorem State.launch_sends (s : State) (c : ChainCmd) : ChainSends s (s.launch c) := by
  unfold State.launch
  refine ChainSends.ite ?ident (ChainSends.ite ?roll (State.sendVia_sends s _ c))
  case ident =>
    refine ChainSends.trans ?_ (State.sendFrom_sends _ _ _ _ _)
    exact ⟨_, _, _, _, _, _, _, _, _, rfl⟩
  case roll =>
    refine ChainSends.trans ?_ (State.sendBoth_sends _ _ _)
    exact ⟨_, _, _, _, _, _, _, _, _, rfl⟩

theorem State.drain_sends (l : List ChainCmd) (s : State) (kept : List ChainCmd) : ChainSends s (s.drain kept l) := by
  induction l generalizing s kept with
  | nil => exact ⟨_, _, _, _, _, _, _, _, _, rfl⟩
  | cons c rest ih =>
    refine ChainSends.ite ((State.launch_sends s c).trans (ih _ kept)) (ChainSends.ite ?_ (ih s _))
    exact ⟨_, _, _, _, _, _, _, _, _, rfl⟩

theorem State.pump_sends (s : State) : ChainSends s s.pump := State.drain_sends _ s []

theorem State.enqueue_sends (s : State) (c : ChainCmd) : ChainSends s (s.enqueue c) :=
  ChainSends.ite ⟨_, _, _, _, _, _, _, _, _, rfl⟩ (ChainSends.refl s)

theorem State.rollcall_sends (s : State) : ChainSends s s.rollcall :=
  ChainSends.ite (ChainSends.refl s) ((State.enqueue_sends s _).trans (State.pump_sends _))

theorem State.identify_sends (s : State) (port : Nat) : ChainSends s (s.identify port) := State.enqueue_sends s _

/-! Slots. -/

theorem isPort_of_lt {p : Nat} (h : p < 2) : isPort p = true := by simp [isPort, h]

theorem State.chainOn_vampOn {s : State} (h : s.chainOn = true) : s.vampOn = true := by
  simp only [State.chainOn, Bool.and_eq_true] at h
  exact h.1.1.1

theorem whenVamp_eq_self {s : State} {o : Host.Outcome State Fault Refusal} (h : s.vampOn = true → o = .next s) :
    s.whenVamp o = .next s := by
  cases hon : s.vampOn with
  | false => exact State.whenVamp_off o hon
  | true => exact (State.whenVamp_on o hon).trans (h hon)

/-- Settles O27: what follows a located break only sends, and leaves the route for the next boundary. -/
theorem tetherSlots : Obligations.TetherSlots := by
  unfold Obligations.TetherSlots
  refine ⟨?send, ?off, ?slot, ?pair, ?located, ?idle⟩
  case send =>
    intro s hon
    exact (State.whenVamp_on _ (State.chainOn_vampOn hon)).trans (congrArg _ (if_pos hon))
  case off =>
    intro s hoff
    exact whenVamp_eq_self fun _ => congrArg _ (if_neg (by simp [hoff]))
  case slot =>
    intro s p k hp
    exact if_pos (isPort_of_lt hp)
  case pair =>
    intro s p hp
    exact if_pos (isPort_of_lt hp)
  case located =>
    intro s hon hl
    refine ⟨_, (State.whenVamp_on _ hon).trans (if_neg (by simp [hl])), ?_⟩
    obtain ⟨_, _, _, _, _, _, _, _, _, hsent⟩ := State.pump_sends _
    rw [hsent]
    exact ⟨rfl, rfl⟩
  case idle =>
    intro s hl
    exact whenVamp_eq_self fun _ => if_pos (by simp [hl])

/-! Heartbeats. -/

theorem Eventful.foldl {α : Type} {f : State → α → State} (hf : ∀ t x, Eventful t (f t x)) (l : List α) (s : State) :
    Eventful s (l.foldl f s) := by
  induction l generalizing s with
  | nil => exact Eventful.refl s
  | cons x l ih => exact (hf s x).trans (ih (f s x))

theorem Eventful.ite {s a b : State} {c : Prop} [Decidable c] (ha : Eventful s a) (hb : Eventful s b) :
    Eventful s (if c then a else b) := by
  by_cases h : c
  · rwa [if_pos h]
  · rwa [if_neg h]

theorem State.copySole_eventful (s : State) : Eventful s s.copySole := by
  refine Eventful.foldl (fun t x => ?_) _ s
  refine Eventful.ite ?_ (Eventful.refl t)
  refine Eventful.trans ?_ (Eventful.recorder _ _)
  exact Eventful.ite ((State.recOccur_eventful _ _ _).trans (State.strobe_eventful _ _ (by decide)))
    (State.recOccur_eventful _ _ _)

theorem State.soleLog_tth (s : State) (code detail : Nat) : (s.soleLog code detail).tth = s.tth := by
  unfold State.soleLog
  refine (apply_ite State.tth _ _ _).trans ?_
  rw [(State.copySole_eventful _).tth, State.strobe_tth _ _ (by decide)]
  exact ite_self _

/-- Settles O28. -/
theorem heartbeatLoss : Obligations.HeartbeatLoss := by
  unfold Obligations.HeartbeatLoss
  refine ⟨?lost, ?again, ?off, ?tap, ?both, ?open_, ?closed⟩
  case lost =>
    intro s p ⟨w, _⟩ hp hon hl
    refine ⟨_, (State.whenVamp_on _ (State.chainOn_vampOn hon)).trans ((if_neg (by simp [isPort_of_lt hp, hon])).trans
      (if_neg (by simp [hl]))), ?_⟩
    obtain rfl | rfl : p = 0 ∨ p = 1 := by omega
    all_goals simp +decide [State.rxPair, State.setRxPair, portStat, portCount, State.bit_flag, State.fld_flag_ne,
      State.fld_setFld, State.strobe_pend, w]
  case again =>
    intro s p hp hon hl
    have still : { s.rxPair p with run := 0, tone := false } =
        { s.rxPair p with lost := true, run := 0, tone := false } := by rw [← hl]
    rw [still]
    exact (State.whenVamp_on _ (State.chainOn_vampOn hon)).trans ((if_neg (by simp [isPort_of_lt hp, hon])).trans
      (if_pos hl))
  case off =>
    intro s p hoff
    exact whenVamp_eq_self fun _ => if_pos (by simp [hoff])
  case tap =>
    intro s p hp hm hl
    refine (if_neg (by simp [isPort_of_lt hp, hm])).trans (if_neg ?_)
    obtain rfl | rfl : p = 0 ∨ p = 1 := by omega
    all_goals simp [State.tapPair, State.setTapPair] at hl ⊢; simp [hl]
  case both =>
    intro s p hp hm hl hc
    refine ⟨_, ?_, (if_neg (by simp [isPort_of_lt hp, hm])).trans (if_pos ?_)⟩
    · refine (apply_ite (fun t : State => t.tth.chainLost) _ _ _).trans ?_
      rw [State.strobe_tth _ _ (by decide), State.soleLog_tth]
      exact ite_self _
    · obtain rfl | rfl : p = 0 ∨ p = 1 := by omega
      all_goals simp [State.tapPair, State.setTapPair] at hl ⊢; simp [hl, hc]
  case open_ =>
    intro s f hon hf hs ho
    simp [exec, execToneClearTimeout, hon, hf, hs, ho]
  case closed =>
    intro s f hon hf hs ho
    simp [exec, execToneClearTimeout, hon, hf, hs, ho]

/-! Wire tests. -/

theorem execOpenWireTestDone_of_test {s : State} {n : Nat} {got : List (Nat × Bytes)} (ht : s.tth.test = some (n, got)) :
    exec .openWireTestDone s = s.whenVamp (if got.length < 3 then .next s else
      have t := (List.range 17).foldl (fun (t : State) l => t.judgeLine n got l) s
      .next { t with tth := { t.tth with test := none, testsDue := t.tth.testsDue.filter (· != n) } }) := by
  simp only [exec, execOpenWireTestDone, ht]

/-- Settles O32: the test judged is taken out of hand and out of the tests due. -/
theorem wireTests : Obligations.WireTests := by
  unfold Obligations.WireTests
  refine ⟨?thresholds, ?start, ?busy, ?judged, ?early, ?mark⟩
  case thresholds =>
    intro s hon
    exact State.whenVamp_on _ hon
  case start =>
    intro s n h0 hn h1 ht hon
    refine (State.whenVamp_on _ (State.chainOn_vampOn hon)).trans (if_neg ?_)
    simp [h0, Nat.not_lt_of_le hn, h1, ht, hon]
  case busy =>
    intro s n x ht
    exact whenVamp_eq_self fun _ => if_pos (by simp [ht])
  case judged =>
    intro s n got hon ht h3
    refine ⟨_, (execOpenWireTestDone_of_test ht).trans ((State.whenVamp_on _ hon).trans
      (if_neg (Nat.not_lt_of_le h3))), rfl, ?_⟩
    simp
  case early =>
    intro s n got ht h3
    exact (execOpenWireTestDone_of_test ht).trans (whenVamp_eq_self fun _ => if_pos h3)
  case mark =>
    intro s n i l c hon h0 hn
    exact (State.whenVamp_on _ hon).trans (if_neg (by omega))

end Sys2Proof.Machine

/-! PROOFS. Enumeration, healing and calibration of the chain (O31). -/

namespace Sys2Proof.Machine

/-! A completion answers on the command channel. -/

/-- From `s` to `t` only the command channel, its registers and the outputs have changed. -/
def Replies (s t : State) : Prop :=
  ∃ regs cmd out, t = { s with regs := regs, cmd := cmd, out := out } ∧
    ∀ a, a < Reg.CMD_ID → Sparse.get regReset regs a = s.rd a

theorem Replies.refl (s : State) : Replies s s := ⟨_, _, _, rfl, fun _ _ => rfl⟩

theorem Replies.trans {s t u : State} (h : Replies s t) (k : Replies t u) : Replies s u := by
  obtain ⟨_, _, _, rfl, hr⟩ := h
  obtain ⟨_, _, _, rfl, kr⟩ := k
  exact ⟨_, _, _, rfl, fun a ha => (kr a ha).trans (hr a ha)⟩

theorem Replies.foldl {α : Type} {f : State → α → State} (hf : ∀ t x, Replies t (f t x)) (l : List α) (s : State) :
    Replies s (l.foldl f s) := by
  induction l generalizing s with
  | nil => exact Replies.refl s
  | cons x l ih => exact (hf s x).trans (ih (f s x))

theorem Replies.ite {s a b : State} {c : Prop} [Decidable c] (ha : Replies s a) (hb : Replies s b) :
    Replies s (if c then a else b) := by
  by_cases h : c
  · rwa [if_pos h]
  · rwa [if_neg h]

theorem Replies.rd {s t : State} (h : Replies s t) {a : Nat} (ha : a < Reg.CMD_ID) : t.rd a = s.rd a := by
  obtain ⟨_, _, _, rfl, hr⟩ := h
  exact hr a ha

theorem Replies.tth {s t : State} (h : Replies s t) : t.tth = s.tth := by
  obtain ⟨_, _, _, rfl, _⟩ := h
  rfl

theorem Replies.wr (s : State) {r : Nat} (v : Word) (h : Reg.CMD_ID ≤ r) : Replies s (s.wr r v) :=
  ⟨_, _, _, rfl, fun _ ha => s.rd_wr_ne v (Nat.ne_of_lt (Nat.lt_of_lt_of_le ha h))⟩

theorem State.showInflight_replies (s : State) : Replies s s.showInflight :=
  (Replies.wr s _ (by decide)).trans (Replies.wr _ _ (by decide))

theorem State.showSession_replies (s : State) (i : Nat) (v : Session) (st : Nat) : Replies s (s.showSession i v st) := by
  have reg (k : Nat) (h : Reg.CMD_ID ≤ k) : Reg.CMD_ID ≤ k + 0x10 * i := Nat.le_add_right_of_le h
  exact ((Replies.wr s _ (reg _ (by decide))).trans (Replies.wr _ _ (reg _ (by decide)))).trans
    (Replies.wr _ _ (reg _ (by decide)))

theorem State.setSession_replies (s : State) (i : Nat) (v : Session) : Replies s (s.setSession i v) := by
  unfold State.setSession
  refine Replies.trans (Replies.trans ?_ (State.showSession_replies _ _ _ _)) (State.showInflight_replies _)
  exact ⟨_, _, _, rfl, fun _ _ => rfl⟩

theorem State.reply_replies (s : State) (i flags tag hseq opcode status rseq : Nat) (body : Bytes) :
    Replies s (s.reply i flags tag hseq opcode status rseq body) := by
  unfold State.reply
  cases s.session i with
  | none => exact Replies.refl s
  | some v =>
    refine Replies.ite (Replies.refl s) ?_
    refine Replies.trans ?_ (State.setSession_replies _ _ _)
    exact ⟨_, _, _, rfl, fun _ _ => rfl⟩

theorem State.complete_replies (s : State) (op status : Nat) (body : Bytes) : Replies s (s.complete op status body) := by
  unfold State.complete
  cases s.cmd.ops.find? (fun o => o.id == op) with
  | none => exact Replies.refl s
  | some o =>
    dsimp only
    split
    · refine Replies.trans ?_ (State.showInflight_replies _)
      exact ⟨_, _, _, rfl, fun _ _ => rfl⟩
    · refine Replies.trans (Replies.trans ?_ (State.setSession_replies _ _ _)) (State.reply_replies _ _ _ _ _ _ _ _ _)
      exact ⟨_, _, _, rfl, fun _ _ => rfl⟩

theorem State.completeAll_replies (s : State) (ops : List Nat) (status : Nat) (body : Bytes) :
    Replies s (s.completeAll ops status body) :=
  Replies.foldl (fun t o => State.complete_replies t o status body) ops s

/-! The end of an enumeration. -/

theorem State.putBytes_tth (bs : Bytes) (s : State) (a : Nat) : (s.putBytes a bs).tth = s.tth := by
  obtain ⟨_, _, h⟩ := State.putBytes_writes bs s a
  rw [h]

theorem State.impHeads_tth (s : State) : s.impHeads.tth = s.tth :=
  foldl_leaves State.tth (fun t _ => State.putBytes_tth _ t _) _ s

theorem State.impHeads_regs (s : State) : s.impHeads.regs = s.regs :=
  foldl_leaves State.regs (fun t _ => State.putBytes_regs _ t _) _ s

theorem State.showRing_tth (s : State) : s.showRing.tth = s.tth := rfl

theorem State.locateBreak_sends (s : State) :
    ∃ l, ChainSends { s with tth := { s.tth with locating := l } } s.locateBreak := by
  unfold State.locateBreak
  split
  · exact ⟨s.tth.locating, ChainSends.refl s⟩
  · exact ⟨true, State.rollcall_sends _⟩

/-- The end of an enumeration: a state that shows it over, the report and its completions, and the search of a break. -/
theorem State.enumEnd_parts {s : State} (mismatch : Bool) (a b : Nat) (w : Sparse.wf regReset s.regs = true) :
    ∃ (u v : State) (d : Nat), s.enumEnd mismatch a b = (if v.tth.broken then v.locateBreak else v) ∧
      Replies (u.strobe Src.TTH_ENUM_DONE d) v ∧ Sparse.wf regReset u.regs = true ∧ u.bit Reg.TTH_CTRL 0 = false ∧
      u.tth.enumerating = false ∧ u.tth.heal = false ∧ u.tth.calibrating = s.tth.calibrating ∧ u.tth.enumWaiting = [] := by
  refine ⟨_, _, _, rfl, State.completeAll_replies _ _ _ _, ?_, ?_, ?_⟩
  · simp [State.impHeads_regs, State.showRing, State.refreshMonitored, w]
  · refine (congrArg (getBit · 0) (congrArg (Sparse.get regReset · Reg.TTH_CTRL) (State.impHeads_regs _))).trans ?_
    simp +decide [State.showRing, State.refreshMonitored, State.bit_setBit, w]
  · rw [State.impHeads_tth]
    exact ⟨rfl, rfl, rfl, rfl⟩

/-- An enumeration that ends is over and reported, and ENUM has fallen. -/
theorem State.enumEnd_ends {s : State} (mismatch : Bool) (a b : Nat) (w : Sparse.wf regReset s.regs = true) :
    (s.enumEnd mismatch a b).tth.enumerating = false ∧ (s.enumEnd mismatch a b).tth.heal = false ∧
      (s.enumEnd mismatch a b).tth.calibrating = s.tth.calibrating ∧
      (s.enumEnd mismatch a b).tth.enumWaiting = [] ∧ (s.enumEnd mismatch a b).pend Src.TTH_ENUM_DONE = true ∧
      (s.enumEnd mismatch a b).bit Reg.TTH_CTRL 0 = false := by
  obtain ⟨u, v, d, heq, hv, wu, hctrl, henum, hheal, hcal, hwait⟩ := State.enumEnd_parts mismatch a b w
  have tth : v.tth = u.tth := hv.tth.trans (State.strobe_tth u d (by decide))
  have sends : ∃ l, ChainSends { v with tth := { v.tth with locating := l } }
      (if v.tth.broken then v.locateBreak else v) := by
    split
    · exact State.locateBreak_sends v
    · exact ⟨_, ChainSends.refl v⟩
  obtain ⟨l, _, _, _, _, _, _, _, _, _, hsent⟩ := sends
  have pend : v.pend Src.TTH_ENUM_DONE = true :=
    (congrArg (getBit · _) (hv.rd (by decide))).trans (State.strobe_pend u d (by decide) wu)
  have ctrl : v.bit Reg.TTH_CTRL 0 = false :=
    (congrArg (getBit · 0) (hv.rd (by decide))).trans ((State.strobe_bit u d 0 (by decide) (by decide)).trans hctrl)
  rw [heq, hsent]
  exact ⟨tth ▸ henum, tth ▸ hheal, tth ▸ hcal, tth ▸ hwait, pend, ctrl⟩

/-! The boundary that an enumeration's end may take at once. -/

theorem State.sendNode_sends (s : State) (n op : Nat) (payload : Bytes) : ChainSends s (s.sendNode n op payload) :=
  (State.enqueue_sends s _).trans (State.pump_sends _)

theorem ChainSends.calibrating {s t : State} (h : ChainSends s t) : t.tth.calibrating = s.tth.calibrating := by
  obtain ⟨_, _, _, _, _, _, _, _, _, rfl⟩ := h
  rfl

theorem ChainSends.enumerating {s t : State} (h : ChainSends s t) : t.tth.enumerating = s.tth.enumerating := by
  obtain ⟨_, _, _, _, _, _, _, _, _, rfl⟩ := h
  rfl

theorem ChainSends.regs {s t : State} (h : ChainSends s t) : t.regs = s.regs := by
  obtain ⟨_, _, _, _, _, _, _, _, _, rfl⟩ := h
  rfl

theorem State.applyRoute_tth (s : State) (viaB : List Nat) : (s.applyRoute viaB).tth = s.tth := by
  unfold State.applyRoute
  have bits := foldl_leaves State.tth (f := fun t n => t.setBit (Reg.TTH_NODE (n - 1)) 0 (viaB.contains n))
    (fun _ _ => rfl) s.nodeList s
  refine (apply_ite State.tth _ _ _).trans ?_
  rw [State.strobe_tth _ _ (by decide), ite_self]
  exact bits

theorem State.applyComp_calibrating (s : State) (n ca cb : Nat) :
    (s.applyComp n ca cb).tth.calibrating = s.tth.calibrating := by
  unfold State.applyComp
  exact (State.sendNode_sends _ _ _ _).calibrating

theorem State.applyComps_calibrating (l : List (Nat × Nat × Nat)) (s : State) :
    (l.foldl (fun (t : State) p => t.applyComp p.1 p.2.1 p.2.2) s).tth.calibrating = s.tth.calibrating := by
  induction l generalizing s with
  | nil => rfl
  | cons p l ih => exact (ih _).trans (State.applyComp_calibrating s p.1 p.2.1 p.2.2)

theorem State.settleChain_calibrating (s : State) : s.settleChain.tth.calibrating = s.tth.calibrating := by
  refine (apply_ite (fun t : State => t.tth.calibrating) _ _ _).trans ?_
  have boundary : s.chainBoundary.tth.calibrating = s.tth.calibrating := by
    unfold State.chainBoundary
    cases s.tth.pendingD <;> dsimp only <;> split
    · exact State.applyComps_calibrating _ _
    · exact (congrArg Tth.calibrating (State.applyRoute_tth _ _)).trans (State.applyComps_calibrating _ _)
    · exact (State.applyComps_calibrating _ _).trans rfl
    · exact (congrArg Tth.calibrating (State.applyRoute_tth _ _)).trans ((State.applyComps_calibrating _ _).trans rfl)
  rw [boundary, ite_self]

/-! Echoes. -/

theorem State.sendEchoes_leaves (s : State) (n : Nat) : (s.sendEchoes n).tth.calibrating = s.tth.calibrating ∧
    (s.sendEchoes n).tth.enumerating = s.tth.enumerating ∧ (s.sendEchoes n).regs = s.regs := by
  unfold State.sendEchoes
  generalize List.range 16 = l
  refine ⟨?_, ?_, ?_⟩
  · exact foldl_leaves (fun t => t.tth.calibrating) (fun t _ => (State.enqueue_sends t _).calibrating) l _
  · exact foldl_leaves (fun t => t.tth.enumerating) (fun t _ => (State.enqueue_sends t _).enumerating) l _
  · exact foldl_leaves State.regs (fun t _ => (State.enqueue_sends t _).regs) l _

/-- A calibration starts where none runs, and no enumeration does. -/
theorem State.calibrate_starts {s : State} (hon : s.chainOn = true) (hc : s.tth.calibrating = false)
    (he : s.tth.enumerating = false) : s.calibrate.tth.calibrating = true ∧ s.calibrate.tth.enumerating = false ∧
      s.calibrate.regs = s.regs := by
  have started : s.calibrate = _ := if_neg (by simp [hon, hc, he])
  rw [started]
  have sent := State.pump_sends (s.addressedNodes.foldl State.sendEchoes
    { s with tth := { s.tth with calibrating := true, trips := [] } })
  refine ⟨sent.calibrating.trans ?_, sent.enumerating.trans ?_, sent.regs.trans ?_⟩
  · exact foldl_leaves (fun t => t.tth.calibrating) (fun t n => (State.sendEchoes_leaves t n).1) _ _
  · exact (foldl_leaves (fun t => t.tth.enumerating) (fun t n => (State.sendEchoes_leaves t n).2.1) _ _).trans he
  · exact foldl_leaves State.regs (fun t n => (State.sendEchoes_leaves t n).2.2) _ _

theorem execEnumerationDone_ends {s : State} (wf : s.wf) (hon : s.vampOn = true) (he : s.tth.enumerating = true)
    (hl : s.tth.loop = 0) (hq : s.echoesLeft = false) : ∃ (t : State) (mismatch : Bool) (a b : Nat),
      exec .enumerationDone s = .next (t.enumEnd mismatch a b) ∧ t.tth.calibrating = false ∧
        Sparse.wf regReset t.regs = true := by
  have h : exec .enumerationDone s = _ := (State.whenVamp_on _ hon).trans (if_neg (by simp [he, hl, hq]))
  have shown (u : State) (x y : Nat) (hu : Keeps s u) (hc : u.tth.calibrating = false) :
      (u.settleChain.setSplit x y).tth.calibrating = false ∧
        Sparse.wf regReset (u.settleChain.setSplit x y).regs = true :=
    ⟨(State.settleChain_calibrating u).trans hc, ((State.setSplit_keeps _ x y (State.settleChain_keeps u hu)).wf wf).1⟩
  have kept := State.calibrated_keeps s (Keeps.refl s)
  rw [h]
  split
  · exact ⟨_, _, _, _, rfl, shown _ _ _ (Keeps.upd kept) rfl⟩
  · exact ⟨_, _, _, _, rfl, shown _ _ _ (Keeps.upd kept) rfl⟩

/-- Settles O31. -/
theorem enumerationAndCalibration : Obligations.EnumerationAndCalibration := by
  unfold Obligations.EnumerationAndCalibration
  refine ⟨?full, ?again, ?off, ?calibration, ?healed, ?whole, ?done, ?early, ?calibrated, ?waiting⟩
  case full =>
    intro s _ hon h
    refine ⟨_, State.whenVamp_on _ (State.chainOn_vampOn hon), ?_⟩
    have fresh : s.enumerate = _ := (if_neg (by simp [hon])).trans (if_neg ?_)
    · rw [fresh]
      obtain ⟨_, _, _, _, _, _, _, _, _, hsent⟩ := (State.identify_sends _ 0).trans (State.pump_sends _)
      rw [hsent]
      exact ⟨rfl, rfl, rfl, rfl, rfl, rfl⟩
    · rcases h with h | h <;> simp [h]
  case again =>
    intro s hon he hh
    refine (State.whenVamp_on _ (State.chainOn_vampOn hon)).trans (congrArg _ ?_)
    exact (if_neg (by simp [hon])).trans (if_pos (by simp [he, hh]))
  case off =>
    intro s hoff
    refine ⟨whenVamp_eq_self fun _ => ?_, whenVamp_eq_self fun _ => ?_, whenVamp_eq_self fun _ => ?_⟩
    · exact congrArg _ (if_pos (by simp [hoff]))
    · exact congrArg _ (if_neg (by simp [hoff]))
    · exact congrArg _ (if_pos (by simp [hoff]))
  case calibration =>
    intro s ⟨w, _⟩ hon hc he
    have vamp := State.chainOn_vampOn hon
    have on1 : (s.setBit Reg.TTH_CTRL 1 true).chainOn = true := by
      rw [← hon]
      simp +decide [State.chainOn, State.vampOn, State.compat]
    obtain ⟨rc, _, rr⟩ := State.calibrate_starts (s := s.setBit Reg.TTH_CTRL 1 true) on1 hc he
    refine ⟨(s.setBit Reg.TTH_CTRL 1 true).calibrate, s.calibrate,
      (State.whenVamp_on _ vamp).trans (congrArg _ (if_pos hon)), rc, ?_, State.whenVamp_on _ vamp,
      State.calibrate_starts hon hc he⟩
    exact (congrArg (fun r => getBit (Sparse.get regReset r Reg.TTH_CTRL) 1) rr).trans
      (State.bit_setBit true w (by decide))
  case healed =>
    intro s hon he hb hr
    refine ⟨_, (State.whenVamp_on _ (State.chainOn_vampOn hon)).trans (if_neg (by simp [hon, he, hb, hr])), ?_⟩
    obtain ⟨_, _, _, _, _, _, _, _, _, hsent⟩ :=
      ((State.rollcall_sends _).trans (State.identify_sends _ 0)).trans (State.pump_sends _)
    rw [State.showRing_tth, hsent]
    exact ⟨rfl, rfl, rfl, rfl⟩
  case whole =>
    intro s hb
    exact whenVamp_eq_self fun _ => if_pos (by simp [hb])
  case done =>
    intro s wf hon he hl hq
    obtain ⟨t, mismatch, a, b, ht, hcal, wt⟩ := execEnumerationDone_ends wf hon he hl hq
    obtain ⟨enum, heal, cal, wait, pend, ctrl⟩ := State.enumEnd_ends mismatch a b wt
    exact ⟨_, ht, enum, heal, cal.trans hcal, wait, pend, ctrl⟩
  case early =>
    intro s h
    refine whenVamp_eq_self fun _ => if_pos ?_
    rcases h with h | h | h <;> simp [h]
  case calibrated =>
    intro s _ hon hc hq
    refine ⟨_, (State.whenVamp_on _ hon).trans (congrArg _ (if_pos (by simp [hc, hq]))), rfl, rfl, rfl, ?_, ?_⟩
    · simp [State.calibrated]
    · simp [State.calibrated, List.flatMap_map]
  case waiting =>
    intro s h
    refine whenVamp_eq_self fun _ => congrArg _ (if_neg ?_)
    rcases h with h | h <;> simp [h]

end Sys2Proof.Machine

/-! PROOFS. The line code of the Tether chain: what frame groups carry is taken again (O29). -/

namespace Sys2Proof.Machine

/-! Code groups. The table of the 256 data bytes at both disparities is finite and is checked entry by entry; what follows
uses it for frames of every length. -/

theorem dataGroup_table : ∀ (rd : Bool) (y : Nat), y < 8 → ∀ x : Nat, x < 32 →
    readGroup rd (dataGroup rd (BitVec.ofNat 8 (32 * y + x))).1 =
        some (.data (BitVec.ofNat 8 (32 * y + x)), (dataGroup rd (BitVec.ofNat 8 (32 * y + x))).2) ∧
      sdDisparity (some (dataGroup rd (BitVec.ofNat 8 (32 * y + x))).1) = none := by
  decide

theorem byte_eq_blocks (b : Byte) : BitVec.ofNat 8 (32 * (b.toNat / 32) + b.toNat % 32) = b := by
  rw [Nat.div_add_mod, BitVec.ofNat_toNat, BitVec.setWidth_eq]

theorem readGroup_data (rd : Bool) (b : Byte) :
    readGroup rd (codeGroup rd (.data b)).1 = some (.data b, (codeGroup rd (.data b)).2) := by
  have entry := (dataGroup_table rd (b.toNat / 32) (by omega) (b.toNat % 32) (by omega)).1
  rwa [byte_eq_blocks] at entry

theorem sdDisparity_data (rd : Bool) (b : Byte) : sdDisparity (some (codeGroup rd (.data b)).1) = none := by
  have entry := (dataGroup_table rd (b.toNat / 32) (by omega) (b.toNat % 32) (by omega)).2
  rwa [byte_eq_blocks] at entry

theorem readGroup_ed (rd : Bool) : readGroup rd (codeGroup rd .ed).1 = some (.ed, (codeGroup rd .ed).2) := by
  cases rd <;> decide

theorem sdDisparity_ed (rd : Bool) : sdDisparity (some (codeGroup rd .ed).1) = none := by
  cases rd <;> decide

theorem sdDisparity_sd (rd : Bool) : sdDisparity (some (codeGroup rd .sd).1) = some rd := by
  cases rd <;> decide

/-! Receiving. -/

/-- The rest of a frame after its SD. -/
def tailGroups (rd : Bool) (frame : Bytes) : List (Option Nat) :=
  (lineGroups rd (frame.map LineSymbol.data ++ [.ed])).map some

theorem tailGroups_cons (rd : Bool) (b : Byte) (frame : Bytes) : tailGroups rd (b :: frame) =
    some (codeGroup rd (.data b)).1 :: tailGroups (codeGroup rd (.data b)).2 frame := rfl

theorem tailGroups_nil (rd : Bool) : tailGroups rd [] = [some (codeGroup rd .ed).1] := rfl

theorem frameGroups_eq (rd : Bool) (frame : Bytes) :
    frameGroups rd frame = some (codeGroup rd .sd).1 :: tailGroups (codeGroup rd .sd).2 frame := rfl

theorem Receiver.time_hunt (l : LineKind) {g : Option Nat} (h : sdDisparity g = none) :
    Receiver.hunt.time l g = (.hunt, []) := by
  simp [Receiver.time, h]

/-- A receiver that hunts takes nothing from the rest of a frame. -/
theorem Receiver.run_hunt_tail (l : LineKind) (frame : Bytes) (rd : Bool) :
    Receiver.hunt.run l (tailGroups rd frame) = [] := by
  induction frame generalizing rd with
  | nil => simp [tailGroups_nil, Receiver.run, Receiver.time_hunt l (sdDisparity_ed rd)]
  | cons b frame ih =>
    simp only [tailGroups_cons, Receiver.run, Receiver.time_hunt l (sdDisparity_data rd b), ih, List.append_nil]

/-- What a frame is at its ED. -/
def LineKind.judged (l : LineKind) (frame : Bytes) : FrameEnd :=
  if l.judge frame = 0 then .good frame else .discard (l.judge frame) frame

theorem Receiver.time_data (l : LineKind) (rd : Bool) (got : Bytes) (b : Byte) :
    (Receiver.frame rd got 0 none).time l (some (codeGroup rd (.data b)).1) =
      if l.most ≤ got.length then (.hunt, [.discard 4 (b :: got).reverse])
      else (.frame (codeGroup rd (.data b)).2 (b :: got) 0 none, []) := by
  simp only [Receiver.time, frameTime, readGroup_data]
  split <;> rfl

theorem Receiver.time_ed (l : LineKind) (rd : Bool) (got : Bytes) :
    (Receiver.frame rd got 0 none).time l (some (codeGroup rd .ed).1) = (.hunt, [l.judged got.reverse]) := by
  simp only [Receiver.time, frameTime, readGroup_ed, LineKind.judged]
  rfl

/-- A receiver in a frame takes the rest of it, up to its ED or to the byte that is one too many. -/
theorem Receiver.run_frame_tail (l : LineKind) (frame : Bytes) (rd : Bool) (got : Bytes) (h : got.length ≤ l.most) :
    (Receiver.frame rd got 0 none).run l (tailGroups rd frame) =
      if got.length + frame.length ≤ l.most then [l.judged (got.reverse ++ frame)]
      else [.discard 4 ((got.reverse ++ frame).take (l.most + 1))] := by
  induction frame generalizing rd got with
  | nil => simp [tailGroups_nil, Receiver.run, Receiver.time_ed, h]
  | cons b frame ih =>
    simp only [tailGroups_cons, Receiver.run, Receiver.time_data]
    by_cases full : l.most ≤ got.length
    · have most : l.most = got.reverse.length := by rw [List.length_reverse]; omega
      rw [if_pos full, if_neg (by simp; omega), most, List.take_length_add_append]
      simp [Receiver.run_hunt_tail]
    · rw [if_neg full]
      refine (ih _ (b :: got) (by simpa using full)).trans ?_
      simp [Nat.add_assoc, Nat.add_comm 1]

theorem lineFrames_frameGroups (l : LineKind) (rd : Bool) (frame : Bytes) : lineFrames l (frameGroups rd frame) =
    if frame.length ≤ l.most then [l.judged frame] else [.discard 4 (frame.take (l.most + 1))] := by
  have inFrame := Receiver.run_frame_tail l frame (codeGroup rd .sd).2 [] (Nat.zero_le _)
  simp only [lineFrames, frameGroups_eq, Receiver.run, Receiver.time, sdDisparity_sd]
  simpa using inFrame

theorem State.lineEnds_good (s : State) (p rt : Nat) (f : Bytes) :
    s.lineEnds p [rt] [.good f] = s.frameGood p f rt := rfl

theorem execTetherFrameReceive_of_on {s : State} {p : Nat} (l : List (Option Nat)) (r : List Nat) (hp : p < 2)
    (hon : s.chainOn = true) :
    exec (.tetherFrameReceive p l r) s = .next (s.lineEnds p r (lineFrames chainLine l)) :=
  (State.whenVamp_on _ (State.chainOn_vampOn hon)).trans (congrArg _ (if_pos (by simp [isPort_of_lt hp, hon])))

theorem lineFrames_chain_short (rd : Bool) {f : Bytes} (h : f.length ≤ 68) :
    lineFrames chainLine (frameGroups rd f) = if crcRight f = true then [.good f] else [.discard 2 f] := by
  refine (lineFrames_frameGroups chainLine rd f).trans ((if_pos h).trans ?_)
  cases hc : crcRight f <;> simp [LineKind.judged, chainLine, hc]

/-- Settles O29: the receiver takes a frame's groups by its SD, its bytes one by one, and its ED. -/
theorem tetherFrames : Obligations.TetherFrames := by
  unfold Obligations.TetherFrames
  refine ⟨?line, ?off, ?short, ?long, ?taken⟩
  case line =>
    intro s p l r hp hon
    exact execTetherFrameReceive_of_on l r hp hon
  case off =>
    intro s p l r h
    refine whenVamp_eq_self fun _ => congrArg _ (if_neg ?_)
    rcases h with h | h
    · simp [h]
    · simp [isPort, Nat.not_lt_of_le h]
  case short =>
    intro rd f h
    exact lineFrames_chain_short rd h
  case long =>
    intro rd f h
    exact (lineFrames_frameGroups chainLine rd f).trans (if_neg (Nat.not_le_of_lt h))
  case taken =>
    intro s p rt rd f n op q hp hon hf hc rfl rfl rfl
    rw [execTetherFrameReceive_of_on _ _ hp hon, lineFrames_chain_short rd hf, if_pos hc, State.lineEnds_good]
    refine ⟨fun h => congrArg _ (if_pos h), fun h h0 h48 hs => congrArg _ ?_, fun h h48 => congrArg _ ?_⟩
    · exact (if_neg (Nat.not_lt_of_le h)).trans ((if_neg h0).trans (if_neg (by simp [Nat.not_lt_of_le h48, hs])))
    · exact (if_neg (Nat.not_lt_of_le h)).trans ((if_neg (by omega)).trans (if_pos (Or.inl h48)))

end Sys2Proof.Machine

/-! PROOFS. The sweep and its rate (O33, O34). -/

namespace Sys2Proof.Machine

section
variable {s : State} (hon : s.chainOn = true) (he : s.tth.enumerating = false) (hr : s.swp.rebase = false)
  (hf : s.swp.fix = none)
include hon he hr hf

theorem execSweepInstantFix_of_grid (hb : s.burstState ≠ 3) :
    exec .sweepInstantFix s = .next { s with swp := { s.swp with
      fix := some (s.fixAt (s.chooseInstant s.nextNominal (s.nextNominal + s.fld Reg.SWP_CONFIG 7 0 * 1000)).1
        (s.chooseInstant s.nextNominal (s.nextNominal + s.fld Reg.SWP_CONFIG 7 0 * 1000)).2),
      nominal := s.nextNominal } } := by
  have hb' : (s.burstState == 3) = false := by simpa using hb
  refine (State.whenVamp_on _ (State.chainOn_vampOn hon)).trans ((if_neg (by simp [hon, he, hr, hf])).trans ?_)
  rw [hb']

theorem execSweepInstantFix_of_burst {b : Burst} (h3 : s.burstState = 3) (hb : s.swp.burst = some b) {i : Nat}
    (hi : i = nextBurstPoint b (s.swp.lastInstant.getD (b.p0.getD 0))) :
    exec .sweepInstantFix s =
      .next { s with swp := { s.swp with fix := some (s.fixAt i (s.blindCause i)), nominal := i } } := by
  refine (State.whenVamp_on _ (State.chainOn_vampOn hon)).trans ((if_neg (by simp [hon, he, hr, hf])).trans ?_)
  rw [h3, hb, hi]
  rfl

end

theorem fix_ahead {o : Option Fix} {f : Fix} {now : Nat} (hf : o = some f) (ht : now < f.instant) :
    o.any (fun f => decide (now < f.instant)) = true := by
  simp [hf, ht]

/-- The rate shows from the first sweep on. -/
def State.showRate (s : State) : State :=
  if s.fld Reg.SWP_RATE 15 0 = 0 then s.setFld Reg.SWP_RATE 15 0 (1000 / stepPeriod s.rateStep) else s

theorem State.showRate_swp (s : State) : s.showRate.swp = s.swp := (apply_ite State.swp _ _ _).trans (ite_self _)

theorem State.showRate_rd (s : State) {a : Nat} (h : a ≠ Reg.SWP_RATE) : s.showRate.rd a = s.rd a := by
  unfold State.showRate
  split
  · exact s.rd_setFld_ne _ _ _ h
  · rfl

/-- The state in which a sweep instant has opened its record. -/
def State.sampled (s : State) (f : Fix) (current : Option Word) : State :=
  have i := current.getD s.swp.current
  have s1 : State := { s with swp := { s.swp with
    launched := none, reading := none, current := i, rateChanged := false, nextId := (s.swp.nextId + 1) % 0x10000,
    opened := some { id := s.swp.nextId, instant := f.instant, cause := f.cause, current := i,
                     invalid := current.isNone, burst := s.burstState == 3, step := s.rateStep,
                     changed := s.swp.rateChanged },
    nominal := if s.swp.rebase then s.swp.nominal else s.swp.nominal + s.sweepPeriod } }
  (((s1.wr Reg.SWP_LAST_NS (BitVec.ofNat 32 (f.instant % 1000000000))).wr Reg.SWP_LAST_S
    (BitVec.ofNat 32 (f.instant / 1000000000))).wr Reg.SWP_LAST_CURRENT i).showRate

theorem execSampleInstant_of_launched {s : State} {f : Fix} {current : Option Word} (hon : s.vampOn = true)
    (hl : s.swp.launched = some f) (hr : s.swp.reading.bind id = current) : exec .sampleInstant s =
      .next (if current.isNone then (s.sampled f current).burstAbort 5 else s.sampled f current) := by
  simp only [exec, execSampleInstant, State.whenVamp_on _ hon, hl, hr]
  rfl

theorem State.sampled_swp (s : State) (f : Fix) (current : Option Word) : (s.sampled f current).swp = { s.swp with
    launched := none, reading := none, current := current.getD s.swp.current, rateChanged := false,
    nextId := (s.swp.nextId + 1) % 0x10000,
    opened := some { id := s.swp.nextId, instant := f.instant, cause := f.cause, current := current.getD s.swp.current,
                     invalid := current.isNone, burst := s.burstState == 3, step := s.rateStep,
                     changed := s.swp.rateChanged },
    nominal := if s.swp.rebase then s.swp.nominal else s.swp.nominal + s.sweepPeriod } := by
  unfold State.sampled
  exact State.showRate_swp _

theorem State.sampled_rd {s : State} (f : Fix) (current : Option Word) (w : Sparse.wf regReset s.regs = true) :
    (s.sampled f current).rd Reg.SWP_LAST_CURRENT = current.getD s.swp.current ∧
      (s.sampled f current).rd Reg.SWP_LAST_S = BitVec.ofNat 32 (f.instant / 1000000000) ∧
      (s.sampled f current).rd Reg.SWP_LAST_NS = BitVec.ofNat 32 (f.instant % 1000000000) := by
  unfold State.sampled
  simp +decide [State.showRate_rd, State.rd_wr, w]

/-- Settles O33. -/
theorem sweepCommands : Obligations.SweepCommands := by
  unfold Obligations.SweepCommands
  refine ⟨?fix, ?fixed, ?launch, ?noFix, ?instant, ?unread, ?noLaunch, ?deadline, ?noRecord⟩
  case fix =>
    intro s hon he hr hf
    exact ⟨execSweepInstantFix_of_grid hon he hr hf,
      fun b h3 hb => ⟨_, rfl, execSweepInstantFix_of_burst hon he hr hf h3 hb rfl⟩⟩
  case fixed =>
    intro s f hf ht
    exact whenVamp_eq_self fun _ => if_pos (by rw [fix_ahead hf ht, Bool.or_true])
  case launch =>
    intro s f hon hf
    refine ⟨fun h => ?_, fun h => ⟨_, rfl, ?_⟩⟩ <;> simp [exec, execSampleAtLaunch, hon, hf, h]
  case noFix =>
    intro s hf
    simp only [exec, execSampleAtLaunch, hf, State.whenVamp, ite_self]
  case instant =>
    intro s f i ⟨w, _⟩ hon hl hr
    obtain ⟨lastCurrent, lastS, lastNs⟩ := State.sampled_rd f (some i) w
    refine ⟨_, execSampleInstant_of_launched (current := some i) hon hl (by simp [hr]), ?_⟩
    rw [if_neg (by simp), State.sampled_swp]
    exact ⟨rfl, rfl, rfl, rfl, rfl, lastCurrent, lastS, lastNs⟩
  case unread =>
    intro s f hon hl hr
    refine ⟨_, (execSampleInstant_of_launched hon hl hr).trans (congrArg _ (if_pos rfl)), ?_⟩
    rw [State.sampled_swp]
    exact ⟨rfl, rfl⟩
  case noLaunch =>
    intro s hl
    simp only [exec, execSampleInstant, hl, State.whenVamp, ite_self]
  case deadline =>
    intro s r hon ho
    simp only [exec, execRecordDeadline, State.whenVamp_on _ hon, ho]
  case noRecord =>
    intro s ho
    simp only [exec, execRecordDeadline, ho, State.whenVamp, ite_self]

theorem instant_getD (o : Option Fix) (x : Nat) : (o.map (fun f => f.instant)).getD x =
    match o with
    | some f => f.instant
    | none => x := by
  cases o <;> rfl

/-- Settles O34. -/
theorem sweepRate : Obligations.SweepRate := by
  unfold Obligations.SweepRate
  refine ⟨?down, ?stands, ?window, ?ms⟩
  case down =>
    intro s hon hl hb hs h4
    refine ⟨_, rfl, (State.whenVamp_on _ hon).trans ((if_neg ?_).trans ?_)⟩
    · simp [Nat.not_lt_of_le hl, hb, Nat.not_le_of_lt hs, Nat.not_le_of_lt h4]
    · rw [instant_getD] <;> rfl
  case stands =>
    intro s h
    exact whenVamp_eq_self fun _ => if_pos h
  case window =>
    intro s hon
    refine ⟨_, rfl, fun h => ?_, fun hb hl => ⟨fun h0 => ?_, fun h0 => ⟨_, rfl, ?_⟩⟩⟩
    · exact (State.whenVamp_on _ hon).trans (congrArg _ (if_pos h))
    · exact (State.whenVamp_on _ hon).trans (congrArg _ ((if_neg (by simp [hb, hl])).trans (if_pos h0)))
    · exact (State.whenVamp_on _ hon).trans (congrArg _ ((if_neg (by simp [hb, hl])).trans (if_neg h0)))
  case ms =>
    intro s hon
    refine ⟨_, _, rfl, State.whenVamp_on _ hon, rfl, rfl, rfl, rfl⟩

end Sys2Proof.Machine

/-! PROOFS. The estimation array: layers, faults, placement and its commands (O36 to O39). -/

namespace Sys2Proof.Machine

theorem State.draws_regs (n : Nat) (s : State) : (State.draws n s).2.regs = s.regs := by
  induction n generalizing s with
  | zero => rfl
  | succ n ih => exact ih s.drawn

/-! The layers. -/

section
variable {s : State} {cell : Nat} {c : Ctx} (hc : s.ctx cell = some c)
include hc

theorem execHorizonLayerComplete_of_blocked
    (h : c.horizonDue = false ∨ s.fastBusy c.unit = true) : exec (.horizonLayerComplete cell) s = .next s := by
  simp only [exec, execHorizonLayerComplete, hc]
  refine whenVamp_eq_self fun _ => if_pos ?_
  rcases h with h | h <;> simp [h]

theorem execHorizonLayerComplete_of_due (hon : s.vampOn = true) (hd : c.horizonDue = true) (hr : c.replaying = false)
    (hs : c.started = true) (hl : s.unitLives c.unit = true) (hf : s.fastBusy c.unit = false)
    (hb : s.fullBusy c.unit = false) (hq : c.rebuilding = false ∨ c.fullDue = false) : ∃ (u : State) (d : Ctx),
      exec (.horizonLayerComplete cell) s = .next ((u.putChecked cell d).showEst) ∧ d.horizonDue = false ∧
        d.rebuilding = false ∧ d.z = c.z ∧ u.regs = s.regs := by
  have free : (c.rebuilding && c.fullDue) = false := by rcases hq with h | h <;> simp [h]
  simp only [exec, execHorizonLayerComplete, hc, State.whenVamp_on _ hon]
  rw [if_neg (by simp [hd, hr, hs, hl, hf, hb, free])]
  split
  · exact ⟨s, _, rfl, rfl, rfl, rfl, rfl⟩
  · exact ⟨_, _, rfl, rfl, rfl, rfl, State.draws_regs 16 s⟩

theorem execContextRebuildDone_of_replaying (hon : s.vampOn = true) (hr : c.replaying = true) (hj : c.joining = false)
    (hl : s.unitLives c.unit = true) : exec (.contextRebuildDone cell) s = .next (if s.est.delivered then s else
      ((s.drawnBy (fastDraws * 1250)).putChecked cell { s.replayed cell c with joining := true }).showEst) := by
  simp only [exec, execContextRebuildDone, hc, State.whenVamp_on _ hon]
  cases hd : s.est.delivered <;> simp [hr, hj, hl]

end

/-- Settles O36. -/
theorem estimationLayers : Obligations.EstimationLayers := by
  unfold Obligations.EstimationLayers
  refine ⟨?undelivered, ?fast, ?noContext, ?horizon, ?blocked, ?rebuilt⟩
  case undelivered =>
    intro s us hd
    simp only [exec, execFastLayerComplete, hd]
    exact whenVamp_eq_self fun _ => rfl
  case fast =>
    intro s us head blocks hon hd hr
    simp only [exec, execFastLayerComplete, hd, hr, State.whenVamp_on _ hon]
    exact ⟨_, rfl⟩
  case noContext =>
    intro s cell hc
    simp only [exec, execHorizonLayerComplete, execContextRebuildDone, hc]
    exact ⟨whenVamp_eq_self fun _ => rfl, whenVamp_eq_self fun _ => rfl⟩
  case horizon =>
    intro s cell c hon hc hd hr hs hl hf hb hq
    exact execHorizonLayerComplete_of_due hc hon hd hr hs hl hf hb hq
  case blocked =>
    intro s cell c hc h
    exact execHorizonLayerComplete_of_blocked hc h
  case rebuilt =>
    intro s cell c hon hc hr hj hl
    rw [execContextRebuildDone_of_replaying hc hon hr hj hl]
    exact ⟨fun h => congrArg _ (if_pos h), fun h => congrArg _ (if_neg (by simp [h]))⟩

/-! Faults. -/

/-- The scratch memory's error noted at its cluster's first unit. -/
def State.noteScratch (s : State) (first : Nat) : State :=
  { s with est := { s.est with
    scratchAt := s.est.scratchAt.filter (fun p => p.1 != first) ++ [(first, s.monoNs)] } }

/-- Settles O37. -/
theorem arrayFaults : Obligations.ArrayFaults := by
  unfold Obligations.ArrayFaults
  refine ⟨?local_, ?scratch, ?again, ?function_, ?region, ?microcode, ?passed⟩
  case local_ =>
    intro s u hon hu
    exact (State.whenVamp_on _ hon).trans (if_pos hu)
  case scratch =>
    intro s r c hon hc hn
    refine ⟨s.noteScratch ((clusterUnits r c).headD 0), ?_, rfl⟩
    simp only [exec, execClusterScratchParityError, State.whenVamp_on _ hon, hc, hn]
    rfl
  case again =>
    intro s r c p hon hc hp ht
    refine ⟨s.noteScratch ((clusterUnits r c).headD 0), ?_⟩
    simp only [exec, execClusterScratchParityError, State.whenVamp_on _ hon, hc, hp, decide_eq_true ht]
    rfl
  case function_ =>
    intro s r c hon hc
    exact (State.whenVamp_on _ hon).trans (if_pos hc)
  case region =>
    intro s r hon hc
    exact (State.whenVamp_on _ hon).trans (if_pos hc)
  case microcode =>
    intro s u hon hu
    exact (State.whenVamp_on _ hon).trans (if_pos ⟨hu, rfl⟩)
  case passed =>
    intro s u
    exact whenVamp_eq_self fun _ => if_neg (by simp)

/-! Placement. -/

theorem execFidelityRaise_of_candidate {s : State} {c : Nat} (hon : s.vampOn = true) (hp : s.est.plan = none)
    (hr : s.est.replanAll = false) (hl : s.est.leaving = []) (ho : s.est.overloaded = [])
    (hc : s.highest (s.est.monitored.filter (fun c =>
      !s.est.raised.any (fun p => p.1 == c && decide (s.tim.mono.sec < p.2 + 10)) && (s.raiseUnit c).isSome)) = some c) :
    ∃ p : Plan, exec .fidelityRaise s = .next { s with est := { s.est with
      plan := some p, raised := s.est.raised.filter (fun q => q.1 != c) ++ [(c, s.tim.mono.sec)] } } := by
  simp only [exec, execFidelityRaise, State.whenVamp_on _ hon]
  rw [if_neg (by simp [hp, hr, hl, ho]), hc]
  exact ⟨_, rfl⟩

/-- Settles O38. -/
theorem placementCommands : Obligations.PlacementCommands := by
  unfold Obligations.PlacementCommands
  refine ⟨?plan, ?noPlan, ?checkpoint, ?score, ?load, ?planned, ?raise, ?reports⟩
  case plan =>
    intro s hon hd
    exact (State.whenVamp_on _ hon).trans (if_neg (by simp [hd]))
  case noPlan =>
    intro s hd
    exact whenVamp_eq_self fun _ => if_pos (by simp [hd])
  case checkpoint =>
    intro s c hon
    exact State.whenVamp_on _ hon
  case score =>
    intro s hon
    exact ⟨_, State.whenVamp_on _ hon, rfl, rfl⟩
  case load =>
    intro s us hon
    refine ⟨_, State.whenVamp_on _ hon, rfl, fun k => ?_⟩
    simp only [List.mem_append, List.mem_filter, Bool.and_eq_true, Bool.not_eq_true', List.contains_iff_mem,
      ← Bool.not_eq_true]
    tauto
  case planned =>
    intro s hp
    exact whenVamp_eq_self fun _ => if_pos (by simp [hp])
  case raise =>
    intro s c hon hp hr hl ho hc
    obtain ⟨p, h⟩ := execFidelityRaise_of_candidate hon hp hr hl ho hc
    exact ⟨_, p, h, rfl, rfl, rfl⟩
  case reports =>
    intro s l hon
    refine ⟨_, State.whenVamp_on _ hon, ?_⟩
    generalize allUnits = units
    refine foldl_leaves State.est (fun t u => ?_) units s
    exact State.setFld_est t _ _ _ _

/-- Settles O39. -/
theorem estimationCommands : Obligations.EstimationCommands := by
  unfold Obligations.EstimationCommands
  refine ⟨?start, ?idle, ?done⟩
  case start =>
    intro s hon
    exact ⟨State.whenVamp_on _ hon, State.whenVamp_on _ hon, State.whenVamp_on _ hon, State.whenVamp_on _ hon,
      State.whenVamp_on _ hon⟩
  case idle =>
    intro s ok hr
    simp only [exec, execEstCommandDone, hr]
    exact whenVamp_eq_self fun _ => rfl
  case done =>
    intro s op ok hon hr h5
    refine ⟨_, rfl, fun hn => ?_, fun o ho => ?_⟩
    · simp only [exec, execEstCommandDone, State.whenVamp_on _ hon, hr, if_neg h5]
      rw [hn]
    · simp only [exec, execEstCommandDone, State.whenVamp_on _ hon, hr, if_neg h5]
      rw [ho]

end Sys2Proof.Machine

/-! PROOFS. Anchors, balancing, the journal and persistence writes (O40). -/

namespace Sys2Proof.Machine

/-! What a trigger of the journal does. -/

theorem State.program_congr {s t : State} (hb : t.bit Reg.PRG_STATE 10 = s.bit Reg.PRG_STATE 10) (hp : t.prg = s.prg) :
    t.program = s.program := by
  simp only [State.program, hb, hp]

theorem State.persistTrigger_of_none {s : State} (h : s.program = none) : s.persistTrigger = s := by
  simp only [State.persistTrigger, h]

section
variable {s : State} (ro : s.est.readOnly = false)
include ro

theorem State.journalAsk_of_ahead (cause : Nat) (hb : s.journalBusy = false) (ha : s.boundaryAhead = true) :
    s.journalAsk cause = { s with est := { s.est with copyDue := some cause, held := [] } } := by
  refine (if_neg (by simp [ro])).trans ((if_neg (by simp [hb])).trans ?_)
  exact if_pos ha

theorem State.journalAsk_of_now (cause : Nat) (hb : s.journalBusy = false) (ha : s.boundaryAhead = false) :
    s.journalAsk cause = ({ s with est := { s.est with copyDue := some cause, held := [] } } : State).journalCopy cause := by
  refine (if_neg (by simp [ro])).trans ((if_neg (by simp [hb])).trans ?_)
  exact if_neg (by simp [ha])

theorem State.journalAsk_of_busy (cause : Nat) (hb : s.journalBusy = true) (hh : s.est.held = []) :
    s.journalAsk cause = { s with est := { s.est with held := [cause] } } := by
  refine (if_neg (by simp [ro])).trans ((if_pos hb).trans ?_)
  rw [hh]
  rfl

end

/-! The order of Insole operations with a journal write begun. -/

theorem State.journalCopy_links (s : State) (cause : Nat) :
    (s.journalCopy cause).links = (s.insoleStart .journal).links ∧ (s.journalCopy cause).supply = s.supply ∧
      (s.journalCopy cause).est.writing.isSome = true ∧ (s.journalCopy cause).prg = s.prg := by
  unfold State.journalCopy
  obtain ⟨_, _, h⟩ := State.putBytes_writes (s.journalRecord cause).bytes _ _
  rw [h]
  refine ⟨rfl, ?_, rfl, ?_⟩ <;> simp only [State.insoleStart] <;> split <;> rfl

theorem State.insoleStart_journal {s : State} (hw : s.est.writing = none) :
    (s.insoleStart .journal).links.insole = insolePlace .journal (s.links.insole.filter s.insoleInHand) :=
  congrArg (fun t : State => t.links.insole) (if_neg (by simp [State.insoleInHand, hw]))

/-- The operation placed first runs, if it is in hand. -/
theorem State.insoleTurn_of_first {s : State} {first : InsoleOp} {rest : List InsoleOp}
    (hl : s.links.insole = first :: rest) (hf : s.insoleInHand first = true) (hold : s.supply.insoleHold = false)
    (op : InsoleOp) : s.insoleTurn op = (first == op) := by
  simp [State.insoleTurn, State.insoleNext, hl, hf, hold]

theorem slot_erased (newestB : Bool) (a b : Option JournalRec) :
    (if newestB then none else a) = none ∨ (if newestB then b else none) = none := by
  cases newestB
  · exact .inr rfl
  · exact .inl rfl

/-- Settles O40. -/
theorem anchorsAndJournal : Obligations.AnchorsAndJournal := by
  unfold Obligations.AnchorsAndJournal
  refine ⟨?rest, ?unarmed, ?young, ?old, ?balance, ?trigger, ?asks, ?write, ?erase, ?notTurn, ?order, ?persist⟩
  case rest =>
    intro s h blocks hon ha hr hs
    simp only [exec, execRestAnchor, State.whenVamp_on _ hon, ha, hr, hs, Bool.and_self]
    exact ⟨_, rfl, rfl, rfl, rfl, rfl⟩
  case unarmed =>
    intro s ha
    simp only [exec, execRestAnchor, ha, Bool.false_and]
    exact whenVamp_eq_self fun _ => rfl
  case young =>
    intro s h
    exact whenVamp_eq_self fun _ => if_pos h
  case old =>
    intro s ⟨w, _⟩ hon h
    refine ⟨_, (State.whenVamp_on _ hon).trans (if_neg (Nat.not_lt_of_le h)), ?_, ?_⟩
    · exact State.strobe_pend _ _ (by decide) w
    · exact State.strobe_est _ _ (by decide)
  case balance =>
    intro s hon
    exact ⟨_, _, rfl, rfl, State.whenVamp_on _ hon⟩
  case trigger =>
    intro s hon hp ro
    have asks (cause : Nat) : (s.whenVamp (.next (s.journalTrigger cause))) = .next (s.journalTrigger cause) :=
      State.whenVamp_on _ hon
    refine ⟨fun hb ha => ?_, fun hb ha => ⟨_, _, rfl, rfl, ?_⟩, fun hb hh => ?_⟩
    · refine ⟨(asks 0).trans (congrArg _ ?_), (asks 1).trans (congrArg _ ?_)⟩ <;> unfold State.journalTrigger <;>
        rw [State.journalAsk_of_ahead ro _ hb ha] <;> exact State.persistTrigger_of_none hp
    · refine ⟨(asks 0).trans (congrArg _ ?_), (asks 1).trans (congrArg _ ?_)⟩ <;> unfold State.journalTrigger <;>
        rw [State.journalAsk_of_now ro _ hb ha]
    · refine ⟨(asks 0).trans (congrArg _ ?_), (asks 1).trans (congrArg _ ?_)⟩ <;> unfold State.journalTrigger <;>
        rw [State.journalAsk_of_busy ro _ hb hh] <;> exact State.persistTrigger_of_none hp
  case asks =>
    intro s hon
    exact ⟨State.whenVamp_on _ hon, State.whenVamp_on _ hon⟩
  case write =>
    intro s r hon hw ht
    simp only [exec, execJournalWriteDone, State.whenVamp_on _ hon, hw, ht]
    refine ⟨fun h => ?_, fun h => ?_, fun h => ⟨_, rfl, ?_⟩⟩ <;> simp [h]
  case erase =>
    intro s hon ht
    refine ⟨_, (State.whenVamp_on _ hon).trans (if_neg (by simp [ht])), rfl, ?_⟩
    exact slot_erased _ _ _
  case notTurn =>
    intro s
    refine ⟨fun h => ?_, fun h => ?_, fun ok h => ?_⟩
    · exact whenVamp_eq_self fun _ => if_pos (by simp [h])
    · exact whenVamp_eq_self fun _ => congrArg _ (if_pos (by simp [h]))
    · cases hw : s.est.writing with
      | none =>
        simp only [exec, execJournalWriteDone, hw]
        exact whenVamp_eq_self fun _ => rfl
      | some r =>
        simp only [exec, execJournalWriteDone, hw]
        exact whenVamp_eq_self fun _ => if_pos (by simp [h])
  case order =>
    intro s cause hold hw
    obtain ⟨links, supply, writing, prg⟩ := State.journalCopy_links s cause
    have placed := State.insoleStart_journal hw
    rw [← links] at placed
    rw [← supply] at hold
    refine ⟨fun hl hr => ?_, fun hl hp => ?_⟩
    · have inHand : s.insoleInHand .recorder = true := hr
      have first : (s.journalCopy cause).links.insole = [.journal, .recorder] := by
        rw [placed, hl, List.filter_cons_of_pos inHand]
        rfl
      rw [State.insoleTurn_of_first first writing hold, State.insoleTurn_of_first first writing hold]
      exact ⟨rfl, rfl⟩
    · have inHand : s.insoleInHand .persist = true := hp
      have first : (s.journalCopy cause).links.insole = [.persist, .journal] := by
        rw [placed, hl, List.filter_cons_of_pos inHand]
        rfl
      rw [← prg] at hp
      rw [State.insoleTurn_of_first first hp hold, State.insoleTurn_of_first first hp hold]
      exact ⟨rfl, rfl⟩
  case persist =>
    intro s hon ht hs
    have h : exec .persistWriteDone s = .next s.persistCommit.persistResume :=
      (State.whenVamp_on _ hon).trans (congrArg _ ((if_neg (by simp [ht])).trans (if_neg (by simp [hs]))))
    refine ⟨h, fun slot r hw hh => h.trans (congrArg _ ?_)⟩
    simp [State.persistCommit, State.persistResume, hw, hh]

end Sys2Proof.Machine

/-! PROOFS. The controller: conversions, triggers, evaluation and the Awl (O41). -/

namespace Sys2Proof.Machine

/-! A burst leaves the controller as it is. -/

theorem Replies.ctl {s t : State} (h : Replies s t) : t.ctl = s.ctl := by
  obtain ⟨_, _, _, rfl, _⟩ := h
  rfl

theorem State.putBytes_ctl (bs : Bytes) (s : State) (a : Nat) : (s.putBytes a bs).ctl = s.ctl := by
  obtain ⟨_, _, h⟩ := State.putBytes_writes bs s a
  rw [h]

theorem State.ctl_ite {s a b : State} {c : Prop} [Decidable c] (ha : a.ctl = s.ctl) (hb : b.ctl = s.ctl) :
    (if c then a else b).ctl = s.ctl := by
  split
  · exact ha
  · exact hb

theorem State.ctl_ite_right {a b : State} {c : Prop} {_ : Decidable c} (h : a.ctl = b.ctl) :
    (if c then a else b).ctl = b.ctl := State.ctl_ite h rfl

theorem State.setRate_ctl (s : State) (step cause : Nat) : (s.setRate step cause).ctl = s.ctl :=
  State.ctl_ite rfl (State.strobe_ctl _ _ (by decide))

theorem State.ctl_swp (s : State) (x : Swp) : ({ s with swp := x } : State).ctl = s.ctl := rfl

theorem State.fullRateFor_ctl (s : State) (cause : Nat) : (s.fullRateFor cause).ctl = s.ctl :=
  State.ctl_ite rfl ((State.ctl_swp _ _).trans (State.setRate_ctl s 0 cause))

theorem State.pertOff_ctl (s : State) : s.pertOff.ctl = s.ctl := State.ctl_ite rfl rfl

theorem State.deferBand_ctl (s : State) : s.deferBand.ctl = s.ctl := by
  unfold State.deferBand
  cases s.swp.bands <;> rfl

theorem State.takeRequest_ctl (s : State) (seq : Bool) : (s.takeRequest seq).ctl = s.ctl := State.deferBand_ctl _

theorem State.nextBand_ctl (s : State) : s.nextBand.ctl = s.ctl :=
  State.ctl_ite (State.deferBand_ctl _) (State.ctl_ite (State.takeRequest_ctl _ true)
    (State.ctl_ite (State.takeRequest_ctl _ false) rfl))

theorem State.burstHeader_ctl (s : State) (b : Burst) (result : Nat) (dc : Word) :
    (s.burstHeader b result dc).ctl = s.ctl := State.putBytes_ctl _ s _

theorem State.burstEnd_ctl (s : State) (result reason : Nat) : (s.burstEnd result reason).ctl = s.ctl := by
  unfold State.burstEnd
  have rate : (if s.burstRuns then s.fullRateFor 3 else s).ctl = s.ctl :=
    State.ctl_ite (State.fullRateFor_ctl s 3) rfl
  refine (State.nextBand_ctl _).trans ((State.completeAll_replies _ _ _ _).ctl.trans ?_)
  refine (State.strobe_ctl _ _ (by decide)).trans ?_
  refine (State.ctl_ite_right (State.setBit_ctl _ _ _ _)).trans ((State.ctl_ite_right (State.setBit_ctl _ _ _ _)).trans ?_)
  refine (State.setBit_ctl _ _ _ _).trans ((State.flag_ctl _ _ _ _).trans ?_)
  split
  · exact (State.burstHeader_ctl _ _ _ _).trans ((State.pertOff_ctl _).trans rate)
  · exact (State.pertOff_ctl _).trans rate

theorem State.burstAbort_ctl (s : State) (reason : Nat) : (s.burstAbort reason).ctl = s.ctl :=
  State.ctl_ite (State.burstEnd_ctl s 1 reason) rfl

/-! A conversion. -/

theorem State.readInstant_ctl (s : State) (new : Conversion) : (s.readInstant new).ctl = s.ctl := by
  unfold State.readInstant
  split
  · exact State.ctl_ite rfl rfl
  · rfl

theorem State.readPoint_ctl (s : State) (new : Conversion) : (s.readPoint new).ctl = s.ctl := by
  unfold State.readPoint
  split
  · rfl
  · refine State.ctl_ite rfl ?_
    split
    · exact State.burstAbort_ctl s 5
    · exact State.putBytes_ctl _ _ _

theorem State.judgePoint_ctl (s : State) : s.judgePoint.ctl = s.ctl := by
  unfold State.judgePoint
  split
  · rfl
  · exact State.ctl_ite rfl rfl

theorem State.judgeDue_ctl (s : State) (now : Nat) : (s.judgeDue now).ctl = s.ctl := by
  unfold State.judgeDue
  split
  · rfl
  · exact State.ctl_ite (State.judgePoint_ctl s) rfl

theorem State.currentConversion_ctl (s : State) (code : Int) (good : Bool) :
    (s.currentConversion code good).ctl = s.ctl :=
  (State.ctl_swp _ _).trans ((State.judgeDue_ctl _ _).trans ((State.readPoint_ctl _ _).trans (State.readInstant_ctl s _)))

/-- From `s` to `t` the conversions held stand. -/
def AdcStands (s t : State) : Prop := t.ctl.adcRaw = s.ctl.adcRaw ∧ t.ctl.adc = s.ctl.adc

theorem AdcStands.of_ctl {s t : State} (h : t.ctl = s.ctl) : AdcStands s t := ⟨congrArg _ h, congrArg _ h⟩

theorem AdcStands.refl (s : State) : AdcStands s s := ⟨rfl, rfl⟩

theorem AdcStands.trans {s t u : State} (h : AdcStands s t) (k : AdcStands t u) : AdcStands s u :=
  ⟨k.1.trans h.1, k.2.trans h.2⟩

theorem AdcStands.ite {s a b : State} {c : Prop} [Decidable c] (ha : AdcStands s a) (hb : AdcStands s b) :
    AdcStands s (if c then a else b) := by
  by_cases h : c
  · rwa [if_pos h]
  · rwa [if_neg h]

theorem State.setSlot_adc (s : State) (n : Nat) (v : Slot) : AdcStands s (s.setSlot n v) := ⟨rfl, rfl⟩

theorem State.addTrig_adc (s : State) (n delay : Nat) : AdcStands s (s.addTrig n delay) := ⟨rfl, rfl⟩

theorem State.slotEvent_adc (s : State) (n : Nat) : AdcStands s (s.slotEvent n) := by
  unfold State.slotEvent
  refine AdcStands.ite (AdcStands.refl s) (AdcStands.ite (AdcStands.ite ?_ ?_) (AdcStands.ite ?_ ?_))
  · exact AdcStands.of_ctl (State.strobe_ctl _ _ (by decide))
  · exact (State.setSlot_adc s n _).trans (State.addTrig_adc _ _ _)
  · exact State.setSlot_adc s n _
  · exact (State.setSlot_adc s n _).trans (State.addTrig_adc _ _ _)

theorem State.raiseConversion_adc (s : State) : AdcStands s s.raiseConversion := by
  unfold State.raiseConversion
  generalize List.range 16 = l
  induction l generalizing s with
  | nil => exact AdcStands.refl s
  | cons n l ih =>
    refine AdcStands.trans ?_ (ih _)
    exact AdcStands.ite (AdcStands.ite (State.setSlot_adc s n _)
      ((State.setSlot_adc s n _).trans (State.slotEvent_adc _ n))) (AdcStands.refl s)

/-- The state with a conversion's raw codes and trimmed means in the history. -/
def State.noteAdc (s : State) (raw sig : List Int) : State :=
  { s with ctl := { s.ctl with adcRaw := raw, adc := sig :: s.ctl.adc.take 1023 } }

theorem State.noteAdc_held (s : State) (raw sig : List Int) :
    (s.noteAdc raw sig).ctl.adcRaw = raw ∧ (s.noteAdc raw sig).ctl.adc = sig :: s.ctl.adc.take 1023 := ⟨rfl, rfl⟩

/-- The raw codes after a conversion: a lost channel keeps its code. -/
def State.adcCodes (s : State) (codes : List Int) (lost : Nat) : List Int :=
  (List.range 8).map (fun ch => if lost / 2 ^ ch % 2 == 1 then s.ctl.adcRaw.getD ch 0 else codes.getD ch 0)

/-- What follows a conversion noted leaves the history. -/
theorem execAdcConversionReceive_notes {s : State} (codes : List Int) (lost : Nat) (hon : s.vampOn = true)
    (hup : s.links.vsUp = true) : ∃ t : State, exec (.adcConversionReceive codes lost) s = .next t ∧
    AdcStands (((s.safConversion 2 codes).safConversion 1 (s.adcCodes codes lost)).noteAdc (s.adcCodes codes lost)
      ((List.range 8).map (fun ch => s.trim ch ((s.adcCodes codes lost).getD ch 0)))) t := by
  have hup2 : ¬ (!(s.safConversion 2 codes).links.vsUp) = true := by
    simp [State.safConversion, State.setSafChan, hup]
  refine ⟨_, (State.whenVamp_on _ hon).trans (if_neg hup2), ?_⟩
  refine AdcStands.trans ?_ (State.raiseConversion_adc _)
  refine AdcStands.trans ?_ (AdcStands.of_ctl (State.currentConversion_ctl _ _ _))
  refine AdcStands.trans ?counted (AdcStands.ite (AdcStands.refl _) ?range)
  case counted => exact AdcStands.of_ctl ((State.setFld_ctl _ _ _ _ _).trans (State.setFld_ctl _ _ _ _ _))
  case range =>
    refine AdcStands.trans ?_ (AdcStands.of_ctl (State.strobe_ctl _ _ (by decide)))
    exact ⟨rfl, rfl⟩

/-! Evaluation. -/

theorem State.evaluateTo_cons (s : State) (n : Nat) (p : Nat × Nat) (rest : List (Nat × Nat)) :
    s.evaluateTo n (p :: rest) =
      if p.2 = n then ({ s with ctl := { s.ctl with trigs := rest } } : State).takeTrig n
      else (({ s with ctl := { s.ctl with trigs := rest } } : State).takeTrig p.2).evaluateTo n rest := rfl

theorem execSlotEvaluate_of_waiting {s : State} {n : Nat} {p : Nat × Nat} {rest : List (Nat × Nat)}
    (hon : s.vampOn = true) (hn : n < 16) (ht : s.ctl.trigs = p :: rest) (hw : s.waiting n ≠ 0) :
    exec (.slotEvaluate n) s = .next (if p.2 = n then ({ s with ctl := { s.ctl with trigs := rest } } : State).takeTrig n
      else (({ s with ctl := { s.ctl with trigs := rest } } : State).takeTrig p.2).evaluateTo n rest) := by
  refine (State.whenVamp_on _ hon).trans (congrArg _ ((if_pos ⟨hn, hw⟩).trans ?_))
  rw [ht, State.evaluateTo_cons]

theorem State.waiting_of_first {s : State} {n : Nat} {p : Nat × Nat} {rest : List (Nat × Nat)}
    (ht : s.ctl.trigs = p :: rest) (hp : p.2 = n) : s.waiting n ≠ 0 := by
  simp [State.waiting, ht, hp]

section
variable {s : State} {n : Nat}

theorem State.takeTrig_of_stopped (h : s.slotRuns n = false) : s.takeTrig n = s := if_pos (by simp [h])

theorem State.takeTrig_of_early (h : s.slotRuns n = true) (h5 : s.trigSource n ≠ 5) (h6 : s.trigSource n ≠ 6)
    (he : s.tooEarly n = true) : s.takeTrig n = s.slotOverrun n :=
  (if_neg (by simp [h])).trans (if_pos (by simp [h5, h6, he]))

theorem State.takeTrig_of_timed (h : s.slotRuns n = true) (hup : s.links.vsUp = true)
    (ht : s.trigSource n = 5 ∨ s.trigSource n = 6) : s.takeTrig n = s.evaluate n := by
  unfold State.takeTrig
  simp [h, ht, hup]

theorem State.takeTrig_of_event (h : s.slotRuns n = true) (hup : s.links.vsUp = true) (h5 : s.trigSource n ≠ 5)
    (h6 : s.trigSource n ≠ 6) (he : s.tooEarly n = false) :
    s.takeTrig n = (s.setSlot n { s.slot n with lastTrig := some s.monoNs }).evaluate n := by
  have up : (s.setSlot n { s.slot n with lastTrig := some s.monoNs }).links.vsUp = true := hup
  unfold State.takeTrig
  simp [h, h5, h6, he, up]

end

/-! Triggers. -/

theorem execSlotTriggerEvent_of_running {s : State} {n : Nat} (hon : s.vampOn = true) (hn : n < 16)
    (hr : s.running n = true) (h0 : s.trigSource n ≠ 0) : exec (.slotTriggerEvent n) s =
      .next (if s.trigSource n = 5 ∨ s.trigSource n = 6 then
        (if s.tooEarly n then s.slotOverrun n
          else (s.setSlot n { s.slot n with lastTrig := some s.monoNs }).addTrig n 0)
      else if (s.slot n).events < s.fld (Reg.CTL_SLOT_TRIG n) 24 17 then
        s.setSlot n { s.slot n with events := (s.slot n).events + 1 }
      else (s.setSlot n { s.slot n with events := 0 }).addTrig n (s.fld (Reg.CTL_SLOT_TRIG n) 11 0)) :=
  (State.whenVamp_on _ hon).trans (congrArg _ (if_neg (by simp [hn, hr, h0])))

/-! The Awl. -/

theorem execAwlStart_of_free {s : State} (hon : s.vampOn = true) (hb : s.bit Reg.CTL_AWL_CTRL 0 = false)
    (h0 : s.awlBar = 0) : ∃ c : Ctl, exec .awlStart s = .next { ((s.setBit Reg.CTL_AWL_CTRL 0 true).setFld
      Reg.CTL_AWL_RUN 15 0 ((s.fld Reg.CTL_AWL_RUN 15 0 + 1) % 0x10000)).setFld Reg.CTL_AWL_STAT 10 8
        (if s.fld Reg.CTL_AWL_CFG 15 0 = 0 then 2 else 1) with ctl := c } := by
  simp only [exec, execAwlStart, State.whenVamp_on _ hon, hb, h0]
  exact ⟨_, rfl⟩

theorem execAwlStart_of_barred {s : State} (hon : s.vampOn = true) (hb : s.bit Reg.CTL_AWL_CTRL 0 = false)
    (h0 : s.awlBar ≠ 0) : ∃ d : Nat, exec .awlStart s =
      .next ((s.flag Reg.CTL_AWL_STAT Reg.CTL_AWL_COUNT 1).strobe Src.CTL_AWL_DONE d) := by
  obtain ⟨k, hk⟩ := Nat.exists_eq_succ_of_ne_zero h0
  simp only [exec, execAwlStart, State.whenVamp_on _ hon, hb, hk]
  exact ⟨_, rfl⟩

/-- Settles O41. -/
theorem controllerCommands : Obligations.ControllerCommands := by
  unfold Obligations.ControllerCommands
  refine ⟨?adc, ?adcDown, ?noEvent, ?timed, ?counted, ?noWait, ?evaluate, ?slots, ?commit, ?noCommit, ?awlRuns, ?awl,
    ?awlBarred, ?abort⟩
  case adc =>
    intro s codes lost hon hup
    obtain ⟨t, h, raw, adc⟩ := execAdcConversionReceive_notes codes lost hon hup
    refine ⟨t, h, raw.trans ?_, ?_⟩
    · simp [State.noteAdc, State.adcCodes]
    · rw [raw, adc]
      rfl
  case adcDown =>
    intro s codes lost hon hup
    exact (State.whenVamp_on _ hon).trans (if_pos (by simp [State.safConversion, State.setSafChan, hup]))
  case noEvent =>
    intro s n h
    refine whenVamp_eq_self fun _ => congrArg _ (if_pos ?_)
    rcases h with h | h <;> simp [h]
  case timed =>
    intro s n hon hn hr ht
    have h0 : s.trigSource n ≠ 0 := by omega
    rw [execSlotTriggerEvent_of_running hon hn hr h0, if_pos ht]
    exact ⟨fun h => congrArg _ (if_pos h), fun h => congrArg _ (if_neg (by simp [h]))⟩
  case counted =>
    intro s n hon hn hr h0 h5 h6
    rw [execSlotTriggerEvent_of_running hon hn hr h0, if_neg (by simp [h5, h6])]
    exact ⟨fun h => congrArg _ (if_pos h), fun h => congrArg _ (if_neg (Nat.not_lt_of_le h))⟩
  case noWait =>
    intro s n h
    exact whenVamp_eq_self fun _ => congrArg _ (if_neg (by simp [h]))
  case evaluate =>
    intro s n p rest hon hn ht
    refine ⟨_, rfl, fun hp => ?_, fun hp hw => ?_⟩
    · have taken := (execSlotEvaluate_of_waiting hon hn ht (State.waiting_of_first ht hp)).trans
        (congrArg _ (if_pos hp))
      exact ⟨taken, fun h => taken.trans (congrArg _ (State.takeTrig_of_stopped h)),
        fun h h5 h6 he => taken.trans (congrArg _ (State.takeTrig_of_early h h5 h6 he)),
        fun h hup ht => taken.trans (congrArg _ (State.takeTrig_of_timed h hup ht)),
        fun h hup h5 h6 he => taken.trans (congrArg _ (State.takeTrig_of_event h hup h5 h6 he))⟩
    · exact (execSlotEvaluate_of_waiting hon hn ht hw).trans (congrArg _ (if_neg hp))
  case slots =>
    intro s bits hon
    exact ⟨State.whenVamp_on _ hon, State.whenVamp_on _ hon, State.whenVamp_on _ hon⟩
  case commit =>
    intro s v hon hv
    exact (State.whenVamp_on _ hon).trans (congrArg _ (if_pos hv))
  case noCommit =>
    intro s v hv
    exact whenVamp_eq_self fun _ => congrArg _ (if_neg (by simp [hv]))
  case awlRuns =>
    intro s hb
    exact whenVamp_eq_self fun _ => if_pos hb
  case awl =>
    intro s ⟨w, _⟩ hon hb h0
    obtain ⟨c, h⟩ := execAwlStart_of_free hon hb h0
    refine ⟨_, h, ?_⟩
    simp +decide [State.bit_setBit, State.fld_setFld, w]
    split <;> omega
  case awlBarred =>
    intro s ⟨w, _⟩ hon hb h0
    obtain ⟨d, h⟩ := execAwlStart_of_barred hon hb h0
    refine ⟨_, h, State.strobe_pend _ _ (by decide) (by simp [w]), ?_⟩
    simp +decide [hb]
  case abort =>
    intro s hon
    exact State.whenVamp_on _ hon

end Sys2Proof.Machine

/-! PROOFS. Pulse-width outputs, trips and the PCS link (O42, O43). -/

namespace Sys2Proof.Machine

/-! Trips. -/

theorem State.soleLog_vampOn (s : State) (code detail : Nat) : (s.soleLog code detail).vampOn = s.vampOn := by
  unfold State.soleLog
  refine (apply_ite State.vampOn _ _ _).trans ?_
  rw [State.vampOn_congr (State.copySole_eventful _).mode (State.copySole_eventful _).supply,
    State.vampOn_congr (State.strobe_mode _ _ (by decide)) (State.strobe_supply _ _ (by decide)), ite_self]
  rfl

theorem execComparatorTrip_of_on {s : State} {c : Nat} (up : Bool) (hc : c < 4) (hon : s.vampOn = true)
    (h : s.bit (Reg.SOLE_CMP_CFG c) 30 = true ∨ s.bit (Reg.SOLE_CMP_CFG c) 31 = true) : ∃ u : State,
      u = ((((s.flag Reg.SOLE_STAT Reg.SOLE_STAT_COUNT 2).soleLog 7 c).strobe Src.SOLE_COMPARATOR
        ((if up then 1 else 2) * 4 + c)).compTrip) ∧
      exec (.comparatorTrip c up) s =
        .next (if u.bit (Reg.SOLE_CMP_CFG c) 31 then u.find 2 true 0 c c else u) := by
  have on : ((s.flag Reg.SOLE_STAT Reg.SOLE_STAT_COUNT 2).soleLog 7 c).vampOn = true :=
    (State.soleLog_vampOn _ 7 c).trans hon
  refine ⟨_, rfl, (if_pos ⟨hc, State.mode_of_vampOn hon, h⟩).trans ?_⟩
  rw [if_pos on]

theorem State.syncHold_bit (s : State) {a : Nat} (i : Nat) (h : a ≠ Reg.CTL_STAT) : s.syncHold.bit a i = s.bit a i :=
  State.bit_setBit_other _ _ i h

/-- The outcome of a mid-period, from the state with the channel reloaded. -/
def raised (n : Nat) (s : State) : Host.Outcome State Fault Refusal := .next (s.raiseTrig 2 n)

/-- Settles O42. -/
theorem pulseWidthAndTrips : Obligations.PulseWidthAndTrips := by
  unfold Obligations.PulseWidthAndTrips
  refine ⟨?stopped, ?start, ?mid, ?midUpdate, ?pin, ?unarmed, ?comparator, ?quiet, ?standing⟩
  case stopped =>
    intro s tb h
    exact whenVamp_eq_self fun _ => if_pos (by simp [h])
  case start =>
    intro s tb hon htb hr hh
    refine ⟨_, _, _, rfl, rfl, rfl, fun h => ?_, fun h h0 => ?_⟩
    · simp only [exec, execPwmPeriodStart, State.whenVamp_on _ hon]
      simp [htb, hr, hh, h]
    · simp only [exec, execPwmPeriodStart, State.whenVamp_on _ hon]
      simp [htb, hr, hh, h, h0, Nat.mod_one]
  case mid =>
    intro s n hon hn h
    refine (State.whenVamp_on _ hon).trans ((if_pos hn).trans (congrArg (raised n) ?_))
    refine if_neg ?_
    rcases h with h | h <;> simp [h]
  case midUpdate =>
    intro s n hon hn hu hc hl
    refine (State.whenVamp_on _ hon).trans ((if_pos hn).trans (congrArg (raised n) ?_))
    exact (if_pos ⟨hu, by simp [hc]⟩).trans (if_neg (by simp [hl]))
  case pin =>
    intro s hon
    exact State.whenVamp_on _ hon
  case unarmed =>
    intro s c up h0 h1
    exact if_neg (by simp [h0, h1])
  case comparator =>
    intro s c up hc hon h
    obtain ⟨u, hu, he⟩ := execComparatorTrip_of_on up hc hon h
    exact ⟨u, hu, fun k => he.trans (congrArg _ (if_neg (by simp [k]))), fun k => he.trans (congrArg _ (if_pos k))⟩
  case quiet =>
    intro s ⟨w, _⟩ hon v hv
    refine ⟨(s.setBit Reg.PWM_TRIP 22 false).syncHold, ?_, ?_⟩
    · simp [exec, execPwmTripClear, hon, hv]
    · simp +decide [State.syncHold_bit, State.bit_setBit, State.bit_setBit_ne, w]
  case standing =>
    intro s v hon
    simp [exec, execPwmTripClear, hon]

/-! The PCS link. -/

theorem execPcsRequestReceive_of_on {s : State} (l : List (Option Nat)) (hon : s.vampOn = true) (hm : s.mode ≠ .standby) :
    exec (.pcsRequestReceive l) s = .next ((lineFrames pcsLine l).foldl State.pcsFrameEnd s) :=
  (State.whenVamp_on _ hon).trans (if_neg (by simpa using hm))

theorem lineFrames_pcs_short (rd : Bool) {f : Bytes} (h : f.length ≤ 32) :
    lineFrames pcsLine (frameGroups rd f) = [pcsLine.judged f] :=
  (lineFrames_frameGroups pcsLine rd f).trans (if_pos h)

theorem lineFrames_pcs_long (rd : Bool) {f : Bytes} (h : 32 < f.length) :
    lineFrames pcsLine (frameGroups rd f) = [.discard 4 (f.take 33)] :=
  (lineFrames_frameGroups pcsLine rd f).trans (if_neg (Nat.not_le_of_lt h))

theorem pcsLine_judge (f : Bytes) : pcsLine.judge f =
    if f.length ≠ 32 then 4 else if !crcRight f then 2 else if fieldLE f 0 1 ≠ 1 then 7 else 0 := rfl

theorem pcsLine_judged_bad {f : Bytes} {why : Nat} (h : pcsLine.judge f = why) (h0 : why ≠ 0) :
    pcsLine.judged f = .discard why f := by
  simp [LineKind.judged, h, h0]

theorem pcsLine_judged_good {f : Bytes} (h : pcsLine.judge f = 0) : pcsLine.judged f = .good f := by
  simp [LineKind.judged, h]

/-- The frames on the PCS link, one by one, by how they are judged. -/
theorem execPcsRequestReceive_frame {s : State} (rd : Bool) {f : Bytes} (hon : s.vampOn = true) (hm : s.mode ≠ .standby)
    (h : f.length ≤ 32) : exec (.pcsRequestReceive (frameGroups rd f)) s = .next (s.pcsFrameEnd (pcsLine.judged f)) := by
  rw [execPcsRequestReceive_of_on _ hon hm, lineFrames_pcs_short rd h]
  rfl

theorem State.bit_pcs (s : State) (x : Pcs) (a i : Nat) : ({ s with pcs := x } : State).bit a i = s.bit a i := rfl

theorem State.dispatch_of_free {s : State} {chg dis : Word} {lease : Nat} (set : Nat)
    (h : s.dispatchBar chg dis lease = 0) : s.dispatch chg dis set lease =
      ((({ s with pcs := { s.pcs with
          capChg := some chg, capDis := some dis, setpoint := if set = 0x8000 then none else some set,
          leaseEnd := some (s.monoNs + lease * 1000000), leaseMs := lease } } : State).setFld Reg.PCS_DISP_STAT 17 16
            1).strobe Src.PCS_DISPATCH (0 * 2 ^ 16 + lease)) := by
  simp only [State.dispatch, h, if_true]

/-- Settles O43. -/
theorem pcsExchange : Obligations.PcsExchange := by
  unfold Obligations.PcsExchange
  refine ⟨?line, ?frame, ?align, ?foreign, ?commit, ?pert, ?stale, ?notMissed, ?missed, ?notLost, ?lost, ?compare, ?apply,
    ?noLease, ?expiry⟩
  case line =>
    intro s l
    exact ⟨fun hon hm => execPcsRequestReceive_of_on l hon hm,
      fun hm => whenVamp_eq_self fun _ => if_pos (by simp [hm])⟩
  case frame =>
    intro s rd f hon hm
    have taken (h : f.length ≤ 32) := execPcsRequestReceive_frame (s := s) rd hon hm h
    refine ⟨_, rfl, fun h => ?_, fun h => ?_, fun h hc => ?_, fun h hc hf => ?_, fun h hc hf he => ?_, fun h hc hf he => ?_⟩
    · rw [execPcsRequestReceive_of_on _ hon hm, lineFrames_pcs_long rd h]
      rfl
    · rw [taken (Nat.le_of_lt h), pcsLine_judged_bad ((pcsLine_judge f).trans (if_pos (Nat.ne_of_lt h))) (by decide)]
      rfl
    · rw [taken (Nat.le_of_eq h), pcsLine_judged_bad (why := 2) (by simp [pcsLine_judge, h, hc]) (by decide)]
      rfl
    · rw [taken (Nat.le_of_eq h), pcsLine_judged_bad (why := 7) (by simp [pcsLine_judge, h, hc, hf]) (by decide)]
      rfl
    · rw [taken (Nat.le_of_eq h), pcsLine_judged_good (by simp [pcsLine_judge, h, hc, hf])]
      exact congrArg _ (if_pos he)
    · rw [taken (Nat.le_of_eq h), pcsLine_judged_good (by simp [pcsLine_judge, h, hc, hf])]
      exact congrArg _ (if_neg (by simp [he]))
  case align =>
    intro s ⟨w, _⟩ hon
    exact ⟨_, _, State.whenVamp_on _ hon, State.bit_setBit true w (by decide), State.whenVamp_on _ hon,
      State.bit_setBit false w (by decide)⟩
  case foreign =>
    intro s v who hon hw
    exact ⟨(State.whenVamp_on _ hon).trans (congrArg _ (if_pos hw)),
      (State.whenVamp_on _ hon).trans (congrArg _ (if_pos hw))⟩
  case commit =>
    intro s v
    refine ⟨fun hon hv => ?_, fun hv => whenVamp_eq_self fun _ => congrArg _ ?_⟩
    · exact (State.whenVamp_on _ hon).trans (congrArg _ ((if_neg (by simp)).trans (if_pos hv)))
    · exact (if_neg (by simp)).trans (if_neg (by simp [hv]))
  case pert =>
    intro s v ⟨w, _⟩ hon
    refine ⟨_, (State.whenVamp_on _ hon).trans (congrArg _ (if_neg (by simp))), ?_, fun hv => ?_⟩
    · refine (apply_ite (fun t : State => t.bit Reg.PCS_PERT_CTRL 0) _ _ _).trans ?_
      rw [State.bit_pcs, ite_self]
      exact State.bit_setBit _ w (by decide)
    · dsimp only
      rw [if_pos hv]
      rfl
  case stale =>
    intro s ⟨w, _⟩ hon
    refine ⟨_, State.whenVamp_on _ hon, ?_⟩
    simp +decide [State.bit_setBit, State.bit_setBit_ne, State.bit_flag, w]
  case notMissed =>
    intro s h
    exact whenVamp_eq_self fun _ => if_pos h
  case missed =>
    intro s ⟨w, _⟩ hon hl hc
    refine ⟨_, (State.whenVamp_on _ hon).trans (if_neg (not_or.mpr ⟨by simp [hl], hc⟩)), ?_⟩
    simp +decide [State.strobe_pend, State.fld_incFld, w]
  case notLost =>
    intro s h
    refine whenVamp_eq_self fun _ => if_pos ?_
    rcases h with h | h <;> simp [h]
  case lost =>
    intro s ⟨w, _⟩ hon hl hr
    refine ⟨_, ?_, ?_, ?_, ?_, (State.whenVamp_on _ hon).trans (if_neg ?_)⟩
    · exact State.strobe_pend _ _ (by decide) (by simp [w])
    · simp +decide [State.rd_wr, w]
    · simp +decide [State.bit_setBit, w]
    · exact State.strobe_pcs _ _ (by decide)
    · obtain ⟨x, hx⟩ := Option.isSome_iff_exists.mp hr
      simp [hl, hx]
  case compare =>
    intro s hon
    refine ⟨_, rfl, fun h => ?_, fun m hm hn => ⟨_, rfl, fun hf => ?_, fun hf wf => ?_⟩⟩
    · simp only [exec, execPcsCurrentCompare, State.whenVamp_on _ hon]
      rcases h with h | h
      · rw [h]
        rfl
      · cases s.swp.tenth.means 2000000 with
        | none => rfl
        | some m => exact if_neg (by simp [h])
    · simp only [exec, execPcsCurrentCompare, State.whenVamp_on _ hon, hm, Option.map_some]
      exact if_neg (by simp [hf])
    · simp only [exec, execPcsCurrentCompare, State.whenVamp_on _ hon, hm, Option.map_some]
      refine ⟨_, if_pos ⟨hn, hf⟩, State.strobe_pend _ _ (by decide) (by simp [wf.1]), ?_, ?_⟩
      · exact (State.strobe_bit _ _ _ (by decide) (by decide)).trans (State.bit_flag wf.1 (by decide) (by decide))
      · exact congrArg Pcs.measCount (State.strobe_pcs _ _ (by decide))
  case apply =>
    intro s ⟨w, _⟩ hon hb
    refine ⟨_, State.whenVamp_on _ hon, ?_⟩
    have applied := State.dispatch_of_free (s.fld Reg.PCS_DISP_SET 15 0) hb
    rw [applied]
    simp +decide [State.bit_setBit, State.strobe_pend, w]
  case noLease =>
    intro s h
    exact whenVamp_eq_self fun _ => if_pos (by simp [h])
  case expiry =>
    intro s ⟨w, _⟩ hon hl
    obtain ⟨x, hx⟩ := Option.isSome_iff_exists.mp hl
    refine ⟨_, (State.whenVamp_on _ hon).trans (if_neg (by simp [hx])), ?_⟩
    simp +decide +contextual [State.strobe_pend, w]

end Sys2Proof.Machine

/-! PROOFS. The cycles, tests and requests of the safety channels (O44, O45). -/

namespace Sys2Proof.Machine

/-- What the mean of 1 ms ends, of the Drogue and of the wait for the shunt, once it stands in the channel `c`. -/
def State.endWaits (w : State) (ch : Nat) (c : SafChan) : State :=
  have v := if c.drogueAt.isSome && w.nearZero c.current then (w.endDrogue ch 2).act ch else w
  if (v.safChan ch).shuntAt.isSome && (!v.overBreak c.current && !v.overBreak (c.rx.bind Cross.current)) then
    v.endShunt ch
  else v

theorem State.endWaits_of_none {w : State} {ch : Nat} {c : SafChan} (hd : c.drogueAt = none)
    (hs : (w.safChan ch).shuntAt = none) : w.endWaits ch c = w := by
  simp [State.endWaits, hd, hs]

theorem State.endWaits_of_drogue {w : State} {ch : Nat} {c : SafChan} (hd : c.drogueAt.isSome = true)
    (hz : w.nearZero c.current = true) (hs : (((w.endDrogue ch 2).act ch).safChan ch).shuntAt = none) :
    w.endWaits ch c = (w.endDrogue ch 2).act ch := by
  simp [State.endWaits, hd, hz, hs]

theorem execSafetyCurrentMean1ms_on {s : State} {ch : Nat} (hc : isChannel ch = true) (hon : s.safOn ch = true)
    {a b : Option Word} {c : SafChan} {u x w : State} {slow : Bool}
    (ha : a = if (s.safChan ch).ms.count = 20000 then some (s.sensorMean 0 20000 (s.safChan ch).ms.sumA) else none)
    (hb : b = if (s.safChan ch).ms.count = 20000 then some (s.sensorMean 1 20000 (s.safChan ch).ms.sumB) else none)
    (hslow : slow = s.slowOver ({ s.safChan ch with meanA := a, meanB := b, ms := {} } : SafChan).current)
    (hchan : c = { s.safChan ch with meanA := a, meanB := b, ms := {},
                                     slowMs := if slow = true then (s.safChan ch).slowMs + 1 else 0 })
    (hu : u = s.setSafChan ch c)
    (hx : x = if ch = 1 then (u.wr Reg.SAF_CURRENT_A (a.getD (u.rd Reg.SAF_CURRENT_A))).wr Reg.SAF_CURRENT_B
      (b.getD (u.rd Reg.SAF_CURRENT_B)) else u)
    (hw : w = if slow = true then x else x.unfind ch true 1 0) :
    exec (.safetyCurrentMean1ms ch) s = .next (w.endWaits ch c) := by
  refine (if_pos ⟨hc, hon⟩).trans ?_
  have drogueAt : c.drogueAt = (s.safChan ch).drogueAt := by rw [hchan]
  have rx : c.rx = (s.safChan ch).rx := by rw [hchan]
  simp only [beq_iff_eq, ← ha, ← hb, ← hslow, ← hchan, ← hu, ← hx, ← hw, State.endWaits, drogueAt, rx]

/-- Settles O44. -/
theorem safetyCycles : Obligations.SafetyCycles := by
  unfold Obligations.SafetyCycles
  refine ⟨?cycle1, ?cycle2, ?send, ?off, ?receive2, ?receive1, ?noLink, ?disagree, ?agree, ?silent, ?edge, ?timeout,
    ?drogue, ?channelOff, ?mean1ms, ?mean100ms, ?slow, ?notSlow, ?shunt⟩
  case cycle1 =>
    intro s rb hon
    exact ⟨_, rfl, if_pos hon⟩
  case cycle2 =>
    intro s rb by2 hon
    exact ⟨_, _, rfl, rfl, if_pos hon⟩
  case send =>
    intro s hon
    exact congrArg _ (if_pos hon)
  case off =>
    intro s rb by2 i h1
    refine ⟨if_neg (by simp [h1]), fun h2 => ⟨if_neg ?_, congrArg _ (if_neg ?_), if_neg ?_, congrArg _ (if_neg ?_)⟩⟩ <;>
      simp [h2]
  case receive2 =>
    intro s r hr hon hl
    simp only [exec, execCrossCheckReceive]
    simp [State.safChan, otherCh, hr, isChannel, hon, hl]
  case receive1 =>
    intro s r hr hon hl
    have tx : (s.safChan (otherCh 1)).tx = some r := hr
    refine ⟨_, rfl, fun h => ?_, fun v h => ?_⟩ <;>
      simp only [exec, execCrossCheckReceive, tx] <;> rw [if_pos ⟨rfl, hon, hl⟩, h] <;> rfl
  case noLink =>
    intro s ch hl
    simp only [exec, execCrossCheckReceive]
    cases (s.safChan (otherCh ch)).tx with
    | none => rfl
    | some r => exact if_neg (by simp [hl])
  case disagree =>
    intro s ⟨f, hf, he, hd⟩
    exact if_pos (List.any_eq_true.mpr ⟨f, hf, by simp [he, hd]⟩)
  case agree =>
    intro s h
    refine if_neg ?_
    simpa using h
  case silent =>
    intro s hon
    exact State.whenVamp_on _ hon
  case edge =>
    intro s i hon
    refine ⟨_, rfl, fun hi => ?_, fun lo hi hl hf => ?_, fun lo h => ?_⟩
    · exact (if_pos hon).trans (if_pos hi)
    · exact (if_pos hon).trans ((if_neg (Nat.not_lt_of_le lo)).trans (congrArg _ (if_pos (by simpa using ⟨⟨hi, hl⟩, hf⟩))))
    · refine (if_pos hon).trans ((if_neg (Nat.not_lt_of_le lo)).trans (congrArg _ (if_neg ?_)))
      rcases h with h | h
      · simp [Nat.not_le_of_lt h]
      · simp [h, State.setFld_links]
  case timeout =>
    intro s cause hon
    exact congrArg _ (if_pos hon)
  case drogue =>
    intro s ch hc hon
    exact congrArg _ (if_pos ⟨hc, hon⟩)
  case channelOff =>
    intro s ch hc hoff
    refine ⟨congrArg _ (if_neg ?_), if_neg ?_, if_neg ?_⟩ <;> simp [hoff]
  case mean1ms =>
    intro s ch hc hon
    refine ⟨_, _, _, _, _, _, _, rfl, rfl, rfl, rfl, rfl, rfl, rfl, fun hd hs => ?_, fun hd hz => ⟨_, rfl, fun hs => ?_⟩⟩
    · exact (execSafetyCurrentMean1ms_on hc hon rfl rfl rfl rfl rfl rfl rfl).trans
        (congrArg _ (State.endWaits_of_none hd hs))
    · exact (execSafetyCurrentMean1ms_on hc hon rfl rfl rfl rfl rfl rfl rfl).trans
        (congrArg _ (State.endWaits_of_drogue hd hz hs))
  case mean100ms =>
    intro s ch hc hon
    refine ⟨_, _, rfl, rfl, fun h => ?_, fun h => ?_⟩
    · exact (if_pos ⟨hc, hon⟩).trans (congrArg _ (if_neg h))
    · exact (if_pos ⟨hc, hon⟩).trans (congrArg _ (if_pos h))
  case slow =>
    intro s ch hc hs hn
    exact congrArg _ (if_pos ⟨hc, hs, hn⟩)
  case notSlow =>
    intro s ch h
    refine congrArg _ (if_neg ?_)
    rintro ⟨-, hs, hn⟩
    rcases h with h | h
    · simp [h] at hs
    · exact Nat.not_le_of_lt h hn
  case shunt =>
    intro s ch hc
    exact congrArg _ (if_pos hc)

/-! An event of the safety function may also start a summary write of the recorder. -/

/-- From s to t only an event and the start of a summary write lie. -/
structure Reports (s t : State) : Prop where
  saf : t.saf = s.saf
  mode : t.mode = s.mode
  supply : t.supply = s.supply
  rd : ∀ a, eventReg a = false → a ≠ Reg.REC_CTRL → t.rd a = s.rd a
  regs : Sparse.wf regReset s.regs = true → Sparse.wf regReset t.regs = true

theorem Eventful.reports {s t : State} (h : Eventful s t) : Reports s t :=
  ⟨h.saf, h.mode, h.supply, fun a e _ => h.rd a e, h.regs⟩

theorem Reports.refl (s : State) : Reports s s := (Eventful.refl s).reports

theorem Reports.trans {s t u : State} (h : Reports s t) (k : Reports t u) : Reports s u :=
  ⟨k.saf.trans h.saf, k.mode.trans h.mode, k.supply.trans h.supply, fun a e n => (k.rd a e n).trans (h.rd a e n),
    k.regs ∘ h.regs⟩

theorem Reports.ite {s t u : State} {c : Prop} {_ : Decidable c} (h : Reports s t) (k : Reports s u) :
    Reports s (if c then t else u) := by
  split
  · exact h
  · exact k

theorem Reports.bit {s t : State} (h : Reports s t) {a : Nat} (n : Nat) (e : eventReg a = false) (c : a ≠ Reg.REC_CTRL) :
    t.bit a n = s.bit a n := congrArg (getBit · n) (h.rd a e c)

theorem Reports.fld {s t : State} (h : Reports s t) {a : Nat} (hi lo : Nat) (e : eventReg a = false)
    (c : a ≠ Reg.REC_CTRL) : t.fld a hi lo = s.fld a hi lo := congrArg (getBits · hi lo) (h.rd a e c)

theorem State.persistDone_reports (s : State) (cause result : Nat) : Reports s (s.persistDone cause result) := by
  have ctrl : Reports s (s.setBit Reg.REC_CTRL 0 false) :=
    ⟨rfl, rfl, rfl, fun a _ n => s.rd_setBit_ne _ _ n, State.setBit_wf⟩
  have flagged (u : State) : Eventful u (u.flag Reg.REC_STAT Reg.REC_STAT_COUNT 0) :=
    Eventful.trans (Eventful.other (by decide) (by decide)) (Eventful.other (by decide) (by decide))
  exact (ctrl.trans (flagged _).reports).trans (State.strobe_eventful _ _ (by decide)).reports

theorem State.recCopy_eventful (s : State) (cause : Nat) : Eventful s (s.recCopy cause) :=
  (State.insoleStart_eventful s _).trans (Eventful.recorder _ _)

theorem State.recStart_eventful (s : State) (cause : Nat) : Eventful s (s.recStart cause) := by
  have begun (u : State) : Eventful u (u.setBit Reg.REC_STAT 9 true) := Eventful.other (by decide) (by decide)
  have page (u : State) (x : Recorder) : Eventful u ({ u with recorder := x } : State).recProgramPage :=
    (Eventful.recorder u x).trans (State.recProgramPage_eventful _)
  unfold State.recStart
  dsimp only
  split
  · exact (begun s).trans (page _ _)
  · exact ((begun s).trans (page _ _)).trans (State.recCopy_eventful _ _)

theorem State.recTrigger_reports (s : State) (cause : Nat) : Reports s (s.recTrigger cause) :=
  Reports.ite (State.persistDone_reports s _ _)
    (Reports.ite (Eventful.recorder s _).reports (State.recStart_eventful s cause).reports)

theorem State.recSafety_reports (s : State) : Reports s s.recSafety :=
  Reports.ite ((Eventful.recorder s _).reports.trans (State.recTrigger_reports _ _)) (Reports.refl s)

theorem State.safEvent_reports (s : State) {src : Nat} (detail : Nat) (h : src < 128) : Reports s (s.safEvent src detail) :=
  Reports.ite ((State.strobe_eventful s detail h).reports.trans (State.recSafety_reports _)) (Reports.refl s)

/-! Test pulses. -/

/-- The levels of Table 8.2 while a test pulses its switch. -/
theorem Pulse.levels_eq (p : Pulse) : p.levels = if decide (p.switch % 2 = 0) == p.closed then 0 else 10 := by
  unfold Pulse.levels
  split <;> cases p.closed <;> simp [pattern, *]

/-- The state in which a test has ended as passed, and as failed. -/
def State.pulsePassed (s : State) (p : Pulse) : State :=
  have s1 : State := { s with saf := { s.saf with pulse := none } }
  have f := s1.saf.pulseFail
  { s1.tpResult p.switch 1 with saf := { s1.saf with pulseFail := f - f / 2 ^ p.switch % 2 * 2 ^ p.switch } }

def State.pulseFailed (s : State) (p : Pulse) : State :=
  have s1 : State := { s with saf := { s.saf with pulse := none } }
  have s2 : State :=
    { s1.tpResult p.switch 2 with saf := { s1.saf with pulseFail := Nat.lor s1.saf.pulseFail (2 ^ p.switch) } }
  (s2.flag Reg.SAF_STAT Reg.SAF_STAT_COUNT 3).safEvent Src.SAF_TEST_PULSE (p.switch * 2 + 1)

theorem execTestPulseEnd_of_quiet {s : State} {p : Pulse} (a b : Nat) (h : s.saf.pulse = some p)
    (hb : p.broken = false) (h1 : s.holdsHazard 1 = false) (h2 : s.holdsHazard 2 = false) (hd : s.drogue = false) :
    exec (.testPulseEnd a b) s = if p.passes a b then
        .next ((s.pulsePassed p).unfind (if p.switch % 2 = 0 then 2 else 1) false 10 (16 + p.switch))
      else .next ((s.pulseFailed p).find (if p.switch % 2 = 0 then 2 else 1) false 10 (16 + p.switch) 0) := by
  unfold State.holdsHazard at h1 h2
  simp only [exec, execTestPulseEnd, h]
  refine (if_neg ?_).trans rfl
  simp [State.holdsHazard, hb, h1, h2, hd]

theorem State.pulsePassed_result {s : State} {p : Pulse} (w : Sparse.wf regReset s.regs = true) (h : p.switch < 8) :
    (s.pulsePassed p).fld Reg.SAF_TP_STAT (2 * p.switch + 1) (2 * p.switch) = 1 := by
  refine (State.fld_setFld (s := s) 1 w (by omega) (by omega)).trans ?_
  rw [show 2 * p.switch + 1 + 1 - 2 * p.switch = 2 by omega]
  rfl

theorem State.pulseFailed_result {s : State} {p : Pulse} (w : Sparse.wf regReset s.regs = true) (h : p.switch < 8) :
    (s.pulseFailed p).fld Reg.SAF_TP_STAT (2 * p.switch + 1) (2 * p.switch) = 2 ∧
      (s.pulseFailed p).bit Reg.SAF_STAT 3 = true ∧ (s.pulseFailed p).saf.pulse = none := by
  unfold State.pulseFailed
  have reported (u : State) := State.safEvent_reports u (src := Src.SAF_TEST_PULSE) (p.switch * 2 + 1) (by decide)
  dsimp only
  refine ⟨((reported _).fld _ _ (by decide) (by decide)).trans ?_, ((reported _).bit _ (by decide) (by decide)).trans ?_,
    (congrArg Saf.pulse (reported _).saf).trans rfl⟩
  · refine (State.fld_flag_other _ _ _ (by decide) (by decide)).trans
      ((State.fld_setFld (s := s) 2 w (by omega) (by omega)).trans ?_)
    rw [show 2 * p.switch + 1 + 1 - 2 * p.switch = 2 by omega]
    rfl
  · exact State.bit_flag (State.setFld_wf w) (by decide) (by decide)

theorem pattern_both (b : Bool) : pattern b b = if b then 8 else 5 := by
  cases b <;> rfl

/-- Settles O45. -/
theorem safetyTests : Obligations.SafetyTests := by
  unfold Obligations.SafetyTests
  refine ⟨?matching, ?mismatch, ?pulseStart, ?retry, ?noRetry, ?noPulse, ?broken, ?pulseEnd, ?noMirror, ?mirror,
    ?mirrorShunt, ?unmeasured, ?noCell, ?level, ?noDisc, ?disc, ?noAck, ?ackInput, ?ackWrite, ?ackOther, ?close, ?fire,
    ?crc1, ?crc2⟩
  case matching =>
    intro s ch n h
    exact if_neg (by simp [h])
  case mismatch =>
    intro s ch n hc h1 h4 hp hm
    have on : exec (.readbackMismatchTimeout ch n) s = _ := if_pos ⟨hc, h1, h4, hp, by simp [hm]⟩
    refine ⟨_, rfl, fun hh hl h => on.trans (if_pos ?_), fun hh hl h => on.trans ((if_neg ?_).trans (if_pos ?_)),
      fun h8 h1 => on.trans ((if_neg ?_).trans (if_neg ?_))⟩ <;> simp [*]
  case pulseStart =>
    intro s sw
    rfl
  case retry =>
    intro s sw h
    exact congrArg _ (if_pos h)
  case noRetry =>
    intro s sw h
    exact congrArg _ (if_neg h)
  case noPulse =>
    intro s a b h
    simp only [exec, execTestPulseEnd, h]
  case broken =>
    intro s p a b h hb
    simp only [exec, execTestPulseEnd, h]
    exact if_pos (by simp [hb])
  case pulseEnd =>
    intro s p ⟨w, _⟩ h hb h1 h2 hd hs
    have judged (a b : Nat) := execTestPulseEnd_of_quiet a b h hb h1 h2 hd
    have passes (a b : Nat) : p.passes a b = true ↔
        a = (if decide (p.switch % 2 = 0) == p.closed then 0 else 10) ∧ b = (if p.closed then 8 else 5) := by
      simp [Pulse.passes, p.levels_eq, pattern_both]
    obtain ⟨failed, flagged, ended⟩ := State.pulseFailed_result w hs
    refine ⟨_, _, s.pulsePassed p, s.pulseFailed p, rfl, rfl, (judged _ _).trans (if_pos ((passes _ _).mpr ⟨rfl, rfl⟩)),
      State.pulsePassed_result w hs, rfl, fun a b k => (judged a b).trans (if_neg ?_), failed, flagged, ended⟩
    rw [passes]
    tauto
  case noMirror =>
    intro s ch n h
    simp only [exec, execMirrorFeedbackTimeout, h]
  case mirror =>
    intro s ch n i hc h1 h3 hi
    refine ⟨_, rfl, fun ha => ?_, fun ha h => ?_, fun ha hn hcl ho => ?_⟩
    · simp only [exec, execMirrorFeedbackTimeout, hi]
      exact if_pos (by simp [ha])
    · simp only [exec, execMirrorFeedbackTimeout, hi]
      refine (if_neg ?_).trans ?_
      · simp [hc, Nat.not_lt_of_le h3, ha]
        omega
      · rcases h with rfl | h <;> simp [*]
    · simp only [exec, execMirrorFeedbackTimeout, hi, ho]
      refine (if_neg ?_).trans ?_
      · simp [hc, Nat.not_lt_of_le h3, ha]
        omega
      · simp [hcl, Nat.le_of_lt_succ hn]
  case mirrorShunt =>
    intro s i hi h1 h2 ch
    simp [State.mirrorAgrees, hi, State.commandedClosed, h1, h2]
  case unmeasured =>
    intro s cell hon h1 hn h
    refine (State.whenVamp_on _ hon).trans (congrArg _ (if_pos ⟨h1, hn, ?_⟩))
    simpa using h
  case noCell =>
    intro s cell h
    exact whenVamp_eq_self fun _ => congrArg _ (if_neg (by omega))
  case level =>
    intro s ch i l high hc hi hl
    exact ⟨_, _, rfl, rfl, if_pos ⟨hc, hi, hl⟩⟩
  case noDisc =>
    intro s ch i n h
    exact if_neg (by omega)
  case disc =>
    intro s ch i n hc hi hk hn hd
    refine ⟨_, if_pos ⟨hc, hi, hk, hn, hd⟩, ?_⟩
    by_cases h1 : ch = 1 <;> simp [State.safChan, State.setSafChan, h1]
  case noAck =>
    intro s ch i n h
    exact if_neg (by omega)
  case ackInput =>
    intro s ch i n hc hi ht hf h5 h200
    exact if_pos ⟨hc, hi, ht, hf, h5, h200⟩
  case ackWrite =>
    intro s hon
    have acked : exec (.safAckWrite 0x5AC3) s = .next (s.ackFrom 1) := State.whenVamp_on _ hon
    exact ⟨acked, fun hc hl => acked.trans (congrArg _ (if_pos (by simp [hc, hl])))⟩
  case ackOther =>
    intro s v h
    exact whenVamp_eq_self fun _ => congrArg _ (if_neg h)
  case close =>
    intro s v ⟨w, _⟩ hon
    refine ⟨_, State.whenVamp_on _ hon, ?_⟩
    have narrow : getBits v 2 0 % 8 = getBits v 2 0 := Nat.mod_eq_of_lt (getBits_lt v 2 0)
    unfold State.outReqClose State.setClose
    rw [narrow]
    refine ⟨?_, fun hl => ?_, fun hl => ?_⟩
    · refine (apply_ite (fun t : State => t.fld Reg.SAF_OUT_REQ 2 0) _ _ _).trans ((ite_self _).trans ?_)
      exact (State.fld_setFld _ w (by decide) (by decide)).trans narrow
    · exact congrArg (fun t : State => t.saf.req2) (if_pos hl)
    · exact (congrArg State.saf (if_neg (ne_true_of_eq_false hl))).trans (State.setFld_saf _ _ _ _ _)
  case fire =>
    intro s hon
    exact State.whenVamp_on _ hon
  case crc1 =>
    intro s crc hon
    exact ⟨_, rfl, fun h => (if_pos ⟨rfl, hon⟩).trans (if_pos h), fun h => (if_pos ⟨rfl, hon⟩).trans (if_neg h)⟩
  case crc2 =>
    intro s crc hon
    exact ⟨_, rfl, fun h => (if_pos ⟨rfl, hon⟩).trans (if_pos h), fun h => (if_pos ⟨rfl, hon⟩).trans (if_neg h)⟩

end Sys2Proof.Machine

/-! PROOFS. The Welt layer (O46). -/

namespace Sys2Proof.Machine

theorem getBit_one_succ (c : Nat) : getBit 1 (c + 1) = false := by
  have small : 1 / 2 ^ (c + 1) = 0 := Nat.div_eq_of_lt (Nat.one_lt_two_pow (Nat.succ_ne_zero c))
  simp [getBit, getBits, small]

/-- Nothing is re-armed where no bit is written. -/
theorem State.weltRearm_zero (s : State) : s.weltRearm 0 = s :=
  List.foldl_fixed' (fun c => if_neg (by rw [getBit_zero]; simp)) _

/-- The word 1 re-arms the first connection, if it has failed, and no other. -/
theorem State.weltRearm_one {s : State} (he : s.weltEnabled 0 = true) (hs : s.weltState 0 = 3) :
    s.weltRearm 1 = s.weltArming 0 1 := by
  have others (t : State) (c : Nat) :
      (if getBit 1 (c + 1) && t.weltEnabled (c + 1) && t.weltState (c + 1) == 3 then t.weltArming (c + 1) 1 else t) = t :=
    if_neg (by rw [getBit_one_succ]; simp)
  unfold State.weltRearm
  rw [List.range_succ_eq_map, List.foldl_cons, List.foldl_map, List.foldl_fixed' (others _)]
  exact if_pos (by rw [he, hs]; rfl)

/-- Settles O46. -/
theorem weltCommands : Obligations.WeltCommands := by
  unfold Obligations.WeltCommands
  refine ⟨?off, ?receive, ?armSend, ?arm, ?dataSend, ?watchdog, ?noWatchdog, ?owner, ?notFailed, ?rearm, ?rearmNone,
    ?rearmFirst, ?clear, ?noClear⟩
  case off =>
    intro s c p d fd h
    refine ⟨whenVamp_eq_self fun _ => if_pos ?_, whenVamp_eq_self fun _ => if_neg ?_,
      whenVamp_eq_self fun _ => if_neg ?_⟩ <;> simp [h]
  case receive =>
    intro s c p d fd hon hw
    have on (o : Host.Outcome State Fault Refusal) := State.whenVamp_on (s := s) o hon
    exact ⟨fun hc => (on _).trans ((if_neg (by simp [hw])).trans (if_pos hc)),
      fun hc => (on _).trans ((if_neg (by simp [hw])).trans (if_neg (Nat.not_lt_of_le hc)))⟩
  case armSend =>
    intro s c hon hw he hp hs
    refine ⟨_, ?_, (State.whenVamp_on _ hon).trans (if_pos (by simp [*]))⟩
    simp [bytesLE]
  case arm =>
    intro s c pdu hon
    exact ⟨_, rfl, State.whenVamp_on _ hon, State.whenVamp_on _ hon⟩
  case dataSend =>
    intro s c hon hw he hp hs
    exact ⟨_, _, rfl, (State.whenVamp_on _ hon).trans (if_pos (by simp [*]))⟩
  case watchdog =>
    intro s c hc he hp hs
    exact congrArg _ ((if_pos hc).trans (if_pos (by simp [*])))
  case noWatchdog =>
    intro s c hc hs
    exact congrArg _ ((if_pos hc).trans (if_neg (by simp [*])))
  case owner =>
    intro s hon
    exact congrArg _ (if_pos hon)
  case notFailed =>
    intro s c hs
    exact whenVamp_eq_self fun _ => congrArg _ (if_neg (by simp [hs]))
  case rearm =>
    intro s c hon he hb hs
    exact (State.whenVamp_on _ hon).trans (congrArg _ (if_pos (by simp [*])))
  case rearmNone =>
    intro s
    exact whenVamp_eq_self fun _ => congrArg _ s.weltRearm_zero
  case rearmFirst =>
    intro s hon he hs
    exact (State.whenVamp_on _ hon).trans (congrArg _ (State.weltRearm_one he hs))
  case clear =>
    intro s c hon hs
    exact (State.whenVamp_on _ hon).trans (congrArg _ (if_pos hs))
  case noClear =>
    intro s c hs
    exact whenVamp_eq_self fun _ => congrArg _ (if_neg hs)

end Sys2Proof.Machine

/-! PROOFS. Tasks, the program and its stations (O47, O48). -/

namespace Sys2Proof.Machine

theorem State.tasksRun_setFld_other (s : State) {a : Nat} (hi lo v : Nat) (h : Reg.PRG_STATE ≠ a) :
    (s.setFld a hi lo v).tasksRun = s.tasksRun := congrArg (· == 2) (State.fld_setFld_other _ _ _ _ _ h)

/-- A task runs on a core from now on. -/
def State.takesOver (core k : Nat) (s : State) : Host.Outcome State Fault Refusal :=
  .next ((s.setTaskState k 2).setCore core (some k))

/-- Settles O47. -/
theorem taskScheduling : Obligations.TaskScheduling := by
  unfold Obligations.TaskScheduling
  refine ⟨?unreleased, ?idle, ?stopped, ?overrun, ?noStart, ?start, ?noDeadline, ?deadline, ?noBalance, ?balance⟩
  case unreleased =>
    intro s k h
    refine whenVamp_eq_self fun _ => if_pos ?_
    rcases h with h | h | h <;> simp [h]
  case idle =>
    intro s k hon ht hk hc h0
    refine (State.whenVamp_on _ hon).trans ((if_neg (by simp [ht, Nat.not_le_of_lt hk, hc])).trans ?_)
    rw [h0]
    rfl
  case stopped =>
    intro s k h5
    refine whenVamp_eq_self fun _ => ?_
    rw [h5]
    exact ite_self _
  case overrun =>
    intro s k ⟨w, _⟩ hon ht hk hc h0 h5 hp
    refine ⟨(s.incFld (Reg.PRG_TASK_STAT k) 23 16).flag Reg.PRG_STAT Reg.PRG_STAT_COUNT0 5, (State.whenVamp_on _ hon).trans ((if_neg (by simp [ht, Nat.not_le_of_lt hk, hc])).trans ?_), ?_, rfl, ?_⟩
    · split
      · contradiction
      · contradiction
      · exact if_neg hp
    · exact State.bit_flag (State.incFld_wf w) (by decide) (by decide)
    · refine (State.fld_flag_other _ _ _ ?_ ?_).trans (State.fld_incFld w (by decide) (by decide)) <;>
        simp only [Reg.PRG_TASK_STAT, Reg.PRG_STAT, Reg.PRG_STAT_COUNT0] <;> omega
  case noStart =>
    intro s core h
    refine whenVamp_eq_self fun _ => ?_
    split
    · next hp hb =>
      refine if_pos ?_
      rcases h with h | h | h
      · simp [h]
      · simp [h] at hp
      · simp [h] at hb
    · rfl
  case start =>
    intro s core k p hon hp hb ht hc hk hh
    refine ⟨_, rfl, fun h => ?_, fun h => ?_⟩
    · simp only [exec, execTaskStart, State.whenVamp_on _ hon, hp, hb]
      refine (if_neg (by rw [ht, hh]; simp [hk, hc])).trans ?_
      exact congrArg (State.takesOver core k) (if_pos h)
    · simp only [exec, execTaskStart, State.whenVamp_on _ hon, hp, hb]
      refine (if_neg (by rw [ht, hh]; simp [hk, hc])).trans ?_
      exact congrArg (State.takesOver core k) (if_neg h)
  case noDeadline =>
    intro s k h
    refine whenVamp_eq_self fun _ => ?_
    split
    · rfl
    · next hp =>
      refine if_pos ?_
      rcases h with h | h | h
      · simp [h] at hp
      · simp [h]
      · simp [h]
  case deadline =>
    intro s k p hon hp ht hk
    obtain ⟨x, hx⟩ := Option.isSome_iff_exists.mp hk
    simp only [exec, execTaskDeadlineExpiry, State.whenVamp_on _ hon, hp]
    exact ⟨_, _, rfl, fun h => if_pos h, fun h => if_neg h, if_neg (by simp [hx, ht])⟩
  case noBalance =>
    intro s l h
    refine whenVamp_eq_self fun _ => ?_
    rw [h]
  case balance =>
    intro s l p _ hon hp ht
    simp only [exec, execTaskBalance, State.whenVamp_on _ hon, hp]
    refine ⟨_, if_pos ?_, rfl⟩
    simp +decide [State.tasksRun_setFld_other, ht]

/-! What the program's own state survives: events, replies, images, releases and bursts. -/

/-- From s to t the mode, the change in hand, the stations and PRG.STATE stand. -/
structure ProgramStands (s t : State) : Prop where
  mode : t.mode = s.mode
  drogue : t.drogue = s.drogue
  change : t.prg.change = s.prg.change
  stations : t.prg.stations = s.prg.stations
  state : t.rd Reg.PRG_STATE = s.rd Reg.PRG_STATE
  regs : Sparse.wf regReset s.regs = true → Sparse.wf regReset t.regs = true

theorem ProgramStands.refl (s : State) : ProgramStands s s := ⟨rfl, rfl, rfl, rfl, rfl, id⟩

theorem ProgramStands.trans {s t u : State} (h : ProgramStands s t) (k : ProgramStands t u) : ProgramStands s u :=
  ⟨k.mode.trans h.mode, k.drogue.trans h.drogue, k.change.trans h.change, k.stations.trans h.stations,
    k.state.trans h.state, k.regs ∘ h.regs⟩

theorem ProgramStands.ite {s a b : State} {c : Prop} {_ : Decidable c} (ha : ProgramStands s a) (hb : ProgramStands s b) :
    ProgramStands s (if c then a else b) := by
  split
  · exact ha
  · exact hb

theorem ProgramStands.foldl {α : Type} {f : State → α → State} (hf : ∀ t x, ProgramStands t (f t x)) (l : List α)
    (s : State) : ProgramStands s (l.foldl f s) := by
  induction l generalizing s with
  | nil => exact ProgramStands.refl s
  | cons x l ih => exact (hf s x).trans (ih (f s x))

theorem ProgramStands.wr (s : State) {a : Nat} (v : Word) (h : Reg.PRG_STATE ≠ a) : ProgramStands s (s.wr a v) :=
  ⟨rfl, rfl, rfl, rfl, s.rd_wr_ne v h, State.wr_wf⟩

theorem ProgramStands.setFld (s : State) {a : Nat} (hi lo v : Nat) (h : Reg.PRG_STATE ≠ a) :
    ProgramStands s (s.setFld a hi lo v) := ProgramStands.wr s _ h

theorem ProgramStands.setBit (s : State) {a : Nat} (b : Nat) (v : Bool) (h : Reg.PRG_STATE ≠ a) :
    ProgramStands s (s.setBit a b v) := ProgramStands.wr s _ h

theorem ProgramStands.flag (s : State) {a c : Nat} (b : Nat) (h : Reg.PRG_STATE ≠ a)
    (k : Reg.PRG_STATE ≠ c + 4 * (b / 4)) : ProgramStands s (s.flag a c b) :=
  (ProgramStands.wr s _ h).trans (ProgramStands.wr _ _ k)

theorem Eventful.programStands {s t : State} (h : Eventful s t) : ProgramStands s t :=
  ⟨h.mode, h.drogue, (congrArg Prg.change h.prg).trans rfl, (congrArg Prg.stations h.prg).trans rfl,
    h.rd _ (by decide), h.regs⟩

theorem ProgramStands.strobe (s : State) {src : Nat} (d : Nat) (h : src < 128) : ProgramStands s (s.strobe src d) :=
  (State.strobe_eventful s d h).programStands

theorem ProgramStands.fld {s t : State} (h : ProgramStands s t) (hi lo : Nat) :
    t.fld Reg.PRG_STATE hi lo = s.fld Reg.PRG_STATE hi lo := congrArg (getBits · hi lo) h.state

theorem ProgramStands.tasksRun {s t : State} (h : ProgramStands s t) : t.tasksRun = s.tasksRun :=
  congrArg (· == 2) (h.fld 2 0)

theorem Replies.programStands {s t : State} (h : Replies s t)
    (w : Sparse.wf regReset s.regs = true → Sparse.wf regReset t.regs = true) : ProgramStands s t := by
  obtain ⟨_, _, _, rfl, rd⟩ := h
  exact ⟨rfl, rfl, rfl, rfl, rd _ (by decide), w⟩

theorem State.complete_programStands (s : State) (op status : Nat) (body : Bytes) :
    ProgramStands s (s.complete op status body) :=
  (State.complete_replies s op status body).programStands (State.complete_keeps s op status body (Keeps.refl s)).regs

theorem State.putBytes_programStands (bs : Bytes) (s : State) (a : Nat) : ProgramStands s (s.putBytes a bs) := by
  obtain ⟨_, _, h⟩ := State.putBytes_writes bs s a
  rw [h]
  exact ⟨rfl, rfl, rfl, rfl, rfl, id⟩

/-! Images and tasks. -/

theorem State.setImage_programStands (s : State) (p : Program) (sym el : Nat) (v : Quad) :
    ProgramStands s (s.setImage p sym el v) := by
  unfold State.setImage
  split
  · exact ProgramStands.refl s
  · refine ProgramStands.trans ?_ (State.putBytes_programStands _ _ _)
    exact ⟨rfl, rfl, rfl, rfl, rfl, id⟩

theorem State.setSymbol_programStands (s : State) (p : Program) (sym : Nat) (y : Symbol) (f : Nat → Quad) :
    ProgramStands s (s.setSymbol p sym y f) :=
  ProgramStands.foldl (f := fun (t : State) el => t.setImage p sym el (f el))
    (fun t _ => State.setImage_programStands t _ _ _ _) _ s

theorem State.refreshInputs_programStands (s : State) (p : Program) : ProgramStands s (s.refreshInputs p) := by
  unfold State.refreshInputs
  exact ProgramStands.foldl (fun t _ => State.setSymbol_programStands t _ _ _ _) _ s

theorem State.publishValue_programStands (s : State) (p : Program) (sym el : Nat) (v : Quad) :
    ProgramStands s (s.publishValue p sym el v) := by
  have welt (t : State) (x) : ProgramStands t { t with prg := { t.prg with welt := x } } := ⟨rfl, rfl, rfl, rfl, rfl, id⟩
  unfold State.publishValue
  split
  · exact ProgramStands.refl s
  · split
    · exact ⟨rfl, rfl, rfl, rfl, rfl, id⟩
    · exact ProgramStands.ite ((State.setImage_programStands s _ _ _ _).trans (welt _ _))
        (State.setImage_programStands s _ _ _ _)

theorem State.outputsSafe_programStands (s : State) (p : Program) : ProgramStands s (s.outputsSafe p) := by
  unfold State.outputsSafe
  exact ProgramStands.foldl (fun t _ => State.publishValue_programStands t _ _ _ _) _ s

theorem taskStat_ne_state (k : Nat) : Reg.PRG_STATE ≠ Reg.PRG_TASK_STAT k := by
  simp only [Reg.PRG_STATE, Reg.PRG_TASK_STAT]
  omega

theorem State.setTaskState_programStands (s : State) (k v : Nat) : ProgramStands s (s.setTaskState k v) :=
  ProgramStands.setFld s _ _ _ (taskStat_ne_state k)

theorem State.setTask_programStands (s : State) (k : Nat) (t : TaskRt) : ProgramStands s (s.setTask k t) :=
  ⟨rfl, rfl, rfl, rfl, rfl, id⟩

theorem State.releaseEvent_programStands (s : State) (k : Nat) : ProgramStands s (s.releaseEvent k) := by
  have counted (u : State) : ProgramStands u (u.incFld (Reg.PRG_TASK_STAT k) 23 16) :=
    ProgramStands.wr u _ (taskStat_ne_state k)
  unfold State.releaseEvent
  dsimp only
  split
  · exact (State.setTaskState_programStands s k _).trans (State.setTask_programStands _ _ _)
  · exact ProgramStands.ite (counted s) (State.setTask_programStands s _ _)
  · exact ProgramStands.ite (counted s) (State.setTask_programStands s _ _)
  · exact ProgramStands.refl s
  · exact counted s

theorem State.errorRelease_programStands (s : State) (p : Program) (owner : Nat) :
    ProgramStands s (s.errorRelease p owner) := by
  unfold State.errorRelease
  split
  · exact ProgramStands.refl s
  · next e _ =>
    have waits (x) := (State.releaseEvent_programStands s e).trans (State.setTask_programStands _ owner x)
    exact ProgramStands.ite (ProgramStands.ite ((waits _).trans (State.setTaskState_programStands _ _ _)) (waits _))
      (ProgramStands.refl s)

theorem State.carryReleases_programStands (s : State) (l : List Nat) : ProgramStands s (s.carryReleases l) := by
  unfold State.carryReleases
  refine ProgramStands.foldl (fun t _ => ProgramStands.foldl (fun u k => ?_) _ t) l s
  exact ProgramStands.ite (State.releaseEvent_programStands u k) (ProgramStands.refl u)

/-! A burst that ends. -/

theorem State.completeAll_programStands (s : State) (ops : List Nat) (status : Nat) (body : Bytes) :
    ProgramStands s (s.completeAll ops status body) :=
  ProgramStands.foldl (fun t o => State.complete_programStands t o status body) ops s

theorem State.swp_programStands (s : State) (x : Swp) : ProgramStands s { s with swp := x } :=
  ⟨rfl, rfl, rfl, rfl, rfl, id⟩

theorem State.setBurstState_programStands (s : State) (st : Nat) : ProgramStands s (s.setBurstState st) :=
  (ProgramStands.setFld s (a := Reg.SWP_BURST_STAT) _ _ _ (by decide)).trans
    (ProgramStands.setBit _ (a := Reg.SWP_STAT) _ _ (by decide))

theorem State.deferBand_programStands (s : State) : ProgramStands s s.deferBand := by
  unfold State.deferBand
  split
  · exact State.setBurstState_programStands s 0
  · exact (ProgramStands.setFld s _ _ _ (by decide)).trans (State.setBurstState_programStands _ 1)

theorem State.nextBand_programStands (s : State) : ProgramStands s s.nextBand := by
  have taken (u : State) (b : Bool) : ProgramStands u (u.takeRequest b) :=
    (State.swp_programStands u _).trans (State.deferBand_programStands _)
  unfold State.nextBand
  refine (State.swp_programStands s { s.swp with bands := s.swp.bands.tail, burst := none }).trans ?_
  exact ProgramStands.ite (State.deferBand_programStands _) (ProgramStands.ite (taken _ true)
    (ProgramStands.ite (taken _ false) (State.setBurstState_programStands _ 0)))

theorem State.fullRateFor_programStands (s : State) (cause : Nat) : ProgramStands s (s.fullRateFor cause) := by
  have rate : ProgramStands s (s.setRate 0 cause) := by
    unfold State.setRate
    refine ProgramStands.ite (ProgramStands.refl s) ?_
    refine ProgramStands.trans (ProgramStands.trans ?_ (State.swp_programStands _ _)) (ProgramStands.strobe _ _ (by decide))
    exact ((ProgramStands.setFld s _ _ _ (by decide)).trans (ProgramStands.setFld _ _ _ _ (by decide))).trans
      (ProgramStands.setBit _ _ _ (by decide))
  unfold State.fullRateFor State.rebaseGrid
  exact ProgramStands.ite (ProgramStands.refl s) (rate.trans (State.swp_programStands _ _))

theorem State.pertOff_programStands (s : State) : ProgramStands s s.pertOff := by
  have off : ProgramStands s (s.setBit Reg.PCS_PERT_CTRL 0 false) := ProgramStands.setBit s _ _ (by decide)
  unfold State.pertOff
  exact ProgramStands.ite (off.trans (ProgramStands.setFld _ _ _ _ (by decide))) off

theorem State.burstEnd_programStands (s : State) (result reason : Nat) : ProgramStands s (s.burstEnd result reason) := by
  have cleared (u : State) (b : Nat) (c : Prop) {_ : Decidable c} :
      ProgramStands u (if c then u.setBit Reg.SWP_CTRL b false else u) :=
    ProgramStands.ite (ProgramStands.setBit u _ _ (by decide)) (ProgramStands.refl u)
  have rate : ProgramStands s (if s.burstRuns then s.fullRateFor 3 else s) :=
    ProgramStands.ite (State.fullRateFor_programStands s 3) (ProgramStands.refl s)
  have off := (rate.trans (State.swp_programStands _ { (if s.burstRuns then s.fullRateFor 3 else s).swp with lowMs := 0 })).trans
    (State.pertOff_programStands _)
  unfold State.burstEnd
  dsimp only
  refine ProgramStands.trans ?_ (State.nextBand_programStands _)
  refine ProgramStands.trans ?_ (State.completeAll_programStands _ _ _ _)
  refine ProgramStands.trans ?_ (State.swp_programStands _ _)
  refine ProgramStands.trans ?_ (ProgramStands.strobe _ _ (by decide))
  refine ProgramStands.trans (ProgramStands.trans ?_ (cleared _ 0 _)) (cleared _ 1 _)
  refine ProgramStands.trans (ProgramStands.trans ?_ (ProgramStands.flag _ _ (by decide) ?_))
    (ProgramStands.setBit _ _ _ (by decide))
  · split
    · exact off.trans (State.putBytes_programStands _ _ _)
    · exact off
  · split_ifs <;> decide

theorem State.burstAbort_programStands (s : State) (reason : Nat) : ProgramStands s (s.burstAbort reason) :=
  ProgramStands.ite (State.burstEnd_programStands s 1 reason) (ProgramStands.refl s)

/-! A program that stops. -/

theorem State.wrs_wf {α : Type} (reg : α → Nat) (v : α → Word) (l : List α) {s : State}
    (w : Sparse.wf regReset s.regs = true) :
    Sparse.wf regReset (l.foldl (fun (t : State) x => t.wr (reg x) (v x)) s).regs = true := by
  induction l generalizing s with
  | nil => exact w
  | cons x l ih => exact ih (State.wr_wf w)

/-- From s to t the tasks of a program stop; mode and change stand. -/
structure Stops (s t : State) : Prop where
  mode : t.mode = s.mode
  drogue : t.drogue = s.drogue
  change : t.prg.change = s.prg.change
  tasksRun : Sparse.wf regReset s.regs = true → t.tasksRun = false

theorem State.stopTasks_stops (s : State) (p : Program) : Stops s (s.stopTasks p) := by
  have tasks (t : State) (x : Nat × TaskDef) : ProgramStands t ((t.setTask x.1 { t.task x.1 with
      ctx := none, timer := none, pending := false, waits := none }).setTaskState x.1 5) :=
    (State.setTask_programStands t _ _).trans (State.setTaskState_programStands _ _ _)
  have cores (t : State) : ProgramStands t { t with prg := { t.prg with core0 := none, core1 := none } } :=
    ⟨rfl, rfl, rfl, rfl, rfl, id⟩
  have safe := ((ProgramStands.foldl tasks p.tasks s).trans (cores _)).trans (State.outputsSafe_programStands _ p)
  have xin {β : Type} (g : State → β) (h : ∀ (t : State) r v, g (t.wr r v) = g t) (t : State) :
      g (p.xinSafe.foldl (fun (t : State) (x : Nat × Word) => t.wr (Reg.CTL_XIN x.1) x.2) t) = g t :=
    foldl_leaves g (fun t x => h t _ _) p.xinSafe t
  unfold State.stopTasks
  refine ⟨(xin State.mode (fun _ _ _ => rfl) _).trans safe.mode, (xin State.drogue (fun _ _ _ => rfl) _).trans safe.drogue,
    (xin (fun t => t.prg.change) (fun _ _ _ => rfl) _).trans safe.change, fun w => ?_⟩
  exact congrArg (· == 2) (State.fld_setFld 1 (State.wr_wf (State.wrs_wf _ _ p.xinSafe (safe.regs w))) (by decide) (by decide))

theorem State.stopProgram_stops {s : State} {p : Program} (hp : s.program = some p) : Stops s s.stopProgram := by
  unfold State.stopProgram
  rw [hp]
  exact State.stopTasks_stops s p

theorem State.stopProgram_mode (s : State) : s.stopProgram.mode = s.mode ∧ s.stopProgram.drogue = s.drogue ∧
    s.stopProgram.prg.change = s.prg.change := by
  unfold State.stopProgram
  split
  · exact ⟨rfl, rfl, rfl⟩
  · next p _ => exact ⟨(State.stopTasks_stops s p).mode, (State.stopTasks_stops s p).drogue, (State.stopTasks_stops s p).change⟩

theorem State.setMode_programStands (s : State) (m : Mode) (d : Bool) :
    ProgramStands { s with mode := m, drogue := d } (s.setMode m d) := ProgramStands.strobe _ _ (by decide)

theorem State.haltTasks_of_run {s : State} (h : s.mode = .run) :
    ProgramStands { s.stopProgram with mode := .stop, drogue := s.drogue } s.haltTasks := by
  unfold State.haltTasks
  rw [if_pos h]
  exact (State.setMode_programStands _ _ _).trans (State.burstAbort_programStands _ 1)

theorem State.changeBoundary_of_none {s : State} (h : s.prg.change = none) : s.changeBoundary = s := by
  unfold State.changeBoundary
  rw [h]

theorem State.reachRun_drogue (s : State) : s.reachRun.drogue = s.drogue := by
  unfold State.reachRun
  dsimp only
  split
  · rfl
  · exact (State.insoleStart_eventful _ _).drogue

/-! A change of the program. -/

theorem State.insoleStart_programStands (s : State) (op : InsoleOp) : ProgramStands s (s.insoleStart op) :=
  (State.insoleStart_eventful s op).programStands

theorem State.persistTrigger_programStands (s : State) : ProgramStands s s.persistTrigger := by
  unfold State.persistTrigger
  split
  · exact ProgramStands.refl s
  · refine ProgramStands.ite ⟨rfl, rfl, rfl, rfl, rfl, id⟩ ?_
    unfold State.persistStart
    refine ProgramStands.trans ?_ (State.putBytes_programStands _ _ _)
    have started := State.insoleStart_programStands s .persist
    exact ⟨started.mode, started.drogue, rfl, rfl, started.state, started.regs⟩

theorem State.rewriteAllocMap_programStands (s : State) : ProgramStands s s.rewriteAllocMap := by
  unfold State.rewriteAllocMap
  refine ProgramStands.trans (ProgramStands.trans (ProgramStands.trans ?_ (State.putBytes_programStands _ _ _))
    (ProgramStands.setFld _ _ _ _ (by decide))) (ProgramStands.setFld _ _ _ _ (by decide))
  exact ProgramStands.wr s _ (by decide)

theorem State.storeDevice_programStands (s : State) : ProgramStands s s.storeDevice := by
  have started := State.insoleStart_programStands s .config
  exact ⟨started.mode, started.drogue, started.change, started.stations, started.state, started.regs⟩

/-- What a refusal leaves before it answers the operation that asked for the change. -/
theorem State.refuseChange_answers (s : State) (reason : Nat) : ∃ t : State,
    ProgramStands t (s.refuseChange reason none) ∧ t.prg.change = none ∧
      (s.cmd.changeOp = none → Sparse.wf regReset s.regs = true → (s.refuseChange reason none).bit Reg.PRG_STAT 2 = true) := by
  unfold State.refuseChange
  extract_lets d s0 _ _ s1 s2 s3
  refine ⟨s3, ?_, ?_, fun h w => ?_⟩
  · split
    · exact ProgramStands.refl _
    · exact State.complete_programStands _ _ _ _
  · exact (ProgramStands.strobe _ _ (by decide)).change
  · rw [h]
    refine (State.strobe_bit _ _ _ (by decide) (by decide)).trans (State.bit_flag ?_ (by decide) (by decide))
    exact State.wr_wf (State.setBit_wf (State.setFld_wf w))

theorem State.refuseChange_change (s : State) (reason : Nat) : (s.refuseChange reason none).prg.change = none := by
  obtain ⟨t, stands, none, -⟩ := s.refuseChange_answers reason
  exact stands.change.trans none

theorem State.switchProgram_change (s : State) (old new : Program) (c : Change) :
    (s.switchProgram old new c).prg.change = none := by
  unfold State.switchProgram
  extract_lets runs base toB s0 s1 kept s2 _ _ _ _ s3 s4 s5 ticks s6 s7 s8
  have h4 : ProgramStands s3 s4 := ProgramStands.foldl (fun t k => State.setTaskState_programStands t _ _) _ _
  have h5 : ProgramStands s4 s5 := (ProgramStands.ite (State.carryReleases_programStands _ _)
    (State.outputsSafe_programStands _ _)).trans (State.refreshInputs_programStands _ _)
  have h6 : s6.prg.change = s5.prg.change :=
    (State.storeDevice_programStands s5.drawn.rewriteAllocMap).change.trans (State.rewriteAllocMap_programStands s5.drawn).change
  have h8 : s8.prg.change = s7.prg.change :=
    (State.persistTrigger_programStands _).change.trans (ProgramStands.strobe s7 _ (by decide)).change
  have changed : s8.prg.change = none := h8.trans (h6.trans (h5.change.trans (h4.change.trans rfl)))
  split
  · exact changed
  · exact (State.complete_programStands _ _ _ _).change.trans changed

/-! Stations. -/

/-- A value other than the default reads back, in canonical form or not. -/
theorem Sparse.get_set_of_ne {α : Type} [DecidableEq α] {dflt : Nat → α} {k : Nat} {v : α} (h : v ≠ dflt k) :
    ∀ l : List (Nat × α), Sparse.get dflt (Sparse.set dflt l k v) k = v
  | [] => by simp [Sparse.set, Sparse.get, h]
  | (j, w) :: rest => by
    unfold Sparse.set
    rw [if_neg h, if_neg h]
    split_ifs with below same
    · simp [Sparse.get]
    · simp [Sparse.get]
    · rw [Sparse.get, if_neg (Ne.symm same)]
      exact Sparse.get_set_of_ne h rest

theorem State.station_setStation (s : State) (u : Nat) {v : Station} (h : v ≠ {}) : (s.setStation u v).station u = v :=
  Sparse.get_set_of_ne (dflt := fun _ => ({} : Station)) h _

theorem ProgramStands.station {s t : State} (h : ProgramStands s t) (u : Nat) : t.station u = s.station u :=
  congrArg (fun l : List (Nat × Station) => tget ({} : Station) l u) h.stations

theorem State.showAbsent_programStands (s : State) (u : Nat) (v : Bool) : ProgramStands s (s.showAbsent u v) :=
  ProgramStands.setBit s _ _ (by split <;> decide)

theorem State.stationGood_station {s : State} {u : Nat} {f : Bytes} (p : Program) (n : Nat) (h : fieldLE f 1 1 % 2 = 1) :
    ((s.stationGood p u f n).station u).awaiting = false ∧ ((s.stationGood p u f n).station u).misses = 0 ∧
      ((s.station u).present = true → ((s.stationGood p u f n).station u).inputs = slice f 2 n) := by
  have shown (v : Station) (e : v.status = fieldLE f 1 1) : v ≠ {} := by
    rintro rfl
    rw [← e] at h
    cases h
  have taken (v : Station) (e : v.status = fieldLE f 1 1) := State.station_setStation s u (shown v e)
  have refreshed (t : State) := (State.refreshInputs_programStands t p).station u
  unfold State.stationGood
  dsimp only
  split_ifs with here third
  · rw [refreshed, taken _ rfl]
    exact ⟨rfl, rfl, fun _ => rfl⟩
  · rw [refreshed, (ProgramStands.strobe _ _ (by decide)).station, (State.showAbsent_programStands _ _ _).station,
      taken _ rfl]
    exact ⟨rfl, rfl, fun k => absurd k here⟩
  · rw [taken _ rfl]
    exact ⟨rfl, rfl, fun k => absurd k here⟩

theorem State.stationAbsent_station {s : State} (p : Program) (u : Nat) (d : StationDef) (cause : Nat) :
    ((s.stationAbsent p u d cause).station u).present = false := by
  unfold State.stationAbsent
  dsimp only
  split_ifs with here
  · simpa using here
  · rw [(State.errorRelease_programStands _ _ _).station, (State.refreshInputs_programStands _ _).station,
      (ProgramStands.strobe _ _ (by decide)).station, (ProgramStands.flag _ _ (by decide) (by decide)).station,
      (State.showAbsent_programStands _ _ _).station, State.station_setStation _ _ (by simp)]

theorem stationDef_bind {s : State} {u : Nat} {p : Program} {d : StationDef} (hp : s.program = some p)
    (hd : stationDef p u = some d) : s.program.bind (fun p => (stationDef p u).map (fun d => (p, d))) = some (p, d) := by
  simp [hp, hd]

/-- What a station's exchange sends: SEQ, flags and, where the station is present, its outputs. -/
def State.exchangeData (s : State) (p : Program) (u : Nat) (d : StationDef) : Bytes :=
  bytesLE 1 (((s.station u).seq + 1) % 256) ++
    bytesLE 1 ((if (s.station u).present = true then 1 else 2) + (if s.tasksRun = true then 0 else 4)) ++
    (if (s.station u).present = true then s.stationOutputs p u d else [])

theorem execStationExchangeSend_of_runs {s : State} {u : Nat} {p : Program} {d : StationDef} (hon : s.vampOn = true)
    (hp : s.program = some p) (hd : stationDef p u = some d) (hr : s.stationsRun = true)
    (hs : (s.station u).disabled = false) : exec (.stationExchangeSend u) s =
      .next ((s.setStation u { s.station u with
        seq := ((s.station u).seq + 1) % 256, awaiting := true, probing := !(s.station u).present }).stationSend d
          (s.exchangeData p u d)) := by
  refine (State.whenVamp_on _ hon).trans ?_
  rw [stationDef_bind hp hd]
  refine (if_neg (by simp [hr, hs])).trans ?_
  unfold State.exchangeData
  by_cases present : (s.station u).present = true
  · simp only [if_pos present]
  · simp only [if_neg present, List.append_nil]

/-- A change asked for waits for a cycle's boundary. -/
def State.changeWaits (s : State) (old new : Program) : State :=
  have c : Change := { x := changeCost old new, dropForces := s.bit Reg.PRG_CHANGE_OPT 0 }
  (({ s with prg := { s.prg with change := some c } } : State).setFld Reg.PRG_STATE 9 8 2).setBit Reg.PRG_CTRL 2 true

theorem State.changeWaits_tasksRun (s : State) (old new : Program) (w : Sparse.wf regReset s.regs = true) :
    (s.changeWaits old new).tasksRun = s.tasksRun :=
  congrArg (· == 2) ((State.fld_setBit_other _ _ _ _ (by decide)).trans
    (State.fld_setFld_ne (s := s) 2 w (by decide) (by decide) (by decide)))

/-- Settles O48. -/
theorem programAndStations : Obligations.ProgramAndStations := by
  unfold Obligations.ProgramAndStations
  refine ⟨?run, ?noRun, ?stop, ?stopRuns, ?pending, ?refused, ?change, ?abort, ?noChange, ?switched, ?deferred, ?noProgram,
    ?send, ?receive, ?missed⟩
  case run =>
    intro s hon hr
    refine ⟨_, (State.whenVamp_on _ hon).trans (congrArg _ (if_pos hr)), rfl, ?_, ?_⟩
    · refine (State.reachRun_modeStands _).mode.trans ?_
      unfold State.runTasks
      rw [if_pos hr]
      exact (State.setMode_programStands _ _ _).mode
    · refine (State.reachRun_drogue _).trans ?_
      unfold State.runTasks
      rw [if_pos hr]
      exact (State.setMode_programStands _ _ _).drogue
  case noRun =>
    intro s h
    exact whenVamp_eq_self fun _ => congrArg _ (if_neg (by simp [h]))
  case stop =>
    intro s hon
    exact State.whenVamp_on _ hon
  case stopRuns =>
    intro s ⟨w, _⟩ hon hm hc
    obtain ⟨-, -, change⟩ := s.stopProgram_mode
    have halted := State.haltTasks_of_run hm
    have stays : s.haltTasks.changeBoundary = s.haltTasks :=
      State.changeBoundary_of_none (halted.change.trans (change.trans hc))
    refine ⟨_, (State.whenVamp_on _ hon).trans (congrArg _ stays), halted.mode, halted.drogue, fun p hp => ?_⟩
    exact halted.tasksRun.trans ((State.stopProgram_stops hp).tasksRun w)
  case pending =>
    intro s h
    exact whenVamp_eq_self fun _ => congrArg _ (if_pos h)
  case refused =>
    intro s hon hc hr hs
    exact (State.whenVamp_on _ hon).trans (congrArg _ ((if_neg (by simp [hc])).trans (if_pos ⟨hr, hs⟩)))
  case change =>
    intro s old new drop ⟨w, _⟩ hon hc hm ho hn hb hd hk hx ht
    subst hd
    have requested : s.requestChange (s.bit Reg.PRG_CHANGE_OPT 0) = s.changeWaits old new := by
      unfold State.requestChange
      rw [if_neg (by simp [hc]), if_neg (by simp [hm])]
      simp only [ho, hn, hb, hk, Bool.not_true, Bool.false_eq_true, if_false, if_neg (Nat.not_lt_of_le hx)]
      exact if_pos ((s.changeWaits_tasksRun old new w).trans ht)
    refine ⟨_, (State.whenVamp_on _ hon).trans (congrArg _ requested), rfl, ?_, ?_,
      (s.changeWaits_tasksRun old new w).trans ht⟩
    · exact (State.fld_setBit_other _ _ _ _ (by decide)).trans (State.fld_setFld 2 w (by decide) (by decide))
    · exact State.bit_setBit _ (State.setFld_wf w) (by decide)
  case abort =>
    intro s ⟨w, _⟩ hon hc
    obtain ⟨t, stands, changed, flagged⟩ := s.refuseChange_answers 7
    exact ⟨_, (State.whenVamp_on _ hon).trans (congrArg _ (if_pos hc)), rfl, stands.change.trans changed,
      fun h => flagged h w⟩
  case noChange =>
    intro s h
    exact ⟨whenVamp_eq_self fun _ => congrArg _ (if_neg (by simp [h])),
      whenVamp_eq_self fun _ => congrArg _ (State.changeBoundary_of_none h)⟩
  case switched =>
    intro s c old new hon hc ho hn ht
    refine ⟨_, (State.whenVamp_on _ hon).trans (congrArg _ ?_), rfl, State.switchProgram_change s old new c⟩
    simp only [State.changeBoundary, hc, ho, hn]
    refine if_neg ?_
    rcases ht with ht | ht
    · simp [ht]
    · simp only [Bool.and_eq_true, List.any_eq_true, List.mem_range]
      rintro ⟨-, k, hk, some⟩
      simp [ht k hk] at some
  case deferred =>
    intro s c old new k hon hc ho hn ht hk ctx
    have waits : (s.tasksRun && (List.range 48).any (fun k => (s.task k).ctx.isSome)) = true := by
      rw [ht, Bool.true_and, List.any_eq_true]
      exact ⟨k, List.mem_range.mpr hk, ctx⟩
    refine ⟨_, rfl, fun h => ?_, fun h => ?_⟩ <;> refine (State.whenVamp_on _ hon).trans (congrArg _ ?_) <;>
      simp only [State.changeBoundary, hc, ho, hn] <;> rw [if_pos waits]
    · exact if_neg (by omega)
    · exact if_pos (by omega)
  case noProgram =>
    intro s u f h
    refine ⟨whenVamp_eq_self fun _ => ?_, whenVamp_eq_self fun _ => ?_, whenVamp_eq_self fun _ => congrArg _ ?_⟩
    · rw [h]
      rfl
    · rw [h]
      rfl
    · unfold State.stationInput
      rw [h]
      rfl
  case send =>
    intro s u p d hp hd
    refine ⟨fun h => whenVamp_eq_self fun _ => ?_, fun hon hr hs => ⟨_, _, _, _, rfl, rfl, rfl, rfl, ?_, fun hcar => ?_⟩⟩
    · rw [stationDef_bind hp hd]
      refine if_pos ?_
      rcases h with h | h <;> simp [h]
    · exact execStationExchangeSend_of_runs hon hp hd hr hs
    · exact (execStationExchangeSend_of_runs hon hp hd hr hs).trans (congrArg _ (if_neg (Nat.not_le_of_lt hcar)))
  case receive =>
    intro s u p d f hp hd
    refine ⟨fun hon hg => ⟨_, (State.whenVamp_on _ hon).trans (congrArg _ ?_), rfl, ?_⟩,
      fun h => whenVamp_eq_self fun _ => congrArg _ ?_⟩
    · unfold State.stationInput
      rw [stationDef_bind hp hd]
      exact if_pos hg
    · have odd : fieldLE f 1 1 % 2 = 1 := by
        simp only [State.stationFrameGood, Bool.and_eq_true, beq_iff_eq] at hg
        exact hg.2
      exact State.stationGood_station p d.inLen odd
    · unfold State.stationInput
      rw [stationDef_bind hp hd]
      exact if_neg (by simp [h])
  case missed =>
    intro s u p d hp hd
    have bound := stationDef_bind hp hd
    refine ⟨fun h => whenVamp_eq_self fun _ => ?_, fun hon ha hpr => ⟨fun hm => ⟨_, ?_, rfl, State.stationAbsent_station p u d 0⟩,
      fun hm => ?_⟩, fun hon ha hpr => ?_⟩
    · rw [bound]
      exact if_pos (by simp [h])
    all_goals
      refine (State.whenVamp_on _ hon).trans ?_
      rw [bound]
    · exact (if_neg (by simp [ha])).trans ((if_neg (by simp [hpr])).trans (if_pos hm))
    · exact (if_neg (by simp [ha])).trans ((if_neg (by simp [hpr])).trans (if_neg (Nat.not_le_of_lt hm)))
    · exact (if_neg (by simp [ha])).trans (if_pos (by simp [hpr]))

end Sys2Proof.Machine

/-! PROOFS. The Bavin instructions: what an instruction does whose code stands at the position of its task (O49, O50). -/

namespace Sys2Proof.Machine

/-! An instruction whose code stands at the task's position executes. -/

section
variable {s : State} {core k n : Nat} {c : TaskCtx} {bs : Bytes} {code : Option Bytes}
  (h : s.standsAt core k c bs) (hc : code = some bs) (hn : bs.length = n)
include h hc hn

theorem State.fetched_of_stands : s.fetched core code = some (k, { c with pc := c.pc + n }, c.pc) := by
  obtain ⟨cycle, on, runs, halted, best, p, program, here⟩ := h
  subst hc hn
  simp only [State.fetched, cycle, program]
  exact if_pos (by simp only [on, runs, halted, best, here, Bool.not_false, Bool.and_self])

theorem State.bavin_of_stands {f : TaskCtx → Option TaskCtx} {d : TaskCtx} (hf : f { c with pc := c.pc + n } = some d) :
    s.bavin core code f = .next (s.setCtx k d) := by
  simp only [State.bavin, State.fetched_of_stands h hc hn, hf]

theorem State.bavinDo_of_stands {f : Nat → Nat → TaskCtx → Option (TaskCtx × (State → State))} {d : TaskCtx}
    {g : State → State} (hf : f k c.pc { c with pc := c.pc + n } = some (d, g)) :
    s.bavinDo core code f = .next (g (s.setCtx k d)) := by
  simp only [State.bavinDo, State.fetched_of_stands h hc hn, hf]

theorem State.bavin_pushed {v : Quad} {f : TaskCtx → Option TaskCtx}
    (hf : f { c with pc := c.pc + n } = some (({ c with pc := c.pc + n } : TaskCtx).push v)) :
    s.bavin core code f = .next (s.went k c n (v :: c.stack)) :=
  State.bavin_of_stands h hc hn hf

theorem State.bavin_push (v : TaskCtx → Quad) :
    s.bavin core code (fun c => some (c.push (v c))) =
      .next (s.went k c n (v { c with pc := c.pc + n } :: c.stack)) :=
  State.bavin_of_stands h hc hn rfl

theorem State.bavin_popped {f : Quad → TaskCtx → Option TaskCtx} {a : Quad} {st : List Quad} {d : TaskCtx}
    (hs : c.stack = a :: st) (hf : f a { c with pc := c.pc + n, stack := st } = some d) :
    s.bavin core code (popped f) = .next (s.setCtx k d) :=
  State.bavin_of_stands h hc hn (by simp only [popped, hs, hf])

theorem State.bavin_unary {f : Quad → Quad} {a : Quad} {st : List Quad} (hs : c.stack = a :: st) :
    s.bavin core code (unary f) = .next (s.went k c n (f a :: st)) :=
  State.bavin_of_stands h hc hn (by simp only [unary, hs])

theorem State.bavin_binary {f : Quad → Quad → Quad} {a b : Quad} {st : List Quad} (hs : c.stack = b :: a :: st) :
    s.bavin core code (binary f) = .next (s.went k c n (f a b :: st)) :=
  State.bavin_of_stands h hc hn (by simp only [binary, hs])

theorem State.bavin_ternary {f : Quad → Quad → Quad → Quad} {x y z : Quad} {st : List Quad}
    (hs : c.stack = z :: y :: x :: st) : s.bavin core code (ternary f) = .next (s.went k c n (f x y z :: st)) :=
  State.bavin_of_stands h hc hn (by simp only [ternary, hs])

end

section
variable {s : State} {core : Nat} {code : Option Bytes} (h : s.fetched core code = none)
include h

theorem State.bavin_of_unfetched (f : TaskCtx → Option TaskCtx) : s.bavin core code f = .next s := by
  simp only [State.bavin, h]

theorem State.bavinDo_of_unfetched (f : Nat → Nat → TaskCtx → Option (TaskCtx × (State → State))) :
    s.bavinDo core code f = .next s := by
  simp only [State.bavinDo, h]

end

theorem typedCode_some {base lo hi t : Nat} (h1 : lo ≤ t) (h2 : t ≤ hi) :
    typedCode base lo hi t = some (bytesLE 1 (base + t)) := if_pos ⟨h1, h2⟩

theorem byteCode_some {op : Bytes} {lo hi n : Nat} (h1 : lo ≤ n) (h2 : n ≤ hi) :
    byteCode op lo hi n = some (op ++ bytesLE 1 n) := if_pos ⟨h1, h2⟩

theorem symbolCode_some {base t : Nat} (y : Nat) (h : t ≤ 6) :
    symbolCode base t y = some (bytesLE 1 (base + t) ++ bytesLE 2 y) := by
  rw [symbolCode, typedCode_some (Nat.zero_le t) h, Option.map_some]

theorem literalCode_some {t : Nat} (v : Nat) (h : t ≤ 6) :
    literalCode t v = some (bytesLE 1 (0x08 + t) ++ bytesLE (typeSize t) v) := by
  rw [literalCode, typedCode_some (Nat.zero_le t) h, Option.map_some]

theorem wordCode_some {op : Bytes} {n : Nat} (h : n < 0x10000) : wordCode op n = some (op ++ bytesLE 2 n) := if_pos h

theorem jumpCode_some {op : Byte} {j : Int} (h1 : -0x8000 ≤ j) (h2 : j < 0x8000) :
    jumpCode op j = some (op :: bytesLE 2 (wrapInt 16 j)) := if_pos ⟨h1, h2⟩

/-- Settles O49. -/
theorem bavinStackAndControl : Obligations.BavinStackAndControl := by
  unfold Obligations.BavinStackAndControl
  intro s core k c
  refine ⟨?noCycle, ?nop, ?one, ?two, ?three, ?pick, ?lit, ?load, ?loadx, ?storex, ?jmp, ?call, ?ret, ?endCycle,
    ?freeSlot, ?slot⟩
  case noCycle =>
    intro t n slot h
    have none (code : Option Bytes) : s.fetched core code = none := by
      unfold State.fetched
      rw [h]
      cases code <;> rfl
    refine ⟨State.bavin_of_unfetched (none (some [0x00])) some, State.bavin_of_unfetched (none _) (fun c => some (c.push _)),
      State.bavinDo_of_unfetched (none (byteCode [0xE1] 0 255 slot)) _, ?_⟩
    simp only [exec, execBavinEnd, none]
  case nop =>
    intro h
    exact State.bavin_of_stands h rfl rfl rfl
  case one =>
    intro a st hs
    refine ⟨fun h => ?_, fun h => ?_, fun t y ht h => ?_, fun n hn h => ?_, fun j lo hi => ⟨fun h => ?_, fun h => ?_⟩⟩
    · exact State.bavin_popped h rfl rfl hs rfl
    · exact State.bavin_popped h rfl rfl hs rfl
    · exact State.bavin_popped h (symbolCode_some y ht) rfl hs rfl
    · exact State.bavin_popped h (byteCode_some (Nat.zero_le n) hn) rfl hs rfl
    · exact State.bavin_popped h (jumpCode_some lo hi) rfl hs rfl
    · exact State.bavin_popped h (jumpCode_some lo hi) rfl hs rfl
  case two =>
    intro a b st hs
    refine ⟨fun h => ?_, fun h => ?_⟩
    · exact State.bavin_of_stands (n := 1) h rfl rfl (by simp only [hs])
    · exact State.bavin_of_stands (n := 1) h rfl rfl (by simp only [hs])
  case three =>
    intro x y z st hs
    refine ⟨fun h => ?_, fun t ht h => ?_⟩
    · exact State.bavin_of_stands (n := 1) h rfl rfl (by simp only [hs])
    · exact State.bavin_ternary h (byteCode_some (Nat.zero_le t) ht) rfl hs
  case pick =>
    intro n v hn hv h
    exact State.bavin_pushed h (byteCode_some (Nat.zero_le n) hn) rfl (by simp only [hv, Option.map_some])
  case lit =>
    intro t v ht h
    exact State.bavin_push (n := 1 + typeSize t) h (literalCode_some v ht) (by simp [bytesLE_length]) (fun _ => _)
  case load =>
    intro t y ht h
    exact State.bavin_push (n := 3) h (symbolCode_some y ht) rfl (fun c => c.read y 0)
  case loadx =>
    intro t y m i st ht hm hs h
    refine ⟨fun hi => ?_, fun hi => ?_⟩
    · exact State.bavinDo_of_stands (n := 3) (g := id) h (symbolCode_some y ht) rfl (by simp only [hs, hm, if_pos hi]; rfl)
    · exact State.bavinDo_of_stands (n := 3) (g := fun u => u.runtimeFault k 2 0 c.pc) h (symbolCode_some y ht) rfl
        (by simp only [hs, hm, if_neg (Nat.not_lt_of_le hi)]; rfl)
  case storex =>
    intro t y m i v st ht hm hs h
    refine ⟨fun hi => ?_, fun hi => ?_⟩
    · exact State.bavinDo_of_stands (n := 3) (g := id) h (symbolCode_some y ht) rfl (by simp only [hs, hm, if_pos hi])
    · exact State.bavinDo_of_stands (n := 3) (g := fun u => u.runtimeFault k 2 0 c.pc) h (symbolCode_some y ht) rfl
        (by simp only [hs, hm, if_neg (Nat.not_lt_of_le hi)])
  case jmp =>
    intro j lo hi h
    exact State.bavin_of_stands (n := 3) (f := fun c => some (c.jump j)) h (jumpCode_some lo hi) rfl rfl
  case call =>
    intro f d hf hd h
    exact State.bavin_of_stands (n := 3) h (wordCode_some hf) rfl (by simp only [hd, Option.map_some])
  case ret =>
    intro back slots rest hs h
    exact State.bavin_of_stands (n := 1) h rfl rfl (by simp only [hs])
  case endCycle =>
    intro p hp h
    have here : s.fetched core (some [0xDE]) = some (k, { c with pc := c.pc + 1 }, c.pc) :=
      State.fetched_of_stands h rfl rfl
    refine ⟨fun hi => ?_, fun hi => ?_⟩ <;> simp only [exec, execBavinEnd, here, hp]
    · exact congrArg _ (if_pos hi)
    · exact congrArg _ (if_neg (by simp [hi]))
  case freeSlot =>
    intro n hn hl h
    exact State.bavinDo_of_stands (n := 2) h (byteCode_some (Nat.zero_le n) hn) rfl (by simp only [hl]; rfl)
  case slot =>
    intro n x hn hl h
    exact State.bavinDo_of_stands (n := 2) (g := id) h (byteCode_some (Nat.zero_le n) hn) rfl (by simp only [hl]; rfl)

end Sys2Proof.Machine

/-! PROOFS. Bavin arithmetic, comparison, bits and the functions of a real (O50, O52). -/

namespace Sys2Proof.Machine

/-! Division: a quotient in range, one outside it, and a zero divisor. -/

theorem State.divide_none (s : State) (t k pc : Nat) : s.divide t k pc none = (0, fun u => u.runtimeFault k 1 0 pc) := rfl

theorem State.divide_inside (s : State) {t : Nat} (k pc : Nat) {i : Int} (h1 : typeMin t ≤ i) (h2 : i ≤ typeMax t) :
    s.divide t k pc (some i) = (wrapVal t i, id) := if_pos ⟨h1, h2⟩

theorem State.divide_outside (s : State) {t : Nat} (k pc : Nat) {i : Int} (h : i < typeMin t ∨ typeMax t < i) :
    s.divide t k pc (some i) = (extend t s.freeWord.toNat, fun u => u.drawn) := if_neg (by omega)

theorem signedCode_some {base t : Nat} (h : t = 1 ∨ t = 2 ∨ t = 5 ∨ t = 6) :
    signedCode base t = some (bytesLE 1 (base + t)) := by
  rw [signedCode, if_neg (by omega), typedCode_some (by omega) (by omega)]

theorem convCode_some {t d : Nat} (h1 : t ≤ 6) (h2 : d ≤ 6) : convCode t d = some (0xD8 :: bytesLE 1 (16 * t + d)) :=
  if_pos ⟨h1, h2⟩

section
variable {s : State} {core k t : Nat} {c : TaskCtx} {a b : Quad} {st : List Quad} (hs : c.stack = b :: a :: st)
include hs

/-- The divisions of an integer type, from what `State.divide` makes of the quotient or remainder. -/
theorem execBavinDiv_of_stands (h : s.standsAt core k c (bytesLE 1 (0x48 + t))) (h1 : 1 ≤ t) (h4 : t ≤ 4) {r : Quad}
    {g : State → State} (hd : s.divide t k c.pc (valQuot a b) = (r, g)) :
    exec (.bavinDiv core t) s = .next (g (s.went k c 1 (r :: st))) :=
  State.bavinDo_of_stands (n := 1) h (typedCode_some h1 (by omega)) rfl
    (by simp only [hs, if_neg (show t ≠ 5 by omega), hd])

theorem execBavinMod_of_stands (h : s.standsAt core k c (bytesLE 1 (0x50 + t))) (h1 : 1 ≤ t) (h4 : t ≤ 4) {r : Quad}
    {g : State → State} (hd : s.divide t k c.pc (valRem a b) = (r, g)) :
    exec (.bavinMod core t) s = .next (g (s.went k c 1 (r :: st))) :=
  State.bavinDo_of_stands (n := 1) h (typedCode_some h1 h4) rfl (by simp only [hs, hd])

theorem State.bitOp_inside {op : Nat} {inside : Quad → Quad → Quad} {free : Quad} (h1 : 1 ≤ t) (h4 : t ≤ 4)
    (h : s.standsAt core k c ([0xFE, BitVec.ofNat 8 op] ++ bytesLE 1 t)) (hb : b.toNat < typeBits t) :
    s.bitOp core t op inside free = .next (s.went k c 3 (inside a b :: st)) :=
  State.bavinDo_of_stands (n := 3) (g := id) h (byteCode_some h1 h4) rfl (by simp only [hs, if_pos hb])

theorem State.bitOp_beyond {op : Nat} {inside : Quad → Quad → Quad} {free : Quad} (h1 : 1 ≤ t) (h4 : t ≤ 4)
    (h : s.standsAt core k c ([0xFE, BitVec.ofNat 8 op] ++ bytesLE 1 t)) (hb : typeBits t ≤ b.toNat) :
    s.bitOp core t op inside free = .next (s.went k c 3 (free :: st)).drawn :=
  State.bavinDo_of_stands (n := 3) (g := fun u => u.drawn) h (byteCode_some h1 h4) rfl
    (by simp only [hs, if_neg (Nat.not_lt_of_le hb)])

end

theorem valQuot_zero (a : Quad) : valQuot a 0 = none := if_pos rfl

theorem valQuot_of_ne (a : Quad) {b : Quad} (h : b ≠ 0) : valQuot a b = some ((valInt a).tdiv (valInt b)) := if_neg h

theorem valRem_zero (a : Quad) : valRem a 0 = none := if_pos rfl

theorem valRem_of_ne (a : Quad) {b : Quad} (h : b ≠ 0) : valRem a b = some ((valInt a).tmod (valInt b)) := if_neg h

/-- Settles O50. -/
theorem bavinArithmetic : Obligations.BavinArithmetic := by
  unfold Obligations.BavinArithmetic
  intro s core k c t
  refine ⟨?numbers, ?bits, ?equal, ?one, ?limit⟩
  case numbers =>
    intro a b st hs h1 h6
    refine ⟨fun h => ?add, fun h => ?sub, fun h5 h => ?mul, fun h4 h => ?div, fun h5 h => ?divReal, fun h4 h => ?mod,
      fun h => ?min, fun h => ?max, fun h => ?lt, fun h => ?le, fun h => ?gt, fun h => ?ge, fun h4 h => ?shl,
      fun h4 h => ?shr, fun h4 h => ?rol, fun h4 h => ?ror, fun h4 hb => ?inside, fun h4 hb => ?beyond⟩
    case div =>
      refine ⟨fun h0 => ?_, fun h0 lo hi => ?_, fun h0 hr => ?_⟩
      · exact execBavinDiv_of_stands hs h h1 h4 (by rw [h0, valQuot_zero, State.divide_none])
      · exact execBavinDiv_of_stands hs h h1 h4 (g := id) (by rw [valQuot_of_ne a h0, s.divide_inside _ _ lo hi])
      · exact execBavinDiv_of_stands hs h h1 h4 (by rw [valQuot_of_ne a h0, s.divide_outside _ _ hr])
    case divReal =>
      exact State.bavinDo_of_stands (n := 1) (g := id) h (typedCode_some h1 (by omega)) rfl
        (by simp only [hs, if_pos h5])
    case mod =>
      refine ⟨fun h0 => ?_, fun h0 lo hi => ?_⟩
      · exact execBavinMod_of_stands hs h h1 h4 (by rw [h0, valRem_zero, State.divide_none])
      · exact execBavinMod_of_stands hs h h1 h4 (g := id) (by rw [valRem_of_ne a h0, s.divide_inside _ _ lo hi])
    case rol => exact State.bavin_binary h (byteCode_some h1 h4) rfl hs
    case ror => exact State.bavin_binary h (byteCode_some h1 h4) rfl hs
    case inside =>
      exact ⟨fun h => State.bitOp_inside hs h1 h4 h hb, fun h => State.bitOp_inside hs h1 h4 h hb,
        fun h => State.bitOp_inside hs h1 h4 h hb⟩
    case beyond =>
      exact ⟨fun h => State.bitOp_beyond hs h1 h4 h hb, fun h => State.bitOp_beyond hs h1 h4 h hb,
        fun h => State.bitOp_beyond hs h1 h4 h hb⟩
    all_goals exact State.bavin_binary h (typedCode_some h1 (by assumption)) rfl hs
  case bits =>
    intro a b st hs h4
    have code {base : Nat} := typedCode_some (base := base) (Nat.zero_le t) h4
    exact ⟨fun h => State.bavin_binary h code rfl hs, fun h => State.bavin_binary h code rfl hs,
      fun h => State.bavin_binary h code rfl hs⟩
  case equal =>
    intro a b st hs h6
    have code {base : Nat} := typedCode_some (base := base) (Nat.zero_le t) h6
    exact ⟨fun h => State.bavin_binary h code rfl hs, fun h => State.bavin_binary h code rfl hs⟩
  case one =>
    intro a st hs
    exact ⟨fun ht h => State.bavin_unary h (signedCode_some ht) rfl hs,
      fun ht h => State.bavin_unary h (signedCode_some ht) rfl hs,
      fun h4 h => State.bavin_unary h (typedCode_some (Nat.zero_le t) h4) rfl hs,
      fun d h6 hd hl h => State.bavin_of_stands (n := 2) h (convCode_some h6 hd) rfl
        (by simp only [if_pos hl, unary, hs])⟩
  case limit =>
    intro x lo hi st hs h1 h6 h
    exact State.bavin_ternary h (byteCode_some h1 h6) rfl hs

/-- Settles O52. -/
theorem bavinFunctions : Obligations.BavinFunctions := by
  unfold Obligations.BavinFunctions
  intro s core k c
  refine ⟨?real, ?two, ?fma, ?now, ?nowplant, ?cyclestart, ?period⟩
  case real =>
    intro a st hs
    refine ⟨_, rfl, ?_, ?_, ?_, ?_, ?_, ?_, ?_, ?_, ?_, ?_, ?_, ?_, ?_, ?_, ?_⟩
    all_goals exact fun h => State.bavin_unary h rfl rfl hs
  case two =>
    intro a b st hs
    exact ⟨fun h => State.bavin_binary h rfl rfl hs, fun h => State.bavin_binary h rfl rfl hs⟩
  case fma =>
    intro x y z st hs h
    exact State.bavin_ternary h rfl rfl hs
  case now =>
    intro h
    exact State.bavin_push (n := 2) h rfl rfl (fun _ => BitVec.ofNat 64 s.monoNs)
  case nowplant =>
    intro h
    exact State.bavin_of_stands (n := 2)
      (f := fun c => some ((c.push (BitVec.ofNat 64 s.tim.plant.total)).push (ofBool s.plantValid))) h rfl rfl rfl
  case cyclestart =>
    intro h
    exact State.bavin_push (n := 2) h rfl rfl (fun c => BitVec.ofNat 64 c.snapNs)
  case period =>
    intro p d hp hd h
    simp only [exec, execBavinPeriod]
    exact State.bavinDo_of_stands (n := 2) (g := id) h rfl rfl (by simp only [hp, hd, Option.bind_some]; rfl)

end Sys2Proof.Machine

/-! PROOFS. Bavin function blocks, arrays and the instructions on other units (O53, O54). -/

namespace Sys2Proof.Machine

/-- Settles O53. -/
theorem bavinBlocks : Obligations.BavinBlocks := by
  unfold Obligations.BavinBlocks
  intro s core k c y hy
  have code {op : Bytes} := wordCode_some (op := op) hy
  refine ⟨?two, ?one, ?counter, ?copy, ?len, ?trap, ?wpub⟩
  case two =>
    intro pt i st hs
    refine ⟨_, _, _, _, _, fun h => ⟨State.bavin_of_stands (n := 4) h code rfl (by simp only [timerBlock, hs]; rfl), rfl, fun hi => ?_⟩,
      fun h => ⟨State.bavin_of_stands (n := 4) h code rfl (by simp only [timerBlock, hs]; rfl), rfl, fun hi => ?_⟩,
      fun h => ⟨State.bavin_of_stands (n := 4) h code rfl (by simp only [timerBlock, hs]; rfl), rfl⟩,
      fun h => ⟨State.bavin_of_stands (n := 4) h code rfl (by simp only [blockTwo, hs]; rfl), rfl⟩,
      fun h => ⟨State.bavin_of_stands (n := 4) h code rfl (by simp only [blockTwo, hs]; rfl), rfl⟩⟩
    · dsimp only [TaskCtx.push, List.take]
      rw [hi]
      rfl
    · dsimp only [TaskCtx.push, List.take]
      rw [hi]
      rfl
  case one =>
    intro v st hs
    refine ⟨fun h => ⟨_, State.bavin_popped (n := 4) h code rfl hs rfl, rfl⟩, fun h => ⟨_, State.bavin_popped (n := 4) h code rfl hs rfl, rfl⟩,
      fun m hm h => ?_, fun h => ?_, fun h => ?_⟩
    · exact State.bavin_popped (n := 4) h code rfl hs (by simp only [hm, Option.map_some])
    · exact State.bavin_popped (n := 4) h code rfl hs rfl
    · refine (State.bavinDo_of_stands (n := 4) (g := fun u => if isTrue v then u else u.runtimeFault k 4 y c.pc) h code
        rfl (by simp only [hs]; rfl)).trans ?_
      rfl
  case counter =>
    intro pv r u st hs
    refine ⟨_, _, fun h => ⟨State.bavin_of_stands (n := 4) h code rfl (by simp only [counterBlock, hs]; rfl), rfl, fun hr => ?_⟩,
      fun h => ⟨State.bavin_of_stands (n := 4) h code rfl (by simp only [counterBlock, hs]; rfl), rfl, fun hr => ?_⟩⟩
    · dsimp only [TaskCtx.push, List.head?]
      rw [hr]
      rfl
    · dsimp only [TaskCtx.push, List.head?]
      rw [hr]
      rfl
  case copy =>
    intro z a b hz ha hb h
    exact State.bavin_of_stands (n := 6) h (if_pos ⟨hy, hz⟩) rfl (by simp only [ha, hb])
  case len =>
    intro m hm h
    exact State.bavin_pushed (n := 4) h code rfl (by simp only [hm, Option.map_some])
  case trap =>
    intro h
    have here := State.fetched_of_stands (n := 4) h (code (op := [0xFE, 0x61])) rfl
    simp only [exec, execBavinTrap, here]
  case wpub =>
    intro n hn h
    exact State.bavin_of_stands (n := 5) (f := fun c => some (c.defer (.wpub n y))) h (if_pos ⟨hn, hy⟩) rfl rfl

/-- Settles O54. -/
theorem bavinUnits : Obligations.BavinUnits := by
  unfold Obligations.BavinUnits
  intro s core k c
  have code {op : Bytes} {hi n : Nat} (h : n ≤ hi) := byteCode_some (op := op) (Nat.zero_le n) h
  refine ⟨?station, ?welt, ?popped, ?write, ?trigger, ?strget, ?strstate, ?sloty, ?acksafe⟩
  case station =>
    intro n hn
    exact ⟨fun h => State.bavin_push (n := 3) h (code hn) rfl (fun _ => ofBool (s.station n).present),
      fun h => State.bavin_push (n := 3) h (code hn) rfl (fun _ => BitVec.ofNat 64 ((s.station n).status % 256 * 256 +
        4 * b2n (s.station n).disabled + 2 * b2n (s.station n).probing + b2n (s.station n).present))⟩
  case welt =>
    intro n hn h
    exact State.bavin_push (n := 3) h (code hn) rfl
      (fun _ => ofBool (s.weltEnabled n && !s.weltProducer n && s.weltState n == 2))
  case popped =>
    intro v st hs
    refine ⟨fun n p d hn hp hd h => ?enable, fun n hn h => ?raise, fun n hn h => ?xinset, fun h => ?outreq,
      fun f hf h => ?cellget, fun x hx h => ?cellflags, fun hx h => ?noCellflags, fun f hf h => ?nodeget,
      fun w hw h hpar hr => ?rdreg⟩
    case enable =>
      refine (State.bavinDo_of_stands (n := 3) h (code hn) rfl (by simp only [hs]; rfl)).trans (congrArg _ ?_)
      rw [hp]
      exact if_pos (by simp [hd])
    case raise => exact State.bavin_popped (n := 3) h (code hn) rfl hs rfl
    case xinset => exact State.bavin_popped (n := 3) h (code hn) rfl hs rfl
    case outreq => exact State.bavin_popped (n := 2) h rfl rfl hs rfl
    case cellget => exact State.bavin_popped (n := 3) h (code hf) rfl hs rfl
    case cellflags =>
      exact State.bavinDo_of_stands (n := 2) (g := id) h rfl rfl (by simp only [hs, hx]; rfl)
    case noCellflags =>
      exact State.bavinDo_of_stands (n := 2) (g := fun u => u.drawn) h rfl rfl (by simp only [hs, hx]; rfl)
    case nodeget => exact State.bavin_popped (n := 3) h (code hf) rfl hs rfl
    case rdreg =>
      obtain ⟨x, hx⟩ := Option.isSome_iff_exists.mp hr
      refine (State.bavinDo_of_stands (n := 2) h rfl rfl (by simp only [hs, hw, Option.getD_some]; rfl)).trans
        (congrArg _ ?_)
      rw [← State.went, hpar]
      exact if_neg (by rw [hx]; simp)
  case write =>
    intro v a st hs h
    have written : exec (.bavinWrreg core) s = _ :=
      State.bavinDo_of_stands (n := 2) h rfl rfl (by simp only [hs]; rfl)
    refine ⟨fun u hu => written.trans (congrArg _ ?_), fun hn => written.trans (congrArg _ ?_)⟩
    · rw [← State.went, hu]
    · rw [← State.went, hn]
  case trigger =>
    intro n h16 h47 h
    exact State.bavin_of_stands (n := 3) (f := fun c => some (c.defer (.trigger n))) h (byteCode_some h16 h47) rfl rfl
  case strget =>
    intro f hf h
    exact State.bavin_push (n := 3) h (code hf) rfl (fun c => ofReal (s.stringGet c.record f))
  case strstate =>
    intro h
    exact State.bavin_push (n := 2) h rfl rfl (fun _ => BitVec.ofNat 64 s.stringState)
  case sloty =>
    intro n hn h
    exact State.bavin_push (n := 3) h (code hn) rfl (fun _ => ofReal (f32OfRat (s.q23 (Reg.CTL_SLOT_Y n)) 0x800000))
  case acksafe =>
    intro h
    exact State.bavin_of_stands (n := 2) (f := fun c => some (c.defer .ackSafe)) h rfl rfl rfl

end Sys2Proof.Machine

/-! PROOFS. Packets, queries, held commands and throttles (O56). -/

namespace Sys2Proof.Machine

/-! The way of a packet. -/

theorem State.receiveOp_of_ne (s : State) {p : CmdPacket} {n : Nat} (h : p.opcode ≠ n) : s.receiveOp p n = .next s :=
  congrArg _ (if_neg h)

theorem State.receiveOp_of_eq {s : State} {p : CmdPacket} {n : Nat} (h : p.opcode = n) :
    s.receiveOp p n = .next (s.receive p) := congrArg _ (if_pos h)

theorem State.letThrough_closed {s : State} {p : CmdPacket} (crcOk badForm : Bool) (h : s.channelOn p = false) :
    s.letThrough p crcOk badForm = (false, s) := if_pos (by simp [h])

theorem State.receiveOp_closed {s : State} {p : CmdPacket} (n : Nat) (h : s.channelOn p = false) :
    s.receiveOp p n = .next s := by
  unfold State.receiveOp State.receive
  simp [State.letThrough_closed _ _ h]

theorem State.receive_of_session {s : State} {p : CmdPacket} {i : Nat} {v : Session} (hon : s.channelOn p = true)
    (found : s.sessionOf p = some (i, v)) (calm : s.throttles v = false) (untamed : v.throttled = false)
    (wellFormed : malformed p false (some v.version) = false) (offered : opOffered p.opcode v.version = true) :
    s.receive p = s.takePacket p := by
  simp [State.receive, State.letThrough, State.admitBound, hon, found, calm, untamed, wellFormed, offered]

/-- A query of a session is answered in the session that has noted its sequence. -/
theorem State.takePacket_query {s : State} {p : CmdPacket} {i : Nat} {v : Session} (found : s.sessionOf p = some (i, v))
    (hello : p.opcode ≠ 0x01) (query : (opInfo p.opcode).map (fun x => x.1) = some true) :
    s.takePacket p = (s.setSession i { v with hostAcked := p.aseq }).query i { v with hostAcked := p.aseq } p := by
  simp only [State.takePacket, if_neg hello, found, if_pos query]

theorem State.sessionOf_bound {s : State} {p : CmdPacket} {i : Nat} {v : Session} (h : s.sessionOf p = some (i, v)) :
    v.bound = true := by
  have found := List.find?_some h
  simp only [Bool.and_eq_true] at found
  exact found.1.1

/-! Sessions. -/

theorem State.session_congr {s t : State} (h : t.cmd = s.cmd) (i : Nat) : t.session i = s.session i := by
  unfold State.session
  rw [h]

theorem State.session_strobe (s : State) {src : Nat} (d : Nat) (h : src < 128) (i : Nat) :
    (s.strobe src d).session i = s.session i := State.session_congr (State.strobe_cmd s d h) i

/-- A session event changes no session. -/
theorem State.session_sessionEvent (s : State) (cause version i j : Nat) :
    (s.sessionEvent cause version i).session j = s.session j := by
  unfold State.sessionEvent
  refine (State.session_strobe _ _ (by decide) j).trans ?_
  split <;> rfl

theorem State.reply_of_bound {s : State} {i : Nat} {v : Session} (found : s.session i = some v) (bound : v.bound = true)
    (flags tag hseq opcode status rseq : Nat) (body : Bytes) :
    s.reply i flags tag hseq opcode status rseq body = (s.transmit v.uart v.peer v.port
      (devicePacket v.version flags tag hseq v.lastAccepted opcode status rseq v.nextDseq body)).setSession i
        { v with nextDseq := (v.nextDseq + 1) % 2 ^ 32 } := by
  unfold State.reply
  rw [found]
  exact if_neg (by simp [bound])

/-- Session i holds no command and has last accepted n. -/
def State.emptied (s : State) (i n : Nat) : Prop :=
  ∃ w : Session, s.session i = some w ∧ w.held = [] ∧ w.lastAccepted = n

theorem State.emptied_congr {s t : State} {i n : Nat} (h : t.cmd = s.cmd) (k : s.emptied i n) : t.emptied i n := by
  obtain ⟨w, found, held, last⟩ := k
  exact ⟨w, (State.session_congr h i).trans found, held, last⟩

theorem State.emptied_ite {a b : State} {i n : Nat} {c : Prop} {_ : Decidable c} (ha : a.emptied i n)
    (hb : b.emptied i n) : (if c then a else b).emptied i n := by
  split
  · exact ha
  · exact hb

theorem State.showThrottle_cmd (s : State) : s.showThrottle.cmd = s.cmd := rfl

theorem State.flag_wrN_cmd (s : State) (r x a c b : Nat) : ((s.wrN r x).flag a c b).cmd = s.cmd := rfl

theorem State.session_shownThrottle (s : State) (r hi lo v i : Nat) :
    ((s.setFld r hi lo v).showThrottle).session i = s.session i := rfl

theorem State.skipHeld_emptied {s : State} {i n : Nat} (q : CmdPacket) (h : s.emptied i n) :
    (s.skipHeld i q).emptied i n := by
  obtain ⟨w, found, held, last⟩ := h
  unfold State.skipHeld State.reply
  rw [found]
  refine State.emptied_congr (s := if !w.bound then s else _) rfl ?_
  split
  · exact ⟨w, found, held, last⟩
  · exact ⟨_, State.session_setSession _ _ _, held, last⟩

theorem State.skipsHeld_emptied {i n : Nat} : ∀ (l : List CmdPacket) {s : State}, s.emptied i n →
    (l.foldl (fun (t : State) r => t.skipHeld i r) s).emptied i n
  | [], _, h => h
  | q :: l, _, h => State.skipsHeld_emptied l (State.skipHeld_emptied q h)

theorem State.countViolation_emptied {s : State} {i n : Nat} (kind tag : Nat) (h : s.emptied i n) :
    (s.countViolation i kind tag).emptied i n := by
  obtain ⟨w, found, held, last⟩ := h
  have set (c : Prop) {_ : Decidable c} {a b : Session} (ha : a.held = w.held) (hb : b.held = w.held)
      (la : a.lastAccepted = w.lastAccepted) (lb : b.lastAccepted = w.lastAccepted) :
      (s.setSession i (if c then a else b)).emptied i n := by
    refine ⟨_, State.session_setSession _ _ _, ?_⟩
    split
    · exact ⟨ha.trans held, la.trans last⟩
    · exact ⟨hb.trans held, lb.trans last⟩
  have struck {u : State} (src d : Nat) (hs : src < 128) (k : u.emptied i n) : (u.strobe src d).emptied i n :=
    State.emptied_congr (State.strobe_cmd u d hs) k
  have noted {u : State} (r x b : Nat) (k : u.emptied i n) :
      ((u.wrN r x).flag Reg.CMD_STAT Reg.CMD_STAT_COUNT b).emptied i n := State.emptied_congr (u.flag_wrN_cmd r x _ _ b) k
  have shown {u : State} (k : u.emptied i n) : ((u.flag Reg.CMD_STAT Reg.CMD_STAT_COUNT 1).showThrottle).emptied i n :=
    State.emptied_congr ((State.showThrottle_cmd _).trans (State.flag_cmd u _ _ _)) k
  unfold State.countViolation
  rw [found]
  dsimp only
  exact State.emptied_ite (struck _ _ (by decide) (shown (struck _ _ (by decide) (noted _ _ _ (set _ rfl rfl rfl rfl)))))
    (struck _ _ (by decide) (noted _ _ _ (set _ rfl rfl rfl rfl)))

theorem State.session_throttleEvent (s : State) (i : Nat) (began : Bool) (n j : Nat) :
    (s.throttleEvent i began n).session j = s.session j := State.session_strobe s _ (by decide) j

theorem State.session_dropSession (s : State) (i : Nat) : (s.dropSession i).session i = none := by
  have dropped (l : List (Nat × Session)) : (l.filter (fun p => p.1 != i)).find? (fun p => p.1 == i) = none := by
    rw [List.find?_eq_none]
    intro p hp
    simpa using (List.mem_filter.mp hp).2
  unfold State.dropSession State.session
  exact congrArg (Option.map (·.2)) (dropped _)

theorem State.session_bindSession (s : State) (p : CmdPacket) (i version : Nat) (v : Session) :
    (s.bindSession p i version v).session i = some { v with
      bound := true, uart := p.uart, ipv6 := p.ipv6, peer := p.peer, port := p.port, version := version } :=
  State.session_setSession _ _ _

/-- A session that HELLO resumes is that of the host that asks. -/
theorem State.helloSession_host {s : State} {p : CmdPacket} {version host i : Nat} {v : Session}
    (h : s.helloSession p version host = some (i, some v)) : v.hostId = host := by
  unfold State.helloSession at h
  dsimp only at h
  split at h
  · next j w found =>
    obtain ⟨rfl, rfl⟩ : j = i ∧ w = v := by simpa using h
    split at found
    · have same := List.find?_some found
      simp only [Bool.and_eq_true, beq_iff_eq] at same
      exact same.1
    · cases found
  · split at h
    · simp at h
    · simp at h

theorem State.receive_of_hello {s : State} {p : CmdPacket} (ho : p.opcode = 0x01) (hon : s.channelOn p = true)
    (unbound : s.sessionOf p = none) (wellFormed : malformed p false none = false) : s.receive p = s.hello p := by
  simp [State.receive, State.letThrough, State.takePacket, hon, unbound, ho, wellFormed]

/-- The session that HELLO binds. -/
def boundBy (p : CmdPacket) (version : Nat) (v : Session) : Session :=
  { v with bound := true, uart := p.uart, ipv6 := p.ipv6, peer := p.peer, port := p.port, version := version }

theorem State.hello_of_found {s : State} {p : CmdPacket} {i : Nat} {held : Option Session}
    (hlen : p.params.length = 12) (hle : max 1 (fieldLE p.params 0 1) ≤ min 3 (fieldLE p.params 1 1))
    (hs : s.helloSession p (min 3 (fieldLE p.params 1 1)) (fieldLE p.params 4 8) = some (i, held)) : ∃ t : State,
    t.session i = some (boundBy p (min 3 (fieldLE p.params 1 1)) (held.getD { hostId := fieldLE p.params 4 8 })) ∧
      ∃ body, s.hello p = t.reply i 8 (p.tag % 512) 0 p.opcode St.OK 0 body := by
  have event (u : State) (cause : Nat) := (State.session_sessionEvent (u.bindSession p i (min 3 (fieldLE p.params 1 1))
    (held.getD { hostId := fieldLE p.params 4 8 })) cause (min 3 (fieldLE p.params 1 1)) i i).trans
      (State.session_bindSession u p i _ _)
  unfold State.hello
  rw [if_neg (by simp [hlen]), if_neg (Nat.not_lt_of_le hle), hs]
  dsimp only
  rw [event]
  exact ⟨_, event _ _, _, rfl⟩

theorem State.query_of_ready {s : State} (i : Nat) (v : Session) {p : CmdPacket} (h : s.supply.bootHeld = false) :
    (p.opcode = 0x03 → s.query i v p = s.resultRead i v p) ∧ (p.opcode = 0x04 → s.query i v p = s.seqState i v p) ∧
      (p.opcode = 0x05 → s.query i v p = s.ping i p) := by
  refine ⟨fun op => ?_, fun op => ?_, fun op => ?_⟩ <;> simp only [State.query, h, op, Bool.false_eq_true, if_false]

/-- A result that is held is sent again, and is from then on delivered. -/
theorem State.resultRead_of_held {s : State} {i : Nat} {v : Session} {p : CmdPacket} {r : HeldResult}
    (hlen : p.params.length = 2) (hle : fieldLE p.params 0 2 ≤ 511)
    (kept : (s.cmd.ops.any fun o => o.sess == some i && o.tag == fieldLE p.params 0 2) = false)
    (hr : v.results.find? (fun x => x.1 == fieldLE p.params 0 2) = some (fieldLE p.params 0 2, r)) : ∃ rs,
    s.resultRead i v p = (s.setSession i { v with results := rs }).reply i (8 + 4 * b2n r.delivered)
      (fieldLE p.params 0 2) 0 p.opcode r.status r.rseq r.bytes := by
  unfold State.resultRead
  dsimp only
  rw [if_neg (by omega), if_neg (by simp [kept]), hr]
  exact ⟨_, rfl⟩

/-- Settles O56. -/
theorem packetsAndQueries : Obligations.PacketsAndQueries := by
  unfold Obligations.PacketsAndQueries
  refine ⟨?closed, ?invalidClosed, ?notHello, ?badCrc, ?noSession, ?badForm, ?hello, ?binds, ?queries, ?run, ?refused, ?stop,
    ?gone, ?timers, ?off, ?expiry⟩
  case closed =>
    intro s p h
    exact ⟨State.receiveOp_closed _ h, State.receiveOp_closed _ h, State.receiveOp_closed _ h⟩
  case invalidClosed =>
    intro s uart ipv6 peer port b h
    simp [exec, execCmdInvalidPacket, State.letThrough_closed _ _ h]
  case notHello =>
    intro s p h
    exact s.receiveOp_of_ne h
  case badCrc =>
    intro s uart ipv6 peer port b ⟨w, _⟩ hon hc
    refine ⟨s.incFld Reg.CMD_ERR 31 16, ?_, rfl, State.fld_incFld w (by decide) (by decide)⟩
    simp [exec, execCmdInvalidPacket, State.letThrough, hon, hc]
  case noSession =>
    intro s uart ipv6 peer port b p hp hon hc none ho
    subst hp
    simp [exec, execCmdInvalidPacket, State.letThrough, hon, hc, none, ho]
  case badForm =>
    intro s uart ipv6 peer port b p i v hp hon hc found untamed bad
    subst hp
    simp [exec, execCmdInvalidPacket, State.letThrough, State.admitBound, State.throttles, malformed, hon, hc, found,
      untamed, bad]
  case hello =>
    intro s p ho hon none wellFormed
    exact (State.receiveOp_of_eq ho).trans (congrArg _ (State.receive_of_hello ho hon none wellFormed))
  case binds =>
    intro s p lo version host i held ho hon none wellFormed hlen hlo hv hle hh hs
    subst hlo hv hh
    obtain ⟨t, set, body, answered⟩ := State.hello_of_found hlen hle hs
    rw [State.reply_of_bound set rfl] at answered
    refine ⟨_, _, (State.receiveOp_of_eq ho).trans (congrArg _ ((State.receive_of_hello ho hon none wellFormed).trans
      answered)), State.session_setSession _ _ _, rfl, rfl, ?_, rfl, rfl, rfl⟩
    cases held with
    | none => rfl
    | some v =>
      have host : v.hostId = fieldLE p.params 4 8 := State.helloSession_host hs
      exact host
  case queries =>
    intro s p i v hon found calm untamed wellFormed offered noHold
    have bound := State.sessionOf_bound found
    have answer {n : Nat} (op : p.opcode = n) (hello : n ≠ 0x01) (query : (opInfo n).map (fun x => x.1) = some true) :
        s.receiveOp p n = .next ((s.setSession i { v with hostAcked := p.aseq }).query i { v with hostAcked := p.aseq } p) := by
      subst op
      rw [State.receiveOp_of_eq rfl, State.receive_of_session hon found calm untamed wellFormed offered,
        State.takePacket_query found hello query]
    have set := State.session_setSession s i { v with hostAcked := p.aseq }
    obtain ⟨result, seq, ping⟩ := State.query_of_ready (s := s.setSession i { v with hostAcked := p.aseq }) i
      { v with hostAcked := p.aseq } (p := p) noHold
    refine ⟨_, _, rfl, rfl, fun op hlen => ?_, fun op hlen => ?_, fun op hp => ?_, fun op => ?_, fun status body => ?_,
      fun tag r op hlen htag hle fresh hr => ?_⟩
    · exact (answer op (by decide) (by decide)).trans (congrArg _ ((ping op).trans (if_pos hlen)))
    · exact (answer op (by decide) (by decide)).trans (congrArg _ ((ping op).trans (if_neg (Nat.not_le_of_lt hlen))))
    · exact (answer op (by decide) (by decide)).trans (congrArg _ ((seq op).trans (if_pos (by simp [hp]))))
    · exact (answer op (by decide) (by decide)).trans (congrArg _ (result op))
    · have sent := State.reply_of_bound set bound 8 (p.tag % 512) 0 p.opcode status 0 body
      exact ⟨_, _, rfl, (congrArg (State.session · i) sent).trans (State.session_setSession _ _ _), rfl, _, rfl,
        congrArg State.out sent⟩
    · subst htag
      have kept : (s.cmd.ops.any fun o => o.sess == some i && o.tag == fieldLE p.params 0 2) = false := by
        rw [List.any_eq_false]
        intro o ho
        simpa using fresh o ho
      obtain ⟨rs, read⟩ := State.resultRead_of_held (s := s.setSession i { v with hostAcked := p.aseq }) (i := i) hlen hle
        kept hr
      have sent := State.reply_of_bound (State.session_setSession (s.setSession i { v with hostAcked := p.aseq }) i
        { v with hostAcked := p.aseq, results := rs }) bound
      exact ⟨_, _, (answer op (by decide) (by decide)).trans (congrArg _ ((result op).trans (read.trans (sent _ _ _ _ _ _ _)))),
        rfl, rfl⟩
  case run =>
    intro s d h
    exact (if_neg (by simp)).trans (if_pos h)
  case refused =>
    intro s d h
    exact (if_neg (by simp)).trans (if_neg (by simp [h]))
  case stop =>
    intro s d
    exact if_pos rfl
  case gone =>
    intro s i h
    simp only [exec, execCmdHoldTimeout, execThrottleEnd, h, and_self]
  case timers =>
    intro s i v found
    refine ⟨fun h => ?_, fun q h hon => ?_, fun h hon => ?_, fun h => ?_, fun h hon => ⟨_, _, _, _, rfl, rfl, rfl, rfl, ?_, ?_⟩⟩
    · simp only [exec, execCmdHoldTimeout, found, h, List.mergeSort_nil]
    · simp only [exec, execCmdHoldTimeout, found, h, List.mergeSort_singleton, hon, if_true, List.foldl_cons, List.foldl_nil]
    · simp only [exec, execCmdHoldTimeout, found]
      split
      · next empty =>
        have none := congrArg List.length empty
        simp [h] at none
      · next q qs _ =>
        obtain ⟨w, found, held, last⟩ := State.countViolation_emptied 3 q.tag (State.skipsHeld_emptied (q :: qs)
          (s := s.setSession i { v with held := [] }) ⟨_, State.session_setSession _ _ _, rfl, rfl⟩)
        exact ⟨_, w, congrArg _ (if_pos hon), found, held, last⟩
    · simp [exec, execThrottleEnd, found, h]
    · simp [exec, execThrottleEnd, found, h, hon]
    · exact (State.session_throttleEvent _ _ _ _ _).trans ((State.session_shownThrottle _ _ _ _ _ i).trans
        (State.session_setSession s i _))
  case off =>
    intro s i h
    exact congrArg _ (if_neg (by simp [h]))
  case expiry =>
    intro s i v hon found
    refine ⟨(s.dropSession i).sessionEvent 3 v.version i, congrArg Host.Outcome.next ((if_pos hon).trans ?_), rfl,
      (State.session_sessionEvent _ _ _ _ _).trans (s.session_dropSession i)⟩
    simp only [State.closeSession, found]

end Sys2Proof.Machine

/-! PROOFS. DMA channels and parity errors (O57). -/

namespace Sys2Proof.Machine

/-- A control write of a channel that may write it. -/
theorem State.dmaControl_of_granted {s : State} {n : Nat} {who : Requester} (f : State → State) (hn : n < 16)
    (h : chanDenied n who = false) : s.dmaControl n who f = f s :=
  (if_neg (Nat.not_le_of_lt hn)).trans (if_neg (by simp [h]))

theorem State.dmaControl_of_denied {s : State} {n : Nat} {who : Requester} (f : State → State) (hn : n < 16)
    (h : chanDenied n who = true) : s.dmaControl n who f = s.emit (.errorResponse (Reg.DMA_CH_CTRL n)) :=
  (if_neg (Nat.not_le_of_lt hn)).trans (if_pos h)

/-! Turns: within a group the channel after the last one goes first. -/

theorem State.dmaNext_some {s : State} {base last m : Nat} (h : s.dmaNext base last = some m) :
    s.dmaReady m = true ∧ ∃ i < 8, m = base + (last + 1 + i) % 8 ∧
      ∀ j < i, s.dmaReady (base + (last + 1 + j) % 8) = false := by
  obtain ⟨ready, i, hi, at_i, before⟩ := List.find?_eq_some_iff_getElem.mp h
  have hi8 : i < 8 := by simpa using hi
  refine ⟨ready, i, hi8, by simpa using at_i.symm, fun j hj => ?_⟩
  simpa using before j hj

theorem State.dmaNext_none {s : State} {base last n : Nat} (h : s.dmaNext base last = none) (h1 : base ≤ n)
    (h2 : n < base + 8) : s.dmaReady n = false := by
  have idle := List.find?_eq_none.mp h n
    (List.mem_map.mpr ⟨(n - base + 7 * (last + 1)) % 8, List.mem_range.mpr (Nat.mod_lt _ (by decide)), by omega⟩)
  simpa using idle

/-- Within its group, the channel in turn comes no later after the last one than any that is ready. -/
theorem State.dmaNext_first {s : State} {base last m n : Nat} (h : s.dmaNext base last = some m) (hl : last < 8)
    (hb : base % 8 = 0) (h1 : base ≤ n) (h2 : n < base + 8) (hn : s.dmaReady n = true) :
    (m + 7 - last) % 8 ≤ (n + 7 - last) % 8 := by
  obtain ⟨-, i, hi, rfl, before⟩ := State.dmaNext_some h
  by_contra later
  have place : base + (last + 1 + (n + 7 - last) % 8) % 8 = n := by omega
  have idle := before ((n + 7 - last) % 8) (by omega)
  rw [place, hn] at idle
  cases idle

/-- Settles O57. -/
theorem dmaAndMemory : Obligations.DmaAndMemory := by
  unfold Obligations.DmaAndMemory
  refine ⟨?control, ?swreq, ?strobe, ?burst, ?turn, ?noBurst, ?complete, ?noStall, ?stall, ?busError, ?restart, ?gsram,
    ?code, ?refetch, ?scrub⟩
  case control =>
    intro s n who v hon
    have on (o : Host.Outcome State Fault Refusal) := State.whenVamp_on (s := s) o hon
    refine ⟨fun h => ?_, fun hn hd => ⟨_, rfl, ?_⟩, fun hn hd => ?_⟩
    · exact (on _).trans (congrArg _ (if_pos h))
    · have denied (f : State → State) := State.dmaControl_of_denied (s := s) f hn hd
      exact ⟨(on _).trans (congrArg _ (denied _)), (on _).trans (congrArg _ (denied _)), (on _).trans (congrArg _ (denied _)),
        (on _).trans (congrArg _ (denied _)), (on _).trans (congrArg _ (denied _)), (on _).trans (congrArg _ (denied _))⟩
    · have granted (f : State → State) := State.dmaControl_of_granted (s := s) f hn hd
      refine ⟨(on _).trans (congrArg _ (granted _)), (on _).trans (congrArg _ (granted _)),
        (on _).trans (congrArg _ (granted _)), (on _).trans (congrArg _ (granted _)), (on _).trans (congrArg _ (granted _)),
        fun h => ?_, fun h => ?_, fun h => ?_, fun h0 h5 hi => ?_, fun h0 h5 hi => ?_⟩
      · exact (on _).trans (congrArg _ ((granted _).trans (if_pos h)))
      · exact (on _).trans (congrArg _ ((granted _).trans (if_neg h)))
      · exact (on _).trans (congrArg _ ((granted _).trans (if_pos h)))
      · exact (on _).trans (congrArg _ ((granted _).trans ((if_neg (by tauto)).trans (if_neg (by simp [hi])))))
      · exact (on _).trans (congrArg _ ((granted _).trans ((if_neg (by tauto)).trans (if_pos hi))))
  case swreq =>
    intro s hon
    refine ⟨?_, ?_, ?_, ?_⟩ <;> exact State.whenVamp_on _ hon
  case strobe =>
    intro s l
    exact ⟨fun hon hl => (State.whenVamp_on _ hon).trans (congrArg _ (if_pos hl)),
      fun hl => whenVamp_eq_self fun _ => congrArg _ (if_neg (Nat.not_lt_of_le hl))⟩
  case burst =>
    intro s n d hd hon
    refine ⟨fun h => ?_, fun h => ?_⟩ <;> simp only [exec, execDmaBurst, hd]
    · exact if_pos (by simp [hon, h])
    · exact if_neg (by simp [h])
  case turn =>
    intro s m h
    unfold State.dmaTurn at h
    cases low : s.dmaNext 0 s.dma.lastLow with
    | some j =>
      obtain rfl : j = m := by simpa [low] using h
      obtain ⟨ready, i, hi, place, -⟩ := State.dmaNext_some low
      exact ⟨ready, by omega, fun n hn => ⟨fun _ => by omega,
        fun h8 _ hl => State.dmaNext_first low hl rfl (Nat.zero_le n) (by omega) hn, fun _ _ h8 => by omega⟩⟩
    | none =>
      have high : s.dmaNext 8 s.dma.lastHigh = some m := by simpa [low] using h
      obtain ⟨ready, i, hi, place, -⟩ := State.dmaNext_some high
      refine ⟨ready, by omega, fun n hn => ⟨fun h8 => ?_, fun _ h8 => by omega,
        fun h8 h16 _ hl => State.dmaNext_first high hl rfl h8 h16 hn⟩⟩
      rw [State.dmaNext_none low (Nat.zero_le n) (by omega)] at hn
      cases hn
  case noBurst =>
    intro s n h
    simp only [exec, execDmaBurst, h]
  case complete =>
    intro s n
    exact ⟨fun h => whenVamp_eq_self fun _ => congrArg _ (if_neg (by simp [h])),
      fun hon hn hi => (State.whenVamp_on _ hon).trans (congrArg _ (if_pos ⟨hn, hi⟩))⟩
  case noStall =>
    intro s n h
    exact whenVamp_eq_self fun _ => if_neg (by simp [h])
  case stall =>
    intro s n ⟨w, _⟩ hon hn h3 hs
    refine ⟨_, (State.whenVamp_on _ hon).trans (if_pos ⟨hn, h3, by simp [hs]⟩), ?_, ?_⟩
    · exact State.strobe_pend _ _ (by decide) (State.flag_wf w)
    · exact (State.strobe_bit _ _ _ (by decide) (by decide)).trans (State.bit_flag w (by decide) (by decide))
  case busError =>
    intro s n a w r hon hn
    exact (State.whenVamp_on _ hon).trans (congrArg _ (if_pos hn))
  case restart =>
    intro s hon
    exact State.whenVamp_on _ hon
  case gsram =>
    intro s q a ic ch hon hq h1 h2
    have taken {o : Host.Outcome State Fault Refusal} (h : _ = o) : exec (.gsramParityError q a ic ch) s = o :=
      (if_neg (by simp [hon]; omega)).trans h
    refine ⟨_, rfl, fun h => ?_, fun h => ?_, fun h hc => ?_, fun h => ?_, fun h => ?_⟩
    · subst h
      exact taken rfl
    · subst h
      exact taken rfl
    · subst h
      exact taken (congrArg _ (if_pos hc))
    · subst h
      exact taken rfl
    · rcases h with h | h | h | h <;> subst h <;> exact taken rfl
  case code =>
    intro s a ⟨w, _⟩ hon
    refine ⟨_, (if_neg (by simp [hon])).trans (if_pos (by rfl)), ?_⟩
    refine ⟨State.strobe_pend _ _ (by decide) (State.flag_wf (State.incFld_wf w)), ?_, ?_⟩
    · exact (State.strobe_bit _ _ _ (by decide) (by decide)).trans
        (State.bit_flag (State.incFld_wf w) (by decide) (by decide))
    · refine (State.strobe_fld _ _ _ _ (by decide) (by decide)).trans
        ((State.fld_flag_other _ _ _ (by decide) (by decide)).trans (State.fld_incFld w (by decide) (by decide)))
  case refetch =>
    intro s a hon
    refine ⟨_, (if_neg (by simp [hon])).trans ((if_neg (by simp)).trans (if_pos rfl)), _,
      (if_neg (by simp [hon])).trans ((if_neg (by simp)).trans (if_neg (by decide))), ?_⟩
    simp
  case scrub =>
    intro s ⟨w, _⟩ hon
    refine ⟨_, State.whenVamp_on _ hon, ?_, ?_⟩
    · exact State.fld_setFld _ w (by decide) (by decide)
    · exact State.fld_setFld_ne _ w (by decide) (by decide) (by decide)

end Sys2Proof.Machine

/-! PROOFS. Links, frames and time (O58). -/

namespace Sys2Proof.Machine

/-! The link of a port. -/

/-- From s to t the ports' links and their flags stand, and no pending event is lost. -/
structure LinksStand (s t : State) : Prop where
  up : ∀ p, t.linkUp p = s.linkUp p
  stat : ∀ p, p < 2 → t.bit Reg.ETH_STAT p = s.bit Reg.ETH_STAT p
  pend : ∀ k, k < 128 → s.pend k = true → t.pend k = true

theorem LinksStand.trans {s t u : State} (h : LinksStand s t) (k : LinksStand t u) : LinksStand s u :=
  ⟨fun p => (k.up p).trans (h.up p), fun p hp => (k.stat p hp).trans (h.stat p hp),
    fun n hn e => k.pend n hn (h.pend n hn e)⟩

theorem State.linkUp_congr {s t : State} (hA : t.rd Reg.ETH_PORTA_STAT = s.rd Reg.ETH_PORTA_STAT)
    (hB : t.rd Reg.ETH_PORTB_STAT = s.rd Reg.ETH_PORTB_STAT) (p : Nat) : t.linkUp p = s.linkUp p := by
  unfold State.linkUp State.bit
  rw [hA, hB]

theorem Eventful.linksStand {s t : State} (h : Eventful s t) (w : Sparse.wf regReset s.regs = true) : LinksStand s t :=
  ⟨State.linkUp_congr (h.rd _ (by decide)) (h.rd _ (by decide)), fun p _ => congrArg (getBit · p) (h.rd _ (by decide)),
    h.pend w⟩

section
variable {s : State} (w : Sparse.wf regReset s.regs = true)
include w

theorem State.setStat_linksStand {b : Nat} (v : Bool) (h2 : 2 ≤ b) (h32 : b < 32) :
    LinksStand s (s.setBit Reg.ETH_STAT b v) := by
  refine ⟨State.linkUp_congr (s.rd_setBit_ne _ _ (by decide)) (s.rd_setBit_ne _ _ (by decide)),
    fun p hp => State.bit_setBit_ne _ w h32 (by omega), fun k hk e => ?_⟩
  rw [State.pend_setBit_other _ _ _ (by simp only [Reg.EVT_PEND, Reg.ETH_STAT]; omega)]
  exact e

theorem State.flagStat_linksStand : LinksStand s (s.flag Reg.ETH_STAT Reg.ETH_STAT_COUNT 2) := by
  refine ⟨State.linkUp_congr (s.rd_flag_ne _ (by decide) (by decide)) (s.rd_flag_ne _ (by decide) (by decide)),
    fun p hp => State.bit_flag_ne w (by decide) (by decide) (by omega), fun k hk e => ?_⟩
  refine (State.bit_flag_other _ _ ?_ ?_).trans e <;>
    simp only [Reg.EVT_PEND, Reg.ETH_STAT, Reg.ETH_STAT_COUNT] <;> omega

theorem State.setLan_linksStand {lan : Nat} (lost : Bool) (hl : lan < 2) : LinksStand s (s.setLan lan lost) := by
  have noted (x : Eth) : LinksStand s { s with eth := x } := ⟨fun _ => rfl, fun _ _ => rfl, fun _ _ => id⟩
  unfold State.setLan
  split
  · exact ⟨fun _ => rfl, fun _ _ => rfl, fun _ _ => id⟩
  · have shown (x : Eth) := (noted x).trans (State.setStat_linksStand (s := { s with eth := x }) w (b := 8 + lan) (!lost)
      (by omega) (by omega))
    have struck {u : State} (wu : Sparse.wf regReset u.regs = true) (d : Nat) :=
      (State.strobe_eventful u (src := Src.ETH_PATH_LOSS) d (by decide)).linksStand wu
    have wx (x : Eth) : Sparse.wf regReset (({ s with eth := x } : State).setBit Reg.ETH_STAT (8 + lan) (!lost)).regs = true :=
      State.setBit_wf w
    obtain ⟨x, hx⟩ : ∃ x, (if lan = 0 then { s with eth := { s.eth with lanLostA := lost } }
        else { s with eth := { s.eth with lanLostB := lost } } : State) = { s with eth := x } := by
      split <;> exact ⟨_, rfl⟩
    dsimp only
    rw [hx]
    cases lost with
    | true =>
      exact ((shown x).trans (State.flagStat_linksStand (wx x))).trans (struck (State.flag_wf (wx x)) _)
    | false => exact (shown x).trans (struck (wx x) _)

end

theorem port_cases {p : Nat} (h : p < 2) : p = 0 ∨ p = 1 := by omega

theorem State.showLink_up {s : State} {p : Nat} (cause page : Option Nat) (hp : p < 2)
    (w : Sparse.wf regReset s.regs = true) : (s.showLink p cause page).linkUp p = cause.isNone := by
  obtain rfl | rfl := port_cases hp <;>
    simp +decide [State.showLink, State.linkUp, ethPortStat, State.bit_setBit, State.bit_setBit_ne, State.bit_setFld_ne, w]

theorem State.showLink_wf {s : State} (p : Nat) (cause page : Option Nat) (w : Sparse.wf regReset s.regs = true) :
    Sparse.wf regReset (s.showLink p cause page).regs = true :=
  State.setBit_wf (State.setBit_wf (State.setFld_wf (State.setBit_wf w)))

/-- A change of a port's link has its flag and its event. -/
theorem State.strobedLink {s : State} {p : Nat} (cause : Option Nat) (speed : Nat) (hp : p < 2)
    (w : Sparse.wf regReset s.regs = true) : ∃ t : State,
    t = (s.flag Reg.ETH_STAT Reg.ETH_STAT_COUNT p).strobeLink p cause speed ∧ t.linkUp p = s.linkUp p ∧
      t.pend (Src.ETH_LINK_A + p) = true ∧ t.bit Reg.ETH_STAT p = true ∧ Sparse.wf regReset t.regs = true := by
  have source : Src.ETH_LINK_A + p < 128 := by simp only [Src.ETH_LINK_A]; omega
  have e := State.strobe_eventful (s.flag Reg.ETH_STAT Reg.ETH_STAT_COUNT p) (src := Src.ETH_LINK_A + p)
    (b2n cause.isNone * 2 ^ 23 + (if cause.isNone then speed else 0) * 2 ^ 16 + cause.getD 0) source
  have counter : ∀ r, r = Reg.ETH_PORTA_STAT ∨ r = Reg.ETH_PORTB_STAT ∨ r = Reg.ETH_STAT →
      r ≠ Reg.ETH_STAT_COUNT + 4 * (p / 4) := by
    rintro r (rfl | rfl | rfl) <;>
      simp only [Reg.ETH_PORTA_STAT, Reg.ETH_PORTB_STAT, Reg.ETH_STAT, Reg.ETH_STAT_COUNT] <;> omega
  refine ⟨_, rfl, ?_, State.strobe_pend _ _ source (State.flag_wf w), ?_, State.strobe_wf source (State.flag_wf w)⟩
  · refine State.linkUp_congr ((e.rd _ (by decide)).trans ?_) ((e.rd _ (by decide)).trans ?_) p
    · exact s.rd_flag_ne _ (by decide) (counter _ (by simp))
    · exact s.rd_flag_ne _ (by decide) (counter _ (by simp))
  · exact (State.strobe_bit _ _ _ source (by decide)).trans
      (State.bit_flag w (by omega) (counter _ (by simp)))

theorem State.setLanAt_linksStand (s : State) (lan : Nat) : LinksStand s (s.setLanAt lan) := by
  unfold State.setLanAt
  split <;> exact ⟨fun _ => rfl, fun _ _ => rfl, fun _ _ => id⟩

theorem State.setLanAt_regs (s : State) (lan : Nat) : (s.setLanAt lan).regs = s.regs := by
  unfold State.setLanAt
  split <;> rfl

/-- A port whose link comes up, or goes down. -/
theorem execEthLinkChange_of_changed {s : State} {p m : Nat} {sig sync : Bool} {v : Option Nat} (hp : p < 2)
    (hm : m = if p = 0 then s.fld Reg.ETH_CONFIG 31 30 else s.fld Reg.ETH_CONFIG 29 28) (h0 : m ≠ 0)
    (w : Sparse.wf regReset s.regs = true) (hon : s.vampOn = true)
    (hl : s.linkUp p ≠ (s.linkCause p sig sync v).isNone) : ∃ t : State, exec (.ethLinkChange p sig sync v) s = .next t ∧
      t.linkUp p = (s.linkCause p sig sync v).isNone ∧ t.pend (Src.ETH_LINK_A + p) = true ∧
      t.bit Reg.ETH_STAT p = true := by
  have changed : exec (.ethLinkChange p sig sync v) s = _ :=
    (State.whenVamp_on _ hon).trans ((if_pos ⟨hp, hm ▸ h0⟩).trans (if_neg hl))
  rw [changed]
  have shown := State.showLink_up (s.linkCause p sig sync v) v hp w
  have ws := s.showLink_wf p (s.linkCause p sig sync v) v w
  cases hc : s.linkCause p sig sync v with
  | none =>
    rw [hc] at shown ws
    obtain ⟨u, hu, up, pend, stat, wu⟩ := State.strobedLink none (s.linkSpeed p v) hp ws
    have stands := (State.setLanAt_linksStand u p).trans (State.setLan_linksStand (s := u.setLanAt p)
      ((State.setLanAt_regs u p).symm ▸ wu) false hp)
    refine ⟨(u.setLanAt p).setLan p false, ?_, (stands.up p).trans (up.trans shown), stands.pend _ ?_ pend,
      (stands.stat p hp).trans stat⟩
    · simp only [hu, Option.isNone_none, if_true]
    · simp only [Src.ETH_LINK_A]; omega
  | some c =>
    rw [hc] at shown ws
    have counted : ((s.showLink p (some c) v).incFld (ethPortStat p) 15 0).linkUp p = (s.showLink p (some c) v).linkUp p := by
      obtain rfl | rfl := port_cases hp <;>
        simp +decide [State.linkUp, ethPortStat, State.incFld, State.bit_setFld_ne, ws]
    obtain ⟨u, hu, up, pend, stat, wu⟩ := State.strobedLink (s := (s.showLink p (some c) v).incFld (ethPortStat p) 15 0)
      (some c) (s.linkSpeed p v) hp (State.incFld_wf ws)
    have stands := State.setLan_linksStand wu true hp
    refine ⟨u.setLan p true, ?_, (stands.up p).trans (up.trans (counted.trans shown)), stands.pend _ ?_ pend,
      (stands.stat p hp).trans stat⟩
    · simp only [hu, Option.isNone_some, Bool.false_eq_true, if_false]
    · simp only [Src.ETH_LINK_A]; omega

/-! Frames. -/

/-- From s to t the frames received and the descriptors of port A's ring stand. -/
structure RxStands (s t : State) : Prop where
  done : t.eth.rxDone = s.eth.rxDone
  own : t.eth.rxOwnA = s.eth.rxOwnA

theorem RxStands.refl (s : State) : RxStands s s := ⟨rfl, rfl⟩

theorem RxStands.trans {s t u : State} (h : RxStands s t) (k : RxStands t u) : RxStands s u :=
  ⟨k.done.trans h.done, k.own.trans h.own⟩

theorem RxStands.ite {s a b : State} {c : Prop} {_ : Decidable c} (ha : RxStands s a) (hb : RxStands s b) :
    RxStands s (if c then a else b) := by
  split
  · exact ha
  · exact hb

theorem RxStands.of_eth {s t : State} (h : t.eth = s.eth) : RxStands s t := ⟨congrArg _ h, congrArg _ h⟩

theorem State.sendPair_rxStands (s : State) (f : Bytes) : RxStands s (s.sendPair f) := by
  have copied (u : State) (p : Nat) (b : Bytes) : RxStands u (if u.linkUp p then u.emit (.ethFrame p b) else u) :=
    RxStands.ite ⟨rfl, rfl⟩ (RxStands.refl u)
  have both := (copied s 0 (f ++ rct s.eth.prpSeq 0
    (f.length - 12 - (if s.fld Reg.ETH_CONFIG 11 0 = 0 then 0 else 4) + 6))).trans (copied _ 1 (f ++ rct s.eth.prpSeq 1
      (f.length - 12 - (if s.fld Reg.ETH_CONFIG 11 0 = 0 then 0 else 4) + 6)))
  unfold State.sendPair
  exact ⟨both.done, both.own⟩

theorem State.echoTaken_rxStands (s : State) : RxStands s s.echoTaken := ⟨rfl, rfl⟩

theorem State.stackAnswer_rxStands (s : State) (src : Bytes) (etherType : Nat) (body : Bytes) :
    RxStands s (s.stackAnswer src etherType body) := by
  unfold State.stackAnswer
  dsimp only
  refine RxStands.ite (RxStands.ite (State.sendPair_rxStands s _) (RxStands.refl s)) (RxStands.ite (RxStands.ite
    ((State.echoTaken_rxStands s).trans (State.sendPair_rxStands _ _)) (RxStands.refl s)) (RxStands.ite (RxStands.ite
      ((State.echoTaken_rxStands s).trans (State.sendPair_rxStands _ _)) (RxStands.ite (State.sendPair_rxStands s _)
        (RxStands.refl s))) (RxStands.refl s)))

theorem State.dmaRequest_rxStands (s : State) (line : Nat) : RxStands s (s.dmaRequest line) :=
  RxStands.of_eth (State.dmaRequest_eventful s line).eth

theorem State.ethCount_rxStands (s : State) : RxStands s (s.ethCount 0 false) := by
  have counted (x : Eth) (hd : x.rxDone = s.eth.rxDone) (ho : x.rxOwnA = s.eth.rxOwnA) : RxStands s { s with eth := x } :=
    ⟨hd, ho⟩
  have struck (u : State) : RxStands u (u.strobe Src.ETH_RX 1) := RxStands.of_eth (State.strobe_eth u 1 (by decide))
  exact RxStands.ite (counted _ rfl rfl) ((counted { s.eth with rxHoldA := true } rfl rfl).trans (struck _))

/-- The frame as port A's ring takes it, where it carries no trailer and no tag. -/
theorem execEthFrameReceive_of_good {s : State} {f : Bytes} (hon : s.vampOn = true) (hu : s.linkUp 0 = true)
    (h60 : 60 ≤ f.length) (h1536 : f.length ≤ 1536) (ha : s.accepts (f.take 6) = true) (tagged : fieldBE f 12 2 ≠ 0x8100)
    (pause : fieldBE f 12 2 ≠ 0x8808) (ptp : fieldBE f 12 2 ≠ 0x88F7) (trailer : fieldBE f (f.length - 2) 2 ≠ 0x88FB)
    (own : 0 < s.eth.rxOwnA) : ∃ (u t : State) (x : EthRx), exec (.ethFrameReceive 0 f (crc32 f)) s = .next t ∧
      RxStands u t ∧ u.eth.rxDone = s.eth.rxDone ++ [x] ∧ u.eth.rxOwnA = s.eth.rxOwnA - 1 ∧ x.frame = f ∧ x.rct = false ∧
      x.ptp = false ∧ x.vlan = 0 ∧ x.mono = s.tim.mono ∧ x.plant = s.tim.plant := by
  have n0 : s.eth.rxOwnA ≠ 0 := by omega
  simp only [exec, execEthFrameReceive, State.whenVamp_on _ hon]
  simp [hu, Nat.not_lt_of_le h60, Nat.not_lt_of_le h1536, ha, tagged, pause, ptp, trailer, n0]
  exact ⟨_, ((State.ethCount_rxStands _).trans (State.dmaRequest_rxStands _ _)).trans
    (State.stackAnswer_rxStands _ _ _ _), _, rfl, rfl, rfl, rfl, rfl, rfl, rfl, rfl⟩

/-! Ports, captures, and the servo. -/

theorem State.sendOn_eth (s : State) (p : Nat) (f : Bytes) : (s.sendOn p f).eth = s.eth := by
  unfold State.sendOn
  split <;> rfl

theorem execEthTxComplete_single {s : State} (p : Nat) (ts un : Bool) (f : Bytes) (w : Word) (hon : s.vampOn = true) :
    ∃ (u : State) (d : EthTxDone),
      exec (.ethTxComplete false p ts f w un) s = .next ((u.ethCount p true).dmaRequest (34 + p)) ∧
      u.eth.txDone = s.eth.txDone ++ [d] ∧ d.user = w ∧
      d.status = if s.linkUp p = true then (if un = true then 2 else 0) else 1 := by
  refine ⟨_, _, State.whenVamp_on _ hon, congrArg (· ++ _) (congrArg Eth.txDone ?sent), rfl, ?status⟩
  case sent => cases un with
    | true => rfl
    | false => exact State.sendOn_eth s p f
  case status => cases hl : s.linkUp p <;> cases un <;> simp [hl]

/-- The first announcer of an acceptable class becomes the grandmaster. -/
theorem State.selectMaster_of_only {s : State} {a : Announce} (hA : s.tim.announceA = some a) (hB : s.tim.announceB = none)
    (hg : s.tim.gm = none) (hc : a.clockClass ≤ s.syncClassMax) :
    s.selectMaster.tim.gm = some a.gmId ∧ s.selectMaster.tim.announceA = some a := by
  have best : s.bestPort = some 0 := by simp [State.bestPort, hA, hB]
  have heard : s.announceOf 0 = some a := hA
  have only : s.selectMaster = ({ (s.setFld Reg.TIM_SERVO 29 29 0).showGm a with tim := { s.tim with gm := some a.gmId } } : State) := by
    simp only [State.selectMaster, best, heard, hg]
    exact if_pos hc
  rw [only]
  exact ⟨rfl, hA⟩

/-- A timed-out announcer. -/
theorem execPtpAnnounceTimeout_eq {s u : State} {p : Nat} (hon : s.vampOn = true)
    (hu : u = (if p = 0 then { s with tim := { s.tim with announceA := none } }
      else { s with tim := { s.tim with announceB := none } })) :
    exec (.ptpAnnounceTimeout p) s = if u.acceptable 0 || u.acceptable 1 then .next u.selectMaster
      else .next (u.loseSource 2) := by
  subst hu
  exact State.whenVamp_on _ hon

/-- Settles O58. -/
theorem networkAndTime : Obligations.NetworkAndTime := by
  unfold Obligations.NetworkAndTime
  refine ⟨?link, ?cause, ?bad, ?good, ?down, ?sent, ?supervision, ?aged, ?path, ?capture, ?alarm, ?quiet, ?second,
    ?pulse, ?sync, ?announce, ?request, ?response, ?delay, ?announceLost, ?syncLost, ?noHold, ?bound, ?temp, ?noModel,
    ?model, ?holdoff, ?tether⟩
  case link =>
    intro s p m sig sync v hp hm
    refine ⟨fun h0 => whenVamp_eq_self fun _ => if_neg fun h => h.2 (hm ▸ h0), fun ⟨w, _⟩ hon h0 hl hc => ?_,
      fun c ⟨w, _⟩ hon h0 hl hc => ?_⟩
    · simpa only [hc, Option.isNone_none] using
        execEthLinkChange_of_changed (sig := sig) (sync := sync) (v := v) hp hm h0 w hon (by simp [hc, hl])
    · simpa only [hc, Option.isNone_some] using
        execEthLinkChange_of_changed (sig := sig) (sync := sync) (v := v) hp hm h0 w hon (by simp [hc, hl])
  case cause =>
    intro s p sync v
    exact ⟨rfl, rfl, fun h => by simp [State.linkCause, h], fun h => by simp [State.linkCause, h]⟩
  case bad =>
    intro s p f w hon hp hu
    have up : ¬ ¬ (p < 2 ∧ s.linkUp p = true) := not_not.2 ⟨hp, hu⟩
    exact ⟨_, rfl, fun h => (State.whenVamp_on _ hon).trans ((if_neg up).trans (if_pos h)),
      fun h long => (State.whenVamp_on _ hon).trans ((if_neg up).trans ((if_neg (not_not.2 h)).trans (if_pos long)))⟩
  case good =>
    intro s f hon hu h60 h1536 ha tagged pause ptp trailer own
    obtain ⟨u, t, x, next, stands, done, left, rest⟩ :=
      execEthFrameReceive_of_good hon hu h60 h1536 ha tagged pause ptp trailer own
    obtain ⟨frame, rct, isPtp, vlan, mono, plant⟩ := rest
    exact ⟨t, x, next, stands.done.trans done, frame, rct, isPtp, vlan, mono, plant, stands.own.trans left⟩
  case down =>
    intro s p f w hl
    exact whenVamp_eq_self fun _ => if_pos (by simp [hl])
  case sent =>
    intro s p ts f w un hon _
    exact execEthTxComplete_single p ts un f w hon
  case supervision =>
    intro s hon
    exact ⟨_, State.whenVamp_on _ hon⟩
  case aged =>
    intro s hon
    exact ⟨_, State.whenVamp_on _ hon, rfl⟩
  case path =>
    intro s p
    exact ⟨fun hon hp hu hl => (State.whenVamp_on _ hon).trans (if_pos ⟨hp, hu, hl⟩),
      fun hl => whenVamp_eq_self fun _ => if_neg (by simp [hl])⟩
  case capture =>
    intro s hon
    exact State.whenVamp_on _ hon
  case alarm =>
    intro s k past hon hk hb
    constructor <;> intro h <;>
      simp only [exec, execTimAlarmFire, State.whenVamp_on _ hon, hk, hb, h, and_self, if_true]
  case quiet =>
    intro s k h
    exact whenVamp_eq_self fun _ => if_neg (by simp [h])
  case second =>
    intro s hon
    refine ⟨_, rfl, fun h => (State.whenVamp_on _ hon).trans ?_, fun h hv => (State.whenVamp_on _ hon).trans ?_⟩
    · simp only [h, Bool.false_and, Bool.false_eq_true, if_false]
    · simp only [h, hv, Bool.true_and, Bool.true_or, if_true]
  case pulse =>
    intro s hon
    exact State.whenVamp_on _ hon
  case sync =>
    intro s p d o r c
    refine ⟨fun h => whenVamp_eq_self fun _ => if_neg ?_, fun hon hd hp ha hs => ⟨_, rfl, (State.whenVamp_on _ hon).trans
      (if_pos ⟨hd, hp, ha, hs.imp_right fun e => by simp [e]⟩)⟩⟩
    rintro ⟨hd, -, ha, -⟩
    exact h.elim (· hd) (fun e => by simp [e] at ha)
  case announce =>
    intro s p d a
    refine ⟨fun h => whenVamp_eq_self fun _ => if_neg fun g => h g.1, fun hon hd hB hg hc => ?_⟩
    have best := State.selectMaster_of_only (s := { s with tim := { s.tim with announceA := some a } }) rfl hB hg hc
    exact ⟨_, (State.whenVamp_on _ hon).trans (if_pos ⟨hd, by decide⟩), best⟩
  case request =>
    intro s hon
    exact ⟨_, State.whenVamp_on _ hon, rfl, rfl, rfl, rfl⟩
  case response =>
    intro s p q b hon
    exact ⟨_, _, _, rfl, State.whenVamp_on _ hon⟩
  case delay =>
    intro s q t2 t3 t4 c hon hq
    refine ⟨_, (State.whenVamp_on _ hon).trans (if_pos ⟨by decide, hq.symm⟩), ?_⟩
    dsimp only
    split <;> rfl
  case announceLost =>
    intro s p hon
    refine ⟨_, rfl, fun h => ?_, fun h0 h1 => ?_⟩
    · rw [execPtpAnnounceTimeout_eq hon rfl, if_pos (by simpa using h)]
    · rw [execPtpAnnounceTimeout_eq hon rfl, if_neg (by simp [h0, h1])]
  case syncLost =>
    intro s hon
    exact State.whenVamp_on _ hon
  case noHold =>
    intro s h
    exact ⟨whenVamp_eq_self fun _ => if_neg fun g => h g.1, whenVamp_eq_self fun _ => if_neg fun g => h g.1⟩
  case bound =>
    intro s hon h3 hv
    exact ⟨_, _, rfl, rfl, (State.whenVamp_on _ hon).trans (if_pos ⟨h3, hv⟩)⟩
  case temp =>
    intro s ⟨w, _⟩ hon h3 hd
    refine ⟨_, (State.whenVamp_on _ hon).trans (if_pos ⟨h3, by simp [hd]⟩), (State.strobe_bit _ _ _ (by decide) (by decide)).trans
      (State.bit_setBit _ w (by decide)), State.strobe_pend _ _ (by decide) (State.setBit_wf w), ?_, ?_⟩
    · rw [State.strobeHoldover, State.strobe_tim _ _ (by decide)]
      rfl
    · rw [State.strobeHoldover, State.strobe_tim _ _ (by decide)]
      rfl
  case noModel =>
    intro s h
    exact whenVamp_eq_self fun _ => if_neg h
  case model =>
    intro s ⟨w, _⟩ hon h2
    have regs := State.insoleStart_regs s .config
    refine ⟨_, (State.whenVamp_on _ hon).trans (if_pos h2), rfl, ?_, ?_⟩
    · exact congrArg (· + 2) (State.insoleStart_eventful s .config).free
    · refine (State.fld_incFld (State.incFld_wf (regs.symm ▸ w)) (by decide) (by decide)).trans
        (congrArg (fun n => min 0xFFFF (n + 1)) ?_)
      refine (State.fld_incFld_other _ _ _ _ (by decide)).trans ?_
      exact congrArg (fun r : List (Nat × Word) => getBits (Sparse.get regReset r Reg.TIM_MODEL) 15 0) regs
  case holdoff =>
    intro s hon
    refine ⟨fun h => ?_, fun h => ?_, fun h => ?_, fun h => ?_⟩ <;>
      simp only [exec, execEthEventHoldoffEnd, State.whenVamp_on _ hon, h, if_true, if_false]
  case tether =>
    intro s p up ⟨w, _⟩ hp
    refine ⟨fun h => whenVamp_eq_self fun _ => if_neg (by simp [h]), fun h =>
      ⟨_, (State.whenVamp_on _ (State.chainOn_vampOn h)).trans (if_pos (by simp [hp, h])), State.bit_setBit up w (by decide)⟩⟩

end Sys2Proof.Machine

/-! PROOFS. The CAN controllers (O59). -/

namespace Sys2Proof.Machine

/-- Reset, but controller 0 has two records, both asleep: registers and GSRAM are in canonical form, the list of the
controllers' records is not. -/
def twiceAsleep : State := { State.reset with can := [(0, { sleeping := true }), (0, { sleeping := true })] }

/-- The first record, once awake, is the default one and is dropped; the second then stands in its place. -/
theorem wakeTwiceAsleep_sleeping {t : State} (h : exec (.canWakeReq 0) twiceAsleep = .next t) :
    (t.canCtl 0).sleeping = true := by
  have woken : exec (.canWakeReq 0) twiceAsleep = .next (twiceAsleep.canWake 0 0) := State.whenVamp_on (s := twiceAsleep) _ (by decide)
  have left : t = twiceAsleep.canWake 0 0 := Host.Outcome.next.inj (h.symm.trans woken)
  have records : t.can = [(0, { sleeping := true })] := by
    rw [left, State.canWake, if_pos (by decide), State.canStatus, State.strobe_can _ _ (by decide)]
    rfl
  rw [State.canCtl, records]
  rfl

/-- Refutes O59: its clause on canWakeReq asks for a state in canonical form in registers and GSRAM only, so that the
controllers' records may hold one controller twice; woken, such a controller still sleeps. -/
theorem not_canCommands : ¬ Obligations.CanCommands := by
  unfold Obligations.CanCommands
  rintro ⟨-, -, -, -, -, -, -, -, -, -, -, -, -, -, -, -, wake, -⟩
  obtain ⟨t, next, awake, -⟩ := wake twiceAsleep 0 canonicalFormHoldsAtReset (by decide) (by decide) rfl
  rw [wakeTwiceAsleep_sleeping next] at awake
  exact absurd awake (by decide)

end Sys2Proof.Machine

/-! PROOFS. Recorder, image sessions and redundancy (O60). -/

namespace Sys2Proof.Machine

/-- Reset, but two records count the tokens that cause 0 has spent: 1, and beneath it 5. The list of these counts is not
in canonical form. -/
def twiceSpent : State := { State.reset with recorder := { spent := [(0, 1), (0, 5)] } }

/-- The first record, once counted down to 0, is dropped; the second then stands in its place. -/
theorem refillTwiceSpent_spent {t : State} (h : exec (.recorderTokenRefill 0) twiceSpent = .next t) :
    tget 0 t.recorder.spent 0 = 5 := by
  have refilled : exec (.recorderTokenRefill 0) twiceSpent = .next { twiceSpent with recorder := { spent := [(0, 5)] } } :=
    (State.whenVamp_on (s := twiceSpent) _ (by decide)).trans rfl
  rw [Host.Outcome.next.inj (h.symm.trans refilled)]
  rfl

/-- Refutes O60: its clause on recorderTokenRefill asks for a state of any form, so that the counts of spent tokens may
hold one cause twice; with 1 counted down, the cause reads 5 and not 0. -/
theorem not_storageAndRedundancy : ¬ Obligations.StorageAndRedundancy := by
  unfold Obligations.StorageAndRedundancy
  rintro ⟨refill, -⟩
  obtain ⟨t, next, -, spent⟩ := refill twiceSpent 0 (by decide) (by decide)
  rw [refillTwiceSpent_spent next] at spent
  exact absurd spent (by decide)

end Sys2Proof.Machine
